-- ==== Sys2Proof/Word.lean ====
section
/-! DEFINITION. The words the VJ1616 works on (R1, R3, R4) and their plainest readings. -/

namespace Sys2Proof

/-- A register word (R1). -/
abbrev Word := BitVec 32
/-- A byte of the Silo or of a local memory (R2). -/
abbrev Byte := BitVec 8
/-- A TS64 value in ns (R6, R97). -/
abbrev Ts64 := BitVec 64

/-- A Bool as a number, 0 or 1. -/
def b2n (b : Bool) : Nat := if b then 1 else 0

end Sys2Proof
end

