-- ==== Sys2Proof/Syntax.lean ====
section
/-! DEFINITION. The commands the VJ1616 takes: one constructor for each row of the table of operations and
events (95_what_each_step_holds.md), with its operands, and the shapes of the messages they carry. -/

namespace Sys2Proof

/-- A beam, 0 to 15 (R190). -/
abbrev Beam := Fin 16
/-- An engine: 0-15 beam engines, 16-19 field cores, 20 the supervisor pair (R181). -/
abbrev Eng := Fin 21
/-- A field of an instruction word that names a general register (R148). -/
abbrev GReg := Fin 32
/-- A session, 0-7 of the network ports and relays, 8 of the local bus (R501). -/
abbrev Sess := Fin 9
/-- A timed-edge cell (R17). -/
abbrev Cell := Fin 96
/-- A ring (R85). -/
abbrev Ring := Fin 52
/-- An axis (R379). -/
abbrev Axis := Fin 8
/-- A serial lane (R416). -/
abbrev Lane := Fin 32
/-- A FarmLink node (R458). -/
abbrev Node := Fin 64
/-- A time domain, 0 = A and 1 = B (R137). -/
abbrev Dom := Fin 2
/-- A peer of the arbiter (R307). -/
abbrev Peer := Fin 8
/-- A FarmLink port (R420). -/
abbrev FPort := Fin 8
/-- An Ethernet port (R490). -/
abbrev EPort := Fin 2
/-- An XK channel (R619). -/
abbrev Chan := Fin 4
/-- Who reads or writes a register: an engine, or a host session (R7, R8, R99). -/
inductive Reader
  | engine (e : Eng)
  | session (n : Sess)
  deriving DecidableEq, Repr
/-- A producer of output events (R18). -/
inductive Producer
  | beam (b : Beam)
  | axis (a : Axis)
  | engine (e : Eng)
  | xk (h : Chan)
  deriving DecidableEq, Repr
/-- The immediate of an I-format instruction: its imm16, or the literal of its X form (R149). -/
inductive Imm
  | imm (i : BitVec 16)
  | lit (l : BitVec 32)
  deriving DecidableEq, Repr
/-- A shift amount: from g[b] (opcode 0x01) or the b field itself (opcode 0x09) (R157). -/
inductive ShAmt
  | reg (b : GReg)
  | imm (b : Fin 32)
  deriving DecidableEq, Repr
/-- The bed-map geometry registers of R56. -/
inductive BedReg
  | originX | originY | geom | pitch | halfLife | eLsb
  deriving DecidableEq, Repr
/-- A received PTP message (R123), with the fields the device uses. -/
structure PtpMsg where
  domainNum : BitVec 7
  seqId : BitVec 16
  source : BitVec 80
  /-- the stamp of its reception at the PMA boundary, an ET value (R119) -/
  rx : BitVec 64
  /-- the timestamp the message carries (preciseOrigin, receive time): seconds and ns (R97) -/
  sec : BitVec 48
  nsec : BitVec 32
  /-- correctionField, in 2^-16 ns -/
  corr : Int
  logInterval : BitVec 8
  twoStep : Bool
  version : Nat
  minor : BitVec 4
  deriving DecidableEq, Repr
/-- The timestamp a PTP message carries, in ns (R97). -/
def PtpMsg.carried (m : PtpMsg) : Int := m.sec.toNat * 1000000000 + m.nsec.toNat
/-- The Announce data set of a foreign master (R125). -/
structure PtpAnnounce where
  domainNum : BitVec 7
  seqId : BitVec 16
  source : BitVec 80
  gmIdentity : BitVec 64
  gmClass : BitVec 8
  gmAccuracy : BitVec 8
  gmVariance : BitVec 16
  prio1 : BitVec 8
  prio2 : BitVec 8
  steps : BitVec 16
  logInterval : BitVec 8
  version : Nat
  minor : BitVec 4
  deriving DecidableEq, Repr
/-- A FarmLink time payload (R129), as its fields. -/
structure FlTime where
  hops : BitVec 8
  root : Node
  flags : BitVec 8
  keyGen : BitVec 32
  seq : BitVec 32
  origin : BitVec 64
  corr : BitVec 64
  deriving DecidableEq, Repr
/-- A head's position payload (R245), as its fields. -/
structure PosPayload where
  mx : BitVec 24
  my : BitVec 24
  pd0a : BitVec 16
  pd0b : BitVec 16
  pd1a : BitVec 16
  pd1b : BitVec 16
  status : BitVec 8
  temp : BitVec 8
  spEcho : BitVec 32
  deriving DecidableEq, Repr
/-- A cross-device lease request as a peer sends it (R291). -/
structure PeerReq where
  beam : BitVec 8
  r : BitVec 8
  prio : Fin 8
  cls : Fin 4
  reqId : BitVec 32
  xmin : BitVec 32
  ymin : BitVec 32
  xmax : BitVec 32
  ymax : BitVec 32
  deriving DecidableEq, Repr
/-- A camera stream (R343). -/
abbrev Stream := Fin 20
/-- A FRAME_START payload (R346). -/
structure CamFrame where
  frameNo : BitVec 32
  gen : BitVec 8
  genRx : BitVec 8
  format : BitVec 8
  roiX : BitVec 16
  roiY : BitVec 16
  width : BitVec 16
  height : BitVec 16
  exposure : BitVec 32
  expAgo : BitVec 32
  deriving DecidableEq, Repr
/-- What a TS1 or TS2 ordered set carries (R428): `two` is TS2. -/
structure TsMsg where
  two : Bool
  role : BitVec 8
  caps : BitVec 8
  headLat : BitVec 16
  credit : Vector (BitVec 8) 4
  nonce : BitVec 32
  version : BitVec 8
  deriving DecidableEq, Repr
/-- A link-layer frame (R440), its LEN that of its payload. -/
structure LinkFrame where
  type : BitVec 8
  seq : BitVec 12
  rel : Bool
  vc : Fin 4
  payload : List (BitVec 8)
  deriving DecidableEq, Repr
/-- An adjacency as an LSA lists it (R471). -/
structure Adjacency where
  node : Node
  port : FPort
  there : FPort
  rate : BitVec 8
  deriving DecidableEq, Repr
/-- A link-state message (R464, R471). -/
structure Lsa where
  origin : Node
  uid : BitVec 64
  version : BitVec 48
  adj : List Adjacency
  deriving DecidableEq, Repr
/-- The state of an axis as a RENEW publishes it (R471). -/
structure AxPub where
  pos : BitVec 32
  res : BitVec 8
  flags : BitVec 8
  deriving DecidableEq, Repr
/-- A received RENEW (R471): its sender, generation, T_SEND and body. -/
structure Renew where
  node : Node
  gen : BitVec 32
  tSend : BitVec 64
  layer : BitVec 8
  tB : BitVec 64
  axes : Vector AxPub 8
  deriving DecidableEq, Repr
/-- An octet on a network or a bus (R1). -/
abbrev Octet := BitVec 8

/-- Octets as the receiver of a lane decodes them; `code`: a code error stands among them (R422). -/
structure Coded where
  octets : List Octet
  code : Bool
  deriving DecidableEq, Repr

/-- A time payload of a FarmLink port, and the stamp of its arrival (R119, R129). -/
structure Stamped where
  payload : List Octet
  arrival : BitVec 64
  deriving DecidableEq, Repr

/-- A message of the fabric manager and the node that sent it (R471). -/
structure Told where
  node : Node
  octets : List Octet
  deriving DecidableEq, Repr
/-- Where a VMP message comes from, and where its answers go (R493, R501, R516): Ethernet port 0 or 1, the local bus (2), or a
relay (3) with the origin node and its port; the host's addresses. -/
structure VmpFrom where
  port : Fin 4
  node : Node
  origin : Octet
  ip : BitVec 32
  udp : BitVec 16
  mac : BitVec 48
  deriving DecidableEq, Repr
/-- A VMP message (R496, R503): its header, the octets of its body, and its tag. -/
structure VmpMsg where
  type : Octet
  flags : Octet
  session : Octet
  ring : Octet
  status : Octet
  seq : BitVec 32
  xid : BitVec 32
  len : BitVec 16
  relay : BitVec 16
  body : List Octet
  tag : List Octet
  deriving DecidableEq, Repr
/-- What a housekeeping round converted (R564, R574): temperatures in 1/8 °C, none where a conversion did not complete, the
tripped comparators, the analogue inputs, the supplies in mV, the currents of the lighting channels, the sink voltages of
L8 to L11 in mV. -/
structure HkRound where
  ts : Vector (Option (BitVec 16)) 24
  trip : BitVec 24
  ain : Vector (Option (BitVec 12)) 8
  sup : Vector (BitVec 16) 16
  cur : Vector (BitVec 16) 12
  volt : Vector (BitVec 16) 4
  deriving DecidableEq, Repr
/-- A display output (R590). -/
abbrev DOut := Fin 2
/-- An XK axis, 0 = AX2 and 1 = AX3 (R611). -/
abbrev XAxis := Fin 2

/-- The commands, in the order of the table; each docstring names the row and the rule it stands under. A message of the fabric manager
stands in its row as the octets of R471 from the first, with the port or the node it came from. -/
inductive Instr
  /-- REGISTER_WRITE (R7) -/
  | registerWrite (who : Reader) (addr v : BitVec 32)
  /-- PRODUCER_STALL_RELEASE (R19) -/
  | producerStallRelease (p : Producer)
  /-- QUEUE_ROOM_RESUME (R20) -/
  | queueRoomResume (p : Producer)
  /-- CELL_QUEUE_ENTRY (R22) -/
  | cellQueueEntry (c : Cell)
  /-- EDGE_RELEASE (R109) -/
  | edgeRelease (c : Cell)
  /-- INPUT_EDGE_CAPTURE (R114) -/
  | inputEdgeCapture (c : Cell) (level : Bool) (frac : Fin 8)
  /-- POWER_IDLE_TIMEOUT (R40) -/
  | powerIdleTimeout (d : Fin 44)
  /-- DOMAIN_WAKE_DONE (R41) -/
  | domainWakeDone (d : Fin 44)
  /-- SYS_PWR_POLICY_WRITE (R45) -/
  | sysPwrPolicyWrite (who : Reader) (d : Fin 44) (v : BitVec 32)
  /-- BEDMAP_CONFIG_WRITE (R56) -/
  | bedmapConfigWrite (who : Reader) (r : BedReg) (v : BitVec 32)
  /-- BEDMAP_CLEAR_DONE (R56) -/
  | bedmapClearDone 
  /-- EXPOSURE_UPDATE (R208) -/
  | exposureUpdate (b : Beam)
  /-- LAYER_TIME_SATURATE (R65) -/
  | layerTimeSaturate 
  /-- RING_TAIL_WRITE (R78) -/
  | ringTailWrite (who : Reader) (r : Ring) (v : BitVec 32)
  /-- DISPATCH_CLAIM (R190) -/
  | dispatchClaim (b : Beam)
  /-- SWATH_DONE (R74) -/
  | swathDone (b : Beam)
  /-- LEASE_RELEASE_EFFECT (R24) -/
  | leaseReleaseEffect (b : Beam)
  /-- SCHEDULE (R87) -/
  | schedule 
  /-- ARMING_DONE (R89) -/
  | armingDone 
  /-- LAYER_BEGIN (R86) -/
  | layerBegin 
  /-- LAYER_LOCAL_END (R86) -/
  | layerLocalEnd 
  /-- CLOSE (R87) -/
  | close 
  /-- ABORT (R90) -/
  | abort 
  /-- ABORT_COMPLETE (R86) -/
  | abortComplete 
  /-- RECOAT_DONE (R87) -/
  | recoatDone 
  /-- WAIVE (R87) -/
  | waive (arg : BitVec 22)
  /-- CANCEL (R87) -/
  | cancel (arg : BitVec 22)
  /-- TS32_WRAP (R100) -/
  | ts32Wrap 
  /-- EXT_WRITE (R100) -/
  | extWrite (v : BitVec 32)
  /-- EXT_LOST (R101) -/
  | extLost 
  /-- PLL_LOCK (R94) -/
  | pllLock 
  /-- REFCLK_LOSS (R95) -/
  | refclkLoss 
  /-- LOCK_RESTORED (R95) -/
  | lockRestored 
  /-- TIME_NOW_LO_READ (R99) -/
  | timeNowLoRead (who : Reader)
  /-- TIME_DOM_CFG_WRITE (R137) -/
  | timeDomCfgWrite (who : Reader) (d : Dom) (v : BitVec 32)
  /-- TIME_DOM_OFS_LO_READ (R137) -/
  | timeDomOfsLoRead (who : Reader) (d : Dom)
  /-- TIME_GCELL_CFG_WRITE (R116) -/
  | timeGcellCfgWrite (who : Reader) (n : Fin 16) (v : BitVec 32)
  /-- TIME_GCELL_CAP_HI_READ (R117) -/
  | timeGcellCapHiRead (who : Reader) (n : Fin 16)
  /-- TIME_STEP_REQUEST (R136) -/
  | timeStepRequest (who : Reader)
  /-- TS64_STEP (R133) -/
  | ts64Step 
  /-- PTP_SYNC_RECEIVE (R123) -/
  | ptpSyncReceive (p : EPort) (m : PtpMsg)
  /-- PTP_FOLLOW_UP_RECEIVE (R123) -/
  | ptpFollowUpReceive (p : EPort) (m : PtpMsg)
  /-- PTP_ANNOUNCE_RECEIVE (R125) -/
  | ptpAnnounceReceive (p : EPort) (m : PtpAnnounce)
  /-- PTP_DELAY_REQ_RECEIVE (R125) -/
  | ptpDelayReqReceive (p : EPort) (m : PtpMsg)
  /-- PTP_DELAY_RESP_RECEIVE (R125) -/
  | ptpDelayRespReceive (p : EPort) (m : PtpMsg) (reqPort : BitVec 80)
  /-- PTP_SYNC_SEND (R125) -/
  | ptpSyncSend (d : Dom)
  /-- PTP_ANNOUNCE_SEND (R125) -/
  | ptpAnnounceSend (d : Dom)
  /-- PTP_DELAY_REQ_SEND (R125) -/
  | ptpDelayReqSend (d : Dom)
  /-- FL_SYNC_SEND (R127) -/
  | flSyncSend 
  /-- FL_SYNC_RECEIVE (R130) -/
  | flSyncReceive (port : FPort) (m : Stamped)
  /-- FL_DELAY_REQ_SEND (R128) -/
  | flDelayReqSend (port : FPort)
  /-- FL_DELAY_REQ_RECEIVE (R128) -/
  | flDelayReqReceive (port : FPort) (m : Stamped)
  /-- FL_DELAY_RESP_RECEIVE (R128) -/
  | flDelayRespReceive (port : FPort) (m : Stamped)
  /-- DOMAIN_LOSS (R131) -/
  | domainLoss (d : Dom)
  /-- DOMAIN_REVERT (R132) -/
  | domainRevert 
  /-- ADD (R155) -/
  | add (e : Eng) (d a b : GReg) (S : Bool)
  /-- SUB (R155) -/
  | sub (e : Eng) (d a b : GReg) (S : Bool)
  /-- AND (R155) -/
  | and (e : Eng) (d a b : GReg) (S : Bool)
  /-- OR (R155) -/
  | or (e : Eng) (d a b : GReg) (S : Bool)
  /-- XOR (R155) -/
  | xor (e : Eng) (d a b : GReg) (S : Bool)
  /-- SLT (R155) -/
  | slt (e : Eng) (d a b : GReg) (S : Bool)
  /-- SLTU (R155) -/
  | sltu (e : Eng) (d a b : GReg) (S : Bool)
  /-- MIN (R155) -/
  | min (e : Eng) (d a b : GReg) (S : Bool)
  /-- MAX (R155) -/
  | max (e : Eng) (d a b : GReg) (S : Bool)
  /-- MINU (R155) -/
  | minu (e : Eng) (d a b : GReg) (S : Bool)
  /-- MAXU (R155) -/
  | maxu (e : Eng) (d a b : GReg) (S : Bool)
  /-- ADDC (R155) -/
  | addc (e : Eng) (d a b : GReg) (S : Bool)
  /-- SUBB (R155) -/
  | subb (e : Eng) (d a b : GReg) (S : Bool)
  /-- MUL (R155) -/
  | mul (e : Eng) (d a b : GReg) (S : Bool)
  /-- MULH (R155) -/
  | mulh (e : Eng) (d a b : GReg) (S : Bool)
  /-- MULHU (R155) -/
  | mulhu (e : Eng) (d a b : GReg) (S : Bool)
  /-- DIV (R156) -/
  | div (e : Eng) (d a b : GReg) (S : Bool)
  /-- DIVU (R156) -/
  | divu (e : Eng) (d a b : GReg) (S : Bool)
  /-- REM (R156) -/
  | rem (e : Eng) (d a b : GReg) (S : Bool)
  /-- REMU (R156) -/
  | remu (e : Eng) (d a b : GReg) (S : Bool)
  /-- SLL (R157) -/
  | sll (e : Eng) (d a : GReg) (amt : ShAmt) (S : Bool)
  /-- SRL (R157) -/
  | srl (e : Eng) (d a : GReg) (amt : ShAmt) (S : Bool)
  /-- SRA (R157) -/
  | sra (e : Eng) (d a : GReg) (amt : ShAmt) (S : Bool)
  /-- ROR (R157) -/
  | ror (e : Eng) (d a : GReg) (amt : ShAmt) (S : Bool)
  /-- ADDI (R158) -/
  | addi (e : Eng) (d a : GReg) (i : Imm)
  /-- ANDI (R158) -/
  | andi (e : Eng) (d a : GReg) (i : Imm)
  /-- ORI (R158) -/
  | ori (e : Eng) (d a : GReg) (i : Imm)
  /-- XORI (R158) -/
  | xori (e : Eng) (d a : GReg) (i : Imm)
  /-- LUI (R158) -/
  | lui (e : Eng) (d a : GReg) (i : Imm)
  /-- SLTI (R158) -/
  | slti (e : Eng) (d a : GReg) (i : Imm)
  /-- SLTIU (R158) -/
  | sltiu (e : Eng) (d a : GReg) (i : Imm)
  /-- CMPI (R158) -/
  | cmpi (e : Eng) (d a : GReg) (i : Imm)
  /-- TSTI (R158) -/
  | tsti (e : Eng) (d a : GReg) (i : Imm)
  /-- MACQ (R161) -/
  | macq (e : Eng) (d a b : GReg)
  /-- MSUQ (R161) -/
  | msuq (e : Eng) (d a b : GReg)
  /-- MULQA (R161) -/
  | mulqa (e : Eng) (d a b : GReg)
  /-- CLRA (R161) -/
  | clra (e : Eng) (d a b : GReg)
  /-- RNDQ (R160) -/
  | rndq (e : Eng) (d a b : GReg)
  /-- ADDQ (R161) -/
  | addq (e : Eng) (d a b : GReg)
  /-- SUBQ (R161) -/
  | subq (e : Eng) (d a b : GReg)
  /-- MULQ (R161) -/
  | mulq (e : Eng) (d a b : GReg)
  /-- ADDA (R161) -/
  | adda (e : Eng) (d a b : GReg)
  /-- ASHA (R161) -/
  | asha (e : Eng) (d a b : GReg)
  /-- RDAL (R162) -/
  | rdal (e : Eng) (d a b : GReg)
  /-- RDAH (R162) -/
  | rdah (e : Eng) (d a b : GReg)
  /-- WRA (R162) -/
  | wra (e : Eng) (d a b : GReg)
  /-- MOVQA (R162) -/
  | movqa (e : Eng) (d a b : GReg)
  /-- LW (R163) -/
  | lw (e : Eng) (d a : GReg) (i : Imm)
  /-- LH (R163) -/
  | lh (e : Eng) (d a : GReg) (i : Imm)
  /-- LHU (R163) -/
  | lhu (e : Eng) (d a : GReg) (i : Imm)
  /-- LB (R163) -/
  | lb (e : Eng) (d a : GReg) (i : Imm)
  /-- LBU (R163) -/
  | lbu (e : Eng) (d a : GReg) (i : Imm)
  /-- SW (R163) -/
  | sw (e : Eng) (d a : GReg) (i : Imm)
  /-- SH (R163) -/
  | sh (e : Eng) (d a : GReg) (i : Imm)
  /-- SB (R163) -/
  | sb (e : Eng) (d a : GReg) (i : Imm)
  /-- LD (R163) -/
  | ld (e : Eng) (d a : GReg) (i : Imm)
  /-- SD (R163) -/
  | sd (e : Eng) (d a : GReg) (i : Imm)
  /-- ATOM_SWAP (R165) -/
  | atomSwap (e : Eng) (d a b : GReg)
  /-- ATOM_ADD (R165) -/
  | atomAdd (e : Eng) (d a b : GReg)
  /-- ATOM_CAS (R165) -/
  | atomCas (e : Eng) (d a b : GReg)
  /-- ATOM_OR (R165) -/
  | atomOr (e : Eng) (d a b : GReg)
  /-- ATOM_AND (R165) -/
  | atomAnd (e : Eng) (d a b : GReg)
  /-- FENCE (R166) -/
  | fence (e : Eng)
  /-- B (R167) -/
  | b (e : Eng) (cond : Fin 16) (ofs : BitVec 22)
  /-- CALL (R167) -/
  | call (e : Eng) (cond : Fin 16) (ofs : BitVec 22)
  /-- JR (R168) -/
  | jr (e : Eng) (a : GReg)
  /-- JALR (R168) -/
  | jalr (e : Eng) (d a : GReg)
  /-- ERET (R183) -/
  | eret (e : Eng) (d a b : GReg) (fn : BitVec 11)
  /-- MFS (R169) -/
  | mfs (e : Eng) (d a b : GReg) (fn : BitVec 11)
  /-- MTS (R169) -/
  | mts (e : Eng) (d a b : GReg) (fn : BitVec 11)
  /-- WAITT (R170) -/
  | waitt (e : Eng) (d a b : GReg)
  /-- WAITR (R170) -/
  | waitr (e : Eng) (d a b : GReg)
  /-- WAIT_RESUME (R170) -/
  | waitResume (e : Eng)
  /-- SCHED (R172) -/
  | sched (e : Eng) (d a b : GReg) (fn : BitVec 11)
  /-- RPUT (R173) -/
  | rput (e : Eng) (d a b : GReg)
  /-- RGET (R173) -/
  | rget (e : Eng) (d a b : GReg)
  /-- RCOUNT (R173) -/
  | rcount (e : Eng) (d a b : GReg)
  /-- EVSIG (R175) -/
  | evsig (e : Eng) (d a b : GReg) (fn : BitVec 8)
  /-- WAITE (R175) -/
  | waite (e : Eng) (d a b : GReg) (fn : BitVec 8)
  /-- EVPOLL (R175) -/
  | evpoll (e : Eng) (d a b : GReg) (fn : BitVec 8)
  /-- BMRD (R176) -/
  | bmrd (e : Eng) (d a b : GReg)
  /-- BMSETE (R176) -/
  | bmsete (e : Eng) (d a b : GReg)
  /-- BMWT (R176) -/
  | bmwt (e : Eng) (d a b : GReg)
  /-- BMFLAG (R176) -/
  | bmflag (e : Eng) (d a b : GReg)
  /-- BMIDX (R176) -/
  | bmidx (e : Eng) (d a b : GReg)
  /-- HALT (R179) -/
  | halt (e : Eng) (d a b : GReg)
  /-- WDOG (R179) -/
  | wdog (e : Eng) (d a b : GReg)
  /-- WATCHDOG_EXPIRY (R186) -/
  | watchdogExpiry (e : Eng)
  /-- PENDING_EXCEPTION_TAKEN (R184) -/
  | pendingExceptionTaken (e : Eng)
  /-- ENGINE_RUN (R144) -/
  | engineRun (who : Reader) (e : Fin 20)
  /-- ENGINE_STOP (R187) -/
  | engineStop (who : Reader) (e : Fin 20)
  /-- ENGINE_RESET (R187) -/
  | engineReset (who : Reader) (e : Fin 20)
  /-- SYS_ENG_WDOG_WRITE (R188) -/
  | sysEngWdogWrite (who : Reader) (e : Fin 20) (v : BitVec 32)
  /-- MARK (R202) -/
  | mark (e : Eng) (d a b : GReg) (fn : BitVec 11)
  /-- JUMP (R202) -/
  | jump (e : Eng) (d a b : GReg) (fn : BitVec 11)
  /-- ARC (R203) -/
  | arc (e : Eng) (d a b : GReg) (fn : BitVec 11)
  /-- SPEED (R197) -/
  | speed (e : Eng) (d a : GReg) (i : Imm)
  /-- POWER (R197) -/
  | power (e : Eng) (d a : GReg) (i : Imm)
  /-- DELAY (R197) -/
  | delay (e : Eng) (d a : GReg) (i : Imm)
  /-- FLY (R197) -/
  | fly (e : Eng) (d a : GReg) (i : Imm)
  /-- PULSE (R197) -/
  | pulse (e : Eng) (d a : GReg) (i : Imm)
  /-- LOOPSEL (R197) -/
  | loopsel (e : Eng) (d a b : GReg) (fn : BitVec 11)
  /-- LEASE (R205) -/
  | lease (e : Eng) (d a b : GReg) (fn : BitVec 11)
  /-- LEASE_RETRY (R274) -/
  | leaseRetry (b : Beam)
  /-- RELEASE (R206) -/
  | release (e : Eng) (d a b : GReg) (fn : BitVec 11)
  /-- SYNC (R209) -/
  | sync (e : Eng) (d a b : GReg) (fn : BitVec 11)
  /-- BARRIER_WITHDRAW (R210) -/
  | barrierWithdraw (b : Beam)
  /-- TSTAMP (R211) -/
  | tstamp (e : Eng) (d a b : GReg) (fn : BitVec 11)
  /-- SWEND (R192) -/
  | swend (e : Eng) (d a b : GReg) (fn : BitVec 11)
  /-- SAFE (R213) -/
  | safe (e : Eng) (d a : GReg) (k : BitVec 16)
  /-- SAFE_COMMIT (R213) -/
  | safeCommit (b : Beam)
  /-- SWATH_RESTART (R218) -/
  | swathRestart (b : Beam)
  /-- SEQUENCE_STARVE (R236) -/
  | sequenceStarve (b : Beam)
  /-- SETPOINT_FRAME (R243) -/
  | setpointFrame (b : Beam)
  /-- POSITION_PAYLOAD (R245) -/
  | positionPayload (b : Beam) (payload : List Octet)
  /-- POSITION_TIMEOUT (R255) -/
  | positionTimeout (b : Beam)
  /-- LPWR_SLOT (R250) -/
  | lpwrSlot (b : Beam)
  /-- LASER_ALARM (R251) -/
  | laserAlarm (b : Beam)
  /-- PERMIT_WITHDRAWN (R252) -/
  | permitWithdrawn (g : Fin 4)
  /-- PERMIT_RESTORED (R252) -/
  | permitRestored (g : Fin 4)
  /-- LASER_RESUME (R252) -/
  | laserResume (who : Reader) (b : Beam)
  /-- BEAM_CORR_BASE_WRITE (R242) -/
  | beamCorrBaseWrite (who : Reader) (b : Beam) (v : BitVec 32)
  /-- ARB_WINDOW_CLOSE (R275) -/
  | arbWindowClose 
  /-- LEASE_EXPIRY (R279) -/
  | leaseExpiry (b : Beam)
  /-- RESERVATION_LAPSE (R276) -/
  | reservationLapse (b : Beam)
  /-- REPLAY_STALL (R286) -/
  | replayStall 
  /-- PEER_REQ_RECEIVE (R288) -/
  | peerReqReceive (node : Node) (m : PeerReq)
  /-- PEER_GRANT_RECEIVE (R287) -/
  | peerGrantReceive (node : Node) (grant : Bool) (reqId : BitVec 32) (reason : BitVec 8)
  /-- PEER_TIMEOUT (R287) -/
  | peerTimeout (b : Beam)
  /-- PEER_CANCEL_RECEIVE (R287) -/
  | peerCancelReceive (node : Node) (reqId : BitVec 32)
  /-- PEER_RENEW_SEND (R289) -/
  | peerRenewSend (b : Beam) (p : Peer)
  /-- PEER_RENEW_RECEIVE (R289) -/
  | peerRenewReceive (node : Node) (reqId : BitVec 32)
  /-- PEER_RENEW_ACK_RECEIVE (R289) -/
  | peerRenewAckReceive (node : Node) (reqId : BitVec 32)
  /-- PEER_RELEASE_RECEIVE (R289) -/
  | peerReleaseReceive (node : Node) (reqId : BitVec 32)
  /-- REMOTE_ENTRY_EXPIRY (R289) -/
  | remoteEntryExpiry (node : Node) (reqId : BitVec 32)
  /-- PEER_ENERGY_RECEIVE (R290) -/
  | peerEnergyReceive (node : Node) (x y d te : BitVec 32)
  /-- PEER_GEOM_RECEIVE (R290) -/
  | peerGeomReceive (node : Node) (ox oy pitch : BitVec 32)
  /-- PEER_LOST (R292) -/
  | peerLost (p : Peer)
  /-- RETIRE_WRITE (R304) -/
  | retireWrite (who : Reader) (v : BitVec 32)
  /-- MOVE_COMPLETE (R294) -/
  | moveComplete 
  /-- RETIRE_CLEAR (R296) -/
  | retireClear (who : Reader) (v : BitVec 32)
  /-- LOOP_SAMPLE (R308) -/
  | loopSample (b : Beam)
  /-- LOOP_OVERRUN (R334) -/
  | loopOverrun (b : Beam)
  /-- RATE_EFF_CHANGE (R309) -/
  | rateEffChange (b : Beam)
  /-- BED_E_READ (R311) -/
  | bedERead (b : Beam)
  /-- LOOP_CONFIG_WRITE (R332) -/
  | loopConfigWrite (who : Reader) (ofs v : BitVec 32)
  /-- CAPTURE_ARM (R328) -/
  | captureArm (who : Reader) (v : BitVec 32)
  /-- CAPTURE_STOP (R339) -/
  | captureStop (who : Reader)
  /-- LOOP_INJ_CFG_WRITE (R327) -/
  | loopInjCfgWrite (who : Reader) (v : BitVec 32)
  /-- LOOP_RESUME (R335) -/
  | loopResume (who : Reader) (b : Beam)
  /-- FRAME_START (R350) -/
  | frameStart (n : Stream) (f : CamFrame) (stamp : BitVec 64)
  /-- LINE (R347) -/
  | line (n : Stream) (frameLo line ofs : BitVec 16) (data : List (BitVec 8))
  /-- FRAME_END (R352) -/
  | frameEnd (n : Stream) (frameNo : BitVec 32) (lines : BitVec 16) (status : BitVec 8)
  /-- CAM_SET_COMMIT (R355) -/
  | camSetCommit (n : Stream) (target : BitVec 32)
  /-- CAM_SET_REPEAT (R355) -/
  | camSetRepeat (n : Stream)
  /-- PROVISIONAL_CHOICE (R369) -/
  | provisionalChoice (p : Fin 4)
  /-- UNIT_COMPLETE (R369) -/
  | unitComplete (p : Fin 4)
  /-- STREAM_ENABLE (R374) -/
  | streamEnable (who : Reader) (n : Stream) (v : BitVec 32)
  /-- STREAM_DISABLE (R371) -/
  | streamDisable (who : Reader) (n : Stream) (v : BitVec 32)
  /-- IMG_CAM_CTX_WRITE (R361) -/
  | imgCamCtxWrite (who : Reader) (n : Stream) (v : BitVec 32)
  /-- MOVE_ABS (R387) -/
  | moveAbs (a : Axis) (arm : Bool)
  /-- MOVE_REL (R387) -/
  | moveRel (a : Axis) (arm : Bool)
  /-- VEL (R387) -/
  | vel (a : Axis) (arm : Bool)
  /-- STOP (R389) -/
  | stop (a : Axis) (arm : Bool)
  /-- STOP_ALL (R387) -/
  | stopAll (a : Axis) (arm : Bool)
  /-- HOME (R407) -/
  | home (a : Axis) (arm : Bool)
  /-- SET_POS (R387) -/
  | setPos (a : Axis) (arm : Bool)
  /-- AX_GO (R392) -/
  | axGo (mask : BitVec 8)
  /-- AX_MAX_SPEED_WRITE (R395) -/
  | axMaxSpeedWrite (a : Axis) (v : BitVec 32)
  /-- AX_ACCEL_WRITE (R396) -/
  | axAccelWrite (a : Axis) (v : BitVec 32)
  /-- MOVE_END (R412) -/
  | moveEnd (a : Axis)
  /-- LIMIT_INPUT (R405) -/
  | limitInput (a : Axis) (positive active : Bool)
  /-- ENCODER_EDGE (R383) -/
  | encoderEdge (e : Fin 2) (va vb vz : Bool)
  /-- ENCODER_CHECK (R408) -/
  | encoderCheck (a : Axis)
  /-- BRIDGE_FRAME (R403) -/
  | bridgeFrame (f : Fin 2)
  /-- HOLD_SCALE_TIMEOUT (R402) -/
  | holdScaleTimeout (f : Fin 2)
  /-- KEY_LOST (R409) -/
  | keyLost 
  /-- QUAD_PLL_LOCK (R418) -/
  | quadPllLock (q : Fin 8) (pllB : Bool)
  /-- LN_CFG_WRITE (R421) -/
  | lnCfgWrite (who : Reader) (n : Lane) (v : BitVec 32)
  /-- SEEK_BURST (R427) -/
  | seekBurst (n : Lane)
  /-- SEEK_TIMEOUT (R426) -/
  | seekTimeout (n : Lane)
  /-- SIGNAL_DETECT (R426) -/
  | signalDetect (n : Lane)
  /-- PARTNER_LOSS (R426) -/
  | partnerLoss (n : Lane)
  /-- TS_RECEIVE (R428): the octets behind K28.1 -/
  | tsReceive (n : Lane) (m : Coded)
  /-- TRAINING_TIMEOUT (R426) -/
  | trainingTimeout (n : Lane)
  /-- CHECK_COMPLETE (R426) -/
  | checkComplete (n : Lane) (h v : BitVec 6)
  /-- RETRAIN (R432) -/
  | retrain (who : Reader) (n : Lane)
  /-- UNRETIRE (R435) -/
  | unretire (who : Reader) (n : Lane)
  /-- CLR_REFUSED (R431) -/
  | clrRefused (who : Reader) (n : Lane)
  /-- LIVE_SCAN_CYCLE (R438) -/
  | liveScanCycle (n : Lane) (h v : BitVec 6)
  /-- EYE_SCAN_START (R439) -/
  | eyeScanStart (who : Reader) (v : BitVec 32)
  /-- EYE_SCAN_DONE (R439) -/
  | eyeScanDone (counts : List (BitVec 32))
  /-- LINK_FRAME_RECEIVE (R441): the octets between SOF and EOF -/
  | linkFrameReceive (n : Lane) (f : Coded)
  /-- ACK_SEND (R444) -/
  | ackSend (n : Lane)
  /-- ACK_NAK_RECEIVE (R444, R445): the two octets behind K28.0, the check, and whether a code error stands among them -/
  | ackNakReceive (n : Lane) (w : BitVec 16) (check : Octet) (code : Bool)
  /-- REPLAY_TIMEOUT (R445) -/
  | replayTimeout (n : Lane)
  /-- CREDIT_RECEIVE (R446): the two octets behind K28.2, the check, and whether a code error stands among them -/
  | creditReceive (n : Lane) (w : BitVec 16) (check : Octet) (code : Bool)
  /-- CREDIT_SEND (R446) -/
  | creditSend (n : Lane)
  /-- FRAME_TRANSMIT (R448) -/
  | frameTransmit (n : Lane)
  /-- AN_COMPLETE (R449) -/
  | anComplete (n : Lane) (lp : BitVec 16)
  /-- SGMII_CONFIG_RECEIVE (R450) -/
  | sgmiiConfigReceive (n : Lane) (w : BitVec 16)
  /-- ETH_SYNC_LOSS (R451) -/
  | ethSyncLoss (n : Lane)
  /-- HELLO_SEND (R463) -/
  | helloSend (port : FPort)
  /-- HELLO_RECEIVE (R463) -/
  | helloReceive (port : FPort) (head body : List Octet)
  /-- LSA_ISSUE (R464) -/
  | lsaIssue 
  /-- LSA_RECEIVE (R464) -/
  | lsaReceive (port : FPort) (x : List Octet)
  /-- LSA_EXPIRY (R464) -/
  | lsaExpiry (node : Node)
  /-- ROUTE_COMPUTE (R465) -/
  | routeCompute 
  /-- ROUTED_FRAME (R461) -/
  | routedFrame (port : FPort) (vc : Fin 4) (hdr : BitVec 64) (msg : List (BitVec 8))
  /-- KEY_RENEW_SEND (R474) -/
  | keyRenewSend 
  /-- KEY_RENEW_RECEIVE (R473) -/
  | keyRenewReceive (m : Told)
  /-- KEY_RENEW_ACK_RECEIVE (R474) -/
  | keyRenewAckReceive (node : Node) (x : List Octet)
  /-- KEY_EXPIRY (R474) -/
  | keyExpiry 
  /-- KEY_RELEASE (R475) -/
  | keyRelease 
  /-- KEY_RELEASE_RECEIVE (R475) -/
  | keyReleaseReceive (node : Node) (x : List Octet)
  /-- ELECTION_START (R476) -/
  | electionStart 
  /-- ELECTION_ROUND_TIMEOUT (R476) -/
  | electionRoundTimeout 
  /-- VOTE_RECEIVE (R477) -/
  | voteReceive (node : Node) (head body : List Octet)
  /-- STALE_RECEIVE (R473) -/
  | staleReceive (node : Node) (x : List Octet)
  /-- HEALTH_SEND (R484) -/
  | healthSend 
  /-- HEALTH_RECEIVE (R476) -/
  | healthReceive (node : Node) (head body : List Octet)
  /-- LAYER_SCHED_SEND (R478) -/
  | layerSchedSend (node : Node)
  /-- LAYER_SCHED_RECEIVE (R478) -/
  | layerSchedReceive (node : Node) (head body : List Octet)
  /-- LAYER_STATE_SEND (R478) -/
  | layerStateSend 
  /-- LAYER_STATE_RECEIVE (R479) -/
  | layerStateReceive (node : Node) (head : List Octet) (tB : BitVec 64) (rest : List Octet)
  /-- LAYER_REPORT_DEADLINE (R479) -/
  | layerReportDeadline 
  /-- LAYER_GO_SEND (R479) -/
  | layerGoSend (node : Node)
  /-- LAYER_GO_RECEIVE (R479) -/
  | layerGoReceive (node : Node) (head body : List Octet)
  /-- LAYER_IDLE_RECEIVE (R479) -/
  | layerIdleReceive (node : Node) (head body : List Octet)
  /-- LAYER_ABORT_RECEIVE (R480) -/
  | layerAbortReceive (node : Node) (head body : List Octet)
  /-- PARTICIPANT_REMOVAL (R481) -/
  | participantRemoval (node : Node)
  /-- WINNOW_CYCLE (R483) -/
  | winnowCycle (fail : BitVec 28)
  /-- FABRIC_ENABLE_WRITE (R475) -/
  | fabricEnableWrite (who : Reader) (v : BitVec 32)
  /-- ETH_FRAME_RECEIVE (R490) -/
  | ethFrameReceive (p : EPort) (frame : List Octet)
  /-- ARP_REQUEST (R494) -/
  | arpRequest (p : EPort) (mac : BitVec 48) (ip target : BitVec 32)
  /-- GRATUITOUS_ARP (R494) -/
  | gratuitousArp (p : EPort)
  /-- ICMP_ECHO (R494) -/
  | icmpEcho (p : EPort) (mac : BitVec 48) (ip : BitVec 32) (ident seq : BitVec 16) (data : List Octet)
  /-- DISCOVER (R498) -/
  | discover (o : VmpFrom) (m : VmpMsg)
  /-- OPEN (R502) -/
  | openReq (o : VmpFrom) (m : VmpMsg)
  /-- AUTH (R502) -/
  | auth (o : VmpFrom) (m : VmpMsg)
  /-- AUTH_TIMEOUT (R502) -/
  | authTimeout (n : Sess)
  /-- VMP_CLOSE (R507) -/
  | vmpClose (o : VmpFrom) (m : VmpMsg)
  /-- KEEPALIVE (R498) -/
  | keepalive (o : VmpFrom) (m : VmpMsg)
  /-- REG_READ (R537) -/
  | regRead (o : VmpFrom) (m : VmpMsg)
  /-- REG_WRITE (R537) -/
  | regWrite (o : VmpFrom) (m : VmpMsg)
  /-- SILO_WRITE (R498) -/
  | siloWrite (o : VmpFrom) (m : VmpMsg)
  /-- SILO_READ (R498) -/
  | siloRead (o : VmpFrom) (m : VmpMsg)
  /-- RING_PUT (R509) -/
  | ringPut (o : VmpFrom) (m : VmpMsg)
  /-- RING_ACK (R510) -/
  | ringAck (o : VmpFrom) (m : VmpMsg)
  /-- RING_DATA_SEND (R510) -/
  | ringDataSend (h : Fin 32)
  /-- RING_RESEND (R510) -/
  | ringResend (h : Fin 32)
  /-- SESSION_TIMEOUT (R507) -/
  | sessionTimeout (n : Sess)
  /-- SESSION_KILL (R507) -/
  | sessionKill (who : Reader) (n : Sess)
  /-- HOST_NET_IP_WRITE (R492) -/
  | hostNetIpWrite (who : Reader) (p : EPort) (mask : Bool) (v : BitVec 32)
  /-- GRANARY_SEAL (R553) -/
  | granarySeal (o : VmpFrom) (m : VmpMsg)
  /-- IMAGE_WRITE (R649) -/
  | imageWrite (o : VmpFrom) (m : VmpMsg)
  /-- WINNOW_FULL (R517) -/
  | winnowFull (o : VmpFrom) (m : VmpMsg)
  /-- SILO_ZEROISE (R648) -/
  | siloZeroise (o : VmpFrom) (m : VmpMsg)
  /-- KEY_PROV (R519) -/
  | keyProv (o : VmpFrom) (m : VmpMsg)
  /-- LONG_DONE (R521) -/
  | longDone (met : List (BitVec 16))
  /-- EVENT_DELIVERY (R529) -/
  | eventDelivery 
  /-- EVT_HOST_RAISE (R531) -/
  | evtHostRaise (who : Reader) (v : BitVec 32)
  /-- EVT_LAST_DATA_READ (R533) -/
  | evtLastDataRead (who : Reader) (src : Fin 256)
  /-- EVT_OUT_PULSE_END (R535) -/
  | evtOutPulseEnd (p : Fin 4)
  /-- TX_SEND (R526) -/
  | txSend (len ctrl : BitVec 16)
  /-- RX_DONE (R526) -/
  | rxDone (ctrl : BitVec 16)
  /-- TX_RESET (R526) -/
  | txReset (ctrl : BitVec 16)
  /-- LB_TX_DATA_WRITE (R525) -/
  | lbTxDataWrite (v : BitVec 16)
  /-- LB_RX_DATA_READ (R525) -/
  | lbRxDataRead 
  /-- GRANARY_WRITE_START (R546) -/
  | granaryWriteStart 
  /-- GRANARY_WRITE_DONE (R547) -/
  | granaryWriteDone (ok : Bool)
  /-- LOSS_RECORD_STAGE (R548) -/
  | lossRecordStage 
  /-- POWER_FAIL (R550) -/
  | powerFail 
  /-- DUMP_STAGING_CLOSE (R550) -/
  | dumpStagingClose 
  /-- DUMP_COMPLETE (R550) -/
  | dumpComplete 
  /-- PFAIL_RISE (R551) -/
  | pfailRise 
  /-- GRANARY_POWER_UP (R551) -/
  | granaryPowerUp (met : List (BitVec 16))
  /-- OPTIME_CHECKPOINT (R552) -/
  | optimeCheckpoint 
  /-- GRANARY_OPTIME_LO_READ (R561) -/
  | granaryOptimeLoRead (who : Reader)
  /-- GRANARY_COPY_START (R563) -/
  | granaryCopyStart (who : Reader)
  /-- GRANARY_COPY_DONE (R563) -/
  | granaryCopyDone 
  /-- HK_ROUND_END (R565) -/
  | hkRoundEnd (r : HkRound)
  /-- LT_FAULT_CLEAR (R580) -/
  | ltFaultClear (who : Reader) (n : Fin 12) (v : BitVec 32)
  /-- BEACON_CLR (R581) -/
  | beaconClr (who : Reader)
  /-- DISPLAY_FRAME_START (R592) -/
  | displayFrameStart (o : DOut)
  /-- COMMIT (R597) -/
  | commit (who : Reader) (o : DOut)
  /-- COMMIT_LATCH (R598) -/
  | commitLatch (o : DOut)
  /-- LINE_UNDERRUN (R596) -/
  | lineUnderrun (o : DOut)
  /-- TE_EDGE (R601) -/
  | teEdge (o : DOut)
  /-- TE_MISS (R601) -/
  | teMiss (o : DOut)
  /-- PUSH_START (R600) -/
  | pushStart (o : DOut)
  /-- PUSH_COMPLETE (R600) -/
  | pushComplete (o : DOut)
  /-- DISP_CMDQ_WRITE (R602) -/
  | dispCmdqWrite (who : Reader) (o : DOut) (v : BitVec 32)
  /-- CMDQ_SEND (R602) -/
  | cmdqSend (o : DOut)
  /-- TCOMMIT (R603) -/
  | tcommit (who : Reader)
  /-- TIMING_APPLIED (R603) -/
  | timingApplied 
  /-- CH_START (R619) -/
  | chStart (who : Reader) (h : Chan)
  /-- CH_STOP (R619) -/
  | chStop (who : Reader) (h : Chan)
  /-- XK_CONTINUE (R619) -/
  | xkContinue (who : Reader)
  /-- XK_STOP_ALL (R616) -/
  | xkStopAll (who : Reader)
  /-- XK_TICK (R620) -/
  | xkTick 
  /-- XK_WAIT_RESUME (R619) -/
  | xkWaitResume (h : Chan)
  /-- XK_NOP (R621) -/
  | xkNop (h : Chan) (a : BitVec 24)
  /-- XK_FINISH (R621) -/
  | xkFinish (h : Chan) (a : BitVec 24)
  /-- XK_BRANCH (R621) -/
  | xkBranch (h : Chan) (a : BitVec 24)
  /-- XK_CALL (R621) -/
  | xkCall (h : Chan) (a : BitVec 24)
  /-- XK_RETURN (R621) -/
  | xkReturn (h : Chan) (a : BitVec 24)
  /-- XK_LOOP (R621) -/
  | xkLoop (h : Chan) (a : BitVec 24)
  /-- XK_AGAIN (R621) -/
  | xkAgain (h : Chan) (a : BitVec 24)
  /-- XK_IDLE_T (R621) -/
  | xkIdleT (h : Chan) (a : BitVec 24)
  /-- XK_SYNC (R621) -/
  | xkSync (h : Chan) (a : BitVec 24)
  /-- XK_PAUSE (R621) -/
  | xkPause (h : Chan) (a : BitVec 24)
  /-- XK_IRQ (R621) -/
  | xkIrq (h : Chan) (a : BitVec 24)
  /-- XK_WAIT_AX (R621) -/
  | xkWaitAx (h : Chan) (a : BitVec 24)
  /-- XK_WAIT_V (R621) -/
  | xkWaitV (h : Chan) (a : BitVec 24)
  /-- XK_SWAP (R624) -/
  | xkSwap (h : Chan) (a : BitVec 24)
  /-- XK_STROKE (R626) -/
  | xkStroke (h : Chan) (lit rel : Bool) (a : BitVec 24) (w : BitVec 32)
  /-- XK_CURVE (R626) -/
  | xkCurve (h : Chan) (rel : Bool) (a : BitVec 24) (w : BitVec 32)
  /-- XK_FOCUS (R621) -/
  | xkFocus (h : Chan) (a : BitVec 24)
  /-- XK_DWELL (R621) -/
  | xkDwell (h : Chan) (a : BitVec 24)
  /-- XK_LIGHT_ON (R621) -/
  | xkLightOn (h : Chan) (a : BitVec 24)
  /-- XK_LIGHT_OFF (R621) -/
  | xkLightOff (h : Chan) (a : BitVec 24)
  /-- XK_TRAVEL_RATE (R621) -/
  | xkTravelRate (h : Chan) (a : BitVec 24)
  /-- XK_STROKE_RATE (R621) -/
  | xkStrokeRate (h : Chan) (a : BitVec 24)
  /-- XK_LIGHT_LEAD (R627) -/
  | xkLightLead (h : Chan) (a : BitVec 24)
  /-- XK_LIGHT_LAG (R627) -/
  | xkLightLag (h : Chan) (a : BitVec 24)
  /-- XK_TRAVEL_SETTLE (R627) -/
  | xkTravelSettle (h : Chan) (a : BitVec 24)
  /-- XK_STROKE_SETTLE (R627) -/
  | xkStrokeSettle (h : Chan) (a : BitVec 24)
  /-- XK_BEND_SETTLE (R627) -/
  | xkBendSettle (h : Chan) (a : BitVec 24)
  /-- XK_POWER (R630) -/
  | xkPower (h : Chan) (a : BitVec 24)
  /-- XK_MOD_PERIOD (R621) -/
  | xkModPeriod (h : Chan) (a : BitVec 24)
  /-- XK_MOD_WIDTH (R621) -/
  | xkModWidth (h : Chan) (a : BitVec 24)
  /-- XK_SYNC_PERIOD (R621) -/
  | xkSyncPeriod (h : Chan) (a : BitVec 24)
  /-- XK_SYNC_WIDTH (R621) -/
  | xkSyncWidth (h : Chan) (a : BitVec 24)
  /-- XK_AX_ABS (R621) -/
  | xkAxAbs (h : Chan) (a : BitVec 24) (w : BitVec 32)
  /-- XK_AX_REL (R621) -/
  | xkAxRel (h : Chan) (a : BitVec 24) (w : BitVec 32)
  /-- XK_AX_SPEED (R621) -/
  | xkAxSpeed (h : Chan) (a : BitVec 24)
  /-- XK_AX_ACCEL (R621) -/
  | xkAxAccel (h : Chan) (a : BitVec 24)
  /-- XK_AX_STOP (R621) -/
  | xkAxStop (h : Chan) (a : BitVec 24)
  /-- XK_AX_HOME (R621) -/
  | xkAxHome (h : Chan) (a : BitVec 24)
  /-- XK_VSET (R621) -/
  | xkVset (h : Chan) (a : BitVec 24)
  /-- XK_VADD (R621) -/
  | xkVadd (h : Chan) (a : BitVec 24)
  /-- XK_JZ (R621) -/
  | xkJz (h : Chan) (a : BitVec 24)
  /-- XK_JNZ (R621) -/
  | xkJnz (h : Chan) (a : BitVec 24)
  /-- XK_DJNZ (R621) -/
  | xkDjnz (h : Chan) (a : BitVec 24)
  /-- XK_TSTAMP (R621) -/
  | xkTstamp (h : Chan) (a : BitVec 24)
  /-- XY2_FRAME (R629) -/
  | xy2Frame 
  /-- LIST_LO_WRITE (R616) -/
  | listLoWrite (who : Reader) (v : BitVec 16)
  /-- LIST_HI_WRITE (R616) -/
  | listHiWrite (who : Reader) (v : BitVec 16)
  /-- LIST_HI_READ (R616) -/
  | listHiRead (who : Reader)
  /-- CORR_DATA_WRITE (R616) -/
  | corrDataWrite (who : Reader) (v : BitVec 16)
  /-- CORR_DATA_READ (R616) -/
  | corrDataRead (who : Reader)
  /-- XAX_SPEED_WRITE (R616) -/
  | xaxSpeedWrite (who : Reader) (a : XAxis) (v : BitVec 16)
  /-- XAX_ACCEL_WRITE (R616) -/
  | xaxAccelWrite (who : Reader) (a : XAxis) (v : BitVec 16)
  /-- XK_TICK_LO_READ (R616) -/
  | xkTickLoRead (who : Reader)
  /-- XAX_POS_LO_READ (R616) -/
  | xaxPosLoRead (who : Reader) (a : XAxis)
  /-- POWER_ON (R636) -/
  | powerOn 
  /-- SYS_RESETN (R666) -/
  | sysResetn (ns : BitVec 32)
  /-- DEVICE_RESET (R641) -/
  | deviceReset (who : Reader)
  /-- CORE_RESET (R642) -/
  | coreReset (who : Reader)
  /-- RESET_END (R639) -/
  | resetEnd (mode : BitVec 3) (src : BitVec 2)
  /-- BOOT_BEGIN (R643) -/
  | bootBegin 
  /-- BOOT_END (R647) -/
  | bootEnd 
  /-- SYS_BOOT_HOST_START (R646) -/
  | sysBootHostStart (who : Reader) (v : BitVec 32)
  /-- LOCKSTEP_MISMATCH (R651) -/
  | lockstepMismatch 
  /-- SUPERVISOR_RESTART_DONE (R651) -/
  | supervisorRestartDone (ext : BitVec 32)
  /-- REFCLK_RELOCK (R95) -/
  | refclkRelock 
  /-- PERMIT_GIVEN (R252) -/
  | permitGiven (g : Fin 4)
  /-- LOSS_OF_SYNC (R432) -/
  | lossOfSync (n : Lane)
  /-- PCS_SYNC_ACQUIRED (R451) -/
  | pcsSyncAcquired (n : Lane)
  /-- ANNOUNCE_RECEIPT_TIMEOUT (R125) -/
  | announceReceiptTimeout (d : Dom)
  deriving DecidableEq, Repr

end Sys2Proof
end

