-- ==== Sys2Proof/Decode.lean ====
section
/-! DEFINITION. What words spell commands: no row of the table gives bits; the words of an engine's program (04_engine_isa.md
R148-R183, 05_beam_instructions.md R198, R199) and of an XK list (17_xk_personality.md R621), read and written. -/

namespace Sys2Proof

/-- The command a word of the table's bits spells: no row gives bits. -/
def decodeTableWord (_nbits _w : Nat) : Option Instr := none

/-! ## Fields (R148) -/

/-- Bits of a word: n of them from bit lo on. -/
def cut (w lo n : Nat) : Nat := w / 2 ^ lo % 2 ^ n
/-- The opcode. -/
def wOp (w : Nat) : Nat := cut w 26 6
/-- Field d. -/
def wD (w : Nat) : GReg := Fin.ofNat 32 (cut w 21 5)
/-- Field a. -/
def wA (w : Nat) : GReg := Fin.ofNat 32 (cut w 16 5)
/-- Field b. -/
def wB (w : Nat) : GReg := Fin.ofNat 32 (cut w 11 5)
/-- The function. -/
def wFn (w : Nat) : Nat := cut w 0 11
/-- The S bit. -/
def wS (w : Nat) : Bool := cut w 10 1 == 1

/-- A word of format A. -/
def wordA (op : Nat) (d a b : GReg) (fn : Nat) : Nat := op * 2 ^ 26 + d.val * 2 ^ 21 + a.val * 2 ^ 16 + b.val * 2 ^ 11 + fn
/-- A word of format I. -/
def wordI (op : Nat) (d a : GReg) (i : BitVec 16) : Nat := op * 2 ^ 26 + d.val * 2 ^ 21 + a.val * 2 ^ 16 + i.toNat
/-- A word of format J. -/
def wordJ (op : Nat) (cond : Fin 16) (ofs : BitVec 22) : Nat := op * 2 ^ 26 + cond.val * 2 ^ 22 + ofs.toNat
/-- The first word of format X (R149). -/
def wordX (d a : GReg) (xop : Nat) : Nat := 0x3F * 2 ^ 26 + d.val * 2 ^ 21 + a.val * 2 ^ 16 + xop * 2 ^ 10

/-! ## The words of an engine's program: reading -/

/-- Opcode 0x00 (R155): the operation of function[9:0]. -/
def aluOp : Nat → Option (Eng → GReg → GReg → GReg → Bool → Instr)
  | 0 => some .add | 1 => some .sub | 2 => some .and | 3 => some .or | 4 => some .xor | 5 => some .slt | 6 => some .sltu
  | 7 => some .min | 8 => some .max | 9 => some .minu | 10 => some .maxu | 11 => some .addc | 12 => some .subb
  | 16 => some .mul | 17 => some .mulh | 18 => some .mulhu
  | 20 => some .div | 21 => some .divu | 22 => some .rem | 23 => some .remu
  | _ => none

/-- Opcodes 0x01 and 0x09 (R157): the shift of function[9:0]. -/
def shiftOp : Nat → Option (Eng → GReg → GReg → ShAmt → Bool → Instr)
  | 0 => some .sll | 1 => some .srl | 2 => some .sra | 3 => some .ror
  | _ => none

/-- The I-format instructions of the general set, which have an X form (R149, R154). -/
def immOp : Nat → Option (Eng → GReg → GReg → Imm → Instr)
  | 0x02 => some .addi | 0x03 => some .andi | 0x04 => some .ori | 0x05 => some .xori | 0x06 => some .lui | 0x07 => some .slti
  | 0x08 => some .sltiu | 0x0A => some .cmpi | 0x0B => some .tsti
  | 0x10 => some .lw | 0x11 => some .lh | 0x12 => some .lhu | 0x13 => some .lb | 0x14 => some .lbu
  | 0x15 => some .sw | 0x16 => some .sh | 0x17 => some .sb | 0x18 => some .ld | 0x19 => some .sd
  | _ => none

/-- The setting instructions, which have an X form on a beam engine (R198, R199). -/
def settingOp : Nat → Option (Eng → GReg → GReg → Imm → Instr)
  | 0x33 => some .speed | 0x34 => some .power | 0x35 => some .delay | 0x36 => some .fly | 0x37 => some .pulse
  | _ => none

/-- The format A instructions told apart by their function, which name d, a and b: opcodes 0x0C, 0x0D, 0x1A, 0x26, 0x28, 0x2A,
0x2B (R161, R162, R165, R170, R173, R176, R179). -/
def fnOp : Nat → Nat → Option (Eng → GReg → GReg → GReg → Instr)
  | 0x0C, 0 => some .macq | 0x0C, 1 => some .msuq | 0x0C, 2 => some .mulqa | 0x0C, 3 => some .clra | 0x0C, 4 => some .rndq
  | 0x0C, 5 => some .addq | 0x0C, 6 => some .subq | 0x0C, 7 => some .mulq | 0x0C, 8 => some .adda | 0x0C, 9 => some .asha
  | 0x0D, 0 => some .rdal | 0x0D, 1 => some .rdah | 0x0D, 2 => some .wra | 0x0D, 3 => some .movqa
  | 0x1A, 0 => some .atomSwap | 0x1A, 1 => some .atomAdd | 0x1A, 2 => some .atomCas | 0x1A, 3 => some .atomOr
  | 0x1A, 4 => some .atomAnd
  | 0x26, 0 => some .waitt | 0x26, 1 => some .waitr
  | 0x28, 0 => some .rput | 0x28, 1 => some .rget | 0x28, 2 => some .rcount
  | 0x2A, 0 => some .bmrd | 0x2A, 1 => some .bmsete | 0x2A, 2 => some .bmwt | 0x2A, 3 => some .bmflag | 0x2A, 4 => some .bmidx
  | 0x2B, 0 => some .halt | 0x2B, 1 => some .wdog
  | _, _ => none

/-- The format A instructions whose function holds operands or must be zero (R169, R172, R183, R198). -/
def wideOp : Nat → Option (Eng → GReg → GReg → GReg → BitVec 11 → Instr)
  | 0x23 => some .eret | 0x24 => some .mfs | 0x25 => some .mts | 0x27 => some .sched
  | 0x30 => some .mark | 0x31 => some .jump | 0x32 => some .arc | 0x38 => some .loopsel
  | 0x39 => some .lease | 0x3A => some .release | 0x3B => some .sync | 0x3C => some .tstamp | 0x3D => some .swend
  | _ => none

/-- Opcode 0x29 (R175): the operation of function[10:8]. -/
def eventOp : Nat → Option (Eng → GReg → GReg → GReg → BitVec 8 → Instr)
  | 0 => some .evsig | 1 => some .waite | 2 => some .evpoll
  | _ => none

/-- The instruction, or the illegal instruction of a DETAIL where there is none (R180). -/
def orIllegal (detail : Nat) : Option Instr → Except Nat Instr
  | some i => .ok i
  | none => .error detail

/-- The instruction that a word spells in engine e, with the word behind it as the literal of an X form; or the DETAIL of the
illegal instruction exception. Fields that must be zero are checked when the instruction executes (R150); no rule marks a field of
FENCE, or the unused fields of a register jump, as zero. -/
def decodeEngine (e : Eng) (w lit : Nat) : Except Nat Instr :=
  let op := wOp w
  let d := wD w
  let a := wA w
  let b := wB w
  let fn := wFn w
  if op = 0 then orIllegal 0 ((aluOp (cut w 0 10)).map fun f => f e d a b (wS w))
  else if op = 1 then orIllegal 0 ((shiftOp (cut w 0 10)).map fun f => f e d a (.reg b) (wS w))
  else if op = 9 then orIllegal 0 ((shiftOp (cut w 0 10)).map fun f => f e d a (.imm b) (wS w))
  else if op = 0x1B then .ok (.fence e)
  else if op = 0x20 then .ok (.b e (Fin.ofNat 16 (cut w 22 4)) (BitVec.ofNat 22 w))
  else if op = 0x21 then .ok (.call e (Fin.ofNat 16 (cut w 22 4)) (BitVec.ofNat 22 w))
  else if op = 0x22 then
    if fn = 0 then .ok (.jr e a) else if fn = 1 then .ok (.jalr e d a) else .error 0
  else if op = 0x29 then orIllegal 0 ((eventOp (cut w 8 3)).map fun f => f e d a b (BitVec.ofNat 8 w))
  else if op = 0x3E then .ok (.safe e d a (BitVec.ofNat 16 w))
  else if op = 0x3F then
    if cut w 0 10 = 0 then
      match immOp (cut w 10 6), settingOp (cut w 10 6) with
      | some f, _ => .ok (f e d a (.lit (BitVec.ofNat 32 lit)))
      | none, some f => .ok (f e d a (.lit (BitVec.ofNat 32 lit)))
      | none, none => .error 4
    else .error 2
  else match immOp op, settingOp op, wideOp op with
    | some f, _, _ => .ok (f e d a (.imm (BitVec.ofNat 16 w)))
    | none, some f, _ => .ok (f e d a (.imm (BitVec.ofNat 16 w)))
    | none, none, some f => .ok (f e d a b (BitVec.ofNat 11 w))
    | none, none, none => orIllegal 0 ((fnOp op fn).map fun f => f e d a b)

/-! ## The words of an engine's program: writing -/

/-- The words of an instruction of format I or X with opcode op. -/
def encI (op : Nat) (d a : GReg) : Imm → Nat × Nat
  | .imm i => (wordI op d a i, 0)
  | .lit l => (wordX d a op, l.toNat)

/-- The word of an instruction of opcode 0x00, function n. -/
def encAlu (n : Nat) (d a b : GReg) (S : Bool) : Nat × Nat := (wordA 0 d a b (b2n S * 2 ^ 10 + n), 0)
/-- The word of a shift, function n. -/
def encShift (n : Nat) (d a : GReg) (amt : ShAmt) (S : Bool) : Nat × Nat :=
  match amt with
  | .reg b => (wordA 1 d a b (b2n S * 2 ^ 10 + n), 0)
  | .imm b => (wordA 9 d a b (b2n S * 2 ^ 10 + n), 0)

/-- The words of an engine instruction: the first, and the literal of an X form (else 0); none for the other commands. -/
def encodeEngine : Instr → Option (Nat × Nat)
  | .add _ d a b S => some (encAlu 0 d a b S) | .sub _ d a b S => some (encAlu 1 d a b S)
  | .and _ d a b S => some (encAlu 2 d a b S) | .or _ d a b S => some (encAlu 3 d a b S)
  | .xor _ d a b S => some (encAlu 4 d a b S) | .slt _ d a b S => some (encAlu 5 d a b S)
  | .sltu _ d a b S => some (encAlu 6 d a b S) | .min _ d a b S => some (encAlu 7 d a b S)
  | .max _ d a b S => some (encAlu 8 d a b S) | .minu _ d a b S => some (encAlu 9 d a b S)
  | .maxu _ d a b S => some (encAlu 10 d a b S) | .addc _ d a b S => some (encAlu 11 d a b S)
  | .subb _ d a b S => some (encAlu 12 d a b S) | .mul _ d a b S => some (encAlu 16 d a b S)
  | .mulh _ d a b S => some (encAlu 17 d a b S) | .mulhu _ d a b S => some (encAlu 18 d a b S)
  | .div _ d a b S => some (encAlu 20 d a b S) | .divu _ d a b S => some (encAlu 21 d a b S)
  | .rem _ d a b S => some (encAlu 22 d a b S) | .remu _ d a b S => some (encAlu 23 d a b S)
  | .sll _ d a t S => some (encShift 0 d a t S) | .srl _ d a t S => some (encShift 1 d a t S)
  | .sra _ d a t S => some (encShift 2 d a t S) | .ror _ d a t S => some (encShift 3 d a t S)
  | .addi _ d a i => some (encI 0x02 d a i) | .andi _ d a i => some (encI 0x03 d a i)
  | .ori _ d a i => some (encI 0x04 d a i) | .xori _ d a i => some (encI 0x05 d a i)
  | .lui _ d a i => some (encI 0x06 d a i) | .slti _ d a i => some (encI 0x07 d a i)
  | .sltiu _ d a i => some (encI 0x08 d a i) | .cmpi _ d a i => some (encI 0x0A d a i)
  | .tsti _ d a i => some (encI 0x0B d a i)
  | .lw _ d a i => some (encI 0x10 d a i) | .lh _ d a i => some (encI 0x11 d a i)
  | .lhu _ d a i => some (encI 0x12 d a i) | .lb _ d a i => some (encI 0x13 d a i)
  | .lbu _ d a i => some (encI 0x14 d a i) | .sw _ d a i => some (encI 0x15 d a i)
  | .sh _ d a i => some (encI 0x16 d a i) | .sb _ d a i => some (encI 0x17 d a i)
  | .ld _ d a i => some (encI 0x18 d a i) | .sd _ d a i => some (encI 0x19 d a i)
  | .macq _ d a b => some (wordA 0x0C d a b 0, 0) | .msuq _ d a b => some (wordA 0x0C d a b 1, 0)
  | .mulqa _ d a b => some (wordA 0x0C d a b 2, 0) | .clra _ d a b => some (wordA 0x0C d a b 3, 0)
  | .rndq _ d a b => some (wordA 0x0C d a b 4, 0) | .addq _ d a b => some (wordA 0x0C d a b 5, 0)
  | .subq _ d a b => some (wordA 0x0C d a b 6, 0) | .mulq _ d a b => some (wordA 0x0C d a b 7, 0)
  | .adda _ d a b => some (wordA 0x0C d a b 8, 0) | .asha _ d a b => some (wordA 0x0C d a b 9, 0)
  | .rdal _ d a b => some (wordA 0x0D d a b 0, 0) | .rdah _ d a b => some (wordA 0x0D d a b 1, 0)
  | .wra _ d a b => some (wordA 0x0D d a b 2, 0) | .movqa _ d a b => some (wordA 0x0D d a b 3, 0)
  | .atomSwap _ d a b => some (wordA 0x1A d a b 0, 0) | .atomAdd _ d a b => some (wordA 0x1A d a b 1, 0)
  | .atomCas _ d a b => some (wordA 0x1A d a b 2, 0) | .atomOr _ d a b => some (wordA 0x1A d a b 3, 0)
  | .atomAnd _ d a b => some (wordA 0x1A d a b 4, 0)
  | .fence _ => some (wordA 0x1B 0 0 0 0, 0)
  | .b _ c o => some (wordJ 0x20 c o, 0) | .call _ c o => some (wordJ 0x21 c o, 0)
  | .jr _ a => some (wordA 0x22 0 a 0 0, 0) | .jalr _ d a => some (wordA 0x22 d a 0 1, 0)
  | .eret _ d a b f => some (wordA 0x23 d a b f.toNat, 0) | .mfs _ d a b f => some (wordA 0x24 d a b f.toNat, 0)
  | .mts _ d a b f => some (wordA 0x25 d a b f.toNat, 0)
  | .waitt _ d a b => some (wordA 0x26 d a b 0, 0) | .waitr _ d a b => some (wordA 0x26 d a b 1, 0)
  | .sched _ d a b f => some (wordA 0x27 d a b f.toNat, 0)
  | .rput _ d a b => some (wordA 0x28 d a b 0, 0) | .rget _ d a b => some (wordA 0x28 d a b 1, 0)
  | .rcount _ d a b => some (wordA 0x28 d a b 2, 0)
  | .evsig _ d a b f => some (wordA 0x29 d a b f.toNat, 0) | .waite _ d a b f => some (wordA 0x29 d a b (2 ^ 8 + f.toNat), 0)
  | .evpoll _ d a b f => some (wordA 0x29 d a b (2 * 2 ^ 8 + f.toNat), 0)
  | .bmrd _ d a b => some (wordA 0x2A d a b 0, 0) | .bmsete _ d a b => some (wordA 0x2A d a b 1, 0)
  | .bmwt _ d a b => some (wordA 0x2A d a b 2, 0) | .bmflag _ d a b => some (wordA 0x2A d a b 3, 0)
  | .bmidx _ d a b => some (wordA 0x2A d a b 4, 0)
  | .halt _ d a b => some (wordA 0x2B d a b 0, 0) | .wdog _ d a b => some (wordA 0x2B d a b 1, 0)
  | .mark _ d a b f => some (wordA 0x30 d a b f.toNat, 0) | .jump _ d a b f => some (wordA 0x31 d a b f.toNat, 0)
  | .arc _ d a b f => some (wordA 0x32 d a b f.toNat, 0)
  | .speed _ d a i => some (encI 0x33 d a i) | .power _ d a i => some (encI 0x34 d a i)
  | .delay _ d a i => some (encI 0x35 d a i) | .fly _ d a i => some (encI 0x36 d a i)
  | .pulse _ d a i => some (encI 0x37 d a i)
  | .loopsel _ d a b f => some (wordA 0x38 d a b f.toNat, 0) | .lease _ d a b f => some (wordA 0x39 d a b f.toNat, 0)
  | .release _ d a b f => some (wordA 0x3A d a b f.toNat, 0) | .sync _ d a b f => some (wordA 0x3B d a b f.toNat, 0)
  | .tstamp _ d a b f => some (wordA 0x3C d a b f.toNat, 0) | .swend _ d a b f => some (wordA 0x3D d a b f.toNat, 0)
  | .safe _ d a k => some (wordI 0x3E d a k, 0)
  | _ => none

/-! ## The words of an XK list (R621) -/

/-- The one-word commands of an XK list by OP. -/
noncomputable def xkOp : Nat → Option (Chan → BitVec 24 → Instr)
  | 0x00 => some .xkNop | 0x01 => some .xkFinish | 0x02 => some .xkBranch | 0x03 => some .xkCall | 0x04 => some .xkReturn
  | 0x05 => some .xkLoop | 0x06 => some .xkAgain | 0x07 => some .xkIdleT | 0x08 => some .xkSync | 0x09 => some .xkPause
  | 0x0A => some .xkIrq | 0x0B => some .xkWaitAx | 0x0C => some .xkWaitV | 0x0D => some .xkSwap
  | 0x16 => some .xkFocus | 0x17 => some .xkDwell | 0x18 => some .xkLightOn | 0x19 => some .xkLightOff
  | 0x20 => some .xkTravelRate | 0x21 => some .xkStrokeRate | 0x22 => some .xkLightLead | 0x23 => some .xkLightLag
  | 0x24 => some .xkTravelSettle | 0x25 => some .xkStrokeSettle | 0x26 => some .xkBendSettle | 0x27 => some .xkPower
  | 0x28 => some .xkModPeriod | 0x29 => some .xkModWidth | 0x2A => some .xkSyncPeriod | 0x2B => some .xkSyncWidth
  | 0x32 => some .xkAxSpeed | 0x33 => some .xkAxAccel | 0x34 => some .xkAxStop | 0x35 => some .xkAxHome
  | 0x38 => some .xkVset | 0x39 => some .xkVadd | 0x3A => some .xkJz | 0x3B => some .xkJnz | 0x3C => some .xkDjnz
  | 0x3E => some .xkTstamp
  | _ => none

/-- The command that the words of a list spell on channel h, word 1 used by two-word commands only; none for an OP that the
table does not list. -/
noncomputable def decodeXk (h : Chan) (w0 w1 : BitVec 32) : Option Instr :=
  let op := cut w0.toNat 24 8
  let a := w0.setWidth 24
  if 0x10 ≤ op ∧ op ≤ 0x13 then some (.xkStroke h (cut op 1 1 == 1) (cut op 0 1 == 1) a w1)
  else if op = 0x14 ∨ op = 0x15 then some (.xkCurve h (op == 0x15) a w1)
  else if op = 0x30 then some (.xkAxAbs h a w1)
  else if op = 0x31 then some (.xkAxRel h a w1)
  else (xkOp op).map fun f => f h a

/-- Word 0 of a list command. -/
def xkWord (op : Nat) (a : BitVec 24) : BitVec 32 := BitVec.ofNat 32 (op * 2 ^ 24 + a.toNat)

/-- The words of a list command, word 1 being 0 where it has one word; none for the other commands. -/
def encodeXk : Instr → Option (BitVec 32 × BitVec 32)
  | .xkNop _ a => some (xkWord 0x00 a, 0) | .xkFinish _ a => some (xkWord 0x01 a, 0) | .xkBranch _ a => some (xkWord 0x02 a, 0)
  | .xkCall _ a => some (xkWord 0x03 a, 0) | .xkReturn _ a => some (xkWord 0x04 a, 0) | .xkLoop _ a => some (xkWord 0x05 a, 0)
  | .xkAgain _ a => some (xkWord 0x06 a, 0) | .xkIdleT _ a => some (xkWord 0x07 a, 0) | .xkSync _ a => some (xkWord 0x08 a, 0)
  | .xkPause _ a => some (xkWord 0x09 a, 0) | .xkIrq _ a => some (xkWord 0x0A a, 0) | .xkWaitAx _ a => some (xkWord 0x0B a, 0)
  | .xkWaitV _ a => some (xkWord 0x0C a, 0) | .xkSwap _ a => some (xkWord 0x0D a, 0)
  | .xkStroke _ lit rel a w => some (xkWord (0x10 + 2 * b2n lit + b2n rel) a, w)
  | .xkCurve _ rel a w => some (xkWord (0x14 + b2n rel) a, w)
  | .xkFocus _ a => some (xkWord 0x16 a, 0) | .xkDwell _ a => some (xkWord 0x17 a, 0) | .xkLightOn _ a => some (xkWord 0x18 a, 0)
  | .xkLightOff _ a => some (xkWord 0x19 a, 0) | .xkTravelRate _ a => some (xkWord 0x20 a, 0)
  | .xkStrokeRate _ a => some (xkWord 0x21 a, 0) | .xkLightLead _ a => some (xkWord 0x22 a, 0)
  | .xkLightLag _ a => some (xkWord 0x23 a, 0) | .xkTravelSettle _ a => some (xkWord 0x24 a, 0)
  | .xkStrokeSettle _ a => some (xkWord 0x25 a, 0) | .xkBendSettle _ a => some (xkWord 0x26 a, 0)
  | .xkPower _ a => some (xkWord 0x27 a, 0) | .xkModPeriod _ a => some (xkWord 0x28 a, 0)
  | .xkModWidth _ a => some (xkWord 0x29 a, 0) | .xkSyncPeriod _ a => some (xkWord 0x2A a, 0)
  | .xkSyncWidth _ a => some (xkWord 0x2B a, 0) | .xkAxAbs _ a w => some (xkWord 0x30 a, w) | .xkAxRel _ a w => some (xkWord 0x31 a, w)
  | .xkAxSpeed _ a => some (xkWord 0x32 a, 0) | .xkAxAccel _ a => some (xkWord 0x33 a, 0) | .xkAxStop _ a => some (xkWord 0x34 a, 0)
  | .xkAxHome _ a => some (xkWord 0x35 a, 0) | .xkVset _ a => some (xkWord 0x38 a, 0) | .xkVadd _ a => some (xkWord 0x39 a, 0)
  | .xkJz _ a => some (xkWord 0x3A a, 0) | .xkJnz _ a => some (xkWord 0x3B a, 0) | .xkDjnz _ a => some (xkWord 0x3C a, 0)
  | .xkTstamp _ a => some (xkWord 0x3E a, 0)
  | _ => none

end Sys2Proof
end

