-- ==== Sys2Proof/Config.lean ====
section
/-! DEFINITION. What an implementation of the VJ1616 fixes and the values the spec leaves open. None of
these constants has a body: no proof can see its value (log entries 9 and 11). -/

namespace Sys2Proof.Config

/-- The 64-bit unique node ID of the fuses (R538). -/
opaque uid : BitVec 64
/-- The fuses hold a key hash, so ENFORCE is 1 (R645, R654). -/
opaque enforce : Bool
/-- The key hash of the fuses (R645). -/
opaque keyHash : BitVec 256
/-- LASER_PMAX of a beam's laser in mW (R6). -/
opaque laserPmax : Nat → Nat
/-- A free value of 64 bits: applied to the counter `free` of State and to the purpose it serves. -/
opaque freeValue : Nat → Nat → BitVec 64

end Sys2Proof.Config
end

