-- ==== Sys2Proof/Machine/Num.lean ====
section
/-! DEFINITION. Exact arithmetic the rules are written in: readings of fields as numbers, the roundings the rules
name, integer roots, and sine and cosine in fixed point (log entry 8). Everything here is structural recursion. -/

namespace Sys2Proof.Machine

/-- n read as a two's complement number of w bits (R3). -/
def sgn (w n : Nat) : Int := if n % 2 ^ w < 2 ^ (w - 1) then (n % 2 ^ w : Nat) else (n % 2 ^ w : Nat) - (2 ^ w : Nat)

/-- An integer as w bits, two's complement (R3). -/
def wrap (w : Nat) (i : Int) : Nat := (i % (2 ^ w : Nat)).toNat

/-- R5: a is later than b as N-bit numbers. -/
def later (w a b : Nat) : Bool := 0 < sgn w (wrap w ((a : Int) - b))

/-- i limited to lo..hi. -/
def clampI (lo hi i : Int) : Int := if i < lo then lo else if hi < i then hi else i

/-- Floor of a / b for b > 0 (and 0 for b = 0). -/
def fdiv (a : Int) (b : Nat) : Int := a.fdiv b

/-- Ceiling of a / b for b > 0. -/
def cdiv (a : Int) (b : Nat) : Int := -((-a).fdiv b)

/-- Ceiling of a / b on Nat. -/
def cdivN (a b : Nat) : Nat := (a + b - 1) / b

/-- a / b rounded to the nearest integer, ties away from zero (R239, R240). -/
def rdivAway (a : Int) (b : Nat) : Int :=
  let q : Int := ((2 * a.natAbs + b) / (2 * b) : Nat)
  if a < 0 then -q else q

/-- a / b rounded to the nearest integer, ties to even (R160). -/
def rdivEven (a : Int) (b : Nat) : Int :=
  let q := a.fdiv b
  let r := a - q * b
  if 2 * r < b then q else if (b : Int) < 2 * r then q + 1 else if q % 2 = 0 then q else q + 1

/-- Integer square root, one bit of the result at a time from bit k down. -/
def isqrtGo (n : Nat) : Nat → Nat → Nat
  | 0, r => r
  | k + 1, r => let c := r + 2 ^ k; isqrtGo n k (if c * c ≤ n then c else r)

/-- ⌊√n⌋ for n below 2^256. -/
def isqrt (n : Nat) : Nat := isqrtGo n 128 0

/-- ⌈√n⌉. -/
def isqrtUp (n : Nat) : Nat := let r := isqrt n; if r * r = n then r else r + 1

/-- One bit of a reflected CRC-32. -/
def crcBit (c : BitVec 32) : BitVec 32 := if c.getLsbD 0 then (c >>> 1) ^^^ 0xEDB88320#32 else c >>> 1
/-- One byte of a reflected CRC-32. -/
def crcByte (c : BitVec 32) (b : Byte) : BitVec 32 :=
  crcBit (crcBit (crcBit (crcBit (crcBit (crcBit (crcBit (crcBit (c ^^^ b.setWidth 32))))))))
/-- CRC-32 of IEEE 802.3 (R68). -/
def crc32 (l : List Byte) : BitVec 32 := ~~~ (l.foldl crcByte 0xFFFFFFFF#32)

/-- 2π in units of 2^-64. -/
def twoPiFx : Nat := 115904311329233965478

/-- Σ of the Taylor series of sine or cosine at x (units of 2^-64): `term` is the present term, k its order. -/
def taylorGo (x2 : Int) : Nat → Nat → Int → Int → Int
  | 0, _, _, sum => sum
  | fuel + 1, k, term, sum =>
    let t := -(term * x2).fdiv (2 ^ 64 * ((k + 1) * (k + 2) : Nat))
    taylorGo x2 fuel (k + 2) t (sum + t)

/-- sin and cos of an angle given as a fraction num / den of a turn, in units of 2^-64. -/
def sinCos (num : Int) (den : Nat) : Int × Int :=
  -- quadrant and the rest of the turn
  let n := num.fmod den
  let q := (4 * n).fdiv den
  let r := 4 * n - q * den                      -- fraction of a quarter turn, r / den
  let x := (r * (twoPiFx : Int)).fdiv (4 * den)
  let x2 := (x * x).fdiv (2 ^ 64)
  let s := taylorGo x2 20 1 x x
  let c := taylorGo x2 20 0 (2 ^ 64) (2 ^ 64)
  if q = 0 then (s, c) else if q = 1 then (c, -s) else if q = 2 then (-s, -c) else (-c, s)

/-- Bisection for the direction of (dx, dy) ≠ 0 as an angle of 2^32 per turn within the first quadrant:
the greatest a of k more bits with the direction of a not beyond (dx, dy). -/
def angleGo (dx dy : Int) : Nat → Nat → Nat
  | 0, a => a
  | k + 1, a =>
    let c := a + 2 ^ k
    let sc := sinCos c (2 ^ 32)
    angleGo dx dy k (if sc.1 * dx ≤ sc.2 * dy then c else a)

/-- The angle of a direction of the first quadrant: exact where dx = dy. -/
def angleQ (dx dy : Int) : Nat := if dx = dy then 2 ^ 29 else angleGo dx dy 30 0

/-- The direction of (dx, dy) in units of 2^32 per turn (R269, R231), rounded down within its quadrant; 0 for the zero vector. -/
def angleOf (dx dy : Int) : Nat :=
  if dx = 0 ∧ dy = 0 then 0
  else if 0 < dx ∧ 0 ≤ dy then angleQ dx dy
  else if dx ≤ 0 ∧ 0 < dy then 2 ^ 30 + angleQ dy (-dx)
  else if dx < 0 ∧ dy ≤ 0 then 2 ^ 31 + angleQ (-dx) (-dy)
  else 3 * 2 ^ 30 + angleQ (-dy) dx

/-- 65,536 × 2^(−f/256) rounded (R60): the nearest t with t^256 × 2^f against 2^4096, one bit at a time. -/
def decayGo (f : Nat) : Nat → Nat → Nat
  | 0, r => r
  | k + 1, r => let c := r + 2 ^ k; decayGo f k (if (2 * c - 1) ^ 256 * 2 ^ f ≤ 2 ^ (256 * 17) then c else r)

/-- TABLE[f] of R60. -/
def decayTable (f : Nat) : Nat := decayGo f 17 0

end Sys2Proof.Machine
end

