-- ==== Sys2Proof/Machine/RegTypes.lean ====
section
/-! DEFINITION. The shape of the register map (R7, R9, R10): fields, access codes, limits on what a write stores. -/

namespace Sys2Proof.Machine

/-- An access code of a field table (R7); `na` is the sign "—". -/
inductive Access
  | ro | rw | wo | w1c | w1s | w1p | na
  deriving DecidableEq, Repr

/-- What a field's Meaning column says a write of a value outside the range stores. -/
inductive Clamp
  /-- no limit -/
  | none
  /-- the nearer limit of lo to hi is stored -/
  | range (lo hi : Nat)
  /-- a value above n stores v -/
  | above (n v : Nat)
  /-- a value of 0 stores v -/
  | zero (v : Nat)
  /-- a signed value beyond n in size stores the nearer of -n and n -/
  | signed (n : Nat)
  deriving DecidableEq, Repr

/-- One field of a register: bits hi to lo, its access in the user and the supervisor view, its limit, and
whether a write of 1 to any bit clears the whole field. RSVD fields are left out: they read 0 (R9). -/
structure FieldD where
  hi : Nat
  lo : Nat
  u : Access
  s : Access
  clamp : Clamp
  whole : Bool
  deriving DecidableEq, Repr

/-- A register, or an array of n1 × n2 of them at strides s1 and s2, with its reset word and its fields. -/
structure RegD where
  base : Nat
  n1 : Nat
  s1 : Nat
  n2 : Nat
  s2 : Nat
  reset : Nat
  fields : List FieldD
  deriving DecidableEq, Repr

/-- A named field: its register's address and its bits. -/
structure Fld where
  addr : Nat
  hi : Nat
  lo : Nat
  deriving DecidableEq, Repr

end Sys2Proof.Machine
end

