-- ==== Sys2Proof/Machine/RegMap.lean ====
section
/-! DEFINITION. The register map: every register of the field tables of spec/, with its address (R536), its fields,
their access codes (R7) and its reset word (R10). Written out from the field tables of the chapters. -/

namespace Sys2Proof.Machine

/-- Registers of block 0. -/
def regsSys : List RegD :=
[⟨0xF0000100, 1, 0x1, 1, 0x1, 0x7800C8, [⟨11, 0, .ro, .rw, .range 0 2000, false⟩, ⟨27, 16, .ro, .ro, .none, false⟩]⟩,
   ⟨0xF0000104, 1, 0x1, 1, 0x1, 0x3, [⟨2, 0, .ro, .ro, .none, false⟩, ⟨3, 3, .ro, .ro, .none, false⟩, ⟨15, 8, .ro, .ro, .none, false⟩, ⟨20, 16, .ro, .ro, .none, false⟩, ⟨31, 24, .ro, .w1c, .none, true⟩]⟩,
   ⟨0xF0000200, 44, 0x4, 1, 0x1, 0x64, [⟨15, 0, .ro, .rw, .none, false⟩, ⟨16, 16, .ro, .rw, .none, false⟩, ⟨17, 17, .ro, .rw, .none, false⟩, ⟨25, 24, .ro, .ro, .none, false⟩]⟩,
   ⟨0xF0000400, 20, 0x4, 1, 0x1, 0x4, [⟨0, 0, .ro, .rw, .none, false⟩, ⟨1, 1, .ro, .w1p, .none, false⟩, ⟨2, 2, .ro, .ro, .none, false⟩, ⟨3, 3, .ro, .w1c, .none, false⟩, ⟨4, 4, .ro, .ro, .none, false⟩, ⟨11, 8, .ro, .ro, .none, false⟩, ⟨23, 16, .ro, .w1c, .none, true⟩]⟩,
   ⟨0xF0000480, 20, 0x4, 1, 0x1, 0x0, [⟨19, 0, .ro, .rw, .none, false⟩, ⟨31, 31, .ro, .w1c, .none, false⟩]⟩,
   ⟨0xF0000500, 1, 0x1, 1, 0x1, 0x0, [⟨3, 0, .ro, .rw, .none, false⟩]⟩,
   ⟨0xF0000000, 1, 0x1, 1, 0x1, 0x53461616, [⟨31, 0, .ro, .ro, .none, false⟩]⟩,
   ⟨0xF0000004, 1, 0x1, 1, 0x1, 0x10, [⟨3, 0, .ro, .ro, .none, false⟩, ⟨7, 4, .ro, .ro, .none, false⟩]⟩,
   ⟨0xF0000008, 1, 0x1, 1, 0x1, 0x0, [⟨31, 0, .ro, .ro, .none, false⟩]⟩,
   ⟨0xF000000C, 1, 0x1, 1, 0x1, 0x0, [⟨31, 0, .ro, .ro, .none, false⟩]⟩,
   ⟨0xF0000010, 1, 0x1, 1, 0x1, 0x0, [⟨2, 0, .ro, .ro, .none, false⟩, ⟨5, 4, .ro, .ro, .none, false⟩]⟩,
   ⟨0xF0000020, 1, 0x1, 1, 0x1, 0x1, [⟨0, 0, .ro, .w1c, .none, false⟩, ⟨1, 1, .ro, .w1c, .none, false⟩, ⟨2, 2, .ro, .w1c, .none, false⟩, ⟨3, 3, .ro, .w1c, .none, false⟩]⟩,
   ⟨0xF0000024, 1, 0x1, 1, 0x1, 0x0, [⟨0, 0, .na, .w1p, .none, false⟩, ⟨1, 1, .na, .w1p, .none, false⟩, ⟨31, 2, .na, .ro, .none, false⟩]⟩,
   ⟨0xF0000028, 1, 0x1, 1, 0x1, 0x0, [⟨1, 0, .ro, .ro, .none, false⟩, ⟨3, 2, .ro, .ro, .none, false⟩, ⟨4, 4, .ro, .ro, .none, false⟩, ⟨5, 5, .ro, .ro, .none, false⟩, ⟨6, 6, .ro, .ro, .none, false⟩, ⟨7, 7, .ro, .ro, .none, false⟩, ⟨11, 8, .ro, .ro, .none, false⟩, ⟨15, 12, .ro, .ro, .none, false⟩, ⟨19, 16, .ro, .w1c, .none, false⟩]⟩,
   ⟨0xF000002C, 1, 0x1, 1, 0x1, 0x0, [⟨31, 0, .ro, .ro, .none, false⟩]⟩,
   ⟨0xF0000030, 1, 0x1, 1, 0x1, 0x0, [⟨0, 0, .na, .w1p, .none, false⟩, ⟨5, 1, .na, .ro, .none, false⟩, ⟨26, 6, .na, .rw, .none, false⟩, ⟨30, 27, .na, .ro, .none, false⟩, ⟨31, 31, .na, .w1c, .none, false⟩]⟩,
   ⟨0xF0000034, 1, 0x1, 1, 0x1, 0x0, [⟨7, 0, .ro, .w1c, .none, true⟩, ⟨8, 8, .ro, .ro, .none, false⟩, ⟨9, 9, .ro, .ro, .none, false⟩]⟩]

/-- Registers of block 1. -/
def regsTime : List RegD :=
[⟨0xF0010010, 1, 0x1, 1, 0x1, 0x0, [⟨31, 0, .ro, .rw, .signed 2147483, false⟩]⟩,
   ⟨0xF0010008, 1, 0x1, 1, 0x1, 0x0, [⟨0, 0, .ro, .ro, .none, false⟩, ⟨1, 1, .ro, .ro, .none, false⟩, ⟨2, 2, .ro, .ro, .none, false⟩, ⟨3, 3, .ro, .ro, .none, false⟩, ⟨5, 4, .ro, .ro, .none, false⟩, ⟨6, 6, .ro, .ro, .none, false⟩, ⟨7, 7, .ro, .ro, .none, false⟩, ⟨8, 8, .ro, .w1c, .none, false⟩, ⟨9, 9, .ro, .w1c, .none, false⟩, ⟨10, 10, .ro, .w1c, .none, false⟩, ⟨11, 11, .ro, .w1c, .none, false⟩, ⟨12, 12, .ro, .ro, .none, false⟩]⟩,
   ⟨0xF0010000, 1, 0x1, 1, 0x1, 0x0, [⟨31, 0, .ro, .ro, .none, false⟩]⟩,
   ⟨0xF0010004, 1, 0x1, 1, 0x1, 0x0, [⟨31, 0, .ro, .ro, .none, false⟩]⟩,
   ⟨0xF0010100, 16, 0x4, 1, 0x1, 0x0, [⟨0, 0, .rw, .rw, .none, false⟩, ⟨1, 1, .rw, .rw, .none, false⟩, ⟨2, 2, .rw, .rw, .none, false⟩, ⟨4, 3, .rw, .rw, .none, false⟩, ⟨5, 5, .ro, .w1c, .none, false⟩, ⟨10, 6, .ro, .ro, .none, false⟩, ⟨11, 11, .ro, .ro, .none, false⟩]⟩,
   ⟨0xF0010140, 16, 0x8, 1, 0x1, 0x0, [⟨31, 0, .ro, .ro, .none, false⟩]⟩,
   ⟨0xF0010144, 16, 0x8, 1, 0x1, 0x0, [⟨31, 0, .ro, .ro, .none, false⟩]⟩,
   ⟨0xF0010048, 1, 0x1, 1, 0x1, 0x0, [⟨15, 0, .ro, .w1c, .none, true⟩, ⟨22, 16, .ro, .ro, .none, false⟩, ⟨31, 24, .ro, .w1c, .none, true⟩]⟩,
   ⟨0xF0010040, 2, 0x4, 1, 0x1, 0x0, [⟨15, 0, .ro, .rw, .none, false⟩, ⟨31, 16, .ro, .rw, .none, false⟩]⟩,
   ⟨0xF001000C, 1, 0x1, 1, 0x1, 0x9064, [⟨9, 0, .ro, .rw, .range 1 1000, false⟩, ⟨13, 10, .ro, .rw, .range 2 15, false⟩, ⟨14, 14, .ro, .rw, .none, false⟩, ⟨15, 15, .ro, .rw, .none, false⟩, ⟨16, 16, .ro, .w1p, .none, false⟩]⟩,
   ⟨0xF0010020, 1, 0x10, 1, 0x1, 0x800002, [⟨1, 0, .ro, .rw, .above 2 0, false⟩, ⟨2, 2, .ro, .rw, .none, false⟩, ⟨3, 3, .ro, .rw, .none, false⟩, ⟨10, 4, .ro, .rw, .none, false⟩, ⟨11, 11, .ro, .ro, .none, false⟩, ⟨12, 12, .ro, .w1c, .none, false⟩, ⟨13, 13, .ro, .ro, .none, false⟩, ⟨23, 16, .ro, .rw, .none, false⟩, ⟨31, 24, .ro, .rw, .none, false⟩]⟩,
   ⟨0xF0010030, 1, 0x10, 1, 0x1, 0x800000, [⟨1, 0, .ro, .rw, .above 2 0, false⟩, ⟨2, 2, .ro, .rw, .none, false⟩, ⟨3, 3, .ro, .rw, .none, false⟩, ⟨10, 4, .ro, .rw, .none, false⟩, ⟨11, 11, .ro, .ro, .none, false⟩, ⟨12, 12, .ro, .w1c, .none, false⟩, ⟨13, 13, .ro, .ro, .none, false⟩, ⟨23, 16, .ro, .rw, .none, false⟩, ⟨31, 24, .ro, .rw, .none, false⟩]⟩,
   ⟨0xF0010024, 2, 0x10, 1, 0x1, 0x0, [⟨31, 0, .ro, .ro, .none, false⟩]⟩,
   ⟨0xF0010028, 2, 0x10, 1, 0x1, 0x0, [⟨31, 0, .ro, .ro, .none, false⟩]⟩,
   ⟨0xF001002C, 2, 0x10, 1, 0x1, 0xFF, [⟨7, 0, .ro, .ro, .none, false⟩, ⟨15, 8, .ro, .ro, .none, false⟩, ⟨31, 16, .ro, .ro, .none, false⟩]⟩]

/-- Registers of block 2. -/
def regsBeam : List RegD :=
[⟨0xF0020040, 16, 0x1000, 1, 0x1, 0x7FFFFFFF, [⟨31, 0, .ro, .rw, .none, false⟩]⟩,
   ⟨0xF0020044, 16, 0x1000, 1, 0x1, 0x7FFFFFFF, [⟨31, 0, .ro, .rw, .none, false⟩]⟩,
   ⟨0xF0020048, 16, 0x1000, 1, 0x1, 0x80000000, [⟨31, 0, .ro, .rw, .none, false⟩]⟩,
   ⟨0xF002004C, 16, 0x1000, 1, 0x1, 0x80000000, [⟨31, 0, .ro, .rw, .none, false⟩]⟩,
   ⟨0xF0020050, 16, 0x1000, 1, 0x1, 0x0, [⟨26, 14, .ro, .rw, .none, false⟩]⟩,
   ⟨0xF0020080, 16, 0x1000, 1, 0x1, 0xFFFF0000, [⟨2, 0, .ro, .ro, .none, false⟩, ⟨3, 3, .ro, .ro, .none, false⟩, ⟨5, 4, .ro, .ro, .none, false⟩, ⟨6, 6, .ro, .ro, .none, false⟩, ⟨7, 7, .ro, .w1c, .none, false⟩, ⟨13, 8, .ro, .ro, .none, false⟩, ⟨31, 16, .ro, .ro, .none, false⟩]⟩,
   ⟨0xF0020084, 16, 0x1000, 1, 0x1, 0x0, [⟨21, 0, .ro, .ro, .none, false⟩, ⟨31, 31, .ro, .ro, .none, false⟩]⟩,
   ⟨0xF0020088, 16, 0x1000, 1, 0x1, 0x0, [⟨31, 0, .ro, .ro, .none, false⟩]⟩,
   ⟨0xF002008C, 16, 0x1000, 1, 0x1, 0x0, [⟨7, 0, .rw, .rw, .none, false⟩, ⟨15, 8, .ro, .ro, .none, false⟩, ⟨23, 16, .ro, .w1c, .none, false⟩]⟩,
   ⟨0xF0020100, 16, 0x1000, 1, 0x1, 0x0, [⟨1, 0, .ro, .rw, .none, false⟩, ⟨3, 2, .ro, .ro, .none, false⟩, ⟨5, 4, .ro, .rw, .above 2 0, false⟩, ⟨6, 6, .ro, .rw, .none, false⟩, ⟨31, 16, .ro, .ro, .none, false⟩]⟩,
   ⟨0xF0020104, 16, 0x1000, 1, 0x1, 0x0, [⟨15, 0, .ro, .rw, .none, false⟩]⟩,
   ⟨0xF0020110, 16, 0x1000, 1, 0x1, 0x4000000, [⟨31, 0, .ro, .rw, .none, false⟩]⟩,
   ⟨0xF0020114, 16, 0x1000, 1, 0x1, 0x0, [⟨31, 0, .ro, .rw, .none, false⟩]⟩,
   ⟨0xF0020118, 16, 0x1000, 1, 0x1, 0x0, [⟨31, 0, .ro, .rw, .none, false⟩]⟩,
   ⟨0xF002011C, 16, 0x1000, 1, 0x1, 0x4000000, [⟨31, 0, .ro, .rw, .none, false⟩]⟩,
   ⟨0xF0020120, 16, 0x1000, 1, 0x1, 0x0, [⟨31, 0, .ro, .rw, .none, false⟩]⟩,
   ⟨0xF0020124, 16, 0x1000, 1, 0x1, 0x0, [⟨31, 0, .ro, .rw, .none, false⟩]⟩,
   ⟨0xF0020128, 16, 0x1000, 1, 0x1, 0x4000000, [⟨31, 0, .ro, .rw, .none, false⟩]⟩,
   ⟨0xF002012C, 16, 0x1000, 1, 0x1, 0x0, [⟨31, 0, .ro, .rw, .none, false⟩]⟩,
   ⟨0xF0020130, 16, 0x1000, 1, 0x1, 0x0, [⟨26, 6, .ro, .rw, .none, false⟩, ⟨31, 31, .ro, .ro, .none, false⟩]⟩,
   ⟨0xF0020140, 16, 0x1000, 1, 0x1, 0x640, [⟨0, 0, .ro, .rw, .none, false⟩, ⟨1, 1, .ro, .rw, .none, false⟩, ⟨2, 2, .ro, .w1p, .none, false⟩, ⟨13, 4, .ro, .rw, .range 0 1000, false⟩, ⟨14, 14, .ro, .w1c, .none, false⟩, ⟨15, 15, .ro, .ro, .none, false⟩, ⟨16, 16, .ro, .ro, .none, false⟩, ⟨17, 17, .ro, .ro, .none, false⟩]⟩,
   ⟨0xF0020148, 16, 0x1000, 1, 0x1, 0x0, [⟨31, 0, .ro, .ro, .none, false⟩]⟩,
   ⟨0xF002014C, 16, 0x1000, 1, 0x1, 0x0, [⟨31, 0, .ro, .ro, .none, false⟩]⟩,
   ⟨0xF0020150, 16, 0x1000, 1, 0x1, 0x3040800, [⟨15, 0, .ro, .rw, .none, false⟩, ⟨23, 16, .ro, .rw, .zero 1, false⟩, ⟨24, 24, .ro, .rw, .none, false⟩, ⟨25, 25, .ro, .rw, .none, false⟩]⟩,
   ⟨0xF0020154, 16, 0x1000, 1, 0x1, 0x0, [⟨15, 0, .ro, .w1c, .none, true⟩, ⟨17, 16, .ro, .ro, .none, false⟩]⟩]
  ++ [⟨0xF0020160, 16, 0x1000, 1, 0x1, 0x0, [⟨7, 0, .ro, .w1c, .none, true⟩, ⟨15, 8, .ro, .w1c, .none, true⟩, ⟨23, 16, .ro, .w1c, .none, true⟩, ⟨31, 24, .ro, .w1c, .none, true⟩]⟩]

/-- Registers of block 3. -/
def regsArb : List RegD :=
[⟨0xF0030000, 1, 0x1, 1, 0x1, 0x1, [⟨1, 0, .ro, .rw, .above 2 1, false⟩, ⟨2, 2, .ro, .rw, .none, false⟩, ⟨3, 3, .ro, .rw, .none, false⟩, ⟨8, 8, .ro, .w1c, .none, false⟩]⟩,
   ⟨0xF0030004, 1, 0x1, 1, 0x1, 0x3E8, [⟨9, 0, .ro, .rw, .range 250 1000, false⟩]⟩,
   ⟨0xF0030008, 1, 0x1, 1, 0x1, 0x4E20, [⟨19, 0, .ro, .rw, .range 1000 1048575, false⟩]⟩,
   ⟨0xF003000C, 1, 0x1, 1, 0x1, 0x0, [⟨15, 0, .ro, .rw, .none, false⟩, ⟨31, 16, .ro, .ro, .none, false⟩]⟩,
   ⟨0xF0030010, 1, 0x1, 1, 0x1, 0x0, [⟨31, 0, .ro, .rw, .none, false⟩]⟩,
   ⟨0xF0030014, 1, 0x1, 1, 0x1, 0x0, [⟨15, 0, .ro, .rw, .range 0 0x4000, false⟩, ⟨31, 16, .ro, .rw, .none, false⟩]⟩,
   ⟨0xF0030018, 1, 0x1, 1, 0x1, 0xFFFFFFFF, [⟨15, 0, .ro, .rw, .none, false⟩, ⟨31, 16, .ro, .rw, .none, false⟩]⟩,
   ⟨0xF003001C, 1, 0x1, 1, 0x1, 0xFFFFFFFF, [⟨15, 0, .ro, .rw, .none, false⟩, ⟨31, 16, .ro, .rw, .none, false⟩]⟩,
   ⟨0xF0030020, 1, 0x1, 1, 0x1, 0x1F40040, [⟨8, 0, .ro, .rw, .range 1 256, false⟩, ⟨31, 16, .ro, .rw, .none, false⟩]⟩,
   ⟨0xF0030024, 1, 0x1, 1, 0x1, 0x0, [⟨26, 12, .ro, .rw, .none, false⟩]⟩,
   ⟨0xF0030030, 1, 0x1, 1, 0x1, 0x0, [⟨0, 0, .ro, .ro, .none, false⟩, ⟨1, 1, .ro, .ro, .none, false⟩, ⟨2, 2, .ro, .ro, .none, false⟩, ⟨3, 3, .ro, .ro, .none, false⟩, ⟨31, 16, .ro, .ro, .none, false⟩]⟩,
   ⟨0xF0030034, 1, 0x1, 1, 0x1, 0x0, [⟨15, 0, .ro, .w1s, .none, false⟩]⟩,
   ⟨0xF0030038, 1, 0x1, 1, 0x1, 0x0, [⟨15, 0, .ro, .w1p, .none, false⟩]⟩,
   ⟨0xF0030100, 16, 0x4, 1, 0x1, 0xF0, [⟨2, 0, .ro, .rw, .none, false⟩, ⟨7, 4, .ro, .rw, .none, false⟩]⟩,
   ⟨0xF0030140, 16, 0x4, 1, 0x1, 0x0, [⟨0, 0, .ro, .ro, .none, false⟩, ⟨1, 1, .ro, .ro, .none, false⟩, ⟨2, 2, .ro, .ro, .none, false⟩, ⟨3, 3, .ro, .ro, .none, false⟩, ⟨7, 4, .ro, .ro, .none, false⟩, ⟨15, 8, .ro, .ro, .none, false⟩, ⟨22, 20, .ro, .ro, .none, false⟩]⟩,
   ⟨0xF0030200, 16, 0x10, 1, 0x1, 0x0, [⟨9, 0, .ro, .ro, .none, false⟩, ⟨25, 16, .ro, .ro, .none, false⟩]⟩,
   ⟨0xF0030204, 16, 0x10, 1, 0x1, 0x0, [⟨9, 0, .ro, .ro, .none, false⟩, ⟨25, 16, .ro, .ro, .none, false⟩]⟩,
   ⟨0xF0030208, 16, 0x10, 1, 0x1, 0x0, [⟨31, 0, .ro, .ro, .none, false⟩]⟩,
   ⟨0xF0030400, 8, 0x20, 1, 0x1, 0x0, [⟨5, 0, .ro, .rw, .none, false⟩, ⟨8, 8, .ro, .rw, .none, false⟩, ⟨10, 9, .ro, .ro, .none, false⟩, ⟨11, 11, .ro, .w1c, .none, false⟩]⟩,
   ⟨0xF0030404, 8, 0x20, 1, 0x1, 0x7FFFFFFF, [⟨31, 0, .ro, .rw, .none, false⟩]⟩,
   ⟨0xF0030408, 8, 0x20, 1, 0x1, 0x7FFFFFFF, [⟨31, 0, .ro, .rw, .none, false⟩]⟩,
   ⟨0xF003040C, 8, 0x20, 1, 0x1, 0x80000000, [⟨31, 0, .ro, .rw, .none, false⟩]⟩,
   ⟨0xF0030410, 8, 0x20, 1, 0x1, 0x80000000, [⟨31, 0, .ro, .rw, .none, false⟩]⟩]

/-- Registers of block 4. -/
def regsBedmap : List RegD :=
[⟨0xF0040000, 1, 0x1, 1, 0x1, 0xF0BDC000, [⟨31, 0, .ro, .rw, .none, false⟩]⟩,
   ⟨0xF0040004, 1, 0x1, 1, 0x1, 0xF0BDC000, [⟨31, 0, .ro, .rw, .none, false⟩]⟩,
   ⟨0xF0040008, 1, 0x1, 1, 0x1, 0x2000200, [⟨10, 0, .ro, .rw, .none, false⟩, ⟨26, 16, .ro, .rw, .none, false⟩, ⟨30, 30, .ro, .ro, .none, false⟩, ⟨31, 31, .ro, .w1c, .none, false⟩]⟩,
   ⟨0xF004000C, 1, 0x1, 1, 0x1, 0x3E8, [⟨13, 0, .ro, .rw, .none, false⟩]⟩,
   ⟨0xF0040010, 1, 0x1, 1, 0x1, 0x186A0, [⟨31, 0, .ro, .rw, .none, false⟩]⟩,
   ⟨0xF0040014, 1, 0x1, 1, 0x1, 0x10000, [⟨31, 0, .ro, .rw, .zero 1, false⟩]⟩]

/-- Registers of block 5. -/
def regsLoop : List RegD :=
[⟨0xF0050000, 1, 0x1, 1, 0x1, 0x0, [⟨0, 0, .ro, .rw, .none, false⟩, ⟨8, 8, .ro, .w1c, .none, false⟩, ⟨17, 16, .ro, .ro, .none, false⟩]⟩,
   ⟨0xF0050004, 1, 0x1, 1, 0x1, 0x7D000C0, [⟨15, 0, .ro, .ro, .none, false⟩, ⟨31, 16, .ro, .ro, .none, false⟩]⟩,
   ⟨0xF0050008, 1, 0x1, 1, 0x1, 0x0, [⟨3, 0, .ro, .ro, .none, false⟩, ⟨7, 4, .ro, .ro, .none, false⟩, ⟨12, 8, .ro, .ro, .none, false⟩]⟩,
   ⟨0xF0050010, 1, 0x1, 1, 0x1, 0x0, [⟨3, 0, .rw, .rw, .none, false⟩, ⟨5, 4, .rw, .rw, .above 2 0, false⟩, ⟨6, 6, .rw, .rw, .none, false⟩, ⟨7, 7, .w1p, .w1p, .none, false⟩, ⟨8, 8, .w1p, .w1p, .none, false⟩]⟩,
   ⟨0xF0050014, 1, 0x1, 1, 0x1, 0x24001820, [⟨5, 0, .rw, .rw, .above 36 0, false⟩, ⟨13, 8, .rw, .rw, .above 36 0, false⟩, ⟨21, 16, .rw, .rw, .above 36 0, false⟩, ⟨29, 24, .rw, .rw, .above 36 0, false⟩]⟩,
   ⟨0xF0050018, 1, 0x1, 1, 0x1, 0x0, [⟨26, 19, .rw, .rw, .none, false⟩]⟩,
   ⟨0xF005001C, 1, 0x1, 1, 0x1, 0x0, [⟨16, 0, .ro, .ro, .none, false⟩, ⟨17, 17, .ro, .ro, .none, false⟩, ⟨18, 18, .ro, .w1c, .none, false⟩, ⟨19, 19, .ro, .ro, .none, false⟩, ⟨20, 20, .ro, .ro, .none, false⟩]⟩,
   ⟨0xF0050020, 1, 0x1, 1, 0x1, 0x0, [⟨31, 0, .ro, .ro, .none, false⟩]⟩,
   ⟨0xF0050024, 1, 0x1, 1, 0x1, 0x0, [⟨31, 0, .ro, .ro, .none, false⟩]⟩,
   ⟨0xF0050030, 1, 0x1, 1, 0x1, 0x0, [⟨0, 0, .rw, .rw, .none, false⟩, ⟨1, 1, .rw, .rw, .none, false⟩, ⟨5, 2, .rw, .rw, .none, false⟩, ⟨31, 16, .rw, .rw, .none, false⟩]⟩,
   ⟨0xF0050034, 1, 0x1, 1, 0x1, 0x0, [⟨26, 1, .rw, .rw, .none, false⟩]⟩,
   ⟨0xF0050038, 1, 0x1, 1, 0x1, 0x1, [⟨16, 0, .rw, .rw, .range 1 65536, false⟩]⟩,
   ⟨0xF0050100, 16, 0x40, 1, 0x1, 0xC00F, [⟨1, 0, .ro, .rw, .none, false⟩, ⟨3, 2, .ro, .ro, .none, false⟩, ⟨9, 4, .ro, .rw, .range 0 32, false⟩, ⟨15, 12, .ro, .rw, .none, false⟩]⟩,
   ⟨0xF0050104, 16, 0x40, 1, 0x1, 0x0, [⟨26, 13, .ro, .rw, .none, false⟩]⟩,
   ⟨0xF0050108, 16, 0x40, 1, 0x1, 0xFFFF0000, [⟨15, 0, .ro, .rw, .none, false⟩, ⟨31, 16, .ro, .rw, .none, false⟩]⟩,
   ⟨0xF005010C, 16, 0x40, 1, 0x1, 0x0, [⟨15, 0, .ro, .rw, .none, false⟩, ⟨31, 16, .ro, .rw, .none, false⟩]⟩,
   ⟨0xF0050110, 16, 0x40, 1, 0x1, 0x0, [⟨15, 0, .ro, .rw, .none, false⟩, ⟨16, 16, .ro, .w1p, .none, false⟩]⟩,
   ⟨0xF0050114, 16, 0x40, 1, 0x1, 0xFFFFFFFF, [⟨15, 0, .ro, .rw, .none, false⟩, ⟨31, 16, .ro, .rw, .none, false⟩]⟩,
   ⟨0xF0050118, 16, 0x40, 1, 0x1, 0xFFFFFFFF, [⟨15, 0, .ro, .rw, .none, false⟩, ⟨31, 16, .ro, .rw, .none, false⟩]⟩,
   ⟨0xF005011C, 16, 0x40, 1, 0x1, 0xFFFFFFFF, [⟨15, 0, .ro, .rw, .none, false⟩, ⟨31, 16, .ro, .rw, .none, false⟩]⟩,
   ⟨0xF0050120, 16, 0x40, 1, 0x1, 0xA00001F, [⟨4, 0, .ro, .rw, .none, false⟩, ⟨6, 5, .ro, .rw, .none, false⟩, ⟨16, 7, .ro, .rw, .none, false⟩, ⟨19, 17, .ro, .rw, .none, false⟩, ⟨20, 20, .ro, .rw, .none, false⟩, ⟨31, 24, .ro, .rw, .none, false⟩]⟩,
   ⟨0xF0050124, 16, 0x40, 1, 0x1, 0x0, [⟨15, 0, .ro, .w1c, .none, true⟩, ⟨18, 16, .ro, .ro, .none, false⟩, ⟨19, 19, .ro, .ro, .none, false⟩, ⟨20, 20, .ro, .ro, .none, false⟩, ⟨21, 21, .ro, .ro, .none, false⟩, ⟨29, 24, .ro, .ro, .none, false⟩]⟩,
   ⟨0xF0050128, 16, 0x40, 1, 0x1, 0x0, [⟨15, 0, .ro, .ro, .none, false⟩, ⟨23, 16, .ro, .ro, .none, false⟩, ⟨25, 24, .ro, .ro, .none, false⟩, ⟨26, 26, .ro, .ro, .none, false⟩]⟩,
   ⟨0xF0051000, 16, 0x80, 32, 0x4, 0x0, [⟨31, 0, .ro, .rw, .none, false⟩]⟩,
   ⟨0xF0052000, 16, 0x80, 32, 0x4, 0x0, [⟨31, 0, .ro, .ro, .none, false⟩]⟩]

/-- Registers of block 6. -/
def regsImg : List RegD :=
[⟨0xF0060000, 1, 0x1, 1, 0x1, 0x0, [⟨0, 0, .ro, .w1c, .none, false⟩, ⟨3, 1, .ro, .ro, .none, false⟩, ⟨8, 4, .ro, .ro, .none, false⟩]⟩,
   ⟨0xF0060010, 4, 0x4, 1, 0x1, 0x1F0000, [⟨15, 0, .ro, .ro, .none, false⟩, ⟨20, 16, .ro, .ro, .none, false⟩]⟩,
   ⟨0xF0060100, 20, 0x80, 1, 0x1, 0x10000, [⟨0, 0, .ro, .rw, .none, false⟩, ⟨1, 1, .ro, .rw, .none, false⟩, ⟨2, 2, .ro, .rw, .none, false⟩, ⟨5, 4, .ro, .rw, .none, false⟩, ⟨7, 6, .ro, .rw, .none, false⟩, ⟨10, 8, .ro, .rw, .none, false⟩, ⟨20, 16, .ro, .rw, .above 16 16, false⟩]⟩,
   ⟨0xF0060104, 16, 0x80, 1, 0x1, 0x800080, [⟨12, 0, .ro, .rw, .range 1 192, false⟩, ⟨28, 16, .ro, .rw, .range 1 192, false⟩]⟩,
   ⟨0xF0060904, 4, 0x80, 1, 0x1, 0x800080, [⟨12, 0, .ro, .rw, .range 1 4096, false⟩, ⟨28, 16, .ro, .rw, .range 1 3072, false⟩]⟩,
   ⟨0xF0060108, 20, 0x80, 1, 0x1, 0x24E20, [⟨15, 0, .ro, .rw, .zero 1, false⟩, ⟨17, 16, .ro, .rw, .none, false⟩]⟩,
   ⟨0xF006010C, 20, 0x80, 1, 0x1, 0x0, [⟨26, 6, .ro, .rw, .none, false⟩]⟩,
   ⟨0xF0060110, 20, 0x80, 1, 0x1, 0x0, [⟨26, 8, .ro, .rw, .none, false⟩, ⟨31, 31, .ro, .ro, .none, false⟩]⟩,
   ⟨0xF0060114, 20, 0x80, 1, 0x1, 0x2710, [⟨31, 0, .rw, .rw, .none, false⟩]⟩,
   ⟨0xF0060118, 20, 0x80, 1, 0x1, 0x100, [⟨15, 0, .rw, .rw, .none, false⟩]⟩,
   ⟨0xF006011C, 20, 0x80, 1, 0x1, 0x0, [⟨31, 0, .rw, .rw, .none, false⟩]⟩,
   ⟨0xF0060120, 20, 0x80, 1, 0x1, 0x0, [⟨15, 0, .rw, .rw, .none, false⟩, ⟨31, 16, .rw, .rw, .none, false⟩]⟩,
   ⟨0xF0060124, 20, 0x80, 1, 0x1, 0x800080, [⟨15, 0, .rw, .rw, .none, false⟩, ⟨31, 16, .rw, .rw, .none, false⟩]⟩,
   ⟨0xF0060128, 20, 0x80, 1, 0x1, 0x0, [⟨31, 0, .wo, .wo, .none, false⟩]⟩,
   ⟨0xF006012C, 20, 0x80, 1, 0x1, 0x0, [⟨7, 0, .ro, .ro, .none, false⟩, ⟨15, 8, .ro, .ro, .none, false⟩, ⟨16, 16, .ro, .ro, .none, false⟩, ⟨17, 17, .ro, .ro, .none, false⟩, ⟨18, 18, .ro, .w1c, .none, false⟩, ⟨22, 20, .ro, .ro, .none, false⟩]⟩,
   ⟨0xF0060130, 20, 0x80, 1, 0x1, 0x0, [⟨31, 0, .ro, .ro, .none, false⟩]⟩,
   ⟨0xF0060134, 20, 0x80, 1, 0x1, 0x0, [⟨15, 0, .ro, .w1c, .none, true⟩, ⟨23, 16, .ro, .w1c, .none, true⟩, ⟨31, 24, .ro, .w1c, .none, true⟩]⟩,
   ⟨0xF0060138, 20, 0x80, 4, 0x4, 0x0, [⟨3, 0, .ro, .ro, .none, false⟩, ⟨31, 16, .ro, .ro, .none, false⟩]⟩]

/-- Registers of block 7. -/
def regsAxes : List RegD :=
[⟨0xF0070000, 1, 0x1, 1, 0x1, 0x0, [⟨7, 0, .w1p, .w1p, .none, false⟩]⟩,
   ⟨0xF0070004, 1, 0x1, 1, 0x1, 0x76543210, [⟨31, 0, .ro, .rw, .none, false⟩]⟩,
   ⟨0xF0070008, 1, 0x1, 1, 0x1, 0x8, [⟨3, 0, .ro, .rw, .none, false⟩]⟩,
   ⟨0xF007000C, 1, 0x1, 1, 0x1, 0x0, [⟨0, 0, .ro, .ro, .none, false⟩, ⟨15, 8, .ro, .w1c, .none, true⟩]⟩,
   ⟨0xF0070010, 1, 0x1, 1, 0x1, 0x0, [⟨31, 0, .ro, .ro, .none, false⟩]⟩,
   ⟨0xF0070014, 1, 0x1, 1, 0x1, 0x0, [⟨31, 0, .ro, .ro, .none, false⟩]⟩,
   ⟨0xF0070100, 2, 0x80, 1, 0x1, 0x64080006, [⟨0, 0, .ro, .rw, .none, false⟩, ⟨1, 1, .ro, .ro, .none, false⟩, ⟨2, 2, .ro, .rw, .none, false⟩, ⟨3, 3, .ro, .rw, .none, false⟩, ⟨4, 4, .ro, .rw, .none, false⟩, ⟨5, 5, .ro, .rw, .none, false⟩, ⟨6, 6, .ro, .rw, .none, false⟩, ⟨7, 7, .ro, .rw, .none, false⟩, ⟨9, 8, .ro, .rw, .above 2 0, false⟩, ⟨15, 12, .ro, .rw, .none, false⟩, ⟨19, 16, .ro, .rw, .range 0 8, false⟩, ⟨31, 24, .ro, .rw, .none, false⟩]⟩,
   ⟨0xF0070200, 6, 0x80, 1, 0x1, 0x64080004, [⟨0, 0, .ro, .rw, .none, false⟩, ⟨1, 1, .ro, .ro, .none, false⟩, ⟨2, 2, .ro, .rw, .none, false⟩, ⟨3, 3, .ro, .rw, .none, false⟩, ⟨4, 4, .ro, .rw, .none, false⟩, ⟨5, 5, .ro, .rw, .none, false⟩, ⟨6, 6, .ro, .rw, .none, false⟩, ⟨7, 7, .ro, .rw, .none, false⟩, ⟨9, 8, .ro, .rw, .above 2 0, false⟩, ⟨15, 12, .ro, .rw, .none, false⟩, ⟨19, 16, .ro, .rw, .range 0 8, false⟩, ⟨31, 24, .ro, .rw, .none, false⟩]⟩,
   ⟨0xF0070104, 8, 0x80, 1, 0x1, 0x3E80000, [⟨31, 0, .rw, .rw, .zero 1, false⟩]⟩,
   ⟨0xF0070108, 8, 0x80, 1, 0x1, 0x271000, [⟨31, 0, .rw, .rw, .range 256 1024000000, false⟩]⟩,
   ⟨0xF007010C, 8, 0x80, 1, 0x1, 0x0, [⟨31, 0, .rw, .rw, .none, false⟩]⟩,
   ⟨0xF0070110, 8, 0x80, 1, 0x1, 0x0, [⟨3, 0, .wo, .wo, .none, false⟩, ⟨4, 4, .wo, .wo, .none, false⟩, ⟨31, 28, .ro, .ro, .none, false⟩]⟩,
   ⟨0xF0070114, 8, 0x80, 1, 0x1, 0x0, [⟨31, 0, .ro, .ro, .none, false⟩]⟩,
   ⟨0xF0070118, 8, 0x80, 1, 0x1, 0x0, [⟨31, 0, .ro, .ro, .none, false⟩]⟩,
   ⟨0xF007011C, 8, 0x80, 1, 0x1, 0x80007, [⟨2, 0, .ro, .ro, .none, false⟩, ⟨3, 3, .ro, .ro, .none, false⟩, ⟨4, 4, .ro, .ro, .none, false⟩, ⟨5, 5, .ro, .ro, .none, false⟩, ⟨6, 6, .ro, .w1c, .none, false⟩, ⟨7, 7, .ro, .w1c, .none, false⟩, ⟨8, 8, .ro, .w1c, .none, false⟩, ⟨9, 9, .ro, .w1c, .none, false⟩, ⟨10, 10, .ro, .w1c, .none, false⟩, ⟨11, 11, .ro, .w1c, .none, false⟩, ⟨12, 12, .ro, .w1c, .none, false⟩, ⟨13, 13, .ro, .ro, .none, false⟩, ⟨14, 14, .ro, .ro, .none, false⟩, ⟨15, 15, .ro, .ro, .none, false⟩, ⟨19, 16, .ro, .ro, .none, false⟩, ⟨31, 24, .ro, .w1c, .none, true⟩]⟩,
   ⟨0xF0070120, 8, 0x80, 1, 0x1, 0x80000000, [⟨31, 0, .ro, .rw, .none, false⟩]⟩,
   ⟨0xF0070124, 8, 0x80, 1, 0x1, 0x7FFFFFFF, [⟨31, 0, .ro, .rw, .none, false⟩]⟩,
   ⟨0xF0070128, 8, 0x80, 1, 0x1, 0x640000, [⟨0, 0, .ro, .rw, .none, false⟩, ⟨1, 1, .ro, .rw, .none, false⟩, ⟨31, 16, .ro, .rw, .zero 1, false⟩]⟩,
   ⟨0xF007012C, 8, 0x80, 1, 0x1, 0x0, [⟨31, 0, .ro, .rw, .none, false⟩]⟩,
   ⟨0xF0070130, 8, 0x80, 1, 0x1, 0x1000000, [⟨31, 0, .ro, .rw, .none, false⟩]⟩,
   ⟨0xF0070134, 8, 0x80, 1, 0x1, 0x323214, [⟨5, 0, .ro, .rw, .range 1 50, false⟩, ⟨13, 8, .ro, .rw, .none, false⟩, ⟨21, 16, .ro, .rw, .none, false⟩]⟩,
   ⟨0xF0070138, 8, 0x80, 1, 0x1, 0x30D40, [⟨19, 0, .ro, .rw, .range 1 1000000, false⟩]⟩,
   ⟨0xF007013C, 8, 0x80, 1, 0x1, 0x10000, [⟨31, 0, .ro, .rw, .none, false⟩]⟩,
   ⟨0xF0070140, 8, 0x80, 1, 0x1, 0x10, [⟨15, 0, .ro, .rw, .none, false⟩]⟩,
   ⟨0xF0070144, 2, 0x80, 1, 0x1, 0x80000000, [⟨1, 0, .ro, .rw, .none, false⟩, ⟨31, 16, .ro, .rw, .none, false⟩]⟩]
  ++ [⟨0xF0070148, 2, 0x80, 1, 0x1, 0x4000, [⟨15, 0, .ro, .rw, .none, false⟩]⟩,
   ⟨0xF0071000, 2, 0x200, 128, 0x4, 0x0, [⟨14, 0, .ro, .rw, .none, false⟩, ⟨30, 16, .ro, .rw, .none, false⟩]⟩]

/-- Registers of block 8. -/
def regsLanes : List RegD :=
[⟨0xF0080000, 1, 0x1, 1, 0x1, 0x0, [⟨3, 0, .ro, .rw, .none, false⟩]⟩,
   ⟨0xF0080010, 4, 0x4, 1, 0x1, 0x75, [⟨2, 0, .ro, .rw, .none, false⟩, ⟨6, 4, .ro, .rw, .none, false⟩, ⟨8, 8, .ro, .ro, .none, false⟩, ⟨9, 9, .ro, .ro, .none, false⟩, ⟨12, 12, .ro, .w1c, .none, false⟩]⟩,
   ⟨0xF0080020, 1, 0x4, 1, 0x1, 0x30, [⟨2, 0, .ro, .rw, .none, false⟩, ⟨6, 4, .ro, .rw, .none, false⟩, ⟨8, 8, .ro, .ro, .none, false⟩, ⟨9, 9, .ro, .ro, .none, false⟩, ⟨12, 12, .ro, .w1c, .none, false⟩]⟩,
   ⟨0xF0080024, 2, 0x4, 1, 0x1, 0x75, [⟨2, 0, .ro, .rw, .none, false⟩, ⟨6, 4, .ro, .rw, .none, false⟩, ⟨8, 8, .ro, .ro, .none, false⟩, ⟨9, 9, .ro, .ro, .none, false⟩, ⟨12, 12, .ro, .w1c, .none, false⟩]⟩,
   ⟨0xF008002C, 1, 0x4, 1, 0x1, 0x35, [⟨2, 0, .ro, .rw, .none, false⟩, ⟨6, 4, .ro, .rw, .none, false⟩, ⟨8, 8, .ro, .ro, .none, false⟩, ⟨9, 9, .ro, .ro, .none, false⟩, ⟨12, 12, .ro, .w1c, .none, false⟩]⟩,
   ⟨0xF0080030, 1, 0x4, 1, 0x1, 0x4062, [⟨3, 0, .ro, .rw, .none, false⟩, ⟨9, 4, .ro, .rw, .none, false⟩, ⟨15, 12, .ro, .rw, .none, false⟩]⟩,
   ⟨0xF0080034, 1, 0x4, 1, 0x1, 0x5082, [⟨3, 0, .ro, .rw, .none, false⟩, ⟨9, 4, .ro, .rw, .none, false⟩, ⟨15, 12, .ro, .rw, .none, false⟩]⟩,
   ⟨0xF0080038, 1, 0x4, 1, 0x1, 0x60A2, [⟨3, 0, .ro, .rw, .none, false⟩, ⟨9, 4, .ro, .rw, .none, false⟩, ⟨15, 12, .ro, .rw, .none, false⟩]⟩,
   ⟨0xF008003C, 1, 0x4, 1, 0x1, 0x70C2, [⟨3, 0, .ro, .rw, .none, false⟩, ⟨9, 4, .ro, .rw, .none, false⟩, ⟨15, 12, .ro, .rw, .none, false⟩]⟩,
   ⟨0xF0080040, 1, 0x1, 1, 0x1, 0x14100064, [⟨15, 0, .ro, .rw, .zero 1, false⟩, ⟨23, 16, .ro, .rw, .zero 1, false⟩, ⟨31, 24, .ro, .rw, .zero 1, false⟩]⟩,
   ⟨0xF0080044, 1, 0x1, 1, 0x1, 0x40A08, [⟨5, 0, .ro, .rw, .none, false⟩, ⟨13, 8, .ro, .rw, .none, false⟩, ⟨19, 16, .ro, .rw, .range 0 8, false⟩]⟩,
   ⟨0xF0080048, 1, 0x1, 1, 0x1, 0x0, [⟨4, 0, .ro, .rw, .none, false⟩, ⟨8, 8, .ro, .w1p, .none, false⟩, ⟨9, 9, .ro, .ro, .none, false⟩, ⟨10, 10, .ro, .w1c, .none, false⟩, ⟨11, 11, .ro, .w1c, .none, false⟩]⟩,
   ⟨0xF008004C, 1, 0x1, 1, 0x1, 0x0, [⟨26, 15, .ro, .rw, .none, false⟩]⟩,
   ⟨0xF0080100, 1, 0x20, 1, 0x1, 0x2011, [⟨0, 0, .ro, .rw, .none, false⟩, ⟨1, 1, .ro, .rw, .none, false⟩, ⟨6, 4, .ro, .rw, .above 4 0, false⟩, ⟨11, 8, .ro, .rw, .none, false⟩, ⟨12, 12, .ro, .rw, .none, false⟩, ⟨13, 13, .ro, .rw, .none, false⟩, ⟨15, 14, .ro, .rw, .none, false⟩, ⟨16, 16, .ro, .rw, .none, false⟩, ⟨17, 17, .ro, .rw, .none, false⟩]⟩,
   ⟨0xF0080120, 1, 0x20, 1, 0x1, 0x2111, [⟨0, 0, .ro, .rw, .none, false⟩, ⟨1, 1, .ro, .rw, .none, false⟩, ⟨6, 4, .ro, .rw, .above 4 0, false⟩, ⟨11, 8, .ro, .rw, .none, false⟩, ⟨12, 12, .ro, .rw, .none, false⟩, ⟨13, 13, .ro, .rw, .none, false⟩, ⟨15, 14, .ro, .rw, .none, false⟩, ⟨16, 16, .ro, .rw, .none, false⟩, ⟨17, 17, .ro, .rw, .none, false⟩]⟩,
   ⟨0xF0080140, 1, 0x20, 1, 0x1, 0x2211, [⟨0, 0, .ro, .rw, .none, false⟩, ⟨1, 1, .ro, .rw, .none, false⟩, ⟨6, 4, .ro, .rw, .above 4 0, false⟩, ⟨11, 8, .ro, .rw, .none, false⟩, ⟨12, 12, .ro, .rw, .none, false⟩, ⟨13, 13, .ro, .rw, .none, false⟩, ⟨15, 14, .ro, .rw, .none, false⟩, ⟨16, 16, .ro, .rw, .none, false⟩, ⟨17, 17, .ro, .rw, .none, false⟩]⟩,
   ⟨0xF0080160, 1, 0x20, 1, 0x1, 0x2311, [⟨0, 0, .ro, .rw, .none, false⟩, ⟨1, 1, .ro, .rw, .none, false⟩, ⟨6, 4, .ro, .rw, .above 4 0, false⟩, ⟨11, 8, .ro, .rw, .none, false⟩, ⟨12, 12, .ro, .rw, .none, false⟩, ⟨13, 13, .ro, .rw, .none, false⟩, ⟨15, 14, .ro, .rw, .none, false⟩, ⟨16, 16, .ro, .rw, .none, false⟩, ⟨17, 17, .ro, .rw, .none, false⟩]⟩,
   ⟨0xF0080180, 1, 0x20, 1, 0x1, 0x2411, [⟨0, 0, .ro, .rw, .none, false⟩, ⟨1, 1, .ro, .rw, .none, false⟩, ⟨6, 4, .ro, .rw, .above 4 0, false⟩, ⟨11, 8, .ro, .rw, .none, false⟩, ⟨12, 12, .ro, .rw, .none, false⟩, ⟨13, 13, .ro, .rw, .none, false⟩, ⟨15, 14, .ro, .rw, .none, false⟩, ⟨16, 16, .ro, .rw, .none, false⟩, ⟨17, 17, .ro, .rw, .none, false⟩]⟩,
   ⟨0xF00801A0, 1, 0x20, 1, 0x1, 0x2511, [⟨0, 0, .ro, .rw, .none, false⟩, ⟨1, 1, .ro, .rw, .none, false⟩, ⟨6, 4, .ro, .rw, .above 4 0, false⟩, ⟨11, 8, .ro, .rw, .none, false⟩, ⟨12, 12, .ro, .rw, .none, false⟩, ⟨13, 13, .ro, .rw, .none, false⟩, ⟨15, 14, .ro, .rw, .none, false⟩, ⟨16, 16, .ro, .rw, .none, false⟩, ⟨17, 17, .ro, .rw, .none, false⟩]⟩,
   ⟨0xF00801C0, 1, 0x20, 1, 0x1, 0x2611, [⟨0, 0, .ro, .rw, .none, false⟩, ⟨1, 1, .ro, .rw, .none, false⟩, ⟨6, 4, .ro, .rw, .above 4 0, false⟩, ⟨11, 8, .ro, .rw, .none, false⟩, ⟨12, 12, .ro, .rw, .none, false⟩, ⟨13, 13, .ro, .rw, .none, false⟩, ⟨15, 14, .ro, .rw, .none, false⟩, ⟨16, 16, .ro, .rw, .none, false⟩, ⟨17, 17, .ro, .rw, .none, false⟩]⟩,
   ⟨0xF00801E0, 1, 0x20, 1, 0x1, 0x2711, [⟨0, 0, .ro, .rw, .none, false⟩, ⟨1, 1, .ro, .rw, .none, false⟩, ⟨6, 4, .ro, .rw, .above 4 0, false⟩, ⟨11, 8, .ro, .rw, .none, false⟩, ⟨12, 12, .ro, .rw, .none, false⟩, ⟨13, 13, .ro, .rw, .none, false⟩, ⟨15, 14, .ro, .rw, .none, false⟩, ⟨16, 16, .ro, .rw, .none, false⟩, ⟨17, 17, .ro, .rw, .none, false⟩]⟩,
   ⟨0xF0080200, 1, 0x20, 1, 0x1, 0x2811, [⟨0, 0, .ro, .rw, .none, false⟩, ⟨1, 1, .ro, .rw, .none, false⟩, ⟨6, 4, .ro, .rw, .above 4 0, false⟩, ⟨11, 8, .ro, .rw, .none, false⟩, ⟨12, 12, .ro, .rw, .none, false⟩, ⟨13, 13, .ro, .rw, .none, false⟩, ⟨15, 14, .ro, .rw, .none, false⟩, ⟨16, 16, .ro, .rw, .none, false⟩, ⟨17, 17, .ro, .rw, .none, false⟩]⟩,
   ⟨0xF0080220, 1, 0x20, 1, 0x1, 0x2911, [⟨0, 0, .ro, .rw, .none, false⟩, ⟨1, 1, .ro, .rw, .none, false⟩, ⟨6, 4, .ro, .rw, .above 4 0, false⟩, ⟨11, 8, .ro, .rw, .none, false⟩, ⟨12, 12, .ro, .rw, .none, false⟩, ⟨13, 13, .ro, .rw, .none, false⟩, ⟨15, 14, .ro, .rw, .none, false⟩, ⟨16, 16, .ro, .rw, .none, false⟩, ⟨17, 17, .ro, .rw, .none, false⟩]⟩,
   ⟨0xF0080240, 1, 0x20, 1, 0x1, 0x2A11, [⟨0, 0, .ro, .rw, .none, false⟩, ⟨1, 1, .ro, .rw, .none, false⟩, ⟨6, 4, .ro, .rw, .above 4 0, false⟩, ⟨11, 8, .ro, .rw, .none, false⟩, ⟨12, 12, .ro, .rw, .none, false⟩, ⟨13, 13, .ro, .rw, .none, false⟩, ⟨15, 14, .ro, .rw, .none, false⟩, ⟨16, 16, .ro, .rw, .none, false⟩, ⟨17, 17, .ro, .rw, .none, false⟩]⟩,
   ⟨0xF0080260, 1, 0x20, 1, 0x1, 0x2B11, [⟨0, 0, .ro, .rw, .none, false⟩, ⟨1, 1, .ro, .rw, .none, false⟩, ⟨6, 4, .ro, .rw, .above 4 0, false⟩, ⟨11, 8, .ro, .rw, .none, false⟩, ⟨12, 12, .ro, .rw, .none, false⟩, ⟨13, 13, .ro, .rw, .none, false⟩, ⟨15, 14, .ro, .rw, .none, false⟩, ⟨16, 16, .ro, .rw, .none, false⟩, ⟨17, 17, .ro, .rw, .none, false⟩]⟩]
  ++ [⟨0xF0080280, 1, 0x20, 1, 0x1, 0x2C11, [⟨0, 0, .ro, .rw, .none, false⟩, ⟨1, 1, .ro, .rw, .none, false⟩, ⟨6, 4, .ro, .rw, .above 4 0, false⟩, ⟨11, 8, .ro, .rw, .none, false⟩, ⟨12, 12, .ro, .rw, .none, false⟩, ⟨13, 13, .ro, .rw, .none, false⟩, ⟨15, 14, .ro, .rw, .none, false⟩, ⟨16, 16, .ro, .rw, .none, false⟩, ⟨17, 17, .ro, .rw, .none, false⟩]⟩,
   ⟨0xF00802A0, 1, 0x20, 1, 0x1, 0x2D11, [⟨0, 0, .ro, .rw, .none, false⟩, ⟨1, 1, .ro, .rw, .none, false⟩, ⟨6, 4, .ro, .rw, .above 4 0, false⟩, ⟨11, 8, .ro, .rw, .none, false⟩, ⟨12, 12, .ro, .rw, .none, false⟩, ⟨13, 13, .ro, .rw, .none, false⟩, ⟨15, 14, .ro, .rw, .none, false⟩, ⟨16, 16, .ro, .rw, .none, false⟩, ⟨17, 17, .ro, .rw, .none, false⟩]⟩,
   ⟨0xF00802C0, 1, 0x20, 1, 0x1, 0x2E11, [⟨0, 0, .ro, .rw, .none, false⟩, ⟨1, 1, .ro, .rw, .none, false⟩, ⟨6, 4, .ro, .rw, .above 4 0, false⟩, ⟨11, 8, .ro, .rw, .none, false⟩, ⟨12, 12, .ro, .rw, .none, false⟩, ⟨13, 13, .ro, .rw, .none, false⟩, ⟨15, 14, .ro, .rw, .none, false⟩, ⟨16, 16, .ro, .rw, .none, false⟩, ⟨17, 17, .ro, .rw, .none, false⟩]⟩,
   ⟨0xF00802E0, 1, 0x20, 1, 0x1, 0x2F11, [⟨0, 0, .ro, .rw, .none, false⟩, ⟨1, 1, .ro, .rw, .none, false⟩, ⟨6, 4, .ro, .rw, .above 4 0, false⟩, ⟨11, 8, .ro, .rw, .none, false⟩, ⟨12, 12, .ro, .rw, .none, false⟩, ⟨13, 13, .ro, .rw, .none, false⟩, ⟨15, 14, .ro, .rw, .none, false⟩, ⟨16, 16, .ro, .rw, .none, false⟩, ⟨17, 17, .ro, .rw, .none, false⟩]⟩,
   ⟨0xF0080300, 1, 0x20, 1, 0x1, 0x2023, [⟨0, 0, .ro, .rw, .none, false⟩, ⟨1, 1, .ro, .rw, .none, false⟩, ⟨6, 4, .ro, .rw, .above 4 0, false⟩, ⟨11, 8, .ro, .rw, .none, false⟩, ⟨12, 12, .ro, .rw, .none, false⟩, ⟨13, 13, .ro, .rw, .none, false⟩, ⟨15, 14, .ro, .rw, .none, false⟩, ⟨16, 16, .ro, .rw, .none, false⟩, ⟨17, 17, .ro, .rw, .none, false⟩]⟩,
   ⟨0xF0080320, 1, 0x20, 1, 0x1, 0x2123, [⟨0, 0, .ro, .rw, .none, false⟩, ⟨1, 1, .ro, .rw, .none, false⟩, ⟨6, 4, .ro, .rw, .above 4 0, false⟩, ⟨11, 8, .ro, .rw, .none, false⟩, ⟨12, 12, .ro, .rw, .none, false⟩, ⟨13, 13, .ro, .rw, .none, false⟩, ⟨15, 14, .ro, .rw, .none, false⟩, ⟨16, 16, .ro, .rw, .none, false⟩, ⟨17, 17, .ro, .rw, .none, false⟩]⟩,
   ⟨0xF0080340, 1, 0x20, 1, 0x1, 0x2031, [⟨0, 0, .ro, .rw, .none, false⟩, ⟨1, 1, .ro, .rw, .none, false⟩, ⟨6, 4, .ro, .rw, .above 4 0, false⟩, ⟨11, 8, .ro, .rw, .none, false⟩, ⟨12, 12, .ro, .rw, .none, false⟩, ⟨13, 13, .ro, .rw, .none, false⟩, ⟨15, 14, .ro, .rw, .none, false⟩, ⟨16, 16, .ro, .rw, .none, false⟩, ⟨17, 17, .ro, .rw, .none, false⟩]⟩,
   ⟨0xF0080360, 1, 0x20, 1, 0x1, 0x2131, [⟨0, 0, .ro, .rw, .none, false⟩, ⟨1, 1, .ro, .rw, .none, false⟩, ⟨6, 4, .ro, .rw, .above 4 0, false⟩, ⟨11, 8, .ro, .rw, .none, false⟩, ⟨12, 12, .ro, .rw, .none, false⟩, ⟨13, 13, .ro, .rw, .none, false⟩, ⟨15, 14, .ro, .rw, .none, false⟩, ⟨16, 16, .ro, .rw, .none, false⟩, ⟨17, 17, .ro, .rw, .none, false⟩]⟩,
   ⟨0xF0080380, 1, 0x20, 1, 0x1, 0x2041, [⟨0, 0, .ro, .rw, .none, false⟩, ⟨1, 1, .ro, .rw, .none, false⟩, ⟨6, 4, .ro, .rw, .above 4 0, false⟩, ⟨11, 8, .ro, .rw, .none, false⟩, ⟨12, 12, .ro, .rw, .none, false⟩, ⟨13, 13, .ro, .rw, .none, false⟩, ⟨15, 14, .ro, .rw, .none, false⟩, ⟨16, 16, .ro, .rw, .none, false⟩, ⟨17, 17, .ro, .rw, .none, false⟩]⟩,
   ⟨0xF00803A0, 1, 0x20, 1, 0x1, 0x2141, [⟨0, 0, .ro, .rw, .none, false⟩, ⟨1, 1, .ro, .rw, .none, false⟩, ⟨6, 4, .ro, .rw, .above 4 0, false⟩, ⟨11, 8, .ro, .rw, .none, false⟩, ⟨12, 12, .ro, .rw, .none, false⟩, ⟨13, 13, .ro, .rw, .none, false⟩, ⟨15, 14, .ro, .rw, .none, false⟩, ⟨16, 16, .ro, .rw, .none, false⟩, ⟨17, 17, .ro, .rw, .none, false⟩]⟩,
   ⟨0xF00803C0, 1, 0x20, 1, 0x1, 0x2241, [⟨0, 0, .ro, .rw, .none, false⟩, ⟨1, 1, .ro, .rw, .none, false⟩, ⟨6, 4, .ro, .rw, .above 4 0, false⟩, ⟨11, 8, .ro, .rw, .none, false⟩, ⟨12, 12, .ro, .rw, .none, false⟩, ⟨13, 13, .ro, .rw, .none, false⟩, ⟨15, 14, .ro, .rw, .none, false⟩, ⟨16, 16, .ro, .rw, .none, false⟩, ⟨17, 17, .ro, .rw, .none, false⟩]⟩,
   ⟨0xF00803E0, 1, 0x20, 1, 0x1, 0x2341, [⟨0, 0, .ro, .rw, .none, false⟩, ⟨1, 1, .ro, .rw, .none, false⟩, ⟨6, 4, .ro, .rw, .above 4 0, false⟩, ⟨11, 8, .ro, .rw, .none, false⟩, ⟨12, 12, .ro, .rw, .none, false⟩, ⟨13, 13, .ro, .rw, .none, false⟩, ⟨15, 14, .ro, .rw, .none, false⟩, ⟨16, 16, .ro, .rw, .none, false⟩, ⟨17, 17, .ro, .rw, .none, false⟩]⟩,
   ⟨0xF0080400, 1, 0x20, 1, 0x1, 0x2441, [⟨0, 0, .ro, .rw, .none, false⟩, ⟨1, 1, .ro, .rw, .none, false⟩, ⟨6, 4, .ro, .rw, .above 4 0, false⟩, ⟨11, 8, .ro, .rw, .none, false⟩, ⟨12, 12, .ro, .rw, .none, false⟩, ⟨13, 13, .ro, .rw, .none, false⟩, ⟨15, 14, .ro, .rw, .none, false⟩, ⟨16, 16, .ro, .rw, .none, false⟩, ⟨17, 17, .ro, .rw, .none, false⟩]⟩,
   ⟨0xF0080420, 1, 0x20, 1, 0x1, 0x2541, [⟨0, 0, .ro, .rw, .none, false⟩, ⟨1, 1, .ro, .rw, .none, false⟩, ⟨6, 4, .ro, .rw, .above 4 0, false⟩, ⟨11, 8, .ro, .rw, .none, false⟩, ⟨12, 12, .ro, .rw, .none, false⟩, ⟨13, 13, .ro, .rw, .none, false⟩, ⟨15, 14, .ro, .rw, .none, false⟩, ⟨16, 16, .ro, .rw, .none, false⟩, ⟨17, 17, .ro, .rw, .none, false⟩]⟩,
   ⟨0xF0080440, 1, 0x20, 1, 0x1, 0x2641, [⟨0, 0, .ro, .rw, .none, false⟩, ⟨1, 1, .ro, .rw, .none, false⟩, ⟨6, 4, .ro, .rw, .above 4 0, false⟩, ⟨11, 8, .ro, .rw, .none, false⟩, ⟨12, 12, .ro, .rw, .none, false⟩, ⟨13, 13, .ro, .rw, .none, false⟩, ⟨15, 14, .ro, .rw, .none, false⟩, ⟨16, 16, .ro, .rw, .none, false⟩, ⟨17, 17, .ro, .rw, .none, false⟩]⟩,
   ⟨0xF0080460, 1, 0x20, 1, 0x1, 0x2741, [⟨0, 0, .ro, .rw, .none, false⟩, ⟨1, 1, .ro, .rw, .none, false⟩, ⟨6, 4, .ro, .rw, .above 4 0, false⟩, ⟨11, 8, .ro, .rw, .none, false⟩, ⟨12, 12, .ro, .rw, .none, false⟩, ⟨13, 13, .ro, .rw, .none, false⟩, ⟨15, 14, .ro, .rw, .none, false⟩, ⟨16, 16, .ro, .rw, .none, false⟩, ⟨17, 17, .ro, .rw, .none, false⟩]⟩,
   ⟨0xF0080480, 4, 0x20, 1, 0x1, 0x2000, [⟨0, 0, .ro, .rw, .none, false⟩, ⟨1, 1, .ro, .rw, .none, false⟩, ⟨6, 4, .ro, .rw, .above 4 0, false⟩, ⟨11, 8, .ro, .rw, .none, false⟩, ⟨12, 12, .ro, .rw, .none, false⟩, ⟨13, 13, .ro, .rw, .none, false⟩, ⟨15, 14, .ro, .rw, .none, false⟩, ⟨16, 16, .ro, .rw, .none, false⟩, ⟨17, 17, .ro, .rw, .none, false⟩]⟩,
   ⟨0xF0080104, 32, 0x20, 1, 0x1, 0x0, [⟨2, 0, .ro, .ro, .none, false⟩, ⟨3, 3, .ro, .ro, .none, false⟩, ⟨4, 4, .ro, .ro, .none, false⟩, ⟨5, 5, .ro, .ro, .none, false⟩, ⟨6, 6, .ro, .w1c, .none, false⟩, ⟨11, 8, .ro, .ro, .none, false⟩, ⟨13, 12, .ro, .ro, .none, false⟩, ⟨17, 16, .ro, .ro, .none, false⟩, ⟨18, 18, .ro, .ro, .none, false⟩, ⟨19, 19, .ro, .ro, .none, false⟩, ⟨23, 20, .ro, .ro, .none, false⟩]⟩,
   ⟨0xF0080108, 32, 0x20, 1, 0x1, 0x0, [⟨7, 0, .ro, .ro, .none, false⟩, ⟨15, 8, .ro, .ro, .none, false⟩, ⟨31, 16, .ro, .ro, .none, false⟩]⟩,
   ⟨0xF008010C, 32, 0x20, 1, 0x1, 0x0, [⟨5, 0, .ro, .ro, .none, false⟩, ⟨13, 8, .ro, .ro, .none, false⟩, ⟨31, 16, .ro, .ro, .none, false⟩]⟩,
   ⟨0xF0080110, 32, 0x20, 1, 0x1, 0x0, [⟨7, 0, .ro, .w1c, .none, true⟩, ⟨15, 8, .ro, .w1c, .none, true⟩, ⟨23, 16, .ro, .w1c, .none, true⟩, ⟨31, 24, .ro, .w1c, .none, true⟩]⟩,
   ⟨0xF0080114, 32, 0x20, 1, 0x1, 0x0, [⟨0, 0, .ro, .w1p, .none, false⟩, ⟨1, 1, .ro, .w1p, .none, false⟩, ⟨2, 2, .ro, .w1p, .none, false⟩]⟩,
   ⟨0xF0080118, 32, 0x20, 1, 0x1, 0x0, [⟨15, 0, .ro, .ro, .none, false⟩]⟩]

/-- Registers of block 9. -/
def regsFabric : List RegD :=
[⟨0xF0090000, 1, 0x1, 1, 0x1, 0x0, [⟨5, 0, .ro, .rw, .none, false⟩, ⟨8, 8, .ro, .rw, .none, false⟩, ⟨12, 12, .ro, .w1c, .none, false⟩]⟩,
   ⟨0xF0090004, 1, 0x1, 1, 0x1, 0x0, [⟨1, 0, .ro, .ro, .none, false⟩, ⟨2, 2, .ro, .ro, .none, false⟩, ⟨3, 3, .ro, .ro, .none, false⟩, ⟨4, 4, .ro, .ro, .none, false⟩, ⟨5, 5, .ro, .ro, .none, false⟩, ⟨13, 8, .ro, .ro, .none, false⟩, ⟨23, 16, .ro, .ro, .none, false⟩, ⟨30, 24, .ro, .ro, .none, false⟩]⟩,
   ⟨0xF0090008, 1, 0x1, 1, 0x1, 0x0, [⟨31, 0, .ro, .ro, .none, false⟩]⟩,
   ⟨0xF0090010, 1, 0x1, 1, 0x1, 0x800A320A, [⟨7, 0, .ro, .rw, .range 1 25, false⟩, ⟨15, 8, .ro, .rw, .none, false⟩, ⟨23, 16, .ro, .rw, .zero 1, false⟩, ⟨31, 24, .ro, .rw, .none, false⟩]⟩,
   ⟨0xF0090018, 1, 0x1, 1, 0x1, 0x0, [⟨31, 0, .ro, .rw, .none, false⟩]⟩,
   ⟨0xF009001C, 1, 0x1, 1, 0x1, 0x0, [⟨31, 0, .ro, .rw, .none, false⟩]⟩,
   ⟨0xF0090020, 1, 0x1, 1, 0x1, 0x0, [⟨31, 0, .ro, .rw, .none, false⟩]⟩,
   ⟨0xF0090024, 1, 0x1, 1, 0x1, 0x0, [⟨31, 0, .ro, .rw, .none, false⟩]⟩,
   ⟨0xF0090028, 1, 0x1, 1, 0x1, 0x0, [⟨31, 0, .ro, .ro, .none, false⟩]⟩,
   ⟨0xF009002C, 1, 0x1, 1, 0x1, 0x0, [⟨31, 0, .ro, .ro, .none, false⟩]⟩,
   ⟨0xF0090030, 1, 0x1, 1, 0x1, 0x700000, [⟨19, 0, .ro, .rw, .none, false⟩, ⟨20, 20, .ro, .rw, .none, false⟩, ⟨21, 21, .ro, .rw, .none, false⟩, ⟨22, 22, .ro, .rw, .none, false⟩]⟩,
   ⟨0xF0090034, 1, 0x1, 1, 0x1, 0x0, [⟨27, 0, .ro, .ro, .none, false⟩]⟩,
   ⟨0xF0090038, 1, 0x1, 1, 0x1, 0x0, [⟨7, 0, .ro, .w1c, .none, true⟩, ⟨15, 8, .ro, .w1c, .none, true⟩, ⟨23, 16, .ro, .w1c, .none, true⟩, ⟨31, 24, .ro, .w1c, .none, true⟩]⟩,
   ⟨0xF0090100, 64, 0x4, 1, 0x1, 0x0, [⟨3, 0, .ro, .ro, .none, false⟩, ⟨6, 4, .ro, .ro, .none, false⟩, ⟨7, 7, .ro, .ro, .none, false⟩, ⟨11, 8, .ro, .ro, .none, false⟩, ⟨14, 12, .ro, .ro, .none, false⟩, ⟨15, 15, .ro, .ro, .none, false⟩]⟩]

/-- Registers of block 10. -/
def regsHost : List RegD :=
[⟨0xF00A1000, 52, 0x10, 1, 0x1, 0x0, [⟨26, 5, .ro, .rw, .none, false⟩]⟩,
   ⟨0xF00A1004, 32, 0x10, 1, 0x1, 0x2, [⟨4, 0, .ro, .rw, .range 2 16, false⟩, ⟨8, 8, .ro, .rw, .none, false⟩, ⟨11, 10, .ro, .ro, .none, false⟩, ⟨12, 12, .ro, .w1c, .none, false⟩, ⟨31, 15, .ro, .ro, .none, false⟩]⟩,
   ⟨0xF00A1204, 16, 0x10, 1, 0x1, 0x2, [⟨4, 0, .ro, .rw, .range 2 16, false⟩, ⟨8, 8, .ro, .rw, .none, false⟩, ⟨11, 10, .ro, .rw, .none, false⟩, ⟨12, 12, .ro, .w1c, .none, false⟩, ⟨31, 15, .ro, .ro, .none, false⟩]⟩,
   ⟨0xF00A1304, 4, 0x10, 1, 0x1, 0x2, [⟨4, 0, .ro, .rw, .range 2 16, false⟩, ⟨8, 8, .ro, .rw, .none, false⟩, ⟨11, 10, .ro, .ro, .none, false⟩, ⟨12, 12, .ro, .w1c, .none, false⟩, ⟨31, 15, .ro, .ro, .none, false⟩]⟩,
   ⟨0xF00A1008, 52, 0x10, 1, 0x1, 0x0, [⟨15, 0, .ro, .ro, .none, false⟩, ⟨16, 16, .ro, .ro, .none, false⟩]⟩,
   ⟨0xF00A100C, 52, 0x10, 1, 0x1, 0x0, [⟨15, 0, .rw, .rw, .none, false⟩, ⟨16, 16, .rw, .rw, .none, false⟩, ⟨31, 31, .ro, .w1c, .none, false⟩]⟩,
   ⟨0xF00A2000, 1, 0x1, 1, 0x1, 0x0, [⟨31, 0, .rw, .rw, .none, false⟩]⟩,
   ⟨0xF00A2004, 1, 0x1, 1, 0x1, 0x0, [⟨31, 0, .rw, .rw, .none, false⟩]⟩,
   ⟨0xF00A2008, 1, 0x1, 1, 0x1, 0x0, [⟨0, 0, .ro, .rw, .none, false⟩, ⟨26, 12, .ro, .rw, .none, false⟩]⟩,
   ⟨0xF00A200C, 1, 0x1, 1, 0x1, 0x0, [⟨2, 0, .ro, .ro, .none, false⟩, ⟨3, 3, .ro, .ro, .none, false⟩]⟩,
   ⟨0xF00A2010, 1, 0x1, 1, 0x1, 0x0, [⟨3, 0, .wo, .wo, .none, false⟩, ⟨25, 4, .wo, .wo, .none, false⟩, ⟨31, 28, .ro, .ro, .none, false⟩]⟩,
   ⟨0xF00A0000, 2, 0x20, 1, 0x1, 0x0, [⟨31, 0, .ro, .rw, .none, false⟩]⟩,
   ⟨0xF00A0004, 2, 0x20, 1, 0x1, 0x0, [⟨15, 0, .ro, .rw, .none, false⟩]⟩,
   ⟨0xF00A0008, 2, 0x20, 1, 0x1, 0x0, [⟨31, 0, .ro, .rw, .none, false⟩]⟩,
   ⟨0xF00A000C, 2, 0x20, 1, 0x1, 0xFFFF0000, [⟨31, 0, .ro, .rw, .none, false⟩]⟩,
   ⟨0xF00A0010, 2, 0x20, 1, 0x1, 0x0, [⟨11, 0, .ro, .rw, .none, false⟩, ⟨14, 12, .ro, .rw, .none, false⟩, ⟨15, 15, .ro, .rw, .none, false⟩]⟩,
   ⟨0xF00A0014, 2, 0x20, 1, 0x1, 0x0, [⟨7, 0, .ro, .w1c, .none, true⟩, ⟨15, 8, .ro, .w1c, .none, true⟩, ⟨23, 16, .ro, .w1c, .none, true⟩, ⟨31, 24, .ro, .w1c, .none, true⟩]⟩,
   ⟨0xF00A1400, 1, 0x4, 1, 0x1, 0x2, [⟨1, 0, .ro, .rw, .above 2 0, false⟩, ⟨5, 2, .ro, .rw, .range 0 8, false⟩, ⟨6, 6, .ro, .rw, .none, false⟩, ⟨31, 16, .ro, .w1c, .none, true⟩]⟩,
   ⟨0xF00A1404, 31, 0x4, 1, 0x1, 0x0, [⟨1, 0, .ro, .rw, .above 2 0, false⟩, ⟨5, 2, .ro, .rw, .range 0 8, false⟩, ⟨6, 6, .ro, .rw, .none, false⟩, ⟨31, 16, .ro, .w1c, .none, true⟩]⟩,
   ⟨0xF00A0040, 1, 0x1, 1, 0x1, 0xA01B7FC, [⟨15, 0, .ro, .rw, .none, false⟩, ⟨16, 16, .ro, .rw, .none, false⟩, ⟨31, 24, .ro, .rw, .zero 1, false⟩]⟩,
   ⟨0xF00A0044, 1, 0x1, 1, 0x1, 0x0, [⟨7, 0, .ro, .w1c, .none, true⟩, ⟨15, 8, .ro, .w1c, .none, true⟩, ⟨23, 16, .ro, .w1c, .none, true⟩, ⟨31, 24, .ro, .w1c, .none, true⟩]⟩,
   ⟨0xF00A0200, 1, 0x1, 1, 0x1, 0x0, [⟨3, 0, .ro, .ro, .none, false⟩, ⟨5, 4, .ro, .ro, .none, false⟩, ⟨15, 8, .ro, .ro, .none, false⟩, ⟨31, 16, .ro, .ro, .none, false⟩]⟩,
   ⟨0xF00A0204, 1, 0x1, 1, 0x1, 0x0, [⟨0, 0, .ro, .ro, .none, false⟩]⟩,
   ⟨0xF00A0100, 9, 0x8, 1, 0x1, 0x0, [⟨1, 0, .ro, .ro, .none, false⟩, ⟨2, 2, .ro, .ro, .none, false⟩, ⟨3, 3, .ro, .w1p, .none, false⟩, ⟨5, 4, .ro, .ro, .none, false⟩, ⟨13, 8, .ro, .ro, .none, false⟩, ⟨31, 16, .ro, .ro, .none, false⟩]⟩,
   ⟨0xF00A0104, 9, 0x8, 1, 0x1, 0x0, [⟨31, 0, .ro, .ro, .none, false⟩]⟩]

/-- Registers of block 11. -/
def regsGranary : List RegD :=
[⟨0xF00B0000, 1, 0x1, 1, 0x1, 0x0, [⟨1, 0, .ro, .ro, .none, false⟩, ⟨2, 2, .ro, .ro, .none, false⟩, ⟨3, 3, .ro, .w1c, .none, false⟩, ⟨4, 4, .ro, .ro, .none, false⟩, ⟨6, 6, .ro, .w1c, .none, false⟩, ⟨18, 8, .ro, .ro, .none, false⟩, ⟨30, 24, .ro, .ro, .none, false⟩]⟩,
   ⟨0xF00B0004, 1, 0x1, 1, 0x1, 0x2000, [⟨15, 0, .ro, .ro, .none, false⟩]⟩,
   ⟨0xF00B0008, 1, 0x1, 1, 0x1, 0xFFFFFFFF, [⟨31, 0, .ro, .ro, .none, false⟩]⟩,
   ⟨0xF00B000C, 1, 0x1, 1, 0x1, 0x0, [⟨31, 0, .ro, .ro, .none, false⟩]⟩,
   ⟨0xF00B0010, 1, 0x1, 1, 0x1, 0x0, [⟨31, 0, .ro, .ro, .none, false⟩]⟩,
   ⟨0xF00B0014, 1, 0x1, 1, 0x1, 0x0, [⟨15, 0, .ro, .ro, .none, false⟩]⟩,
   ⟨0xF00B0018, 1, 0x1, 1, 0x1, 0x0, [⟨31, 0, .ro, .w1c, .none, true⟩]⟩,
   ⟨0xF00B0020, 1, 0x1, 1, 0x1, 0x0, [⟨15, 0, .rw, .rw, .none, false⟩]⟩,
   ⟨0xF00B0040, 16, 0x4, 1, 0x1, 0x0, [⟨31, 0, .ro, .ro, .none, false⟩]⟩,
   ⟨0xF00B0080, 1, 0x1, 1, 0x1, 0x0, [⟨15, 0, .rw, .rw, .none, false⟩, ⟨31, 16, .rw, .rw, .none, false⟩]⟩,
   ⟨0xF00B0084, 1, 0x1, 1, 0x1, 0x0, [⟨26, 6, .rw, .rw, .none, false⟩]⟩,
   ⟨0xF00B0088, 1, 0x1, 1, 0x1, 0x0, [⟨0, 0, .w1p, .w1p, .none, false⟩, ⟨1, 1, .ro, .ro, .none, false⟩, ⟨2, 2, .ro, .w1c, .none, false⟩, ⟨3, 3, .ro, .w1c, .none, false⟩]⟩]

/-- Registers of block 12. -/
def regsHk : List RegD :=
[⟨0xF00C0000, 1, 0x1, 1, 0x1, 0x66625C55, [⟨7, 0, .ro, .rw, .none, false⟩, ⟨15, 8, .ro, .rw, .none, false⟩, ⟨23, 16, .ro, .rw, .none, false⟩, ⟨31, 24, .ro, .rw, .none, false⟩]⟩,
   ⟨0xF00C0004, 1, 0x1, 1, 0x1, 0x305735A, [⟨7, 0, .ro, .rw, .none, false⟩, ⟨15, 8, .ro, .rw, .none, false⟩, ⟨23, 16, .ro, .rw, .none, false⟩, ⟨27, 24, .ro, .rw, .zero 1, false⟩]⟩,
   ⟨0xF00C0008, 1, 0x1, 1, 0x1, 0x0, [⟨2, 0, .ro, .ro, .none, false⟩, ⟨6, 4, .ro, .rw, .range 0 4, false⟩, ⟨8, 8, .ro, .ro, .none, false⟩, ⟨9, 9, .ro, .ro, .none, false⟩, ⟨10, 10, .ro, .ro, .none, false⟩, ⟨11, 11, .ro, .w1c, .none, false⟩, ⟨23, 16, .ro, .ro, .none, false⟩, ⟨28, 24, .ro, .ro, .none, false⟩]⟩,
   ⟨0xF00C0100, 24, 0x4, 1, 0x1, 0x0, [⟨11, 0, .ro, .ro, .none, false⟩, ⟨13, 12, .ro, .ro, .none, false⟩, ⟨14, 14, .ro, .ro, .none, false⟩, ⟨22, 16, .ro, .ro, .none, false⟩]⟩,
   ⟨0xF00C0180, 1, 0x4, 1, 0x1, 0x42, [⟨23, 0, .ro, .rw, .none, false⟩]⟩,
   ⟨0xF00C0184, 1, 0x4, 1, 0x1, 0x85, [⟨23, 0, .ro, .rw, .none, false⟩]⟩,
   ⟨0xF00C0188, 1, 0x4, 1, 0x1, 0x10A, [⟨23, 0, .ro, .rw, .none, false⟩]⟩,
   ⟨0xF00C018C, 1, 0x4, 1, 0x1, 0x214, [⟨23, 0, .ro, .rw, .none, false⟩]⟩,
   ⟨0xF00C0190, 1, 0x4, 1, 0x1, 0x428, [⟨23, 0, .ro, .rw, .none, false⟩]⟩,
   ⟨0xF00C0194, 1, 0x4, 1, 0x1, 0x810, [⟨23, 0, .ro, .rw, .none, false⟩]⟩,
   ⟨0xF00C0198, 1, 0x4, 1, 0x1, 0x1081, [⟨23, 0, .ro, .rw, .none, false⟩]⟩,
   ⟨0xF00C019C, 1, 0x4, 1, 0x1, 0x2142, [⟨23, 0, .ro, .rw, .none, false⟩]⟩,
   ⟨0xF00C01A0, 1, 0x4, 1, 0x1, 0x4284, [⟨23, 0, .ro, .rw, .none, false⟩]⟩,
   ⟨0xF00C01A4, 1, 0x4, 1, 0x1, 0x8508, [⟨23, 0, .ro, .rw, .none, false⟩]⟩,
   ⟨0xF00C01A8, 1, 0x4, 1, 0x1, 0x10A10, [⟨23, 0, .ro, .rw, .none, false⟩]⟩,
   ⟨0xF00C01AC, 1, 0x4, 1, 0x1, 0x20420, [⟨23, 0, .ro, .rw, .none, false⟩]⟩,
   ⟨0xF00C01B0, 1, 0x4, 1, 0x1, 0x42040, [⟨23, 0, .ro, .rw, .none, false⟩]⟩,
   ⟨0xF00C01B4, 1, 0x4, 1, 0x1, 0x85080, [⟨23, 0, .ro, .rw, .none, false⟩]⟩,
   ⟨0xF00C01B8, 1, 0x4, 1, 0x1, 0x10A100, [⟨23, 0, .ro, .rw, .none, false⟩]⟩,
   ⟨0xF00C01BC, 1, 0x4, 1, 0x1, 0x214200, [⟨23, 0, .ro, .rw, .none, false⟩]⟩,
   ⟨0xF00C01C0, 1, 0x4, 1, 0x1, 0x428400, [⟨23, 0, .ro, .rw, .none, false⟩]⟩,
   ⟨0xF00C01C4, 1, 0x4, 1, 0x1, 0x810800, [⟨23, 0, .ro, .rw, .none, false⟩]⟩,
   ⟨0xF00C01C8, 1, 0x4, 1, 0x1, 0x81000, [⟨23, 0, .ro, .rw, .none, false⟩]⟩,
   ⟨0xF00C01CC, 1, 0x4, 1, 0x1, 0x142000, [⟨23, 0, .ro, .rw, .none, false⟩]⟩,
   ⟨0xF00C01D0, 1, 0x4, 1, 0x1, 0x284000, [⟨23, 0, .ro, .rw, .none, false⟩]⟩]
  ++ [⟨0xF00C01D4, 1, 0x4, 1, 0x1, 0x508000, [⟨23, 0, .ro, .rw, .none, false⟩]⟩,
   ⟨0xF00C01D8, 1, 0x4, 1, 0x1, 0xA10000, [⟨23, 0, .ro, .rw, .none, false⟩]⟩,
   ⟨0xF00C01DC, 1, 0x4, 1, 0x1, 0x420000, [⟨23, 0, .ro, .rw, .none, false⟩]⟩,
   ⟨0xF00C0200, 8, 0x4, 1, 0x1, 0x0, [⟨11, 0, .ro, .ro, .none, false⟩, ⟨12, 12, .ro, .ro, .none, false⟩, ⟨13, 13, .ro, .rw, .none, false⟩, ⟨31, 16, .ro, .ro, .none, false⟩]⟩,
   ⟨0xF00C0400, 8, 0x80, 17, 0x4, 0x0, [⟨15, 0, .ro, .rw, .none, false⟩]⟩,
   ⟨0xF00C0B00, 16, 0x4, 1, 0x1, 0x0, [⟨15, 0, .ro, .ro, .none, false⟩, ⟨16, 16, .ro, .ro, .none, false⟩, ⟨17, 17, .ro, .ro, .none, false⟩, ⟨18, 18, .ro, .w1c, .none, false⟩]⟩,
   ⟨0xF00C0B40, 4, 0x4, 1, 0x1, 0x32A02BC, [⟨15, 0, .ro, .rw, .none, false⟩, ⟨31, 16, .ro, .rw, .none, false⟩]⟩,
   ⟨0xF00C0B50, 2, 0x4, 1, 0x1, 0x34802F8, [⟨15, 0, .ro, .rw, .none, false⟩, ⟨31, 16, .ro, .rw, .none, false⟩]⟩,
   ⟨0xF00C0B58, 2, 0x4, 1, 0x1, 0x3B10357, [⟨15, 0, .ro, .rw, .none, false⟩, ⟨31, 16, .ro, .rw, .none, false⟩]⟩,
   ⟨0xF00C0B60, 2, 0x4, 1, 0x1, 0x4EC0474, [⟨15, 0, .ro, .rw, .none, false⟩, ⟨31, 16, .ro, .rw, .none, false⟩]⟩,
   ⟨0xF00C0B68, 2, 0x4, 1, 0x1, 0x76206AE, [⟨15, 0, .ro, .rw, .none, false⟩, ⟨31, 16, .ro, .rw, .none, false⟩]⟩,
   ⟨0xF00C0B70, 2, 0x4, 1, 0x1, 0xD890C3F, [⟨15, 0, .ro, .rw, .none, false⟩, ⟨31, 16, .ro, .rw, .none, false⟩]⟩,
   ⟨0xF00C0B78, 1, 0x4, 1, 0x1, 0x6270591, [⟨15, 0, .ro, .rw, .none, false⟩, ⟨31, 16, .ro, .rw, .none, false⟩]⟩,
   ⟨0xF00C0B7C, 1, 0x4, 1, 0x1, 0x4BC04A4, [⟨15, 0, .ro, .rw, .none, false⟩, ⟨31, 16, .ro, .rw, .none, false⟩]⟩,
   ⟨0xF00C0800, 12, 0x20, 1, 0x1, 0x0, [⟨12, 0, .rw, .rw, .range 0 4096, false⟩]⟩,
   ⟨0xF00C0804, 8, 0x20, 1, 0x1, 0x1E4600, [⟨2, 0, .ro, .rw, .none, false⟩, ⟨3, 3, .ro, .rw, .none, false⟩, ⟨4, 4, .ro, .rw, .none, false⟩, ⟨15, 8, .ro, .rw, .none, false⟩, ⟨23, 16, .ro, .rw, .none, false⟩]⟩,
   ⟨0xF00C0904, 4, 0x20, 1, 0x1, 0x1E4600, [⟨2, 0, .ro, .rw, .none, false⟩, ⟨3, 3, .ro, .rw, .none, false⟩, ⟨4, 4, .ro, .rw, .none, false⟩, ⟨5, 5, .ro, .rw, .none, false⟩, ⟨15, 8, .ro, .rw, .none, false⟩, ⟨23, 16, .ro, .rw, .none, false⟩]⟩,
   ⟨0xF00C0808, 12, 0x20, 1, 0x1, 0x280000, [⟨15, 0, .ro, .rw, .none, false⟩, ⟨31, 16, .ro, .rw, .range 1 1000, false⟩]⟩,
   ⟨0xF00C080C, 12, 0x20, 1, 0x1, 0x0, [⟨12, 0, .ro, .ro, .none, false⟩, ⟨13, 13, .ro, .ro, .none, false⟩, ⟨14, 14, .ro, .ro, .none, false⟩, ⟨17, 16, .ro, .w1c, .none, true⟩, ⟨31, 19, .ro, .ro, .none, false⟩]⟩,
   ⟨0xF00C0A00, 1, 0x1, 1, 0x1, 0x9C4000F, [⟨3, 0, .ro, .rw, .none, false⟩, ⟨4, 4, .ro, .rw, .none, false⟩, ⟨5, 5, .ro, .ro, .none, false⟩, ⟨6, 6, .ro, .w1p, .none, false⟩, ⟨11, 8, .ro, .ro, .none, false⟩, ⟨27, 16, .ro, .rw, .none, false⟩]⟩]

/-- Registers of block 13. -/
def regsDisp : List RegD :=
[⟨0xF00D0000, 1, 0x1, 1, 0x1, 0x0, [⟨0, 0, .ro, .rw, .none, false⟩, ⟨1, 1, .ro, .w1p, .none, false⟩, ⟨2, 2, .ro, .ro, .none, false⟩, ⟨3, 3, .ro, .w1c, .none, false⟩, ⟨4, 4, .ro, .ro, .none, false⟩]⟩,
   ⟨0xF00D0100, 2, 0x100, 1, 0x1, 0x8, [⟨0, 0, .ro, .rw, .none, false⟩, ⟨1, 1, .ro, .rw, .none, false⟩, ⟨2, 2, .ro, .rw, .none, false⟩, ⟨3, 3, .ro, .rw, .none, false⟩, ⟨4, 4, .ro, .rw, .none, false⟩, ⟨5, 5, .ro, .rw, .none, false⟩, ⟨6, 6, .ro, .rw, .none, false⟩, ⟨7, 7, .ro, .rw, .none, false⟩, ⟨8, 8, .ro, .rw, .none, false⟩, ⟨9, 9, .ro, .rw, .none, false⟩, ⟨10, 10, .ro, .rw, .none, false⟩]⟩,
   ⟨0xF00D0104, 2, 0x100, 1, 0x1, 0x276C8B, [⟨23, 0, .ro, .rw, .range 0 0x2A3D70, false⟩]⟩,
   ⟨0xF00D0108, 2, 0x100, 1, 0x1, 0x200780, [⟨12, 0, .ro, .rw, .range 1 4096, false⟩, ⟨25, 16, .ro, .rw, .zero 1, false⟩]⟩,
   ⟨0xF00D010C, 2, 0x100, 1, 0x1, 0x500030, [⟨9, 0, .ro, .rw, .none, false⟩, ⟨25, 16, .ro, .rw, .none, false⟩]⟩,
   ⟨0xF00D0110, 2, 0x100, 1, 0x1, 0x604B0, [⟨12, 0, .ro, .rw, .range 1 4096, false⟩, ⟨25, 16, .ro, .rw, .zero 1, false⟩]⟩,
   ⟨0xF00D0114, 2, 0x100, 1, 0x1, 0x1A0003, [⟨9, 0, .ro, .rw, .none, false⟩, ⟨25, 16, .ro, .rw, .none, false⟩]⟩,
   ⟨0xF00D0118, 2, 0x100, 1, 0x1, 0x64, [⟨9, 0, .ro, .rw, .range 20 1000, false⟩]⟩,
   ⟨0xF00D011C, 2, 0x100, 1, 0x1, 0x40004CE, [⟨12, 0, .ro, .rw, .none, false⟩, ⟨28, 16, .ro, .rw, .range 0 4096, false⟩]⟩,
   ⟨0xF00D0120, 2, 0x100, 1, 0x1, 0x0, [⟨23, 0, .rw, .rw, .none, false⟩]⟩,
   ⟨0xF00D0124, 2, 0x100, 1, 0x1, 0x0, [⟨12, 0, .rw, .rw, .none, false⟩, ⟨28, 16, .rw, .rw, .none, false⟩]⟩,
   ⟨0xF00D0128, 2, 0x100, 1, 0x1, 0x0, [⟨12, 0, .rw, .rw, .none, false⟩, ⟨28, 16, .rw, .rw, .none, false⟩]⟩,
   ⟨0xF00D012C, 2, 0x100, 1, 0x1, 0x0, [⟨0, 0, .w1p, .w1p, .none, false⟩]⟩,
   ⟨0xF00D0130, 2, 0x100, 1, 0x1, 0x0, [⟨7, 0, .wo, .wo, .none, false⟩, ⟨8, 8, .wo, .wo, .none, false⟩, ⟨22, 16, .ro, .ro, .none, false⟩]⟩,
   ⟨0xF00D0134, 2, 0x100, 1, 0x1, 0x0, [⟨12, 0, .ro, .ro, .none, false⟩, ⟨14, 13, .ro, .ro, .none, false⟩, ⟨16, 16, .ro, .ro, .none, false⟩, ⟨17, 17, .ro, .w1c, .none, false⟩, ⟨18, 18, .ro, .w1c, .none, false⟩, ⟨19, 19, .ro, .w1c, .none, false⟩, ⟨31, 24, .ro, .w1c, .none, true⟩]⟩,
   ⟨0xF00D0138, 2, 0x100, 1, 0x1, 0x0, [⟨31, 0, .ro, .ro, .none, false⟩]⟩,
   ⟨0xF00D0140, 2, 0x100, 1, 0x20, 0x6, [⟨0, 0, .rw, .rw, .none, false⟩, ⟨3, 1, .rw, .rw, .none, false⟩]⟩,
   ⟨0xF00D0160, 2, 0x100, 1, 0x20, 0xFF06, [⟨0, 0, .rw, .rw, .none, false⟩, ⟨3, 1, .rw, .rw, .none, false⟩, ⟨4, 4, .rw, .rw, .none, false⟩, ⟨15, 8, .rw, .rw, .none, false⟩]⟩,
   ⟨0xF00D0144, 2, 0x100, 2, 0x20, 0x0, [⟨26, 0, .rw, .rw, .none, false⟩]⟩,
   ⟨0xF00D0148, 2, 0x100, 2, 0x20, 0x0, [⟨15, 0, .rw, .rw, .none, false⟩]⟩,
   ⟨0xF00D014C, 2, 0x100, 2, 0x20, 0x0, [⟨12, 0, .rw, .rw, .none, false⟩, ⟨28, 16, .rw, .rw, .none, false⟩]⟩,
   ⟨0xF00D0150, 2, 0x100, 2, 0x20, 0x0, [⟨12, 0, .rw, .rw, .none, false⟩, ⟨28, 16, .rw, .rw, .none, false⟩]⟩]

/-- Registers of block 14. -/
def regsXk : List RegD :=
[⟨0xF00E0000, 1, 0x1, 1, 0x1, 0x412, [⟨15, 0, .ro, .ro, .none, false⟩]⟩,
   ⟨0xF00E0004, 1, 0x1, 1, 0x1, 0x23, [⟨15, 0, .ro, .ro, .none, false⟩]⟩,
   ⟨0xF00E0008, 1, 0x1, 1, 0x1, 0x1, [⟨0, 0, .rw, .rw, .none, false⟩, ⟨1, 1, .rw, .rw, .none, false⟩, ⟨2, 2, .w1p, .w1p, .none, false⟩, ⟨3, 3, .w1p, .w1p, .none, false⟩]⟩,
   ⟨0xF00E000C, 1, 0x1, 1, 0x1, 0x0, [⟨3, 0, .ro, .ro, .none, false⟩, ⟨7, 4, .ro, .ro, .none, false⟩, ⟨11, 8, .ro, .ro, .none, false⟩]⟩,
   ⟨0xF00E0010, 1, 0x1, 1, 0x1, 0x0, [⟨15, 0, .w1c, .w1c, .none, false⟩]⟩,
   ⟨0xF00E0014, 1, 0x1, 1, 0x1, 0x0, [⟨15, 0, .w1c, .w1c, .none, false⟩]⟩,
   ⟨0xF00E0018, 1, 0x1, 1, 0x1, 0x0, [⟨15, 0, .rw, .rw, .none, false⟩]⟩,
   ⟨0xF00E001C, 1, 0x1, 1, 0x1, 0x0, [⟨15, 0, .rw, .rw, .none, false⟩]⟩,
   ⟨0xF00E0020, 1, 0x1, 1, 0x1, 0x0, [⟨15, 0, .ro, .ro, .none, false⟩]⟩,
   ⟨0xF00E0024, 1, 0x1, 1, 0x1, 0x0, [⟨15, 0, .ro, .ro, .none, false⟩]⟩,
   ⟨0xF00E0028, 1, 0x1, 1, 0x1, 0x0, [⟨0, 0, .rw, .rw, .none, false⟩, ⟨1, 1, .rw, .rw, .none, false⟩]⟩,
   ⟨0xF00E003C, 1, 0x1, 1, 0x1, 0x1616, [⟨15, 0, .ro, .ro, .none, false⟩]⟩,
   ⟨0xF00E0040, 4, 0x40, 1, 0x1, 0x0, [⟨0, 0, .w1p, .w1p, .none, false⟩, ⟨1, 1, .w1p, .w1p, .none, false⟩, ⟨2, 2, .rw, .rw, .none, false⟩]⟩,
   ⟨0xF00E0044, 4, 0x40, 1, 0x1, 0x0, [⟨13, 0, .rw, .rw, .none, false⟩, ⟨14, 14, .rw, .rw, .none, false⟩]⟩,
   ⟨0xF00E0048, 4, 0x40, 1, 0x1, 0x0, [⟨1, 0, .ro, .ro, .none, false⟩, ⟨7, 4, .ro, .ro, .none, false⟩]⟩,
   ⟨0xF00E004C, 4, 0x40, 1, 0x1, 0x0, [⟨14, 0, .ro, .ro, .none, false⟩]⟩,
   ⟨0xF00E0050, 4, 0x40, 1, 0x1, 0x0, [⟨14, 0, .ro, .ro, .none, false⟩]⟩,
   ⟨0xF00E0054, 4, 0x40, 1, 0x1, 0x8000, [⟨15, 0, .ro, .ro, .none, false⟩]⟩,
   ⟨0xF00E0058, 4, 0x40, 1, 0x1, 0x8000, [⟨15, 0, .ro, .ro, .none, false⟩]⟩,
   ⟨0xF00E005C, 4, 0x40, 1, 0x1, 0x8000, [⟨15, 0, .ro, .ro, .none, false⟩]⟩,
   ⟨0xF00E0140, 4, 0x20, 1, 0x1, 0x0, [⟨0, 0, .rw, .rw, .none, false⟩, ⟨1, 1, .w1c, .w1c, .none, false⟩, ⟨2, 2, .ro, .ro, .none, false⟩]⟩,
   ⟨0xF00E0144, 4, 0x20, 1, 0x1, 0x0, [⟨15, 0, .ro, .ro, .none, false⟩]⟩,
   ⟨0xF00E01C0, 2, 0x40, 1, 0x1, 0x0, [⟨15, 0, .ro, .ro, .none, false⟩]⟩,
   ⟨0xF00E01C4, 2, 0x40, 1, 0x1, 0x0, [⟨15, 0, .ro, .ro, .none, false⟩]⟩,
   ⟨0xF00E01C8, 2, 0x40, 1, 0x1, 0x7, [⟨2, 0, .ro, .ro, .none, false⟩, ⟨3, 3, .ro, .ro, .none, false⟩, ⟨4, 4, .ro, .ro, .none, false⟩, ⟨5, 5, .ro, .ro, .none, false⟩]⟩]
  ++ [⟨0xF00E01CC, 2, 0x40, 1, 0x1, 0x3E8, [⟨15, 0, .rw, .rw, .zero 1, false⟩]⟩,
   ⟨0xF00E01D0, 2, 0x40, 1, 0x1, 0x9C, [⟨15, 0, .rw, .rw, .none, false⟩]⟩,
   ⟨0xF00E0240, 1, 0x1, 1, 0x1, 0x0, [⟨13, 0, .rw, .rw, .none, false⟩, ⟨14, 14, .rw, .rw, .none, false⟩]⟩,
   ⟨0xF00E0244, 1, 0x1, 1, 0x1, 0x0, [⟨15, 0, .rw, .rw, .none, false⟩]⟩,
   ⟨0xF00E0248, 1, 0x1, 1, 0x1, 0x0, [⟨15, 0, .rw, .rw, .none, false⟩]⟩,
   ⟨0xF00E0280, 1, 0x1, 1, 0x1, 0x0, [⟨13, 0, .rw, .rw, .none, false⟩, ⟨15, 14, .rw, .rw, .none, false⟩]⟩,
   ⟨0xF00E0284, 1, 0x1, 1, 0x1, 0x0, [⟨15, 0, .rw, .rw, .none, false⟩]⟩,
   ⟨0xF00E0400, 256, 0x4, 1, 0x1, 0x0, [⟨15, 0, .rw, .rw, .none, false⟩]⟩,
   ⟨0xF00E1000, 1, 0x1, 1, 0x1, 0x0, [⟨1, 0, .ro, .ro, .none, false⟩, ⟨15, 2, .ro, .rw, .range 0 9999, false⟩, ⟨24, 16, .ro, .rw, .none, false⟩, ⟨31, 31, .ro, .w1c, .none, false⟩]⟩]

/-- Registers of block 15. -/
def regsEvt : List RegD :=
[⟨0xF00F0000, 128, 0x8, 1, 0x1, 0x200, [⟨4, 0, .ro, .rw, .none, false⟩, ⟨5, 5, .ro, .rw, .none, false⟩, ⟨7, 6, .ro, .rw, .none, false⟩, ⟨8, 8, .ro, .rw, .none, false⟩, ⟨9, 9, .ro, .rw, .none, false⟩, ⟨12, 10, .ro, .rw, .none, false⟩]⟩,
   ⟨0xF00F0400, 24, 0x8, 1, 0x1, 0x0, [⟨4, 0, .ro, .rw, .none, false⟩, ⟨5, 5, .ro, .rw, .none, false⟩, ⟨7, 6, .ro, .rw, .none, false⟩, ⟨8, 8, .ro, .rw, .none, false⟩, ⟨9, 9, .ro, .rw, .none, false⟩, ⟨12, 10, .ro, .rw, .none, false⟩]⟩,
   ⟨0xF00F04C0, 16, 0x8, 1, 0x1, 0x200, [⟨4, 0, .ro, .rw, .none, false⟩, ⟨5, 5, .ro, .rw, .none, false⟩, ⟨7, 6, .ro, .rw, .none, false⟩, ⟨8, 8, .ro, .rw, .none, false⟩, ⟨9, 9, .ro, .rw, .none, false⟩, ⟨12, 10, .ro, .rw, .none, false⟩]⟩,
   ⟨0xF00F0540, 32, 0x8, 1, 0x1, 0x0, [⟨4, 0, .ro, .rw, .none, false⟩, ⟨5, 5, .ro, .rw, .none, false⟩, ⟨7, 6, .ro, .rw, .none, false⟩, ⟨8, 8, .ro, .rw, .none, false⟩, ⟨9, 9, .ro, .rw, .none, false⟩, ⟨12, 10, .ro, .rw, .none, false⟩]⟩,
   ⟨0xF00F0640, 56, 0x8, 1, 0x1, 0x200, [⟨4, 0, .ro, .rw, .none, false⟩, ⟨5, 5, .ro, .rw, .none, false⟩, ⟨7, 6, .ro, .rw, .none, false⟩, ⟨8, 8, .ro, .rw, .none, false⟩, ⟨9, 9, .ro, .rw, .none, false⟩, ⟨12, 10, .ro, .rw, .none, false⟩]⟩,
   ⟨0xF00F0004, 256, 0x8, 1, 0x1, 0x0, [⟨19, 0, .ro, .rw, .none, false⟩]⟩,
   ⟨0xF00F1000, 256, 0x10, 1, 0x1, 0x0, [⟨31, 0, .ro, .ro, .none, false⟩]⟩,
   ⟨0xF00F1004, 256, 0x10, 1, 0x1, 0x0, [⟨31, 0, .ro, .ro, .none, false⟩]⟩,
   ⟨0xF00F1008, 256, 0x10, 1, 0x1, 0x0, [⟨31, 0, .ro, .ro, .none, false⟩]⟩,
   ⟨0xF00F100C, 256, 0x10, 1, 0x1, 0x0, [⟨31, 0, .ro, .w1c, .none, true⟩]⟩,
   ⟨0xF00F3000, 4, 0x4, 1, 0x1, 0x100, [⟨0, 0, .ro, .rw, .none, false⟩, ⟨1, 1, .ro, .rw, .none, false⟩, ⟨15, 8, .ro, .rw, .zero 1, false⟩, ⟨16, 16, .ro, .w1c, .none, false⟩]⟩,
   ⟨0xF00F3010, 1, 0x1, 1, 0x1, 0x0, [⟨31, 0, .rw, .rw, .none, false⟩]⟩,
   ⟨0xF00F3014, 1, 0x1, 1, 0x1, 0x0, [⟨4, 0, .wo, .wo, .none, false⟩]⟩]

/-- T[2w] and T[2w + 1] of the sine table as it resets (R402, R415), one word each. -/
def axSineReset : List Nat :=
  [19791973, 46137847, 72483721, 98764059, 125109932, 151390270, 177670607, 203950943, 230165744, 256315008, 282464271, 308547997, 334631723, 360649913, 386602565, 412489680, 438311259, 464067301, 489757805, 515382773, 540942203, 566370560, 591798916, 617096199, 642262408, 667363080, 692332678, 717236738, 742009725, 766717175, 791293550, 815673316, 839987544, 864236234, 888288314, 912209320, 935999253, 959658110, 983120358, 1006517068, 1029717167, 1052720656, 1075658606, 1098334410, 1120944676, 1143292795, 1165509839, 1187595809, 1209419632, 1231112380, 1252608518, 1273908044, 1295076496, 1315982801, 1336692494, 1357205577, 1377522049, 1397641909, 1417565159, 1437226261, 1456690751, 1475958631, 1495029899, 1513839020, 1532385993, 1550736354, 1568824569, 1586716171, 1604345626, 1621778469, 1638883629, 1655792177, 1672438577, 1688888365, 1705010469, 1720935962, 1736533770, 1751934967, 1767008480, 1781885380, 1796434596, 1810721665, 1824746585, 1838509357, 1852009981, 1865182920, 1878159248, 1890742355, 1903128849, 1915187659, 1926984321, 1938453299, 1949660128, 1960539272, 1971156269, 1981445580, 1991472743, 2001172222, 2010609551, 2019719197, 2028501157, 2037020969, 2045147561, 2053077539, 2060614297, 2067888906, 2074835831, 2081455070, 2087812161, 2093841567, 2099543289, 2104917325, 2109963677, 2114682344, 2119138862, 2123202159, 2127003307, 2130476770, 2133622549, 2136440642, 2138931051, 2141159311, 2142994349, 2144501703, 2145746908, 2146664428, 2147188727, 2147450878]

/-- The registers of a block, in the order of R536. -/
def regsOfBlock : Nat → List RegD
  | 0 => regsSys
  | 1 => regsTime
  | 2 => regsBeam
  | 3 => regsArb
  | 4 => regsBedmap
  | 5 => regsLoop
  | 6 => regsImg
  | 7 => regsAxes
  | 8 => regsLanes
  | 9 => regsFabric
  | 10 => regsHost
  | 11 => regsGranary
  | 12 => regsHk
  | 13 => regsDisp
  | 14 => regsXk
  | 15 => regsEvt
  | _ => []

end Sys2Proof.Machine
end

