-- ==== Sys2Proof/Machine/RegNames.lean ====
section
/-! DEFINITION. The names of the registers (R) and of their fields (F), as the field tables of spec/ give them. -/

namespace Sys2Proof.Machine

/-- SYS_LOOKAHEAD (R33). -/
abbrev R.SYS_LOOKAHEAD : Nat := 0xF0000100
/-- SYS_BAND (R34). -/
abbrev R.SYS_BAND : Nat := 0xF0000104
/-- SYS_PWR_POLICY (R44). -/
abbrev R.SYS_PWR_POLICY (d : Nat) : Nat := 0xF0000200 + 0x4 * d
/-- BEAM_FIELD_XMIN (R49). -/
abbrev R.BEAM_FIELD_XMIN (b : Nat) : Nat := 0xF0020040 + 0x1000 * b
/-- BEAM_FIELD_YMIN (R49). -/
abbrev R.BEAM_FIELD_YMIN (b : Nat) : Nat := 0xF0020044 + 0x1000 * b
/-- BEAM_FIELD_XMAX (R49). -/
abbrev R.BEAM_FIELD_XMAX (b : Nat) : Nat := 0xF0020048 + 0x1000 * b
/-- BEAM_FIELD_YMAX (R49). -/
abbrev R.BEAM_FIELD_YMAX (b : Nat) : Nat := 0xF002004C + 0x1000 * b
/-- BEDMAP_ORIGIN_X (R53). -/
abbrev R.BEDMAP_ORIGIN_X : Nat := 0xF0040000
/-- BEDMAP_ORIGIN_Y (R53). -/
abbrev R.BEDMAP_ORIGIN_Y : Nat := 0xF0040004
/-- BEDMAP_GEOM (R54). -/
abbrev R.BEDMAP_GEOM : Nat := 0xF0040008
/-- BEDMAP_PITCH (R55). -/
abbrev R.BEDMAP_PITCH : Nat := 0xF004000C
/-- BEDMAP_HALF_LIFE (R63). -/
abbrev R.BEDMAP_HALF_LIFE : Nat := 0xF0040010
/-- BEDMAP_E_LSB (R64). -/
abbrev R.BEDMAP_E_LSB : Nat := 0xF0040014
/-- HOST_RING_BASE (R85). -/
abbrev R.HOST_RING_BASE (n : Nat) : Nat := 0xF00A1000 + 0x10 * n
/-- HOST_RING_CFG (R85). -/
abbrev R.HOST_RING_CFG (n : Nat) : Nat := 0xF00A1004 + 0x10 * n
/-- HOST_RING_HEAD (R85). -/
abbrev R.HOST_RING_HEAD (n : Nat) : Nat := 0xF00A1008 + 0x10 * n
/-- HOST_RING_TAIL (R85). -/
abbrev R.HOST_RING_TAIL (n : Nat) : Nat := 0xF00A100C + 0x10 * n
/-- HOST_LAYER_BEGIN_LO (R92). -/
abbrev R.HOST_LAYER_BEGIN_LO : Nat := 0xF00A2000
/-- HOST_LAYER_BEGIN_HI (R92). -/
abbrev R.HOST_LAYER_BEGIN_HI : Nat := 0xF00A2004
/-- HOST_LAYER_MAP (R92). -/
abbrev R.HOST_LAYER_MAP : Nat := 0xF00A2008
/-- HOST_LAYER_STATE (R92). -/
abbrev R.HOST_LAYER_STATE : Nat := 0xF00A200C
/-- HOST_LAYER_CMD (R92). -/
abbrev R.HOST_LAYER_CMD : Nat := 0xF00A2010
/-- TIME_ADDEND (R96). -/
abbrev R.TIME_ADDEND : Nat := 0xF0010010
/-- TIME_STATUS (R107). -/
abbrev R.TIME_STATUS : Nat := 0xF0010008
/-- TIME_NOW_LO (R108). -/
abbrev R.TIME_NOW_LO : Nat := 0xF0010000
/-- TIME_NOW_HI (R108). -/
abbrev R.TIME_NOW_HI : Nat := 0xF0010004
/-- TIME_GCELL_CFG (R116). -/
abbrev R.TIME_GCELL_CFG (n : Nat) : Nat := 0xF0010100 + 0x4 * n
/-- TIME_GCELL_CAP_LO (R117). -/
abbrev R.TIME_GCELL_CAP_LO (n : Nat) : Nat := 0xF0010140 + 0x8 * n
/-- TIME_GCELL_CAP_HI (R117). -/
abbrev R.TIME_GCELL_CAP_HI (n : Nat) : Nat := 0xF0010144 + 0x8 * n
/-- TIME_LATE (R118). -/
abbrev R.TIME_LATE : Nat := 0xF0010048
/-- TIME_PORT_ADJ (R122). -/
abbrev R.TIME_PORT_ADJ (p : Nat) : Nat := 0xF0010040 + 0x4 * p
/-- TIME_CTRL (R136). -/
abbrev R.TIME_CTRL : Nat := 0xF001000C
/-- TIME_DOM_CFG (R137). -/
abbrev R.TIME_DOM_CFG (d : Nat) : Nat := 0xF0010020 + 0x10 * d
/-- TIME_DOM_OFS_LO (R137). -/
abbrev R.TIME_DOM_OFS_LO (d : Nat) : Nat := 0xF0010024 + 0x10 * d
/-- TIME_DOM_OFS_HI (R137). -/
abbrev R.TIME_DOM_OFS_HI (d : Nat) : Nat := 0xF0010028 + 0x10 * d
/-- TIME_DOM_INFO (R137). -/
abbrev R.TIME_DOM_INFO (d : Nat) : Nat := 0xF001002C + 0x10 * d
/-- SYS_ENG_CTRL (R187). -/
abbrev R.SYS_ENG_CTRL (e : Nat) : Nat := 0xF0000400 + 0x4 * e
/-- SYS_ENG_WDOG (R188). -/
abbrev R.SYS_ENG_WDOG (e : Nat) : Nat := 0xF0000480 + 0x4 * e
/-- SYS_FC_PRIV (R189). -/
abbrev R.SYS_FC_PRIV : Nat := 0xF0000500
/-- BEAM_PSET_BASE (R222). -/
abbrev R.BEAM_PSET_BASE (b : Nat) : Nat := 0xF0020050 + 0x1000 * b
/-- BEAM_SWATH (R223). -/
abbrev R.BEAM_SWATH (b : Nat) : Nat := 0xF0020080 + 0x1000 * b
/-- BEAM_SWATH_ID (R224). -/
abbrev R.BEAM_SWATH_ID (b : Nat) : Nat := 0xF0020084 + 0x1000 * b
/-- BEAM_FRONTIER (R225). -/
abbrev R.BEAM_FRONTIER (b : Nat) : Nat := 0xF0020088 + 0x1000 * b
/-- BEAM_SYNC (R226). -/
abbrev R.BEAM_SYNC (b : Nat) : Nat := 0xF002008C + 0x1000 * b
/-- BEAM_HEAD_CFG (R259). -/
abbrev R.BEAM_HEAD_CFG (b : Nat) : Nat := 0xF0020100 + 0x1000 * b
/-- BEAM_POWER_LEAD (R260). -/
abbrev R.BEAM_POWER_LEAD (b : Nat) : Nat := 0xF0020104 + 0x1000 * b
/-- BEAM_XFORM_A11 (R261). -/
abbrev R.BEAM_XFORM_A11 (b : Nat) : Nat := 0xF0020110 + 0x1000 * b
/-- BEAM_XFORM_A12 (R261). -/
abbrev R.BEAM_XFORM_A12 (b : Nat) : Nat := 0xF0020114 + 0x1000 * b
/-- BEAM_XFORM_A21 (R261). -/
abbrev R.BEAM_XFORM_A21 (b : Nat) : Nat := 0xF0020118 + 0x1000 * b
/-- BEAM_XFORM_A22 (R261). -/
abbrev R.BEAM_XFORM_A22 (b : Nat) : Nat := 0xF002011C + 0x1000 * b
/-- BEAM_XFORM_OFS_U (R261). -/
abbrev R.BEAM_XFORM_OFS_U (b : Nat) : Nat := 0xF0020120 + 0x1000 * b
/-- BEAM_XFORM_OFS_V (R261). -/
abbrev R.BEAM_XFORM_OFS_V (b : Nat) : Nat := 0xF0020124 + 0x1000 * b
/-- BEAM_XFORM_Z_GAIN (R261). -/
abbrev R.BEAM_XFORM_Z_GAIN (b : Nat) : Nat := 0xF0020128 + 0x1000 * b
/-- BEAM_XFORM_Z_OFS (R261). -/
abbrev R.BEAM_XFORM_Z_OFS (b : Nat) : Nat := 0xF002012C + 0x1000 * b
/-- BEAM_CORR_BASE (R262). -/
abbrev R.BEAM_CORR_BASE (b : Nat) : Nat := 0xF0020130 + 0x1000 * b
/-- BEAM_LASER_CFG (R263). -/
abbrev R.BEAM_LASER_CFG (b : Nat) : Nat := 0xF0020140 + 0x1000 * b
/-- BEAM_ALARM_TIME_LO (R264). -/
abbrev R.BEAM_ALARM_TIME_LO (b : Nat) : Nat := 0xF0020148 + 0x1000 * b
/-- BEAM_ALARM_TIME_HI (R264). -/
abbrev R.BEAM_ALARM_TIME_HI (b : Nat) : Nat := 0xF002014C + 0x1000 * b
/-- BEAM_FE_CFG (R265). -/
abbrev R.BEAM_FE_CFG (b : Nat) : Nat := 0xF0020150 + 0x1000 * b
/-- BEAM_FE_STAT (R265). -/
abbrev R.BEAM_FE_STAT (b : Nat) : Nat := 0xF0020154 + 0x1000 * b
/-- BEAM_TRAJ_STAT (R266). -/
abbrev R.BEAM_TRAJ_STAT (b : Nat) : Nat := 0xF0020160 + 0x1000 * b
/-- ARB_CTRL (R298). -/
abbrev R.ARB_CTRL : Nat := 0xF0030000
/-- ARB_WINDOW (R299). -/
abbrev R.ARB_WINDOW : Nat := 0xF0030004
/-- ARB_LEASE_TTL (R299). -/
abbrev R.ARB_LEASE_TTL : Nat := 0xF0030008
/-- ARB_SEP_RADIUS (R299). -/
abbrev R.ARB_SEP_RADIUS : Nat := 0xF003000C
/-- ARB_PLUME_DIR (R300). -/
abbrev R.ARB_PLUME_DIR : Nat := 0xF0030010
/-- ARB_PLUME_CFG (R300). -/
abbrev R.ARB_PLUME_CFG : Nat := 0xF0030014
/-- ARB_REVISIT_LO (R301). -/
abbrev R.ARB_REVISIT_LO : Nat := 0xF0030018
/-- ARB_REVISIT_HI (R301). -/
abbrev R.ARB_REVISIT_HI : Nat := 0xF003001C
/-- ARB_GLEAN (R302). -/
abbrev R.ARB_GLEAN : Nat := 0xF0030020
/-- ARB_REC (R302). -/
abbrev R.ARB_REC : Nat := 0xF0030024
/-- ARB_STAT (R303). -/
abbrev R.ARB_STAT : Nat := 0xF0030030
/-- ARB_RETIRED (R304). -/
abbrev R.ARB_RETIRED : Nat := 0xF0030034
/-- ARB_RETIRE_CLR (R304). -/
abbrev R.ARB_RETIRE_CLR : Nat := 0xF0030038
/-- ARB_BEAM_CFG (R305). -/
abbrev R.ARB_BEAM_CFG (b : Nat) : Nat := 0xF0030100 + 0x4 * b
/-- ARB_BEAM_STAT (R305). -/
abbrev R.ARB_BEAM_STAT (b : Nat) : Nat := 0xF0030140 + 0x4 * b
/-- ARB_LEASE_P_LO (R306). -/
abbrev R.ARB_LEASE_P_LO (b : Nat) : Nat := 0xF0030200 + 0x10 * b
/-- ARB_LEASE_P_HI (R306). -/
abbrev R.ARB_LEASE_P_HI (b : Nat) : Nat := 0xF0030204 + 0x10 * b
/-- ARB_LEASE_EXP (R306). -/
abbrev R.ARB_LEASE_EXP (b : Nat) : Nat := 0xF0030208 + 0x10 * b
/-- ARB_PEER_CFG (R307). -/
abbrev R.ARB_PEER_CFG (p : Nat) : Nat := 0xF0030400 + 0x20 * p
/-- ARB_PEER_ZXMIN (R307). -/
abbrev R.ARB_PEER_ZXMIN (p : Nat) : Nat := 0xF0030404 + 0x20 * p
/-- ARB_PEER_ZYMIN (R307). -/
abbrev R.ARB_PEER_ZYMIN (p : Nat) : Nat := 0xF0030408 + 0x20 * p
/-- ARB_PEER_ZXMAX (R307). -/
abbrev R.ARB_PEER_ZXMAX (p : Nat) : Nat := 0xF003040C + 0x20 * p
/-- ARB_PEER_ZYMAX (R307). -/
abbrev R.ARB_PEER_ZYMAX (p : Nat) : Nat := 0xF0030410 + 0x20 * p
/-- LOOP_CTRL (R337). -/
abbrev R.LOOP_CTRL : Nat := 0xF0050000
/-- LOOP_LOAD (R338). -/
abbrev R.LOOP_LOAD : Nat := 0xF0050004
/-- LOOP_ADMIT (R338). -/
abbrev R.LOOP_ADMIT : Nat := 0xF0050008
/-- LOOP_CAP_CFG (R339). -/
abbrev R.LOOP_CAP_CFG : Nat := 0xF0050010
/-- LOOP_CAP_CH (R339). -/
abbrev R.LOOP_CAP_CH : Nat := 0xF0050014
/-- LOOP_CAP_BASE (R339). -/
abbrev R.LOOP_CAP_BASE : Nat := 0xF0050018
/-- LOOP_CAP_STAT (R339). -/
abbrev R.LOOP_CAP_STAT : Nat := 0xF005001C
/-- LOOP_CAP_T0_LO (R339). -/
abbrev R.LOOP_CAP_T0_LO : Nat := 0xF0050020
/-- LOOP_CAP_T0_HI (R339). -/
abbrev R.LOOP_CAP_T0_HI : Nat := 0xF0050024
/-- LOOP_INJ_CFG (R340). -/
abbrev R.LOOP_INJ_CFG : Nat := 0xF0050030
/-- LOOP_INJ_BASE (R340). -/
abbrev R.LOOP_INJ_BASE : Nat := 0xF0050034
/-- LOOP_INJ_LEN (R340). -/
abbrev R.LOOP_INJ_LEN : Nat := 0xF0050038
/-- LOOP_BEAM_CFG (R341). -/
abbrev R.LOOP_BEAM_CFG (b : Nat) : Nat := 0xF0050100 + 0x40 * b
/-- LOOP_BEAM_GAIN (R341). -/
abbrev R.LOOP_BEAM_GAIN (b : Nat) : Nat := 0xF0050104 + 0x40 * b
/-- LOOP_BEAM_CLAMP (R341). -/
abbrev R.LOOP_BEAM_CLAMP (b : Nat) : Nat := 0xF0050108 + 0x40 * b
/-- LOOP_BEAM_SLEW (R341). -/
abbrev R.LOOP_BEAM_SLEW (b : Nat) : Nat := 0xF005010C + 0x40 * b
/-- LOOP_BEAM_SAFE (R341). -/
abbrev R.LOOP_BEAM_SAFE (b : Nat) : Nat := 0xF0050110 + 0x40 * b
/-- LOOP_BEAM_SPD (R341). -/
abbrev R.LOOP_BEAM_SPD (b : Nat) : Nat := 0xF0050114 + 0x40 * b
/-- LOOP_BEAM_THR (R341). -/
abbrev R.LOOP_BEAM_THR (b : Nat) : Nat := 0xF0050118 + 0x40 * b
/-- LOOP_BEAM_ETH (R341). -/
abbrev R.LOOP_BEAM_ETH (b : Nat) : Nat := 0xF005011C + 0x40 * b
/-- LOOP_BEAM_SRC (R341). -/
abbrev R.LOOP_BEAM_SRC (b : Nat) : Nat := 0xF0050120 + 0x40 * b
/-- LOOP_BEAM_STAT (R341). -/
abbrev R.LOOP_BEAM_STAT (b : Nat) : Nat := 0xF0050124 + 0x40 * b
/-- LOOP_BEAM_OUT (R341). -/
abbrev R.LOOP_BEAM_OUT (b : Nat) : Nat := 0xF0050128 + 0x40 * b
/-- IMG_CTRL (R376). -/
abbrev R.IMG_CTRL : Nat := 0xF0060000
/-- IMG_PIPE_STAT (R377). -/
abbrev R.IMG_PIPE_STAT (p : Nat) : Nat := 0xF0060010 + 0x4 * p
/-- IMG_CAM_CFG (R378). -/
abbrev R.IMG_CAM_CFG (n : Nat) : Nat := 0xF0060100 + 0x80 * n
/-- IMG_CAM_MAX (R378). -/
abbrev R.IMG_CAM_MAX (n : Nat) : Nat := 0xF0060104 + 0x80 * n
/-- IMG_CAM_RATE (R378). -/
abbrev R.IMG_CAM_RATE (n : Nat) : Nat := 0xF0060108 + 0x80 * n
/-- IMG_CAM_RING (R378). -/
abbrev R.IMG_CAM_RING (n : Nat) : Nat := 0xF006010C + 0x80 * n
/-- IMG_CAM_CTX (R378). -/
abbrev R.IMG_CAM_CTX (n : Nat) : Nat := 0xF0060110 + 0x80 * n
/-- IMG_CAM_SET_EXP (R378). -/
abbrev R.IMG_CAM_SET_EXP (n : Nat) : Nat := 0xF0060114 + 0x80 * n
/-- IMG_CAM_SET_GAIN (R378). -/
abbrev R.IMG_CAM_SET_GAIN (n : Nat) : Nat := 0xF0060118 + 0x80 * n
/-- IMG_CAM_SET_PERIOD (R378). -/
abbrev R.IMG_CAM_SET_PERIOD (n : Nat) : Nat := 0xF006011C + 0x80 * n
/-- IMG_CAM_SET_ROI0 (R378). -/
abbrev R.IMG_CAM_SET_ROI0 (n : Nat) : Nat := 0xF0060120 + 0x80 * n
/-- IMG_CAM_SET_ROI1 (R378). -/
abbrev R.IMG_CAM_SET_ROI1 (n : Nat) : Nat := 0xF0060124 + 0x80 * n
/-- IMG_CAM_SET_CMD (R378). -/
abbrev R.IMG_CAM_SET_CMD (n : Nat) : Nat := 0xF0060128 + 0x80 * n
/-- IMG_CAM_STAT (R378). -/
abbrev R.IMG_CAM_STAT (n : Nat) : Nat := 0xF006012C + 0x80 * n
/-- IMG_CAM_FRAME (R378). -/
abbrev R.IMG_CAM_FRAME (n : Nat) : Nat := 0xF0060130 + 0x80 * n
/-- IMG_CAM_CNT (R378). -/
abbrev R.IMG_CAM_CNT (n : Nat) : Nat := 0xF0060134 + 0x80 * n
/-- IMG_CAM_OUT_LAST (R378). -/
abbrev R.IMG_CAM_OUT_LAST (n : Nat) (o : Nat) : Nat := 0xF0060138 + 0x80 * n + 0x4 * o
/-- AX_GO (R413). -/
abbrev R.AX_GO : Nat := 0xF0070000
/-- AX_MSMAP_LO (R413). -/
abbrev R.AX_MSMAP_LO : Nat := 0xF0070004
/-- AX_MSMAP_HI (R413). -/
abbrev R.AX_MSMAP_HI : Nat := 0xF0070008
/-- AX_OUT (R413). -/
abbrev R.AX_OUT : Nat := 0xF007000C
/-- AX_ENC_COUNT0 (R413). -/
abbrev R.AX_ENC_COUNT0 : Nat := 0xF0070010
/-- AX_ENC_COUNT1 (R413). -/
abbrev R.AX_ENC_COUNT1 : Nat := 0xF0070014
/-- AX_CFG (R414). -/
abbrev R.AX_CFG (a : Nat) : Nat := 0xF0070100 + 0x80 * a
/-- AX_MAX_SPEED (R414). -/
abbrev R.AX_MAX_SPEED (a : Nat) : Nat := 0xF0070104 + 0x80 * a
/-- AX_ACCEL (R414). -/
abbrev R.AX_ACCEL (a : Nat) : Nat := 0xF0070108 + 0x80 * a
/-- AX_TARGET (R414). -/
abbrev R.AX_TARGET (a : Nat) : Nat := 0xF007010C + 0x80 * a
/-- AX_CMD (R414). -/
abbrev R.AX_CMD (a : Nat) : Nat := 0xF0070110 + 0x80 * a
/-- AX_POS (R414). -/
abbrev R.AX_POS (a : Nat) : Nat := 0xF0070114 + 0x80 * a
/-- AX_VEL (R414). -/
abbrev R.AX_VEL (a : Nat) : Nat := 0xF0070118 + 0x80 * a
/-- AX_STAT (R414). -/
abbrev R.AX_STAT (a : Nat) : Nat := 0xF007011C + 0x80 * a
/-- AX_SOFT_MIN (R414). -/
abbrev R.AX_SOFT_MIN (a : Nat) : Nat := 0xF0070120 + 0x80 * a
/-- AX_SOFT_MAX (R414). -/
abbrev R.AX_SOFT_MAX (a : Nat) : Nat := 0xF0070124 + 0x80 * a
/-- AX_HOME_CFG (R414). -/
abbrev R.AX_HOME_CFG (a : Nat) : Nat := 0xF0070128 + 0x80 * a
/-- AX_HOME_POS (R414). -/
abbrev R.AX_HOME_POS (a : Nat) : Nat := 0xF007012C + 0x80 * a
/-- AX_HOME_RANGE (R414). -/
abbrev R.AX_HOME_RANGE (a : Nat) : Nat := 0xF0070130 + 0x80 * a
/-- AX_STEP_TIMING (R414). -/
abbrev R.AX_STEP_TIMING (a : Nat) : Nat := 0xF0070134 + 0x80 * a
/-- AX_RATE_LIM (R414). -/
abbrev R.AX_RATE_LIM (a : Nat) : Nat := 0xF0070138 + 0x80 * a
/-- AX_ENC_CPS (R414). -/
abbrev R.AX_ENC_CPS (a : Nat) : Nat := 0xF007013C + 0x80 * a
/-- AX_ENC_TOL (R414). -/
abbrev R.AX_ENC_TOL (a : Nat) : Nat := 0xF0070140 + 0x80 * a
/-- AX_BR_CFG (R414). -/
abbrev R.AX_BR_CFG (a : Nat) : Nat := 0xF0070144 + 0x80 * a
/-- AX_BR_HOLD (R414). -/
abbrev R.AX_BR_HOLD (a : Nat) : Nat := 0xF0070148 + 0x80 * a
/-- LANES_REF (R453). -/
abbrev R.LANES_REF : Nat := 0xF0080000
/-- LANES_QUAD_CFG (R453). -/
abbrev R.LANES_QUAD_CFG (q : Nat) : Nat := 0xF0080010 + 0x4 * q
/-- LANES_EQ_Bb (R454). -/
abbrev R.LANES_EQ (b : Nat) : Nat := 0xF0080030 + 0x4 * b
/-- LANES_TIMING (R454). -/
abbrev R.LANES_TIMING : Nat := 0xF0080040
/-- LANES_EYE_MIN (R454). -/
abbrev R.LANES_EYE_MIN : Nat := 0xF0080044
/-- LANES_EYE_CMD (R455). -/
abbrev R.LANES_EYE_CMD : Nat := 0xF0080048
/-- LANES_EYE_BASE (R455). -/
abbrev R.LANES_EYE_BASE : Nat := 0xF008004C
/-- LN_CFG (R456). -/
abbrev R.LN_CFG (n : Nat) : Nat := 0xF0080100 + 0x20 * n
/-- LN_STAT (R456). -/
abbrev R.LN_STAT (n : Nat) : Nat := 0xF0080104 + 0x20 * n
/-- LN_PARTNER (R456). -/
abbrev R.LN_PARTNER (n : Nat) : Nat := 0xF0080108 + 0x20 * n
/-- LN_EYE (R456). -/
abbrev R.LN_EYE (n : Nat) : Nat := 0xF008010C + 0x20 * n
/-- LN_ERR (R456). -/
abbrev R.LN_ERR (n : Nat) : Nat := 0xF0080110 + 0x20 * n
/-- LN_CTRL (R456). -/
abbrev R.LN_CTRL (n : Nat) : Nat := 0xF0080114 + 0x20 * n
/-- LN_ETH_LP (R456). -/
abbrev R.LN_ETH_LP (n : Nat) : Nat := 0xF0080118 + 0x20 * n
/-- FABRIC_CFG (R486). -/
abbrev R.FABRIC_CFG : Nat := 0xF0090000
/-- FABRIC_STAT (R486). -/
abbrev R.FABRIC_STAT : Nat := 0xF0090004
/-- FABRIC_KEY_GEN (R486). -/
abbrev R.FABRIC_KEY_GEN : Nat := 0xF0090008
/-- FABRIC_KEY_CFG (R487). -/
abbrev R.FABRIC_KEY_CFG : Nat := 0xF0090010
/-- FABRIC_ELIG_LO (R487). -/
abbrev R.FABRIC_ELIG_LO : Nat := 0xF0090018
/-- FABRIC_ELIG_HI (R487). -/
abbrev R.FABRIC_ELIG_HI : Nat := 0xF009001C
/-- FABRIC_LAYER_LO (R487). -/
abbrev R.FABRIC_LAYER_LO : Nat := 0xF0090020
/-- FABRIC_LAYER_HI (R487). -/
abbrev R.FABRIC_LAYER_HI : Nat := 0xF0090024
/-- FABRIC_REACH_LO (R487). -/
abbrev R.FABRIC_REACH_LO : Nat := 0xF0090028
/-- FABRIC_REACH_HI (R487). -/
abbrev R.FABRIC_REACH_HI : Nat := 0xF009002C
/-- FABRIC_WINNOW (R488). -/
abbrev R.FABRIC_WINNOW : Nat := 0xF0090030
/-- FABRIC_WINNOW_STAT (R488). -/
abbrev R.FABRIC_WINNOW_STAT : Nat := 0xF0090034
/-- FABRIC_DROP (R488). -/
abbrev R.FABRIC_DROP : Nat := 0xF0090038
/-- FABRIC_ROUTE (R489). -/
abbrev R.FABRIC_ROUTE (n : Nat) : Nat := 0xF0090100 + 0x4 * n
/-- HOST_NET_MAC_LO (R495). -/
abbrev R.HOST_NET_MAC_LO (p : Nat) : Nat := 0xF00A0000 + 0x20 * p
/-- HOST_NET_MAC_HI (R495). -/
abbrev R.HOST_NET_MAC_HI (p : Nat) : Nat := 0xF00A0004 + 0x20 * p
/-- HOST_NET_IP (R495). -/
abbrev R.HOST_NET_IP (p : Nat) : Nat := 0xF00A0008 + 0x20 * p
/-- HOST_NET_MASK (R495). -/
abbrev R.HOST_NET_MASK (p : Nat) : Nat := 0xF00A000C + 0x20 * p
/-- HOST_NET_VLAN (R495). -/
abbrev R.HOST_NET_VLAN (p : Nat) : Nat := 0xF00A0010 + 0x20 * p
/-- HOST_NET_DROP (R495). -/
abbrev R.HOST_NET_DROP (p : Nat) : Nat := 0xF00A0014 + 0x20 * p
/-- HOST_HRING_CFG (R514). -/
abbrev R.HOST_HRING_CFG (h : Nat) : Nat := 0xF00A1400 + 0x4 * h
/-- HOST_VMP_CFG (R522). -/
abbrev R.HOST_VMP_CFG : Nat := 0xF00A0040
/-- HOST_VMP_CNT (R522). -/
abbrev R.HOST_VMP_CNT : Nat := 0xF00A0044
/-- HOST_LONG (R522). -/
abbrev R.HOST_LONG : Nat := 0xF00A0200
/-- HOST_KEY (R522). -/
abbrev R.HOST_KEY : Nat := 0xF00A0204
/-- HOST_SESS_INFO (R523). -/
abbrev R.HOST_SESS_INFO (s : Nat) : Nat := 0xF00A0100 + 0x8 * s
/-- HOST_SESS_ADDR (R523). -/
abbrev R.HOST_SESS_ADDR (s : Nat) : Nat := 0xF00A0104 + 0x8 * s
/-- EVT_ROUTE (R532). -/
abbrev R.EVT_ROUTE (s : Nat) : Nat := 0xF00F0000 + 0x8 * s
/-- EVT_ENG (R532). -/
abbrev R.EVT_ENG (s : Nat) : Nat := 0xF00F0004 + 0x8 * s
/-- EVT_LAST_DATA (R533). -/
abbrev R.EVT_LAST_DATA (s : Nat) : Nat := 0xF00F1000 + 0x10 * s
/-- EVT_LAST_TIME_LO (R533). -/
abbrev R.EVT_LAST_TIME_LO (s : Nat) : Nat := 0xF00F1004 + 0x10 * s
/-- EVT_LAST_TIME_HI (R533). -/
abbrev R.EVT_LAST_TIME_HI (s : Nat) : Nat := 0xF00F1008 + 0x10 * s
/-- EVT_LAST_COUNT (R533). -/
abbrev R.EVT_LAST_COUNT (s : Nat) : Nat := 0xF00F100C + 0x10 * s
/-- EVT_OUT_CFG (R534). -/
abbrev R.EVT_OUT_CFG (p : Nat) : Nat := 0xF00F3000 + 0x4 * p
/-- EVT_HOST_DATA (R534). -/
abbrev R.EVT_HOST_DATA : Nat := 0xF00F3010
/-- EVT_HOST_RAISE (R534). -/
abbrev R.EVT_HOST_RAISE : Nat := 0xF00F3014
/-- SYS_DEVICE_ID (R538). -/
abbrev R.SYS_DEVICE_ID : Nat := 0xF0000000
/-- SYS_REV (R538). -/
abbrev R.SYS_REV : Nat := 0xF0000004
/-- SYS_UID_LO (R538). -/
abbrev R.SYS_UID_LO : Nat := 0xF0000008
/-- SYS_UID_HI (R538). -/
abbrev R.SYS_UID_HI : Nat := 0xF000000C
/-- SYS_STRAPS (R538). -/
abbrev R.SYS_STRAPS : Nat := 0xF0000010
/-- GRANARY_STAT (R560). -/
abbrev R.GRANARY_STAT : Nat := 0xF00B0000
/-- GRANARY_NEXT (R561). -/
abbrev R.GRANARY_NEXT : Nat := 0xF00B0004
/-- GRANARY_LAST_SEQ (R561). -/
abbrev R.GRANARY_LAST_SEQ : Nat := 0xF00B0008
/-- GRANARY_PCC (R561). -/
abbrev R.GRANARY_PCC : Nat := 0xF00B000C
/-- GRANARY_OPTIME_LO (R561). -/
abbrev R.GRANARY_OPTIME_LO : Nat := 0xF00B0010
/-- GRANARY_OPTIME_HI (R561). -/
abbrev R.GRANARY_OPTIME_HI : Nat := 0xF00B0014
/-- GRANARY_LOST (R561). -/
abbrev R.GRANARY_LOST : Nat := 0xF00B0018
/-- GRANARY_WIN_SLOT (R562). -/
abbrev R.GRANARY_WIN_SLOT : Nat := 0xF00B0020
/-- GRANARY_WIN_DATA (R562). -/
abbrev R.GRANARY_WIN_DATA (w : Nat) : Nat := 0xF00B0040 + 0x4 * w
/-- GRANARY_COPY_SRC (R563). -/
abbrev R.GRANARY_COPY_SRC : Nat := 0xF00B0080
/-- GRANARY_COPY_DST (R563). -/
abbrev R.GRANARY_COPY_DST : Nat := 0xF00B0084
/-- GRANARY_COPY_CTRL (R563). -/
abbrev R.GRANARY_COPY_CTRL : Nat := 0xF00B0088
/-- HK_THROTTLE (R584). -/
abbrev R.HK_THROTTLE : Nat := 0xF00C0000
/-- HK_LIMITS (R584). -/
abbrev R.HK_LIMITS : Nat := 0xF00C0004
/-- HK_STAT (R584). -/
abbrev R.HK_STAT : Nat := 0xF00C0008
/-- HK_TS (R585). -/
abbrev R.HK_TS (i : Nat) : Nat := 0xF00C0100 + 0x4 * i
/-- HK_TS_NBR (R585). -/
abbrev R.HK_TS_NBR (i : Nat) : Nat := 0xF00C0180 + 0x4 * i
/-- HK_AIN (R586). -/
abbrev R.HK_AIN (a : Nat) : Nat := 0xF00C0200 + 0x4 * a
/-- HK_AIN_LUT (R586). -/
abbrev R.HK_AIN_LUT (a : Nat) (k : Nat) : Nat := 0xF00C0400 + 0x80 * a + 0x4 * k
/-- HK_SUP (R587). -/
abbrev R.HK_SUP (s : Nat) : Nat := 0xF00C0B00 + 0x4 * s
/-- HK_SUP_LIM (R587). -/
abbrev R.HK_SUP_LIM (s : Nat) : Nat := 0xF00C0B40 + 0x4 * s
/-- LT_LEVEL (R588). -/
abbrev R.LT_LEVEL (n : Nat) : Nat := 0xF00C0800 + 0x20 * n
/-- LT_CFG (R588). -/
abbrev R.LT_CFG (n : Nat) : Nat := 0xF00C0804 + 0x20 * n
/-- LT_COMP (R588). -/
abbrev R.LT_COMP (n : Nat) : Nat := 0xF00C0808 + 0x20 * n
/-- LT_STAT (R588). -/
abbrev R.LT_STAT (n : Nat) : Nat := 0xF00C080C + 0x20 * n
/-- HK_BCN (R589). -/
abbrev R.HK_BCN : Nat := 0xF00C0A00
/-- DISP_CTRL (R607). -/
abbrev R.DISP_CTRL : Nat := 0xF00D0000
/-- DISP_OUT_CFG (R608). -/
abbrev R.DISP_OUT_CFG (o : Nat) : Nat := 0xF00D0100 + 0x100 * o
/-- DISP_PCLK (R608). -/
abbrev R.DISP_PCLK (o : Nat) : Nat := 0xF00D0104 + 0x100 * o
/-- DISP_HTIM0 (R608). -/
abbrev R.DISP_HTIM0 (o : Nat) : Nat := 0xF00D0108 + 0x100 * o
/-- DISP_HTIM1 (R608). -/
abbrev R.DISP_HTIM1 (o : Nat) : Nat := 0xF00D010C + 0x100 * o
/-- DISP_VTIM0 (R608). -/
abbrev R.DISP_VTIM0 (o : Nat) : Nat := 0xF00D0110 + 0x100 * o
/-- DISP_VTIM1 (R608). -/
abbrev R.DISP_VTIM1 (o : Nat) : Nat := 0xF00D0114 + 0x100 * o
/-- DISP_CMD_TIM (R608). -/
abbrev R.DISP_CMD_TIM (o : Nat) : Nat := 0xF00D0118 + 0x100 * o
/-- DISP_COMMIT_LINE (R608). -/
abbrev R.DISP_COMMIT_LINE (o : Nat) : Nat := 0xF00D011C + 0x100 * o
/-- DISP_BG (R608). -/
abbrev R.DISP_BG (o : Nat) : Nat := 0xF00D0120 + 0x100 * o
/-- DISP_DIRTY0 (R608). -/
abbrev R.DISP_DIRTY0 (o : Nat) : Nat := 0xF00D0124 + 0x100 * o
/-- DISP_DIRTY1 (R608). -/
abbrev R.DISP_DIRTY1 (o : Nat) : Nat := 0xF00D0128 + 0x100 * o
/-- DISP_COMMIT (R608). -/
abbrev R.DISP_COMMIT (o : Nat) : Nat := 0xF00D012C + 0x100 * o
/-- DISP_CMDQ (R608). -/
abbrev R.DISP_CMDQ (o : Nat) : Nat := 0xF00D0130 + 0x100 * o
/-- DISP_STAT (R608). -/
abbrev R.DISP_STAT (o : Nat) : Nat := 0xF00D0134 + 0x100 * o
/-- DISP_FRAME (R608). -/
abbrev R.DISP_FRAME (o : Nat) : Nat := 0xF00D0138 + 0x100 * o
/-- DISP_PL_CTRL (R609). -/
abbrev R.DISP_PL_CTRL (o : Nat) (p : Nat) : Nat := 0xF00D0140 + 0x100 * o + 0x20 * p
/-- DISP_PL_BASE (R609). -/
abbrev R.DISP_PL_BASE (o : Nat) (p : Nat) : Nat := 0xF00D0144 + 0x100 * o + 0x20 * p
/-- DISP_PL_STRIDE (R609). -/
abbrev R.DISP_PL_STRIDE (o : Nat) (p : Nat) : Nat := 0xF00D0148 + 0x100 * o + 0x20 * p
/-- DISP_PL_POS (R609). -/
abbrev R.DISP_PL_POS (o : Nat) (p : Nat) : Nat := 0xF00D014C + 0x100 * o + 0x20 * p
/-- DISP_PL_SIZE (R609). -/
abbrev R.DISP_PL_SIZE (o : Nat) (p : Nat) : Nat := 0xF00D0150 + 0x100 * o + 0x20 * p
/-- XK_ID (R616). -/
abbrev R.XK_ID : Nat := 0xF00E0000
/-- XK_REV (R616). -/
abbrev R.XK_REV : Nat := 0xF00E0004
/-- XK_CTRL (R616). -/
abbrev R.XK_CTRL : Nat := 0xF00E0008
/-- XK_STATUS (R616). -/
abbrev R.XK_STATUS : Nat := 0xF00E000C
/-- XK_INT_LO (R616). -/
abbrev R.XK_INT_LO : Nat := 0xF00E0010
/-- XK_INT_HI (R616). -/
abbrev R.XK_INT_HI : Nat := 0xF00E0014
/-- XK_MASK_LO (R616). -/
abbrev R.XK_MASK_LO : Nat := 0xF00E0018
/-- XK_MASK_HI (R616). -/
abbrev R.XK_MASK_HI : Nat := 0xF00E001C
/-- XK_TICK_LO (R616). -/
abbrev R.XK_TICK_LO : Nat := 0xF00E0020
/-- XK_TICK_HI (R616). -/
abbrev R.XK_TICK_HI : Nat := 0xF00E0024
/-- XK_BUF (R616). -/
abbrev R.XK_BUF : Nat := 0xF00E0028
/-- XK_VARIANT (R616). -/
abbrev R.XK_VARIANT : Nat := 0xF00E003C
/-- CH_CTRL (R616). -/
abbrev R.CH_CTRL (h : Nat) : Nat := 0xF00E0040 + 0x40 * h
/-- CH_START (R616). -/
abbrev R.CH_START (h : Nat) : Nat := 0xF00E0044 + 0x40 * h
/-- CH_STAT (R616). -/
abbrev R.CH_STAT (h : Nat) : Nat := 0xF00E0048 + 0x40 * h
/-- CH_PC (R616). -/
abbrev R.CH_PC (h : Nat) : Nat := 0xF00E004C + 0x40 * h
/-- CH_FETCH (R616). -/
abbrev R.CH_FETCH (h : Nat) : Nat := 0xF00E0050 + 0x40 * h
/-- CH_X (R616). -/
abbrev R.CH_X (h : Nat) : Nat := 0xF00E0054 + 0x40 * h
/-- CH_Y (R616). -/
abbrev R.CH_Y (h : Nat) : Nat := 0xF00E0058 + 0x40 * h
/-- CH_Z (R616). -/
abbrev R.CH_Z (h : Nat) : Nat := 0xF00E005C + 0x40 * h
/-- LS_CTRL (R616). -/
abbrev R.LS_CTRL (h : Nat) : Nat := 0xF00E0140 + 0x20 * h
/-- LS_POWER (R616). -/
abbrev R.LS_POWER (h : Nat) : Nat := 0xF00E0144 + 0x20 * h
/-- XAX_POS_LO (R616). -/
abbrev R.XAX_POS_LO (a : Nat) : Nat := 0xF00E01C0 + 0x40 * a
/-- XAX_POS_HI (R616). -/
abbrev R.XAX_POS_HI (a : Nat) : Nat := 0xF00E01C4 + 0x40 * a
/-- XAX_STAT (R616). -/
abbrev R.XAX_STAT (a : Nat) : Nat := 0xF00E01C8 + 0x40 * a
/-- XAX_SPEED (R616). -/
abbrev R.XAX_SPEED (a : Nat) : Nat := 0xF00E01CC + 0x40 * a
/-- XAX_ACCEL (R616). -/
abbrev R.XAX_ACCEL (a : Nat) : Nat := 0xF00E01D0 + 0x40 * a
/-- LIST_ADDR (R616). -/
abbrev R.LIST_ADDR : Nat := 0xF00E0240
/-- LIST_LO (R616). -/
abbrev R.LIST_LO : Nat := 0xF00E0244
/-- LIST_HI (R616). -/
abbrev R.LIST_HI : Nat := 0xF00E0248
/-- CORR_ADDR (R616). -/
abbrev R.CORR_ADDR : Nat := 0xF00E0280
/-- CORR_DATA (R616). -/
abbrev R.CORR_DATA : Nat := 0xF00E0284
/-- XK_V (R616). -/
abbrev R.XK_V (v : Nat) : Nat := 0xF00E0400 + 0x4 * v
/-- XK_CFG (R617). -/
abbrev R.XK_CFG : Nat := 0xF00E1000
/-- SYS_RESET_CAUSE (R653). -/
abbrev R.SYS_RESET_CAUSE : Nat := 0xF0000020
/-- SYS_RESET (R653). -/
abbrev R.SYS_RESET : Nat := 0xF0000024
/-- SYS_BOOT (R654). -/
abbrev R.SYS_BOOT : Nat := 0xF0000028
/-- SYS_BOOT_GEN (R654). -/
abbrev R.SYS_BOOT_GEN : Nat := 0xF000002C
/-- SYS_BOOT_HOST (R654). -/
abbrev R.SYS_BOOT_HOST : Nat := 0xF0000030
/-- SYS_SUP (R655). -/
abbrev R.SYS_SUP : Nat := 0xF0000034
/-- LOOP_PROG word i of beam b (R342). -/
abbrev R.LOOP_PROG (b i : Nat) : Nat := 0xF0051000 + 0x80 * b + 4 * i
/-- AX_SINE word w of AX(f) (R415). -/
abbrev R.AX_SINE (f w : Nat) : Nat := 0xF0071000 + 0x200 * f + 4 * w

abbrev F.SYS_LOOKAHEAD_LOOKAHEAD : Fld := ⟨0xF0000100, 11, 0⟩
abbrev F.SYS_LOOKAHEAD_EFFECTIVE : Fld := ⟨0xF0000100, 27, 16⟩
abbrev F.SYS_BAND_BAND : Fld := ⟨0xF0000104, 2, 0⟩
abbrev F.SYS_BAND_PAUSED : Fld := ⟨0xF0000104, 3, 3⟩
abbrev F.SYS_BAND_TJ_HOT : Fld := ⟨0xF0000104, 15, 8⟩
abbrev F.SYS_BAND_HOT_SENSOR : Fld := ⟨0xF0000104, 20, 16⟩
abbrev F.SYS_BAND_BAND_CHANGES : Fld := ⟨0xF0000104, 31, 24⟩
abbrev F.SYS_PWR_POLICY_IDLE_DELAY (d : Nat) : Fld := ⟨0xF0000200 + 0x4 * d, 15, 0⟩
abbrev F.SYS_PWR_POLICY_OFF_EN (d : Nat) : Fld := ⟨0xF0000200 + 0x4 * d, 16, 16⟩
abbrev F.SYS_PWR_POLICY_FORCE_ON (d : Nat) : Fld := ⟨0xF0000200 + 0x4 * d, 17, 17⟩
abbrev F.SYS_PWR_POLICY_STATE (d : Nat) : Fld := ⟨0xF0000200 + 0x4 * d, 25, 24⟩
abbrev F.BEAM_FIELD_XMIN_VALUE (b : Nat) : Fld := ⟨0xF0020040 + 0x1000 * b, 31, 0⟩
abbrev F.BEAM_FIELD_YMIN_VALUE (b : Nat) : Fld := ⟨0xF0020044 + 0x1000 * b, 31, 0⟩
abbrev F.BEAM_FIELD_XMAX_VALUE (b : Nat) : Fld := ⟨0xF0020048 + 0x1000 * b, 31, 0⟩
abbrev F.BEAM_FIELD_YMAX_VALUE (b : Nat) : Fld := ⟨0xF002004C + 0x1000 * b, 31, 0⟩
abbrev F.BEDMAP_ORIGIN_X_ORIGIN : Fld := ⟨0xF0040000, 31, 0⟩
abbrev F.BEDMAP_ORIGIN_Y_ORIGIN : Fld := ⟨0xF0040004, 31, 0⟩
abbrev F.BEDMAP_GEOM_NX : Fld := ⟨0xF0040008, 10, 0⟩
abbrev F.BEDMAP_GEOM_NY : Fld := ⟨0xF0040008, 26, 16⟩
abbrev F.BEDMAP_GEOM_BUSY : Fld := ⟨0xF0040008, 30, 30⟩
abbrev F.BEDMAP_GEOM_ERR : Fld := ⟨0xF0040008, 31, 31⟩
abbrev F.BEDMAP_PITCH_PITCH : Fld := ⟨0xF004000C, 13, 0⟩
abbrev F.BEDMAP_HALF_LIFE_HALF_LIFE : Fld := ⟨0xF0040010, 31, 0⟩
abbrev F.BEDMAP_E_LSB_E_LSB : Fld := ⟨0xF0040014, 31, 0⟩
abbrev F.HOST_RING_BASE_BASE (n : Nat) : Fld := ⟨0xF00A1000 + 0x10 * n, 26, 5⟩
abbrev F.HOST_RING_CFG_SIZE_LOG2 (n : Nat) : Fld := ⟨0xF00A1004 + 0x10 * n, 4, 0⟩
abbrev F.HOST_RING_CFG_ENABLE (n : Nat) : Fld := ⟨0xF00A1004 + 0x10 * n, 8, 8⟩
abbrev F.HOST_RING_CFG_FALLBACK_GL (n : Nat) : Fld := ⟨0xF00A1004 + 0x10 * n, 11, 10⟩
abbrev F.HOST_RING_CFG_ERR (n : Nat) : Fld := ⟨0xF00A1004 + 0x10 * n, 12, 12⟩
abbrev F.HOST_RING_CFG_COUNT (n : Nat) : Fld := ⟨0xF00A1004 + 0x10 * n, 31, 15⟩
abbrev F.HOST_RING_HEAD_SLOT (n : Nat) : Fld := ⟨0xF00A1008 + 0x10 * n, 15, 0⟩
abbrev F.HOST_RING_HEAD_WRAP (n : Nat) : Fld := ⟨0xF00A1008 + 0x10 * n, 16, 16⟩
abbrev F.HOST_RING_TAIL_SLOT (n : Nat) : Fld := ⟨0xF00A100C + 0x10 * n, 15, 0⟩
abbrev F.HOST_RING_TAIL_WRAP (n : Nat) : Fld := ⟨0xF00A100C + 0x10 * n, 16, 16⟩
abbrev F.HOST_RING_TAIL_OVF (n : Nat) : Fld := ⟨0xF00A100C + 0x10 * n, 31, 31⟩
abbrev F.HOST_LAYER_BEGIN_LO_T_B_LO : Fld := ⟨0xF00A2000, 31, 0⟩
abbrev F.HOST_LAYER_BEGIN_HI_T_B_HI : Fld := ⟨0xF00A2004, 31, 0⟩
abbrev F.HOST_LAYER_MAP_FOLD_MODE : Fld := ⟨0xF00A2008, 0, 0⟩
abbrev F.HOST_LAYER_MAP_MAP_BASE : Fld := ⟨0xF00A2008, 26, 12⟩
abbrev F.HOST_LAYER_STATE_STATE : Fld := ⟨0xF00A200C, 2, 0⟩
abbrev F.HOST_LAYER_STATE_CLOSED : Fld := ⟨0xF00A200C, 3, 3⟩
abbrev F.HOST_LAYER_CMD_CMD : Fld := ⟨0xF00A2010, 3, 0⟩
abbrev F.HOST_LAYER_CMD_ARG : Fld := ⟨0xF00A2010, 25, 4⟩
abbrev F.HOST_LAYER_CMD_RESULT : Fld := ⟨0xF00A2010, 31, 28⟩
abbrev F.TIME_ADDEND_FREQ : Fld := ⟨0xF0010010, 31, 0⟩
abbrev F.TIME_STATUS_LOCKED : Fld := ⟨0xF0010008, 0, 0⟩
abbrev F.TIME_STATUS_EXT_VALID : Fld := ⟨0xF0010008, 1, 1⟩
abbrev F.TIME_STATUS_PEND_WRAP : Fld := ⟨0xF0010008, 2, 2⟩
abbrev F.TIME_STATUS_HOLDOVER : Fld := ⟨0xF0010008, 3, 3⟩
abbrev F.TIME_STATUS_STATE : Fld := ⟨0xF0010008, 5, 4⟩
abbrev F.TIME_STATUS_ACTIVE_DOM : Fld := ⟨0xF0010008, 6, 6⟩
abbrev F.TIME_STATUS_SLEWING : Fld := ⟨0xF0010008, 7, 7⟩
abbrev F.TIME_STATUS_STEPPED : Fld := ⟨0xF0010008, 8, 8⟩
abbrev F.TIME_STATUS_SWITCHED : Fld := ⟨0xF0010008, 9, 9⟩
abbrev F.TIME_STATUS_LOCK_LOST : Fld := ⟨0xF0010008, 10, 10⟩
abbrev F.TIME_STATUS_EXT_LOST : Fld := ⟨0xF0010008, 11, 11⟩
abbrev F.TIME_STATUS_STEP_PEND : Fld := ⟨0xF0010008, 12, 12⟩
abbrev F.TIME_NOW_LO_NOW : Fld := ⟨0xF0010000, 31, 0⟩
abbrev F.TIME_NOW_HI_NOW : Fld := ⟨0xF0010004, 31, 0⟩
abbrev F.TIME_GCELL_CFG_DIR (n : Nat) : Fld := ⟨0xF0010100 + 0x4 * n, 0, 0⟩
abbrev F.TIME_GCELL_CFG_LATE_DROP (n : Nat) : Fld := ⟨0xF0010100 + 0x4 * n, 1, 1⟩
abbrev F.TIME_GCELL_CFG_IDLE (n : Nat) : Fld := ⟨0xF0010100 + 0x4 * n, 2, 2⟩
abbrev F.TIME_GCELL_CFG_EDGE (n : Nat) : Fld := ⟨0xF0010100 + 0x4 * n, 4, 3⟩
abbrev F.TIME_GCELL_CFG_OVF (n : Nat) : Fld := ⟨0xF0010100 + 0x4 * n, 5, 5⟩
abbrev F.TIME_GCELL_CFG_COUNT (n : Nat) : Fld := ⟨0xF0010100 + 0x4 * n, 10, 6⟩
abbrev F.TIME_GCELL_CFG_LEVEL (n : Nat) : Fld := ⟨0xF0010100 + 0x4 * n, 11, 11⟩
abbrev F.TIME_GCELL_CAP_LO_ET (n : Nat) : Fld := ⟨0xF0010140 + 0x8 * n, 31, 0⟩
abbrev F.TIME_GCELL_CAP_HI_ET (n : Nat) : Fld := ⟨0xF0010144 + 0x8 * n, 31, 0⟩
abbrev F.TIME_LATE_COUNT : Fld := ⟨0xF0010048, 15, 0⟩
abbrev F.TIME_LATE_LAST_CELL : Fld := ⟨0xF0010048, 22, 16⟩
abbrev F.TIME_LATE_SPACED : Fld := ⟨0xF0010048, 31, 24⟩
abbrev F.TIME_PORT_ADJ_TX_ADJ (p : Nat) : Fld := ⟨0xF0010040 + 0x4 * p, 15, 0⟩
abbrev F.TIME_PORT_ADJ_RX_ADJ (p : Nat) : Fld := ⟨0xF0010040 + 0x4 * p, 31, 16⟩
abbrev F.TIME_CTRL_SLEW_PPM : Fld := ⟨0xF001000C, 9, 0⟩
abbrev F.TIME_CTRL_LOSS_INTERVALS : Fld := ⟨0xF001000C, 13, 10⟩
abbrev F.TIME_CTRL_REVERT : Fld := ⟨0xF001000C, 14, 14⟩
abbrev F.TIME_CTRL_STEP_EN : Fld := ⟨0xF001000C, 15, 15⟩
abbrev F.TIME_CTRL_STEP : Fld := ⟨0xF001000C, 16, 16⟩
abbrev F.TIME_DOM_CFG_SRC (d : Nat) : Fld := ⟨0xF0010020 + 0x10 * d, 1, 0⟩
abbrev F.TIME_DOM_CFG_PORT (d : Nat) : Fld := ⟨0xF0010020 + 0x10 * d, 2, 2⟩
abbrev F.TIME_DOM_CFG_MASTER_CAP (d : Nat) : Fld := ⟨0xF0010020 + 0x10 * d, 3, 3⟩
abbrev F.TIME_DOM_CFG_DOMAIN_NUM (d : Nat) : Fld := ⟨0xF0010020 + 0x10 * d, 10, 4⟩
abbrev F.TIME_DOM_CFG_VALID (d : Nat) : Fld := ⟨0xF0010020 + 0x10 * d, 11, 11⟩
abbrev F.TIME_DOM_CFG_LOST (d : Nat) : Fld := ⟨0xF0010020 + 0x10 * d, 12, 12⟩
abbrev F.TIME_DOM_CFG_DEGRADED (d : Nat) : Fld := ⟨0xF0010020 + 0x10 * d, 13, 13⟩
abbrev F.TIME_DOM_CFG_PRIO (d : Nat) : Fld := ⟨0xF0010020 + 0x10 * d, 23, 16⟩
abbrev F.TIME_DOM_CFG_QUAL_LIMIT (d : Nat) : Fld := ⟨0xF0010020 + 0x10 * d, 31, 24⟩
abbrev F.TIME_DOM_OFS_LO_OFS_LO (d : Nat) : Fld := ⟨0xF0010024 + 0x10 * d, 31, 0⟩
abbrev F.TIME_DOM_OFS_HI_OFS_HI (d : Nat) : Fld := ⟨0xF0010028 + 0x10 * d, 31, 0⟩
abbrev F.TIME_DOM_INFO_GM_CLASS (d : Nat) : Fld := ⟨0xF001002C + 0x10 * d, 7, 0⟩
abbrev F.TIME_DOM_INFO_HOPS (d : Nat) : Fld := ⟨0xF001002C + 0x10 * d, 15, 8⟩
abbrev F.TIME_DOM_INFO_RMS_OFS (d : Nat) : Fld := ⟨0xF001002C + 0x10 * d, 31, 16⟩
abbrev F.SYS_ENG_CTRL_RUN (e : Nat) : Fld := ⟨0xF0000400 + 0x4 * e, 0, 0⟩
abbrev F.SYS_ENG_CTRL_RESET (e : Nat) : Fld := ⟨0xF0000400 + 0x4 * e, 1, 1⟩
abbrev F.SYS_ENG_CTRL_HALTED (e : Nat) : Fld := ⟨0xF0000400 + 0x4 * e, 2, 2⟩
abbrev F.SYS_ENG_CTRL_FAULT (e : Nat) : Fld := ⟨0xF0000400 + 0x4 * e, 3, 3⟩
abbrev F.SYS_ENG_CTRL_DOUBLE (e : Nat) : Fld := ⟨0xF0000400 + 0x4 * e, 4, 4⟩
abbrev F.SYS_ENG_CTRL_FCAUSE (e : Nat) : Fld := ⟨0xF0000400 + 0x4 * e, 11, 8⟩
abbrev F.SYS_ENG_CTRL_EV_MERGED (e : Nat) : Fld := ⟨0xF0000400 + 0x4 * e, 23, 16⟩
abbrev F.SYS_ENG_WDOG_TIMEOUT (e : Nat) : Fld := ⟨0xF0000480 + 0x4 * e, 19, 0⟩
abbrev F.SYS_ENG_WDOG_EXPIRED (e : Nat) : Fld := ⟨0xF0000480 + 0x4 * e, 31, 31⟩
abbrev F.SYS_FC_PRIV_GRANT : Fld := ⟨0xF0000500, 3, 0⟩
abbrev F.BEAM_PSET_BASE_BASE (b : Nat) : Fld := ⟨0xF0020050 + 0x1000 * b, 26, 14⟩
abbrev F.BEAM_SWATH_STATE (b : Nat) : Fld := ⟨0xF0020080 + 0x1000 * b, 2, 0⟩
abbrev F.BEAM_SWATH_LEASED (b : Nat) : Fld := ⟨0xF0020080 + 0x1000 * b, 3, 3⟩
abbrev F.BEAM_SWATH_TRIES (b : Nat) : Fld := ⟨0xF0020080 + 0x1000 * b, 5, 4⟩
abbrev F.BEAM_SWATH_RESTART_PEND (b : Nat) : Fld := ⟨0xF0020080 + 0x1000 * b, 6, 6⟩
abbrev F.BEAM_SWATH_CFG_ERR (b : Nat) : Fld := ⟨0xF0020080 + 0x1000 * b, 7, 7⟩
abbrev F.BEAM_SWATH_RING (b : Nat) : Fld := ⟨0xF0020080 + 0x1000 * b, 13, 8⟩
abbrev F.BEAM_SWATH_SAFE_K (b : Nat) : Fld := ⟨0xF0020080 + 0x1000 * b, 31, 16⟩
abbrev F.BEAM_SWATH_ID_SWATH_ID (b : Nat) : Fld := ⟨0xF0020084 + 0x1000 * b, 21, 0⟩
abbrev F.BEAM_SWATH_ID_VALID (b : Nat) : Fld := ⟨0xF0020084 + 0x1000 * b, 31, 31⟩
abbrev F.BEAM_FRONTIER_MARK_DONE (b : Nat) : Fld := ⟨0xF0020088 + 0x1000 * b, 31, 0⟩
abbrev F.BEAM_SYNC_PART (b : Nat) : Fld := ⟨0xF002008C + 0x1000 * b, 7, 0⟩
abbrev F.BEAM_SYNC_WAITING (b : Nat) : Fld := ⟨0xF002008C + 0x1000 * b, 15, 8⟩
abbrev F.BEAM_SYNC_BROKEN (b : Nat) : Fld := ⟨0xF002008C + 0x1000 * b, 23, 16⟩
abbrev F.BEAM_HEAD_CFG_SP_DIV (b : Nat) : Fld := ⟨0xF0020100 + 0x1000 * b, 1, 0⟩
abbrev F.BEAM_HEAD_CFG_SP_DIV_EFF (b : Nat) : Fld := ⟨0xF0020100 + 0x1000 * b, 3, 2⟩
abbrev F.BEAM_HEAD_CFG_POWER_PATH (b : Nat) : Fld := ⟨0xF0020100 + 0x1000 * b, 5, 4⟩
abbrev F.BEAM_HEAD_CFG_CORR_EN (b : Nat) : Fld := ⟨0xF0020100 + 0x1000 * b, 6, 6⟩
abbrev F.BEAM_HEAD_CFG_HEAD_LAT (b : Nat) : Fld := ⟨0xF0020100 + 0x1000 * b, 31, 16⟩
abbrev F.BEAM_POWER_LEAD_LEAD (b : Nat) : Fld := ⟨0xF0020104 + 0x1000 * b, 15, 0⟩
abbrev F.BEAM_XFORM_A11_A11 (b : Nat) : Fld := ⟨0xF0020110 + 0x1000 * b, 31, 0⟩
abbrev F.BEAM_XFORM_A12_A12 (b : Nat) : Fld := ⟨0xF0020114 + 0x1000 * b, 31, 0⟩
abbrev F.BEAM_XFORM_A21_A21 (b : Nat) : Fld := ⟨0xF0020118 + 0x1000 * b, 31, 0⟩
abbrev F.BEAM_XFORM_A22_A22 (b : Nat) : Fld := ⟨0xF002011C + 0x1000 * b, 31, 0⟩
abbrev F.BEAM_XFORM_OFS_U_OFS_U (b : Nat) : Fld := ⟨0xF0020120 + 0x1000 * b, 31, 0⟩
abbrev F.BEAM_XFORM_OFS_V_OFS_V (b : Nat) : Fld := ⟨0xF0020124 + 0x1000 * b, 31, 0⟩
abbrev F.BEAM_XFORM_Z_GAIN_Z_GAIN (b : Nat) : Fld := ⟨0xF0020128 + 0x1000 * b, 31, 0⟩
abbrev F.BEAM_XFORM_Z_OFS_Z_OFS (b : Nat) : Fld := ⟨0xF002012C + 0x1000 * b, 31, 0⟩
abbrev F.BEAM_CORR_BASE_BASE (b : Nat) : Fld := ⟨0xF0020130 + 0x1000 * b, 26, 6⟩
abbrev F.BEAM_CORR_BASE_PEND (b : Nat) : Fld := ⟨0xF0020130 + 0x1000 * b, 31, 31⟩
abbrev F.BEAM_LASER_CFG_ALARM_POL (b : Nat) : Fld := ⟨0xF0020140 + 0x1000 * b, 0, 0⟩
abbrev F.BEAM_LASER_CFG_AUTO_RESUME (b : Nat) : Fld := ⟨0xF0020140 + 0x1000 * b, 1, 1⟩
abbrev F.BEAM_LASER_CFG_RESUME (b : Nat) : Fld := ⟨0xF0020140 + 0x1000 * b, 2, 2⟩
abbrev F.BEAM_LASER_CFG_ALARM_FILTER (b : Nat) : Fld := ⟨0xF0020140 + 0x1000 * b, 13, 4⟩
abbrev F.BEAM_LASER_CFG_ALARM_LATCH (b : Nat) : Fld := ⟨0xF0020140 + 0x1000 * b, 14, 14⟩
abbrev F.BEAM_LASER_CFG_ALARM_LEVEL (b : Nat) : Fld := ⟨0xF0020140 + 0x1000 * b, 15, 15⟩
abbrev F.BEAM_LASER_CFG_PERMIT (b : Nat) : Fld := ⟨0xF0020140 + 0x1000 * b, 16, 16⟩
abbrev F.BEAM_LASER_CFG_PERMIT_WAIT (b : Nat) : Fld := ⟨0xF0020140 + 0x1000 * b, 17, 17⟩
abbrev F.BEAM_ALARM_TIME_LO_ET (b : Nat) : Fld := ⟨0xF0020148 + 0x1000 * b, 31, 0⟩
abbrev F.BEAM_ALARM_TIME_HI_ET (b : Nat) : Fld := ⟨0xF002014C + 0x1000 * b, 31, 0⟩
abbrev F.BEAM_FE_CFG_FE_LIMIT (b : Nat) : Fld := ⟨0xF0020150 + 0x1000 * b, 15, 0⟩
abbrev F.BEAM_FE_CFG_FE_COUNT (b : Nat) : Fld := ⟨0xF0020150 + 0x1000 * b, 23, 16⟩
abbrev F.BEAM_FE_CFG_FE_EN (b : Nat) : Fld := ⟨0xF0020150 + 0x1000 * b, 24, 24⟩
abbrev F.BEAM_FE_CFG_SETTLE_EN (b : Nat) : Fld := ⟨0xF0020150 + 0x1000 * b, 25, 25⟩
abbrev F.BEAM_FE_STAT_FE_MAX (b : Nat) : Fld := ⟨0xF0020154 + 0x1000 * b, 15, 0⟩
abbrev F.BEAM_FE_STAT_TRIPS (b : Nat) : Fld := ⟨0xF0020154 + 0x1000 * b, 17, 16⟩
abbrev F.BEAM_TRAJ_STAT_STARVE (b : Nat) : Fld := ⟨0xF0020160 + 0x1000 * b, 7, 0⟩
abbrev F.BEAM_TRAJ_STAT_CLAMPED (b : Nat) : Fld := ⟨0xF0020160 + 0x1000 * b, 15, 8⟩
abbrev F.BEAM_TRAJ_STAT_CLIP (b : Nat) : Fld := ⟨0xF0020160 + 0x1000 * b, 23, 16⟩
abbrev F.BEAM_TRAJ_STAT_FLY_CLIP (b : Nat) : Fld := ⟨0xF0020160 + 0x1000 * b, 31, 24⟩
abbrev F.ARB_CTRL_MODE : Fld := ⟨0xF0030000, 1, 0⟩
abbrev F.ARB_CTRL_RECORD : Fld := ⟨0xF0030000, 2, 2⟩
abbrev F.ARB_CTRL_PLUME_EN : Fld := ⟨0xF0030000, 3, 3⟩
abbrev F.ARB_CTRL_CFG_ERR : Fld := ⟨0xF0030000, 8, 8⟩
abbrev F.ARB_WINDOW_WINDOW : Fld := ⟨0xF0030004, 9, 0⟩
abbrev F.ARB_LEASE_TTL_TTL : Fld := ⟨0xF0030008, 19, 0⟩
abbrev F.ARB_SEP_RADIUS_RADIUS : Fld := ⟨0xF003000C, 15, 0⟩
abbrev F.ARB_SEP_RADIUS_R_PLOTS : Fld := ⟨0xF003000C, 31, 16⟩
abbrev F.ARB_PLUME_DIR_GAS_DIR : Fld := ⟨0xF0030010, 31, 0⟩
abbrev F.ARB_PLUME_CFG_HALF : Fld := ⟨0xF0030014, 15, 0⟩
abbrev F.ARB_PLUME_CFG_REACH : Fld := ⟨0xF0030014, 31, 16⟩
abbrev F.ARB_REVISIT_LO_LIMIT_CORE : Fld := ⟨0xF0030018, 15, 0⟩
abbrev F.ARB_REVISIT_LO_LIMIT_CONTOUR : Fld := ⟨0xF0030018, 31, 16⟩
abbrev F.ARB_REVISIT_HI_LIMIT_DOWNSKIN : Fld := ⟨0xF003001C, 15, 0⟩
abbrev F.ARB_REVISIT_HI_LIMIT_UPSKIN : Fld := ⟨0xF003001C, 31, 16⟩
abbrev F.ARB_GLEAN_DEPTH : Fld := ⟨0xF0030020, 8, 0⟩
abbrev F.ARB_GLEAN_T2_GAP : Fld := ⟨0xF0030020, 31, 16⟩
abbrev F.ARB_REC_REC_BASE : Fld := ⟨0xF0030024, 26, 12⟩
abbrev F.ARB_STAT_REPLAY_BROKEN : Fld := ⟨0xF0030030, 0, 0⟩
abbrev F.ARB_STAT_MOVE_PEND : Fld := ⟨0xF0030030, 1, 1⟩
abbrev F.ARB_STAT_STENCIL_CLIP : Fld := ⟨0xF0030030, 2, 2⟩
abbrev F.ARB_STAT_REC_OVF : Fld := ⟨0xF0030030, 3, 3⟩
abbrev F.ARB_STAT_REC_COUNT : Fld := ⟨0xF0030030, 31, 16⟩
abbrev F.ARB_RETIRED_RETIRED : Fld := ⟨0xF0030034, 15, 0⟩
abbrev F.ARB_RETIRE_CLR_CLR : Fld := ⟨0xF0030038, 15, 0⟩
abbrev F.ARB_BEAM_CFG_PRIO (b : Nat) : Fld := ⟨0xF0030100 + 0x4 * b, 2, 0⟩
abbrev F.ARB_BEAM_CFG_GLEAN_MASK (b : Nat) : Fld := ⟨0xF0030100 + 0x4 * b, 7, 4⟩
abbrev F.ARB_BEAM_STAT_HELD (b : Nat) : Fld := ⟨0xF0030140 + 0x4 * b, 0, 0⟩
abbrev F.ARB_BEAM_STAT_AGED (b : Nat) : Fld := ⟨0xF0030140 + 0x4 * b, 1, 1⟩
abbrev F.ARB_BEAM_STAT_WAITING (b : Nat) : Fld := ⟨0xF0030140 + 0x4 * b, 2, 2⟩
abbrev F.ARB_BEAM_STAT_RELEASE_PEND (b : Nat) : Fld := ⟨0xF0030140 + 0x4 * b, 3, 3⟩
abbrev F.ARB_BEAM_STAT_DENY_RUN (b : Nat) : Fld := ⟨0xF0030140 + 0x4 * b, 7, 4⟩
abbrev F.ARB_BEAM_STAT_LAST_REASON (b : Nat) : Fld := ⟨0xF0030140 + 0x4 * b, 15, 8⟩
abbrev F.ARB_BEAM_STAT_RETIRE_CAUSE (b : Nat) : Fld := ⟨0xF0030140 + 0x4 * b, 22, 20⟩
abbrev F.ARB_LEASE_P_LO_IX0 (b : Nat) : Fld := ⟨0xF0030200 + 0x10 * b, 9, 0⟩
abbrev F.ARB_LEASE_P_LO_IY0 (b : Nat) : Fld := ⟨0xF0030200 + 0x10 * b, 25, 16⟩
abbrev F.ARB_LEASE_P_HI_IX1 (b : Nat) : Fld := ⟨0xF0030204 + 0x10 * b, 9, 0⟩
abbrev F.ARB_LEASE_P_HI_IY1 (b : Nat) : Fld := ⟨0xF0030204 + 0x10 * b, 25, 16⟩
abbrev F.ARB_LEASE_EXP_DEADLINE (b : Nat) : Fld := ⟨0xF0030208 + 0x10 * b, 31, 0⟩
abbrev F.ARB_PEER_CFG_NODE (p : Nat) : Fld := ⟨0xF0030400 + 0x20 * p, 5, 0⟩
abbrev F.ARB_PEER_CFG_PEER_EN (p : Nat) : Fld := ⟨0xF0030400 + 0x20 * p, 8, 8⟩
abbrev F.ARB_PEER_CFG_STATE (p : Nat) : Fld := ⟨0xF0030400 + 0x20 * p, 10, 9⟩
abbrev F.ARB_PEER_CFG_GEOM_ERR (p : Nat) : Fld := ⟨0xF0030400 + 0x20 * p, 11, 11⟩
abbrev F.ARB_PEER_ZXMIN_ZXMIN (p : Nat) : Fld := ⟨0xF0030404 + 0x20 * p, 31, 0⟩
abbrev F.ARB_PEER_ZYMIN_ZYMIN (p : Nat) : Fld := ⟨0xF0030408 + 0x20 * p, 31, 0⟩
abbrev F.ARB_PEER_ZXMAX_ZXMAX (p : Nat) : Fld := ⟨0xF003040C + 0x20 * p, 31, 0⟩
abbrev F.ARB_PEER_ZYMAX_ZYMAX (p : Nat) : Fld := ⟨0xF0030410 + 0x20 * p, 31, 0⟩
abbrev F.LOOP_CTRL_OVERSUB : Fld := ⟨0xF0050000, 0, 0⟩
abbrev F.LOOP_CTRL_ERR : Fld := ⟨0xF0050000, 8, 8⟩
abbrev F.LOOP_CTRL_CUT : Fld := ⟨0xF0050000, 17, 16⟩
abbrev F.LOOP_LOAD_LOAD : Fld := ⟨0xF0050004, 15, 0⟩
abbrev F.LOOP_LOAD_BUDGET : Fld := ⟨0xF0050004, 31, 16⟩
abbrev F.LOOP_ADMIT_REASON : Fld := ⟨0xF0050008, 3, 0⟩
abbrev F.LOOP_ADMIT_BEAM : Fld := ⟨0xF0050008, 7, 4⟩
abbrev F.LOOP_ADMIT_INDEX : Fld := ⟨0xF0050008, 12, 8⟩
abbrev F.LOOP_CAP_CFG_CAP_BEAM : Fld := ⟨0xF0050010, 3, 0⟩
abbrev F.LOOP_CAP_CFG_TRIG : Fld := ⟨0xF0050010, 5, 4⟩
abbrev F.LOOP_CAP_CFG_CONT : Fld := ⟨0xF0050010, 6, 6⟩
abbrev F.LOOP_CAP_CFG_ARM : Fld := ⟨0xF0050010, 7, 7⟩
abbrev F.LOOP_CAP_CFG_STOP : Fld := ⟨0xF0050010, 8, 8⟩
abbrev F.LOOP_CAP_CH_CH0 : Fld := ⟨0xF0050014, 5, 0⟩
abbrev F.LOOP_CAP_CH_CH1 : Fld := ⟨0xF0050014, 13, 8⟩
abbrev F.LOOP_CAP_CH_CH2 : Fld := ⟨0xF0050014, 21, 16⟩
abbrev F.LOOP_CAP_CH_CH3 : Fld := ⟨0xF0050014, 29, 24⟩
abbrev F.LOOP_CAP_BASE_BASE : Fld := ⟨0xF0050018, 26, 19⟩
abbrev F.LOOP_CAP_STAT_COUNT : Fld := ⟨0xF005001C, 16, 0⟩
abbrev F.LOOP_CAP_STAT_ACTIVE : Fld := ⟨0xF005001C, 17, 17⟩
abbrev F.LOOP_CAP_STAT_DONE : Fld := ⟨0xF005001C, 18, 18⟩
abbrev F.LOOP_CAP_STAT_WRAPPED : Fld := ⟨0xF005001C, 19, 19⟩
abbrev F.LOOP_CAP_STAT_RATE_CHG : Fld := ⟨0xF005001C, 20, 20⟩
abbrev F.LOOP_CAP_T0_LO_T0_LO : Fld := ⟨0xF0050020, 31, 0⟩
abbrev F.LOOP_CAP_T0_HI_T0_HI : Fld := ⟨0xF0050024, 31, 0⟩
abbrev F.LOOP_INJ_CFG_SRC : Fld := ⟨0xF0050030, 0, 0⟩
abbrev F.LOOP_INJ_CFG_POINT : Fld := ⟨0xF0050030, 1, 1⟩
abbrev F.LOOP_INJ_CFG_INJ_BEAM : Fld := ⟨0xF0050030, 5, 2⟩
abbrev F.LOOP_INJ_CFG_AMP : Fld := ⟨0xF0050030, 31, 16⟩
abbrev F.LOOP_INJ_BASE_BASE : Fld := ⟨0xF0050034, 26, 1⟩
abbrev F.LOOP_INJ_LEN_LEN : Fld := ⟨0xF0050038, 16, 0⟩
abbrev F.LOOP_BEAM_CFG_RATE (b : Nat) : Fld := ⟨0xF0050100 + 0x40 * b, 1, 0⟩
abbrev F.LOOP_BEAM_CFG_RATE_EFF (b : Nat) : Fld := ⟨0xF0050100 + 0x40 * b, 3, 2⟩
abbrev F.LOOP_BEAM_CFG_PROG_LEN (b : Nat) : Fld := ⟨0xF0050100 + 0x40 * b, 9, 4⟩
abbrev F.LOOP_BEAM_CFG_KIND (b : Nat) : Fld := ⟨0xF0050100 + 0x40 * b, 15, 12⟩
abbrev F.LOOP_BEAM_GAIN_GAIN_BASE (b : Nat) : Fld := ⟨0xF0050104 + 0x40 * b, 26, 13⟩
abbrev F.LOOP_BEAM_CLAMP_P_MIN (b : Nat) : Fld := ⟨0xF0050108 + 0x40 * b, 15, 0⟩
abbrev F.LOOP_BEAM_CLAMP_P_CAP (b : Nat) : Fld := ⟨0xF0050108 + 0x40 * b, 31, 16⟩
abbrev F.LOOP_BEAM_SLEW_SLEW_UP (b : Nat) : Fld := ⟨0xF005010C + 0x40 * b, 15, 0⟩
abbrev F.LOOP_BEAM_SLEW_SLEW_DN (b : Nat) : Fld := ⟨0xF005010C + 0x40 * b, 31, 16⟩
abbrev F.LOOP_BEAM_SAFE_SAFE_P (b : Nat) : Fld := ⟨0xF0050110 + 0x40 * b, 15, 0⟩
abbrev F.LOOP_BEAM_SAFE_RESUME (b : Nat) : Fld := ⟨0xF0050110 + 0x40 * b, 16, 16⟩
abbrev F.LOOP_BEAM_SPD_SPD_TH1 (b : Nat) : Fld := ⟨0xF0050114 + 0x40 * b, 15, 0⟩
abbrev F.LOOP_BEAM_SPD_SPD_TH2 (b : Nat) : Fld := ⟨0xF0050114 + 0x40 * b, 31, 16⟩
abbrev F.LOOP_BEAM_THR_SPD_TH3 (b : Nat) : Fld := ⟨0xF0050118 + 0x40 * b, 15, 0⟩
abbrev F.LOOP_BEAM_THR_E_TH1 (b : Nat) : Fld := ⟨0xF0050118 + 0x40 * b, 31, 16⟩
abbrev F.LOOP_BEAM_ETH_E_TH2 (b : Nat) : Fld := ⟨0xF005011C + 0x40 * b, 15, 0⟩
abbrev F.LOOP_BEAM_ETH_E_TH3 (b : Nat) : Fld := ⟨0xF005011C + 0x40 * b, 31, 16⟩
abbrev F.LOOP_BEAM_SRC_CAM_SRC (b : Nat) : Fld := ⟨0xF0050120 + 0x40 * b, 4, 0⟩
abbrev F.LOOP_BEAM_SRC_CAM_CH (b : Nat) : Fld := ⟨0xF0050120 + 0x40 * b, 6, 5⟩
abbrev F.LOOP_BEAM_SRC_ZONE (b : Nat) : Fld := ⟨0xF0050120 + 0x40 * b, 16, 7⟩
abbrev F.LOOP_BEAM_SRC_LAS_AIN (b : Nat) : Fld := ⟨0xF0050120 + 0x40 * b, 19, 17⟩
abbrev F.LOOP_BEAM_SRC_LAS_EN (b : Nat) : Fld := ⟨0xF0050120 + 0x40 * b, 20, 20⟩
abbrev F.LOOP_BEAM_SRC_CAM_AGE (b : Nat) : Fld := ⟨0xF0050120 + 0x40 * b, 31, 24⟩
abbrev F.LOOP_BEAM_STAT_OVR_COUNT (b : Nat) : Fld := ⟨0xF0050124 + 0x40 * b, 15, 0⟩
abbrev F.LOOP_BEAM_STAT_OVR_RUN (b : Nat) : Fld := ⟨0xF0050124 + 0x40 * b, 18, 16⟩
abbrev F.LOOP_BEAM_STAT_CAPPED (b : Nat) : Fld := ⟨0xF0050124 + 0x40 * b, 19, 19⟩
abbrev F.LOOP_BEAM_STAT_PAUSED (b : Nat) : Fld := ⟨0xF0050124 + 0x40 * b, 20, 20⟩
abbrev F.LOOP_BEAM_STAT_RATE_CUT (b : Nat) : Fld := ⟨0xF0050124 + 0x40 * b, 21, 21⟩
abbrev F.LOOP_BEAM_STAT_GAIN_IDX (b : Nat) : Fld := ⟨0xF0050124 + 0x40 * b, 29, 24⟩
abbrev F.LOOP_BEAM_OUT_OUT (b : Nat) : Fld := ⟨0xF0050128 + 0x40 * b, 15, 0⟩
abbrev F.LOOP_BEAM_OUT_VALID (b : Nat) : Fld := ⟨0xF0050128 + 0x40 * b, 23, 16⟩
abbrev F.LOOP_BEAM_OUT_WINNER (b : Nat) : Fld := ⟨0xF0050128 + 0x40 * b, 25, 24⟩
abbrev F.LOOP_BEAM_OUT_NOM_WON (b : Nat) : Fld := ⟨0xF0050128 + 0x40 * b, 26, 26⟩
abbrev F.IMG_CTRL_ERR : Fld := ⟨0xF0060000, 0, 0⟩
abbrev F.IMG_CTRL_REASON : Fld := ⟨0xF0060000, 3, 1⟩
abbrev F.IMG_CTRL_STREAM : Fld := ⟨0xF0060000, 8, 4⟩
abbrev F.IMG_PIPE_STAT_LOAD (p : Nat) : Fld := ⟨0xF0060010 + 0x4 * p, 15, 0⟩
abbrev F.IMG_PIPE_STAT_RUN_STREAM (p : Nat) : Fld := ⟨0xF0060010 + 0x4 * p, 20, 16⟩
abbrev F.IMG_CAM_CFG_ENABLE (n : Nat) : Fld := ⟨0xF0060100 + 0x80 * n, 0, 0⟩
abbrev F.IMG_CAM_CFG_SHARE (n : Nat) : Fld := ⟨0xF0060100 + 0x80 * n, 1, 1⟩
abbrev F.IMG_CAM_CFG_T1_EXEMPT (n : Nat) : Fld := ⟨0xF0060100 + 0x80 * n, 2, 2⟩
abbrev F.IMG_CAM_CFG_PRIO (n : Nat) : Fld := ⟨0xF0060100 + 0x80 * n, 5, 4⟩
abbrev F.IMG_CAM_CFG_PIPE (n : Nat) : Fld := ⟨0xF0060100 + 0x80 * n, 7, 6⟩
abbrev F.IMG_CAM_CFG_CTX (n : Nat) : Fld := ⟨0xF0060100 + 0x80 * n, 10, 8⟩
abbrev F.IMG_CAM_CFG_STRIPE (n : Nat) : Fld := ⟨0xF0060100 + 0x80 * n, 20, 16⟩
abbrev F.IMG_CAM_MAX_MAX_W (n : Nat) : Fld := ⟨0xF0060104 + 0x80 * n, 12, 0⟩
abbrev F.IMG_CAM_MAX_MAX_H (n : Nat) : Fld := ⟨0xF0060104 + 0x80 * n, 28, 16⟩
abbrev F.IMG_CAM_RATE_MAX_FPS (n : Nat) : Fld := ⟨0xF0060108 + 0x80 * n, 15, 0⟩
abbrev F.IMG_CAM_RATE_DEPTH (n : Nat) : Fld := ⟨0xF0060108 + 0x80 * n, 17, 16⟩
abbrev F.IMG_CAM_RING_BASE (n : Nat) : Fld := ⟨0xF006010C + 0x80 * n, 26, 6⟩
abbrev F.IMG_CAM_CTX_BASE (n : Nat) : Fld := ⟨0xF0060110 + 0x80 * n, 26, 8⟩
abbrev F.IMG_CAM_CTX_PEND (n : Nat) : Fld := ⟨0xF0060110 + 0x80 * n, 31, 31⟩
abbrev F.IMG_CAM_SET_EXP_EXP (n : Nat) : Fld := ⟨0xF0060114 + 0x80 * n, 31, 0⟩
abbrev F.IMG_CAM_SET_GAIN_GAIN (n : Nat) : Fld := ⟨0xF0060118 + 0x80 * n, 15, 0⟩
abbrev F.IMG_CAM_SET_PERIOD_PERIOD (n : Nat) : Fld := ⟨0xF006011C + 0x80 * n, 31, 0⟩
abbrev F.IMG_CAM_SET_ROI0_ROI_X (n : Nat) : Fld := ⟨0xF0060120 + 0x80 * n, 15, 0⟩
abbrev F.IMG_CAM_SET_ROI0_ROI_Y (n : Nat) : Fld := ⟨0xF0060120 + 0x80 * n, 31, 16⟩
abbrev F.IMG_CAM_SET_ROI1_ROI_W (n : Nat) : Fld := ⟨0xF0060124 + 0x80 * n, 15, 0⟩
abbrev F.IMG_CAM_SET_ROI1_ROI_H (n : Nat) : Fld := ⟨0xF0060124 + 0x80 * n, 31, 16⟩
abbrev F.IMG_CAM_SET_CMD_TARGET (n : Nat) : Fld := ⟨0xF0060128 + 0x80 * n, 31, 0⟩
abbrev F.IMG_CAM_STAT_GEN (n : Nat) : Fld := ⟨0xF006012C + 0x80 * n, 7, 0⟩
abbrev F.IMG_CAM_STAT_GEN_SEEN (n : Nat) : Fld := ⟨0xF006012C + 0x80 * n, 15, 8⟩
abbrev F.IMG_CAM_STAT_SET_PEND (n : Nat) : Fld := ⟨0xF006012C + 0x80 * n, 16, 16⟩
abbrev F.IMG_CAM_STAT_LOST (n : Nat) : Fld := ⟨0xF006012C + 0x80 * n, 17, 17⟩
abbrev F.IMG_CAM_STAT_LATE_SET (n : Nat) : Fld := ⟨0xF006012C + 0x80 * n, 18, 18⟩
abbrev F.IMG_CAM_STAT_FILL (n : Nat) : Fld := ⟨0xF006012C + 0x80 * n, 22, 20⟩
abbrev F.IMG_CAM_FRAME_FRAME_NO (n : Nat) : Fld := ⟨0xF0060130 + 0x80 * n, 31, 0⟩
abbrev F.IMG_CAM_CNT_DROPPED (n : Nat) : Fld := ⟨0xF0060134 + 0x80 * n, 15, 0⟩
abbrev F.IMG_CAM_CNT_DAMAGED (n : Nat) : Fld := ⟨0xF0060134 + 0x80 * n, 23, 16⟩
abbrev F.IMG_CAM_CNT_GAP (n : Nat) : Fld := ⟨0xF0060134 + 0x80 * n, 31, 24⟩
abbrev F.IMG_CAM_OUT_LAST_BUF (n : Nat) (o : Nat) : Fld := ⟨0xF0060138 + 0x80 * n + 0x4 * o, 3, 0⟩
abbrev F.IMG_CAM_OUT_LAST_FRAME_LO (n : Nat) (o : Nat) : Fld := ⟨0xF0060138 + 0x80 * n + 0x4 * o, 31, 16⟩
abbrev F.AX_GO_GO : Fld := ⟨0xF0070000, 7, 0⟩
abbrev F.AX_MSMAP_LO_MAP0_7 : Fld := ⟨0xF0070004, 31, 0⟩
abbrev F.AX_MSMAP_HI_MAP8 : Fld := ⟨0xF0070008, 3, 0⟩
abbrev F.AX_OUT_KEY_OK : Fld := ⟨0xF007000C, 0, 0⟩
abbrev F.AX_OUT_ENC_SKIP : Fld := ⟨0xF007000C, 15, 8⟩
abbrev F.AX_ENC_COUNT0_COUNT : Fld := ⟨0xF0070010, 31, 0⟩
abbrev F.AX_ENC_COUNT1_COUNT : Fld := ⟨0xF0070014, 31, 0⟩
abbrev F.AX_CFG_ENABLE (a : Nat) : Fld := ⟨0xF0070100 + 0x80 * a, 0, 0⟩
abbrev F.AX_CFG_FINE (a : Nat) : Fld := ⟨0xF0070100 + 0x80 * a, 1, 1⟩
abbrev F.AX_CFG_LAYER_LOCK (a : Nat) : Fld := ⟨0xF0070100 + 0x80 * a, 2, 2⟩
abbrev F.AX_CFG_SOFT_EN (a : Nat) : Fld := ⟨0xF0070100 + 0x80 * a, 3, 3⟩
abbrev F.AX_CFG_DIR_INV (a : Nat) : Fld := ⟨0xF0070100 + 0x80 * a, 4, 4⟩
abbrev F.AX_CFG_LIMP_POL (a : Nat) : Fld := ⟨0xF0070100 + 0x80 * a, 5, 5⟩
abbrev F.AX_CFG_LIMN_POL (a : Nat) : Fld := ⟨0xF0070100 + 0x80 * a, 6, 6⟩
abbrev F.AX_CFG_ENC_STOP (a : Nat) : Fld := ⟨0xF0070100 + 0x80 * a, 7, 7⟩
abbrev F.AX_CFG_ENC_SEL (a : Nat) : Fld := ⟨0xF0070100 + 0x80 * a, 9, 8⟩
abbrev F.AX_CFG_M_MIN (a : Nat) : Fld := ⟨0xF0070100 + 0x80 * a, 15, 12⟩
abbrev F.AX_CFG_M_MAX (a : Nat) : Fld := ⟨0xF0070100 + 0x80 * a, 19, 16⟩
abbrev F.AX_CFG_HOLD_DELAY (a : Nat) : Fld := ⟨0xF0070100 + 0x80 * a, 31, 24⟩
abbrev F.AX_MAX_SPEED_MAX_SPEED (a : Nat) : Fld := ⟨0xF0070104 + 0x80 * a, 31, 0⟩
abbrev F.AX_ACCEL_ACCEL (a : Nat) : Fld := ⟨0xF0070108 + 0x80 * a, 31, 0⟩
abbrev F.AX_TARGET_TARGET (a : Nat) : Fld := ⟨0xF007010C + 0x80 * a, 31, 0⟩
abbrev F.AX_CMD_CMD (a : Nat) : Fld := ⟨0xF0070110 + 0x80 * a, 3, 0⟩
abbrev F.AX_CMD_ARM (a : Nat) : Fld := ⟨0xF0070110 + 0x80 * a, 4, 4⟩
abbrev F.AX_CMD_RESULT (a : Nat) : Fld := ⟨0xF0070110 + 0x80 * a, 31, 28⟩
abbrev F.AX_POS_POS (a : Nat) : Fld := ⟨0xF0070114 + 0x80 * a, 31, 0⟩
abbrev F.AX_VEL_VEL (a : Nat) : Fld := ⟨0xF0070118 + 0x80 * a, 31, 0⟩
abbrev F.AX_STAT_STATE (a : Nat) : Fld := ⟨0xF007011C + 0x80 * a, 2, 0⟩
abbrev F.AX_STAT_PEND (a : Nat) : Fld := ⟨0xF007011C + 0x80 * a, 3, 3⟩
abbrev F.AX_STAT_HOMED (a : Nat) : Fld := ⟨0xF007011C + 0x80 * a, 4, 4⟩
abbrev F.AX_STAT_POS_VALID (a : Nat) : Fld := ⟨0xF007011C + 0x80 * a, 5, 5⟩
abbrev F.AX_STAT_ACCEL_DEFERRED (a : Nat) : Fld := ⟨0xF007011C + 0x80 * a, 6, 6⟩
abbrev F.AX_STAT_PEND_REPLACED (a : Nat) : Fld := ⟨0xF007011C + 0x80 * a, 7, 7⟩
abbrev F.AX_STAT_LIM_HIT (a : Nat) : Fld := ⟨0xF007011C + 0x80 * a, 8, 8⟩
abbrev F.AX_STAT_SOFT_HIT (a : Nat) : Fld := ⟨0xF007011C + 0x80 * a, 9, 9⟩
abbrev F.AX_STAT_ENC_ERR (a : Nat) : Fld := ⟨0xF007011C + 0x80 * a, 10, 10⟩
abbrev F.AX_STAT_HOME_FAIL (a : Nat) : Fld := ⟨0xF007011C + 0x80 * a, 11, 11⟩
abbrev F.AX_STAT_CFG_ERR (a : Nat) : Fld := ⟨0xF007011C + 0x80 * a, 12, 12⟩
abbrev F.AX_STAT_LIMP (a : Nat) : Fld := ⟨0xF007011C + 0x80 * a, 13, 13⟩
abbrev F.AX_STAT_LIMN (a : Nat) : Fld := ⟨0xF007011C + 0x80 * a, 14, 14⟩
abbrev F.AX_STAT_SPEED_CAPPED (a : Nat) : Fld := ⟨0xF007011C + 0x80 * a, 15, 15⟩
abbrev F.AX_STAT_RES (a : Nat) : Fld := ⟨0xF007011C + 0x80 * a, 19, 16⟩
abbrev F.AX_STAT_SLIP (a : Nat) : Fld := ⟨0xF007011C + 0x80 * a, 31, 24⟩
abbrev F.AX_SOFT_MIN_SOFT_MIN (a : Nat) : Fld := ⟨0xF0070120 + 0x80 * a, 31, 0⟩
abbrev F.AX_SOFT_MAX_SOFT_MAX (a : Nat) : Fld := ⟨0xF0070124 + 0x80 * a, 31, 0⟩
abbrev F.AX_HOME_CFG_HOME_SRC (a : Nat) : Fld := ⟨0xF0070128 + 0x80 * a, 0, 0⟩
abbrev F.AX_HOME_CFG_HOME_IDX (a : Nat) : Fld := ⟨0xF0070128 + 0x80 * a, 1, 1⟩
abbrev F.AX_HOME_CFG_HOME_SPEED (a : Nat) : Fld := ⟨0xF0070128 + 0x80 * a, 31, 16⟩
abbrev F.AX_HOME_POS_HOME_POS (a : Nat) : Fld := ⟨0xF007012C + 0x80 * a, 31, 0⟩
abbrev F.AX_HOME_RANGE_HOME_RANGE (a : Nat) : Fld := ⟨0xF0070130 + 0x80 * a, 31, 0⟩
abbrev F.AX_STEP_TIMING_STEP_WIDTH (a : Nat) : Fld := ⟨0xF0070134 + 0x80 * a, 5, 0⟩
abbrev F.AX_STEP_TIMING_DIR_SETUP (a : Nat) : Fld := ⟨0xF0070134 + 0x80 * a, 13, 8⟩
abbrev F.AX_STEP_TIMING_MS_SETUP (a : Nat) : Fld := ⟨0xF0070134 + 0x80 * a, 21, 16⟩
abbrev F.AX_RATE_LIM_RATE_LIM (a : Nat) : Fld := ⟨0xF0070138 + 0x80 * a, 19, 0⟩
abbrev F.AX_ENC_CPS_ENC_CPS (a : Nat) : Fld := ⟨0xF007013C + 0x80 * a, 31, 0⟩
abbrev F.AX_ENC_TOL_ENC_TOL (a : Nat) : Fld := ⟨0xF0070140 + 0x80 * a, 15, 0⟩
abbrev F.AX_BR_CFG_BR_PERIOD (a : Nat) : Fld := ⟨0xF0070144 + 0x80 * a, 1, 0⟩
abbrev F.AX_BR_CFG_RUN_SCALE (a : Nat) : Fld := ⟨0xF0070144 + 0x80 * a, 31, 16⟩
abbrev F.AX_BR_HOLD_HOLD_SCALE (a : Nat) : Fld := ⟨0xF0070148 + 0x80 * a, 15, 0⟩
abbrev F.LANES_REF_REF_FREQ : Fld := ⟨0xF0080000, 3, 0⟩
abbrev F.LANES_QUAD_CFG_RATE_A (q : Nat) : Fld := ⟨0xF0080010 + 0x4 * q, 2, 0⟩
abbrev F.LANES_QUAD_CFG_RATE_B (q : Nat) : Fld := ⟨0xF0080010 + 0x4 * q, 6, 4⟩
abbrev F.LANES_QUAD_CFG_LOCK_A (q : Nat) : Fld := ⟨0xF0080010 + 0x4 * q, 8, 8⟩
abbrev F.LANES_QUAD_CFG_LOCK_B (q : Nat) : Fld := ⟨0xF0080010 + 0x4 * q, 9, 9⟩
abbrev F.LANES_QUAD_CFG_ERR (q : Nat) : Fld := ⟨0xF0080010 + 0x4 * q, 12, 12⟩
abbrev F.LANES_EQ_TX_PRE (b : Nat) : Fld := ⟨0xF0080030 + 0x4 * b, 3, 0⟩
abbrev F.LANES_EQ_TX_POST (b : Nat) : Fld := ⟨0xF0080030 + 0x4 * b, 9, 4⟩
abbrev F.LANES_EQ_CTLE (b : Nat) : Fld := ⟨0xF0080030 + 0x4 * b, 15, 12⟩
abbrev F.LANES_TIMING_SEEK_TIMEOUT : Fld := ⟨0xF0080040, 15, 0⟩
abbrev F.LANES_TIMING_ERR_LIMIT : Fld := ⟨0xF0080040, 23, 16⟩
abbrev F.LANES_TIMING_REPLAY_TO : Fld := ⟨0xF0080040, 31, 24⟩
abbrev F.LANES_EYE_MIN_H_MIN : Fld := ⟨0xF0080044, 5, 0⟩
abbrev F.LANES_EYE_MIN_V_MIN : Fld := ⟨0xF0080044, 13, 8⟩
abbrev F.LANES_EYE_MIN_DWELL : Fld := ⟨0xF0080044, 19, 16⟩
abbrev F.LANES_EYE_CMD_LANE : Fld := ⟨0xF0080048, 4, 0⟩
abbrev F.LANES_EYE_CMD_START : Fld := ⟨0xF0080048, 8, 8⟩
abbrev F.LANES_EYE_CMD_BUSY : Fld := ⟨0xF0080048, 9, 9⟩
abbrev F.LANES_EYE_CMD_DONE : Fld := ⟨0xF0080048, 10, 10⟩
abbrev F.LANES_EYE_CMD_ERR : Fld := ⟨0xF0080048, 11, 11⟩
abbrev F.LANES_EYE_BASE_BASE : Fld := ⟨0xF008004C, 26, 15⟩
abbrev F.LN_CFG_ENABLE (n : Nat) : Fld := ⟨0xF0080100 + 0x20 * n, 0, 0⟩
abbrev F.LN_CFG_PLL (n : Nat) : Fld := ⟨0xF0080100 + 0x20 * n, 1, 1⟩
abbrev F.LN_CFG_ROLE (n : Nat) : Fld := ⟨0xF0080100 + 0x20 * n, 6, 4⟩
abbrev F.LN_CFG_ARG (n : Nat) : Fld := ⟨0xF0080100 + 0x20 * n, 11, 8⟩
abbrev F.LN_CFG_ETH_MODE (n : Nat) : Fld := ⟨0xF0080100 + 0x20 * n, 12, 12⟩
abbrev F.LN_CFG_AN_EN (n : Nat) : Fld := ⟨0xF0080100 + 0x20 * n, 13, 13⟩
abbrev F.LN_CFG_PAUSE_ADV (n : Nat) : Fld := ⟨0xF0080100 + 0x20 * n, 15, 14⟩
abbrev F.LN_CFG_POL_TX (n : Nat) : Fld := ⟨0xF0080100 + 0x20 * n, 16, 16⟩
abbrev F.LN_CFG_POL_RX (n : Nat) : Fld := ⟨0xF0080100 + 0x20 * n, 17, 17⟩
abbrev F.LN_STAT_STATE (n : Nat) : Fld := ⟨0xF0080104 + 0x20 * n, 2, 0⟩
abbrev F.LN_STAT_ABSENT (n : Nat) : Fld := ⟨0xF0080104 + 0x20 * n, 3, 3⟩
abbrev F.LN_STAT_REFUSED (n : Nat) : Fld := ⟨0xF0080104 + 0x20 * n, 4, 4⟩
abbrev F.LN_STAT_MARGIN_LOW (n : Nat) : Fld := ⟨0xF0080104 + 0x20 * n, 5, 5⟩
abbrev F.LN_STAT_CFG_ERR (n : Nat) : Fld := ⟨0xF0080104 + 0x20 * n, 6, 6⟩
abbrev F.LN_STAT_REASON (n : Nat) : Fld := ⟨0xF0080104 + 0x20 * n, 11, 8⟩
abbrev F.LN_STAT_RETRAINS (n : Nat) : Fld := ⟨0xF0080104 + 0x20 * n, 13, 12⟩
abbrev F.LN_STAT_ETH_SPEED (n : Nat) : Fld := ⟨0xF0080104 + 0x20 * n, 17, 16⟩
abbrev F.LN_STAT_ETH_HD (n : Nat) : Fld := ⟨0xF0080104 + 0x20 * n, 18, 18⟩
abbrev F.LN_STAT_AN_DONE (n : Nat) : Fld := ⟨0xF0080104 + 0x20 * n, 19, 19⟩
abbrev F.LN_STAT_TRIG (n : Nat) : Fld := ⟨0xF0080104 + 0x20 * n, 23, 20⟩
abbrev F.LN_PARTNER_P_ROLE (n : Nat) : Fld := ⟨0xF0080108 + 0x20 * n, 7, 0⟩
abbrev F.LN_PARTNER_P_CAPS (n : Nat) : Fld := ⟨0xF0080108 + 0x20 * n, 15, 8⟩
abbrev F.LN_PARTNER_P_HEAD_LAT (n : Nat) : Fld := ⟨0xF0080108 + 0x20 * n, 31, 16⟩
abbrev F.LN_EYE_H_MARGIN (n : Nat) : Fld := ⟨0xF008010C + 0x20 * n, 5, 0⟩
abbrev F.LN_EYE_V_MARGIN (n : Nat) : Fld := ⟨0xF008010C + 0x20 * n, 13, 8⟩
abbrev F.LN_EYE_SCANS (n : Nat) : Fld := ⟨0xF008010C + 0x20 * n, 31, 16⟩
abbrev F.LN_ERR_CODE_ERR (n : Nat) : Fld := ⟨0xF0080110 + 0x20 * n, 7, 0⟩
abbrev F.LN_ERR_CRC_ERR (n : Nat) : Fld := ⟨0xF0080110 + 0x20 * n, 15, 8⟩
abbrev F.LN_ERR_REPLAYS (n : Nat) : Fld := ⟨0xF0080110 + 0x20 * n, 23, 16⟩
abbrev F.LN_ERR_UNKNOWN (n : Nat) : Fld := ⟨0xF0080110 + 0x20 * n, 31, 24⟩
abbrev F.LN_CTRL_RETRAIN (n : Nat) : Fld := ⟨0xF0080114 + 0x20 * n, 0, 0⟩
abbrev F.LN_CTRL_UNRETIRE (n : Nat) : Fld := ⟨0xF0080114 + 0x20 * n, 1, 1⟩
abbrev F.LN_CTRL_CLR_REFUSED (n : Nat) : Fld := ⟨0xF0080114 + 0x20 * n, 2, 2⟩
abbrev F.LN_ETH_LP_LP_WORD (n : Nat) : Fld := ⟨0xF0080118 + 0x20 * n, 15, 0⟩
abbrev F.FABRIC_CFG_NODE : Fld := ⟨0xF0090000, 5, 0⟩
abbrev F.FABRIC_CFG_ENABLE : Fld := ⟨0xF0090000, 8, 8⟩
abbrev F.FABRIC_CFG_CFG_ERR : Fld := ⟨0xF0090000, 12, 12⟩
abbrev F.FABRIC_STAT_ROLE : Fld := ⟨0xF0090004, 1, 0⟩
abbrev F.FABRIC_STAT_HOLDER_VALID : Fld := ⟨0xF0090004, 2, 2⟩
abbrev F.FABRIC_STAT_ELECTING : Fld := ⟨0xF0090004, 3, 3⟩
abbrev F.FABRIC_STAT_DUP_NODE : Fld := ⟨0xF0090004, 4, 4⟩
abbrev F.FABRIC_STAT_KNOWN : Fld := ⟨0xF0090004, 5, 5⟩
abbrev F.FABRIC_STAT_HOLDER : Fld := ⟨0xF0090004, 13, 8⟩
abbrev F.FABRIC_STAT_SCORE : Fld := ⟨0xF0090004, 23, 16⟩
abbrev F.FABRIC_STAT_REACH_COUNT : Fld := ⟨0xF0090004, 30, 24⟩
abbrev F.FABRIC_KEY_GEN_GEN : Fld := ⟨0xF0090008, 31, 0⟩
abbrev F.FABRIC_KEY_CFG_RENEW_MS : Fld := ⟨0xF0090010, 7, 0⟩
abbrev F.FABRIC_KEY_CFG_TTL_MS : Fld := ⟨0xF0090010, 15, 8⟩
abbrev F.FABRIC_KEY_CFG_GUARD : Fld := ⟨0xF0090010, 23, 16⟩
abbrev F.FABRIC_KEY_CFG_KEY_MIN : Fld := ⟨0xF0090010, 31, 24⟩
abbrev F.FABRIC_ELIG_LO_ELIG : Fld := ⟨0xF0090018, 31, 0⟩
abbrev F.FABRIC_ELIG_HI_ELIG : Fld := ⟨0xF009001C, 31, 0⟩
abbrev F.FABRIC_LAYER_LO_LAYER : Fld := ⟨0xF0090020, 31, 0⟩
abbrev F.FABRIC_LAYER_HI_LAYER : Fld := ⟨0xF0090024, 31, 0⟩
abbrev F.FABRIC_REACH_LO_REACH : Fld := ⟨0xF0090028, 31, 0⟩
abbrev F.FABRIC_REACH_HI_REACH : Fld := ⟨0xF009002C, 31, 0⟩
abbrev F.FABRIC_WINNOW_ENG_MASK : Fld := ⟨0xF0090030, 19, 0⟩
abbrev F.FABRIC_WINNOW_SILO : Fld := ⟨0xF0090030, 20, 20⟩
abbrev F.FABRIC_WINNOW_BEDMAP : Fld := ⟨0xF0090030, 21, 21⟩
abbrev F.FABRIC_WINNOW_GRANARY : Fld := ⟨0xF0090030, 22, 22⟩
abbrev F.FABRIC_WINNOW_STAT_FAIL : Fld := ⟨0xF0090034, 27, 0⟩
abbrev F.FABRIC_DROP_NOROUTE : Fld := ⟨0xF0090038, 7, 0⟩
abbrev F.FABRIC_DROP_MISROUTE : Fld := ⟨0xF0090038, 15, 8⟩
abbrev F.FABRIC_DROP_BADEP : Fld := ⟨0xF0090038, 23, 16⟩
abbrev F.FABRIC_DROP_STALE : Fld := ⟨0xF0090038, 31, 24⟩
abbrev F.FABRIC_ROUTE_HOPS1 (n : Nat) : Fld := ⟨0xF0090100 + 0x4 * n, 3, 0⟩
abbrev F.FABRIC_ROUTE_PORT1 (n : Nat) : Fld := ⟨0xF0090100 + 0x4 * n, 6, 4⟩
abbrev F.FABRIC_ROUTE_VALID1 (n : Nat) : Fld := ⟨0xF0090100 + 0x4 * n, 7, 7⟩
abbrev F.FABRIC_ROUTE_HOPS2 (n : Nat) : Fld := ⟨0xF0090100 + 0x4 * n, 11, 8⟩
abbrev F.FABRIC_ROUTE_PORT2 (n : Nat) : Fld := ⟨0xF0090100 + 0x4 * n, 14, 12⟩
abbrev F.FABRIC_ROUTE_VALID2 (n : Nat) : Fld := ⟨0xF0090100 + 0x4 * n, 15, 15⟩
abbrev F.HOST_NET_MAC_LO_MAC_LO (p : Nat) : Fld := ⟨0xF00A0000 + 0x20 * p, 31, 0⟩
abbrev F.HOST_NET_MAC_HI_MAC_HI (p : Nat) : Fld := ⟨0xF00A0004 + 0x20 * p, 15, 0⟩
abbrev F.HOST_NET_IP_IP (p : Nat) : Fld := ⟨0xF00A0008 + 0x20 * p, 31, 0⟩
abbrev F.HOST_NET_MASK_MASK (p : Nat) : Fld := ⟨0xF00A000C + 0x20 * p, 31, 0⟩
abbrev F.HOST_NET_VLAN_VID (p : Nat) : Fld := ⟨0xF00A0010 + 0x20 * p, 11, 0⟩
abbrev F.HOST_NET_VLAN_PCP (p : Nat) : Fld := ⟨0xF00A0010 + 0x20 * p, 14, 12⟩
abbrev F.HOST_NET_VLAN_VLAN_EN (p : Nat) : Fld := ⟨0xF00A0010 + 0x20 * p, 15, 15⟩
abbrev F.HOST_NET_DROP_FRAG (p : Nat) : Fld := ⟨0xF00A0014 + 0x20 * p, 7, 0⟩
abbrev F.HOST_NET_DROP_PROTO (p : Nat) : Fld := ⟨0xF00A0014 + 0x20 * p, 15, 8⟩
abbrev F.HOST_NET_DROP_ERR (p : Nat) : Fld := ⟨0xF00A0014 + 0x20 * p, 23, 16⟩
abbrev F.HOST_NET_DROP_ICMP_LIM (p : Nat) : Fld := ⟨0xF00A0014 + 0x20 * p, 31, 24⟩
abbrev F.HOST_HRING_CFG_KIND (h : Nat) : Fld := ⟨0xF00A1400 + 0x4 * h, 1, 0⟩
abbrev F.HOST_HRING_CFG_DEST (h : Nat) : Fld := ⟨0xF00A1400 + 0x4 * h, 5, 2⟩
abbrev F.HOST_HRING_CFG_SUP_ONLY (h : Nat) : Fld := ⟨0xF00A1400 + 0x4 * h, 6, 6⟩
abbrev F.HOST_HRING_CFG_LOST (h : Nat) : Fld := ⟨0xF00A1400 + 0x4 * h, 31, 16⟩
abbrev F.HOST_VMP_CFG_VMP_PORT : Fld := ⟨0xF00A0040, 15, 0⟩
abbrev F.HOST_VMP_CFG_USER_OPEN : Fld := ⟨0xF00A0040, 16, 16⟩
abbrev F.HOST_VMP_CFG_SESSION_TTL : Fld := ⟨0xF00A0040, 31, 24⟩
abbrev F.HOST_VMP_CNT_BAD_TAG : Fld := ⟨0xF00A0044, 7, 0⟩
abbrev F.HOST_VMP_CNT_BAD_SEQ : Fld := ⟨0xF00A0044, 15, 8⟩
abbrev F.HOST_VMP_CNT_BAD_MSG : Fld := ⟨0xF00A0044, 23, 16⟩
abbrev F.HOST_VMP_CNT_BUSY : Fld := ⟨0xF00A0044, 31, 24⟩
abbrev F.HOST_LONG_OP : Fld := ⟨0xF00A0200, 3, 0⟩
abbrev F.HOST_LONG_STATE : Fld := ⟨0xF00A0200, 5, 4⟩
abbrev F.HOST_LONG_RESULT : Fld := ⟨0xF00A0200, 15, 8⟩
abbrev F.HOST_LONG_REMAIN_MS : Fld := ⟨0xF00A0200, 31, 16⟩
abbrev F.HOST_KEY_KEY_SET : Fld := ⟨0xF00A0204, 0, 0⟩
abbrev F.HOST_SESS_INFO_STATE (s : Nat) : Fld := ⟨0xF00A0100 + 0x8 * s, 1, 0⟩
abbrev F.HOST_SESS_INFO_VIEW (s : Nat) : Fld := ⟨0xF00A0100 + 0x8 * s, 2, 2⟩
abbrev F.HOST_SESS_INFO_KILL (s : Nat) : Fld := ⟨0xF00A0100 + 0x8 * s, 3, 3⟩
abbrev F.HOST_SESS_INFO_PORT (s : Nat) : Fld := ⟨0xF00A0100 + 0x8 * s, 5, 4⟩
abbrev F.HOST_SESS_INFO_NODE (s : Nat) : Fld := ⟨0xF00A0100 + 0x8 * s, 13, 8⟩
abbrev F.HOST_SESS_INFO_HOST_UDP (s : Nat) : Fld := ⟨0xF00A0100 + 0x8 * s, 31, 16⟩
abbrev F.HOST_SESS_ADDR_HOST_IP (s : Nat) : Fld := ⟨0xF00A0104 + 0x8 * s, 31, 0⟩
abbrev F.EVT_ROUTE_RING (s : Nat) : Fld := ⟨0xF00F0000 + 0x8 * s, 4, 0⟩
abbrev F.EVT_ROUTE_RING_EN (s : Nat) : Fld := ⟨0xF00F0000 + 0x8 * s, 5, 5⟩
abbrev F.EVT_ROUTE_PIN (s : Nat) : Fld := ⟨0xF00F0000 + 0x8 * s, 7, 6⟩
abbrev F.EVT_ROUTE_PIN_EN (s : Nat) : Fld := ⟨0xF00F0000 + 0x8 * s, 8, 8⟩
abbrev F.EVT_ROUTE_GRANARY (s : Nat) : Fld := ⟨0xF00F0000 + 0x8 * s, 9, 9⟩
abbrev F.EVT_ROUTE_SEV (s : Nat) : Fld := ⟨0xF00F0000 + 0x8 * s, 12, 10⟩
abbrev F.EVT_ENG_ENG (s : Nat) : Fld := ⟨0xF00F0004 + 0x8 * s, 19, 0⟩
abbrev F.EVT_LAST_DATA_DATA (s : Nat) : Fld := ⟨0xF00F1000 + 0x10 * s, 31, 0⟩
abbrev F.EVT_LAST_TIME_LO_TIME_LO (s : Nat) : Fld := ⟨0xF00F1004 + 0x10 * s, 31, 0⟩
abbrev F.EVT_LAST_TIME_HI_TIME_HI (s : Nat) : Fld := ⟨0xF00F1008 + 0x10 * s, 31, 0⟩
abbrev F.EVT_LAST_COUNT_COUNT (s : Nat) : Fld := ⟨0xF00F100C + 0x10 * s, 31, 0⟩
abbrev F.EVT_OUT_CFG_POL (p : Nat) : Fld := ⟨0xF00F3000 + 0x4 * p, 0, 0⟩
abbrev F.EVT_OUT_CFG_MODE (p : Nat) : Fld := ⟨0xF00F3000 + 0x4 * p, 1, 1⟩
abbrev F.EVT_OUT_CFG_WIDTH (p : Nat) : Fld := ⟨0xF00F3000 + 0x4 * p, 15, 8⟩
abbrev F.EVT_OUT_CFG_LATCHED (p : Nat) : Fld := ⟨0xF00F3000 + 0x4 * p, 16, 16⟩
abbrev F.EVT_HOST_DATA_DATA : Fld := ⟨0xF00F3010, 31, 0⟩
abbrev F.EVT_HOST_RAISE_K : Fld := ⟨0xF00F3014, 4, 0⟩
abbrev F.SYS_DEVICE_ID_DEVICE_ID : Fld := ⟨0xF0000000, 31, 0⟩
abbrev F.SYS_REV_MINOR : Fld := ⟨0xF0000004, 3, 0⟩
abbrev F.SYS_REV_MAJOR : Fld := ⟨0xF0000004, 7, 4⟩
abbrev F.SYS_UID_LO_UID_LO : Fld := ⟨0xF0000008, 31, 0⟩
abbrev F.SYS_UID_HI_UID_HI : Fld := ⟨0xF000000C, 31, 0⟩
abbrev F.SYS_STRAPS_MODE : Fld := ⟨0xF0000010, 2, 0⟩
abbrev F.SYS_STRAPS_BOOT_SRC : Fld := ⟨0xF0000010, 5, 4⟩
abbrev F.GRANARY_STAT_STATE : Fld := ⟨0xF00B0000, 1, 0⟩
abbrev F.GRANARY_STAT_SEALED : Fld := ⟨0xF00B0000, 2, 2⟩
abbrev F.GRANARY_STAT_DUMPED : Fld := ⟨0xF00B0000, 3, 3⟩
abbrev F.GRANARY_STAT_LOSSING : Fld := ⟨0xF00B0000, 4, 4⟩
abbrev F.GRANARY_STAT_VERIFY_ERR : Fld := ⟨0xF00B0000, 6, 6⟩
abbrev F.GRANARY_STAT_LEVEL : Fld := ⟨0xF00B0000, 18, 8⟩
abbrev F.GRANARY_STAT_BAD : Fld := ⟨0xF00B0000, 30, 24⟩
abbrev F.GRANARY_NEXT_NEXT_SLOT : Fld := ⟨0xF00B0004, 15, 0⟩
abbrev F.GRANARY_LAST_SEQ_LAST_SEQ : Fld := ⟨0xF00B0008, 31, 0⟩
abbrev F.GRANARY_PCC_PCC : Fld := ⟨0xF00B000C, 31, 0⟩
abbrev F.GRANARY_OPTIME_LO_OP_LO : Fld := ⟨0xF00B0010, 31, 0⟩
abbrev F.GRANARY_OPTIME_HI_OP_HI : Fld := ⟨0xF00B0014, 15, 0⟩
abbrev F.GRANARY_LOST_LOST : Fld := ⟨0xF00B0018, 31, 0⟩
abbrev F.GRANARY_WIN_SLOT_SLOT : Fld := ⟨0xF00B0020, 15, 0⟩
abbrev F.GRANARY_WIN_DATA_DATA (w : Nat) : Fld := ⟨0xF00B0040 + 0x4 * w, 31, 0⟩
abbrev F.GRANARY_COPY_SRC_SLOT : Fld := ⟨0xF00B0080, 15, 0⟩
abbrev F.GRANARY_COPY_SRC_COUNT : Fld := ⟨0xF00B0080, 31, 16⟩
abbrev F.GRANARY_COPY_DST_BASE : Fld := ⟨0xF00B0084, 26, 6⟩
abbrev F.GRANARY_COPY_CTRL_START : Fld := ⟨0xF00B0088, 0, 0⟩
abbrev F.GRANARY_COPY_CTRL_BUSY : Fld := ⟨0xF00B0088, 1, 1⟩
abbrev F.GRANARY_COPY_CTRL_DONE : Fld := ⟨0xF00B0088, 2, 2⟩
abbrev F.GRANARY_COPY_CTRL_ERR : Fld := ⟨0xF00B0088, 3, 3⟩
abbrev F.HK_THROTTLE_T1_ON : Fld := ⟨0xF00C0000, 7, 0⟩
abbrev F.HK_THROTTLE_T2_ON : Fld := ⟨0xF00C0000, 15, 8⟩
abbrev F.HK_THROTTLE_T3_ON : Fld := ⟨0xF00C0000, 23, 16⟩
abbrev F.HK_THROTTLE_T4_ON : Fld := ⟨0xF00C0000, 31, 24⟩
abbrev F.HK_LIMITS_WARN : Fld := ⟨0xF00C0004, 7, 0⟩
abbrev F.HK_LIMITS_CRIT : Fld := ⟨0xF00C0004, 15, 8⟩
abbrev F.HK_LIMITS_RISE_LIM : Fld := ⟨0xF00C0004, 23, 16⟩
abbrev F.HK_LIMITS_HYST : Fld := ⟨0xF00C0004, 27, 24⟩
abbrev F.HK_STAT_STAGE : Fld := ⟨0xF00C0008, 2, 0⟩
abbrev F.HK_STAT_FLOOR : Fld := ⟨0xF00C0008, 6, 4⟩
abbrev F.HK_STAT_RISE_ACT : Fld := ⟨0xF00C0008, 8, 8⟩
abbrev F.HK_STAT_HOLD : Fld := ⟨0xF00C0008, 9, 9⟩
abbrev F.HK_STAT_CRIT_ACT : Fld := ⟨0xF00C0008, 10, 10⟩
abbrev F.HK_STAT_ERR : Fld := ⟨0xF00C0008, 11, 11⟩
abbrev F.HK_STAT_T_THR : Fld := ⟨0xF00C0008, 23, 16⟩
abbrev F.HK_STAT_WORST : Fld := ⟨0xF00C0008, 28, 24⟩
abbrev F.HK_TS_VALUE (i : Nat) : Fld := ⟨0xF00C0100 + 0x4 * i, 11, 0⟩
abbrev F.HK_TS_STATE (i : Nat) : Fld := ⟨0xF00C0100 + 0x4 * i, 13, 12⟩
abbrev F.HK_TS_TRIP (i : Nat) : Fld := ⟨0xF00C0100 + 0x4 * i, 14, 14⟩
abbrev F.HK_TS_RUN (i : Nat) : Fld := ⟨0xF00C0100 + 0x4 * i, 22, 16⟩
abbrev F.HK_TS_NBR_NBR (i : Nat) : Fld := ⟨0xF00C0180 + 0x4 * i, 23, 0⟩
abbrev F.HK_AIN_RAW (a : Nat) : Fld := ⟨0xF00C0200 + 0x4 * a, 11, 0⟩
abbrev F.HK_AIN_VALID (a : Nat) : Fld := ⟨0xF00C0200 + 0x4 * a, 12, 12⟩
abbrev F.HK_AIN_MODE (a : Nat) : Fld := ⟨0xF00C0200 + 0x4 * a, 13, 13⟩
abbrev F.HK_AIN_TEMP (a : Nat) : Fld := ⟨0xF00C0200 + 0x4 * a, 31, 16⟩
abbrev F.HK_AIN_LUT_T (a : Nat) (k : Nat) : Fld := ⟨0xF00C0400 + 0x80 * a + 0x4 * k, 15, 0⟩
abbrev F.HK_SUP_MV (s : Nat) : Fld := ⟨0xF00C0B00 + 0x4 * s, 15, 0⟩
abbrev F.HK_SUP_LOW (s : Nat) : Fld := ⟨0xF00C0B00 + 0x4 * s, 16, 16⟩
abbrev F.HK_SUP_HIGH (s : Nat) : Fld := ⟨0xF00C0B00 + 0x4 * s, 17, 17⟩
abbrev F.HK_SUP_LATCH (s : Nat) : Fld := ⟨0xF00C0B00 + 0x4 * s, 18, 18⟩
abbrev F.HK_SUP_LIM_LO (s : Nat) : Fld := ⟨0xF00C0B40 + 0x4 * s, 15, 0⟩
abbrev F.HK_SUP_LIM_HI (s : Nat) : Fld := ⟨0xF00C0B40 + 0x4 * s, 31, 16⟩
abbrev F.LT_LEVEL_LEVEL (n : Nat) : Fld := ⟨0xF00C0800 + 0x20 * n, 12, 0⟩
abbrev F.LT_CFG_AIN (n : Nat) : Fld := ⟨0xF00C0804 + 0x20 * n, 2, 0⟩
abbrev F.LT_CFG_COMP_EN (n : Nat) : Fld := ⟨0xF00C0804 + 0x20 * n, 3, 3⟩
abbrev F.LT_CFG_DER_EN (n : Nat) : Fld := ⟨0xF00C0804 + 0x20 * n, 4, 4⟩
abbrev F.LT_CFG_SRC (n : Nat) : Fld := ⟨0xF00C0804 + 0x20 * n, 5, 5⟩
abbrev F.LT_CFG_KNEE (n : Nat) : Fld := ⟨0xF00C0804 + 0x20 * n, 15, 8⟩
abbrev F.LT_CFG_SPAN (n : Nat) : Fld := ⟨0xF00C0804 + 0x20 * n, 23, 16⟩
abbrev F.LT_COMP_COEF (n : Nat) : Fld := ⟨0xF00C0808 + 0x20 * n, 15, 0⟩
abbrev F.LT_COMP_PERIOD (n : Nat) : Fld := ⟨0xF00C0808 + 0x20 * n, 31, 16⟩
abbrev F.LT_STAT_L_EFF (n : Nat) : Fld := ⟨0xF00C080C + 0x20 * n, 12, 0⟩
abbrev F.LT_STAT_PULSED (n : Nat) : Fld := ⟨0xF00C080C + 0x20 * n, 13, 13⟩
abbrev F.LT_STAT_DERATING (n : Nat) : Fld := ⟨0xF00C080C + 0x20 * n, 14, 14⟩
abbrev F.LT_STAT_FAULT (n : Nat) : Fld := ⟨0xF00C080C + 0x20 * n, 17, 16⟩
abbrev F.LT_STAT_MEAS (n : Nat) : Fld := ⟨0xF00C080C + 0x20 * n, 31, 19⟩
abbrev F.HK_BCN_MASK : Fld := ⟨0xF00C0A00, 3, 0⟩
abbrev F.HK_BCN_INHIBIT_EN : Fld := ⟨0xF00C0A00, 4, 4⟩
abbrev F.HK_BCN_OFF : Fld := ⟨0xF00C0A00, 5, 5⟩
abbrev F.HK_BCN_CLR : Fld := ⟨0xF00C0A00, 6, 6⟩
abbrev F.HK_BCN_FAULT_CH : Fld := ⟨0xF00C0A00, 11, 8⟩
abbrev F.HK_BCN_SHORT_V : Fld := ⟨0xF00C0A00, 27, 16⟩
abbrev F.DISP_CTRL_LOCK : Fld := ⟨0xF00D0000, 0, 0⟩
abbrev F.DISP_CTRL_TCOMMIT : Fld := ⟨0xF00D0000, 1, 1⟩
abbrev F.DISP_CTRL_TPEND : Fld := ⟨0xF00D0000, 2, 2⟩
abbrev F.DISP_CTRL_ERR : Fld := ⟨0xF00D0000, 3, 3⟩
abbrev F.DISP_CTRL_LOCK_ACT : Fld := ⟨0xF00D0000, 4, 4⟩
abbrev F.DISP_OUT_CFG_ENABLE (o : Nat) : Fld := ⟨0xF00D0100 + 0x100 * o, 0, 0⟩
abbrev F.DISP_OUT_CFG_KIND (o : Nat) : Fld := ⟨0xF00D0100 + 0x100 * o, 1, 1⟩
abbrev F.DISP_OUT_CFG_HS_POL (o : Nat) : Fld := ⟨0xF00D0100 + 0x100 * o, 2, 2⟩
abbrev F.DISP_OUT_CFG_VS_POL (o : Nat) : Fld := ⟨0xF00D0100 + 0x100 * o, 3, 3⟩
abbrev F.DISP_OUT_CFG_DE_POL (o : Nat) : Fld := ⟨0xF00D0100 + 0x100 * o, 4, 4⟩
abbrev F.DISP_OUT_CFG_PCLK_POL (o : Nat) : Fld := ⟨0xF00D0100 + 0x100 * o, 5, 5⟩
abbrev F.DISP_OUT_CFG_TE_EN (o : Nat) : Fld := ⟨0xF00D0100 + 0x100 * o, 6, 6⟩
abbrev F.DISP_OUT_CFG_TE_POL (o : Nat) : Fld := ⟨0xF00D0100 + 0x100 * o, 7, 7⟩
abbrev F.DISP_OUT_CFG_CFMT (o : Nat) : Fld := ⟨0xF00D0100 + 0x100 * o, 8, 8⟩
abbrev F.DISP_OUT_CFG_T1_VIDEO (o : Nat) : Fld := ⟨0xF00D0100 + 0x100 * o, 9, 9⟩
abbrev F.DISP_OUT_CFG_EV_APPLY (o : Nat) : Fld := ⟨0xF00D0100 + 0x100 * o, 10, 10⟩
abbrev F.DISP_PCLK_INC (o : Nat) : Fld := ⟨0xF00D0104 + 0x100 * o, 23, 0⟩
abbrev F.DISP_HTIM0_H_ACTIVE (o : Nat) : Fld := ⟨0xF00D0108 + 0x100 * o, 12, 0⟩
abbrev F.DISP_HTIM0_H_SYNC (o : Nat) : Fld := ⟨0xF00D0108 + 0x100 * o, 25, 16⟩
abbrev F.DISP_HTIM1_H_FP (o : Nat) : Fld := ⟨0xF00D010C + 0x100 * o, 9, 0⟩
abbrev F.DISP_HTIM1_H_BP (o : Nat) : Fld := ⟨0xF00D010C + 0x100 * o, 25, 16⟩
abbrev F.DISP_VTIM0_V_ACTIVE (o : Nat) : Fld := ⟨0xF00D0110 + 0x100 * o, 12, 0⟩
abbrev F.DISP_VTIM0_V_SYNC (o : Nat) : Fld := ⟨0xF00D0110 + 0x100 * o, 25, 16⟩
abbrev F.DISP_VTIM1_V_FP (o : Nat) : Fld := ⟨0xF00D0114 + 0x100 * o, 9, 0⟩
abbrev F.DISP_VTIM1_V_BP (o : Nat) : Fld := ⟨0xF00D0114 + 0x100 * o, 25, 16⟩
abbrev F.DISP_CMD_TIM_CYCLE (o : Nat) : Fld := ⟨0xF00D0118 + 0x100 * o, 9, 0⟩
abbrev F.DISP_COMMIT_LINE_LINE (o : Nat) : Fld := ⟨0xF00D011C + 0x100 * o, 12, 0⟩
abbrev F.DISP_COMMIT_LINE_WATERMARK (o : Nat) : Fld := ⟨0xF00D011C + 0x100 * o, 28, 16⟩
abbrev F.DISP_BG_BG (o : Nat) : Fld := ⟨0xF00D0120 + 0x100 * o, 23, 0⟩
abbrev F.DISP_DIRTY0_X0 (o : Nat) : Fld := ⟨0xF00D0124 + 0x100 * o, 12, 0⟩
abbrev F.DISP_DIRTY0_Y0 (o : Nat) : Fld := ⟨0xF00D0124 + 0x100 * o, 28, 16⟩
abbrev F.DISP_DIRTY1_X1 (o : Nat) : Fld := ⟨0xF00D0128 + 0x100 * o, 12, 0⟩
abbrev F.DISP_DIRTY1_Y1 (o : Nat) : Fld := ⟨0xF00D0128 + 0x100 * o, 28, 16⟩
abbrev F.DISP_COMMIT_COMMIT (o : Nat) : Fld := ⟨0xF00D012C + 0x100 * o, 0, 0⟩
abbrev F.DISP_CMDQ_BYTE (o : Nat) : Fld := ⟨0xF00D0130 + 0x100 * o, 7, 0⟩
abbrev F.DISP_CMDQ_DC (o : Nat) : Fld := ⟨0xF00D0130 + 0x100 * o, 8, 8⟩
abbrev F.DISP_CMDQ_LEVEL (o : Nat) : Fld := ⟨0xF00D0130 + 0x100 * o, 22, 16⟩
abbrev F.DISP_STAT_LINE (o : Nat) : Fld := ⟨0xF00D0134 + 0x100 * o, 12, 0⟩
abbrev F.DISP_STAT_STATE (o : Nat) : Fld := ⟨0xF00D0134 + 0x100 * o, 14, 13⟩
abbrev F.DISP_STAT_COMMIT_PEND (o : Nat) : Fld := ⟨0xF00D0134 + 0x100 * o, 16, 16⟩
abbrev F.DISP_STAT_LATE (o : Nat) : Fld := ⟨0xF00D0134 + 0x100 * o, 17, 17⟩
abbrev F.DISP_STAT_DROPPED (o : Nat) : Fld := ⟨0xF00D0134 + 0x100 * o, 18, 18⟩
abbrev F.DISP_STAT_TE_MISS (o : Nat) : Fld := ⟨0xF00D0134 + 0x100 * o, 19, 19⟩
abbrev F.DISP_STAT_UNDERRUN (o : Nat) : Fld := ⟨0xF00D0134 + 0x100 * o, 31, 24⟩
abbrev F.DISP_FRAME_FRAME (o : Nat) : Fld := ⟨0xF00D0138 + 0x100 * o, 31, 0⟩
abbrev F.DISP_PL_CTRL_EN (o : Nat) (p : Nat) : Fld := ⟨0xF00D0140 + 0x100 * o + 0x20 * p, 0, 0⟩
abbrev F.DISP_PL_CTRL_FMT (o : Nat) (p : Nat) : Fld := ⟨0xF00D0140 + 0x100 * o + 0x20 * p, 3, 1⟩
abbrev F.DISP_PL_CTRL_PIX_ALPHA (o : Nat) (p : Nat) : Fld := ⟨0xF00D0140 + 0x100 * o + 0x20 * p, 4, 4⟩
abbrev F.DISP_PL_CTRL_ALPHA (o : Nat) (p : Nat) : Fld := ⟨0xF00D0140 + 0x100 * o + 0x20 * p, 15, 8⟩
abbrev F.DISP_PL_BASE_BASE (o : Nat) (p : Nat) : Fld := ⟨0xF00D0144 + 0x100 * o + 0x20 * p, 26, 0⟩
abbrev F.DISP_PL_STRIDE_STRIDE (o : Nat) (p : Nat) : Fld := ⟨0xF00D0148 + 0x100 * o + 0x20 * p, 15, 0⟩
abbrev F.DISP_PL_POS_X (o : Nat) (p : Nat) : Fld := ⟨0xF00D014C + 0x100 * o + 0x20 * p, 12, 0⟩
abbrev F.DISP_PL_POS_Y (o : Nat) (p : Nat) : Fld := ⟨0xF00D014C + 0x100 * o + 0x20 * p, 28, 16⟩
abbrev F.DISP_PL_SIZE_W (o : Nat) (p : Nat) : Fld := ⟨0xF00D0150 + 0x100 * o + 0x20 * p, 12, 0⟩
abbrev F.DISP_PL_SIZE_H (o : Nat) (p : Nat) : Fld := ⟨0xF00D0150 + 0x100 * o + 0x20 * p, 28, 16⟩
abbrev F.XK_ID_ID : Fld := ⟨0xF00E0000, 15, 0⟩
abbrev F.XK_REV_REV : Fld := ⟨0xF00E0004, 15, 0⟩
abbrev F.XK_CTRL_TICK_EMU : Fld := ⟨0xF00E0008, 0, 0⟩
abbrev F.XK_CTRL_XY_EN : Fld := ⟨0xF00E0008, 1, 1⟩
abbrev F.XK_CTRL_CONTINUE : Fld := ⟨0xF00E0008, 2, 2⟩
abbrev F.XK_CTRL_STOP_ALL : Fld := ⟨0xF00E0008, 3, 3⟩
abbrev F.XK_STATUS_BUSY : Fld := ⟨0xF00E000C, 3, 0⟩
abbrev F.XK_STATUS_WAITING : Fld := ⟨0xF00E000C, 7, 4⟩
abbrev F.XK_STATUS_HALTED : Fld := ⟨0xF00E000C, 11, 8⟩
abbrev F.XK_INT_LO_INT : Fld := ⟨0xF00E0010, 15, 0⟩
abbrev F.XK_INT_HI_INT : Fld := ⟨0xF00E0014, 15, 0⟩
abbrev F.XK_MASK_LO_MASK : Fld := ⟨0xF00E0018, 15, 0⟩
abbrev F.XK_MASK_HI_MASK : Fld := ⟨0xF00E001C, 15, 0⟩
abbrev F.XK_TICK_LO_TICK : Fld := ⟨0xF00E0020, 15, 0⟩
abbrev F.XK_TICK_HI_TICK : Fld := ⟨0xF00E0024, 15, 0⟩
abbrev F.XK_BUF_READY0 : Fld := ⟨0xF00E0028, 0, 0⟩
abbrev F.XK_BUF_READY1 : Fld := ⟨0xF00E0028, 1, 1⟩
abbrev F.XK_VARIANT_VARIANT : Fld := ⟨0xF00E003C, 15, 0⟩
abbrev F.CH_CTRL_START (h : Nat) : Fld := ⟨0xF00E0040 + 0x40 * h, 0, 0⟩
abbrev F.CH_CTRL_STOP (h : Nat) : Fld := ⟨0xF00E0040 + 0x40 * h, 1, 1⟩
abbrev F.CH_CTRL_CORR_EN (h : Nat) : Fld := ⟨0xF00E0040 + 0x40 * h, 2, 2⟩
abbrev F.CH_START_ADDR (h : Nat) : Fld := ⟨0xF00E0044 + 0x40 * h, 13, 0⟩
abbrev F.CH_START_BUF (h : Nat) : Fld := ⟨0xF00E0044 + 0x40 * h, 14, 14⟩
abbrev F.CH_STAT_STATE (h : Nat) : Fld := ⟨0xF00E0048 + 0x40 * h, 1, 0⟩
abbrev F.CH_STAT_FAULT (h : Nat) : Fld := ⟨0xF00E0048 + 0x40 * h, 7, 4⟩
abbrev F.CH_PC_PC (h : Nat) : Fld := ⟨0xF00E004C + 0x40 * h, 14, 0⟩
abbrev F.CH_FETCH_FETCH (h : Nat) : Fld := ⟨0xF00E0050 + 0x40 * h, 14, 0⟩
abbrev F.CH_X_POS (h : Nat) : Fld := ⟨0xF00E0054 + 0x40 * h, 15, 0⟩
abbrev F.CH_Y_POS (h : Nat) : Fld := ⟨0xF00E0058 + 0x40 * h, 15, 0⟩
abbrev F.CH_Z_POS (h : Nat) : Fld := ⟨0xF00E005C + 0x40 * h, 15, 0⟩
abbrev F.LS_CTRL_ALARM_POL (h : Nat) : Fld := ⟨0xF00E0140 + 0x20 * h, 0, 0⟩
abbrev F.LS_CTRL_ALARM_LATCH (h : Nat) : Fld := ⟨0xF00E0140 + 0x20 * h, 1, 1⟩
abbrev F.LS_CTRL_ALARM_LEVEL (h : Nat) : Fld := ⟨0xF00E0140 + 0x20 * h, 2, 2⟩
abbrev F.LS_POWER_POWER (h : Nat) : Fld := ⟨0xF00E0144 + 0x20 * h, 15, 0⟩
abbrev F.XAX_POS_LO_POS (a : Nat) : Fld := ⟨0xF00E01C0 + 0x40 * a, 15, 0⟩
abbrev F.XAX_POS_HI_POS (a : Nat) : Fld := ⟨0xF00E01C4 + 0x40 * a, 15, 0⟩
abbrev F.XAX_STAT_STATE (a : Nat) : Fld := ⟨0xF00E01C8 + 0x40 * a, 2, 0⟩
abbrev F.XAX_STAT_HOMED (a : Nat) : Fld := ⟨0xF00E01C8 + 0x40 * a, 3, 3⟩
abbrev F.XAX_STAT_LIMP (a : Nat) : Fld := ⟨0xF00E01C8 + 0x40 * a, 4, 4⟩
abbrev F.XAX_STAT_LIMN (a : Nat) : Fld := ⟨0xF00E01C8 + 0x40 * a, 5, 5⟩
abbrev F.XAX_SPEED_SPEED (a : Nat) : Fld := ⟨0xF00E01CC + 0x40 * a, 15, 0⟩
abbrev F.XAX_ACCEL_ACCEL (a : Nat) : Fld := ⟨0xF00E01D0 + 0x40 * a, 15, 0⟩
abbrev F.LIST_ADDR_ADDR : Fld := ⟨0xF00E0240, 13, 0⟩
abbrev F.LIST_ADDR_BUF : Fld := ⟨0xF00E0240, 14, 14⟩
abbrev F.LIST_LO_DATA : Fld := ⟨0xF00E0244, 15, 0⟩
abbrev F.LIST_HI_DATA : Fld := ⟨0xF00E0248, 15, 0⟩
abbrev F.CORR_ADDR_INDEX : Fld := ⟨0xF00E0280, 13, 0⟩
abbrev F.CORR_ADDR_HEAD : Fld := ⟨0xF00E0280, 15, 14⟩
abbrev F.CORR_DATA_DATA : Fld := ⟨0xF00E0284, 15, 0⟩
abbrev F.XK_V_V (v : Nat) : Fld := ⟨0xF00E0400 + 0x4 * v, 15, 0⟩
abbrev F.XK_CFG_PERS : Fld := ⟨0xF00E1000, 1, 0⟩
abbrev F.XK_CFG_PHASE : Fld := ⟨0xF00E1000, 15, 2⟩
abbrev F.XK_CFG_WORK_BASE : Fld := ⟨0xF00E1000, 24, 16⟩
abbrev F.XK_CFG_CFG_ERR : Fld := ⟨0xF00E1000, 31, 31⟩
abbrev F.SYS_RESET_CAUSE_POR : Fld := ⟨0xF0000020, 0, 0⟩
abbrev F.SYS_RESET_CAUSE_PIN : Fld := ⟨0xF0000020, 1, 1⟩
abbrev F.SYS_RESET_CAUSE_DEVICE : Fld := ⟨0xF0000020, 2, 2⟩
abbrev F.SYS_RESET_CAUSE_CORE : Fld := ⟨0xF0000020, 3, 3⟩
abbrev F.SYS_RESET_DEVICE : Fld := ⟨0xF0000024, 0, 0⟩
abbrev F.SYS_RESET_CORE : Fld := ⟨0xF0000024, 1, 1⟩
abbrev F.SYS_BOOT_STATE : Fld := ⟨0xF0000028, 1, 0⟩
abbrev F.SYS_BOOT_SOURCE : Fld := ⟨0xF0000028, 3, 2⟩
abbrev F.SYS_BOOT_SIGNED : Fld := ⟨0xF0000028, 4, 4⟩
abbrev F.SYS_BOOT_ENFORCE : Fld := ⟨0xF0000028, 5, 5⟩
abbrev F.SYS_BOOT_SLOW : Fld := ⟨0xF0000028, 6, 6⟩
abbrev F.SYS_BOOT_STRAP_ERR : Fld := ⟨0xF0000028, 7, 7⟩
abbrev F.SYS_BOOT_FAIL_A : Fld := ⟨0xF0000028, 11, 8⟩
abbrev F.SYS_BOOT_FAIL_B : Fld := ⟨0xF0000028, 15, 12⟩
abbrev F.SYS_BOOT_FAIL_H : Fld := ⟨0xF0000028, 19, 16⟩
abbrev F.SYS_BOOT_GEN_GEN : Fld := ⟨0xF000002C, 31, 0⟩
abbrev F.SYS_BOOT_HOST_START : Fld := ⟨0xF0000030, 0, 0⟩
abbrev F.SYS_BOOT_HOST_BASE : Fld := ⟨0xF0000030, 26, 6⟩
abbrev F.SYS_BOOT_HOST_ERR : Fld := ⟨0xF0000030, 31, 31⟩
abbrev F.SYS_SUP_LOCKSTEP : Fld := ⟨0xF0000034, 7, 0⟩
abbrev F.SYS_SUP_RESTARTING : Fld := ⟨0xF0000034, 8, 8⟩
abbrev F.SYS_SUP_SUP_DEAD : Fld := ⟨0xF0000034, 9, 9⟩

end Sys2Proof.Machine
end

