-- ==== Sys2Proof/Machine/State.lean ====
section
/-! DEFINITION. The state of the VJ1616 as plain data: what each block holds beside its registers, the register
file, the memories and the queue of commands. -/

namespace Sys2Proof.Machine

/-- A memory: its cells, addresses strictly rising, no cell equal to 0, which an unlisted byte reads as
(log entry 3). -/
abbrev Mem := List Host.Cell

/-- A memory under SECDED (R36, R38, R145): its bytes, and the 64-bit words (by index) that hold a single-bit
error or an uncorrectable one. -/
structure MemR where
  cells : Mem := []
  one : List Nat := []
  bad : List Nat := []
  deriving DecidableEq, Repr

/-- What an edge does at its cell: a level, or the start or stop of a pulse train (R248). -/
inductive EdgeWhat
  | level (v : Bool)
  | train (period width : Nat)
  | off
  deriving DecidableEq, Repr

/-- An edge on its way to a cell or in its queue (R109, R172): release time in units of 125 ps (ET), and the
engine that owns it (R112). `exempt` marks a fall of R234 or of a stop (R26) that is never late: it is applied on arrival where its
time has come. -/
structure Edge where
  et : Int
  what : EdgeWhat
  owner : Option Eng := none
  exempt : Bool := false
  deriving DecidableEq, Repr

/-- A timed-edge cell (R17, R109): its queue, the level it drives, the ET of the edge released last, and the
pulse train it makes (start, period, width in ns). An input cell's queue holds the captured edges. -/
structure CellSt where
  q : List Edge := []
  level : Bool := false
  last : Option Int := none
  train : Option (Int × Nat × Nat) := none
  deriving DecidableEq, Repr

/-- An event that fired and is not yet delivered (R529). -/
structure Fired where
  src : Nat
  data : Word
  time : Nat
  deriving DecidableEq, Repr

/-- The policy state of a power domain beside its register (R40, R41): the instant of its last handshake. -/
structure PowerDom where
  lastUse : Nat := 0
  deriving DecidableEq, Repr

/-- Port state of a PTP domain (R125). -/
inductive PtpRole
  | listening | slave | master
  deriving DecidableEq, Repr

/-- A foreign master of a domain (R125): its latest Announce, when it came and when the one before it did. -/
structure Foreign where
  a : PtpAnnounce
  at_ : Nat
  before : Option Nat
  deriving DecidableEq, Repr

/-- A PTP or FarmLink time domain (R123-R131): port state and since when, the foreign masters, the parent's port identity;
the last Sync, its interval and the one that waits for its Follow_Up; the Delay_Req outstanding (its time of departure in
2^-16 ns), its interval, the path delay (2^-16 ns); what the device sent last; the offset (ns), what the servo has closed of it
since it was measured (2^-32 ns), and the last sixteen; since when the domain is valid and not degraded. -/
structure DomSt where
  role : PtpRole := .listening
  since : Nat := 0
  foreign : List Foreign := []
  parent : Option (BitVec 80) := none
  lastSync : Option Nat := none
  syncInterval : Nat := 1000000000
  pendingSync : Option PtpMsg := none
  delaySeq : BitVec 16 := 0
  delaySent : Option Int := none
  delayInterval : Nat := 1000000000
  pathDelay : Int := 0
  syncSeq : BitVec 16 := 0
  announceSeq : BitVec 16 := 0
  lastSent : Option Nat := none
  lastAnnounceSent : Option Nat := none
  lastDelaySent : Option Nat := none
  offset : Int := 0
  slewed : Int := 0
  last16 : List Int := []
  goodSince : Option Nat := none
  deriving DecidableEq, Repr

/-- FarmLink time (R127-R130): KEY_GEN and SEQ of the latest SYNC accepted or, as the root, sent, none before the first; the
root's own SEQ, the last send times, the DELAY_REQ outstanding on each port (its SEQ and departure in ps) and the delay
measured there (2^-16 ns). -/
structure FlTimeSt where
  heard : Option (BitVec 32 × BitVec 32) := none
  seq : BitVec 32 := 0
  lastSync : Option Nat := none
  reqSeq : BitVec 32 := 0
  reqSent : Vector (Option (BitVec 32 × Int)) 8 := Vector.replicate 8 none
  lastReq : Vector (Option Nat) 8 := Vector.replicate 8 none
  delay : Vector Int 8 := Vector.replicate 8 0
  deriving DecidableEq, Repr

/-- The time base and what is kept for it (R93-R104, R132, R133, R137): TS32, EXT and the fractional accumulator; the phase
still to be closed (2^-32 ns); whether TS64 runs, since when LOCKED is 1, whether beams wait for the 1 ms of R95; whether
the firmware has written EXT, the supervisor pair restarts, a full Winnow test runs, a step takes effect (R102), whether the
present PEND_WRAP has led to EXT_LOST (R101); the upper halves latched for each reader; whether a domain has been valid, whether STATE has left FREE; PTP messages discarded (R124). -/
structure TimeSt where
  ts32 : BitVec 32 := 0
  ext : BitVec 32 := 0
  frac : BitVec 32 := 0
  phase : Int := 0
  running : Bool := false
  lockedSince : Option Nat := none
  resumeOwed : Bool := true
  extWritten : Bool := false
  supDown : Bool := true
  winnowFull : Bool := false
  stepping : Bool := false
  wrapLost : Bool := false
  tnowHi : Vector (BitVec 32) 30 := Vector.replicate 30 0
  everValid : Bool := false
  leftFree : Bool := false
  ptpDropped : Nat := 0
  dom : Vector DomSt 2 := Vector.replicate 2 {}
  fl : FlTimeSt := {}
  deriving DecidableEq, Repr

/-- A plot entry (R57). -/
structure Plot where
  e : BitVec 16
  tLast : BitVec 32
  owner : BitVec 5
  gen : BitVec 8
  excluded : Bool
  retiredCover : Bool
  dirty : Bool
  deriving DecidableEq, Repr

/-- Every plot after reset or a clear (R58). -/
def Plot.reset : Plot := ⟨0, 0, 31, 0, false, false, false⟩

/-- The bed map (R51): plots by index, rising, none equal to `Plot.reset`; entries with a
single-bit error and with an uncorrectable one (R39); the previous T_B of the fold (R89). -/
structure BedSt where
  plots : List (Nat × Plot) := []
  one : List Nat := []
  bad : List Nat := []
  prevTb : Option Nat := none
  foldOwed : Bool := false
  clearOwed : Bool := false
  deriving DecidableEq, Repr

/-- What the holder repeats to each participant until it is reported (R479, R480). -/
inductive LayerGive
  | go | idle | abort
  deriving DecidableEq, Repr

/-- A participant's latest report (R478): T_B, layer state, RESULT of its SCHEDULE, and when it came. -/
structure LayerReport where
  tB : Nat
  state : Nat
  result : Nat
  at_ : Nat
  deriving DecidableEq, Repr

/-- The layer beside its registers (R65, R86, R90, R478-R482): as holder, what it repeats, since when it leads the layer, the participants' reports
and those removed from the barrier; as participant, whether it takes part in a layer, the result it reports, whether a
LAYER_STATE is owed, and when the last was sent. -/
structure LayerSt where
  wasActive : Bool := false
  saturated : Bool := false
  abortOwed : Bool := false
  give : Option LayerGive := none
  since : Nat := 0
  reports : List (Node × LayerReport) := []
  removed : List Node := []
  follows : Bool := false
  schedResult : Nat := 0
  stateOwed : Bool := false
  stateSent : Option Nat := none
  deriving DecidableEq, Repr

/-- Condition flags of an engine (R143); P is derived from R147. -/
structure Flags where
  v : Bool := false
  c : Bool := false
  z : Bool := false
  n : Bool := false
  l : Bool := false
  deriving DecidableEq, Repr

/-- What an engine waits for (R170, R175, R205, R209, R19, R20, R41, R66, R213). `stalled i` is an instruction
that has not begun to take effect and is executed again when its stall ends. -/
inductive Wait
  | until (t : BitVec 64) (isE rel : Bool) (d : GReg)
  | event (d : GReg)
  | lease (d : GReg) (wait : Bool)
  | barrier (n : Fin 8)
  | stalled (i : Instr)
  deriving DecidableEq, Repr

/-- An engine (R140-R147, R175, R184, R186). SYS_ENG_CTRL and SYS_ENG_WDOG are in the register file. -/
structure Engine where
  g : Vector Word 32 := Vector.replicate 32 0
  acc : Vector (BitVec 40) 8 := Vector.replicate 8 0
  pc : Word := 0
  flags : Flags := {}
  epc : Word := 0
  ecause : Word := 0
  latch : List Nat := []
  mem : MemR := {}
  wait : Option Wait := none
  late : Option Nat := none
  wdogDue : Bool := false
  wdogAcc : Nat := 0
  wdogFrom : Option Nat := none
  deriving DecidableEq, Repr

/-- The beam settings (R195, R197), in the order of R196. -/
structure Settings where
  markSpeed : Nat := 0
  jumpSpeed : Nat := 0
  power : Nat := 0
  loopMask : Nat := 0
  loopMode : Nat := 0
  onDelay : Int := 0
  offDelay : Int := 0
  jumpDelay : Nat := 0
  markDelay : Nat := 0
  polyDelay : Nat := 0
  flyFlags : Nat := 0
  flyLead : Nat := 0
  flyTail : Nat := 0
  flyAngle : Nat := 0
  modPeriod : Nat := 0
  modWidth : Nat := 0
  syncPeriod : Nat := 0
  syncWidth : Nat := 0
  deriving DecidableEq, Repr

/-- A box of bed coordinates in nm (R47). -/
structure Box where
  x0 : Int
  y0 : Int
  x1 : Int
  y1 : Int
  deriving DecidableEq, Repr

/-- A rectangle of plots (R267), both ends included. -/
structure Rect where
  x0 : Int
  y0 : Int
  x1 : Int
  y1 : Int
  deriving DecidableEq, Repr

/-- A swath header as read at a claim (R67). -/
structure Hdr where
  cls : Nat
  pset : Nat
  affinity : BitVec 16
  id : BitVec 22
  noRestart : Bool
  dep0 : Option (BitVec 22)
  dep1 : Option (BitVec 22)
  box : Box
  progOfs : Nat
  progLen : Nat
  safeOfs : Nat
  safeCount : Nat
  replay : Option (BitVec 24 × Nat)
  deriving DecidableEq, Repr

/-- A shadow of R213: k (0xFFFF is the entry shadow), the PC a restart continues at, and the stream time at
which it commits. -/
structure Shadow where
  k : BitVec 16
  pc : Word
  at_ : Int
  g : Vector Word 32
  acc : Vector (BitVec 40) 8
  flags : Flags
  set : Settings
  x : Int
  y : Int
  z : Int
  lease : Option Box
  deriving DecidableEq, Repr

/-- What a stop does with a swath, mildest first (R253). -/
inductive Why
  | suspend
  | restart
  | failed
  | retired
  deriving DecidableEq, Repr

/-- Where a held swath stands (R215-R219, R223): `handler` is a swath that awaits restart while its engine runs an
exception handler, `pend` one whose restart waits for dispatch. -/
inductive SwState
  | run | suppress | handler | pend | stopping | restartWait | suspended
  deriving DecidableEq, Repr

/-- A swath a beam holds, from its claim to its final status (R191-R193, R213-R220); `startS` is the stream time at which it was
entered, before which no edge of it lies (R21). -/
structure Swath where
  ring : Ring
  slot : Nat
  ptr : Nat
  hdr : Hdr
  tries : Nat
  state : SwState
  ended : Option Nat
  lastOff : Option Int
  motionEnd : Option Int
  committed : Shadow
  pending : List Shadow
  markDone : Nat
  suppressed : Nat
  countsTry : Bool
  primed : Bool
  startS : Int
  corrBase : Nat
  deriving DecidableEq, Repr

/-- What a piece of path is for (R193, R231, R232). -/
inductive SegKind
  | jump | mark | arc | pause | lead | tail | crossing
  deriving DecidableEq, Repr

/-- A piece of a beam's path in beam time (R227): from t0 to t1 (ET), between two points in units of 2^-20 nm,
about a centre with a sweep for an arc, with the settings it carries (R194, R231). -/
structure Seg where
  kind : SegKind
  t0 : Int
  t1 : Int
  x0 : Int
  y0 : Int
  z0 : Int
  x1 : Int
  y1 : Int
  z1 : Int
  arc : Option (Int × Int × Int)
  set : Settings
  swath : BitVec 22
  deriving DecidableEq, Repr

/-- An open mark sequence (R230, R236): end of its last mark, the gate rise placed for it, its last outgoing
direction and settings, and the gate edge before its rise, which stands again when the rise is withdrawn (R234). -/
structure Sequence where
  te : Int
  rise : Int
  dir : Option (Int × Int)
  set : Settings
  before : Option Int := none
  deriving DecidableEq, Repr

/-- A set-point the device sent, kept for following-error supervision (R254). -/
structure Sent where
  spTime : BitVec 32
  t : Int
  u : Int
  v : Int
  w : Int
  deriving DecidableEq, Repr

/-- The trajectory unit of a beam (R193, R227-R237, R244-R256); `queue` holds, for each element of the queue of 64, the instant at
which its planning ends (R193, R235). -/
structure Traj where
  path : List Seg := []
  stream : Int := 0
  seq : Option Sequence := none
  hx : Int := 0
  hy : Int := 0
  hz : Int := 0
  pend : List (Cell × Edge) := []
  minStart : Int := 0
  handed : Bool := false
  stopAt : Option Nat := none
  gateHist : List (Int × Option Int) := []
  mdFrom : Int := 0
  expoFrom : Int := 0
  syncOn : Nat × Nat := (0, 0)
  modOn : Nat × Nat := (0, 0)
  lastGate : Option Int := none
  queue : List Int := []
  sent : List Sent := []
  lastFrame : Option Nat := none
  lastLpwr : Option Nat := none
  lastWord : BitVec 16 := 0
  payload : Option PosPayload := none
  payloadAt : Option Nat := none
  validAt : Option Nat := none
  lastUvw : Int × Int × Int := (0, 0, 0)
  headSilent : Bool := false
  lastStatusEvt : Option Nat := none
  statusOwed : Bool := false
  feRun : Nat := 0
  missAt : Option Nat := none
  settles : List Int := []
  corrOld : Nat := 0
  alarmAct : Option Nat := none
  deriving DecidableEq, Repr

/-- A beam beside its engine: the swaths it holds, oldest first, its settings and present position (R190-R219), the
lease in its program's view with its entry's layer time, whether that lease has expired and whether its stop's outcome is settled
already (R207), the look-ahead value it entered its latest swath with (R18, R33), whether it is in dispatch, and the trajectory
unit. -/
structure Beam where
  swaths : List Swath := []
  set : Settings := {}
  x : Int := 0
  y : Int := 0
  z : Int := 0
  lease : Option (Box × Nat) := none
  expired : Bool := false
  settled : Bool := false
  lookAhead : Option Nat := none
  barrierStart : Option Int := none
  disp : Bool := false
  eretEnds : Bool := false
  traj : Traj := {}
  deriving DecidableEq, Repr

/-- A beam waiting at a barrier (R209, R210): its stream time, the instant it arrived, its timeout in µs. -/
structure Arrival where
  beam : Sys2Proof.Beam
  s : Int
  at_ : Nat
  timeout : Nat
  deriving DecidableEq, Repr

/-- A lease the arbiter holds for a local beam (R268, R277-R280): its sets, the instant it was last renewed, what
its release waits for (R24, R25), whether it covers marks of the open sequence, whether its expiry was already
acted on (R279), and the peers that granted it, each with the send time of the last acknowledged RENEW, at first the grant's, and the
send times of those not yet acknowledged (R289; log entry 49). -/
structure Lease where
  box : Box
  p : Rect
  d : Rect
  renewed : Nat
  layerTime : Nat
  releasedAt : Option Nat := none
  lastOff : Option Int := none
  motionEnd : Option Int := none
  lit : Bool := false
  lapsed : Bool := false
  reqId : BitVec 32 := 0
  peers : List (Peer × Nat × List Nat) := []
  deriving DecidableEq, Repr

/-- A lease request of a local beam (R205, R218, R274). `dead` marks a request no retry of which can succeed. -/
structure Request where
  box : Box
  cls : Nat
  wait : Bool
  restart : Bool
  retry : BitVec 32 := 0
  trev : Nat := 0
  waiting : Bool := false
  unblocked : Option Nat := none
  dead : Bool := false
  deriving DecidableEq, Repr

/-- A request sent to peers and not yet decided (R287): the peers asked, those that granted, the send time. -/
structure Tentative where
  req : Request
  p : Rect
  d : Rect
  reqId : BitVec 32
  asked : List Peer
  granted : List Peer
  sent : Nat
  deriving DecidableEq, Repr

/-- An entry held for another node's beam (R288). -/
structure Remote where
  node : Node
  beam : BitVec 8
  reqId : BitVec 32
  p : Rect
  d : Rect
  deadline : Nat
  deriving DecidableEq, Repr

/-- What joins an arbitration window (R275); another device's request with the instant of its receipt (R288). -/
inductive Joined
  | loc (b : Sys2Proof.Beam)
  | rem (node : Node) (m : PeerReq) (at_ : Nat)
  deriving DecidableEq, Repr

/-- What the arbiter keeps for a beam (R276, R281-R284); `dispAt` is the instant at which it entered dispatch (R282). -/
structure ArbBeam where
  retiring : Option Nat := none
  cur : Option Lease := none
  old : List Lease := []
  req : Option Request := none
  tent : Option Tentative := none
  agedAt : Option Nat := none
  reserve : Option (Rect × Option Nat) := none
  nextOrd : BitVec 24 := 0
  lastGlean : Option Nat := none
  retireEnded : Bool := false
  searchOwed : Bool := true
  dispAt : Nat := 0
  deriving DecidableEq, Repr

/-- The field arbiter (R267-R296); `dropped` holds the peers that have not yet answered a request that is over (R287). -/
structure ArbSt where
  beams : Vector ArbBeam 16 := Vector.replicate 16 {}
  remotes : List Remote := []
  stencil : List (Int × Int) := []
  window : Option Nat := none
  joined : List Joined := []
  agedSeq : Nat := 0
  tailSeq : Nat := 0
  stamps : List (Nat × Nat × Nat) := []
  lastClaim : Nat := 0
  recCount : Nat := 0
  reqId : BitVec 32 := 0
  dropped : List (BitVec 32 × Sys2Proof.Beam × Peer) := []
  moveRaised : Bool := false
  movePend : List (Sys2Proof.Beam × Nat) := []
  peerNoRoute : Vector (Option Nat) 8 := Vector.replicate 8 none
  barriers : Vector (List Arrival) 8 := Vector.replicate 8 []
  deriving DecidableEq, Repr

/-- The result of a loop sample: it takes effect at `due`, the next sample instant (R27, R308, R322): the power, the
LOOP_BEAM_OUT word, the states to commit and the capture record (in time, and overrun). -/
structure LoopRes where
  due : Nat
  y : Nat
  out : Word
  commits : List (Nat × BitVec 40)
  record : Option (Nat × Nat)
  deriving DecidableEq, Repr

/-- A gain entry in use (R323): its index, its rate, its words. -/
structure GainEnt where
  idx : Nat
  rate : Nat
  words : List (BitVec 16)
  deriving DecidableEq, Repr

/-- The loop of a beam (R308-R326): S(0) to S(15), the instant sampled last, the power in force, the result that
waits, the inputs' last valid values and valid bits, the position payloads received since, the BED_E read, the gain
entry, the PI outputs of the previous sample (by micro-operation), the previous mask, gate and CAPPED-free y, the
preparation owed to the first sample, the rate decided and not yet in effect, and the powers sent (newest first). -/
structure LoopSt where
  st : Vector (BitVec 40) 16 := Vector.replicate 16 0
  last : Option Nat := none
  prev : Nat := 0
  next : Option LoopRes := none
  inp : Vector Int 8 := Vector.replicate 8 0
  valid : Vector Bool 8 := Vector.replicate 8 false
  pds : List (Nat × Nat × Nat) := []
  bedE : Option (Nat × Nat) := none
  bedAt : Option Nat := none
  gain : Option GainEnt := none
  dPrev : List (Nat × Int) := []
  maskPrev : Nat := 0
  gatePrev : Bool := false
  starting : Bool := false
  rateDue : Option (Nat × Nat) := none
  sent : List (Nat × Nat) := []
  deriving DecidableEq, Repr

/-- The loop engine beside its beams (R327, R328): the injection count and LFSR, and a capture: whether it records,
the number of the next record, the previous gate of CAP_BEAM, and whether a swath was entered since ARM; and the
latch of each camera stream (R364): T_DONE and the zone averages that are not 0, by channel × 1,024 + zone. -/
structure LoopDev where
  injM : Nat := 0
  lfsr : BitVec 15 := 0x7FFF
  recording : Bool := false
  capN : Nat := 0
  capGate : Option Bool := none
  capEntered : Bool := false
  taps : Vector (Option (Nat × List (Nat × BitVec 16))) 20 := Vector.replicate 20 none
  deriving DecidableEq, Repr


/-- The states of a landing slot (R354). -/
inductive SlotStep
  | empty | landing | ready | working
  deriving DecidableEq, Repr

/-- A landing slot: its frame, T_SOF, the DROPPED and GAP that tag it, how far its lines have landed, whether its frame
is freed as it lands (R370), and the stripes processed (R367). -/
structure SlotSt where
  step : SlotStep := .empty
  frame : CamFrame := ⟨0, 0, 0, 0, 0, 0, 0, 0, 0, 0⟩
  tSof : Nat := 0
  dropped : Nat := 0
  gap : Nat := 0
  line : Nat := 0
  ofs : Nat := 0
  decim : Bool := false
  stripe : Nat := 0
  deriving DecidableEq, Repr

/-- A settings commit (R355, R357): its TARGET and generation. -/
structure CamCommit where
  target : BitVec 32
  gen : BitVec 8
  deriving DecidableEq, Repr

/-- A camera stream beside its registers (R351-R372): its slots, the slot the next frame lands in, the slots in landing
order, the frame landed last (number, T_SOF), the frames discarded since, the frames processed, the count of each
output, the context block read at the start of the present frame, the commits whose TARGET has not landed, the CAM_SET
payload pending and when it was sent last. -/
structure StreamSt where
  slots : Vector SlotSt 4 := Vector.replicate 4 {}
  next : Fin 4 := 0
  order : List (Fin 4) := []
  landed : Option (BitVec 32 × Nat) := none
  discards : Nat := 0
  count : Nat := 0
  outs : Vector Nat 4 := Vector.replicate 4 0
  block : List Byte := []
  commits : List CamCommit := []
  camSet : List Byte := []
  camSent : Option Nat := none
  deriving DecidableEq, Repr

/-- The unit a pipeline runs (R367-R369): its stream, slot and stripe, whether it is its frame's last, where its slot lies with its
stride, whether its frame was discarded since, and whether it ends with this stripe, the stream being disabled (R371). -/
structure UnitRun where
  stream : Stream
  slot : Fin 4
  stripe : Nat
  last : Bool
  at_ : Nat
  stride : Nat
  dead : Bool := false
  cut : Bool := false
  deriving DecidableEq, Repr

/-- A Thresher pipeline (R369): the running unit, and the stream whose context the shadow holds. -/
structure PipeSt where
  run : Option UnitRun := none
  shadow : Option Stream := none
  deriving DecidableEq, Repr


/-- An axis command (R387): its code, its argument, and the position a relative move counts from once it is known. -/
structure AxCmd where
  cmd : Nat
  arg : Int
  base : Option Int := none
  deriving DecidableEq, Repr

/-- A piece of an axis profile (R385): from t0 to t1 (none: without end), in 2^-20 ns; at instant ta it is at position pa
(2^-32 units) with speed va (2^-32 units/s), and its acceleration is acc units/s². -/
structure AxPiece where
  t0 : Int
  t1 : Option Int
  ta : Int
  pa : Int
  va : Int
  acc : Int
  deriving DecidableEq, Repr

/-- A step computed and not yet released in full (R397, R400): its position, and the resolution code from its falling
edge on. -/
structure AxStep where
  pos : Int
  code : Nat
  deriving DecidableEq, Repr

/-- Homing (R407): the phase, the reference point found, and the instant (2^-20 ns) at which the phase has travelled
HOME_RANGE. -/
structure AxHome where
  phase : Nat
  ref : Int := 0
  failAt : Int
  deriving DecidableEq, Repr

/-- An axis beside its registers (R385-R410): the profile's pieces and the position (2^-32 units) it rests at behind them;
the position of the step computed last and its profile instant, the steps on their way, the instant (ns) of a step's fall
that is not handed over yet, the instants (ns) of the last rise, fall and change of code computed, the direction and code computed last; the present motion's target (units), whether VELOCITY is left
at rest and whether that rest is the soft limit; the ACCEL in use; the pending and the armed command; homing; the
instant it came to rest, whether HOLD_SCALE is in use; the encoder reference, the last check and the last frame. -/
structure AxisSt where
  pieces : List AxPiece := []
  rest : Int := 0
  qpos : Int := 0
  at_ : Int := 0
  steps : List AxStep := []
  fallOwed : Option Int := none
  lastRise : Option Int := none
  lastFall : Option Int := none
  msAt : Option Int := none
  dir : Bool := false
  code : Nat := 8
  target : Int := 0
  leave : Bool := false
  soft : Bool := false
  acc : Nat := 0x271000
  pend : Option AxCmd := none
  armed : Option AxCmd := none
  home : Option AxHome := none
  restSince : Nat := 0
  hold : Bool := false
  encRef : Int := 0
  lastCheck : Option Nat := none
  lastFrame : Option Nat := none
  deriving DecidableEq, Repr

/-- The levels of an encoder's inputs (R383). -/
structure EncSt where
  a : Bool := false
  b : Bool := false
  z : Bool := false
  deriving DecidableEq, Repr

/-- A serial lane beside its registers (R416-R451): the instant it entered its state, the ordered sets counted, its
nonce, the partner's latest TS, the times of counted triggers, of frames discarded for errors; then the link layer:
sequence numbers, outstanding frames, those to send again, whether it starts anew at UP, the end of the frame or ordered
set in progress and of the IDLE behind it (ps), the TC1 frames sent while a TC2 frame waits, the instant of the last progress, NAK and ACK owed, credits by channel, frames that wait; the equaliser
steps in use and the receiver's starting point; and the Ethernet PCS. -/
structure LaneSt where
  since : Nat := 0
  tsRun : Nat := 0
  ts2Tx : Nat := 0
  ts2Rx : Nat := 0
  nonce : BitVec 32 := 0
  partner : Option TsMsg := none
  trigs : List Nat := []
  errs : List Nat := []
  replayRun : Nat := 0
  lowRun : Nat := 0
  seekSent : Option Nat := none
  nextSeq : BitVec 12 := 0
  outst : List LinkFrame := []
  resend : List (BitVec 12) := []
  fresh : Bool := true
  txEnd : Nat := 0
  tc1Run : Nat := 0
  progress : Nat := 0
  expect : BitVec 12 := 0
  lastNak : Option (BitVec 12 × Nat) := none
  nakOwed : Bool := false
  ackOwed : Bool := false
  granted : Vector (BitVec 8) 4 := Vector.replicate 4 0
  consumed : Vector (BitVec 8) 4 := Vector.replicate 4 0
  freed : Vector (BitVec 8) 4 := Vector.replicate 4 0
  txq : List LinkFrame := []
  txPre : Nat := 2
  txPost : Nat := 0xC
  ctle : Nat := 7
  pcs : Bool := false
  pause : Bool := false
  deriving DecidableEq, Repr

/-- The eye scan that runs (R439): its lane. -/
structure EyeSt where
  lane : Option Lane := none
  deriving DecidableEq, Repr


/-- A link-state message kept (R464), and when it came. -/
structure LsaRec where
  m : Lsa
  at_ : Nat
  deriving DecidableEq, Repr

/-- The computed paths to a node, as the ports of their links (R465); the empty list where there is none. -/
structure FlPath where
  node : Node
  first : List FPort
  second : List FPort
  deriving DecidableEq, Repr

/-- A node's latest HEALTH (R476): SCORE, when it came, and since when its scores have been at KEY_MIN or above. -/
structure HealthRec where
  node : Node
  score : Nat
  at_ : Nat
  good : Option Nat
  deriving DecidableEq, Repr

/-- An election (R476): its generation, the candidate voted for and when, the nodes excluded, and the next round's
instant where no candidate remained. -/
structure Election where
  gen : BitVec 32
  vote : Option (Node × Nat)
  out : List Node
  next : Option Nat
  deriving DecidableEq, Repr

/-- The FarmLink fabric beside its registers (R458-R484): adjacencies, HELLO times, LSAs with the time of the last issue,
what is owed, the paths, messages seen with DUP = 1; the highest generation voted in, the expiry E, the election, votes
received, nodes that released the key; as holder: the last RENEW sent, the generation of the next, the RENEWs not yet
effective with the nodes that acknowledged them, T_SEND of the last effective one, whether the axis state is to be
adopted; the last RENEW accepted; whether the device excludes itself and since when its score is good; the HEALTH
received and sent; what was sent last to each participant; Winnow's last cycle and the last failure of each FAIL bit;
the instants of corrected memory errors. -/
structure FabricSt where
  adj : Vector (Option (Node × FPort)) 8 := Vector.replicate 8 none
  hello : Vector (Option Nat) 8 := Vector.replicate 8 none
  lsas : List LsaRec := []
  issued : Option Nat := none
  issueOwed : Bool := false
  routesOwed : Bool := false
  paths : List FlPath := []
  seen : List (Nat × Nat × Nat × Nat) := []
  voted : Option (BitVec 32) := none
  expiry : Option Nat := none
  election : Option Election := none
  votes : List (BitVec 32 × Node) := []
  released : List Node := []
  sent : Option Nat := none
  nextGen : Option (BitVec 32) := none
  waiting : List (Nat × List Node) := []
  effective : Option Nat := none
  adopt : Bool := false
  renew : Option Renew := none
  selfOut : Bool := false
  goodSince : Option Nat := none
  health : List HealthRec := []
  healthSent : Option Nat := none
  told : List (Node × Nat) := []
  winnow : Option Nat := none
  failAt : List (Nat × Nat) := []
  corrected : List Nat := []
  deriving DecidableEq, Repr

/-- A session beside HOST_SESS_INFO and HOST_SESS_ADDR (R501-R505): its binding, the nonces, whether it opened by AUTH, A, the
stored responses, whether it has accepted a request, the OPEN response, the SEQ of its last device message, bad tags, and
the instant of its OPEN or of the last accepted request. -/
structure SessSt where
  peer : Option VmpFrom := none
  nHost : BitVec 64 := 0
  nDev : BitVec 64 := 0
  keyed : Bool := false
  a : BitVec 32 := 0
  stored : List VmpMsg := []
  accepted : Bool := false
  opened : Option VmpMsg := none
  devSeq : BitVec 32 := 0
  badTags : Nat := 0
  since : Nat := 0
  deriving DecidableEq, Repr

/-- A host ring beside its registers (R510, R512, R513): the instants at which the descriptors from HEAD on that are sent and not
acknowledged were sent last, how many from HEAD on were ever sent to the session, resends in a row, whether it is stalled;
the records lost since the last written, and the number of the next record. -/
structure HRingSt where
  sentAt : List Nat := []
  ever : Nat := 0
  resends : Nat := 0
  stalled : Bool := false
  lost : Nat := 0
  rseq : BitVec 32 := 0
  deriving DecidableEq, Repr

/-- The local bus port (R525, R526): octets written, LB_TX_LEN, the interrupt enables of LB_CTRL, TX_ERR, the messages that wait,
the first exposed, and how much of it is read. -/
structure LbSt where
  tx : List Octet := []
  txLen : BitVec 16 := 0
  irqEn : BitVec 2 := 0
  txErr : Bool := false
  rx : List (List Octet) := []
  rxPos : Nat := 0
  deriving DecidableEq, Repr

/-- The PTP messages the device sends (R123). -/
inductive PtpType
  | sync | delayReq | followUp | delayResp | announce
  deriving DecidableEq, Repr

/-- A PTP message the device sends (R97, R123, R125): its transport (UDP port, group, TTL, the port's 802.1Q tag), its versions,
domainNumber, sequenceId and sourcePortIdentity, twoStepFlag, logMessageInterval, the PTP timestamp it carries with what is
left of it as correctionField (2^-16 ns), requestingPortIdentity, and an Announce's data set. -/
structure PtpOut where
  type : PtpType
  udp : Nat
  group : BitVec 32 := 0xE0000181#32
  ttl : Nat := 1
  tag : Option Nat
  version : Nat := 2
  minor : Nat := 1
  domainNum : BitVec 7
  seqId : BitVec 16
  source : BitVec 80
  twoStep : Bool := false
  logInterval : Int
  sec : BitVec 48 := 0
  nsec : BitVec 32 := 0
  corr : Int := 0
  reqPort : Option (BitVec 80) := none
  data : Option PtpAnnounce := none
  deriving DecidableEq, Repr

/-- What the device sends (R243, R250, R125, R127, R291): the model keeps it in the order sent; `passed` is a payload
that the link layer passes on to its block (R443, R448), `up` a frame that a port passes up its stack, `eth` one that it sends, `lbIn` a message of
the local bus that is taken. Times of PTP messages are in 2^-16 ns at the balls. -/
inductive Out
  | setpoint (b : Sys2Proof.Beam) (type : Octet) (payload : List Octet)
  | lpwr (b : Sys2Proof.Beam) (word : BitVec 16)
  | ptp (p : EPort) (m : PtpOut)
  | ts (n : Lane) (x : List Octet)
  | frame (n : Lane) (x : List Octet)
  | ack (n : Lane) (x : List Octet)
  | credit (n : Lane) (x : List Octet)
  | idle (n : Lane)
  | ethConfig (n : Lane) (word : BitVec 16)
  | passed (n : Lane) (f : LinkFrame)
  | bridge (f : Fin 2) (a b : BitVec 16) (latch : Nat)
  | up (p : EPort) (frame : List Octet)
  | eth (p : EPort) (frame : List Octet)
  | lbIn (m : List Octet)
  | panel (o : DOut) (words : List (Bool × BitVec 16))
  | xy2 (h : Chan) (x y z : List Bool) (tick : Nat)
  deriving DecidableEq, Repr

/-- An Ethernet port (R451, R492, R494): since when its link was up when the gratuitous ARP was sent, the echo requests answered in
the last second, whether its sessions close after the response (R492); until when a PAUSE that it honours holds its sending, and what
that holds. -/
structure NetSt where
  arpFor : Option Nat := none
  echoes : List Nat := []
  closeOwed : Bool := false
  pausedTo : Nat := 0
  held : List Out := []
  deriving DecidableEq, Repr

/-- A long operation that runs (R517-R521): its code, its session, the octets behind its first four, and when it started. -/
structure LongSt where
  op : Nat
  sess : Sess
  args : List Octet
  start : Nat
  deriving DecidableEq, Repr

/-- The host attachment (R490-R535): sessions, host rings, the local bus, the ports, the long operation, each reader's latch of
EVT_LAST_TIME, a reset owed to a response (R641). -/
structure HostSt where
  sess : Vector SessSt 9 := Vector.replicate 9 {}
  rings : Vector HRingSt 32 := Vector.replicate 32 {}
  lb : LbSt := {}
  net : Vector NetSt 2 := Vector.replicate 2 {}
  long : Option LongSt := none
  evtLatch : Vector (BitVec 64) 30 := Vector.replicate 30 0
  resetOwed : Option (BitVec 2) := none
  deriving DecidableEq, Repr

/-- A staged record (R542) without its sequence numbers: PCC, OP_MS, SOURCE, CLASS, SEV, TIME with TVALID, and DATA. -/
structure GRec where
  pcc : BitVec 32
  op : BitVec 48
  src : Octet
  cls : Nat
  sev : Nat
  time : BitVec 64
  data : List Octet
  deriving DecidableEq, Repr

/-- A record write in progress (R546). -/
structure GWrite where
  slot : Nat
  seq : BitVec 32
  r : GRec
  deriving DecidableEq, Repr

/-- The loss counter of a class (R548). -/
structure LossCtr where
  n : Nat := 0
  first : BitVec 64 := 0
  last : BitVec 64 := 0
  src : Octet := 0
  sev : Nat := 0
  deriving DecidableEq, Repr

/-- The copy that runs (R563). -/
structure GCopy where
  slot : Nat
  count : Nat
  base : Nat
  deriving DecidableEq, Repr

/-- The Granary beside its registers (R539-R563). Kept without supply: the array (an unlisted byte is 0xFF), SEALED, the bad-slot
map, the dump with its loss count, the seal journal (rebin or seal), the key slot, the checkpoint of the operating time, the
ZEROISE mark (R648). Then the FIFO, the write in progress, the record to be written again, the last write start, the loss
counters, since when occupancy is low, the fall of PFAILn, whether staging is closed, whether PFAILn rose again, whether
the steps of R551 are owed, the copy, ns into the millisecond, each reader's latch of OPTIME_HI. -/
structure GranSt where
  array : List (Nat × Octet) := []
  isSealed : Bool := false
  bad : List Nat := []
  dump : Option (List GRec × Nat) := none
  journal : Option Bool := none
  key : Option (BitVec 256) := none
  checkpoint : BitVec 48 := 0
  zeroMark : Bool := false
  fifo : List GRec := []
  writing : Option GWrite := none
  again : Option (BitVec 32 × GRec) := none
  lastStart : Option Nat := none
  lastCheck : Option Nat := none
  loss : Vector LossCtr 16 := Vector.replicate 16 {}
  lowSince : Option Nat := some 0
  pfail : Option Nat := none
  closed : Bool := false
  dumpLost : Nat := 0
  rose : Bool := false
  upOwed : Bool := true
  copy : Option GCopy := none
  opNs : Nat := 0
  optHi : Vector (BitVec 16) 30 := Vector.replicate 30 0
  deriving DecidableEq, Repr

/-- Housekeeping beside its registers (R564-R581): readings that were VALID in the last sixteen rounds, newest first; the last
T_THR values in 1/8 °C; quiet rounds of the rise test, rounds below CRIT; whether T_THR stands at WARN; consecutive rounds
with VDD_CORE good; supplies in an excursion; inputs that were valid; lighting channels by their consecutive open
and over-current rounds, those whose input was reported, the instant the beacon inhibit ended;
the last round and its run towards a lower band; and the L_eff that each channel has in use (R579). -/
structure HkSt where
  hist : List (Vector (Option Int) 24) := []
  thr : List Int := []
  quiet : Nat := 0
  cool : Nat := 0
  warned : Bool := false
  vddGood : Nat := 0
  open_ : Vector Nat 12 := Vector.replicate 12 0
  ovr : Vector Nat 12 := Vector.replicate 12 0
  reported : Vector Bool 12 := Vector.replicate 12 false
  inhibitEnd : Nat := 0
  roundAt : Option Nat := none
  bandRun : Nat := 0
  light : Vector Nat 12 := Vector.replicate 12 0
  deriving DecidableEq, Repr

/-- A display output beside its registers (R590-R604): the timing set in use (the words at +0x00 to +0x18; none while it is
off), the shadows in use (DIRTY0, DIRTY1 and five words of each plane), those latched for the next frame; BG and COMMIT_LINE
in use, whether the present frame is twice as long (R604), the instant of its start (in 2^-24 ns), whether its underrun was
reported; the commit's instant, whether it missed COMMIT_LINE, and whether one more waits behind a push; the command queue
with DCX levels; the end of the push and of the queue that are sent; whether a push waits for its tearing edge, since when
none has come, the edges since the last push, and that push's start; the words that the bus sends with the instant of the first; where
the present frame ran out of pixels (line and column, R596). -/
structure DispOut where
  tim : List Word := []
  used : List Word := []
  latched : Option (List Word) := none
  bg : Word := 0
  line : Nat := 0x4CE
  slow : Bool := false
  frameAt : Int := 0
  reported : Bool := false
  commitAt : Nat := 0
  late : Bool := false
  again : Bool := false
  cmdq : List (Bool × Octet) := []
  pushEnd : Nat := 0
  queueEnd : Nat := 0
  waitTe : Bool := false
  teFrom : Nat := 0
  teEdges : Nat := 2
  lastPush : Option Nat := none
  bus : List (Bool × BitVec 16) := []
  busAt : Nat := 0
  dark : Option (Nat × Nat) := none
  deriving DecidableEq, Repr

/-- What an XK channel waits for (R619), the pause of stage T4 among it (R631). -/
inductive XkWait
  | idle
  | sync (mask : Nat)
  | pause
  | swap
  | ax (a : XAxis)
  | var (v : BitVec 8)
  | t4
  deriving DecidableEq, Repr

/-- An XK channel beside its registers and the trajectory unit of its beam (R619-R630): the return addresses, the open LOOP
bodies (start, runs left), what it waits for, the instant at which its next command stands (ET), the position its commands
have reached, its speeds, light shifts in µs and settle ticks, whether LIGHT_ON holds, a STOP that is owed; with their
instants (ET): the commands in output, Z, and the power. -/
structure XkChan where
  stack : List Nat := []
  loops : List (Nat × Nat) := []
  wait : Option XkWait := none
  outT : Int := 0
  x : Nat := 0x8000
  y : Nat := 0x8000
  travelRate : Nat := 1
  strokeRate : Nat := 1
  lead : Int := 0
  lag : Int := 0
  travelSettle : Nat := 0
  strokeSettle : Nat := 0
  bendSettle : Nat := 0
  light : Bool := false
  stopOwed : Bool := false
  pcs : List (Int × Nat) := []
  zs : List (Int × Nat) := []
  pws : List (Int × Nat) := []
  deriving DecidableEq, Repr

/-- The XK block beside its registers (R615-R629): the channels, the halfword LIST_LO holds, the last tick executed and the last
tick a frame was sent for (ns), each reader's latches. -/
structure XkSt where
  chan : Vector XkChan 4 := Vector.replicate 4 {}
  listLo : BitVec 16 := 0
  lastTick : Option Nat := none
  lastFrame : Option Nat := none
  tickHi : Vector (BitVec 16) 30 := Vector.replicate 30 0
  posHi : Vector (Vector (BitVec 16) 2) 30 := Vector.replicate 30 (Vector.replicate 2 0)
  deriving DecidableEq, Repr

/-- The QSPI flash at its balls (R643): whether it answers SFDP, whether it has a 1-1-4 read, the size of a slot, and its bytes
(an unlisted byte is 0xFF; log entry 26). -/
structure FlashSt where
  fitted : Bool := true
  quad : Bool := true
  slot : Nat := 0x800000
  cells : List (Nat × Octet) := []
  deriving DecidableEq, Repr

/-- Start-up (R636-R654): the causes of the reset that holds the device, as SYS_RESET_CAUSE codes them, 0 once it has ended; and where the image to be applied lies (0 slot A, 1 slot B, 2 the Silo)
with its offset. -/
structure BootSt where
  cause : Nat := 1
  image : Option (Nat × Nat) := none
  deriving DecidableEq, Repr

/-- Holds of exposure that no register shows: VDD_CORE below LO (R575), and thermal shutdown (R574); and the instant of the
last lockstep fault (R484); whether the supervisor pair executed HALT (R179), restarts, or is dead (R651), which a CORE reset of SYS_SUP
does not end. -/
structure HoldSt where
  vdd : Bool := false
  shutdown : Bool := false
  lockstep : Option Nat := none
  supHalt : Bool := false
  supRestarting : Bool := false
  supDead : Bool := false
  deriving DecidableEq, Repr

/-- The level of each EMIT_PERMITn input: the instant since which it has been low, none while it is high (R252); the end of the
pulse on each EVT_OUT pin (R535); whether PFAILn is low (R550, R667); and whether the test port is out of reset, TRSTn high, which no row of the table moves (R660; log
entry 51). -/
structure PinSt where
  permit : Vector (Option Nat) 4 := Vector.replicate 4 none
  evtOut : Vector (Option Nat) 4 := Vector.replicate 4 none
  pfail : Bool := false
  testPort : Bool := false
  deriving DecidableEq, Repr

/-- A command whose request waits for a power domain to be ON (R41), with its operands: a write of a register, the rows that write one
field, a routed frame, an Ethernet frame, a message of another device's arbiter, a VMP request of a session. -/
inductive Asked
  | write (who : Reader) (a v : Word)
  | laserResume (who : Reader) (b : Sys2Proof.Beam)
  | loopResume (who : Reader) (b : Sys2Proof.Beam)
  | streamEnable (who : Reader) (n : Stream) (v : Word)
  | streamDisable (who : Reader) (n : Stream) (v : Word)
  | camCtx (who : Reader) (n : Stream) (v : Word)
  | lnCfg (who : Reader) (n : Lane) (v : Word)
  | retrain (who : Reader) (n : Lane)
  | unretire (who : Reader) (n : Lane)
  | clrRefused (who : Reader) (n : Lane)
  | fabricEnable (who : Reader) (v : Word)
  | routed (port : FPort) (vc : Fin 4) (hdr : BitVec 64) (msg : List (BitVec 8))
  | sessionKill (who : Reader) (n : Sess)
  | netIp (who : Reader) (p : EPort) (mask : Bool) (v : Word)
  | optimeLo (who : Reader)
  | copyStart (who : Reader)
  | ltFault (who : Reader) (n : Fin 12) (v : Word)
  | commit (who : Reader) (o : DOut)
  | cmdq (who : Reader) (o : DOut) (v : Word)
  | tcommit (who : Reader)
  | peerReq (node : Node) (m : PeerReq)
  | peerGrant (node : Node) (grant : Bool) (reqId : BitVec 32) (reason : BitVec 8)
  | peerCancel (node : Node) (reqId : BitVec 32)
  | peerRelease (node : Node) (reqId : BitVec 32)
  | peerRenew (node : Node) (reqId : BitVec 32)
  | peerAck (node : Node) (reqId : BitVec 32)
  | peerEnergy (node : Node) (x y d te : BitVec 32)
  | peerGeom (node : Node) (ox oy pitch : BitVec 32)
  | eth (p : EPort) (frame : List Octet)
  | vmp (o : VmpFrom) (m : VmpMsg)
  deriving DecidableEq, Repr

/-- The state of the VJ1616: the commands that wait, those whose request waits for a power domain to be ON (R41), the register file (words by address, rising, none equal to
its reset value), the memories, and what each block holds beside its registers. `fired`, `out` and `free` are the
model's own: events raised and not yet delivered, what the device has sent, and the count of free values taken
(log entry 5). -/
structure State where
  pending : List Instr := []
  waiting : List Asked := []
  regs : List (Nat × Word) := []
  silo : MemR := {}
  time : TimeSt := {}
  cells : Vector CellSt 96 := Vector.replicate 96 {}
  transit : List (Cell × Edge) := []
  power : Vector PowerDom 44 := Vector.replicate 44 {}
  bed : BedSt := {}
  layer : LayerSt := {}
  eng : Vector Engine 21 := Vector.replicate 21 {}
  beam : Vector Beam 16 := Vector.replicate 16 {}
  arb : ArbSt := {}
  loops : Vector LoopSt 16 := Vector.replicate 16 {}
  loopDev : LoopDev := {}
  lanes : Vector LaneSt 32 := Vector.replicate 32 {}
  eye : EyeSt := {}
  streams : Vector StreamSt 20 := Vector.replicate 20 {}
  pipes : Vector PipeSt 4 := Vector.replicate 4 {}
  fabric : FabricSt := {}
  axes : Vector AxisSt 8 := Vector.replicate 8 {}
  enc : Vector EncSt 2 := Vector.replicate 2 {}
  host : HostSt := {}
  gran : GranSt := {}
  hk : HkSt := {}
  disp : Vector DispOut 2 := Vector.replicate 2 {}
  xk : XkSt := {}
  boot : BootSt := {}
  flash : FlashSt := {}
  pins : PinSt := {}
  holds : HoldSt := {}
  fired : List Fired := []
  out : List Out := []
  free : Nat := 0
  deriving DecidableEq, Repr

/-- Reasons the model stops with a fault: none. Every fault the spec describes is an effect on State. -/
inductive Fault
  deriving DecidableEq, Repr

/-- Reasons the model refuses a command. -/
inductive Refusal
  /-- Raised by exec for a command whose meaning is not written yet, by name (safe: the machine stops). -/
  | notModelled (mnemonic : String)
  deriving DecidableEq, Repr

/-- The machine right after reset: every register at the reset value of its field table (R10), every other field
as its docstring and log entries 3, 4 and 10 say. -/
def State.reset : State := {}

end Sys2Proof.Machine
end

