-- ==== Sys2Proof/Machine/Ops.lean ====
section
/-! DEFINITION. The named operations over the stores of State: tables in canonical form, the register file,
memories, the present time and its comparisons, raising an event, free values. -/

namespace Sys2Proof.Machine

/-! ## Tables: lists of (key, value) with rising keys and no value equal to the default of its key -/

/-- The value at key k. -/
def tabGet {α : Type} (d : Nat → α) : List (Nat × α) → Nat → α
  | [], k => d k
  | (j, v) :: t, k => if k = j then v else if k < j then d k else tabGet d t k

/-- The table with v at key k, in canonical form. -/
def tabSet {α : Type} [DecidableEq α] (d : Nat → α) : List (Nat × α) → Nat → α → List (Nat × α)
  | [], k, v => if v = d k then [] else [(k, v)]
  | (j, w) :: t, k, v =>
    if k < j then (if v = d k then (j, w) :: t else (k, v) :: (j, w) :: t)
    else if k = j then (if v = d k then t else (k, v) :: t)
    else (j, w) :: tabSet d t k v

/-- Every key of the table lies above n. -/
def tabAbove {α : Type} (n : Nat) : List (Nat × α) → Bool
  | [] => true
  | (j, _) :: t => decide (n < j) && tabAbove n t

/-- The canonical form: keys strictly rising, no value equal to the default of its key. -/
def tabWf {α : Type} [DecidableEq α] (d : Nat → α) : List (Nat × α) → Bool
  | [] => true
  | (j, v) :: t => decide (v ≠ d j) && tabAbove j t && tabWf d t

/-! ## The register file -/

/-- Register description r holds the word at address a. -/
def RegD.covers (r : RegD) (a : Nat) : Bool :=
  decide (r.base ≤ a) &&
    (let o := a - r.base
     let i := o / r.s1
     let j := (o - i * r.s1) / r.s2
     decide (i < r.n1) && decide (j < r.n2) && decide (i * r.s1 + j * r.s2 = o))

/-- The base of the device registers (R145). -/
def regBase : Nat := 0xF0000000

/-- The number of the block that holds the register address a: bits 27-16 (R145). -/
def blockNo (a : Nat) : Nat := a / 0x10000 % 0x1000

/-- The register at address a, if the block holds one there (R146, R536). -/
def regFind (a : Nat) : Option RegD := (regsOfBlock (blockNo a)).find? (·.covers a)

/-- The UID octets of R491: MAC_LO of port p. -/
def macLoReset : Nat := Config.uid.toNat % 2 ^ 32
/-- MAC_HI of port p under R491. -/
def macHiReset (p : Nat) : Nat := (2 + 4 * p) * 256 + Config.uid.toNat / 2 ^ 32 % 256
/-- The IPv4 address of port p under R491. -/
def ipReset (p : Nat) : Nat :=
  (169 * 256 + 254) * 65536 + (1 + (Config.uid.toNat / 256 % 256) % 127 + 127 * p) * 256 + Config.uid.toNat % 256

/-- The reset word of the register at a: that of its field table, of the fuses (R491, R538, R654) or of the sine
table (R402). -/
def regDefault (a : Nat) : Word :=
  if a = R.SYS_UID_LO then BitVec.ofNat 32 Config.uid.toNat
  else if a = R.SYS_UID_HI then BitVec.ofNat 32 (Config.uid.toNat / 2 ^ 32)
  else if a = R.HOST_NET_MAC_LO 0 ∨ a = R.HOST_NET_MAC_LO 1 then BitVec.ofNat 32 macLoReset
  else if a = R.HOST_NET_MAC_HI 0 then BitVec.ofNat 32 (macHiReset 0)
  else if a = R.HOST_NET_MAC_HI 1 then BitVec.ofNat 32 (macHiReset 1)
  else if a = R.HOST_NET_IP 0 then BitVec.ofNat 32 (ipReset 0)
  else if a = R.HOST_NET_IP 1 then BitVec.ofNat 32 (ipReset 1)
  else if R.AX_SINE 0 0 ≤ a ∧ a < R.AX_SINE 2 0 then BitVec.ofNat 32 (axSineReset.getD ((a - R.AX_SINE 0 0) / 4 % 128) 0)
  else match regFind a with
    | some r => BitVec.ofNat 32 r.reset
    | none => 0

/-- The stored word of the register at a. -/
def State.reg (s : State) (a : Nat) : Word := tabGet regDefault s.regs a

/-- s with word v stored in the register at a. -/
def State.setReg (s : State) (a : Nat) (v : Word) : State := { s with regs := tabSet regDefault s.regs a v }

/-- Bits hi to lo of a word, as a number (R1). -/
def bitsOf (w : Word) (hi lo : Nat) : Nat := w.toNat / 2 ^ lo % 2 ^ (hi + 1 - lo)

/-- A word with bits hi to lo replaced by n. -/
def putBits (w : Word) (hi lo n : Nat) : Word :=
  BitVec.ofNat 32 (w.toNat - bitsOf w hi lo * 2 ^ lo + n % 2 ^ (hi + 1 - lo) * 2 ^ lo)

/-- A field's value. -/
def State.get (s : State) (f : Fld) : Nat := bitsOf (s.reg f.addr) f.hi f.lo

/-- A one-bit field, or whether any bit of a field is set. -/
def State.flag (s : State) (f : Fld) : Bool := s.get f != 0

/-- A field's value read as two's complement (R3). -/
def State.int (s : State) (f : Fld) : Int := sgn (f.hi + 1 - f.lo) (s.get f)

/-- s with n in the field. -/
def State.put (s : State) (f : Fld) (n : Nat) : State := s.setReg f.addr (putBits (s.reg f.addr) f.hi f.lo n)

/-- s with the one-bit field set to v. -/
def State.setFlag (s : State) (f : Fld) (v : Bool) : State := s.put f (b2n v)

/-- s with the counter of the field one higher, holding at its maximum (R139). -/
def State.count (s : State) (f : Fld) : State :=
  if s.get f + 1 < 2 ^ (f.hi + 1 - f.lo) then s.put f (s.get f + 1) else s

/-! ## Memories (R2, R36, R38, R145) -/

/-- The byte at offset a. -/
def MemR.byte (m : MemR) (a : Nat) : Byte := tabGet (fun _ => 0) m.cells a

/-- m with byte v at offset a. -/
def MemR.setByte (m : MemR) (a : Nat) (v : Byte) : MemR := { m with cells := tabSet (fun _ => 0) m.cells a v }

/-- n bytes from offset a, little-endian. -/
def MemR.read (m : MemR) (a : Nat) : Nat → Nat
  | 0 => 0
  | n + 1 => (m.byte a).toNat + 256 * m.read (a + 1) n

/-- m with the low n bytes of v stored from offset a, little-endian. -/
def MemR.write (m : MemR) (a : Nat) : Nat → Nat → MemR
  | 0, _ => m
  | n + 1, v => (m.setByte a (BitVec.ofNat 8 v)).write (a + 1) n (v / 256)

/-- The n bytes from offset a as a list. -/
def MemR.bytes (m : MemR) (a : Nat) : Nat → List Byte
  | 0 => []
  | n + 1 => m.byte a :: m.bytes (a + 1) n

/-- m with a list of bytes stored from offset a. -/
def MemR.setBytes (m : MemR) (a : Nat) : List Byte → MemR
  | [] => m
  | v :: t => (m.setByte a v).setBytes (a + 1) t

/-- Some of the 64-bit words of the n bytes from offset a has an uncorrectable error (R38). -/
def MemR.badIn (m : MemR) (a n : Nat) : Bool := m.bad.any fun w => decide (a / 8 ≤ w ∧ w ≤ (a + n - 1) / 8)

/-- A read of n bytes at offset a corrects each single-bit error and writes the word back (R38). -/
def MemR.correct (m : MemR) (a n : Nat) : MemR :=
  { m with one := m.one.filter fun w => !decide (a / 8 ≤ w ∧ w ≤ (a + n - 1) / 8) }

/-- A store of whole 64-bit words gives them new check bits (R164). -/
def MemR.renew (m : MemR) (a n : Nat) : MemR :=
  { m with
    one := m.one.filter fun w => !decide (a ≤ 8 * w ∧ 8 * w + 8 ≤ a + n)
    bad := m.bad.filter fun w => !decide (a ≤ 8 * w ∧ 8 * w + 8 ≤ a + n) }

/-- The canonical form of a memory (log entry 3). -/
def Mem.wf (m : Mem) : Bool := tabWf (fun _ => 0) m

/-- The size of the Silo, 96 MiB (R36). -/
def siloSize : Nat := 0x6000000

/-- A word of the Silo. -/
def State.silo32 (s : State) (a : Nat) : Nat := s.silo.read a 4

/-- s with a word stored in the Silo. -/
def State.setSilo32 (s : State) (a v : Nat) : State := { s with silo := s.silo.write a 4 v }

/-! ## Vectors of blocks -/

/-- v with the entry at i replaced by f of it. -/
def vmod {α : Type} {n : Nat} (v : Vector α n) (i : Fin n) (f : α → α) : Vector α n := v.set i (f v[i])

/-- s with cell c changed by f. -/
def State.modCell (s : State) (c : Cell) (f : CellSt → CellSt) : State := { s with cells := vmod s.cells c f }
/-- s with engine e changed by f. -/
def State.modEng (s : State) (e : Eng) (f : Engine → Engine) : State := { s with eng := vmod s.eng e f }
/-- s with beam b changed by f. -/
def State.modBeam (s : State) (b : Sys2Proof.Beam) (f : Beam → Beam) : State := { s with beam := vmod s.beam b f }
/-- s with the trajectory unit of beam b changed by f. -/
def State.modTraj (s : State) (b : Sys2Proof.Beam) (f : Traj → Traj) : State :=
  s.modBeam b fun x => { x with traj := f x.traj }
/-- s with the arbiter's state of beam b changed by f. -/
def State.modArb (s : State) (b : Sys2Proof.Beam) (f : ArbBeam → ArbBeam) : State :=
  { s with arb := { s.arb with beams := vmod s.arb.beams b f } }
/-- s with domain d changed by f. -/
def State.modDom (s : State) (d : Dom) (f : DomSt → DomSt) : State :=
  { s with time := { s.time with dom := vmod s.time.dom d f } }

/-- The engine of beam b (R35). -/
def engOf (b : Sys2Proof.Beam) : Eng := ⟨b.val, by omega⟩

/-! ## Time (R97, R99, R103, R104) -/

/-- The upper half of TS64 as a read returns it: EXT, or EXT + 1 while PEND_WRAP is 1 (R100); 0 until the PLL locks (R94). -/
def State.nowHi (s : State) : BitVec 32 := if s.time.running = false then 0 else if s.flag F.TIME_STATUS_PEND_WRAP then s.time.ext + 1 else s.time.ext

/-- The present TS64 in ns (R104). -/
def State.now (s : State) : Nat := s.nowHi.toNat * 2 ^ 32 + s.time.ts32.toNat

/-- The present instant in units of 125 ps (R97). -/
def State.nowEt (s : State) : Int := 8 * (s.now : Int)

/-- R103: time t (ns) has been reached. -/
def State.reached (s : State) (t : Int) : Bool :=
  if s.flag F.TIME_STATUS_EXT_VALID then 0 ≤ sgn 64 (wrap 64 ((s.now : Int) - t))
  else 0 ≤ sgn 32 (wrap 32 ((s.now : Int) - t))

/-- R103 for an instant in units of 125 ps. -/
def State.reachedEt (s : State) (t : Int) : Bool := s.reached (t.fdiv 8)

/-- How far instant t (units of 125 ps) lies ahead of the present, as R103 compares. -/
def State.etAhead (s : State) (t : Int) : Int :=
  let w := if s.flag F.TIME_STATUS_EXT_VALID then 67 else 35
  sgn w (wrap w (t - s.nowEt))

/-- The end t of an interval the device measures has come (R103). -/
def State.past (s : State) (t : Nat) : Bool := s.reached t

/-- ns have passed since instant t (R103); an interval beyond the range of R104 is compared in 64 bits in any case (log
entry 33). -/
def State.elapsed (s : State) (t ns : Nat) : Bool :=
  if ns < 2147483648 then s.reached (t + ns : Nat) else decide (0 ≤ sgn 64 (wrap 64 ((s.now : Int) - (t + ns : Nat))))

/-- An interval of ns has passed since an instant; with none recorded it has. -/
def State.after (s : State) (t : Option Nat) (ns : Nat) : Bool := match t with
  | some t => s.elapsed t ns
  | none => true

/-- The full time of an ET value, in units of 125 ps (R98). -/
def State.etFull (s : State) (et : BitVec 64) : Int := s.nowEt + sgn 64 (wrap 64 ((et.toNat : Int) - s.nowEt))

/-- R104: a new time t (64 bits) is refused while EXT_VALID is 0. -/
def State.timeRefused (s : State) (t : Nat) : Bool :=
  !s.flag F.TIME_STATUS_EXT_VALID && decide (2147483647 < sgn 64 (wrap 64 ((t : Int) - s.now)))

/-! ## Events, output, free values -/

/-- XK interrupt bit n is set (R633). -/
def State.xkInt (s : State) (n : Nat) : State :=
  let f := if n < 16 then F.XK_INT_LO_INT else F.XK_INT_HI_INT
  s.put f (s.get f ||| 2 ^ (n % 16))

/-- The XK interrupt bit that a device event sets (R633): an XK axis at the end of a move, a late edge on cells 0 to 15, a band
change, a supply out of limit. -/
def xkBitOf (src data : Nat) : Option Nat :=
  if (src = 66 ∨ src = 67) ∧ data % 16 = 1 then some (20 + (src - 66))
  else if src = 112 ∧ data < 16 then some 23
  else if src = 118 then some 24
  else if src = 125 then some 25
  else none

/-- Raise event source src with a data word (R138, R529): it fires now and waits for its delivery. In XK and mixed
personality it may set a bit of XK_INT (R633). -/
def State.raise (s : State) (src data : Nat) : State :=
  let s := { s with fired := s.fired ++ [⟨src, BitVec.ofNat 32 data, s.now⟩] }
  if s.get F.XK_CFG_PERS = 0 then s
  else match xkBitOf src data with
    | some n => s.xkInt n
    | none => s

/-- Send something. -/
def State.send (s : State) (o : Out) : State := { s with out := s.out ++ [o] }

/-- A free value of w bits for purpose p, and the state with one more taken (log entry 11). -/
def State.freeVal (s : State) (p w : Nat) : Nat × State :=
  ((Config.freeValue s.free p).toNat % 2 ^ w, { s with free := s.free + 1 })

/-- n corrected errors are counted now (R38). -/
def State.noteFixes (s : State) (n : Nat) : State :=
  { s with fabric := { s.fabric with corrected := s.fabric.corrected ++ List.replicate n s.now } }

/-- A read of n bytes of the Silo at a corrects single-bit errors and counts them (R38). -/
def State.siloFix (s : State) (a n : Nat) : State :=
  let m := s.silo.correct a n
  { s with silo := m }.noteFixes (s.silo.one.length - m.one.length)

/-- A read of the local memory of engine e corrects single-bit errors and counts them (R38). -/
def State.localFix (s : State) (e : Eng) (a n : Nat) : State :=
  let m := s.eng[e].mem.correct a n
  (s.modEng e fun x => { x with mem := m }).noteFixes (s.eng[e].mem.one.length - m.one.length)

/-- n bytes of the Silo at a as a block of the device reads them (R38): a single-bit error is corrected and counted; what a word with an
uncorrectable error gives is a free value (log entry 46); what lies beyond the Silo reads 0. -/
def State.devRead (s : State) (a n : Nat) : Nat × State :=
  if siloSize < a + n then (0, s)
  else if s.silo.badIn a n then (s.siloFix a n).freeVal 50 (8 * n)
  else (s.silo.read a n, s.siloFix a n)

/-- k values of n bytes each from a on. -/
def State.devReads (s : State) (a n : Nat) : Nat → List Nat × State
  | 0 => ([], s)
  | k + 1 =>
    let (v, s) := s.devRead a n
    let (l, s) := s.devReads (a + n) n k
    (v :: l, s)

/-- Do f for each element in turn. -/
def forEach {α : Type} (l : List α) (s : State) (f : State → α → State) : State := l.foldl f s

/-- The beams in order. -/
def allBeams : List Sys2Proof.Beam := List.finRange 16

end Sys2Proof.Machine
end

