-- ==== Sys2Proof/Machine/RegAccess.lean ====
section
/-! DEFINITION. How a write changes the fields of a register and how a read shows them (00_scope.md R7-R9, R692). -/

namespace Sys2Proof.Machine

/-- The index of address a in an array of n words at base with a stride. -/
def indexIn (a base stride n : Nat) : Option Nat :=
  if base ≤ a ∧ (a - base) % stride = 0 ∧ (a - base) / stride < n then some ((a - base) / stride) else none

/-- The access of a field in a view: `sup` is the supervisor view. -/
def FieldD.access (f : FieldD) (sup : Bool) : Access := if sup then f.s else f.u

/-- What a write of n stores in a field of w bits. -/
def Clamp.apply (c : Clamp) (w n : Nat) : Nat :=
  match c with
  | .none => n
  | .range lo hi => if n < lo then lo else if hi < n then hi else n
  | .above m v => if m < n then v else n
  | .zero v => if n = 0 then v else n
  | .signed m => wrap w (clampI (-m) m (sgn w n))

/-- One field of a register whose word is `old` after a write of v (R7). -/
def FieldD.write (f : FieldD) (sup : Bool) (old v : Word) : Word :=
  let w := f.hi + 1 - f.lo
  let new := bitsOf v f.hi f.lo
  let cur := bitsOf old f.hi f.lo
  match f.access sup with
  | .rw | .wo => putBits old f.hi f.lo (f.clamp.apply w new)
  | .w1c => putBits old f.hi f.lo (if f.whole then (if new = 0 then cur else 0) else cur - (cur &&& new))
  | .w1s => putBits old f.hi f.lo (cur ||| new)
  | .ro | .w1p | .na => old

/-- A register's word after a write of v to those of its fields whose access is selected. -/
def RegD.write (r : RegD) (sup : Bool) (sel : Access → Bool) (old v : Word) : Word :=
  r.fields.foldl (fun w f => if sel (f.access sup) then f.write sup w v else w) old

/-- The codes R692 lets act on a refused write. -/
def Access.isW1c : Access → Bool
  | .w1c => true
  | _ => false
/-- The codes the condition of R692 applies to. -/
def Access.isRw : Access → Bool
  | .rw => true
  | _ => false

/-- A field of the register at a may not be accessed in the view (R8). -/
def regDenied (a : Nat) (sup : Bool) : Bool :=
  match regFind a with
  | none => false
  | some r => r.fields.any fun f => match f.access sup with
    | .na => true
    | _ => false

/-- The word of the register at a after a write of v to the selected fields. -/
def State.written (s : State) (a : Nat) (sup : Bool) (sel : Access → Bool) (v : Word) : Word :=
  match regFind a with
  | none => s.reg a
  | some r => r.write sup sel (s.reg a) v

/-- A write to every field that takes one (R7). -/
def State.plainWrite (s : State) (a : Nat) (sup : Bool) (v : Word) : State :=
  s.setReg a (s.written a sup (fun _ => true) v)

/-- Only the W1C fields take a write. -/
def State.w1cWrite (s : State) (a : Nat) (sup : Bool) (v : Word) : State :=
  s.setReg a (s.written a sup Access.isW1c v)

/-- The write would change an RW field (R692). -/
def State.wouldChange (s : State) (a : Nat) (sup : Bool) (v : Word) : Bool :=
  decide (s.written a sup Access.isRw v ≠ s.reg a)

/-- R692: a write under an acceptance condition `ok`: taken whole, or refused after its W1C fields with `err` set. The
second result says that it was taken. -/
def State.condWrite (s : State) (a : Nat) (sup : Bool) (v : Word) (ok : Bool) (err : Fld) : State × Bool :=
  if ok || !s.wouldChange a sup v then (s.plainWrite a sup v, true)
  else ((s.w1cWrite a sup v).setFlag err true, false)

/-- A register's word as a read in the view shows it: write-only and one-shot fields read 0 (R7). -/
def RegD.shown (r : RegD) (sup : Bool) (w : Word) : Word :=
  r.fields.foldl (fun x f => match f.access sup with
    | .ro | .rw | .w1c | .w1s => x ||| (w &&& BitVec.ofNat 32 ((2 ^ (f.hi + 1 - f.lo) - 1) * 2 ^ f.lo))
    | .wo | .w1p | .na => x) 0

/-- A one-shot field of a written word is 1 in a view that has it. -/
def pulsed (f : Fld) (sup : Bool) (v : Word) : Bool :=
  bitsOf v f.hi f.lo != 0 && (match regFind f.addr with
    | none => false
    | some r => r.fields.any fun g => decide (g.lo = f.lo) && (match g.access sup with
      | .w1p | .wo => true
      | _ => false))

end Sys2Proof.Machine
end

