-- ==== Sys2Proof/Machine/Domains.lean ====
section
/-! DEFINITION. Power domains and what asks them (01_architecture.md R40-R45). -/

namespace Sys2Proof.Machine

/-- Domain d has a handshake now (R40). -/
def State.touch (s : State) (d : Fin 44) : State := { s with power := vmod s.power d fun _ => ⟨s.now⟩ }
/-- Domain d is ON (R40). -/
def State.domainOn (s : State) (d : Fin 44) : Bool := s.get (F.SYS_PWR_POLICY_STATE d.val) == 0
/-- R41: a request to domain d wakes it unless it is ON. -/
def State.wakeDomain (s : State) (d : Fin 44) : State :=
  if s.domainOn d then s.touch d else s.put (F.SYS_PWR_POLICY_STATE d.val) 3
/-- The domain of an engine, if it has one (R45). -/
def domainOfEng (e : Eng) : Option (Fin 44) := if h : e.val < 20 then some ⟨e.val, by omega⟩ else none
/-- The domain of the Silo bank group that holds an offset (R36, R45). -/
def domainOfSilo (a : Nat) : Fin 44 := ⟨26 + a / 256 % 32 / 8, by omega⟩
/-- The field arbiter's domain. -/
def domArb : Fin 44 := 25
/-- The domain of a Thresher pipeline. -/
def domPipe (p : Fin 4) : Fin 44 := ⟨21 + p.val, by omega⟩

/-- The power domain of the block that holds a register (R45); a camera stream's registers are with the pipeline that its PIPE names
(log entry 30). -/
def State.domainOfReg (s : State) (a : Nat) : Option (Fin 44) :=
  let o := a % 0x10000
  match blockNo a with
  | 2 => some (Fin.ofNat 44 (o / 0x1000))
  | 3 => some 25
  | 4 => some 25
  | 5 => some 20
  | 6 => match indexIn a (R.IMG_PIPE_STAT 0) 4 4 with
    | some p => some (domPipe (Fin.ofNat 4 p))
    | none =>
      if R.IMG_CAM_CFG 0 ≤ a ∧ a < R.IMG_CAM_CFG 20 then
        some (domPipe (Fin.ofNat 4 (s.get (F.IMG_CAM_CFG_PIPE ((a - R.IMG_CAM_CFG 0) / 0x80)))))
      else none
  | 7 => some 31
  | 8 => if 0x100 ≤ o ∧ o < 0x500 then some (Fin.ofNat 44 (32 + (o - 0x100) / 0x80))
    else if 0x10 ≤ o ∧ o < 0x30 then some (Fin.ofNat 44 (32 + (o - 0x10) / 4)) else none
  | 9 => some 40
  | 10 => if o < 0x1000 then some 41 else none
  | 11 => some 42
  | 12 => if 0x800 ≤ o ∧ o < 0xA40 then some 43 else none
  | 13 => some 30
  | _ => none

/-- The block of a register is not gated off or its domain is ON (R41). -/
def State.regReady (s : State) (a : Nat) : Bool := (s.domainOfReg a).all s.domainOn
/-- The handshake of a request to the block of a register (R40). -/
def State.touchReg (s : State) (a : Nat) : State := match s.domainOfReg a with
  | some d => s.touch d
  | none => s
/-- A request to the block of a register wakes its domain (R41). -/
def State.wakeReg (s : State) (a : Nat) : State := match s.domainOfReg a with
  | some d => s.wakeDomain d
  | none => s

/-- A command waits until a domain is ON (R41). -/
def State.park (s : State) (i : Asked) : State := { s with waiting := s.waiting ++ [i] }

/-- R41: where the domain asked is ON, k of the state with its handshake; else it wakes, and the command waits. -/
def State.ask (s : State) (d : Fin 44) (i : Asked) (k : State → State) : State :=
  if s.domainOn d then k (s.touch d) else (s.wakeDomain d).park i
/-- R41 for a request to the block of a register. -/
def State.askReg (s : State) (a : Nat) (i : Asked) (k : State → State) : State :=
  if s.regReady a then k (s.touchReg a) else (s.wakeReg a).park i
/-- R41 for what the device takes up again of itself while it is due: where a domain is not ON, it only wakes. -/
def State.askSoon (s : State) (l : List (Fin 44)) (k : State → State) : State :=
  if l.all s.domainOn then k (forEach l s fun s d => s.touch d) else forEach l s fun s d => s.wakeDomain d

end Sys2Proof.Machine
end

