-- ==== Sys2Proof/Machine/Bed.lean ====
section
/-! DEFINITION. The bed map, the layer's time and the beam fields (02_bed_and_swaths.md R47-R66, R97). -/

namespace Sys2Proof.Machine

/-! ## The layer -/

/-- Codes of the layer state (R86). -/
abbrev lyIDLE : Nat := 0
abbrev lyARMING : Nat := 1
abbrev lyARMED : Nat := 2
abbrev lyACTIVE : Nat := 3
abbrev lyLOCALEND : Nat := 4
abbrev lyRECOAT : Nat := 5
abbrev lyABORTING : Nat := 6

/-- The layer state (R86). -/
def State.lyState (s : State) : Nat := s.get F.HOST_LAYER_STATE_STATE
/-- s in layer state n. -/
def State.setLy (s : State) (n : Nat) : State := s.put F.HOST_LAYER_STATE_STATE n
/-- The layer state is IDLE. -/
def State.idle (s : State) : Bool := s.lyState == lyIDLE
/-- T_B in ns (R92). -/
def State.tB (s : State) : Nat := s.get F.HOST_LAYER_BEGIN_HI_T_B_HI * 2 ^ 32 + s.get F.HOST_LAYER_BEGIN_LO_T_B_LO
/-- Layer time runs (R97). -/
def State.layerRuns (s : State) : Bool :=
  s.lyState == lyACTIVE || s.lyState == lyLOCALEND || s.lyState == lyRECOAT ||
    (s.lyState == lyABORTING && s.layer.wasActive)

/-- Layer time in µs of the instant t ns, rounded down, held at 0xFFFF_FFFF (R65, R97). -/
def State.layerTimeOf (s : State) (t : Int) : Nat :=
  if s.layer.saturated then 0xFFFFFFFF else ((t - s.tB).fdiv 1000).toNat.min 0xFFFFFFFF

/-- The present layer time (R97); 0 while it does not run. -/
def State.layerTime (s : State) : Nat := if s.layerRuns then s.layerTimeOf s.now else 0

/-! ## Geometry -/

/-- X0 of R51. -/
def State.bedX0 (s : State) : Int := s.int F.BEDMAP_ORIGIN_X_ORIGIN
/-- Y0 of R51. -/
def State.bedY0 (s : State) : Int := s.int F.BEDMAP_ORIGIN_Y_ORIGIN
/-- The side of a plot in nm. -/
def State.pitchNm (s : State) : Nat := s.get F.BEDMAP_PITCH_PITCH * 1000
/-- NX. -/
def State.nx (s : State) : Nat := s.get F.BEDMAP_GEOM_NX
/-- NY. -/
def State.ny (s : State) : Nat := s.get F.BEDMAP_GEOM_NY

/-- R52: the geometry is valid. -/
def State.geomValid (s : State) : Bool :=
  decide (1 ≤ s.nx ∧ s.nx ≤ 1024 ∧ 1 ≤ s.ny ∧ s.ny ≤ 1024 ∧ s.nx * s.ny ≤ 262144 ∧
    250 ≤ s.get F.BEDMAP_PITCH_PITCH ∧ s.get F.BEDMAP_PITCH_PITCH ≤ 8000 ∧
    s.bedX0 + (s.nx * s.pitchNm : Nat) - 1 ≤ 2 ^ 31 - 1 ∧ s.bedY0 + (s.ny * s.pitchNm : Nat) - 1 ≤ 2 ^ 31 - 1)

/-- The column of x (R51): a boundary belongs to the higher index. It may lie outside the map. -/
def State.plotX (s : State) (x : Int) : Int := fdiv (x - s.bedX0) s.pitchNm
/-- The row of y (R51). -/
def State.plotY (s : State) (y : Int) : Int := fdiv (y - s.bedY0) s.pitchNm

/-- Column and row lie on the map. -/
def State.onMap (s : State) (ix iy : Int) : Bool := decide (0 ≤ ix ∧ ix < s.nx ∧ 0 ≤ iy ∧ iy < s.ny)

/-- The entry index of the plot at (ix, iy) (R51). -/
def State.plotIdx (s : State) (ix iy : Int) : Nat := (iy * s.nx + ix).toNat

/-- R52: the box lies entirely within the map. -/
def State.boxOnMap (s : State) (b : Box) : Bool :=
  decide (s.bedX0 ≤ b.x0 ∧ b.x1 ≤ s.bedX0 + (s.nx * s.pitchNm : Nat) - 1 ∧
    s.bedY0 ≤ b.y0 ∧ b.y1 ≤ s.bedY0 + (s.ny * s.pitchNm : Nat) - 1)

/-- P of R267: the plots a box touches. -/
def State.plotsOf (s : State) (b : Box) : Rect := ⟨s.plotX b.x0, s.plotY b.y0, s.plotX b.x1, s.plotY b.y1⟩

/-- The indices of a rectangle's plots that lie on the map, row by row. -/
def State.idxs (s : State) (r : Rect) : List Nat :=
  let x0 := r.x0.toNat; let x1 := (min (r.x1 + 1) s.nx).toNat
  let y0 := r.y0.toNat; let y1 := (min (r.y1 + 1) s.ny).toNat
  (List.range (y1 - y0)).flatMap fun j => (List.range (x1 - x0)).map fun i => (y0 + j) * s.nx + (x0 + i)

/-! ## Plots -/

/-- What an entry with an uncorrectable error reads as: free values (R39; log entry 46). -/
def State.badPlot (s : State) (i : Nat) : Plot :=
  let v := Config.freeValue s.free (100 + i)
  let w := Config.freeValue (s.free + 1) (100 + i)
  ⟨v.setWidth 16, (v >>> 16).setWidth 32, (v >>> 48).setWidth 5, w.setWidth 8, w.getLsbD 8, w.getLsbD 9, w.getLsbD 10⟩

/-- The entry at an index (R39, R57, R58). -/
def State.plot (s : State) (i : Nat) : Plot :=
  if s.bed.bad.contains i then s.badPlot i else tabGet (fun _ => Plot.reset) s.bed.plots i

/-- s with an entry written whole: it has new check bits. -/
def State.setPlot (s : State) (i : Nat) (p : Plot) : State :=
  { s with bed := { s.bed with
      plots := tabSet (fun _ => Plot.reset) s.bed.plots i p, one := s.bed.one.filter (· ≠ i), bad := s.bed.bad.filter (· ≠ i) } }

/-- The entries whose index satisfies p are read: single-bit errors are corrected and counted (R38, R39). -/
def State.bedFix (s : State) (p : Nat → Bool) : State :=
  let l := s.bed.one.filter fun i => !p i
  { s with bed := { s.bed with one := l } }.noteFixes (s.bed.one.length - l.length)

/-- The entries of a rectangle of plots are read. -/
def State.bedFixRect (s : State) (r : Rect) : State :=
  s.bedFix fun i => decide (r.x0 ≤ (i % s.nx : Nat) ∧ ((i % s.nx : Nat) : Int) ≤ r.x1 ∧ r.y0 ≤ (i / s.nx : Nat) ∧ ((i / s.nx : Nat) : Int) ≤ r.y1)

/-- s with an entry changed by f. -/
def State.modPlot (s : State) (i : Nat) (f : Plot → Plot) : State := s.setPlot i (f (s.plot i))

/-- R60: e at layer time t, as it decays from tLast with the given half-life. -/
def decayed (half e tLast t : Nat) : Nat :=
  if half = 0 ∨ t ≤ tLast then e
  else
    let q := 256 * (t - tLast) / half
    if 16 ≤ q / 256 then 0 else cdivN (e * decayTable (q % 256)) (2 ^ (16 + q / 256))

/-- The half-life register (R63). -/
def State.halfLife (s : State) : Nat := s.get F.BEDMAP_HALF_LIFE_HALF_LIFE

/-- E of a plot decayed to layer time t (R62). -/
def State.eAt (s : State) (p : Plot) (t : Nat) : Nat := decayed s.halfLife p.e.toNat p.tLast.toNat t

/-- R61: an exposure of d units at output time te. -/
def State.expose (s : State) (i d te : Nat) : State :=
  (s.bedFix (· == i)).modPlot i fun p =>
    { p with e := BitVec.ofNat 16 ((s.eAt p te + d).min 0xFFFF), tLast := BitVec.ofNat 32 te, dirty := true }

/-- BUSY of BEDMAP_GEOM (R54). -/
def State.bedBusy (s : State) : Bool := s.flag F.BEDMAP_GEOM_BUSY

/-- Every entry at its reset contents (R56, R58); the fold has no previous T_B then (R89). -/
def State.clearBed (s : State) : State := { s with bed := { s.bed with plots := [], one := [], bad := [], prevTb := none } }

/-- The fold of one entry (R89): E decays from its T_LAST to dt, as R60 has it for the layer time dt. -/
def foldPlot (half mode dt : Nat) (p : Plot) : Plot :=
  { p with e := if mode = 1 then 0 else BitVec.ofNat 16 (decayed half p.e.toNat p.tLast.toNat dt), tLast := 0, dirty := false }

/-- R89: the fold of every entry, which reads it (R39). An entry at its reset contents folds to itself; one with an uncorrectable error
keeps it. -/
def State.foldBed (s : State) : State :=
  let s := s.bedFix fun _ => true
  let dt := match s.bed.prevTb with
    | none => 0
    | some t => (((s.tB : Int) - t).fdiv 1000).toNat.min 0xFFFFFFFF
  let f := foldPlot s.halfLife (s.get F.HOST_LAYER_MAP_FOLD_MODE) dt
  { s with bed := { s.bed with
      plots := (s.bed.plots.map fun (i, p) => (i, f p)).filter fun (_, p) => decide (p ≠ Plot.reset) } }

/-! ## Beam fields (R49, R50) -/

/-- The field of a beam, both edges included. -/
def State.field (s : State) (b : Sys2Proof.Beam) : Box :=
  ⟨s.int ⟨0xF0020040 + 0x1000 * b.val, 31, 0⟩, s.int ⟨0xF0020044 + 0x1000 * b.val, 31, 0⟩,
   s.int ⟨0xF0020048 + 0x1000 * b.val, 31, 0⟩, s.int ⟨0xF002004C + 0x1000 * b.val, 31, 0⟩⟩

/-- Box a lies within box b. -/
def Box.inside (a b : Box) : Bool := decide (b.x0 ≤ a.x0 ∧ a.x1 ≤ b.x1 ∧ b.y0 ≤ a.y0 ∧ a.y1 ≤ b.y1)

/-- The box is empty (R205). -/
def Box.empty (a : Box) : Bool := decide (a.x1 < a.x0 ∨ a.y1 < a.y0)

/-- Two rectangles share a plot. -/
def Rect.meets (a b : Rect) : Bool := decide (a.x0 ≤ b.x1 ∧ b.x0 ≤ a.x1 ∧ a.y0 ≤ b.y1 ∧ b.y0 ≤ a.y1)

/-- A plot lies in a rectangle. -/
def Rect.holds (a : Rect) (ix iy : Int) : Bool := decide (a.x0 ≤ ix ∧ ix ≤ a.x1 ∧ a.y0 ≤ iy ∧ iy ≤ a.y1)

end Sys2Proof.Machine
end

