-- ==== Sys2Proof/Machine/Ring.lean ====
section
/-! DEFINITION. Rings, descriptors, swath headers, sheaves and the done map (02_bed_and_swaths.md R67-R85). -/

namespace Sys2Proof.Machine

/-! ## Ring indices (R76) -/

/-- k of ring n. -/
def State.ringK (s : State) (n : Nat) : Nat := s.get (F.HOST_RING_CFG_SIZE_LOG2 n)
/-- v_HEAD. -/
def State.vHead (s : State) (n : Nat) : Nat :=
  s.get (F.HOST_RING_HEAD_WRAP n) * 2 ^ s.ringK n + s.get (F.HOST_RING_HEAD_SLOT n)
/-- v_TAIL. -/
def State.vTail (s : State) (n : Nat) : Nat :=
  s.get (F.HOST_RING_TAIL_WRAP n) * 2 ^ s.ringK n + s.get (F.HOST_RING_TAIL_SLOT n)
/-- ENABLE of ring n. -/
def State.ringOn (s : State) (n : Nat) : Bool := s.flag (F.HOST_RING_CFG_ENABLE n)
/-- The descriptors between HEAD and TAIL (R76). -/
def State.ringSpan (s : State) (n : Nat) : Nat := wrap (s.ringK n + 1) ((s.vTail n : Int) - s.vHead n)
/-- Descriptors held; a disabled ring counts as empty (R76, R85). -/
def State.ringCount (s : State) (n : Nat) : Nat := if s.ringOn n then s.ringSpan n else 0
/-- s with HEAD of ring n at combined index v. -/
def State.setHead (s : State) (n v : Nat) : State :=
  (s.put (F.HOST_RING_HEAD_SLOT n) (v % 2 ^ s.ringK n)).put (F.HOST_RING_HEAD_WRAP n) (v / 2 ^ s.ringK n)
/-- s with TAIL of ring n at combined index v. -/
def State.setTail (s : State) (n v : Nat) : State :=
  (s.put (F.HOST_RING_TAIL_SLOT n) (v % 2 ^ s.ringK n)).put (F.HOST_RING_TAIL_WRAP n) (v / 2 ^ s.ringK n)
/-- v and one more, modulo 2^(k+1). -/
def State.ringNext (s : State) (n v : Nat) : Nat := (v + 1) % 2 ^ (s.ringK n + 1)
/-- The Silo offset of slot i of ring n (R79, R85). -/
def State.slotAddr (s : State) (n i : Nat) : Nat := s.get (F.HOST_RING_BASE_BASE n) * 32 + 32 * i
/-- The slots held, from HEAD on, in ring order. -/
def State.heldSlots (s : State) (n : Nat) : List Nat :=
  (List.range (s.ringCount n)).map fun i => (s.vHead n + i) % 2 ^ s.ringK n
/-- Ring n is a beam ring or a glean ring. -/
def isWorkRing (n : Nat) : Bool := decide (32 ≤ n ∧ n < 52)
/-- A ring of a closed layer (R78, R87): a beam or glean ring while CLOSED is 1. -/
def State.ringClosed (s : State) (n : Nat) : Bool := isWorkRing n && s.flag F.HOST_LAYER_STATE_CLOSED

/-! ## Descriptors (R79, R80) -/

abbrev dQUEUED : Nat := 0
abbrev dCLAIMED : Nat := 1
abbrev dDONE : Nat := 2
abbrev dBAD_HEADER : Nat := 3
abbrev dDUPLICATE : Nat := 4
abbrev dFAILED : Nat := 5
abbrev dORPHANED : Nat := 6
abbrev dMOVED : Nat := 7
abbrev dCANCELLED : Nat := 8

/-- PTR of the descriptor at offset a. -/
def State.dPtr (s : State) (a : Nat) : Nat := s.silo32 a
/-- SWATH_ID of the descriptor at offset a. -/
def State.dId (s : State) (a : Nat) : Nat := s.silo32 (a + 4) % 2 ^ 22
/-- STATUS. -/
def State.dStatus (s : State) (a : Nat) : Nat := s.silo32 (a + 8) % 16
/-- TRIES. -/
def State.dTries (s : State) (a : Nat) : Nat := s.silo32 (a + 8) / 256 % 4
/-- s with STATUS, BEAM and TRIES written. -/
def State.setDesc (s : State) (a status beam tries : Nat) : State :=
  s.setSilo32 (a + 8) (status % 16 + beam % 16 * 16 + tries % 4 * 256)
/-- s with STATUS written, BEAM and TRIES kept. -/
def State.setStatus (s : State) (a status : Nat) : State :=
  s.setDesc a status (s.silo32 (a + 8) / 16 % 16) (s.dTries a)

/-- HEAD moves past final descriptors (R82): at most m of them. -/
def State.passFinal (s : State) (n : Nat) : Nat → State
  | 0 => s
  | m + 1 =>
    if s.ringSpan n ≠ 0 ∧ 2 ≤ s.dStatus (s.slotAddr n (s.get (F.HOST_RING_HEAD_SLOT n))) then
      (s.setHead n (s.ringNext n (s.vHead n))).passFinal n m
    else s

/-! ## Sheaves and the done map (R70, R71, R74) -/

/-- MAP_BASE (R92). -/
def State.mapBase (s : State) : Nat := s.get F.HOST_LAYER_MAP_MAP_BASE * 4096
/-- The layer map of R70 lies wholly within the Silo. -/
def State.mapInSilo (s : State) : Bool := decide (s.mapBase + 532480 ≤ siloSize)
/-- The done bit of a swath ID. -/
def State.doneBit (s : State) (id : Nat) : Bool := (s.silo.byte (s.mapBase + id / 8)).toNat.testBit (id % 8)
/-- Offset of the sheaf table entry of a sheaf. -/
def State.sheafAddr (s : State) (sheaf : Nat) : Nat := s.mapBase + 0x80000 + 8 * sheaf
/-- COUNT of a sheaf. -/
def State.sheafCount (s : State) (h : Nat) : Nat := s.silo.read (s.sheafAddr h) 2
/-- DONE of a sheaf. -/
def State.sheafDone (s : State) (h : Nat) : Nat := s.silo.read (s.sheafAddr h + 2) 2
/-- s with DONE of a sheaf one higher. -/
def State.incSheafDone (s : State) (h : Nat) : State :=
  { s with silo := s.silo.write (s.sheafAddr h + 2) 2 (s.sheafDone h + 1) }
/-- s with FAILED of a sheaf one higher. -/
def State.incSheafFailed (s : State) (h : Nat) : State :=
  { s with silo := s.silo.write (s.sheafAddr h + 4) 2 (s.silo.read (s.sheafAddr h + 4) 2 + 1) }
/-- R74: the done bit of an ID set, DONE counted only when it changes. -/
def State.setDone (s : State) (id : Nat) : State :=
  if s.doneBit id then s
  else
    let a := s.mapBase + id / 8
    ({ s with silo := s.silo.setByte a (s.silo.byte a ||| BitVec.ofNat 8 (2 ^ (id % 8))) }).incSheafDone (id / 4096)

/-- A dependency is satisfied (R73). -/
def State.depMet (s : State) : Option (BitVec 22) → Bool
  | none => true
  | some d =>
    if d.toNat % 4096 = 0xFFF then s.sheafDone (d.toNat / 4096) == s.sheafCount (d.toNat / 4096)
    else s.doneBit d.toNat

/-! ## Headers (R67, R68) -/

/-- A dependency word (R67). -/
def depOf (w : Nat) : Option (BitVec 22) := if w / 2 ^ 31 = 1 then some (BitVec.ofNat 22 w) else none

/-- The header at Silo offset p as R67 lays it out. -/
def State.hdrAt (s : State) (p : Nat) : Hdr :=
  let w := fun o => s.silo32 (p + o)
  { cls := w 0 / 16 % 4, pset := w 0 / 256 % 256, affinity := BitVec.ofNat 16 (w 0 / 65536),
    id := BitVec.ofNat 22 (w 4), noRestart := (w 4).testBit 24, dep0 := depOf (w 8), dep1 := depOf (w 12),
    box := ⟨sgn 32 (w 0x10), sgn 32 (w 0x14), sgn 32 (w 0x18), sgn 32 (w 0x1C)⟩,
    progOfs := w 0x20, progLen := w 0x24, safeOfs := w 0x28, safeCount := w 0x2C % 65536,
    replay := if w 0x30 / 2 ^ 31 = 1 then some (BitVec.ofNat 24 (w 0x30), w 0x30 / 2 ^ 24 % 16) else none }

/-- The header can be read (first check of R69). -/
def State.hdrReadable (s : State) (p : Nat) : Bool :=
  decide (p % 64 = 0 ∧ p + 64 ≤ siloSize) && !s.silo.badIn p 64

/-- HCRC is correct (R68). -/
def State.hdrCrcOk (s : State) (p : Nat) : Bool := crc32 (s.silo.bytes p 60) == BitVec.ofNat 32 (s.silo32 (p + 0x3C))

/-- VER and every RSVD field as R69 asks. -/
def State.hdrRsvdOk (s : State) (p : Nat) : Bool :=
  let w := fun o => s.silo32 (p + o)
  decide (w 0 % 16 = 1 ∧ w 0 / 64 % 4 = 0 ∧ w 4 / 2 ^ 22 % 4 = 0 ∧ w 4 / 2 ^ 25 = 0 ∧ w 8 / 2 ^ 22 % 512 = 0 ∧
    w 12 / 2 ^ 22 % 512 = 0 ∧ w 0x2C / 65536 = 0 ∧ w 0x30 / 2 ^ 28 % 8 = 0 ∧ w 0x34 = 0 ∧ w 0x38 = 0)

/-- The checks of R69 but the last, for a claim by beam b of a descriptor at a on ring n. -/
def State.hdrOk (s : State) (b : Sys2Proof.Beam) (n a : Nat) : Bool :=
  let p := s.dPtr a
  s.hdrReadable p && s.hdrCrcOk p && s.hdrRsvdOk p &&
    (let h := s.hdrAt p
     decide (h.id.toNat = s.dId a) && decide (h.affinity ≠ 0) &&
     (decide (48 ≤ n) || h.affinity.getLsbD b.val) &&
     !h.box.empty && h.box.inside (s.field b) &&
     decide (h.progOfs % 4 = 0 ∧ h.safeOfs % 4 = 0 ∧ 1 ≤ h.progLen ∧ h.progLen ≤ 65536 ∧
       h.progOfs + 4 * h.progLen ≤ siloSize ∧ h.safeOfs + 4 * h.safeCount ≤ siloSize ∧
       h.dep0 ≠ some h.id ∧ h.dep1 ≠ some h.id ∧ h.id.toNat / 4096 < 1024))

/-- The header's own checks of R69 that name no beam: those that decide whether a descriptor is judged by its
conditions at all (R48). -/
def State.hdrSound (s : State) (p : Nat) (id : Nat) : Bool :=
  s.hdrReadable p && s.hdrCrcOk p && s.hdrRsvdOk p &&
    (let h := s.hdrAt p
     decide (h.id.toNat = id) && decide (h.affinity ≠ 0) && !h.box.empty &&
     decide (h.progOfs % 4 = 0 ∧ h.safeOfs % 4 = 0 ∧ 1 ≤ h.progLen ∧ h.progLen ≤ 65536 ∧
       h.progOfs + 4 * h.progLen ≤ siloSize ∧ h.safeOfs + 4 * h.safeCount ≤ siloSize ∧
       h.dep0 ≠ some h.id ∧ h.dep1 ≠ some h.id ∧ h.id.toNat / 4096 < 1024))

/-! ## Usable beams, orphans, final statuses -/

/-- Personality: 0 native, 1 XK, 2 mixed (R617). -/
def State.pers (s : State) : Nat := s.get F.XK_CFG_PERS

/-- Channel h = b of the XK interpreter drives head and laser b (R611). -/
def State.xkOwns (s : State) (b : Sys2Proof.Beam) : Bool := s.pers != 0 && decide (b.val < 4)

/-- Beam b is usable (R84, R296). -/
def State.usable (s : State) (b : Sys2Proof.Beam) : Bool :=
  !(s.get F.ARB_RETIRED_RETIRED).testBit b.val && !s.arb.beams[b].retireEnded &&
    !(decide (b.val < 4) && s.pers != 0) && s.pers != 1

/-- GLEAN_MASK of beam b includes GL n. -/
def State.gleans (s : State) (b : Sys2Proof.Beam) (n : Nat) : Bool :=
  (s.get (F.ARB_BEAM_CFG_GLEAN_MASK b.val)).testBit n

/-- Some usable beam can run the descriptor at a, on glean ring GL g (R48, R84). -/
def State.canRun (s : State) (g a : Nat) : Bool :=
  let p := s.dPtr a
  if s.hdrSound p (s.dId a) then
    let h := s.hdrAt p
    allBeams.any fun b => s.usable b && h.affinity.getLsbD b.val && h.box.inside (s.field b)
  else allBeams.any fun b => s.usable b && s.gleans b g

/-- RETIRED_COVER on the plots of a header's box (R295), clipped to the map. -/
def State.coverBox (s : State) (h : Hdr) : State :=
  let r := s.plotsOf h.box
  forEach (s.idxs ⟨max 0 r.x0, max 0 r.y0, r.x1, r.y1⟩) s fun s i => s.modPlot i fun p => { p with retiredCover := true }

/-- T_DONE of the descriptor at a is the present time. -/
def State.stampDone (s : State) (a : Nat) : State := { s with silo := s.silo.write (a + 0x18) 8 s.now }

/-- The descriptor at a becomes ORPHANED (R295, R71). -/
def State.orphan (s : State) (a : Nat) : State :=
  let id := s.dId a
  let p := s.dPtr a
  let s := ((s.setStatus a dORPHANED).stampDone a).incSheafFailed (id / 4096)
  let s := if s.hdrReadable p && s.hdrCrcOk p then s.coverBox (s.hdrAt p) else s
  s.raise 216 id

/-- A descriptor of ring n reaches a final status (R80-R82, R71): status and T_DONE, FAILED of its sheaf where R71
counts it, and HEAD past final slots. -/
def State.finish (s : State) (n slot status : Nat) : State :=
  let a := s.slotAddr n slot
  let s := (s.setStatus a status).stampDone a
  let s := if decide (status = dBAD_HEADER ∨ status = dDUPLICATE ∨ status = dFAILED) then
    s.incSheafFailed (s.dId a / 4096) else s
  s.passFinal n (s.ringSpan n)

/-- R81: the swath-done event of beam b for the descriptor at a. -/
def State.swathDone (s : State) (b : Sys2Proof.Beam) (a : Nat) : State :=
  s.raise (16 + b.val) (s.dStatus a + s.dTries a * 16 + s.dId a * 1024)

/-- Free beams look again (R282). -/
def State.searchAgain (s : State) : State := forEach allBeams s fun s b => s.modArb b fun x => { x with searchOwed := true }

/-- The descriptor in a slot just passed by TAIL (R84, R284): ORPHANED where no usable beam can run it. -/
def State.tailPassed (s : State) (n slot : Nat) : State :=
  let a := s.slotAddr n slot
  if 48 ≤ n then
    if s.get F.ARB_CTRL_MODE = 0 ∨ s.canRun (n - 48) a = false then s.orphan a else s
  else if h : 32 ≤ n ∧ n < 48 then
    if s.usable ⟨n - 32, by omega⟩ then s else s.orphan a
  else s

/-- TAIL of ring n advances by m slots: each is stamped in the order it passed (R281) and looked at (R84). -/
def State.advanceTail (s : State) (n : Nat) : Nat → State
  | 0 => s
  | m + 1 =>
    let v := s.vTail n
    let slot := v % 2 ^ s.ringK n
    let s := s.setTail n (s.ringNext n v)
    let s := { s with arb := { s.arb with
      tailSeq := s.arb.tailSeq + 1
      stamps := (n, slot, s.arb.tailSeq) :: s.arb.stamps.filter fun x => !(decide (x.1 = n ∧ x.2.1 = slot)) } }
    let s := if isWorkRing n then (s.tailPassed n slot).passFinal n (s.ringSpan n) else s
    s.advanceTail n m

/-- R78: a TAIL write of SLOT and WRAP on ring n, the layer of whose ring is open. -/
def State.tailWrite (s : State) (n slot wr : Nat) : State :=
  let k := s.ringK n
  let v := wr * 2 ^ k + slot
  let step := wrap (k + 1) ((v : Int) - s.vTail n)
  let cnt := wrap (k + 1) ((v : Int) - s.vHead n)
  if decide (slot < 2 ^ k ∧ cnt ≤ 2 ^ k ∧ step ≤ 2 ^ k) && !s.ringClosed n then
    let s := s.advanceTail n step
    if 48 ≤ n ∧ step ≠ 0 then s.searchAgain else s
  else s.setFlag (F.HOST_RING_TAIL_OVF n) true

end Sys2Proof.Machine
end

