-- ==== Sys2Proof/Machine/Path.lean ====
section
/-! DEFINITION. The geometry of a beam's path (06_trajectory_heads.md R227, R228; 05_beam_instructions.md R203,
R208, R214). Points are in units of 2^-20 nm, times in units of 125 ps (log entry 8). -/

namespace Sys2Proof.Machine

/-- One nm in path units. -/
abbrev fxOne : Int := 1048576

/-- A point of the path as three numerators over a common denominator, in path units. -/
structure Pt where
  x : Int
  y : Int
  z : Int
  den : Nat
  deriving DecidableEq, Repr

/-- The point in whole path units, rounded down. -/
def Pt.fx (p : Pt) : Int × Int × Int := (fdiv p.x p.den, fdiv p.y p.den, fdiv p.z p.den)

/-- The end point of (x, y) turned about (cx, cy) by num/den of a turn, in path units (R203). -/
def turn (x y cx cy num : Int) (den : Nat) : Int × Int :=
  let sc := sinCos num den
  let dx := x - cx
  let dy := y - cy
  (cx + rdivAway (dx * sc.2 - dy * sc.1) (2 ^ 64), cy + rdivAway (dx * sc.1 + dy * sc.2) (2 ^ 64))

/-- Where piece g is at time t, limited to its ends (R228): constant speed from start to end. -/
def Seg.posAt (g : Seg) (t : Int) : Pt :=
  let len := (g.t1 - g.t0).toNat
  let u := (clampI g.t0 g.t1 t - g.t0)
  if len = 0 then ⟨g.x1, g.y1, g.z1, 1⟩
  else match g.arc with
    | none => ⟨g.x0 * len + (g.x1 - g.x0) * u, g.y0 * len + (g.y1 - g.y0) * u, g.z0 * len + (g.z1 - g.z0) * u, len⟩
    | some (cx, cy, sweep) =>
      let sc := sinCos (sweep * u) (2 ^ 32 * len)
      let dx := g.x0 - cx
      let dy := g.y0 - cy
      ⟨cx * 2 ^ 64 + dx * sc.2 - dy * sc.1, cy * 2 ^ 64 + dx * sc.1 + dy * sc.2, g.z0 * 2 ^ 64, 2 ^ 64⟩

/-- The length of a piece in path units, rounded down. -/
def Seg.length (g : Seg) : Nat :=
  match g.arc with
  | none =>
    let dx := (g.x1 - g.x0).natAbs; let dy := (g.y1 - g.y0).natAbs; let dz := (g.z1 - g.z0).natAbs
    isqrt (dx * dx + dy * dy + dz * dz)
  | some (cx, cy, sweep) =>
    let dx := (g.x0 - cx).natAbs; let dy := (g.y0 - cy).natAbs
    isqrt ((dx * dx + dy * dy) * 2 ^ 64) * twoPiFx * sweep.natAbs / 2 ^ 128

/-- The length travelled on a piece between two instants, in path units. -/
def Seg.lengthIn (g : Seg) (a b : Int) : Nat :=
  let a := clampI g.t0 g.t1 a
  let b := clampI g.t0 g.t1 b
  if g.t1 ≤ g.t0 ∨ b ≤ a then 0 else (g.length * (b - a).toNat) / (g.t1 - g.t0).toNat

/-- The length of path between two instants in nm, rounded down (R214). -/
def pathLength (path : List Seg) (a b : Int) : Nat :=
  (path.foldl (fun n g => n + g.lengthIn a b) 0) / 1048576

/-- Speed constant: one unit of 125 ps at 1 mm/s (16.16) is 1 / (8,000 × 65,536) nm. -/
abbrev speedK : Nat := 8000 * 65536

/-- R228: the duration of a straight motion over (dx, dy, dz) path units at a 16.16 speed, in units of 125 ps,
rounded up. -/
def lineTime (dx dy dz : Int) (speed : Nat) : Nat :=
  if speed = 0 then 0
  else cdivN (isqrtUp (speedK * speedK * (dx.natAbs * dx.natAbs + dy.natAbs * dy.natAbs + dz.natAbs * dz.natAbs)))
    (speed * 1048576)

/-- R228: the duration of an arc of squared radius r2 (path units) and sweep, rounded up. -/
def arcTime (r2 : Nat) (sweep : Int) (speed : Nat) : Nat :=
  if speed = 0 then 0
  else cdivN (isqrtUp (r2 * 2 ^ 64) * twoPiFx * sweep.natAbs * speedK) (2 ^ 128 * speed * 1048576)

/-- The piece of path that holds instant t: its time range includes t. -/
def segAt (path : List Seg) (t : Int) : Option Seg := path.find? fun g => decide (g.t0 ≤ t ∧ t < g.t1)

/-- The commanded position at t (R227): on the piece that holds t, else at the end of the latest piece before t, else at the
start of the first piece; without a piece at the head's position. -/
def Traj.posAt (j : Traj) (t : Int) : Pt :=
  match segAt j.path t with
  | some g => g.posAt t
  | none =>
    match (j.path.filter fun g => decide (g.t1 ≤ t)).getLast?, j.path with
    | some g, _ => ⟨g.x1, g.y1, g.z1, 1⟩
    | none, g :: _ => ⟨g.x0, g.y0, g.z0, 1⟩
    | none, [] => ⟨j.hx, j.hy, j.hz, 1⟩

/-- Two points in whole path units, as their distance. -/
def Pt.dist (p q : Pt) : Nat :=
  let a := p.fx; let b := q.fx
  let dx := (a.1 - b.1).natAbs; let dy := (a.2.1 - b.2.1).natAbs; let dz := (a.2.2 - b.2.2).natAbs
  isqrt (dx * dx + dy * dy + dz * dz)

/-- The length of laser-on path from a to t in nm, rounded down, the position at t interpolated linearly between the set-points
about it, sp apart (R214). Only the set-points of the element that holds t count (log entry 8): on a straight element that is
its path itself, on an arc the chord. -/
def markLength (path : List Seg) (sp a t : Int) : Nat :=
  match path.find? fun g => decide (g.t0 < t ∧ t ≤ g.t1) with
  | some g =>
    if g.arc.isSome ∧ 0 < sp then
      let k := max g.t0 (t.fdiv sp * sp)
      let n := min g.t1 ((t.fdiv sp + 1) * sp)
      let from_ := max a k
      let chord := if n ≤ k ∨ t ≤ from_ then 0 else (g.posAt n).dist (g.posAt k) * (t - from_).toNat / (n - k).toNat
      (path.foldl (fun m g => m + g.lengthIn a from_) chord) / 1048576
    else pathLength path a t
  | none => pathLength path a t

/-- The settings in force at instant t: of the element whose output time contains t, else of the latest that ended
before t (R231, R249). -/
def setAt (path : List Seg) (t : Int) : Option Settings :=
  match segAt path t with
  | some g => some g.set
  | none => ((path.filter fun g => decide (g.t1 ≤ t)).getLast?).map (·.set)

/-- The path with everything after instant t cut away (R26). -/
def cutPath (path : List Seg) (t : Int) : List Seg :=
  path.filterMap fun g =>
    if g.t1 ≤ t then some g
    else if t ≤ g.t0 then none
    else
      let p := (g.posAt t).fx
      match g.arc with
      | none => some { g with t1 := t, x1 := p.1, y1 := p.2.1, z1 := p.2.2 }
      | some (cx, cy, sweep) =>
        some { g with t1 := t, x1 := p.1, y1 := p.2.1, arc := some (cx, cy, (sweep * (t - g.t0)).tdiv (g.t1 - g.t0)) }

end Sys2Proof.Machine
end

