-- ==== Sys2Proof/Machine/Stop.lean ====
section
/-! DEFINITION. Stopping a beam, what becomes of its swaths, and retirement (01 R26; 05 R210, R215-R217;
07 R276-R280, R293-R295). -/

namespace Sys2Proof.Machine

/-- The cells of beam b (R17). -/
def cellGate (b : Sys2Proof.Beam) : Cell := ⟨4 * b.val, by omega⟩
def cellMod (b : Sys2Proof.Beam) : Cell := ⟨4 * b.val + 1, by omega⟩
def cellSync (b : Sys2Proof.Beam) : Cell := ⟨4 * b.val + 2, by omega⟩
def cellAlarm (b : Sys2Proof.Beam) : Cell := ⟨4 * b.val + 3, by omega⟩
/-- The beam a laser cell serves. -/
def beamOf (c : Cell) : Sys2Proof.Beam := ⟨c.val / 4 % 16, by omega⟩

/-- Field ACTIVE of an engine's ECAUSE (R181). -/
def Engine.active (x : Engine) : Bool := x.ecause.getLsbD 4

/-- f applied to the swath of beam b with the given ID. -/
def State.modSwath (s : State) (b : Sys2Proof.Beam) (id : BitVec 22) (f : Swath → Swath) : State :=
  s.modBeam b fun x => { x with swaths := x.swaths.map fun w => if w.hdr.id = id then f w else w }

/-- The present swath of a beam: the oldest whose program has not ended (R217, R223). -/
def Beam.present (x : Beam) : Option Swath := x.swaths.find? fun w => w.ended.isNone

/-- SP_T of beam b in units of 125 ps (R227). -/
def State.spEt (s : State) (b : Sys2Proof.Beam) : Int := 4000 * 2 ^ s.get (F.BEAM_HEAD_CFG_SP_DIV_EFF b.val)

/-- R214: a gate-high interval of beam b ends at t: the laser-on path delivered is added to the swath's MARK_DONE. -/
def State.addMark (s : State) (b : Sys2Proof.Beam) (rise t : Int) : State :=
  let j := s.beam[b].traj
  let n := markLength j.path (s.spEt b) (max rise j.mdFrom) t
  match segAt j.path rise with
  | some g => s.modSwath b g.swath fun w => { w with markDone := (w.markDone + n).min 0xFFFFFFFF }
  | none => s

/-- The gate of beam b goes high at t. -/
def State.gateRise (s : State) (b : Sys2Proof.Beam) (t : Int) : State :=
  if s.cells[cellGate b].level then s
  else (s.modCell (cellGate b) fun c => { c with level := true }).modTraj b
    fun j => if s.xkOwns b then j
      else { j with gateHist := j.gateHist ++ [(t, none)], expoFrom := if j.gateHist.isEmpty then t else j.expoFrom }

/-- The gate of beam b goes low at t: its MARK_DONE is brought up (R214). -/
def State.gateFall (s : State) (b : Sys2Proof.Beam) (t : Int) : State :=
  if s.cells[cellGate b].level then
    let rise := ((s.beam[b].traj.gateHist.getLast?).map (·.1)).getD t
    ((s.addMark b rise t).modCell (cellGate b) fun c => { c with level := false }).modTraj b fun j =>
      { j with gateHist := j.gateHist.map fun (r, f) => if f.isNone then (r, some t) else (r, f) }
  else s

/-- A waiting engine's instruction completes: the flags change, the program counter passes it (R170, R171). -/
def Engine.complete (x : Engine) (f : Engine → Engine) : Engine :=
  let y := f { x with wait := none }
  { y with pc := x.pc + 4 }

/-- The lease of beam b in the program's view, given up at this instant: its entry now waits for its release
(R24, R206). `off` is the instant its last laser-off edge is bound to when the beam is stopped. -/
def State.giveUpLease (s : State) (b : Sys2Proof.Beam) (off : Option Int) : State :=
  let s := s.modBeam b fun x => { x with lease := none }
  s.modArb b fun a => match a.cur with
    | none => a
    | some l => { a with cur := none, old := a.old ++ [{ l with
        releasedAt := some s.now, lastOff := match off with | some t => some t | none => l.lastOff }] }

/-- R210: barrier n breaks; every beam that waits there, the one that withdraws among them, completes SYNC with V = 1 and sets
BROKEN. -/
def State.breakBarrier (s : State) (n : Fin 8) : State :=
  let ws := s.arb.barriers[n]
  let s := { s with arb := { s.arb with barriers := s.arb.barriers.set n [] } }
  forEach ws s fun s w =>
    let f := F.BEAM_SYNC_BROKEN w.beam.val
    (s.put f (s.get f ||| 2 ^ n.val)).modEng (engOf w.beam) fun x =>
      x.complete fun x => { x with flags := { x.flags with v := true } }

/-- R210: beam b withdraws from the barrier it waits at. -/
def State.withdraw (s : State) (b : Sys2Proof.Beam) : State :=
  match s.eng[engOf b].wait with
  | some (.barrier n) => s.breakBarrier n
  | _ => s

/-- The edge is a rise. -/
def Edge.rises (x : Edge) : Bool := match x.what with
  | .level v => v
  | .train _ _ => true
  | .off => false

/-- A rise of cell c is queued or on its way. -/
def State.riseWaits (s : State) (c : Cell) : Bool :=
  s.cells[c].q.any (fun x => x.rises) || s.transit.any fun x => decide (x.1 = c) && x.2.rises

/-- Cell c keeps the edges that are due by `lim`; behind a rise among them it goes to its idle level at `lim`, which is never
late (R26, R115). -/
def State.stopCell (s : State) (c : Cell) (lim : Int) (what : EdgeWhat) : State :=
  let keep := fun (e : Edge) => decide (e.et ≤ lim)
  let s := { s with transit := s.transit.filter fun x => decide (x.1 ≠ c) || keep x.2 }.modCell c fun y => { y with q := y.q.filter keep }
  if s.riseWaits c then { s with transit := s.transit ++ [(c, ⟨lim, what, none, true⟩)] } else s

/-- R26, R115: the stop reaches the cells of beam b now. Queued GATE and MOD events due more than 1 µs later are
discarded, the gate and MOD go low; a rise still due within that 1 µs is followed by a fall at its end. -/
def State.stopCells (s : State) (b : Sys2Proof.Beam) : State :=
  let t := s.nowEt
  let lim := t + 8000
  let s := s.gateFall b t
  let s := (s.stopCell (cellGate b) lim (.level false)).stopCell (cellMod b) lim .off
  let s := s.modCell (cellMod b) fun c => { c with level := false, train := none }
  let last := if s.riseWaits (cellGate b) then lim else t
  s.modTraj b fun j =>
    let p := (j.posAt t).fx
    { j with
      path := cutPath j.path t
      hx := p.1, hy := p.2.1, hz := p.2.2
      stream := t, seq := none, handed := false, stopAt := some s.now, queue := [], lastGate := some last
      pend := j.pend.filter fun x => decide (x.1 ≠ cellGate b ∧ x.1 ≠ cellMod b)
      settles := j.settles.filter fun x => decide (x ≤ t)
      modOn := (0, 0) }

/-- The tentative request of beam b ends without a grant: what its peers still answer finds it over (R287). -/
def State.dropTent (s : State) (b : Sys2Proof.Beam) : State :=
  match s.arb.beams[b].tent with
  | none => s
  | some t =>
    let s := s.modArb b fun a => { a with tent := none }
    { s with arb := { s.arb with
        dropped := s.arb.dropped ++ (t.asked.filter fun p => !t.granted.contains p).map fun p => (t.reqId, b, p) } }

/-- R26 with what every stop brings about: leases given up, whose light ends with the stop (R24), the barrier left (R210), pending
shadows discarded (R213), the present position the head's. -/
def State.stopBeam (s : State) (b : Sys2Proof.Beam) : State :=
  let s := (s.stopCells b).withdraw b
  let lim := s.nowEt + 8000
  let s := (s.giveUpLease b (some lim)).dropTent b
  let s := s.modArb b fun a => { a with req := none, old := a.old.map fun l =>
    { l with lit := false, lastOff := some (match l.lastOff with | some t => min t lim | none => lim) } }
  s.modBeam b fun x => { x with swaths := x.swaths.map fun w => { w with pending := [] } }

/-- Some lease ended or some reservation or remote entry lapsed (R274, R282): waiting requests may be repeated. -/
def State.unblock (s : State) : State :=
  forEach allBeams s fun s b => s.modArb b fun a =>
    { a with searchOwed := true, req := a.req.map fun r =>
        if r.waiting && decide (r.retry = 0xFFFFFFFE#32) && r.unblocked.isNone then { r with unblocked := some s.now } else r }

/-- A swath of beam b ends (R276): denials, age and reservation end with it. -/
def State.swathOver (s : State) (b : Sys2Proof.Beam) : State :=
  let had := s.arb.beams[b].reserve.isSome
  let s := (s.put (F.ARB_BEAM_STAT_DENY_RUN b.val) 0).modArb b fun a => { a with agedAt := none, reserve := none }
  if had then s.unblock else s

/-- Swath w of beam b ends with a final status, and its event is raised (R80-R82, R215). -/
def State.endSwath (s : State) (b : Sys2Proof.Beam) (w : Swath) (status : Nat) : State :=
  let s := s.finish w.ring.val w.slot status
  let s := s.swathDone b (s.slotAddr w.ring.val w.slot)
  (s.modBeam b fun x => { x with swaths := x.swaths.filter fun v => v.hdr.id != w.hdr.id }).swathOver b

/-- R216: the swath may be restarted. -/
def Swath.canRestart (w : Swath) : Bool := !w.hdr.noRestart && decide (w.tries < 3 ∧ w.markDone < 0xFFFFFFFF)

/-- The swath after a stop that restarts it (R215-R217). -/
def Swath.toRestart (w : Swath) (st : SwState) (try_ : Bool) : Swath :=
  { w with state := st, ended := none, lastOff := none, motionEnd := none, countsTry := w.countsTry || try_, suppressed := 0 }

/-- The instant at which an ended swath is done (R74, R25). -/
def Swath.doneAt (w : Swath) : Option Int :=
  match w.ended with
  | none => none
  | some t => some (match w.lastOff with
    | some x => x
    | none => max (8 * (t : Int)) (w.motionEnd.getD 0))

/-- The output of an ended swath is complete: no stop cuts it (R74). -/
def State.outputOver (s : State) (w : Swath) : Bool := match w.doneAt with
  | some t => s.reachedEt t
  | none => false

/-- The beam an engine belongs to, if it is a beam engine. -/
def beamOfEng (e : Eng) : Option Sys2Proof.Beam := if h : e.val < 16 then some ⟨e.val, h⟩ else none

/-! ## The watchdog (R186) -/

/-- The watchdog of engine e may count now (R186). -/
def State.wdogCounts (s : State) (e : Eng) : Bool :=
  decide (e.val < 20) && s.flag (F.SYS_ENG_CTRL_RUN e.val) && !s.flag (F.SYS_ENG_CTRL_HALTED e.val) &&
    s.get (F.SYS_ENG_WDOG_TIMEOUT e.val) != 0 &&
    !(match beamOfEng e with | some b => s.beam[b].disp | none => false)

/-- The watchdog's count is brought up to now, and it counts on from now only while R186 lets it. -/
def State.wdogSync (s : State) (e : Eng) : State :=
  s.modEng e fun x =>
    let acc := match x.wdogFrom with
      | some t => x.wdogAcc + (s.now - t)
      | none => x.wdogAcc
    { x with wdogAcc := acc, wdogFrom := if s.wdogCounts e then some s.now else none }

/-- The watchdog is reloaded. -/
def State.wdogReload (s : State) (e : Eng) : State :=
  s.modEng e fun x => { x with wdogAcc := 0, wdogFrom := if s.wdogCounts e then some s.now else none }

/-- The ns the watchdog has run. -/
def State.wdogRun (s : State) (e : Eng) : Nat :=
  match s.eng[e].wdogFrom with
  | some t => s.eng[e].wdogAcc + (s.now - t)
  | none => s.eng[e].wdogAcc

/-! ## Outcomes (R215-R217, R253) -/

/-- What a stop does with one swath of beam b: `why` for the one that caused it, a restart without a try for the others (R215,
R217). Of several causes the most severe has its way (R253): a suspension leaves a swath alone that awaits its restart. -/
def State.oneOutcome (s : State) (b : Sys2Proof.Beam) (w : Swath) (cause : Bool) (why : Why) (handler : Bool) : State :=
  if s.outputOver w then s
  else if why = .retired ∨ (cause ∧ why = .failed) ∨ w.canRestart = false then s.endSwath b w dFAILED
  else if why = .suspend then
    if w.state = .handler ∨ w.state = .pend then s
    else s.modSwath b w.hdr.id fun w => w.toRestart (if cause then .suspended else .pend) false
  else s.modSwath b w.hdr.id fun w => w.toRestart (if cause && handler then .handler else .pend) cause

/-- The swath that a stop concerns (R215, R217): the present one, or the oldest when `oldest` is set (a late release, whose edges
are the oldest's) and for a suspension, which cuts the oldest's output. -/
def State.causeOf (s : State) (b : Sys2Proof.Beam) (why : Why) (oldest : Bool) : Option (BitVec 22) :=
  if oldest ∨ why = .suspend then (s.beam[b].swaths.find? fun w => !s.outputOver w).map (·.hdr.id)
  else s.beam[b].present.map (·.hdr.id)

/-- Beam b enters dispatch now, and owes a search (R190, R282). -/
def State.owesSearch (s : State) (b : Sys2Proof.Beam) : State :=
  s.modArb b fun a => { a with searchOwed := true, dispAt := s.now }

/-- The engine of beam b leaves what it ran, for dispatch or to stand still (R184, R190); its watchdog counts on where R186 lets it. -/
def State.heldOff (s : State) (b : Sys2Proof.Beam) (disp : Bool) : State :=
  let s := ((s.modBeam b fun x => { x with disp := disp }).modEng (engOf b) fun x => { x with wait := none }).wdogSync (engOf b)
  if disp then s.owesSearch b else s

/-- R215-R217: what a stop does with the swaths beam b holds; then the engine goes on in its handler, stands still with a suspended
swath, or enters dispatch. -/
def State.outcomes (s : State) (b : Sys2Proof.Beam) (why : Why) (handler oldest : Bool) : State :=
  let cause := s.causeOf b why oldest
  if s.beam[b].swaths.isEmpty then s
  else
  let s := forEach s.beam[b].swaths s fun s w => s.oneOutcome b w (decide (cause = some w.hdr.id)) why handler
  if handler then s.modBeam b fun x => { x with eretEnds := x.eretEnds || cause.isSome }
  else match s.beam[b].present with
    | some w =>
      if w.state = .handler then s
      else s.heldOff b (decide (w.state ≠ .suspended))
    | none => s.heldOff b true

/-- Stop beam b and give its swaths their outcome (R26, R215). `handler` says that its engine goes on in an
exception handler. -/
def State.stopWith (s : State) (b : Sys2Proof.Beam) (why : Why) (handler oldest : Bool) : State :=
  (s.stopBeam b).outcomes b why handler oldest

/-! ## Retirement (R293-R295) -/

/-- The mode the arbiter acts in: GLEAN once REPLAY is broken (R286). -/
def State.arbMode (s : State) : Nat :=
  if s.get F.ARB_CTRL_MODE = 2 ∧ s.flag F.ARB_STAT_REPLAY_BROKEN then 1 else s.get F.ARB_CTRL_MODE

/-- R294: the fallback ring of beam ring b. -/
def State.fallback (s : State) (b : Sys2Proof.Beam) : Nat := 48 + s.get (F.HOST_RING_CFG_FALLBACK_GL (32 + b.val))

/-- R294: a QUEUED descriptor at a of the retired beam's ring is to be moved. -/
def State.movable (s : State) (b : Sys2Proof.Beam) (a : Nat) : Bool :=
  let g := s.fallback b
  let h := s.hdrAt (s.dPtr a)
  s.arbMode != 0 && s.ringOn g && s.hdrReadable (s.dPtr a) &&
    allBeams.any fun c => s.usable c && s.gleans c (g - 48) && h.affinity.getLsbD c.val && h.box.inside (s.field c)

/-- Copy the software fields of the descriptor at a to the TAIL slot of ring n, device fields 0, and pass it (R173). -/
def State.putDesc (s : State) (n a : Nat) : State :=
  let d := s.slotAddr n (s.get (F.HOST_RING_TAIL_SLOT n))
  let ptr := s.silo32 a; let id := s.silo32 (a + 4); let user := s.silo32 (a + 12)
  let s := ((s.setSilo32 d ptr).setSilo32 (d + 4) id).setSilo32 (d + 8) 0
  let s := s.setSilo32 (d + 12) user
  ({ s with silo := ((s.silo.write (d + 0x10) 8 0).write (d + 0x18) 8 0).renew d 32 }).advanceTail n 1

/-- A ring has no free slot. -/
def State.ringFull (s : State) (n : Nat) : Bool := decide (s.ringCount n = 2 ^ s.ringK n)

/-- One move of R294 from slot i of beam ring b: original MOVED, HEAD past it. -/
def State.moveDesc (s : State) (b : Sys2Proof.Beam) (i : Nat) : State :=
  let r := 32 + b.val
  let s := (s.putDesc (s.fallback b) (s.slotAddr r i)).searchAgain
  s.finish r i dMOVED

/-- R294: disposition of one slot of the retired beam's ring. -/
def State.dispose (s : State) (b : Sys2Proof.Beam) (i : Nat) : State :=
  let r := 32 + b.val
  let a := s.slotAddr r i
  if s.dStatus a ≠ dQUEUED then s
  else if s.movable b a then
    if s.ringFull (s.fallback b) ∨ (s.arb.movePend.any fun x => decide (s.fallback x.1 = s.fallback b)) = true then
      let s := s.setFlag F.ARB_STAT_MOVE_PEND true
      let s := if s.arb.moveRaised then s else s.raise 224 (s.fallback b)
      { s with arb := { s.arb with moveRaised := true, movePend := s.arb.movePend ++ [(b, i)] } }
    else s.moveDesc b i
  else (s.orphan a).passFinal r (s.ringSpan r)

/-- Step 5 of R293: descriptors on glean rings that no usable beam can now run. -/
def State.orphanGleans (s : State) : State :=
  forEach [48, 49, 50, 51] s fun s n =>
    let s := forEach (s.heldSlots n) s fun s i =>
      let a := s.slotAddr n i
      if s.dStatus a = dQUEUED ∧ s.canRun (n - 48) a = false then s.orphan a else s
    s.passFinal n (s.ringSpan n)

/-- R293: beam b is to be retired with a cause: it stops, and what it holds ends FAILED. What follows waits until the stop has finished
(`retireEnd`). A beam that is retired, or is being retired, stays as it is. -/
def State.retire (s : State) (b : Sys2Proof.Beam) (cause : Nat) : State :=
  if (s.get F.ARB_RETIRED_RETIRED).testBit b.val ∨ s.arb.beams[b].retiring.isSome = true then s
  else (s.stopWith b .retired s.eng[engOf b].active false).modArb b fun a => { a with retiring := some cause }

/-- The stop of beam b has finished: 1 µs after it reached the cells (R26, log entry 7). -/
def State.stopDone (s : State) (b : Sys2Proof.Beam) : Bool :=
  match s.beam[b].traj.stopAt with
  | some t => s.past (t + 1000)
  | none => true

/-- Steps 3 to 5 of R293 for beam b, with its cause; a replay is broken by it, and the beams act in GLEAN (R286). -/
def State.retireEnd (s : State) (b : Sys2Proof.Beam) (cause : Nat) : State :=
    let s := s.modArb b fun a => { a with retiring := none }
    let s := (s.put F.ARB_RETIRED_RETIRED (s.get F.ARB_RETIRED_RETIRED ||| 2 ^ b.val)).put (F.ARB_BEAM_STAT_RETIRE_CAUSE b.val) cause
    let s := s.raise (200 + b.val) cause
    let s := if s.get F.ARB_CTRL_MODE = 2 ∧ s.flag F.ARB_STAT_REPLAY_BROKEN = false then
      ((s.setFlag F.ARB_STAT_REPLAY_BROKEN true).raise 221 b.val).searchAgain else s
    let s := forEach (s.heldSlots (32 + b.val)) s fun s i => s.dispose b i
    s.orphanGleans

/-- R257: beam fault source b, KIND and DETAIL, with the SWATH_ID of the swath the beam holds. -/
def State.beamFault (s : State) (b : Sys2Proof.Beam) (kind detail : Nat) : State :=
  if s.pers = 1 ∨ (s.pers = 2 ∧ b.val < 4) then s
  else
    let id := match s.beam[b].present with
      | some w => w.hdr.id.toNat
      | none => 0x3FFFFF
    s.raise b.val (kind + detail * 16 + id * 1024)

end Sys2Proof.Machine
end

