-- ==== Sys2Proof/Machine/Except.lean ====
section
/-! DEFINITION. What an engine executes and when, exceptions and engine faults (04_engine_isa.md R142-R147,
R179-R187; 05_beam_instructions.md R215). -/

namespace Sys2Proof.Machine

/-! ## Kinds of engine and their registers -/

/-- Size of an engine's local memory (R145); the supervisor pair's is a field core's (log entry 12). -/
def localSize (e : Eng) : Nat := if e.val < 16 then 0x40000 else 0x80000

/-- FLAGS.P (R147). -/
def State.engPriv (s : State) (e : Eng) : Bool :=
  decide (e.val = 20) || (decide (16 ≤ e.val) && (s.get F.SYS_FC_PRIV_GRANT).testBit (e.val - 16))

/-- FLAGS as MFS reads it (R143). -/
def State.flagsWord (s : State) (e : Eng) : Nat :=
  let f := s.eng[e].flags
  b2n f.v + 2 * b2n f.c + 4 * b2n f.z + 8 * b2n f.n + 16 * b2n f.l + 32 * b2n (s.engPriv e)

/-- The engine is running: RUN is 1 and HALTED is 0; the supervisor pair while it is not stopped (R144, R187, R651). -/
def State.engLive (s : State) (e : Eng) : Bool :=
  if e.val < 20 then s.flag (F.SYS_ENG_CTRL_RUN e.val) && !s.flag (F.SYS_ENG_CTRL_HALTED e.val)
  else !s.holds.supDead && !s.time.supDown && !s.holds.supHalt

/-- A beam engine is held off its program: in dispatch, or its present swath is held (R184, R190). -/
def State.engHeld (s : State) (e : Eng) : Bool :=
  match beamOfEng e with
  | none => false
  | some b => s.beam[b].disp ||
    (match s.beam[b].present with
     | some w => decide (w.state = .stopping ∨ w.state = .restartWait ∨ w.state = .suspended)
     | none => false)

/-- The engine executes instructions now. -/
def State.engExecutes (s : State) (e : Eng) : Bool :=
  s.engLive e && !s.engHeld e && s.eng[e].wait.isNone

/-! ## Faults and exceptions -/

/-- R185: engine e faults while entering a cause. The supervisor pair has no such register: it stops as at HALT. -/
def State.engFault (s : State) (e : Eng) (cause : Nat) (double : Bool) : State :=
  let s := if e.val < 20 then
      ((((s.setFlag (F.SYS_ENG_CTRL_HALTED e.val) true).setFlag (F.SYS_ENG_CTRL_FAULT e.val) true).put
        (F.SYS_ENG_CTRL_FCAUSE e.val) cause).setFlag (F.SYS_ENG_CTRL_DOUBLE e.val) double)
    else { s with holds := { s.holds with supHalt := true } }
  let s := (s.modEng e fun x => { x with wait := none }).wdogSync e
  match beamOfEng e with
  | some b => ((s.stopBeam b).beamFault b 2 (cause + 16 * b2n double)).retire b 4
  | none => if e.val < 20 then s.raise (236 + (e.val - 16)) (cause + 16 * b2n double) else s

/-- The vector entry of a cause, if it is valid (R182 step 4). -/
def State.vector (s : State) (e : Eng) (cause : Nat) : Option Word :=
  let m := s.eng[e].mem
  let v := m.read (4 * cause) 4
  if !m.badIn (4 * cause) 4 && decide (v % 4 = 0 ∧
      ((0x40 ≤ v ∧ v < localSize e) ∨ (0x10000000 ≤ v ∧ v < 0x10000000 + siloSize))) then
    some (BitVec.ofNat 32 v) else none

/-- What an exception does with the swath of its beam engine (R215), by cause and DETAIL. -/
def exceptionWhy (cause detail : Nat) : Why :=
  if cause ≤ 4 ∨ (cause = 5 ∧ detail ≠ 2) then .failed else .restart

/-- R182 steps 3 and 4: EPC, ECAUSE with ACTIVE, and PC from the vector entry, or the fault of an invalid one. -/
def State.enterException (s : State) (e : Eng) (cause detail : Nat) (async : Bool) : State :=
  let word := cause + 16 + 32 * b2n async + 256 * s.flagsWord e + 65536 * (detail % 256)
  let s := s.modEng e fun x => { x with epc := x.pc, ecause := BitVec.ofNat 32 word, wait := none }
  match s.vector e cause with
  | some v => s.modEng e fun x => { x with pc := v }
  | none => s.engFault e cause true

/-- R182: engine e takes an exception. The gate goes low first for a lease violation or a late release, an exception
while ACTIVE faults, and the beam stops with the outcome of R215 before the entry. -/
def State.takeException (s : State) (e : Eng) (cause detail : Nat) (async : Bool) : State :=
  let s := match beamOfEng e with
    | some b => if cause = 5 ∨ cause = 6 then s.gateFall b s.nowEt else s
    | none => s
  if s.eng[e].active then s.engFault e cause true
  else
    let s := match beamOfEng e with
      | some b => if s.beam[b].swaths.isEmpty ∧ cause ≠ 6 ∧ cause ≠ 7 then s
        else s.stopWith b (exceptionWhy cause detail) true (decide (cause = 6))
      | none => s
    s.enterException e cause detail async

/-- A synchronous exception of the instruction at PC. -/
def State.syncExc (s : State) (e : Eng) (cause detail : Nat) : State := s.takeException e cause detail false

/-- The word at an address that an engine fetches from (R145). -/
def State.fetchWord (s : State) (e : Eng) (a : Nat) : Nat :=
  if a < localSize e then s.eng[e].mem.read a 4 else s.silo32 (a - 0x10000000)

/-- The exceptions of fetching the word at an aligned address (R145, R180): the address, then the check bits. -/
def State.wordExc (s : State) (e : Eng) (a : Nat) : Option (Nat × Nat) :=
  if a < localSize e then (if s.eng[e].mem.badIn a 4 then some (4, 1) else none)
  else if 0x10000000 ≤ a ∧ a < 0x10000000 + siloSize then (if s.silo.badIn (a - 0x10000000) 4 then some (4, 3) else none)
  else some (3, 4)

/-- The bytes of the instruction at PC: 8 for an X form, which has its literal behind it (R149). -/
def State.fetchLen (s : State) (e : Eng) : Nat := if wOp (s.fetchWord e s.eng[e].pc.toNat) = 0x3F then 8 else 4

/-- The exceptions of fetching the instruction at PC, which come before its own (R149, R184): those of its word, of its literal,
and the illegal instruction of a word that spells none (R150, R180). -/
def State.fetchExc (s : State) (e : Eng) : Option (Nat × Nat) :=
  let pc := s.eng[e].pc.toNat
  if pc % 4 ≠ 0 then some (3, 0)
  else match s.wordExc e pc, (if s.fetchLen e = 8 then s.wordExc e (pc + 4) else none) with
    | some x, _ => some x
    | none, some x => some x
    | none, none => match decodeEngine e (s.fetchWord e pc) (s.fetchWord e (pc + 4)) with
      | .error d => some (1, d)
      | .ok _ => none

/-- A single-bit error stands in the words of the instruction at PC. -/
def State.fetchMarked (s : State) (e : Eng) : Bool :=
  let pc := s.eng[e].pc.toNat
  let hit (l : List Nat) (a : Nat) : Bool := l.any fun w => decide (a / 8 ≤ w ∧ w ≤ (a + s.fetchLen e - 1) / 8)
  if pc < localSize e then hit s.eng[e].mem.one pc else hit s.silo.one (pc - 0x10000000)

/-- The fetch corrects single-bit errors and counts them (R38). -/
def State.fetchFix (s : State) (e : Eng) : State :=
  let pc := s.eng[e].pc.toNat
  if s.fetchMarked e then
    if pc < localSize e then s.localFix e pc (s.fetchLen e) else s.siloFix (pc - 0x10000000) (s.fetchLen e)
  else s

/-- An engine's own register write: g0 discards it (R140). -/
def Engine.setG (x : Engine) (d : GReg) (v : Word) : Engine := if d = 0 then x else { x with g := x.g.set d v }

/-- An engine's own register read: g0 reads 0 (R140). -/
def Engine.rd (x : Engine) (a : GReg) : Word := if a = 0 then 0 else x.g[a]

/-- The engine state of R144. -/
def Engine.fresh (x : Engine) : Engine := { mem := x.mem }

/-- R179: HALT of a beam engine that has a claimed swath: stop, release, FAILED, for every swath whose output the
stop cuts. -/
def State.haltBeam (s : State) (e : Eng) : State :=
  match beamOfEng e with
  | none => s
  | some b =>
    if s.beam[b].swaths.isEmpty then s
    else
      let s := s.stopBeam b
      forEach s.beam[b].swaths s fun s w => s.endSwath b w dFAILED

/-- R144: RUN has gone from 0 to 1: PC from entry 0, or a fault. -/
def State.engStart (s : State) (e : Eng) : State :=
  let s := (s.setFlag (F.SYS_ENG_CTRL_HALTED e.val) false).modEng e fun x => { x with wait := none }
  let s := match beamOfEng e with
    | some b => s.modBeam b fun x => { x with disp := false, eretEnds := false }
    | none => s
  match s.vector e 0 with
  | some v => (s.modEng e fun x => { x with pc := v }).wdogReload e
  | none => s.engFault e 0 true

end Sys2Proof.Machine
end

