-- ==== Sys2Proof/Machine/XkBase.lean ====
section
/-! DEFINITION. How an XK channel halts, and what of it other blocks see (17_xk_personality.md R619, R622, R633). -/

namespace Sys2Proof.Machine

/-- The beam of an XK channel (R611). -/
def chanBeam (h : Chan) : Sys2Proof.Beam := ⟨h.val, by omega⟩
/-- The XK channel of a beam below 4. -/
def beamChan (b : Sys2Proof.Beam) : Chan := Fin.ofNat 4 b.val
/-- s with XK channel h changed by f. -/
def State.modChan (s : State) (h : Chan) (f : XkChan → XkChan) : State := { s with xk := { s.xk with chan := vmod s.xk.chan h f } }
/-- STATE of a channel: 0 IDLE, 1 RUN, 2 WAIT, 3 HALT (R616). -/
def State.chState (s : State) (h : Chan) : Nat := s.get (F.CH_STAT_STATE h.val)
/-- The channel is RUN or WAIT. -/
def State.chBusy (s : State) (h : Chan) : Bool := s.chState h == 1 || s.chState h == 2
/-- The value of a list of dated values that holds at t: the newest not after t. -/
def datedAt (l : List (Int × Nat)) (t : Int) (d : Nat) : Nat := (((l.filter fun x => decide (x.1 ≤ t)).getLast?).map (·.2)).getD d
/-- CH_PC: buffer and address of the command in output (R616). -/
def State.chPc (s : State) (h : Chan) : Nat := datedAt s.xk.chan[h].pcs s.nowEt (s.get (F.CH_START_BUF h.val) * 16384 + s.get (F.CH_START_ADDR h.val))

/-- The dated values that still matter at t: the newest not after t, and the later ones. -/
def datedFrom (l : List (Int × Nat)) (t : Int) : List (Int × Nat) :=
  (match (l.filter fun x => decide (x.1 ≤ t)).getLast? with
    | some x => [x]
    | none => []) ++ l.filter fun x => decide (t < x.1)

/-- Where the output of channel h stands at t, in head units (R626): P + round((Q − P) × k / n) on a straight motion. -/
def State.chanPos (s : State) (h : Chan) (t : Int) : Int × Int :=
  let j := s.beam[chanBeam h].traj
  let c := s.xk.chan[h]
  let whole (p : Pt) : Int × Int := (rdivAway p.x (1048576 * p.den), rdivAway p.y (1048576 * p.den))
  match segAt j.path t with
  | some g =>
    let n := (g.t1 - g.t0).toNat
    if g.arc.isNone ∧ g.x0 % 1048576 = 0 ∧ g.y0 % 1048576 = 0 then
      (g.x0 / 1048576 + rdivAway ((g.x1 - g.x0) * (t - g.t0)) (1048576 * n), g.y0 / 1048576 + rdivAway ((g.y1 - g.y0) * (t - g.t0)) (1048576 * n))
    else whole (g.posAt t)
  | none => if j.path.isEmpty then (c.x, c.y) else whole (j.posAt t)

/-- The channel executes commands: it is RUN, and no stage T4 holds it before an unlit stroke (R619, R631). -/
def State.chRuns (s : State) (h : Chan) : Bool := s.chState h == 1 && s.xk.chan[h].wait.isNone

/-- The output of channel h stops as in R26 and holds its position (R619, R622); the words sent are 0 until the next element
(R250). Its list is not touched. -/
def State.chCut (s : State) (h : Chan) : State :=
  let b := chanBeam h
  let p := s.chanPos h s.nowEt
  let s := (s.gateFall b s.nowEt).stopBeam b
  let lim (v : Int) : Nat := (clampI 0 65535 v).toNat
  let t := s.nowEt
  s.modChan h fun c => { c with
    x := lim p.1, y := lim p.2, light := false, outT := t
    pcs := c.pcs.filter fun x => decide (x.1 ≤ t)
    zs := c.zs.filter fun x => decide (x.1 ≤ t)
    pws := [(t, 0)] }

/-- The output of channel h stops, and what it waited for with it (R619, R622). -/
def State.chStop (s : State) (h : Chan) : State := (s.chCut h).modChan h fun c => { c with wait := none, stopOwed := false }

/-- Channel h halts with a FAULT code (R622), unless it is in HALT already: its interrupt bit and its event. An alarm sets its bit
and raises its event, of KIND 3, in either case (R633). -/
def State.chHalt (s : State) (h : Chan) (fault : Nat) : State :=
  let pc := s.chPc h
  let t := if s.chState h = 3 then s else ((s.chStop h).put (F.CH_STAT_STATE h.val) 3).put (F.CH_STAT_FAULT h.val) fault
  if fault = 4 then (t.xkInt (8 + h.val)).raise h.val 3
  else if s.chState h = 3 then s
  else (t.xkInt (4 + h.val)).raise h.val (1 + 16 * fault + 65536 * pc)

end Sys2Proof.Machine
end

