-- ==== Sys2Proof/Machine/Cells.lean ====
section
/-! DEFINITION. Timed-edge cells: the way of an edge from its producer to the ball, late edges, inputs
(01_architecture.md R15, R17-R22; 03_time.md R109-R118). -/

namespace Sys2Proof.Machine

/-- A laser cell (R17). -/
def isLaser (c : Cell) : Bool := decide (c.val < 64)
/-- An ALARM cell (R17). -/
def isAlarm (c : Cell) : Bool := decide (c.val < 64 ∧ c.val % 4 = 3)
/-- The number of a general cell (R17). -/
def generalOf (c : Cell) : Option (Fin 16) := if h : 80 ≤ c.val then some ⟨c.val - 80, by omega⟩ else none
/-- General cell n (R116). -/
def generalCell (n : Fin 16) : Cell := ⟨80 + n.val, by omega⟩
/-- Cell c is an output (R17, R116). -/
def State.cellOut (s : State) (c : Cell) : Bool :=
  !isAlarm c && (match generalOf c with
    | some n => !s.flag (F.TIME_GCELL_CFG_DIR n.val)
    | none => true)

/-- Edges of cell c that are queued or on the way to it. -/
def State.cellLoad (s : State) (c : Cell) : Nat :=
  s.cells[c].q.length + (s.transit.filter fun x => decide (x.1 = c)).length

/-- Cell c has room for another edge (R20, R109). -/
def State.cellRoom (s : State) (c : Cell) : Bool := decide (s.cellLoad c < 16)

/-- FLAGS.L of engine e is set (R112). -/
def State.setL (s : State) (e : Eng) : State :=
  s.modEng e fun x => { x with flags := { x.flags with l := true } }

/-- R112: a late edge of cell c is counted and reported. -/
def State.countLate (s : State) (c : Nat) : State :=
  ((s.count F.TIME_LATE_COUNT).put F.TIME_LATE_LAST_CELL c).raise 112 c

/-- R113, R184, R257: what a late edge on cell c of beam b does beyond its count. An XK channel halts (R622, R629). -/
def State.lateBeam (s : State) (b : Sys2Proof.Beam) (c : Cell) : State :=
  if s.xkOwns b then s.chHalt (beamChan b) 3
  else
  let e := engOf b
  let s := (s.setL e).beamFault b 5 (c.val % 4)
  let s := s.gateFall b s.nowEt
  let x := s.eng[e]
  if s.engLive e && !s.engHeld e && !x.active then
    s.takeException e 6 c.val true
  else
    (s.stopWith b .restart x.active true).modEng e fun x =>
      { x with late := if x.late.isNone then some c.val else x.late }

/-- The permit of the group of beam b is withdrawn (R252). -/
def State.permitOff (s : State) (b : Sys2Proof.Beam) : Bool := (s.pins.permit[b.val / 4]).isNone

/-- The beacon function is off and inhibits every beam (R581). -/
def State.beaconInhibit (s : State) : Bool := s.flag F.HK_BCN_OFF && s.flag F.HK_BCN_INHIBIT_EN

/-- The lane that serves head b, if one does (R420, R421). -/
def State.headLane (s : State) (b : Sys2Proof.Beam) : Option Lane :=
  (List.finRange 32).find? fun n => decide (s.get (F.LN_CFG_ROLE n.val) = 1 ∧ s.get (F.LN_CFG_ARG n.val) = b.val)

/-- The HeadLink lane of beam b is UP (R426, R434). -/
def State.headUp (s : State) (b : Sys2Proof.Beam) : Bool :=
  match s.headLane b with
  | some n => s.get (F.LN_STAT_STATE n.val) == 5
  | none => false

/-- LSbb_GATE of beam b is barred from rising: its permit is withdrawn (R252), or the test port is out of reset (R660). -/
def State.gateBarred (s : State) (b : Sys2Proof.Beam) : Bool := s.permitOff b || s.pins.testPort

/-- The level of the LSbb_GATE ball (R252, R631, R660): that of the gate's cell, held low while the permit is withdrawn or the test
port is out of reset. The beams stop as well, the XK channels run on: there the beacons' inhibition holds the gate too (R581). -/
def State.gateBall (s : State) (b : Sys2Proof.Beam) : Bool :=
  s.cells[cellGate b].level && !s.gateBarred b && !(s.xkOwns b && s.beaconInhibit)

/-- LOCKED has not been 1 for a continuous 1 ms since it was lost, or is 0 (R95). -/
def State.lockHeld (s : State) : Bool := !s.flag F.TIME_STATUS_LOCKED || s.time.resumeOwed

/-- A cause that suspends every beam holds: B4, the loss of lock, a low VDD_CORE, a dead supervisor pair, thermal
shutdown. -/
def State.allHeld (s : State) : Bool :=
  s.get F.SYS_BAND_BAND == 4 || s.lockHeld || s.holds.vdd || s.holds.supDead || s.holds.shutdown

/-- A cause holds beam b off exposure: one of all beams', its permit (R252) or its head's lane (R434). -/
def State.exposureHeld (s : State) (b : Sys2Proof.Beam) : Bool :=
  s.allHeld || s.permitOff b || s.beaconInhibit || s.flag (F.BEAM_LASER_CFG_PERMIT_WAIT b.val) || !s.headUp b

/-- Edge x takes place on output cell c at instant t (R109, R246, R248, R252). -/
def State.applyEdge (s : State) (c : Cell) (x : Edge) (t : Int) : State :=
  let s := s.modCell c fun y => { y with last := some t }
  if c.val < 64 ∧ c.val % 4 = 0 then
    match x.what with
    | .level true => if s.gateBarred (beamOf c) && !s.xkOwns (beamOf c) then s else s.gateRise (beamOf c) t
    | _ => s.gateFall (beamOf c) t
  else s.modCell c fun y => match x.what with
    | .level v => { y with level := v, train := none }
    | .train p w => { y with level := true, train := some (t, p, w) }
    | .off => { y with level := false, train := none }

/-- Edge x takes place on cell c at once, or, less than 2 ns after the edge released last, 2 ns after that one (R111): it then
stands before the queued edges. -/
def State.applyNow (s : State) (c : Cell) (x : Edge) : State :=
  if s.cells[c].last.any (fun l => s.cellOut c && decide (s.nowEt < l + 16)) then s.modCell c fun y => { y with q := { x with et := s.nowEt } :: y.q } else s.applyEdge c x s.nowEt

/-- R112: the late edge x that enters cell c. `after` is the edge queued before it when it is late under R110:
it is then released 2 ns after that edge. -/
def State.lateEdge (s : State) (c : Cell) (x : Edge) (after : Option Int) : State :=
  let s := s.countLate c.val
  let drop := (decide (c.val < 64 ∧ c.val % 4 = 0) && x.rises) ||
    (match generalOf c with | some n => s.flag (F.TIME_GCELL_CFG_LATE_DROP n.val) | none => false)
  let s :=
    if drop then s
    else match after with
      | some t => s.modCell c fun y => { y with q := y.q ++ [{ x with et := t + 16 }] }
      | none => s.applyNow c x
  if isLaser c then s.lateBeam (beamOf c) c
  else match x.owner with
    | some e => if (generalOf c).isSome then s.setL e else s
    | none => s

/-- R22, R110: edge x enters the queue of cell c now. A cell that has been made an input takes none (R116). -/
def State.enterCell (s : State) (c : Cell) (x : Edge) : State :=
  let lastQ := (s.cells[c].q.getLast?).map (·.et)
  if s.cellOut c = false then s
  else if x.exempt then (if 0 < s.etAhead x.et then s.modCell c fun y => { y with q := y.q ++ [x] } else s.applyNow c x)
  else match lastQ with
    | some t =>
      if x.et < t then s.lateEdge c x (some t)
      else if s.etAhead x.et < 320 then s.lateEdge c x none
      else s.modCell c fun y => { y with q := y.q ++ [x] }
    | none =>
      if s.etAhead x.et < 320 then s.lateEdge c x none
      else s.modCell c fun y => { y with q := y.q ++ [x] }

/-- R15, R22: the first event on its way to cell c enters its queue. -/
def State.nextEntry (s : State) (c : Cell) : State :=
  match s.transit.find? fun x => decide (x.1 = c) with
  | some x => ({ s with transit := s.transit.eraseP fun y => decide (y.1 = c) }).enterCell c x.2
  | none => s

/-- R94, R109, R111: the head edge of output cell c is released, once TS64 runs and the time base has reached its instant, which lies at
least 2 ns after the edge released before it. -/
def State.releaseHead (s : State) (c : Cell) : State :=
  if s.cellOut c && s.time.running then
    match s.cells[c].q with
    | [] => s
    | x :: rest =>
      let t := match s.cells[c].last with
        | some l => max x.et (l + 16)
        | none => x.et
      if s.reachedEt t then
        let s := s.modCell c fun y => { y with q := rest }
        let s := if x.et < t then s.count F.TIME_LATE_SPACED else s
        s.applyEdge c x t
      else s
  else s

/-- The level an alarm input shows when it is active (R251, R263). -/
def State.alarmActive (s : State) (b : Sys2Proof.Beam) (level : Bool) : Bool :=
  level != s.flag (if s.xkOwns b then F.LS_CTRL_ALARM_POL b.val else F.BEAM_LASER_CFG_ALARM_POL b.val)

/-- The alarm input of beam b is looked at again after a change of its polarity (R251, R263). -/
def State.alarmAgain (s : State) (b : Sys2Proof.Beam) : State :=
  if s.alarmActive b s.cells[cellAlarm b].level then
    s.modTraj b fun j => { j with alarmAct := match j.alarmAct with
      | some t => some t
      | none => some s.nowEt.toNat }
  else (s.modTraj b fun j => { j with alarmAct := none }).setFlag
    (if s.xkOwns b then F.LS_CTRL_ALARM_LEVEL b.val else F.BEAM_LASER_CFG_ALARM_LEVEL b.val) false

/-- INPUT_EDGE_CAPTURE (R114, R251): an edge to `level` on input cell c, `frac` units of 125 ps into the present ns. A
general input queues the edges its EDGE field selects; an alarm cell keeps the instant at which the input became
active, for the filter of R251. -/
def execInputEdgeCapture (c : Cell) (level : Bool) (frac : Fin 8) (s : State) : Host.Outcome State Fault Refusal :=
  .next (
    let t := s.nowEt + frac.val
    if s.cellOut c then s
    else if isAlarm c then
      let b := beamOf c
      let s := s.modCell c fun y => { y with level := level, last := some t }
      let act := s.alarmActive b level
      let s := s.modTraj b fun j => { j with alarmAct := if act then (match j.alarmAct with
        | some x => some x
        | none => some t.toNat) else none }
      if act then s
      else s.setFlag (if s.xkOwns b then F.LS_CTRL_ALARM_LEVEL b.val else F.BEAM_LASER_CFG_ALARM_LEVEL b.val) false
    else match generalOf c with
      | none => s
      | some n =>
        let sel := s.get (F.TIME_GCELL_CFG_EDGE n.val)
        let wanted := (level && sel.testBit 0) || (!level && sel.testBit 1)
        let s := s.modCell c fun y => { y with level := level }
        if !wanted then s
        else if 16 ≤ s.cells[c].q.length then s.setFlag (F.TIME_GCELL_CFG_OVF n.val) true
        else s.modCell c fun y => { y with q := y.q ++ [⟨t, .level level, none, false⟩] })

/-- A write to the configuration of general cell n that leaves `dir` in DIR (R115, R116): a change of DIR discards
the queue, with the edges on their way to it, and a cell made an output drives IDLE. The register holds the new word already. -/
def State.gcellDir (s : State) (n : Fin 16) (was : Bool) : State :=
  let dir := s.flag (F.TIME_GCELL_CFG_DIR n.val)
  if dir = was then s
  else { s with transit := s.transit.filter fun x => decide (x.1 ≠ generalCell n) }.modCell (generalCell n) fun y =>
    { y with q := [], train := none, level := if dir then y.level else s.flag (F.TIME_GCELL_CFG_IDLE n.val) }

end Sys2Proof.Machine
end

