-- ==== Sys2Proof/Machine/Flags.lean ====
section
/-! DEFINITION. The flag computations of the engines (04_engine_isa.md R143, R151, R155-R158). A result comes with
the C and V its operation gives. -/

namespace Sys2Proof.Machine

/-- A result with the C and V of its operation. -/
structure AluOut where
  r : Word
  c : Bool := false
  v : Bool := false
  deriving DecidableEq, Repr

/-- The signed value of a + b + c does not fit in 32 bits. -/
def signedOverflow (x : Int) : Bool := decide (x < -(2 ^ 31) ∨ 2 ^ 31 ≤ x)

/-- a + b + carry: carry out and signed overflow (R155). -/
def addOut (a b : Word) (carry : Bool) : AluOut :=
  { r := a + b + BitVec.ofNat 32 (b2n carry)
    c := decide (2 ^ 32 ≤ a.toNat + b.toNat + b2n carry)
    v := signedOverflow (a.toInt + b.toInt + (b2n carry : Nat)) }

/-- a − b − (1 − carry): C is 1 when there is no borrow (R155). -/
def subOut (a b : Word) (carry : Bool) : AluOut :=
  { r := a - b - BitVec.ofNat 32 (1 - b2n carry)
    c := decide (b.toNat + (1 - b2n carry) ≤ a.toNat)
    v := signedOverflow (a.toInt - b.toInt - ((1 - b2n carry : Nat) : Int)) }

/-- A result that clears C and V. -/
def plainOut (r : Word) : AluOut := { r := r }

/-- The flags with S = 1: N and Z of the result, C and V as given (R155). -/
def Flags.of (f : Flags) (o : AluOut) : Flags :=
  { f with n := o.r.getLsbD 31, z := decide (o.r = 0), c := o.c, v := o.v }

/-- A condition of R151. -/
def Flags.holds (f : Flags) (cond : Fin 16) : Bool :=
  match cond.val with
  | 0 => f.z
  | 1 => !f.z
  | 2 => f.c
  | 3 => !f.c
  | 4 => f.n
  | 5 => !f.n
  | 6 => f.v
  | 7 => !f.v
  | 8 => f.c && !f.z
  | 9 => !f.c || f.z
  | 10 => f.n == f.v
  | 11 => f.n != f.v
  | 12 => !f.z && f.n == f.v
  | 13 => f.z || f.n != f.v
  | 14 => true
  | _ => f.l

/-- The C and V of a wait that completes (R170). -/
def Flags.waited (f : Flags) (c v : Bool) : Flags := { f with c := c, v := v }

end Sys2Proof.Machine
end

