-- ==== Sys2Proof/Machine/Operands.lean ====
section
/-! DEFINITION. The operand forms of engine instructions (04_engine_isa.md R148-R150, R157-R161): immediates, shift
amounts, Q15 values, accumulators, register pairs. -/

namespace Sys2Proof.Machine

/-- The length of an instruction with this immediate in bytes: an X form has two words (R149). -/
def immLen : Imm → Nat
  | .imm _ => 4
  | .lit _ => 8

/-- The immediate sign-extended, or the literal (R158). -/
def immSext : Imm → Word
  | .imm i => i.signExtend 32
  | .lit l => l

/-- The immediate zero-extended, or the literal (R158). -/
def immZext : Imm → Word
  | .imm i => i.setWidth 32
  | .lit l => l

/-- The immediate as the upper half, or the literal (R158). -/
def immHigh : Imm → Word
  | .imm i => i.setWidth 32 <<< 16
  | .lit l => l

/-- A shift amount: the low 5 bits of g[b], or the b field (R157). -/
def shAmt (x : Engine) : ShAmt → Nat
  | .reg b => (x.rd b).toNat % 32
  | .imm b => b.val

/-- The field does not name an accumulator (R150). -/
def notAcc (f : GReg) : Bool := decide (8 ≤ f.val)

/-- The accumulator a field names, from its low three bits (R161). -/
def accOf (f : GReg) : Fin 8 := ⟨f.val % 8, by omega⟩

/-- A Q15 operand: bits 15:0 of a register as a signed number (R159). -/
def q15 (w : Word) : Int := (w.setWidth 16).toInt

/-- An accumulator as a signed number (R141). -/
def accVal (x : BitVec 40) : Int := x.toInt

/-- i saturated to 40 bits, and whether it saturated (R159). -/
def sat40 (i : Int) : Int × Bool :=
  let c := clampI (-(2 ^ 39)) (2 ^ 39 - 1) i
  (c, decide (c ≠ i))

/-- i saturated to Q15, and whether it saturated (R160). -/
def satQ15 (i : Int) : Int × Bool :=
  let c := clampI (-32768) 32767 i
  (c, decide (c ≠ i))

/-- Reduction from Q30 to Q15: half to even, then saturation (R160). -/
def reduceQ (i : Int) : Int × Bool := satQ15 (rdivEven i 32768)

/-- The register after d of a pair (R150). -/
def pairHi (d : GReg) : GReg := ⟨(d.val + 1) % 32, by omega⟩

/-- The field d is odd where it names a pair. -/
def oddPair (d : GReg) : Bool := decide (d.val % 2 = 1)

/-- g[a] and g[b] as a TS64 value, low word in g[a] (R170). -/
def timeOperand (x : Engine) (a b : GReg) : Nat := (x.rd b).toNat * 2 ^ 32 + (x.rd a).toNat

end Sys2Proof.Machine
end

