-- ==== Sys2Proof/Machine/Trajectory.lean ====
section
/-! DEFINITION. The trajectory unit: elements, delays, flying paths and the laser edges they place
(05_beam_instructions.md R193; 06_trajectory_heads.md R227-R236, R246-R248; 01_architecture.md R18-R23). -/

namespace Sys2Proof.Machine

/-! ## Look-ahead (R18, R28, R33) -/

/-- L_min in µs (R28); in B4 the value of B3 (log entry 13). -/
def State.lmin (s : State) : Nat :=
  let n := s.get F.SYS_BAND_BAND
  if n ≤ 1 then 60 else if n = 2 then 80 else 120

/-- L_min in units of 125 ps. -/
def State.lminEt (s : State) : Int := 8000 * (s.lmin : Int)

/-- EFFECTIVE of SYS_LOOKAHEAD (R18, R33). -/
def State.leff (s : State) : Nat := max (s.get F.SYS_LOOKAHEAD_LOOKAHEAD) s.lmin

/-- SYS_LOOKAHEAD shows the L_eff in force (R31, R33). -/
def State.showLeff (s : State) : State := s.put F.SYS_LOOKAHEAD_EFFECTIVE s.leff

/-- L_eff of beam b in units of 125 ps (R18, R33): of the look-ahead with which it entered its latest swath; a beam that has entered
none, and an XK channel's, has the present one. -/
def State.leffEt (s : State) (b : Sys2Proof.Beam) : Int :=
  8000 * ((match s.beam[b].lookAhead with
    | some n => if s.xkOwns b then s.leff else max n s.lmin
    | none => s.leff) : Nat)

/-! ## Edges -/

/-- The cells of beam b that its trajectory unit drives. -/
def beamCells (b : Sys2Proof.Beam) : List Cell := [cellGate b, cellMod b, cellSync b]

/-- The beam has an edge queued, on its way, or not yet handed over (R193). -/
def State.beamEdges (s : State) (b : Sys2Proof.Beam) : Bool :=
  !s.beam[b].traj.pend.isEmpty ||
    (beamCells b).any fun c => decide (0 < s.cellLoad c)

/-- A motion element of the beam has not begun its output (R193); inserted pauses and flying paths are none (R231). -/
def State.beamElements (s : State) (b : Sys2Proof.Beam) : Bool :=
  s.beam[b].traj.path.any fun g => decide (s.nowEt < g.t0 ∧ (g.kind = .jump ∨ g.kind = .mark ∨ g.kind = .arc))

/-- The unit hands over what it may: each cell's edges in order, none beyond L_eff (R19), none to a full queue
(R20), no laser-on edge of the present swath before that swath is primed (R21). -/
def pumpGo (b : Sys2Proof.Beam) : Nat → State → State
  | 0, s => s
  | n + 1, s =>
    let j := s.beam[b].traj
    let unprimed := fun (t : Int) => match s.beam[b].present with
      | some w => !w.primed && decide (w.startS ≤ t)
      | none => false
    let ok := fun (x : Cell × Edge) =>
      decide (x.2.et ≤ s.nowEt + s.leffEt b) && s.cellRoom x.1 &&
        !(decide (x.1 ≠ cellSync b) && x.2.rises && unprimed x.2.et)
    -- the first edge of each cell that may go
    match j.pend.find? fun x => decide ((j.pend.find? fun y => decide (y.1 = x.1)) = some x) && ok x with
    | none => s
    | some x =>
      pumpGo b n ({ s with transit := s.transit ++ [x] }.modTraj b fun j => { j with pend := j.pend.erase x })

/-- Everything the unit may hand over now is on its way; while no edge waits, the elements it has planned leave the queue of 64 (R193). -/
def State.pump (s : State) (b : Sys2Proof.Beam) : State :=
  let s := pumpGo b s.beam[b].traj.pend.length s
  s.modTraj b fun j => if j.pend.isEmpty then { j with queue := j.queue.filter fun t => decide (s.nowEt < t) } else j

/-- The elements in the queue of 64 of beam b (R193): those not yet planned (R235), and, while an edge waits to be handed over, all
behind it. -/
def State.queueLen (s : State) (b : Sys2Proof.Beam) : Nat :=
  let j := s.beam[b].traj
  if j.pend.isEmpty then (j.queue.filter fun t => decide (s.nowEt < t)).length else j.queue.length

/-- The time the unit plans for an element (R235), in units of 125 ps, at the slow corner (log entry 50). -/
def planTime (k : SegKind) (more : Bool) : Int := (if k = .arc then 960 else 384) + (if more then 512 else 0)

/-- An element goes into the queue of 64 (R193). -/
def State.enqueue (s : State) (b : Sys2Proof.Beam) (k : SegKind) (more : Bool) : State :=
  (s.pump b).modTraj b fun j => { j with queue := j.queue ++ [max s.nowEt (j.queue.getLast?.getD s.nowEt) + planTime k more] }

/-- Place an edge on a cell of beam b. -/
def State.placeEdge (s : State) (b : Sys2Proof.Beam) (c : Cell) (x : Edge) : State :=
  s.modTraj b fun j => { j with pend := j.pend ++ [(c, { x with owner := some (engOf b) })] }

/-- What MOD does while the gate is high (R197, R246). -/
def modWhat (period width : Nat) : EdgeWhat :=
  if period = 0 ∨ period ≤ width + 10 then .level true else .train period width

/-- An edge of the gate at t, not before the one before it (R234). -/
def State.gateTime (s : State) (b : Sys2Proof.Beam) (t : Int) : Int × State :=
  match s.beam[b].traj.lastGate with
  | some l => if t < l then (l, s.count (F.BEAM_TRAJ_STAT_CLAMPED b.val)) else (t, s)
  | none => (t, s)

/-- The gate and MOD rise of a sequence (R230, R246). -/
def State.placeRise (s : State) (b : Sys2Proof.Beam) (t : Int) (g : Settings) : Int × State :=
  let (t, s) := s.gateTime b t
  let s := s.placeEdge b (cellGate b) { et := t, what := .level true }
  let s := s.placeEdge b (cellMod b) { et := t, what := modWhat g.modPeriod g.modWidth }
  (t, s.modTraj b fun j => { j with lastGate := some t, modOn := (g.modPeriod, g.modWidth) })

/-- f applied to every edge of cell c that is not yet released. -/
def State.modEdges (s : State) (b : Sys2Proof.Beam) (c : Cell) (f : Edge → Option Edge) : State :=
  let g := fun (x : Cell × Edge) => if x.1 = c then (f x.2).map (fun y => (x.1, y)) else some x
  let s := { s with transit := s.transit.filterMap g }
  (s.modTraj b fun j => { j with pend := j.pend.filterMap g }).modCell c fun y => { y with q := y.q.filterMap f }

/-- Some edge of cell c not yet released satisfies p. -/
def State.anyEdge (s : State) (b : Sys2Proof.Beam) (c : Cell) (p : Edge → Bool) : Bool :=
  (s.beam[b].traj.pend.any fun x => decide (x.1 = c) && p x.2) ||
    (s.transit.any fun x => decide (x.1 = c) && p x.2) || s.cells[c].q.any p

/-! ## The path -/

/-- Pieces no rule looks back to are dropped: those that ended more than 100 µs ago, except the latest of them, once their exposure and
their MARK_DONE are settled. -/
def State.prunePath (s : State) (b : Sys2Proof.Beam) : State :=
  s.modTraj b fun j =>
    let lim := min (s.nowEt - 800000) j.expoFrom
    let lim := match j.gateHist.getLast? with
      | some (r, none) => min lim r
      | some _ => lim
      | none => s.nowEt - 800000
    let old := j.path.filter fun g => decide (g.t1 ≤ lim)
    { j with path := old.drop (old.length - 1) ++ j.path.filter fun g => decide (lim < g.t1) }

/-- A piece of path from the unit's end point to (x, y, z), taking `dur`; the stream and end point follow it. -/
def State.addSeg (s : State) (b : Sys2Proof.Beam) (k : SegKind) (t0 dur : Int) (x y z : Int)
    (arc : Option (Int × Int × Int)) (g : Settings) : State :=
  let id := match s.beam[b].present with
    | some w => w.hdr.id
    | none => 0
  s.modTraj b fun j =>
    { j with
      path := if dur = 0 then j.path else j.path ++
        [⟨k, t0, t0 + dur, j.hx, j.hy, j.hz, x, y, z, arc, g, id⟩]
      hx := x, hy := y, hz := z, stream := t0 + dur }

/-- A pause of the unit at its end point (R231). -/
def State.addPause (s : State) (b : Sys2Proof.Beam) (dur : Int) (g : Settings) : State :=
  let j := s.beam[b].traj
  s.addSeg b .pause j.stream dur j.hx j.hy j.hz none g

/-- (x, y) moved by `len` (path units) along direction (dx, dy) (R232). -/
def along (x y dx dy : Int) (len : Int) : Int × Int :=
  let n := isqrt (dx.natAbs * dx.natAbs + dy.natAbs * dy.natAbs)
  if n = 0 then (x, y) else (x + rdivAway (len * dx) n, y + rdivAway (len * dy) n)

/-- The end of a flying path from (x, y), which lies in the field, to (x', y'), shortened at the field edge (R233):
the point and whether it was shortened. -/
def clipToField (f : Box) (x y x' y' : Int) : (Int × Int) × Bool :=
  let lo := fun (a : Int) => a * fxOne
  -- the largest part num / den of the way that stays within lo..hi on one axis
  let part := fun (p q l h : Int) =>
    if q < l then ((p - l).toNat, (p - q).toNat) else if h < q then ((h - p).toNat, (q - p).toNat) else (1, 1)
  let a := part x x' (lo f.x0) (lo f.x1)
  let c := part y y' (lo f.y0) (lo f.y1)
  let m := if a.1 * c.2 ≤ c.1 * a.2 then a else c
  if m.1 = m.2 then ((x', y'), false)
  else ((x + ((x' - x) * m.1).tdiv m.2, y + ((y' - y) * m.1).tdiv m.2), true)

/-- A straight flying path of the unit from its end point to (x, y) at a speed (R232), shortened at the field edge. -/
def State.addFly (s : State) (b : Sys2Proof.Beam) (k : SegKind) (x y : Int) (speed : Nat) (g : Settings) : State :=
  let j := s.beam[b].traj
  let dur := lineTime (x - j.hx) (y - j.hy) 0 speed
  s.addSeg b k j.stream dur x y j.hz none g

/-- The direction of a piece at its start (R230). -/
def Seg.dirIn (g : Seg) : Option (Int × Int) :=
  match g.arc with
  | some (cx, cy, sw) =>
    let o := if sw < 0 then -1 else 1
    some (-(o * (g.y0 - cy)), o * (g.x0 - cx))
  | none => if g.x0 = g.x1 ∧ g.y0 = g.y1 then none else some (g.x1 - g.x0, g.y1 - g.y0)

/-- The direction of a piece at its end. -/
def Seg.dirOut (g : Seg) : Option (Int × Int) :=
  match g.arc with
  | some (cx, cy, sw) =>
    let o := if sw < 0 then -1 else 1
    some (-(o * (g.y1 - cy)), o * (g.x1 - cx))
  | none => if g.x0 = g.x1 ∧ g.y0 = g.y1 then none else some (g.x1 - g.x0, g.y1 - g.y0)

/-- The turn angle between two directions, 2^32 per turn, and whether it is 0 exactly (R230). -/
def turnAngle (a c : Option (Int × Int)) : Nat × Bool :=
  match a, c with
  | some (x, y), some (u, v) =>
    let dot := x * u + y * v
    let cr := (x * v - y * u).natAbs
    (angleOf dot cr, decide (cr = 0 ∧ 0 ≤ dot))
  | _, _ => (0, true)

/-! ## The end of a sequence (R230-R236) -/

/-- The light of the open sequence ends at t: the swath and the leases it was under know their last laser-off edge
(R24, R74). `none` is a sequence without light. -/
def State.lightEnds (s : State) (b : Sys2Proof.Beam) (t : Option Int) : State :=
  let s := match s.beam[b].present, t with
    | some w, some _ => s.modSwath b w.hdr.id fun w => { w with lastOff := t }
    | _, _ => s
  let f := fun (l : Lease) => if l.lit then { l with lit := false, lastOff := match t with
    | some _ => t
    | none => l.lastOff } else l
  s.modArb b fun a => { a with cur := a.cur.map f, old := a.old.map f }

/-- The motion of beam b reaches its stream time (R25): the swath and the held lease know the end of their last
element. -/
def State.motionTo (s : State) (b : Sys2Proof.Beam) : State :=
  let t := s.beam[b].traj.stream
  let s := match s.beam[b].present with
    | some w => s.modSwath b w.hdr.id fun w => { w with motionEnd := some t }
    | none => s
  s.modArb b fun a => { a with cur := a.cur.map fun l => { l with motionEnd := some t } }

/-- The gate and MOD falls of a sequence, or their omission (R230, R234). A fall that LASER_OFF_DELAY places before the end of the last
mark is never late; what MOD would have changed to after it falls away (R246). -/
def State.sequenceFall (s : State) (b : Sys2Proof.Beam) (q : Sequence) : State :=
  let fall := q.te + 8 * q.set.offDelay
  let s := s.modTraj b fun j => { j with seq := none }
  let early := decide (fall < q.te)
  if q.rise < fall then
    let s := s.modEdges b (cellMod b) fun x => if fall ≤ x.et then none else some x
    let s := s.placeEdge b (cellGate b) { et := fall, what := .level false, exempt := early }
    let s := s.placeEdge b (cellMod b) { et := fall, what := .off, exempt := early }
    (s.modTraj b fun j => { j with lastGate := some fall }).lightEnds b (some fall)
  else
    let s := s.count (F.BEAM_TRAJ_STAT_CLAMPED b.val)
    let isRise := fun (x : Edge) => decide (x.et = q.rise) && x.rises
    let queued := s.anyEdge b (cellGate b) isRise
    let s := s.modEdges b (cellMod b) fun x => if q.rise ≤ x.et then none else some x
    if queued then
      ((s.modEdges b (cellGate b) fun x => if isRise x then none else some x).modTraj b fun j => { j with lastGate := q.before }).lightEnds b none
    else
      let now := s.nowEt
      let s := s.placeEdge b (cellGate b) { et := now, what := .level false, exempt := true }
      let s := s.placeEdge b (cellMod b) { et := now, what := .off, exempt := true }
      (s.modTraj b fun j => { j with lastGate := some now }).lightEnds b (some now)

/-- The tail of R232, if its length is not 0. Where the field edge shortens it (R233), the head waits there until the gate has fallen
(log entry 50). -/
def State.addTail (s : State) (b : Sys2Proof.Beam) (q : Sequence) : State :=
  match q.dir with
  | none => s
  | some (dx, dy) =>
    let v := q.set.markSpeed
    let tail := lineTime ((q.set.flyTail * 1000 : Nat) * fxOne) 0 0 v
    let off := 8 * q.set.offDelay.toNat
    let t := max tail off
    -- length in path units: 125 ps × speed / (8,000 × 65,536) nm
    let len : Nat := if off ≤ tail then q.set.flyTail * 1000 * 1048576 else t * v * 1048576 / speedK
    if len = 0 then s
    else
      let j := s.beam[b].traj
      let p := along j.hx j.hy dx dy len
      let c := clipToField (s.field b) j.hx j.hy p.1 p.2
      if c.2 then
        let s := s.count (F.BEAM_TRAJ_STAT_FLY_CLIP b.val)
        if c.1 = (j.hx, j.hy) then s
        else
          let s := s.addFly b .tail c.1.1 c.1.2 v q.set
          let d := j.stream + off - s.beam[b].traj.stream
          if 0 < d then s.addPause b d q.set else s
      else s.addSeg b .tail j.stream t p.1 p.2 j.hz none q.set

/-- What follows the last mark of a sequence (R231, R232): a tail where one is asked for and not omitted, else the mark delay. -/
def State.leaveMark (s : State) (b : Sys2Proof.Beam) (q : Sequence) (tail : Bool) : State :=
  let t := s.beam[b].traj.stream
  let s := if tail then s.addTail b q else s
  if s.beam[b].traj.stream = t then s.addPause b (8 * max 0 (max (q.set.markDelay : Int) q.set.offDelay)) q.set else s

/-- The open sequence ends (R230, R231): its fall, then the tail of EXIT or the mark delay. -/
def State.endSequence (s : State) (b : Sys2Proof.Beam) : State :=
  match s.beam[b].traj.seq with
  | none => s
  | some q => (((s.sequenceFall b q).leaveMark b q (q.set.flyFlags.testBit 1)).motionTo b).pump b

/-- R236: the sequence ends for want of an element. -/
def State.starve (s : State) (b : Sys2Proof.Beam) : State :=
  (s.count (F.BEAM_TRAJ_STAT_STARVE b.val)).endSequence b

/-- The instant by which the next element must be handed over (R236). -/
def State.starveDue (s : State) (b : Sys2Proof.Beam) : Option Int :=
  s.beam[b].traj.seq.map fun q => q.te - s.lminEt

/-- The deadline of R236 has passed for beam b. -/
def State.starved (s : State) (b : Sys2Proof.Beam) : Bool :=
  match s.starveDue b with
  | some t => decide (t < s.nowEt)
  | none => false

/-! ## Handing over (R193, R211, R230-R233) -/

/-- R193, R211: where the next element starts: T_res of a barrier, else TS64 + L_eff after a break, else S. -/
def State.nextStart (s : State) (b : Sys2Proof.Beam) : Int :=
  let j := s.beam[b].traj
  match s.beam[b].barrierStart with
  | some t => max t j.stream
  | none =>
    if s.beamElements b = false ∧ s.beamEdges b = false ∧ j.seq.isNone ∧ j.stream < s.nowEt + s.lminEt
    then s.nowEt + s.leffEt b else j.stream

/-- The stream takes the start of the next element. -/
def State.startStream (s : State) (b : Sys2Proof.Beam) : State :=
  let t := s.nextStart b
  (s.modTraj b fun j => { j with stream := t }).modBeam b fun x => { x with barrierStart := none }

/-- A changed SYNC train begins at the first multiple of its period at or after t, in place of what would begin later (R247). -/
def State.syncChange (s : State) (b : Sys2Proof.Beam) (t : Int) (g : Settings) : State :=
  let new := (g.syncPeriod, g.syncWidth)
  if s.beam[b].traj.syncOn = new ∨ (g.syncPeriod = 0 ∧ s.beam[b].traj.syncOn.1 = 0) then s
  else
    let s := s.modTraj b fun j => { j with syncOn := new }
    let p := 8 * g.syncPeriod
    let x : Edge := if g.syncPeriod = 0 then { et := t, what := .off } else { et := cdiv t p * p, what := .train g.syncPeriod g.syncWidth }
    (s.modEdges b (cellSync b) fun y => if x.et ≤ y.et then none else some y).placeEdge b (cellSync b) x

/-- A changed MOD train at the start t of a mark of an open sequence (R246). -/
def State.modChange (s : State) (b : Sys2Proof.Beam) (t rise : Int) (g : Settings) : State :=
  if s.beam[b].traj.modOn = (g.modPeriod, g.modWidth) then s
  else
    let w := modWhat g.modPeriod g.modWidth
    let s := s.modTraj b fun j => { j with modOn := (g.modPeriod, g.modWidth) }
    if t ≤ rise then s.modEdges b (cellMod b) fun x => some (if x.et = rise ∧ x.rises then { x with what := w } else x)
    else s.placeEdge b (cellMod b) { et := t, what := w }

/-- The jump that the path ends with, apart from its pause. -/
def lastJump (path : List Seg) : Option Seg :=
  match path.reverse with
  | g :: h :: _ => if g.kind = .jump then some g else if g.kind = .pause ∧ h.kind = .jump then some h else none
  | [g] => if g.kind = .jump then some g else none
  | [] => none

/-- R232: the target of jump g, which the path ends with, becomes (x, y), and JUMP_DELAY follows it: the motion turns to it from where
the head will be at the first instant no set-point has been sent for; where the stream has moved on, from its present end
(log entry 50). -/
def State.retarget (s : State) (b : Sys2Proof.Beam) (g : Seg) (x y : Int) : State :=
  let j := s.beam[b].traj
  let sent : Int := match j.lastFrame with
    | some t => 8 * (t : Int)
    | none => s.nowEt
  let ends := ((j.path.getLast?).map (·.t1)).getD j.stream
  let t := max g.t0 (max s.nowEt sent)
  let s := if ends = j.stream ∧ t < ends then
      let p := (j.posAt t).fx
      s.modTraj b fun j => { j with path := cutPath j.path t, hx := p.1, hy := p.2.1, hz := p.2.2, stream := t }
    else s
  let j := s.beam[b].traj
  let s := s.addSeg b .jump j.stream (lineTime (x - j.hx) (y - j.hy) (g.z1 - j.hz) g.set.jumpSpeed) x y g.z1 none g.set
  let s := s.addPause b (8 * (g.set.jumpDelay : Int)) g.set
  s.modTraj b fun k => { k with settles := k.settles.dropLast ++ [k.stream] }

/-- The lead of a mark (R232): the unit's end point becomes the lead's start, and the lead is added. `join` says
that a tail stands before it, so that a crossing joins the two. -/
def State.addLead (s : State) (b : Sys2Proof.Beam) (m : Seg) (join : Bool) : State :=
  let g := m.set
  match m.dirIn with
  | none => s
  | some (dx, dy) =>
    let p := along m.x0 m.y0 (-dx) (-dy) ((g.flyLead * 1000 : Nat) * fxOne)
    let c := clipToField (s.field b) m.x0 m.y0 p.1 p.2
    let s := if c.2 then s.count (F.BEAM_TRAJ_STAT_FLY_CLIP b.val) else s
    let j := s.beam[b].traj
    let s := match (if join then none else lastJump j.path) with
      | some h => if c.1 = (j.hx, j.hy) then s else s.retarget b h c.1.1 c.1.2
      | none =>
        if c.1 = (j.hx, j.hy) ∨ (c.1 = (m.x0, m.y0) ∧ join = false) then s else s.addFly b .crossing c.1.1 c.1.2 g.jumpSpeed g
    if c.1 = (m.x0, m.y0) then s else s.addFly b .lead m.x0 m.y0 g.markSpeed g

/-- A motion element to be handed over: its piece of path without times. -/
def Seg.duration (g : Seg) : Nat :=
  match g.arc with
  | none => lineTime (g.x1 - g.x0) (g.y1 - g.y0) (g.z1 - g.z0) (if g.kind = .jump then g.set.jumpSpeed else g.set.markSpeed)
  | some (cx, cy, sw) =>
    arcTime ((g.x0 - cx).natAbs * (g.x0 - cx).natAbs + (g.y0 - cy).natAbs * (g.y0 - cy).natAbs) sw g.set.markSpeed

/-- What every hand-over leaves: the beam has handed over an element, its motion end, and priming once the horizon
reaches L_eff (R21, R25). -/
def State.handedOver (s : State) (b : Sys2Proof.Beam) : State :=
  let s := s.modTraj b fun j => { j with handed := true, stopAt := none }
  let s := s.motionTo b
  let s := match s.beam[b].present with
    | some w => if s.nowEt + s.leffEt b ≤ s.beam[b].traj.stream then s.modSwath b w.hdr.id fun w => { w with primed := true } else s
    | none => s
  (s.prunePath b).pump b

/-- A jump to (x, y, z) in path units (R228, R231). -/
def State.handJump (s : State) (b : Sys2Proof.Beam) (x y z : Int) (g : Settings) : State :=
  let s := s.enqueue b .jump s.beam[b].traj.seq.isSome
  let s := if s.starved b then s.starve b else s.endSequence b
  let s := s.startStream b
  let j := s.beam[b].traj
  let s := s.syncChange b j.stream g
  let s := s.addSeg b .jump j.stream (lineTime (x - j.hx) (y - j.hy) (z - j.hz) g.jumpSpeed) x y z none g
  let s := s.addPause b (8 * (g.jumpDelay : Int)) g
  let s := s.modTraj b fun k => { k with settles := k.settles ++ [k.stream] }
  s.handedOver b

/-- The first mark of a sequence (R230): its rise, the pause of a negative on-delay, the mark. It starts where the head is; an arc that
starts elsewhere than the program's position, behind a tail, turns about its centre from there (log entry 50). -/
def State.openSequence (s : State) (b : Sys2Proof.Beam) (m : Seg) : State :=
  let g := m.set
  let j := s.beam[b].traj
  let m := match m.arc with
    | some (cx, cy, sw) =>
      if j.hx = m.x0 ∧ j.hy = m.y0 then m
      else
        let p := turn j.hx j.hy cx cy sw (2 ^ 32)
        { m with x1 := p.1, y1 := p.2 }
    | none => m
  let m := { m with x0 := j.hx, y0 := j.hy, z0 := j.hz }
  let before := j.lastGate
  let t0 := j.stream
  let d := 8 * g.onDelay
  let (rise, s) := s.placeRise b (if 0 ≤ d then t0 + d else t0) g
  let s := if d < 0 then s.addPause b (-d) g else s
  let s := s.addSeg b m.kind s.beam[b].traj.stream m.duration m.x1 m.y1 m.z1 m.arc g
  s.modTraj b fun j => { j with seq := some ⟨j.stream, rise, m.dirOut, g, before⟩ }

/-- A mark or arc (R228-R236): a join of the open sequence, a BEND boundary, or a sequence of its own. `m` holds its
ends and settings; its start is the program's position. -/
def State.handMark (s : State) (b : Sys2Proof.Beam) (m : Seg) (lead : Bool) : State :=
  let s := s.enqueue b m.kind (lead || m.set.flyFlags != 0)
  let s := if s.starved b then s.starve b else s
  let s := match s.beam[b].traj.seq with
    | none =>
      let s := s.startStream b
      let s := if lead then s.addLead b m false else s
      let s := s.syncChange b s.beam[b].traj.stream m.set
      s.openSequence b m
    | some q =>
      let a := turnAngle q.dir m.dirIn
      if q.set.flyFlags.testBit 2 ∧ q.set.flyAngle < a.1 then
        let s := (s.sequenceFall b q).leaveMark b q true
        let s := s.addLead b m true
        let s := s.syncChange b s.beam[b].traj.stream m.set
        s.openSequence b m
      else
        let s := if a.2 then s else s.addPause b (8 * (q.set.polyDelay : Int)) q.set
        let t := s.beam[b].traj.stream
        let s := (s.syncChange b t m.set).modChange b t q.rise m.set
        let s := s.addSeg b m.kind t m.duration m.x1 m.y1 m.z1 m.arc m.set
        s.modTraj b fun j => { j with seq := some { q with te := j.stream, dir := m.dirOut, set := m.set } }
  let s := s.modArb b fun a => { a with cur := a.cur.map fun l => { l with lit := true } }
  s.handedOver b

/-- SEQUENCE_STARVE (R236): the deadline has passed with no element handed over. An XK channel has no such rule (R626, R627). -/
def execSequenceStarve (b : Sys2Proof.Beam) (s : State) : Host.Outcome State Fault Refusal :=
  .next (if s.starved b && !s.xkOwns b then s.starve b else s)

/-! ## The beam's loop (R310, R326) -/

/-- s with the loop of beam b changed by f. -/
def State.modLoop (s : State) (b : Sys2Proof.Beam) (f : LoopSt → LoopSt) : State := { s with loops := vmod s.loops b f }

/-- What a restart or an entry prepares of beam b's loop (R310, R324, R326): `entry` drops the held inputs too. -/
def State.loopPrepare (s : State) (b : Sys2Proof.Beam) (entry : Bool) : State :=
  s.modLoop b fun l => { l with
    starting := true, gain := none, dPrev := []
    inp := if entry then Vector.replicate 8 0 else l.inp
    bedE := if entry then none else l.bedE }

end Sys2Proof.Machine
end

