-- ==== Sys2Proof/Machine/Engines.lean ====
section
/-! DEFINITION. How an engine executes one instruction: what comes before it, the exceptions it can take, and what
its completion does (04_engine_isa.md R142, R150, R152, R184; 05_beam_instructions.md R192). -/

namespace Sys2Proof.Machine

/-! ## Instructions -/

/-- What an instruction does: completes and goes on behind itself; completes and goes on at an address; takes an
exception of a cause with a DETAIL; holds the engine at the instruction; or stalls until a domain is ON. -/
inductive Eff
  | done (s : State)
  | jump (s : State) (pc : Word)
  | exc (cause detail : Nat)
  | hold (s : State)
  | stall (d : Fin 44)
  deriving Repr

/-- The engine's program counter stands behind the program of its swath (R192). -/
def State.atProgramEnd (s : State) (e : Eng) : Bool :=
  match beamOfEng e with
  | none => false
  | some b => match s.beam[b].present with
    | some w => !s.eng[e].active && decide (s.eng[e].pc.toNat = 0x10000000 + w.hdr.progOfs + 4 * w.hdr.progLen)
    | none => false

/-- Beam b enters dispatch (R190): its engine is done with what it ran, and its watchdog holds its count. -/
def State.toDispatch (s : State) (b : Sys2Proof.Beam) : State :=
  let s := (s.modBeam b fun x => { x with disp := true, eretEnds := false, barrierStart := none }).modEng (engOf b)
    fun x => { x with wait := none }
  (s.wdogSync (engOf b)).owesSearch b

/-- R192: the normal end of the present swath of beam b, or SWEND with none held (R190): the lease is released, the
open sequence ends, and the beam enters dispatch. -/
def State.normalEnd (s : State) (b : Sys2Proof.Beam) : State :=
  let s := if s.starved b then s.starve b else s.endSequence b
  let s := if s.beam[b].lease.isSome then s.giveUpLease b none else s
  let s := match s.beam[b].present with
    | some w => ((s.modSwath b w.hdr.id fun w => { w with ended := some s.now, primed := true }).pump b).swathOver b
    | none => s
  s.toDispatch b

/-- R207: the lease violation with DETAIL 2 that the engine of beam b takes at a beam instruction once its lease has expired. Where no
swath ran then, the outcome is settled already, and only the exception is taken (log entry 16). -/
def State.leaseViolation (s : State) (b : Sys2Proof.Beam) : State :=
  let u := s.modBeam b fun x => { x with expired := false, settled := false }
  if s.beam[b].settled && !s.eng[engOf b].active then (u.gateFall b u.nowEt).enterException (engOf b) 5 2 false
  else u.syncExc (engOf b) 5 2

/-- The instruction at PC itself: the end of the swath's program, the fetch, an illegal encoding, or the body. -/
def State.runBody (s : State) (e : Eng) (i : Instr) (len : Nat) (illegal : Option Nat) (body : State → Eff) : State :=
  if s.atProgramEnd e then
    match beamOfEng e with
    | some b => if s.beam[b].expired then s.leaseViolation b else s.normalEnd b
    | none => s
  else match s.fetchExc e with
    | some (c, d) => s.syncExc e c d
    | none => match illegal with
      | some d => s.syncExc e 1 d
      | none => match body (s.fetchFix e) with
        | .done t => t.modEng e fun x => { x with pc := s.eng[e].pc + BitVec.ofNat 32 len }
        | .jump t pc => t.modEng e fun x => { x with pc := pc }
        | .exc c d => (s.fetchFix e).syncExc e c d
        | .hold t => t
        | .stall d => ((s.fetchFix e).wakeDomain d).modEng e fun x => { x with wait := some (.stalled i) }

/-- The domain that the fetch at PC asks: that of the Silo bank, if the program lies in the Silo (R36, R41, R145). -/
def State.fetchDomain (s : State) (e : Eng) : Option (Fin 44) :=
  let pc := s.eng[e].pc.toNat
  if 0x10000000 ≤ pc ∧ pc < 0x10000000 + siloSize then some (domainOfSilo (pc - 0x10000000)) else none

/-- The domains that engine e needs to execute at PC: its own, and that of the fetch. -/
def State.engDomains (s : State) (e : Eng) : List (Fin 44) := (domainOfEng e).toList ++ (s.fetchDomain e).toList

/-- A watchdog exception that stayed pending is taken: its entry reloads the watchdog (R186), or it faults the engine while ACTIVE is 1
(R182, R185). -/
def State.wdogTaken (s : State) (e : Eng) : State :=
  let s := s.modEng e fun x => { x with wdogDue := false }
  if s.eng[e].active then s.engFault e 7 true else (s.enterException e 7 0 true).wdogReload e

/-- One instruction of engine e, `len` bytes long: nothing while the engine executes nothing; else a pending
asynchronous exception, a stall until a domain that it needs is ON (R41), or the instruction at PC (R184). -/
def State.runEng (s : State) (e : Eng) (i : Instr) (len : Nat) (illegal : Option Nat) (body : State → Eff) : State :=
  if s.engExecutes e then
    if s.eng[e].late.isSome && !s.eng[e].active then
      (s.modEng e fun x => { x with late := none }).enterException e 6 (s.eng[e].late.getD 0) true
    else if s.eng[e].wdogDue then s.wdogTaken e
    else match (s.engDomains e).find? fun d => !s.domainOn d with
      | some d => (s.wakeDomain d).modEng e fun x => { x with wait := some (.stalled i) }
      | none => (forEach (s.engDomains e) s fun s d => s.touch d).runBody e i len illegal body
  else s

/-- An instruction that changes only its own engine. -/
def State.runLocal (s : State) (e : Eng) (i : Instr) (len : Nat) (illegal : Option Nat) (f : Engine → Engine) : State :=
  s.runEng e i len illegal fun s => .done (s.modEng e f)

/-- DETAIL 2 where a field that must be zero is not, or names no register of its kind (R150). -/
def badField (p : Bool) : Option Nat := if p then some 2 else none

end Sys2Proof.Machine
end

