-- ==== Sys2Proof/Machine/AxProfile.lean ====
section
/-! DEFINITION. Axis profiles (10_axes.md R385, R389-R391, R395, R396): positions in 2^-32 units, time in 2^-20 ns, speeds
in 2^-32 units/s, accelerations in units/s² (log entry 22). -/

namespace Sys2Proof.Machine

/-- The time units of a second. -/
def axSec : Int := 1000000000 * 2 ^ 20
/-- A position unit. -/
def axUnit : Int := 2 ^ 32
/-- An instant of TS64 in time units. -/
def axTime (ns : Int) : Int := ns * 2 ^ 20
/-- An instant in whole ns, to the nearest with ties upwards (R397). -/
def axNs (t : Int) : Int := (2 * t + 2 ^ 20).fdiv (2 ^ 21)
/-- A speed given as full steps/s in 16.16 (R6, R384). -/
def axSpeed (raw : Int) : Int := raw * 2 ^ 24
/-- An instant behind every other. -/
def axFar : Int := 2 ^ 96

/-- The position of a piece at t. -/
def AxPiece.pos (p : AxPiece) (t : Int) : Int :=
  let d := t - p.ta
  p.pa + (2 * p.va * d * axSec + p.acc * axUnit * d * d).fdiv (2 * axSec * axSec)
/-- The speed of a piece at t. -/
def AxPiece.vel (p : AxPiece) (t : Int) : Int := p.va + (p.acc * axUnit * (t - p.ta)).fdiv axSec

/-- The position of a profile at t. -/
def profPos : List AxPiece → Int → Int → Int
  | [], r, _ => r
  | p :: ps, r, t =>
    if t < p.t0 then p.pos p.t0
    else match p.t1 with
      | none => p.pos t
      | some e => if t < e then p.pos t else profPos ps r t

/-- The piece of a profile in force at t. -/
def profPiece : List AxPiece → Int → Option AxPiece
  | [], _ => none
  | p :: ps, t =>
    if t < p.t0 then none
    else match p.t1 with
      | none => some p
      | some e => if t < e then some p else profPiece ps t

/-- The speed of a profile at t. -/
def profVel (l : List AxPiece) (t : Int) : Int := match profPiece l t with
  | some p => p.vel t
  | none => 0

/-- The instant at which a profile comes to rest for good, if it does. -/
def profEnd (l : List AxPiece) : Option Int := match l.getLast? with
  | some p => p.t1
  | none => some 0

/-- The pieces in force before t, and their ends cut to t. -/
def profCut (l : List AxPiece) (t : Int) : List AxPiece :=
  (l.filter fun p => decide (p.t0 < t)).map fun p => { p with t1 := some (match p.t1 with
    | some e => min e t
    | none => t) }

/-- The time a change of speed takes. -/
def axRamp (dv acc : Int) : Int := if acc = 0 then 0 else (dv.natAbs * axSec).fdiv (acc.natAbs * axUnit)
/-- The way a change between two speeds takes, at an acceleration. -/
def axWay (u v acc : Int) : Int := if acc = 0 then 0 else ((u * u - v * v).natAbs : Int).fdiv (2 * acc.natAbs * axUnit)

/-- R385, R391, R395: from position p with speed v towards tgt at instant t: to the cruise speed vmax at acc, and to rest
exactly on tgt. -/
def planMove (t p v tgt vmax acc : Int) : List AxPiece :=
  let d : Int := (tgt - p).natAbs
  if d = 0 then []
  else
    let g : Int := if p < tgt then 1 else -1
    let u : Int := v.natAbs
    let fits := decide (vmax < u) || decide (axWay vmax u acc + axWay vmax 0 acc ≤ d)
    let vp : Int := if fits then vmax else (isqrt ((acc * axUnit * d + u * u / 2).toNat) : Nat)
    let s1 := axWay vp u acc
    let s3 := axWay vp 0 acc
    let t1 := t + axRamp (vp - u) acc
    let t2 := t1 + (if vp = 0 then 0 else ((max 0 (d - s1 - s3)) * axSec).fdiv vp)
    let t3 := t2 + axRamp vp acc
    [⟨t, some t1, t, p, g * u, if vp < u then -(g * acc) else g * acc⟩, ⟨t1, some t2, t1, p + g * s1, g * vp, 0⟩,
      ⟨t2, some t3, t3, tgt, 0, -(g * acc)⟩].filter fun q => decide (some q.t0 ≠ q.t1)

/-- A way of less than 2^-20 units is rounding (log entry 22). -/
def axSlack : Int := 4096

/-- R389: the earliest rest point in the direction of motion, a multiple of grid, from position p with speed v at t; the
pieces that lead there and the rest point. -/
def planStop (t p v acc grid : Int) : List AxPiece × Int :=
  if v = 0 then ([], p)
  else
    let g : Int := if 0 < v then 1 else -1
    let way := axWay v 0 acc
    let m := grid * axUnit
    let rest := g * (-((-(g * p + way - axSlack)).fdiv m) * m)
    let d := max 0 (g * (rest - p) - way)
    let t1 := t + (d * axSec).fdiv v.natAbs
    let t2 := t1 + axRamp v acc
    ([⟨t, some t1, t, p, v, 0⟩, ⟨t1, some t2, t2, rest, 0, -(g * acc)⟩].filter (fun q => decide (some q.t0 ≠ q.t1)), rest)

/-- R390: the speed follows the target speed vt at slope acc; the pieces, and the rest point where vt is 0. -/
def planVel (t p v vt acc : Int) : List AxPiece × Int :=
  let g : Int := if v < vt then 1 else -1
  let t1 := t + axRamp (vt - v) acc
  let ramp : AxPiece := ⟨t, some t1, t, p, v, g * acc⟩
  let p1 := ramp.pos t1
  ((if t1 = t then [] else [ramp]) ++ (if vt = 0 then [] else [⟨t1, none, t1, p1, vt, 0⟩]), p1)

/-- R406: VELOCITY towards a soft limit: it rests at the limit, or as soon as acc allows. -/
def planSoft (t p v vt acc lim grid : Int) : List AxPiece × Int :=
  let g : Int := if 0 < vt then 1 else -1
  let back := decide (g * v < 0)
  let turn := planVel t p v 0 acc
  let t0 := if back then t + axRamp v acc else t
  let p0 := if back then turn.2 else p
  let v0 := if back then 0 else v
  let pre := if back then turn.1 else []
  let d := g * (lim - p0)
  if axWay v0 0 acc ≤ d then (pre ++ planMove t0 p0 v0 lim vt.natAbs acc, lim)
  else
    let st := planStop t0 p0 v0 acc grid
    (pre ++ st.1, st.2)

/-- R391, R396: a move that must first come to rest, at acc, and then runs at the new acceleration; none where the target lies ahead,
far enough off. -/
def planBack (t p v tgt vmax acc new grid : Int) : Option (List AxPiece) :=
  let g : Int := if 0 < v then 1 else -1
  if v = 0 ∨ axWay v 0 acc ≤ g * (tgt - p) + axSlack then none
  else
    let st := planStop t p v acc grid
    some (st.1 ++ planMove ((profEnd st.1).getD t) st.2 0 tgt vmax new)

/-- R391: a move that takes over from speed v: it goes on, or first comes to rest. -/
def planTake (t p v tgt vmax acc grid : Int) : List AxPiece :=
  (planBack t p v tgt vmax acc acc grid).getD (planMove t p v tgt vmax acc)

/-- R396 while decelerating: cruise at v, then decelerate at acc and land on tgt. -/
def planLate (t p v tgt acc : Int) : List AxPiece :=
  let g : Int := if 0 < v then 1 else -1
  let d := max 0 (g * (tgt - p) - axWay v 0 acc)
  if v = 0 then []
  else
    let t1 := t + (d * axSec).fdiv v.natAbs
    let t2 := t1 + axRamp v acc
    [⟨t, some t1, t, p, v, 0⟩, ⟨t1, some t2, t2, tgt, 0, -(g * acc)⟩].filter fun q => decide (some q.t0 ≠ q.t1)

/-! ## Where a profile reaches a position -/

/-- The first instant in (a, b] at which the piece is at or beyond P in direction g, if it is so at b. -/
def AxPiece.bisect (p : AxPiece) (g P : Int) : Nat → Int → Int → Int
  | 0, _, b => b
  | n + 1, a, b =>
    if b ≤ a + 1 then b
    else
      let m := (a + b).fdiv 2
      if 0 ≤ g * (p.pos m - P) then p.bisect g P n a m else p.bisect g P n m b

/-- The monotone parts of a piece from instant a on; a part without end is cut where it has covered the way to the farther
of two positions. -/
def AxPiece.parts (p : AxPiece) (a lo hi : Int) : List (Int × Int) :=
  let a := max a p.t0
  let b := match p.t1 with
    | some e => e
    | none => if p.va = 0 then a else a + ((hi - lo) * axSec).fdiv p.va.natAbs + 2
  if b ≤ a then []
  else if p.acc = 0 then [(a, b)]
  else
    let z := p.ta - (p.va * axSec).fdiv (p.acc * axUnit)
    if a < z ∧ z < b then [(a, z), (z, b)] else [(a, b)]

/-- The first instant after a at which the profile reaches hi upwards or lo downwards, and whether upwards. -/
def nextCross (lo hi : Int) : List AxPiece → Int → Option (Int × Bool)
  | [], _ => none
  | p :: ps, a =>
    match (p.parts a lo hi).findSome? fun (x, y) =>
        if hi ≤ p.pos y ∧ p.pos x ≤ p.pos y then some (p.bisect 1 hi 128 x y, true)
        else if p.pos y ≤ lo ∧ p.pos y ≤ p.pos x then some (p.bisect (-1) lo 128 x y, false)
        else none with
    | some r => some r
    | none => nextCross lo hi ps a

/-- The greatest speed of a profile between two instants (R399). -/
def profPeak (l : List AxPiece) (a b : Int) : Nat :=
  l.foldl (fun m p =>
    let x := max a p.t0
    let y := match p.t1 with
      | some e => min b e
      | none => b
    if x ≤ y then max m (max (p.vel x).natAbs (p.vel y).natAbs) else m) 0

end Sys2Proof.Machine
end

