-- ==== Sys2Proof/Machine/EngineAlu.lean ====
section
/-! DEFINITION. Integer, Q15 and accumulator instructions, branches, special registers (04_engine_isa.md R155-R162,
R167-R169, R179, R183). -/

namespace Sys2Proof.Machine

/-! ## ALU and shifts (R155-R157) -/

/-- An ALU operation: g[d] takes its result, the flags its C and V when S is 1. -/
def Engine.alu (x : Engine) (d : GReg) (S : Bool) (o : AluOut) : Engine :=
  { x.setG d o.r with flags := if S then x.flags.of o else x.flags }

/-- A row of R155 on g[a] and g[b] and the C flag. -/
def State.aluRow (s : State) (e : Eng) (i : Instr) (d a b : GReg) (S : Bool) (f : Word → Word → Bool → AluOut) : State :=
  s.runLocal e i 4 none fun x => x.alu d S (f (x.rd a) (x.rd b) x.flags.c)

/-- ADD (R155). -/
def execAdd (e : Eng) (d a b : GReg) (S : Bool) (s : State) : Host.Outcome State Fault Refusal :=
  .next (s.aluRow e (.add e d a b S) d a b S fun x y _ => addOut x y false)
/-- SUB (R155). -/
def execSub (e : Eng) (d a b : GReg) (S : Bool) (s : State) : Host.Outcome State Fault Refusal :=
  .next (s.aluRow e (.sub e d a b S) d a b S fun x y _ => subOut x y true)
/-- AND (R155). -/
def execAnd (e : Eng) (d a b : GReg) (S : Bool) (s : State) : Host.Outcome State Fault Refusal :=
  .next (s.aluRow e (.and e d a b S) d a b S fun x y _ => plainOut (x &&& y))
/-- OR (R155). -/
def execOr (e : Eng) (d a b : GReg) (S : Bool) (s : State) : Host.Outcome State Fault Refusal :=
  .next (s.aluRow e (.or e d a b S) d a b S fun x y _ => plainOut (x ||| y))
/-- XOR (R155). -/
def execXor (e : Eng) (d a b : GReg) (S : Bool) (s : State) : Host.Outcome State Fault Refusal :=
  .next (s.aluRow e (.xor e d a b S) d a b S fun x y _ => plainOut (x ^^^ y))
/-- SLT (R155). -/
def execSlt (e : Eng) (d a b : GReg) (S : Bool) (s : State) : Host.Outcome State Fault Refusal :=
  .next (s.aluRow e (.slt e d a b S) d a b S fun x y _ => plainOut (if x.slt y then 1 else 0))
/-- SLTU (R155). -/
def execSltu (e : Eng) (d a b : GReg) (S : Bool) (s : State) : Host.Outcome State Fault Refusal :=
  .next (s.aluRow e (.sltu e d a b S) d a b S fun x y _ => plainOut (if x.ult y then 1 else 0))
/-- MIN (R155). -/
def execMin (e : Eng) (d a b : GReg) (S : Bool) (s : State) : Host.Outcome State Fault Refusal :=
  .next (s.aluRow e (.min e d a b S) d a b S fun x y _ => plainOut (if y.slt x then y else x))
/-- MAX (R155). -/
def execMax (e : Eng) (d a b : GReg) (S : Bool) (s : State) : Host.Outcome State Fault Refusal :=
  .next (s.aluRow e (.max e d a b S) d a b S fun x y _ => plainOut (if x.slt y then y else x))
/-- MINU (R155). -/
def execMinu (e : Eng) (d a b : GReg) (S : Bool) (s : State) : Host.Outcome State Fault Refusal :=
  .next (s.aluRow e (.minu e d a b S) d a b S fun x y _ => plainOut (if y.ult x then y else x))
/-- MAXU (R155). -/
def execMaxu (e : Eng) (d a b : GReg) (S : Bool) (s : State) : Host.Outcome State Fault Refusal :=
  .next (s.aluRow e (.maxu e d a b S) d a b S fun x y _ => plainOut (if x.ult y then y else x))
/-- ADDC (R155). -/
def execAddc (e : Eng) (d a b : GReg) (S : Bool) (s : State) : Host.Outcome State Fault Refusal :=
  .next (s.aluRow e (.addc e d a b S) d a b S fun x y c => addOut x y c)
/-- SUBB (R155). -/
def execSubb (e : Eng) (d a b : GReg) (S : Bool) (s : State) : Host.Outcome State Fault Refusal :=
  .next (s.aluRow e (.subb e d a b S) d a b S fun x y c => subOut x y c)
/-- MUL (R155). -/
def execMul (e : Eng) (d a b : GReg) (S : Bool) (s : State) : Host.Outcome State Fault Refusal :=
  .next (s.aluRow e (.mul e d a b S) d a b S fun x y _ =>
    { r := x * y, v := signedOverflow (x.toInt * y.toInt) })
/-- MULH (R155). -/
def execMulh (e : Eng) (d a b : GReg) (S : Bool) (s : State) : Host.Outcome State Fault Refusal :=
  .next (s.aluRow e (.mulh e d a b S) d a b S fun x y _ =>
    plainOut (BitVec.ofInt 32 ((x.toInt * y.toInt).fdiv (2 ^ 32))))
/-- MULHU (R155). -/
def execMulhu (e : Eng) (d a b : GReg) (S : Bool) (s : State) : Host.Outcome State Fault Refusal :=
  .next (s.aluRow e (.mulhu e d a b S) d a b S fun x y _ => plainOut (BitVec.ofNat 32 (x.toNat * y.toNat / 2 ^ 32)))

/-- A division (R156): `odd` marks the cases that set V whatever S is. -/
def State.divRow (s : State) (e : Eng) (i : Instr) (d a b : GReg) (S : Bool) (f : Word → Word → Word × Bool) : State :=
  s.runLocal e i 4 none fun x =>
    let q := f (x.rd a) (x.rd b)
    let y := x.alu d S { r := q.1, v := q.2 }
    if q.2 then { y with flags := { y.flags with v := true } } else y

/-- The most negative word. -/
def minWord : Word := 0x80000000#32

/-- DIV (R155, R156). -/
def execDiv (e : Eng) (d a b : GReg) (S : Bool) (s : State) : Host.Outcome State Fault Refusal :=
  .next (s.divRow e (.div e d a b S) d a b S fun x y =>
    if y = 0 then (0xFFFFFFFF#32, true)
    else if x = minWord ∧ y = 0xFFFFFFFF#32 then (minWord, true)
    else (BitVec.ofInt 32 (x.toInt.tdiv y.toInt), false))
/-- DIVU (R155, R156). -/
def execDivu (e : Eng) (d a b : GReg) (S : Bool) (s : State) : Host.Outcome State Fault Refusal :=
  .next (s.divRow e (.divu e d a b S) d a b S fun x y =>
    if y = 0 then (0xFFFFFFFF#32, true) else (x / y, false))
/-- REM (R155, R156). -/
def execRem (e : Eng) (d a b : GReg) (S : Bool) (s : State) : Host.Outcome State Fault Refusal :=
  .next (s.divRow e (.rem e d a b S) d a b S fun x y =>
    if y = 0 then (x, true)
    else if x = minWord ∧ y = 0xFFFFFFFF#32 then (0, true)
    else (BitVec.ofInt 32 (x.toInt.tmod y.toInt), false))
/-- REMU (R155, R156). -/
def execRemu (e : Eng) (d a b : GReg) (S : Bool) (s : State) : Host.Outcome State Fault Refusal :=
  .next (s.divRow e (.remu e d a b S) d a b S fun x y =>
    if y = 0 then (x, true) else (x % y, false))

/-- A shift of R157: the result and the last bit shifted out. -/
def State.shiftRow (s : State) (e : Eng) (i : Instr) (d a : GReg) (amt : ShAmt) (S : Bool) (f : Word → Nat → Word × Bool) : State :=
  s.runLocal e i 4 none fun x =>
    let n := shAmt x amt
    let q := f (x.rd a) n
    x.alu d S { r := q.1, c := decide (n ≠ 0) && q.2 }

/-- SLL (R157). -/
def execSll (e : Eng) (d a : GReg) (amt : ShAmt) (S : Bool) (s : State) : Host.Outcome State Fault Refusal :=
  .next (s.shiftRow e (.sll e d a amt S) d a amt S fun x n => (x <<< n, x.getLsbD (32 - n)))
/-- SRL (R157). -/
def execSrl (e : Eng) (d a : GReg) (amt : ShAmt) (S : Bool) (s : State) : Host.Outcome State Fault Refusal :=
  .next (s.shiftRow e (.srl e d a amt S) d a amt S fun x n => (x >>> n, x.getLsbD (n - 1)))
/-- SRA (R157). -/
def execSra (e : Eng) (d a : GReg) (amt : ShAmt) (S : Bool) (s : State) : Host.Outcome State Fault Refusal :=
  .next (s.shiftRow e (.sra e d a amt S) d a amt S fun x n => (x.sshiftRight n, x.getLsbD (n - 1)))
/-- ROR (R157): the last bit rotated out is the result's bit 31. -/
def execRor (e : Eng) (d a : GReg) (amt : ShAmt) (S : Bool) (s : State) : Host.Outcome State Fault Refusal :=
  .next (s.shiftRow e (.ror e d a amt S) d a amt S fun x n => (x.rotateRight n, x.getLsbD (n - 1)))

/-! ## Immediates (R158) -/

/-- A row of R158 that writes g[d] and leaves the flags. -/
def State.immRow (s : State) (e : Eng) (j : Instr) (d a : GReg) (i : Imm) (illegal : Option Nat) (f : Word → Word) : State :=
  s.runLocal e j (immLen i) illegal fun x => x.setG d (f (x.rd a))

/-- ADDI (R158). -/
def execAddi (e : Eng) (d a : GReg) (i : Imm) (s : State) : Host.Outcome State Fault Refusal :=
  .next (s.immRow e (.addi e d a i) d a i none fun x => x + immSext i)
/-- ANDI (R158). -/
def execAndi (e : Eng) (d a : GReg) (i : Imm) (s : State) : Host.Outcome State Fault Refusal :=
  .next (s.immRow e (.andi e d a i) d a i none fun x => x &&& immZext i)
/-- ORI (R158). -/
def execOri (e : Eng) (d a : GReg) (i : Imm) (s : State) : Host.Outcome State Fault Refusal :=
  .next (s.immRow e (.ori e d a i) d a i none fun x => x ||| immZext i)
/-- XORI (R158). -/
def execXori (e : Eng) (d a : GReg) (i : Imm) (s : State) : Host.Outcome State Fault Refusal :=
  .next (s.immRow e (.xori e d a i) d a i none fun x => x ^^^ immZext i)
/-- LUI (R158): a must be 0. -/
def execLui (e : Eng) (d a : GReg) (i : Imm) (s : State) : Host.Outcome State Fault Refusal :=
  .next (s.immRow e (.lui e d a i) d a i (badField (decide (a ≠ 0))) fun _ => immHigh i)
/-- SLTI (R158). -/
def execSlti (e : Eng) (d a : GReg) (i : Imm) (s : State) : Host.Outcome State Fault Refusal :=
  .next (s.immRow e (.slti e d a i) d a i none fun x => if x.slt (immSext i) then 1 else 0)
/-- SLTIU (R158). -/
def execSltiu (e : Eng) (d a : GReg) (i : Imm) (s : State) : Host.Outcome State Fault Refusal :=
  .next (s.immRow e (.sltiu e d a i) d a i none fun x => if x.ult (immSext i) then 1 else 0)
/-- CMPI (R158): d must be 0. -/
def execCmpi (e : Eng) (d a : GReg) (i : Imm) (s : State) : Host.Outcome State Fault Refusal :=
  .next (s.runLocal e (.cmpi e d a i) (immLen i) (badField (decide (d ≠ 0))) fun x =>
    { x with flags := x.flags.of (subOut (x.rd a) (immSext i) true) })
/-- TSTI (R158): d must be 0. -/
def execTsti (e : Eng) (d a : GReg) (i : Imm) (s : State) : Host.Outcome State Fault Refusal :=
  .next (s.runLocal e (.tsti e d a i) (immLen i) (badField (decide (d ≠ 0))) fun x =>
    { x with flags := x.flags.of (plainOut (x.rd a &&& immZext i)) })

/-! ## Q15 and accumulators (R159-R162) -/

/-- V gathers a saturation (R159). -/
def Engine.gather (x : Engine) (v : Bool) : Engine := { x with flags := { x.flags with v := x.flags.v || v } }

/-- Accumulator n takes i saturated to 40 bits (R159). -/
def Engine.setAcc (x : Engine) (n : Fin 8) (i : Int) : Engine :=
  ({ x with acc := x.acc.set n (BitVec.ofInt 40 (sat40 i).1) }).gather (sat40 i).2

/-- g[d] takes a Q15 result (R159). -/
def Engine.setQ (x : Engine) (d : GReg) (q : Int × Bool) : Engine := (x.setG d (BitVec.ofInt 32 q.1)).gather q.2

/-- MACQ (R161). -/
def execMacq (e : Eng) (d a b : GReg) (s : State) : Host.Outcome State Fault Refusal :=
  .next (s.runLocal e (.macq e d a b) 4 (badField (notAcc d)) fun x =>
    x.setAcc (accOf d) (accVal x.acc[accOf d] + q15 (x.rd a) * q15 (x.rd b)))
/-- MSUQ (R161). -/
def execMsuq (e : Eng) (d a b : GReg) (s : State) : Host.Outcome State Fault Refusal :=
  .next (s.runLocal e (.msuq e d a b) 4 (badField (notAcc d)) fun x =>
    x.setAcc (accOf d) (accVal x.acc[accOf d] - q15 (x.rd a) * q15 (x.rd b)))
/-- MULQA (R161). -/
def execMulqa (e : Eng) (d a b : GReg) (s : State) : Host.Outcome State Fault Refusal :=
  .next (s.runLocal e (.mulqa e d a b) 4 (badField (notAcc d)) fun x =>
    x.setAcc (accOf d) (q15 (x.rd a) * q15 (x.rd b)))
/-- CLRA (R161). -/
def execClra (e : Eng) (d a b : GReg) (s : State) : Host.Outcome State Fault Refusal :=
  .next (s.runLocal e (.clra e d a b) 4 (badField (notAcc d || decide (a ≠ 0 ∨ b ≠ 0))) fun x => x.setAcc (accOf d) 0)
/-- RNDQ (R161). -/
def execRndq (e : Eng) (d a b : GReg) (s : State) : Host.Outcome State Fault Refusal :=
  .next (s.runLocal e (.rndq e d a b) 4 (badField (notAcc a || decide (b ≠ 0))) fun x =>
    x.setQ d (reduceQ (accVal x.acc[accOf a])))
/-- ADDQ (R161). -/
def execAddq (e : Eng) (d a b : GReg) (s : State) : Host.Outcome State Fault Refusal :=
  .next (s.runLocal e (.addq e d a b) 4 none fun x => x.setQ d (satQ15 (q15 (x.rd a) + q15 (x.rd b))))
/-- SUBQ (R161). -/
def execSubq (e : Eng) (d a b : GReg) (s : State) : Host.Outcome State Fault Refusal :=
  .next (s.runLocal e (.subq e d a b) 4 none fun x => x.setQ d (satQ15 (q15 (x.rd a) - q15 (x.rd b))))
/-- MULQ (R161). -/
def execMulq (e : Eng) (d a b : GReg) (s : State) : Host.Outcome State Fault Refusal :=
  .next (s.runLocal e (.mulq e d a b) 4 none fun x => x.setQ d (reduceQ (q15 (x.rd a) * q15 (x.rd b))))
/-- ADDA (R161). -/
def execAdda (e : Eng) (d a b : GReg) (s : State) : Host.Outcome State Fault Refusal :=
  .next (s.runLocal e (.adda e d a b) 4 (badField (notAcc d || notAcc a || decide (b ≠ 0))) fun x =>
    x.setAcc (accOf d) (accVal x.acc[accOf d] + accVal x.acc[accOf a]))
/-- ASHA (R161): the b field is a signed 5-bit shift. -/
def execAsha (e : Eng) (d a b : GReg) (s : State) : Host.Outcome State Fault Refusal :=
  .next (s.runLocal e (.asha e d a b) 4 (badField (notAcc d || decide (a ≠ 0))) fun x =>
    let v := accVal x.acc[accOf d]
    let n := sgn 5 b.val
    x.setAcc (accOf d) (if 0 ≤ n then v * 2 ^ n.toNat else rdivEven v (2 ^ (-n).toNat)))
/-- RDAL (R162). -/
def execRdal (e : Eng) (d a b : GReg) (s : State) : Host.Outcome State Fault Refusal :=
  .next (s.runLocal e (.rdal e d a b) 4 (badField (notAcc a || decide (b ≠ 0))) fun x =>
    x.setG d (x.acc[accOf a].setWidth 32))
/-- RDAH (R162). -/
def execRdah (e : Eng) (d a b : GReg) (s : State) : Host.Outcome State Fault Refusal :=
  .next (s.runLocal e (.rdah e d a b) 4 (badField (notAcc a || decide (b ≠ 0))) fun x =>
    x.setG d (BitVec.ofInt 32 ((accVal x.acc[accOf a]).fdiv (2 ^ 32))))
/-- WRA (R162). -/
def execWra (e : Eng) (d a b : GReg) (s : State) : Host.Outcome State Fault Refusal :=
  .next (s.runLocal e (.wra e d a b) 4 (badField (notAcc d)) fun x =>
    { x with acc := x.acc.set (accOf d) (((x.rd b).setWidth 8) ++ (x.rd a)) })
/-- MOVQA (R162). -/
def execMovqa (e : Eng) (d a b : GReg) (s : State) : Host.Outcome State Fault Refusal :=
  .next (s.runLocal e (.movqa e d a b) 4 (badField (notAcc d || decide (b ≠ 0))) fun x =>
    { x with acc := x.acc.set (accOf d) (BitVec.ofInt 40 (q15 (x.rd a) * 32768)) })

/-! ## Control flow (R167, R168, R183) -/

/-- The target of a J-format instruction (R167). -/
def jTarget (x : Engine) (ofs : BitVec 22) : Word := x.pc + BitVec.ofInt 32 (4 * ofs.toInt)

/-- B (R167). -/
def execB (e : Eng) (cond : Fin 16) (ofs : BitVec 22) (s : State) : Host.Outcome State Fault Refusal :=
  .next (s.runEng e (.b e cond ofs) 4 none fun s =>
    if s.eng[e].flags.holds cond then .jump s (jTarget s.eng[e] ofs) else .done s)
/-- CALL (R167). -/
def execCall (e : Eng) (cond : Fin 16) (ofs : BitVec 22) (s : State) : Host.Outcome State Fault Refusal :=
  .next (s.runEng e (.call e cond ofs) 4 none fun s =>
    if s.eng[e].flags.holds cond then
      .jump (s.modEng e fun x => x.setG 31 (x.pc + 4)) (jTarget s.eng[e] ofs)
    else .done s)
/-- JR (R168). -/
def execJr (e : Eng) (a : GReg) (s : State) : Host.Outcome State Fault Refusal :=
  .next (s.runEng e (.jr e a) 4 none fun s =>
    let t := s.eng[e].rd a
    if t.toNat % 4 ≠ 0 then .exc 3 0 else .jump s t)
/-- JALR (R168). -/
def execJalr (e : Eng) (d a : GReg) (s : State) : Host.Outcome State Fault Refusal :=
  .next (s.runEng e (.jalr e d a) 4 none fun s =>
    let t := s.eng[e].rd a
    if t.toNat % 4 ≠ 0 then .exc 3 0 else .jump (s.modEng e fun x => x.setG d (x.pc + 4)) t)

/-- ERET clears ACTIVE and restores N, Z, C and V from SFLAGS (R183). -/
def Engine.restoreFlags (x : Engine) : Engine :=
  let f := x.ecause
  { x with
    flags := { x.flags with v := f.getLsbD 8, c := f.getLsbD 9, z := f.getLsbD 10, n := f.getLsbD 11 }
    ecause := f &&& ~~~ 0x10#32 }

/-- The swath of a beam engine's handler is ended or awaits restart, so ERET acts as SWEND (R215). -/
def State.eretEnds (s : State) (e : Eng) : Option Sys2Proof.Beam :=
  match beamOfEng e with
  | some b => if s.beam[b].eretEnds then some b else none
  | none => none

/-- A swath held by an exception handler now waits for dispatch (R215, R217). -/
def State.handlerDone (s : State) (b : Sys2Proof.Beam) : State :=
  (s.modBeam b fun x => { x with swaths := x.swaths.map fun w => if w.state = .handler then { w with state := .pend } else w }).toDispatch b

/-- ERET (R183, R215): d, a, b and function must be 0. -/
def execEret (e : Eng) (d a b : GReg) (fn : BitVec 11) (s : State) : Host.Outcome State Fault Refusal :=
  .next (s.runEng e (.eret e d a b fn) 4 (badField (decide (d ≠ 0 ∨ a ≠ 0 ∨ b ≠ 0 ∨ fn ≠ 0))) fun s =>
    let s' := s.modEng e fun x => x.restoreFlags
    match s.eretEnds e with
    | some b => .hold (s'.handlerDone b)
    | none => .jump s' s.eng[e].epc)

/-! ## Special registers (R142, R143, R169) -/

/-- Reading TNOW_LO latches the upper half for reader r (R99): engines are readers 0-20. -/
def State.latchNow (s : State) (r : Fin 30) : State :=
  { s with time := { s.time with tnowHi := s.time.tnowHi.set r s.nowHi } }

/-- The reader number of an engine (R99). -/
def readerOfEng (e : Eng) : Fin 30 := ⟨e.val, by omega⟩

/-- The word of ECAUSE with its constant ENGINE field (R181). -/
def State.ecauseWord (s : State) (e : Eng) : Word :=
  s.eng[e].ecause &&& 0x00FFFFFF#32 ||| BitVec.ofNat 32 (e.val * 2 ^ 24)

/-- MFS (R142, R169). -/
def execMfs (e : Eng) (d a b : GReg) (fn : BitVec 11) (s : State) : Host.Outcome State Fault Refusal :=
  .next (s.runEng e (.mfs e d a b fn) 4
    (if fn ≠ 0 ∨ b ≠ 0 then some 2 else if 6 ≤ a.val then some 3 else none) fun s =>
    let v : Word := match a.val with
      | 0 => s.eng[e].pc
      | 1 => BitVec.ofNat 32 (s.flagsWord e)
      | 2 => s.eng[e].epc
      | 3 => s.ecauseWord e
      | 4 => s.time.ts32
      | _ => s.time.tnowHi[readerOfEng e]
    let s := if a.val = 4 then s.latchNow (readerOfEng e) else s
    .done (s.modEng e fun x => x.setG d v))

/-- MTS (R142, R143, R169): FLAGS writes N, Z, C, V and clears L where the bit is 0; ECAUSE writes ACTIVE and SFLAGS. -/
def execMts (e : Eng) (d a b : GReg) (fn : BitVec 11) (s : State) : Host.Outcome State Fault Refusal :=
  .next (s.runLocal e (.mts e d a b fn) 4
    (if fn ≠ 0 ∨ b ≠ 0 then some 2 else if d.val = 1 ∨ d.val = 2 ∨ d.val = 3 then none else some 3) fun x =>
    let v := x.rd a
    match d.val with
    | 1 => { x with flags := { v := v.getLsbD 0, c := v.getLsbD 1, z := v.getLsbD 2, n := v.getLsbD 3,
                               l := x.flags.l && v.getLsbD 4 } }
    | 2 => { x with epc := v }
    | _ => { x with ecause := (x.ecause &&& ~~~ 0x3F10#32) ||| (v &&& 0x3F10#32) })

/-! ## System (R179) -/

/-- HALT (R179): d, a and b must be 0. -/
def execHalt (e : Eng) (d a b : GReg) (s : State) : Host.Outcome State Fault Refusal :=
  .next (s.runEng e (.halt e d a b) 4 (badField (decide (d ≠ 0 ∨ a ≠ 0 ∨ b ≠ 0))) fun s =>
    let s := s.haltBeam e
    .done ((if e.val < 20 then s.setFlag (F.SYS_ENG_CTRL_HALTED e.val) true else { s with holds := { s.holds with supHalt := true } }).wdogSync e))

/-- WDOG (R179, R186): d, a and b must be 0. -/
def execWdog (e : Eng) (d a b : GReg) (s : State) : Host.Outcome State Fault Refusal :=
  .next (s.runEng e (.wdog e d a b) 4 (badField (decide (d ≠ 0 ∨ a ≠ 0 ∨ b ≠ 0))) fun s => .done (s.wdogReload e))

end Sys2Proof.Machine
end

