-- ==== Sys2Proof/Machine/EngineSys.lean ====
section
/-! DEFINITION. Timed waits, general edges, rings, events and bed-map access from an engine (04_engine_isa.md
R170-R178, R186). -/

namespace Sys2Proof.Machine

/-! ## Timed waits (R170, R171) -/

/-- The engine holds at a wait. -/
def State.setWait (s : State) (e : Eng) (w : Wait) : State := s.modEng e fun x => { x with wait := some w }

/-- C and V of a wait that completes at issue, without a change of the program counter. -/
def State.waitFlags (s : State) (e : Eng) (c v : Bool) : State :=
  s.modEng e fun x => { x with flags := x.flags.waited c v }

/-- A wait until t (R170): at once with C when t has been reached, with V when it is refused, else held. -/
def State.waitUntil (s : State) (e : Eng) (t : Nat) (rel : Bool) : Eff :=
  if s.timeRefused t then .done (s.waitFlags e false true)
  else if s.reached t then .done (s.waitFlags e true false)
  else .hold (s.setWait e (.until (BitVec.ofNat 64 t) false rel 0))

/-- WAITT (R170): d must be 0. -/
def execWaitt (e : Eng) (d a b : GReg) (s : State) : Host.Outcome State Fault Refusal :=
  .next (s.runEng e (.waitt e d a b) 4 (badField (decide (d ≠ 0))) fun s => s.waitUntil e (timeOperand s.eng[e] a b) false)
/-- WAITR (R170): d and b must be 0. -/
def execWaitr (e : Eng) (d a b : GReg) (s : State) : Host.Outcome State Fault Refusal :=
  .next (s.runEng e (.waitr e d a b) 4 (badField (decide (d ≠ 0 ∨ b ≠ 0))) fun s =>
    s.waitUntil e ((s.now + (s.eng[e].rd a).toNat) % 2 ^ 64) true)

/-! ## Events (R175) -/

/-- The lowest pending source of a latch. -/
def lowest : List Nat → Option Nat
  | [] => none
  | x :: t => some (t.foldl min x)

/-- WAITE and EVPOLL take the lowest pending source, or complete as a timeout (R175). -/
def Engine.takeEvent (x : Engine) (d : GReg) (c v : Bool) : Engine :=
  match lowest x.latch with
  | some n =>
    let y := { x with latch := x.latch.erase n }.setG d (BitVec.ofNat 32 n)
    { y with flags := { y.flags.waited c v with z := false } }
  | none =>
    let y := x.setG d 0xFFFFFFFF#32
    { y with flags := { y.flags.waited c v with z := true } }

/-- EVSIG (R175): software event 168 + k. -/
def execEvsig (e : Eng) (d a b : GReg) (fn : BitVec 8) (s : State) : Host.Outcome State Fault Refusal :=
  .next (s.runEng e (.evsig e d a b fn) 4 (badField (decide (d ≠ 0 ∨ b ≠ 0 ∨ 32 ≤ fn.toNat))) fun s =>
    .done (s.raise (168 + fn.toNat) (s.eng[e].rd a).toNat))

/-- WAITE (R175): bit 0 of the function is NOTO. -/
def execWaite (e : Eng) (d a b : GReg) (fn : BitVec 8) (s : State) : Host.Outcome State Fault Refusal :=
  .next (s.runEng e (.waite e d a b fn) 4 (badField (decide (2 ≤ fn.toNat))) fun s =>
    let x := s.eng[e]
    let t := timeOperand x a b
    if fn.getLsbD 0 then
      if x.latch.isEmpty then .hold (s.setWait e (.event d)) else .done (s.modEng e fun x => x.takeEvent d false false)
    else if s.timeRefused t then .done (s.modEng e fun x => x.takeEvent d false true)
    else if s.reached t then .done (s.modEng e fun x => x.takeEvent d true false)
    else if x.latch.isEmpty then .hold (s.setWait e (.until (BitVec.ofNat 64 t) true false d))
    else .done (s.modEng e fun x => x.takeEvent d false false))

/-- EVPOLL (R175): as WAITE with a timeout already reached. -/
def execEvpoll (e : Eng) (d a b : GReg) (fn : BitVec 8) (s : State) : Host.Outcome State Fault Refusal :=
  .next (s.runLocal e (.evpoll e d a b fn) 4 (badField (decide (a ≠ 0 ∨ b ≠ 0 ∨ fn ≠ 0))) fun x => x.takeEvent d true false)

/-- How the instruction engine e waits at completes, once its condition is met (R170, R175). -/
def State.waitMet (s : State) (e : Eng) : Option (Engine → Engine) :=
  match s.eng[e].wait with
  | some (.until t isE _ d) =>
    if isE then (if !s.eng[e].latch.isEmpty || s.reached t.toNat then some fun x => x.takeEvent d false false else none)
    else if s.reached t.toNat then some fun x => { x with flags := x.flags.waited false false }
    else none
  | some (.event d) => if s.eng[e].latch.isEmpty then none else some fun x => x.takeEvent d false false
  | _ => none

/-- WAIT_RESUME (R170, R175): the condition of the engine's wait is met, and its instruction completes; a domain that is not ON
wakes first (R41). -/
def execWaitResume (e : Eng) (s : State) : Host.Outcome State Fault Refusal :=
  .next (
    if s.engLive e && !s.engHeld e then
      match s.waitMet e with
      | some f =>
        match (domainOfEng e).toList.find? fun d => !s.domainOn d with
        | some d => s.wakeDomain d
        | none => (forEach (domainOfEng e).toList s fun s d => s.touch d).modEng e fun x => x.complete f
      | none => s
    else s)

/-! ## General edges (R172) -/

/-- The general cell a SCHED names. -/
def schedCell (fn : BitVec 11) : Cell := ⟨80 + fn.toNat % 16, by omega⟩

/-- The instant of an edge at time t (ns, 64 bits) and eighths of a ns: as an ET value it holds 61 bits of ns, completed with those nearest
the present (R97, R98). -/
def State.edgeTime (s : State) (t frac : Nat) : Int :=
  let et : Int := 8 * (t : Int) + frac
  s.nowEt + sgn 64 (wrap 64 (et - s.nowEt))

/-- SCHED (R172): stalls while the edge lies beyond L_eff or the cell's queue is full (R19, R20). -/
def State.sched (s : State) (e : Eng) (i : Instr) (a b : GReg) (fn : BitVec 11) : Eff :=
  let t := timeOperand s.eng[e] a b
  let c := schedCell fn
  if !s.cellOut c || s.timeRefused t then
    .done (s.modEng e fun x => { x with flags := { x.flags with v := true } })
  else
    let et := s.edgeTime t (fn.toNat / 32 % 8)
    if decide ((s.leff * 8000 : Nat) < s.etAhead et) || !s.cellRoom c then .hold (s.setWait e (.stalled i))
    else
      let x : Edge := { et := et, what := .level (fn.getLsbD 4), owner := some e }
      .done ({ s with transit := s.transit ++ [(c, x)] }.modEng e fun x => { x with flags := { x.flags with v := false } })

/-- SCHED (R172): d and function[10:8] must be 0. -/
def execSched (e : Eng) (d a b : GReg) (fn : BitVec 11) (s : State) : Host.Outcome State Fault Refusal :=
  .next (s.runEng e (.sched e d a b fn) 4 (badField (decide (d ≠ 0 ∨ 256 ≤ fn.toNat))) fun s =>
    s.sched e (.sched e d a b fn) a b fn)

/-! ## Rings (R173) -/

/-- Ring operations reach the Silo at an aligned descriptor address: DETAIL 0, then 3 (R173). -/
def ringAddrExc (a : Nat) : Option Eff :=
  if a % 32 ≠ 0 then some (.exc 3 0)
  else if 0x10000000 ≤ a ∧ a < 0x10000000 + siloSize then none else some (.exc 3 3)

/-- The status of an RPUT on ring n, 0 when it may run (R173, R508). -/
def State.rputStatus (s : State) (n : Nat) : Nat :=
  if 52 ≤ n then 5
  else if n < 32 ∧ s.get (F.HOST_HRING_CFG_KIND n) ≠ 1 then 4
  else if s.ringOn n = false then 2
  else if s.ringClosed n then 3
  else if s.ringFull n then 1 else 0

/-- The 32 bytes of the TAIL slot of host ring n, and TAIL past it. -/
def State.putHost (s : State) (n a : Nat) : State :=
  let d := s.slotAddr n (s.get (F.HOST_RING_TAIL_SLOT n))
  ({ s with silo := (s.silo.setBytes d (s.silo.bytes a 32)).renew d 32 }).setTail n (s.ringNext n (s.vTail n))

/-- RPUT on ring n from Silo offset a (R173). -/
def State.rput (s : State) (n a : Nat) : State :=
  if n < 32 then s.putHost n a
  else
    let s := s.putDesc n a
    if 48 ≤ n then s.searchAgain else s

/-- RPUT (R173). -/
def execRput (e : Eng) (d a b : GReg) (s : State) : Host.Outcome State Fault Refusal :=
  .next (s.runEng e (.rput e d a b) 4 none fun s =>
    let x := s.eng[e]
    let n := (x.rd b).toNat % 64
    let p := (x.rd a).toNat
    match ringAddrExc p with
    | some q => q
    | none =>
      let st := s.rputStatus n
      if st ≠ 0 then .done (s.modEng e fun x => x.setG d (BitVec.ofNat 32 st))
      else
        let o := p - 0x10000000
        let slot := s.slotAddr n (s.get (F.HOST_RING_TAIL_SLOT n))
        if s.domainOn (domainOfSilo o) = false then .stall (domainOfSilo o)
        else if s.domainOn (domainOfSilo slot) = false then .stall (domainOfSilo slot)
        else if s.silo.badIn o 32 then .exc 4 2
        else .done (((s.siloFix o 32).rput n o).modEng e fun x => x.setG d 0))

/-- The status of an RGET on ring n (R173, R508). -/
def State.rgetStatus (s : State) (n : Nat) : Nat :=
  if 52 ≤ n then 5
  else if 32 ≤ n ∨ s.get (F.HOST_HRING_CFG_KIND n) ≠ 0 then 4
  else if s.ringOn n = false then 2
  else if s.ringCount n = 0 then 1 else 0

/-- RGET (R173). -/
def execRget (e : Eng) (d a b : GReg) (s : State) : Host.Outcome State Fault Refusal :=
  .next (s.runEng e (.rget e d a b) 4 none fun s =>
    let x := s.eng[e]
    let n := (x.rd b).toNat % 64
    let p := (x.rd a).toNat
    match ringAddrExc p with
    | some q => q
    | none =>
      let st := s.rgetStatus n
      if st ≠ 0 then .done (s.modEng e fun x => x.setG d (BitVec.ofNat 32 st))
      else
        let src := s.slotAddr n (s.get (F.HOST_RING_HEAD_SLOT n))
        let o := p - 0x10000000
        if s.domainOn (domainOfSilo src) = false then .stall (domainOfSilo src)
        else if s.domainOn (domainOfSilo o) = false then .stall (domainOfSilo o)
        else if s.silo.badIn src 32 then .exc 4 2
        else
          let s := s.siloFix src 32
          let s := { s with silo := (s.silo.setBytes o (s.silo.bytes src 32)).renew o 32 }
          .done ((s.setHead n (s.ringNext n (s.vHead n))).modEng e fun x => x.setG d 0))

/-- RCOUNT (R173): a must be 0. -/
def execRcount (e : Eng) (d a b : GReg) (s : State) : Host.Outcome State Fault Refusal :=
  .next (s.runEng e (.rcount e d a b) 4 none fun s =>
    let n := (s.eng[e].rd b).toNat % 64
    let v := if 52 ≤ n then 0xFFFFFFFF else s.ringCount n
    .done (s.modEng e fun x => x.setG d (BitVec.ofNat 32 v)))

/-! ## Bed map (R66, R176-R178) -/

/-- V of a bed-map instruction: 1 when it is refused (R176). -/
def State.bmFlag (s : State) (e : Eng) (v : Bool) : State := s.modEng e fun x => { x with flags := { x.flags with v := v } }

/-- What a bed-map instruction waits for: the arbiter's domain, and BUSY (R41, R66). -/
def State.bmGate (s : State) (e : Eng) (i : Instr) (k : State → Eff) : Eff :=
  if s.domainOn domArb = false then .stall domArb
  else if s.bedBusy then .hold (s.setWait e (.stalled i))
  else k (s.touch domArb)

/-- The index is below NX × NY (R176). -/
def State.bmIndexOk (s : State) (n : Nat) : Bool := decide (n < s.nx * s.ny)

/-- An uncorrectable error of a bed-map entry (R39): the exception, whose DETAIL the spec does not give. -/
def State.bedEcc (s : State) (e : Eng) : Eff :=
  let (d, s) := s.freeVal 1 8
  .hold (s.syncExc e 4 d)

/-- The word BMRD returns (R177). -/
def State.bmWord (s : State) (p : Plot) : Nat :=
  s.eAt p s.layerTime + p.owner.toNat * 2 ^ 16 + p.gen.toNat * 2 ^ 21 + b2n p.excluded * 2 ^ 29 +
    b2n p.retiredCover * 2 ^ 30 + b2n p.dirty * 2 ^ 31

/-- BMRD (R176): d even, b 0. -/
def execBmrd (e : Eng) (d a b : GReg) (s : State) : Host.Outcome State Fault Refusal :=
  .next (s.runEng e (.bmrd e d a b) 4 (badField (oddPair d || decide (b ≠ 0))) fun s =>
    s.bmGate e (.bmrd e d a b) fun s =>
      let n := (s.eng[e].rd a).toNat
      if s.bmIndexOk n = false then .done (s.bmFlag e true)
      else if s.bed.bad.contains n then s.bedEcc e
      else
        let s := s.bedFix (· == n)
        let p := s.plot n
        .done ((s.modEng e fun x => (x.setG d (BitVec.ofNat 32 (s.bmWord p))).setG (pairHi d) p.tLast).bmFlag e false))

/-- A write form of R176: status OWNED, BAD_INDEX, or f applied to the entry and OK. -/
def State.bmWrite (s : State) (e : Eng) (i : Instr) (d a : GReg) (f : State → Plot → Plot) : Eff :=
  s.bmGate e i fun s =>
    let n := (s.eng[e].rd a).toNat
    if s.bmIndexOk n = false then .done ((s.modEng e fun x => x.setG d 2).bmFlag e true)
    else if s.bed.bad.contains n then s.bedEcc e
    else
    let s := s.bedFix (· == n)
    if (s.plot n).owner ≠ 31 then .done ((s.modEng e fun x => x.setG d 1).bmFlag e true)
    else .done (((s.modPlot n (f s)).modEng e fun x => x.setG d 0).bmFlag e false)

/-- BMSETE (R176). -/
def execBmsete (e : Eng) (d a b : GReg) (s : State) : Host.Outcome State Fault Refusal :=
  .next (s.runEng e (.bmsete e d a b) 4 none fun s =>
    s.bmWrite e (.bmsete e d a b) d a fun s p =>
      { p with e := (s.eng[e].rd b).setWidth 16, tLast := BitVec.ofNat 32 s.layerTime })
/-- BMWT (R176). -/
def execBmwt (e : Eng) (d a b : GReg) (s : State) : Host.Outcome State Fault Refusal :=
  .next (s.runEng e (.bmwt e d a b) 4 none fun s =>
    s.bmWrite e (.bmwt e d a b) d a fun s p => { p with tLast := s.eng[e].rd b })
/-- BMFLAG (R176). -/
def execBmflag (e : Eng) (d a b : GReg) (s : State) : Host.Outcome State Fault Refusal :=
  .next (s.runEng e (.bmflag e d a b) 4 none fun s =>
    s.bmWrite e (.bmflag e d a b) d a fun s p =>
      let v := s.eng[e].rd b
      { p with excluded := if v.getLsbD 2 then v.getLsbD 0 else p.excluded
               retiredCover := if v.getLsbD 3 then v.getLsbD 1 else p.retiredCover })
/-- BMIDX (R176). -/
def execBmidx (e : Eng) (d a b : GReg) (s : State) : Host.Outcome State Fault Refusal :=
  .next (s.runEng e (.bmidx e d a b) 4 none fun s =>
    if s.bedBusy then .hold (s.setWait e (.stalled (.bmidx e d a b)))
    else
      let x := (s.eng[e].rd a).toInt
      let y := (s.eng[e].rd b).toInt
      let ix := s.plotX x
      let iy := s.plotY y
      if s.onMap ix iy then
        .done ((s.modEng e fun g => g.setG d (BitVec.ofNat 32 (s.plotIdx ix iy))).bmFlag e false)
      else .done ((s.modEng e fun g => g.setG d 0xFFFFFFFF#32).bmFlag e true))

/-! ## The watchdog (R186) -/

/-- A beam's exception causes raise its fault source first (R257). -/
def State.wdogFault (s : State) (e : Eng) : State :=
  match beamOfEng e with
  | some b => s.beamFault b 6 0
  | none => s

/-- WATCHDOG_EXPIRY (R186): TIMEOUT µs have run. The exception is taken, or faults the engine while ACTIVE is 1, or
stays pending on a held beam engine (R184), whose beam stops all the same. -/
def execWatchdogExpiry (e : Eng) (s : State) : Host.Outcome State Fault Refusal :=
  .next (
    if h : e.val < 20 then
      let n := s.get (F.SYS_ENG_WDOG_TIMEOUT e.val)
      if s.wdogCounts e && decide (1000 * n ≤ s.wdogRun e) then
        let s := s.setFlag (F.SYS_ENG_WDOG_EXPIRED e.val) true
        let s := s.wdogReload e
        if s.eng[e].active then s.engFault e 7 true
        else
          let s := s.wdogFault e
          if s.engHeld e then
            let s := match beamOfEng e with
              | some b => s.stopWith b .restart false false
              | none => s
            s.modEng e fun x => { x with wdogDue := true }
          else s.takeException e 7 0 true
      else s
    else s)

/-- PENDING_EXCEPTION_TAKEN (R184): at an instruction boundary the engine takes a pending late release, else a pending
watchdog exception. -/
def execPendingExceptionTaken (e : Eng) (s : State) : Host.Outcome State Fault Refusal :=
  .next (
    if s.engExecutes e then
      match s.eng[e].late with
      | some c =>
        if s.eng[e].active then s
        else (s.modEng e fun x => { x with late := none }).enterException e 6 c true
      | none =>
        if s.eng[e].wdogDue then s.wdogTaken e else s
    else s)

end Sys2Proof.Machine
end

