-- ==== Sys2Proof/Machine/Link.lean ====
section
/-! DEFINITION. What every user of the serial lanes needs of them: the roles they carry, handing a frame to the link layer,
little-endian octets (11_serial_lanes.md R416-R421, R440, R448). -/

namespace Sys2Proof.Machine

/-- The lane in a role for one of its objects, if there is one (R420, R421). -/
def State.roleLane (s : State) (role arg : Nat) : Option Lane :=
  (List.finRange 32).find? fun n => decide (s.get (F.LN_CFG_ROLE n.val) = role ∧ s.get (F.LN_CFG_ARG n.val) = arg)

/-- Lane n is UP (R426). -/
def State.laneUp (s : State) (n : Lane) : Bool := s.get (F.LN_STAT_STATE n.val) == 5

/-- s with lane n changed by f. -/
def State.modLane (s : State) (n : Lane) (f : LaneSt → LaneSt) : State := { s with lanes := vmod s.lanes n f }

/-- The code of R418 of the PLL that lane n runs from. -/
def State.laneRate (s : State) (n : Lane) : Nat :=
  if s.flag (F.LN_CFG_PLL n.val) then s.get (F.LANES_QUAD_CFG_RATE_B (n.val / 4)) else s.get (F.LANES_QUAD_CFG_RATE_A (n.val / 4))

/-- The unit interval of a rate code, in ps (R418). -/
def uiPs (code : Nat) : Nat := [800, 400, 320, 200, 160, 100, 80].getD code 0

/-- R419, R120: the receive latency from ball to PMA at a rate, 2.4 ns + 4 UI, in ps. -/
def rxLatPs (code : Nat) : Nat := 2400 + 4 * uiPs code
/-- R419: the transmit latency from PMA to ball, 1.2 ns + 3 UI, in ps. -/
def txLatPs (code : Nat) : Nat := 1200 + 3 * uiPs code

/-- A payload is handed to the link layer of lane n (R448). -/
def State.linkSend (s : State) (n : Lane) (type : BitVec 8) (rel : Bool) (vc : Fin 4) (payload : List (BitVec 8)) : State :=
  s.modLane n fun l => { l with txq := l.txq ++ [⟨type, 0, rel, vc, payload⟩] }

/-- The n octets of a number, least significant first (R2). -/
def octets (v : Nat) : Nat → List (BitVec 8)
  | 0 => []
  | n + 1 => BitVec.ofNat 8 v :: octets (v / 256) n

/-- The number that n octets of a list, from place o, hold, least significant first (R2). -/
def octAt (l : List (BitVec 8)) (o n : Nat) : Nat := ((l.drop o).take n).foldr (fun b a => b.toNat + 256 * a) 0

/-! ## Frames and ordered sets as octets (R428, R440, R441, R444, R446) -/

/-- The octets of a frame between SOF and EOF: header, payload, CRC (R440, R441). -/
def LinkFrame.octets (f : LinkFrame) : List (BitVec 8) :=
  let body := Machine.octets (f.type.toNat + 2 ^ 8 * f.payload.length + 2 ^ 17 * f.seq.toNat + 2 ^ 29 * (if f.rel then 1 else 0) + 2 ^ 30 * f.vc.val) 4 ++
    f.payload
  body ++ Machine.octets (crc32 body).toNat 4

/-- The frame that octets received spell, where there is room for header and CRC; and whether they pass the checks of R441. -/
def LinkFrame.read (x : List (BitVec 8)) : Option (LinkFrame × Bool) :=
  if x.length < 8 then none
  else
    let body := x.take (x.length - 4)
    let w := octAt x 0 4
    let f : LinkFrame := ⟨BitVec.ofNat 8 w, BitVec.ofNat 12 (w / 2 ^ 17), w.testBit 29, Fin.ofNat 4 (w / 2 ^ 30), body.drop 4⟩
    some (f, decide ((crc32 body).toNat = octAt x (x.length - 4) 4 ∧ w / 2 ^ 8 % 512 = f.payload.length ∧ f.payload.length ≤ 264))

/-- The exclusive-or of octets, complemented: the check of an ordered set (R428, R444, R446). -/
def checkOctet (l : List (BitVec 8)) : BitVec 8 := ~~~ (l.foldl (· ^^^ ·) 0)

/-- Octets whose last is the check of those before it. -/
def checked (n : Nat) (x : List (BitVec 8)) : Bool := x.length == n && x.drop (n - 1) == [checkOctet (x.take (n - 1))]

/-- The three octets behind the K code of an ACK, NAK or CREDIT. -/
def behindK (w : BitVec 16) (check : BitVec 8) : List (BitVec 8) := Machine.octets w.toNat 2 ++ [check]

/-- The 15 octets of a TS (R428). -/
def TsMsg.octets (m : TsMsg) : List (BitVec 8) :=
  let l := [if m.two then 2 else 1, m.role, m.caps] ++ Machine.octets m.headLat.toNat 2 ++ m.credit.toList ++ Machine.octets m.nonce.toNat 4 ++ [m.version]
  l ++ [checkOctet l]

/-- The TS that 15 octets spell; none where CHECK fails, or TYPE is neither of the two (R428). -/
def TsMsg.read (x : List (BitVec 8)) : Option TsMsg :=
  let ty := octAt x 0 1
  if checked 15 x && (ty == 1 || ty == 2) then
    some ⟨ty == 2, BitVec.ofNat 8 (octAt x 1 1), BitVec.ofNat 8 (octAt x 2 1), BitVec.ofNat 16 (octAt x 3 2),
      Vector.ofFn fun (v : Fin 4) => BitVec.ofNat 8 (octAt x (5 + v.val) 1), BitVec.ofNat 32 (octAt x 9 4), BitVec.ofNat 8 (octAt x 13 1)⟩
  else none

/-- The three octets of an ACK or NAK (R444). -/
def ackOctets (seq : BitVec 12) (nak : Bool) : List (BitVec 8) :=
  let l := [seq.setWidth 8, BitVec.ofNat 8 (seq.toNat / 256 + if nak then 16 else 0)]
  l ++ [checkOctet l]

/-- The three octets of a CREDIT (R446). -/
def creditOctets (vc : Fin 4) (total : BitVec 8) : List (BitVec 8) :=
  let l := [BitVec.ofNat 8 vc.val, total]
  l ++ [checkOctet l]

/-- Something is sent on lane n from instant t (ps) on, or once what is in progress has ended: a frame or an ordered set of `groups` code
groups, and one IDLE of two behind it (R423, R424). The longest, a frame of 274, lies far below 2,048, and a transmitter with nothing to
send sends IDLE; the IDLEs that a receiver inserts or removes carry nothing (log entry 52). -/
def State.transmitAt (s : State) (n : Lane) (t groups : Nat) (x : Out) : State :=
  ((s.modLane n fun l => { l with txEnd := max l.txEnd t + (groups + 2) * 10 * uiPs (s.laneRate n) }).send x).send (.idle n)

/-- Octets stored in the Silo from offset a; what lies outside the Silo is not stored. -/
def State.siloPut (s : State) (a : Nat) (l : List Byte) : State :=
  { s with silo := (s.silo.setBytes a (l.take (siloSize - a))).renew a (l.take (siloSize - a)).length }

end Sys2Proof.Machine
end

