-- ==== Sys2Proof/Machine/FabricSend.lean ====
section
/-! DEFINITION. How a device sends on the FarmLink fabric (12_farmlink.md R457-R471; 07_field_arbiter.md R291). -/

namespace Sys2Proof.Machine

/-- The lane of FarmLink port k (R457). -/
def State.portLane (s : State) (k : FPort) : Option Lane := s.roleLane 4 k.val
/-- Port k is UP. -/
def State.portUp (s : State) (k : FPort) : Bool := match s.portLane k with
  | some n => s.laneUp n
  | none => false
/-- The device takes part in the fabric: ENABLE is 1 and no duplicate node was found (R458). -/
def State.fabOn (s : State) : Bool := s.flag F.FABRIC_CFG_ENABLE && !s.flag F.FABRIC_STAT_DUP_NODE
/-- The device's own node. -/
def State.ownNode (s : State) : Node := Fin.ofNat 64 (s.get F.FABRIC_CFG_NODE)

/-- A frame is handed to port k, if it is UP. -/
def State.portSend (s : State) (k : FPort) (type : BitVec 8) (vc : Fin 4) (payload : List (BitVec 8)) : State :=
  match s.portLane k with
  | some n => if s.laneUp n then s.linkSend n type true vc payload else s
  | none => s

/-- ROUTE (R460): the port of link k in bits 3k + 2 to 3k. -/
def routeWord (path : List FPort) : Nat := path.foldr (fun p r => p.val + 8 * r) 0

/-- The fabric header (R460). -/
def fabricHeader (dst src : Nat) (path : List FPort) (alt dup : Bool) : Nat :=
  dst + 1024 * src + 2 ^ 20 * routeWord path + 2 ^ 48 * path.length + 2 ^ 52 * b2n alt + 2 ^ 53 * b2n dup

/-- A message goes out on a path (R461). -/
def State.sendOn (s : State) (path : List FPort) (vc : Fin 4) (dst src : Nat) (alt dup : Bool) (msg : List (BitVec 8)) : State :=
  match path with
  | [] => s
  | k :: _ => s.portSend k 0x52 vc (octets (fabricHeader dst src path alt dup) 8 ++ msg)

/-- The paths to a node (R465). -/
def State.pathTo (s : State) (n : Node) : FlPath := (s.fabric.paths.find? fun p => decide (p.node = n)).getD ⟨n, [], []⟩

/-- Node n is reachable (R466). -/
def State.reachable (s : State) (n : Node) : Bool := !(s.pathTo n).first.isEmpty

/-- R466: a message to an endpoint of node n: on both paths where `both` says so and a second exists, else on the primary
path, or on the secondary while the first port of the primary is not UP. -/
def State.flSend (s : State) (vc : Fin 4) (n : Node) (ep : Nat) (both : Bool) (msg : List (BitVec 8)) : State :=
  if s.fabOn then
    let p := s.pathTo n
    let dst := 16 * n.val + ep
    let src := 16 * s.ownNode.val + ep
    if both && !p.second.isEmpty then (s.sendOn p.first vc dst src false true msg).sendOn p.second vc dst src true true msg
    else if (match p.first with
      | k :: _ => s.portUp k
      | [] => true) then s.sendOn p.first vc dst src false false msg
    else s.sendOn p.second vc dst src true false msg
  else s

/-- A message of the fabric manager (R471): TYPE, zero octets, KEY_GEN, T_SEND, its body, and RSVD octets up to its length. -/
def State.flMsg (s : State) (type : Nat) (gen : Nat) (len : Nat) (body : List (BitVec 8)) : List (BitVec 8) :=
  let l := octets type 1 ++ [0, 0, 0] ++ octets gen 4 ++ octets s.now 8 ++ body
  l ++ List.replicate (len - l.length) 0

/-- A message of the fabric manager goes to a node: those of types 0x42 to 0x46 on both paths (R466). -/
def State.flManage (s : State) (n : Node) (type gen len : Nat) (body : List (BitVec 8)) : State :=
  s.flSend 1 n 0 (decide (0x42 ≤ type ∧ type ≤ 0x46)) (s.flMsg type gen len body)

/-- A lease message (R291), 32 octets: TYPE, beam, the octets 2 and 3, REQ_ID, and from octet 8 its words. -/
def leaseMsg (type : Nat) (beam : BitVec 8) (o23 : Nat) (reqId : BitVec 32) (body : List Word) : List (BitVec 8) :=
  let l := octets type 1 ++ [beam] ++ octets o23 2 ++ octets reqId.toNat 4 ++ body.flatMap fun w => octets w.toNat 4
  l ++ List.replicate (32 - l.length) 0

/-- A lease message goes to the arbiter of a node on TC1 (R287, R291). -/
def State.sendLease (s : State) (n : Node) (type : Nat) (beam : BitVec 8) (o23 : Nat) (reqId : BitVec 32) (body : List Word) : State :=
  s.flSend 1 n 1 false (leaseMsg type beam o23 reqId body)

end Sys2Proof.Machine
end

