-- ==== Sys2Proof/Machine/Arbiter.lean ====
section
/-! DEFINITION. The field arbiter: lease requests, windows, grants, renewal and release, peers, moves
(07_field_arbiter.md R267-R295). -/

namespace Sys2Proof.Machine

/-! ## Sets (R267, R269, R270) -/

/-- r of R267. -/
def State.sepR (s : State) : Nat :=
  let p := s.get F.BEDMAP_PITCH_PITCH
  if p = 0 then 0 else cdivN (s.get F.ARB_SEP_RADIUS_RADIUS) p

/-- A rectangle grown by r plots and clipped to the map (R267). -/
def State.dilate (s : State) (p : Rect) (r : Nat) : Rect :=
  ⟨max 0 (p.x0 - r), max 0 (p.y0 - r), min (s.nx - 1) (p.x1 + r), min (s.ny - 1) (p.y1 + r)⟩

/-- The number of plots of a rectangle. -/
def Rect.size (r : Rect) : Int := (r.x1 - r.x0 + 1) * (r.y1 - r.y0 + 1)

/-- An offset belongs to the plume stencil (R269). -/
def State.inStencil (s : State) (dx dy : Int) : Bool :=
  let p := s.get F.BEDMAP_PITCH_PITCH
  let reach := min (s.get F.ARB_PLUME_CFG_REACH) (31 * p)
  decide ((dx ≠ 0 ∨ dy ≠ 0) ∧ (dx * dx + dy * dy) * ((p * p : Nat) : Int) ≤ ((reach * reach : Nat) : Int)) &&
    decide ((sgn 32 (wrap 32 ((angleOf dx dy : Int) - s.get F.ARB_PLUME_DIR_GAS_DIR))).natAbs ≤
      s.get F.ARB_PLUME_CFG_HALF * 65536)

/-- The offsets of R269. -/
def stencilSpan : List Int := (List.range 63).map fun i => (i : Int) - 31

/-- R269: the stencil and STENCIL_CLIP are computed. -/
def State.computeStencil (s : State) : State :=
  let l := stencilSpan.flatMap fun dy => stencilSpan.filterMap fun dx => if s.inStencil dx dy then some (dx, dy) else none
  let s := { s with arb := { s.arb with stencil := l } }
  s.setFlag F.ARB_STAT_STENCIL_CLIP (decide (31 * s.get F.BEDMAP_PITCH_PITCH < s.get F.ARB_PLUME_CFG_REACH))

/-- Y lies in the plume of X (R270). -/
def State.inPlume (s : State) (x y : Rect) : Bool :=
  s.arb.stencil.any fun o => decide (y.x0 - x.x1 ≤ o.1 ∧ o.1 ≤ y.x1 - x.x0 ∧ y.y0 - x.y1 ≤ o.2 ∧ o.2 ≤ y.y1 - x.y0)

/-! ## Held leases -/

/-- The leases held for a beam: the present one, those that await their release, and a tentative one (R287). -/
def ArbBeam.sets (a : ArbBeam) : List (Rect × Rect) :=
  (a.cur.toList ++ a.old).map (fun l => (l.p, l.d)) ++ a.tent.toList.map fun t => (t.p, t.d)

/-- The sets of every lease held by another local beam than b, or by a remote entry (R271, R272). -/
def State.otherSets (s : State) (b : Option Sys2Proof.Beam) : List (Rect × Rect) :=
  (allBeams.flatMap fun c => if some c = b then [] else s.arb.beams[c].sets) ++ s.arb.remotes.map fun r => (r.p, r.d)

/-- A lease deadline: renewal + TTL for a lease held, bounded by its peers' acknowledgements (R278, R279, R289; log entry 49);
none for a lease that is renewed continuously. -/
def State.deadline (s : State) (l : Lease) : Option Nat :=
  let ttl := 1000 * s.get F.ARB_LEASE_TTL_TTL
  let own := if l.releasedAt.isSome then none else some (l.renewed + ttl)
  l.peers.foldl (fun d p => match d with
    | some t => some (min t (p.2.1 + ttl))
    | none => some (p.2.1 + ttl)) own

/-- R278: the held lease of beam b is renewed. -/
def State.renew (s : State) (b : Sys2Proof.Beam) : State :=
  s.modArb b fun a => { a with cur := a.cur.map fun l => { l with renewed := s.now } }

/-! ## Deciding a request (R271, R273) -/

/-- A decision: granted, or a code with a retry time and the t_rev kept. -/
inductive Decision
  | grant
  | deny (code retry trev : Nat)
  deriving DecidableEq, Repr

/-- E after q 256ths of half-lives (R60). -/
def decayQ (e q : Nat) : Nat := if 4096 ≤ q then 0 else cdivN (e * decayTable (q % 256)) (2 ^ (16 + q / 256))

/-- The smallest q from lo on, of k more bits, whose value is below the limit. -/
def qMinGo (e limit : Nat) : Nat → Nat → Nat
  | 0, lo => lo
  | k + 1, lo => if decayQ e (lo + 2 ^ k - 1) < limit then qMinGo e limit k lo else qMinGo e limit k (lo + 2 ^ k)

/-- The layer time at which plot p falls below the limit (R273). -/
def State.plotRev (s : State) (p : Plot) (limit : Nat) : Nat :=
  if s.halfLife = 0 ∨ limit = 0 then 0xFFFFFFFF
  else p.tLast.toNat + cdivN (qMinGo p.e.toNat limit 13 0 * s.halfLife) 256

/-- The revisit limit of a region class (R301). -/
def State.limit (s : State) (c : Nat) : Nat :=
  match c with
  | 0 => s.get F.ARB_REVISIT_LO_LIMIT_CORE
  | 1 => s.get F.ARB_REVISIT_LO_LIMIT_CONTOUR
  | 2 => s.get F.ARB_REVISIT_HI_LIMIT_DOWNSKIN
  | _ => s.get F.ARB_REVISIT_HI_LIMIT_UPSKIN

/-- t_rev of R273 over the plots of P: none when every plot passes. -/
def State.tRev (s : State) (p : Rect) (c : Nat) : Option Nat :=
  (s.idxs p).foldl (fun m i =>
    let q := s.plot i
    if s.limit c ≤ s.eAt q s.layerTime then some (max (m.getD 0) (s.plotRev q (s.limit c))) else m) none

/-- The reservations a request of age `aged` must yield to (R276). -/
def State.yields (s : State) (b : Option Sys2Proof.Beam) (aged : Option Nat) (d : Rect) : Bool :=
  allBeams.any fun c => decide (some c ≠ b) && (match s.arb.beams[c].reserve with
    | some (r, _) => r.meets d && (match aged, s.arb.beams[c].agedAt with
      | some n, some m => decide (m < n)
      | _, _ => true)
    | none => false)

/-- The checks of R271 from 0x05 on, over the plots of P that lie on the map, and sets P and D. -/
def State.decideSets (s : State) (b : Option Sys2Proof.Beam) (aged : Option Nat) (cls : Nat) (p d : Rect) : Decision :=
  let on : Rect := ⟨max 0 p.x0, max 0 p.y0, min (s.nx - 1) p.x1, min (s.ny - 1) p.y1⟩
  let ids := s.idxs on
  let rev := s.tRev on cls
  let keep := rev.getD s.layerTime
  let mine := match b with
    | some c => s.arb.beams[c].sets.map (fun (r : Rect × Rect) => r.1)
    | none => []
  let others := s.otherSets b
  let owned := fun (i : Nat) =>
    let o := (s.plot i).owner.toNat
    o != 31 && !(match b with
      | some c => decide (o = c.val) && mine.any fun (r : Rect) => r.holds ((i % s.nx : Nat) : Int) ((i / s.nx : Nat) : Int)
      | none => false)
  if ids.any fun i => (s.plot i).excluded then .deny 5 0xFFFFFFFF keep
  else if ids.any owned || others.any (fun o => o.1.meets p) then .deny 6 0xFFFFFFFE keep
  else if others.any fun o => o.2.meets d then .deny 7 0xFFFFFFFE keep
  else if s.flag F.ARB_CTRL_PLUME_EN && others.any (fun o => s.inPlume o.1 p || s.inPlume p o.1) then .deny 8 0xFFFFFFFE keep
  else if s.yields b aged d then .deny 9 0xFFFFFFFE keep
  else match rev with
    | some t => .deny 10 t t
    | none => .grant

/-- R271: the decision on a local request, peers apart. -/
def State.decideLocal (s : State) (b : Sys2Proof.Beam) (box : Box) (cls : Nat) : Decision :=
  if s.lyState ≠ lyACTIVE then .deny 1 0xFFFFFFFF 0
  else if s.layerTime = 0xFFFFFFFF then .deny 2 0xFFFFFFFF 0
  else if box.empty || !s.boxOnMap box then .deny 3 0xFFFFFFFF 0
  else
    let p := s.plotsOf box
    if 4096 < p.size then .deny 4 0xFFFFFFFF 0
    else s.decideSets (some b) s.arb.beams[b].agedAt cls p (s.dilate p s.sepR)

/-! ## Requests and windows (R274, R275) -/

/-- A request arrives: it joins the open window, or opens one (R275). -/
def State.joinWindow (s : State) (j : Joined) : State :=
  let s := s.touch domArb
  { s with arb := { s.arb with
      joined := s.arb.joined ++ [j]
      window := match s.arb.window with
        | some t => some t
        | none => some (s.now + s.get F.ARB_WINDOW_WINDOW) } }

/-- A request of beam b (R205, R218). -/
def State.request (s : State) (b : Sys2Proof.Beam) (box : Box) (cls : Nat) (wait restart : Bool) : State :=
  (s.modArb b fun a => { a with req := some { box := box, cls := cls, wait := wait, restart := restart } }).joinWindow (.loc b)

/-- The result of a request reaches the engine of beam b: g[d], g[d+1] and V (R205). -/
def State.leaseResult (s : State) (b : Sys2Proof.Beam) (lo hi : Nat) : State :=
  match s.eng[engOf b].wait with
  | some (.lease d _) => s.modEng (engOf b) fun x => x.complete fun x =>
      let y := (x.setG d (BitVec.ofNat 32 lo)).setG (pairHi d) (BitVec.ofNat 32 hi)
      { y with flags := { y.flags with v := decide (lo ≠ 0) } }
  | _ => s

/-- Send a lease message to the node of peer p (R291). -/
def State.sendPeer (s : State) (p : Peer) (type : Nat) (b : Nat) (reqId : BitVec 32) (o23 : Nat) (body : List Word) : State :=
  s.sendLease (Fin.ofNat 64 (s.get (F.ARB_PEER_CFG_NODE p.val))) type (BitVec.ofNat 8 b) o23 reqId body

/-- R277: the grant: OWNER and GEN on every plot of P, the entry, and the engine or the restart goes on. -/
def State.grantLease (s : State) (b : Sys2Proof.Beam) (r : Request) (p d : Rect) (reqId : BitVec 32) (peers : List Peer) : State :=
  let s := forEach (s.idxs p) s fun s i => s.modPlot i fun q =>
    { q with owner := BitVec.ofNat 5 b.val, gen := q.gen + 1 }
  let had := s.arb.beams[b].reserve.isSome
  let lease : Lease := { box := r.box, p := p, d := d, renewed := s.now, layerTime := s.layerTime, reqId := reqId
                         peers := peers.map fun q => (q, s.now, []) }
  let s := s.modArb b fun a => { a with cur := some lease, req := none, tent := none, agedAt := none, reserve := none }
  let s := s.put (F.ARB_BEAM_STAT_DENY_RUN b.val) 0
  let s := s.modBeam b fun x => { x with lease := some (r.box, s.layerTime) }
  let s := if r.restart then
      match s.beam[b].present with
      | some w => (s.modSwath b w.hdr.id fun w => { w with state := .suppress }).wdogReload (engOf b)
      | none => s
    else s.leaseResult b 0 s.layerTime
  if had then s.unblock else s

/-- A denial (R271, R274, R276): the counts, the age, the reservation, and the wait or the result. -/
def State.denyLease (s : State) (b : Sys2Proof.Beam) (r : Request) (d : Rect) (code retry trev : Nat) : State :=
  let s := s.put (F.ARB_BEAM_STAT_LAST_REASON b.val) code
  let counts := decide ((6 ≤ code ∧ code ≤ 9) ∨ code = 11 ∨ code = 12)
  let s := if counts then s.count (F.ARB_BEAM_STAT_DENY_RUN b.val)
    else if code ≤ 5 then s.put (F.ARB_BEAM_STAT_DENY_RUN b.val) 0 else s
  let aged := s.arb.beams[b].agedAt.isSome
  let s := if !aged && decide (8 ≤ s.get (F.ARB_BEAM_STAT_DENY_RUN b.val)) then
      { s with arb := { s.arb with agedSeq := s.arb.agedSeq + 1 } }.modArb b fun a => { a with agedAt := some s.arb.agedSeq }
    else s
  let waits := r.wait || r.restart
  let s := if aged && decide (6 ≤ code ∧ retry ≠ 0xFFFFFFFF) then
      s.modArb b fun a => { a with reserve := some (d, if waits then none else some (s.now + 100000)) }
    else s
  if waits then
    let s := s.modArb b fun a => { a with tent := none, req := some { r with
      waiting := true, retry := BitVec.ofNat 32 retry, trev := trev, unblocked := none, dead := decide (retry = 0xFFFFFFFF) } }
    if retry = 0xFFFFFFFF then s.raise 217 (b.val + 256 * code) else s
  else
    (s.modArb b fun a => { a with tent := none, req := none }).leaseResult b code retry

/-! ## Peers (R287) -/

/-- The zone of peer p. -/
def State.zone (s : State) (p : Peer) : Box :=
  ⟨s.int (F.ARB_PEER_ZXMIN_ZXMIN p.val), s.int (F.ARB_PEER_ZYMIN_ZYMIN p.val),
   s.int (F.ARB_PEER_ZXMAX_ZXMAX p.val), s.int (F.ARB_PEER_ZYMAX_ZYMAX p.val)⟩

/-- The outer corners of a rectangle of plots in nm (R291). -/
def State.corners (s : State) (r : Rect) : Box :=
  let p : Int := s.pitchNm
  ⟨s.bedX0 + r.x0 * p, s.bedY0 + r.y0 * p, s.bedX0 + (r.x1 + 1) * p - 1, s.bedY0 + (r.y1 + 1) * p - 1⟩

/-- A request with dilated set d needs peer p (R287). -/
def State.needsPeer (s : State) (d : Rect) (p : Peer) : Bool :=
  let c := s.corners d
  let w : Int := if s.flag F.ARB_CTRL_PLUME_EN then 1000 * s.get F.ARB_PLUME_CFG_REACH else 0
  let z := s.zone p
  s.flag (F.ARB_PEER_CFG_PEER_EN p.val) && !z.empty &&
    decide (c.x0 - w ≤ z.x1 ∧ z.x0 ≤ c.x1 + w ∧ c.y0 - w ≤ z.y1 ∧ z.y0 ≤ c.y1 + w)

/-- The retry time of a denial by a peer (R287). -/
def State.peerRetry (s : State) : Nat := s.layerTime + 20 * (1 + s.get F.FABRIC_CFG_NODE % 4)

/-- The tentative request of beam b fails with a code: CANCEL to every peer that granted, and the denial (R287). -/
def State.failPeers (s : State) (b : Sys2Proof.Beam) (t : Tentative) (code retry : Nat) : State :=
  let s := (s.modArb b fun a => { a with tent := some t }).dropTent b
  (forEach t.granted s fun s p => s.sendPeer p 0x23 b.val t.reqId 0 []).denyLease b t.req t.d code retry s.peerRetry

/-- Octet 2 of REQ (R291): r in plots; a value of its own where r needs more bits (log entry 49). -/
def State.reqRadius (s : State) : Nat × State := if s.sepR < 256 then (s.sepR, s) else s.freeVal 51 8

/-- Every local check has passed: the grant, or the request to the peers it needs (R287, R290, R292). -/
def State.proceed (s : State) (b : Sys2Proof.Beam) (r : Request) (p d : Rect) : State :=
  let need := (List.finRange 8).filter fun q => s.needsPeer d q
  if need.isEmpty then s.grantLease b r p d 0 []
  else if need.any fun q => s.flag (F.ARB_PEER_CFG_GEOM_ERR q.val) then s.denyLease b r d 11 s.peerRetry s.peerRetry
  else if need.any fun q => s.get (F.ARB_PEER_CFG_STATE q.val) == 2 then s.denyLease b r d 12 s.peerRetry s.peerRetry
  else
    let id := s.arb.reqId + 1
    let s := { s with arb := { s.arb with reqId := id } }
    let s := s.modArb b fun a => { a with tent := some ⟨r, p, d, id, need, [], s.now⟩ }
    let c := s.corners p
    let w := fun (i : Int) => BitVec.ofInt 32 i
    let (r8, s) := s.reqRadius
    let head := r8 + 256 * (s.get (F.ARB_BEAM_CFG_PRIO b.val) + 16 * r.cls)
    forEach need s fun s q => s.sendPeer q 0x20 b.val id head [w c.x0, w c.y0, w c.x1, w c.y1]

/-- The decision on the waiting request of beam b at the close of a window. -/
def State.decideBeam (s : State) (b : Sys2Proof.Beam) : State :=
  match s.arb.beams[b].req with
  | none => s
  | some r =>
    let r := { r with waiting := false }
    let p := s.plotsOf r.box
    let d := s.dilate p s.sepR
    let s := s.bedFixRect p
    match s.decideLocal b r.box r.cls with
    | .grant => s.proceed b r p d
    | .deny c t v => s.denyLease b r d c t v

/-- The peer that has a node's address, if one is enabled. -/
def State.peerOf (s : State) (n : Node) : Option Peer :=
  (List.finRange 8).find? fun p => s.flag (F.ARB_PEER_CFG_PEER_EN p.val) && decide (s.get (F.ARB_PEER_CFG_NODE p.val) = n.val)

/-- Send an answer to a node (R291). -/
def State.answer (s : State) (n : Node) (type : Nat) (beam : BitVec 8) (reqId : BitVec 32) (reason : Nat) : State :=
  s.sendLease n type beam reason reqId []

/-- The decision where the geometries agree, on a request received at t. -/
def State.decideSound (s : State) (n : Node) (m : PeerReq) (t : Nat) : State :=
  let p := s.plotsOf ⟨m.xmin.toInt, m.ymin.toInt, m.xmax.toInt, m.ymax.toInt⟩
  let d : Rect := ⟨p.x0 - m.r.toNat, p.y0 - m.r.toNat, p.x1 + m.r.toNat, p.y1 + m.r.toNat⟩
  if 64 ≤ s.arb.remotes.length then s.answer n 0x22 m.beam m.reqId 11
  else
    let s := s.bedFixRect p
    let v := if s.lyState ≠ lyACTIVE then Decision.deny 1 0 0
      else if s.layerTime = 0xFFFFFFFF then Decision.deny 2 0 0
      else s.decideSets none none m.cls.val p d
    match v with
    | .deny c _ _ => s.answer n 0x22 m.beam m.reqId c
    | .grant =>
      let on : Rect := ⟨max 0 p.x0, max 0 p.y0, min (s.nx - 1) p.x1, min (s.ny - 1) p.y1⟩
      let s := forEach (s.idxs on) s fun s i => s.modPlot i fun q => { q with owner := 16, gen := q.gen + 1 }
      let e : Remote := ⟨n, m.beam, m.reqId, p, d, t + 1000 * s.get F.ARB_LEASE_TTL_TTL + 1000000⟩
      ({ s with arb := { s.arb with remotes := s.arb.remotes ++ [e] } }).answer n 0x21 m.beam m.reqId 0

/-- R288: the decision on a peer's request. -/
def State.decideRemote (s : State) (n : Node) (m : PeerReq) (t : Nat) : State :=
  match s.peerOf n with
  | some q =>
    if s.flag (F.ARB_PEER_CFG_GEOM_ERR q.val) then
      let (v, s) := s.freeVal 2 8
      s.answer n 0x22 m.beam m.reqId v
    else s.decideSound n m t
  | none => s.decideSound n m t

/-- The order of R275 among the requests of a window: aged ones by age, then by priority, local before remote, beam or
node number. -/
def State.windowKey (s : State) : Joined → Nat
  | .loc b => match s.arb.beams[b].agedAt with
    | some n => n
    | none => 2 ^ 64 + (7 - s.get (F.ARB_BEAM_CFG_PRIO b.val)) * 1024 + b.val
  | .rem n m _ => 2 ^ 64 + (7 - m.prio.val) * 1024 + 512 + n.val

/-- Insertion by key. -/
def insertKey {α : Type} (k : α → Nat) (x : α) : List α → List α
  | [] => [x]
  | y :: t => if k x < k y then x :: y :: t else y :: insertKey k x t

/-- Stable sort by key. -/
def sortKey {α : Type} (k : α → Nat) (l : List α) : List α := l.foldl (fun a x => insertKey k x a) []

/-- ARB_WINDOW_CLOSE (R275): every request of the window is decided in order, each grant counting as held for the
later ones. -/
def execArbWindowClose (s : State) : Host.Outcome State Fault Refusal :=
  .next (match s.arb.window with
    | some t =>
      if s.reached t then
        s.askSoon [domArb] fun s =>
          let l := sortKey s.windowKey s.arb.joined
          forEach l { s with arb := { s.arb with window := none, joined := [] } } fun s j => match j with
            | .loc b => s.decideBeam b
            | .rem n m t => s.decideRemote n m t
      else s
    | none => s)

/-- LEASE_RETRY (R274): a denied request that waits is repeated when its time or an unblocking change has come. -/
def execLeaseRetry (b : Sys2Proof.Beam) (s : State) : Host.Outcome State Fault Refusal :=
  .next (match s.arb.beams[b].req with
    | some r =>
      if r.waiting && !r.dead && (if r.retry = 0xFFFFFFFE#32 then r.unblocked.isSome && decide (r.trev ≤ s.layerTime)
          else decide (r.retry.toNat ≤ s.layerTime)) then
        s.askSoon [domArb] fun s =>
          (s.modArb b fun a => { a with req := some { r with waiting := false, unblocked := none } }).joinWindow (.loc b)
      else s
    | none => s)

/-! ## Release and expiry (R24, R25, R279, R280) -/

/-- The instant at which a released lease takes effect (R24, R25), once its light is known. -/
def Lease.effectAt (l : Lease) : Option Int :=
  match l.releasedAt with
  | none => none
  | some r =>
    if l.lit then none
    else some (match l.lastOff with
      | some t => max t (8 * (r : Int))
      | none => match l.motionEnd with
        | some t => max t (8 * (r : Int))
        | none => 8 * (r : Int))

/-- The plots of a rectangle that no rectangle of a list holds lose their owner o (R280, R289). -/
def State.freePlots (s : State) (p : Rect) (but : List Rect) (o : Nat) : State :=
  forEach (s.idxs ⟨max 0 p.x0, max 0 p.y0, p.x1, p.y1⟩) s fun s i =>
    if (s.plot i).owner.toNat = o ∧ but.any (fun r => r.holds ((i % s.nx : Nat) : Int) ((i / s.nx : Nat) : Int)) = false then
      s.modPlot i fun q => { q with owner := 31 } else s

/-- R280: the released lease l of beam b takes effect: the plots that no later lease of the beam holds lose their owner, and the
peers hear of it. -/
def State.freeLease (s : State) (b : Sys2Proof.Beam) (l : Lease) : State :=
  let a := s.arb.beams[b]
  let rest := a.old.erase l
  let s := s.modArb b fun a => { a with old := rest }
  let s := s.freePlots l.p ((rest ++ a.cur.toList).map (·.p)) b.val
  let s := forEach l.peers s fun s p => s.sendPeer p.1 0x24 b.val l.reqId 0 []
  s.unblock

/-- R280: the release of the oldest lease of beam b that may take effect now. -/
def State.releaseEffect (s : State) (b : Sys2Proof.Beam) : State :=
  match s.arb.beams[b].old.find? fun l => match l.effectAt with
      | some t => s.reachedEt t
      | none => false with
  | none => s
  | some l => s.freeLease b l

/-- LEASE_RELEASE_EFFECT (R24, R25, R280). -/
def execLeaseReleaseEffect (b : Sys2Proof.Beam) (s : State) : Host.Outcome State Fault Refusal :=
  .next (s.releaseEffect b)

/-- Lease l is past its deadline (R103, R279), and has not been ended for it. -/
def State.leaseOver (s : State) (l : Lease) : Bool := !l.lapsed && (match s.deadline l with
  | some t => s.reached t
  | none => false)

/-- A lease of beam b is past its deadline. -/
def State.leaseDue (s : State) (b : Sys2Proof.Beam) : Bool := (s.arb.beams[b].cur.toList ++ s.arb.beams[b].old).any s.leaseOver

/-- The expired lease covers the output of a swath whose program has ended: no beam instruction of that swath can take the violation. -/
def State.expiryCutsEnded (s : State) (b : Sys2Proof.Beam) : Bool :=
  !(s.arb.beams[b].cur.any s.leaseOver) && s.beam[b].swaths.any fun w => w.ended.isSome && !s.outputOver w

/-- LEASE_EXPIRY (R207, R279): the arbiter ends the lease, the beam stops as in R26, event 219 is raised, and the next beam
instruction takes the violation. Where it cuts the output of a swath whose program has ended, that swath has its outcome at once (log
entry 16). -/
def execLeaseExpiry (b : Sys2Proof.Beam) (s : State) : Host.Outcome State Fault Refusal :=
  .next (
    if s.leaseDue b then
      let ended := s.expiryCutsEnded b
      let s := s.stopBeam b
      -- peers are not asked again: what is left of the entries goes when the stop has finished
      let s := s.modArb b fun a => { a with old := a.old.map fun l => { l with peers := [], lapsed := true } }
      let s := if ended then s.outcomes b .restart s.eng[engOf b].active true else s
      (s.modBeam b fun x => { x with expired := x.present.isSome, settled := ended }).raise 219 b.val
    else s)

/-- RETIREMENT: steps 2 to 5 of R293 for beam b once its stop has finished: its leases are freed, and it is retired. -/
def State.retireStep (s : State) (b : Sys2Proof.Beam) : State :=
  match s.arb.beams[b].retiring with
  | none => s
  | some c =>
    if s.stopDone b then
      let s := forEach s.arb.beams[b].old s fun s l => s.freeLease b l
      s.retireEnd b c
    else s

/-- RESERVATION_LAPSE (R276): 100 µs have passed since an aged request without WAIT was denied. -/
def execReservationLapse (b : Sys2Proof.Beam) (s : State) : Host.Outcome State Fault Refusal :=
  .next (match s.arb.beams[b].reserve with
    | some (_, some t) => if s.reached t then (s.modArb b fun a => { a with reserve := none }).unblock else s
    | some (_, none) => if s.arb.beams[b].req.isNone then (s.modArb b fun a => { a with reserve := none }).unblock else s
    | none => s)

/-- Some QUEUED descriptor lies on a beam or glean ring (R286). -/
def State.queuedLeft (s : State) : Bool :=
  ((List.range 20).map (· + 32)).any fun n => (s.heldSlots n).any fun i => s.dStatus (s.slotAddr n i) == dQUEUED

/-- No beam holds a swath and no lease is held. -/
def State.beamsFree (s : State) : Bool :=
  allBeams.all fun b => s.beam[b].swaths.isEmpty && s.arb.beams[b].cur.isNone && s.arb.beams[b].old.isEmpty

/-- REPLAY_STALL (R286): event 220, and the next 1 ms counts from here. -/
def execReplayStall (s : State) : Host.Outcome State Fault Refusal :=
  .next (
    if s.arbMode = 2 ∧ s.past (s.arb.lastClaim + 1000000) ∧ s.queuedLeft ∧ s.beamsFree then
      ({ s with arb := { s.arb with lastClaim := s.now } }).raise 220 0
    else s)

/-! ## Messages between devices (R287-R292) -/

/-- PEER_REQ_RECEIVE (R288): the request joins the window; its entry's deadline counts from now. -/
def execPeerReqReceive (node : Node) (m : PeerReq) (s : State) : Host.Outcome State Fault Refusal :=
  .next (s.ask domArb (.peerReq node m) fun s => s.joinWindow (.rem node m s.now))

/-- The beam whose tentative request has this ID. -/
def State.tentOf (s : State) (reqId : BitVec 32) : Option (Sys2Proof.Beam × Tentative) :=
  allBeams.findSome? fun b => match s.arb.beams[b].tent with
    | some t => if t.reqId = reqId then some (b, t) else none
    | none => none

/-- A peer answers a request that is over: a GRANT is cancelled (R287). -/
def State.lateAnswer (s : State) (p : Peer) (grant : Bool) (reqId : BitVec 32) : State :=
  match s.arb.dropped.find? fun x => decide (x.1 = reqId ∧ x.2.2 = p) with
  | none => s
  | some x =>
    let s := { s with arb := { s.arb with dropped := s.arb.dropped.erase x } }
    if grant then s.sendPeer p 0x23 x.2.1.val reqId 0 [] else s

/-- PEER_GRANT_RECEIVE (R287): a GRANT, or a DENY with its reason. With the last GRANT the lease is granted, but not once layer time
is saturated (R65). -/
def execPeerGrantReceive (node : Node) (grant : Bool) (reqId : BitVec 32) (reason : BitVec 8) (s : State) :
    Host.Outcome State Fault Refusal :=
  .next (s.ask domArb (.peerGrant node grant reqId reason) fun s => match s.tentOf reqId, s.peerOf node with
    | some (b, t), some p =>
      if t.asked.contains p = false ∨ t.granted.contains p then s
      else if grant then
        let t := { t with granted := t.granted ++ [p] }
        if t.asked.all fun q => t.granted.contains q then
          (if s.layerTime = 0xFFFFFFFF then s.failPeers b t 2 0xFFFFFFFF
           else (s.modArb b fun a => { a with tent := none }).grantLease b t.req t.p t.d t.reqId t.granted)
        else s.modArb b fun a => { a with tent := some t }
      else s.failPeers b { t with asked := t.asked.filter fun q => decide (q ≠ p) } 11 s.peerRetry
    | none, some p => s.lateAnswer p grant reqId
    | _, none => s)

/-- PEER_TIMEOUT (R287): 100 µs without every answer. -/
def execPeerTimeout (b : Sys2Proof.Beam) (s : State) : Host.Outcome State Fault Refusal :=
  .next (match s.arb.beams[b].tent with
    | some t => if s.past (t.sent + 100000) then s.failPeers b t 12 s.peerRetry else s
    | none => s)

/-- A remote entry is freed: its plots lose owner 16 (R287, R289). -/
def State.freeRemote (s : State) (node : Node) (reqId : BitVec 32) : State :=
  match s.arb.remotes.find? fun r => decide (r.node = node ∧ r.reqId = reqId) with
  | none => s
  | some r =>
    let rest := s.arb.remotes.erase r
    let s := { s with arb := { s.arb with remotes := rest } }
    let on : Rect := ⟨max 0 r.p.x0, max 0 r.p.y0, min (s.nx - 1) r.p.x1, min (s.ny - 1) r.p.y1⟩
    (s.freePlots on (rest.map (·.p)) 16).unblock

/-- PEER_CANCEL_RECEIVE (R287). -/
def execPeerCancelReceive (node : Node) (reqId : BitVec 32) (s : State) : Host.Outcome State Fault Refusal :=
  .next (s.ask domArb (.peerCancel node reqId) fun s => s.freeRemote node reqId)
/-- PEER_RELEASE_RECEIVE (R289). -/
def execPeerReleaseReceive (node : Node) (reqId : BitVec 32) (s : State) : Host.Outcome State Fault Refusal :=
  .next (s.ask domArb (.peerRelease node reqId) fun s => s.freeRemote node reqId)

/-- f applied to every lease of beam b. -/
def ArbBeam.modLeases (a : ArbBeam) (f : Lease → Lease) : ArbBeam := { a with cur := a.cur.map f, old := a.old.map f }

/-- PEER_RENEW_SEND (R289): RENEW to peer p for every lease of beam b that holds an entry there. -/
def execPeerRenewSend (b : Sys2Proof.Beam) (p : Peer) (s : State) : Host.Outcome State Fault Refusal :=
  .next (
    let ls := (s.arb.beams[b].cur.toList ++ s.arb.beams[b].old).filter fun l => l.peers.any fun q => decide (q.1 = p)
    let s' := forEach ls s fun s l => s.sendPeer p 0x25 b.val l.reqId 0 []
    s'.modArb b fun a => a.modLeases fun l =>
      { l with peers := l.peers.map fun q => if q.1 = p then (q.1, q.2.1, q.2.2 ++ [s.now]) else q })

/-- PEER_RENEW_RECEIVE (R289): the entry's deadline moves, and RENEW_ACK answers. -/
def execPeerRenewReceive (node : Node) (reqId : BitVec 32) (s : State) : Host.Outcome State Fault Refusal :=
  .next (s.ask domArb (.peerRenew node reqId) fun s => match s.arb.remotes.find? fun r => decide (r.node = node ∧ r.reqId = reqId) with
    | none => s
    | some r =>
      let t := s.now + 1000 * s.get F.ARB_LEASE_TTL_TTL + 1000000
      ({ s with arb := { s.arb with remotes := s.arb.remotes.map fun (x : Remote) =>
          if x.node = node ∧ x.reqId = reqId then { x with deadline := t } else x } }).answer node 0x26 r.beam reqId 0)

/-- The oldest RENEW not yet acknowledged is acknowledged now (R289; log entry 49). -/
def ackOldest (q : Peer × Nat × List Nat) : Peer × Nat × List Nat := match q.2.2 with
  | t :: rest => (q.1, t, rest)
  | [] => q

/-- PEER_RENEW_ACK_RECEIVE (R289): the send time of the RENEW acknowledged bounds the lease's deadline from now on. -/
def execPeerRenewAckReceive (node : Node) (reqId : BitVec 32) (s : State) : Host.Outcome State Fault Refusal :=
  .next (s.ask domArb (.peerAck node reqId) fun s => match s.peerOf node with
    | none => s
    | some p => forEach allBeams s fun s b => s.modArb b fun a => a.modLeases fun l =>
        if l.reqId = reqId then
          { l with peers := l.peers.map fun q => if q.1 = p then ackOldest q else q } else l)

/-- REMOTE_ENTRY_EXPIRY (R289). -/
def execRemoteEntryExpiry (node : Node) (reqId : BitVec 32) (s : State) : Host.Outcome State Fault Refusal :=
  .next (match s.arb.remotes.find? fun r => decide (r.node = node ∧ r.reqId = reqId) with
    | some r => if s.reached r.deadline then s.freeRemote node reqId else s
    | none => s)

/-- PEER_ENERGY_RECEIVE (R290): the deposit applied under R61 to the plot that holds the point. -/
def execPeerEnergyReceive (node : Node) (x y d te : BitVec 32) (s : State) : Host.Outcome State Fault Refusal :=
  .next (s.ask domArb (.peerEnergy node x y d te) fun s =>
    let ix := s.plotX x.toInt
    let iy := s.plotY y.toInt
    if s.onMap ix iy then s.expose (s.plotIdx ix iy) d.toNat te.toNat else s)

/-- PEER_GEOM_RECEIVE (R290): a pitch or an origin alignment that differs sets GEOM_ERR and raises 223. -/
def execPeerGeomReceive (node : Node) (ox oy pitch : BitVec 32) (s : State) : Host.Outcome State Fault Refusal :=
  .next (s.ask domArb (.peerGeom node ox oy pitch) fun s => match s.peerOf node with
    | none => s
    | some p =>
      let n : Int := s.pitchNm
      if pitch.toNat = s.get F.BEDMAP_PITCH_PITCH ∧ (ox.toInt - s.bedX0).fmod n = 0 ∧ (oy.toInt - s.bedY0).fmod n = 0 then s
      else (s.setFlag (F.ARB_PEER_CFG_GEOM_ERR p.val) true).raise 223 p.val)

/-- PEER_LOST (R292): no route to an enabled peer for 1 ms. -/
def execPeerLost (p : Peer) (s : State) : Host.Outcome State Fault Refusal :=
  .next (match s.arb.peerNoRoute[p] with
    | some t =>
      if s.flag (F.ARB_PEER_CFG_PEER_EN p.val) && s.past (t + 1000000) && s.get (F.ARB_PEER_CFG_STATE p.val) != 2 then
        (s.put (F.ARB_PEER_CFG_STATE p.val) 2).raise 222 p.val
      else s
    | none => s)

/-! ## Moves (R294) -/

/-- A pending move can be made now, or is void: its fallback ring has a free slot, or its descriptor is QUEUED no more. -/
def State.moveDue (s : State) (x : Sys2Proof.Beam × Nat) : Bool :=
  s.dStatus (s.slotAddr (32 + x.1.val) x.2) != dQUEUED || !s.ringFull (s.fallback x.1)

/-- The pending moves that are left. -/
def State.movesLeft (s : State) (l : List (Sys2Proof.Beam × Nat)) : State :=
  let s := { s with arb := { s.arb with movePend := l, moveRaised := s.arb.moveRaised && !l.isEmpty } }
  if l.isEmpty then s.setFlag F.ARB_STAT_MOVE_PEND false else s

/-- MOVE_COMPLETE (R294): the first pending move whose fallback ring has a free slot. -/
def execMoveComplete (s : State) : Host.Outcome State Fault Refusal :=
  .next (match s.arb.movePend.find? s.moveDue with
    | none => s
    | some (b, i) =>
      let s := s.movesLeft (s.arb.movePend.erase (b, i))
      if s.dStatus (s.slotAddr (32 + b.val) i) ≠ dQUEUED then s else s.moveDesc b i)

end Sys2Proof.Machine
end

