-- ==== Sys2Proof/Machine/BeamIsa.lean ====
section
/-! DEFINITION. The beam instructions (05_beam_instructions.md R192-R221). -/

namespace Sys2Proof.Machine

/-- One beam instruction of engine e: illegal with DETAIL 1 elsewhere than on a beam engine (R150, R199); after the beam's lease has
expired it takes the violation of R207, behind the exceptions of its data accesses, if it makes any (R184). -/
def State.runBeam (s : State) (e : Eng) (i : Instr) (len : Nat) (illegal : Option Nat)
    (body : Sys2Proof.Beam → State → Eff) (data : Sys2Proof.Beam → State → Option (Nat × Nat) := fun _ _ => none) : State :=
  match beamOfEng e with
  | none => s.runEng e i len (some 1) fun s => .done s
  | some b => s.runEng e i len illegal fun s =>
      match data b s with
      | some (c, d) => .exc c d
      | none => if s.beam[b].expired then .hold (s.leaseViolation b) else body b s

/-- V of a beam instruction (R200). -/
def State.setV (s : State) (b : Sys2Proof.Beam) (v : Bool) : State :=
  s.modEng (engOf b) fun x => { x with flags := { x.flags with v := v } }

/-! ## Settings (R194-R197) -/

/-- A value stored within lo..hi, and whether it lay outside. -/
def limitTo (lo hi v : Int) : Int × Bool := let c := clampI lo hi v; (c, decide (c ≠ v))

/-- A period of R197: 0, or 20 to 10,000,000. -/
def limitPeriod (v : Int) : Int × Bool := if v = 0 then (0, false) else limitTo 20 10000000 v

/-- Setting n in the order of R196 (POWER only of the word at 0x08), from a 32-bit value (R197): the stored settings
and whether a limit acted. -/
def Settings.put (g : Settings) (n : Nat) (w : Word) : Settings × Bool :=
  let u : Int := w.toNat
  let i : Int := w.toInt
  -- the pauses of DELAY are taken signed, as its sums are (log entry 14)
  match n with
  | 0 => let q := limitTo 65536 (30000 * 65536) u; ({ g with markSpeed := q.1.toNat }, q.2)
  | 1 => let q := limitTo 65536 (30000 * 65536) u; ({ g with jumpSpeed := q.1.toNat }, q.2)
  | 2 => let q := limitTo 0 0xFFFF u; ({ g with power := q.1.toNat }, q.2)
  | 3 => let q := limitTo (-100000) 100000 i; ({ g with onDelay := q.1 }, q.2)
  | 4 => let q := limitTo (-100000) 100000 i; ({ g with offDelay := q.1 }, q.2)
  | 5 => let q := limitTo 0 10000000 i; ({ g with jumpDelay := q.1.toNat }, q.2)
  | 6 => let q := limitTo 0 10000000 i; ({ g with markDelay := q.1.toNat }, q.2)
  | 7 => let q := limitTo 0 10000000 i; ({ g with polyDelay := q.1.toNat }, q.2)
  | 8 => let q := limitTo 0 7 u; ({ g with flyFlags := q.1.toNat }, q.2)
  | 9 => let q := limitTo 0 5000 u; ({ g with flyLead := q.1.toNat }, q.2)
  | 10 => let q := limitTo 0 5000 u; ({ g with flyTail := q.1.toNat }, q.2)
  | 11 => let q := limitTo 0 0x80000000 u; ({ g with flyAngle := q.1.toNat }, q.2)
  | 12 => let q := limitPeriod u; ({ g with modPeriod := q.1.toNat }, q.2)
  | 13 => let q := limitTo 10 10000000 u; ({ g with modWidth := q.1.toNat }, q.2)
  | 14 => let q := limitPeriod u; ({ g with syncPeriod := q.1.toNat }, q.2)
  | _ => let q := limitTo 10 10000000 u; ({ g with syncWidth := q.1.toNat }, q.2)

/-- The settings of the sixteen words of a parameter-set entry (R196). -/
def Settings.ofWords (l : List Nat) : Settings :=
  let w := fun (k : Nat) => l.getD k 0
  let p := w 2
  let g : Settings := (List.range 16).foldl (fun g k => (g.put k (BitVec.ofNat 32 (if k = 2 then p % 65536 else w k))).1) {}
  { g with loopMask := p / 65536 % 16, loopMode := p / 2 ^ 20 % 4 }

/-- The settings of parameter-set entry n of beam b (R191, R196), and the state once they are read (R38). Words beyond the Silo read 0
(log entry 14). -/
def State.loadSettings (s : State) (b : Sys2Proof.Beam) (n : Nat) : Settings × State :=
  let (l, s) := s.devReads (s.get (F.BEAM_PSET_BASE_BASE b.val) * 16384 + 64 * n) 4 16
  (Settings.ofWords l, s)

/-- A setting instruction (R197): setting `n` of R196, the immediate term `t`; an unlisted d is illegal. -/
def State.setting (s : State) (e : Eng) (i : Instr) (a : GReg) (im : Imm) (n : Option Nat) (t : Word) : State :=
  s.runBeam e i (immLen im) (badField n.isNone) fun b s =>
    let q := s.beam[b].set.put (n.getD 0) (s.eng[e].rd a + t)
    .done ((s.modBeam b fun x => { x with set := q.1 }).setV b q.2)

/-- The setting a d field names, among `k` settings from the n-th on (R197). -/
def settingOf (d : GReg) (k n : Nat) : Option Nat := if d.val < k then some (n + d.val) else none

/-- SPEED (R197). -/
def execSpeed (e : Eng) (d a : GReg) (i : Imm) (s : State) : Host.Outcome State Fault Refusal :=
  .next (s.setting e (.speed e d a i) a i (settingOf d 2 0) (immHigh i))
/-- POWER (R197). -/
def execPower (e : Eng) (d a : GReg) (i : Imm) (s : State) : Host.Outcome State Fault Refusal :=
  .next (s.setting e (.power e d a i) a i (settingOf d 1 2) (immZext i))
/-- DELAY (R197). -/
def execDelay (e : Eng) (d a : GReg) (i : Imm) (s : State) : Host.Outcome State Fault Refusal :=
  .next (s.setting e (.delay e d a i) a i (settingOf d 5 3) (immSext i))
/-- FLY (R197): FLY_ANGLE takes the immediate in its upper half. -/
def execFly (e : Eng) (d a : GReg) (i : Imm) (s : State) : Host.Outcome State Fault Refusal :=
  .next (s.setting e (.fly e d a i) a i (settingOf d 4 8) (if d.val = 3 then immHigh i else immZext i))
/-- PULSE (R197). -/
def execPulse (e : Eng) (d a : GReg) (i : Imm) (s : State) : Host.Outcome State Fault Refusal :=
  .next (s.setting e (.pulse e d a i) a i (settingOf d 4 12) (immZext i))

/-- LOOPSEL (R197, R198). -/
def execLoopsel (e : Eng) (d a b : GReg) (fn : BitVec 11) (s : State) : Host.Outcome State Fault Refusal :=
  .next (s.runBeam e (.loopsel e d a b fn) 4 (badField (decide (d ≠ 0 ∨ a ≠ 0 ∨ b ≠ 0 ∨ 64 ≤ fn.toNat))) fun c s =>
    .done ((s.modBeam c fun x => { x with set := { x.set with loopMask := fn.toNat % 16, loopMode := fn.toNat / 16 % 4 } }).setV c false))

/-! ## Motion (R202-R204, R219, R220) -/

/-- A point (nm) lies in a box. -/
def Box.holds (a : Box) (x y : Int) : Bool := decide (a.x0 ≤ x ∧ x ≤ a.x1 ∧ a.y0 ≤ y ∧ y ≤ a.y1)

/-- An arc from (x, y) about (cx, cy) by a sweep passes the direction k quarter turns from +x (R204). -/
def arcPasses (x y cx cy sweep : Int) (k : Nat) : Bool :=
  let a : Int := angleOf (x - cx) (y - cy)
  let t : Int := k * 2 ^ 30
  let d : Int := if 0 ≤ sweep then (t - a) % 2 ^ 32 else (a - t) % 2 ^ 32
  decide (d ≤ sweep.natAbs)

/-- Every point of an arc of squared radius r2 from (x, y) to (x', y') lies in the box (R204). -/
def Box.holdsArc (f : Box) (x y x' y' cx cy sweep : Int) (r2 : Int) : Bool :=
  f.holds x y && f.holds x' y' &&
    (!arcPasses x y cx cy sweep 0 || decide (cx ≤ f.x1 ∧ r2 ≤ (f.x1 - cx) * (f.x1 - cx))) &&
    (!arcPasses x y cx cy sweep 1 || decide (cy ≤ f.y1 ∧ r2 ≤ (f.y1 - cy) * (f.y1 - cy))) &&
    (!arcPasses x y cx cy sweep 2 || decide (f.x0 ≤ cx ∧ r2 ≤ (cx - f.x0) * (cx - f.x0))) &&
    (!arcPasses x y cx cy sweep 3 || decide (f.y0 ≤ cy ∧ r2 ≤ (cy - f.y0) * (cy - f.y0)))

/-- R204: the check of a motion to (x, y), the arc given by its centre and sweep; none when it passes. -/
def State.motionCheck (s : State) (b : Sys2Proof.Beam) (lit : Bool) (x y : Int) (arc : Option (Int × Int × Int)) : Option Nat :=
  let p := s.beam[b]
  let within := fun (f : Box) => match arc with
    | none => f.holds p.x p.y && f.holds x y
    | some (cx, cy, sw) => f.holdsArc p.x p.y x y cx cy sw ((p.x - cx) * (p.x - cx) + (p.y - cy) * (p.y - cy))
  let target := match arc with
    | none => (s.field b).holds x y
    | some _ => within (s.field b)
  if target = false then some 3
  else if lit then match p.lease with
    | none => some 1
    | some (f, _) => if within f then none else some 0
  else none

/-- The engine stalls before it hands over another element: the element queue is full, or the element would start
beyond L_eff (R19, R193; log entry 14). -/
def State.handStalls (s : State) (b : Sys2Proof.Beam) : Bool :=
  decide (64 ≤ s.queueLen b) || decide (s.nowEt + s.leffEt b < s.nextStart b)

/-- The present swath of beam b is in SUPPRESS (R219). -/
def State.suppressing (s : State) (b : Sys2Proof.Beam) : Option Swath :=
  match s.beam[b].present with
  | some w => if w.state = .suppress then some w else none
  | none => none

/-- The piece of path of a mark or arc of beam b from its present position (path units). -/
def State.markSeg (s : State) (b : Sys2Proof.Beam) (k : SegKind) (x y z : Int) (arc : Option (Int × Int × Int)) : Seg :=
  let p := s.beam[b]
  { kind := k, t0 := 0, t1 := 0, x0 := p.x * fxOne, y0 := p.y * fxOne, z0 := p.z * fxOne
    x1 := x * fxOne, y1 := y * fxOne, z1 := z * fxOne
    arc := arc.map fun (cx, cy, sw) => (cx * fxOne, cy * fxOne, sw)
    set := p.set, swath := 0 }

/-- The part of a mark or arc from `n` of `len` path units on (R220). -/
def Seg.from (m : Seg) (n len : Nat) : Seg :=
  let q := ({ m with t0 := 0, t1 := len }.posAt n).fx
  { m with x0 := q.1, y0 := q.2.1, z0 := q.2.2,
           arc := m.arc.map fun (cx, cy, sw) => (cx, cy, sw - (sw * n).tdiv len) }

/-- R220: the re-entry where SUPPRESS ends `n` path units into mark m: within the element a jump to the lead's start, the
lead and the rest; at its start a jump to it unless the head is there. -/
def State.reenter (s : State) (b : Sys2Proof.Beam) (m : Seg) (n len : Nat) : State :=
  let s := s.loopPrepare b false
  let g := m.set
  let j := s.beam[b].traj
  if n = 0 then
    let s := if j.hx = m.x0 ∧ j.hy = m.y0 ∧ j.hz = m.z0 then s else s.handJump b m.x0 m.y0 m.z0 g
    s.handMark b m (g.flyFlags.testBit 0)
  else
    let m := m.from n len
    let lead : Nat := if g.flyLead = 0 then g.markSpeed * 50 * 1048576 / 65536 else g.flyLead * 1000 * 1048576
    match m.dirIn with
    | none => (s.handJump b m.x0 m.y0 m.z0 g).handMark b m false
    | some (dx, dy) =>
      let p := along m.x0 m.y0 (-dx) (-dy) lead
      let c := clipToField (s.field b) m.x0 m.y0 p.1 p.2
      let s := if c.2 then s.count (F.BEAM_TRAJ_STAT_FLY_CLIP b.val) else s
      let s := s.handJump b c.1.1 c.1.2 m.z0 g
      let s := s.addFly b .lead m.x0 m.y0 g.markSpeed g
      s.handMark b m false

/-- The target is the present position of the next element (R202, R203). -/
def State.moveTo (s : State) (b : Sys2Proof.Beam) (x y z : Int) : State :=
  s.modBeam b fun p => { p with x := x, y := y, z := z }

/-- A MARK or ARC of beam b (R202-R204, R219, R220). -/
def State.lit (s : State) (b : Sys2Proof.Beam) (i : Instr) (k : SegKind) (x y z : Int) (arc : Option (Int × Int × Int)) : Eff :=
  match s.motionCheck b true x y arc with
  | some d => .exc 5 d
  | none =>
    let m := s.markSeg b k x y z arc
    match s.suppressing b with
    | some w =>
      let len := m.length
      let done := w.markDone * 1048576
      if w.suppressed + len ≤ done then
        .done (((s.modSwath b w.hdr.id fun w => { w with suppressed := w.suppressed + len }).moveTo b x y z).setV b false)
      else if s.handStalls b then .hold (s.setWait (engOf b) (.stalled i))
      else
        let s := s.modSwath b w.hdr.id fun w => { w with state := .run }
        .done ((((s.reenter b m (done - w.suppressed) len).renew b).moveTo b x y z).setV b false)
    | none =>
      if s.handStalls b then .hold (s.setWait (engOf b) (.stalled i))
      else .done ((((s.handMark b m (m.set.flyFlags.testBit 0)).renew b).moveTo b x y z).setV b false)

/-- The target of MARK and JUMP (R202). -/
def State.target (s : State) (b : Sys2Proof.Beam) (e : Eng) (d a c : GReg) (fn : BitVec 11) : Int × Int × Int :=
  let x := s.eng[e]
  let p := s.beam[b]
  let v := fun (r : GReg) => (x.rd r).toInt
  let rel := fn.getLsbD 0
  let z := if fn.getLsbD 1 then (if rel then p.z + v d else v d) else p.z
  if rel then (p.x + v a, p.y + v c, z) else (v a, v c, z)

/-- The zero fields of MARK and JUMP (R198, R202). -/
def motionField (d : GReg) (fn : BitVec 11) : Option Nat :=
  badField (decide (4 ≤ fn.toNat) || (!fn.getLsbD 1 && decide (d ≠ 0)))

/-- MARK (R202). -/
def execMark (e : Eng) (d a b : GReg) (fn : BitVec 11) (s : State) : Host.Outcome State Fault Refusal :=
  .next (s.runBeam e (.mark e d a b fn) 4 (motionField d fn) fun c s =>
    let t := s.target c e d a b fn
    let p := s.beam[c]
    if t = (p.x, p.y, p.z) then .done (s.setV c true)
    else s.lit c (.mark e d a b fn) .mark t.1 t.2.1 t.2.2 none)

/-- JUMP (R202). -/
def execJump (e : Eng) (d a b : GReg) (fn : BitVec 11) (s : State) : Host.Outcome State Fault Refusal :=
  .next (s.runBeam e (.jump e d a b fn) 4 (motionField d fn) fun c s =>
    let t := s.target c e d a b fn
    let p := s.beam[c]
    if t = (p.x, p.y, p.z) then .done (s.setV c true)
    else match s.motionCheck c false t.1 t.2.1 none with
      | some q => .exc 5 q
      | none =>
        if (s.suppressing c).isSome then .done ((s.moveTo c t.1 t.2.1 t.2.2).setV c false)
        else if s.handStalls c then .hold (s.setWait e (.stalled (.jump e d a b fn)))
        else .done ((((s.handJump c (t.1 * fxOne) (t.2.1 * fxOne) (t.2.2 * fxOne) p.set).renew c).moveTo c t.1 t.2.1 t.2.2).setV c false))

/-- ARC (R203): a radius below 1,000 nm or a sweep of 0 hands over nothing. -/
def execArc (e : Eng) (d a b : GReg) (fn : BitVec 11) (s : State) : Host.Outcome State Fault Refusal :=
  .next (s.runBeam e (.arc e d a b fn) 4 (badField (decide (2 ≤ fn.toNat))) fun c s =>
    let x := s.eng[e]
    let p := s.beam[c]
    let rel := fn.getLsbD 0
    let cx := (x.rd a).toInt + (if rel then p.x else 0)
    let cy := (x.rd b).toInt + (if rel then p.y else 0)
    let sw := (x.rd d).toInt
    let r2 := (p.x - cx) * (p.x - cx) + (p.y - cy) * (p.y - cy)
    if sw = 0 ∨ r2 < 1000000 then .done (s.setV c true)
    else
      let q := turn (p.x * fxOne) (p.y * fxOne) (cx * fxOne) (cy * fxOne) sw (2 ^ 32)
      s.lit c (.arc e d a b fn) .arc (rdivAway q.1 1048576) (rdivAway q.2 1048576) p.z (some (cx, cy, sw)))

/-! ## Leases (R205, R206) -/

/-- The box of a LEASE: the header's, or the four words at g[a]; or the exception of reading them (R163, R164). -/
def State.leaseBox (s : State) (b : Sys2Proof.Beam) (e : Eng) (a : GReg) : Except (Nat × Nat) Box :=
  if a = 0 then .ok (match s.beam[b].present with
    | some w => w.hdr.box
    | none => ⟨1, 1, 0, 0⟩)
  else
    let p := (s.eng[e].rd a).toNat
    let box := fun (m : MemR) (o : Nat) =>
      Box.mk (sgn 32 (m.read o 4)) (sgn 32 (m.read (o + 4) 4)) (sgn 32 (m.read (o + 8) 4)) (sgn 32 (m.read (o + 12) 4))
    if p % 4 ≠ 0 then .error (3, 0)
    else if p + 16 ≤ localSize e then
      (if s.eng[e].mem.badIn p 16 then .error (4, 0) else .ok (box s.eng[e].mem p))
    else if 0x10000000 ≤ p ∧ p + 16 ≤ 0x10000000 + siloSize then
      (if s.silo.badIn (p - 0x10000000) 16 then .error (4, 2) else .ok (box s.silo (p - 0x10000000)))
    else if 0xF0000000 ≤ p ∧ p < 0xF0100000 then .error (3, 2)
    else .error (3, 1)

/-- The exception of reading the box of a LEASE. -/
def State.leaseExc (s : State) (b : Sys2Proof.Beam) (e : Eng) (a : GReg) : Option (Nat × Nat) := match s.leaseBox b e a with
  | .error x => some x
  | .ok _ => none

/-- The Silo banks that hold the box of a LEASE (R36, R41). -/
def State.leaseBanks (s : State) (e : Eng) (a : GReg) : List (Fin 44) :=
  let p := (s.eng[e].rd a).toNat
  if a = 0 ∨ p + 16 ≤ localSize e then [] else [domainOfSilo (p - 0x10000000), domainOfSilo (p - 0x10000000 + 12)]

/-- Reading the box of a LEASE corrects single-bit errors (R38). -/
def State.leaseRead (s : State) (e : Eng) (a : GReg) : State :=
  let p := (s.eng[e].rd a).toNat
  if a = 0 then s else if p + 16 ≤ localSize e then s.localFix e p 16
  else (forEach (s.leaseBanks e a) s fun s d => s.touch d).siloFix (p - 0x10000000) 16

/-- LEASE (R205): d even, b 0; bit 0 of the function is WAIT. HELD and OUTSIDE are answered at once; without a swath, whose header's
box there would be, the answer is OUTSIDE (log entry 14). -/
def execLease (e : Eng) (d a b : GReg) (fn : BitVec 11) (s : State) : Host.Outcome State Fault Refusal :=
  .next (s.runBeam e (.lease e d a b fn) 4 (badField (oddPair d || decide (b ≠ 0 ∨ 2 ≤ fn.toNat))) (data := fun c s => s.leaseExc c e a) fun c s =>
    match s.leaseBox c e a with
    | .error (q, t) => .exc q t
    | .ok box =>
      match (s.leaseBanks e a).find? fun k => !s.domainOn k with
      | some k => .stall k
      | none =>
      let s := s.leaseRead e a
      let answer := fun (n : Word) =>
        Eff.done (s.modEng e fun x =>
          let y := (x.setG d n).setG (pairHi d) 0
          { y with flags := { y.flags with v := true } })
      if s.beam[c].lease.isSome then answer 0x80000001#32
      else match s.beam[c].present with
        | none => answer 0x80000002#32
        | some w =>
          if box.empty || !box.inside w.hdr.box then answer 0x80000002#32
          else if s.domainOn domArb = false then .stall domArb
          else .hold (((s.touch domArb).setWait e (.lease d (fn.getLsbD 0))).request c box w.hdr.cls (fn.getLsbD 0) false))

/-- RELEASE (R206). -/
def execRelease (e : Eng) (d a b : GReg) (fn : BitVec 11) (s : State) : Host.Outcome State Fault Refusal :=
  .next (s.runBeam e (.release e d a b fn) 4 (badField (decide (d ≠ 0 ∨ a ≠ 0 ∨ b ≠ 0 ∨ fn ≠ 0))) fun c s =>
    if s.beam[c].lease.isSome then .done ((s.giveUpLease c none).setV c false) else .done (s.setV c true))

/-! ## Barriers (R209, R210) -/

/-- Beam b takes part in barrier n (R209). -/
def State.partOf (s : State) (b : Sys2Proof.Beam) (n : Fin 8) : Bool :=
  (s.get (F.BEAM_SYNC_PART b.val)).testBit n.val && s.usable b

/-- R209: barrier n completes when every participant has arrived: each waits for T_res with the gate low. -/
def State.barrierCheck (s : State) (n : Fin 8) : State :=
  let ws := s.arb.barriers[n]
  let parts := allBeams.filter fun b => s.partOf b n
  if ws.isEmpty ∨ (parts.any fun b => !(ws.any fun w => decide (w.beam = b))) then s
  else
    let big := ws.foldl (fun m w => max m w.s) ((ws.head?.map (·.s)).getD 0)
    let lead := ws.foldl (fun m w => max m (s.leffEt w.beam)) 0
    let t := if s.nowEt + s.lminEt ≤ big then big else s.nowEt + lead
    let s := { s with arb := { s.arb with barriers := s.arb.barriers.set n [] } }
    forEach ws s fun s w =>
      (s.modBeam w.beam fun x => { x with barrierStart := some t }).modEng (engOf w.beam) fun x =>
        x.complete fun x => { x with flags := { x.flags with v := false } }

/-- SYNC (R209): d and b 0; the function is the barrier. -/
def execSync (e : Eng) (d a b : GReg) (fn : BitVec 11) (s : State) : Host.Outcome State Fault Refusal :=
  .next (s.runBeam e (.sync e d a b fn) 4 (badField (decide (d ≠ 0 ∨ b ≠ 0 ∨ 8 ≤ fn.toNat))) fun c s =>
    let n : Fin 8 := Fin.ofNat 8 fn.toNat
    if (s.suppressing c).isSome then .done (s.setV c false)
    else if s.partOf c n = false then .done (s.setV c true)
    else
      let s := if s.starved c then s.starve c else s.endSequence c
      let s := s.setWait e (.barrier n)
      let w : Arrival := ⟨c, s.beam[c].traj.stream, s.now, (s.eng[e].rd a).toNat⟩
      let s := { s with arb := { s.arb with barriers := s.arb.barriers.set n (s.arb.barriers[n] ++ [w]) } }
      .hold (s.barrierCheck n))

/-- BARRIER_WITHDRAW (R210): g[a] µs have passed since the arrival of beam b; it withdraws and the barrier breaks. -/
def execBarrierWithdraw (b : Sys2Proof.Beam) (s : State) : Host.Outcome State Fault Refusal :=
  .next (match s.eng[engOf b].wait with
    | some (.barrier n) =>
      match s.arb.barriers[n].find? fun w => decide (w.beam = b) with
      | some w =>
        if w.timeout ≠ 0 ∧ s.elapsed w.at_ (1000 * w.timeout) then s.breakBarrier n else s
      | none => s
    | _ => s)

/-- TSTAMP (R211): d even, the other fields 0. A time between two ns is rounded down (log entry 14). -/
def execTstamp (e : Eng) (d a b : GReg) (fn : BitVec 11) (s : State) : Host.Outcome State Fault Refusal :=
  .next (s.runBeam e (.tstamp e d a b fn) 4 (badField (oddPair d || decide (a ≠ 0 ∨ b ≠ 0 ∨ fn ≠ 0))) fun c s =>
    let t := wrap 64 ((s.nextStart c).fdiv 8)
    .done (s.modEng e fun x => (x.setG d (BitVec.ofNat 32 t)).setG (pairHi d) (BitVec.ofNat 32 (t / 2 ^ 32))))

/-- SWEND (R190, R192). -/
def execSwend (e : Eng) (d a b : GReg) (fn : BitVec 11) (s : State) : Host.Outcome State Fault Refusal :=
  .next (s.runBeam e (.swend e d a b fn) 4 (badField (decide (d ≠ 0 ∨ a ≠ 0 ∨ b ≠ 0 ∨ fn ≠ 0))) fun c s =>
    .hold (if s.beam[c].eretEnds then s.handlerDone c else s.normalEnd c))

/-! ## Safe points and restart (R212-R220) -/

/-- SAFE k of the swath w, executed at pc, is valid (R212). -/
def State.safeValid (s : State) (w : Swath) (pc k : Nat) : Bool :=
  let a := w.hdr.safeOfs + 4 * k
  decide (k < w.hdr.safeCount) && !s.silo.badIn a 4 &&
    decide (0x10000000 + w.hdr.progOfs + 4 * s.silo32 a = pc)

/-- The shadow of R213 that the swath of beam b takes now. -/
def State.shadow (s : State) (b : Sys2Proof.Beam) (k : BitVec 16) (pc : Word) : Shadow :=
  let x := s.eng[engOf b]
  let p := s.beam[b]
  { k := k, pc := pc, at_ := p.traj.stream, g := x.g, acc := x.acc, flags := x.flags, set := p.set
    x := p.x, y := p.y, z := p.z, lease := p.lease.map (·.1) }

/-- SAFE k (R212, R213, R278): d and a 0. A fifth pending shadow stalls. -/
def execSafe (e : Eng) (d a : GReg) (k : BitVec 16) (s : State) : Host.Outcome State Fault Refusal :=
  .next (s.runBeam e (.safe e d a k) 4 (badField (decide (d ≠ 0 ∨ a ≠ 0))) fun b s =>
    let s := s.renew b
    match s.beam[b].present with
    | none => .done (s.setV b true)
    | some w =>
      let pc := s.eng[e].pc
      if s.safeValid w pc.toNat k.toNat = false then .done (s.setV b true)
      else if 4 ≤ (s.beam[b].swaths.flatMap (·.pending)).length then .hold (s.setWait e (.stalled (.safe e d a k)))
      else
        let s := s.setV b false
        .done (s.modSwath b w.hdr.id fun w => { w with pending := w.pending ++ [s.shadow b k (pc + 4)] }))

/-- SAFE_COMMIT (R213): the output of beam b has reached the stream time of the oldest pending shadow of its oldest
swath that holds one. -/
def execSafeCommit (b : Sys2Proof.Beam) (s : State) : Host.Outcome State Fault Refusal :=
  .next (match s.beam[b].swaths.find? fun w => !w.pending.isEmpty with
    | none => s
    | some w =>
      match w.pending with
      | [] => s
      | h :: t =>
        if s.reachedEt h.at_ then
          let s := s.modTraj b fun j => { j with mdFrom := h.at_ }
          s.modSwath b w.hdr.id fun w => { w with committed := h, pending := t, markDone := 0, suppressed := 0 }
        else s)

/-- SWATH_RESTART (R218): the stop has finished and every lease of the beam is released. The committed shadow is
restored, and its lease box requested, or the engine goes on in SUPPRESS. -/
def execSwathRestart (b : Sys2Proof.Beam) (s : State) : Host.Outcome State Fault Refusal :=
  .next (match s.beam[b].present with
    | none => s
    | some w =>
      if w.state = .stopping ∧ s.exposureHeld b = false ∧ s.stopDone b ∧ s.arb.beams[b].cur.isNone ∧ s.arb.beams[b].old.isEmpty then
        s.askSoon [domArb] fun s =>
        let h := w.committed
        let e := engOf b
        let s := s.modEng e fun x =>
          let y := { x with g := h.g, acc := h.acc, pc := h.pc, wait := none
                            flags := { x.flags with v := h.flags.v, c := h.flags.c, z := h.flags.z, n := h.flags.n } }
          y.setG 3 (BitVec.ofNat 32 w.tries)
        let s := s.modBeam b fun x => { x with set := h.set, x := h.x, y := h.y, z := h.z, expired := x.expired && x.settled, eretEnds := false, disp := false }
        match h.lease with
        | some box =>
          (s.modSwath b w.hdr.id fun w => { w with state := .restartWait, suppressed := 0 }).request b box w.hdr.cls true true
        | none => (s.modSwath b w.hdr.id fun w => { w with state := .suppress, suppressed := 0 }).wdogReload e
      else s)

end Sys2Proof.Machine
end

