-- ==== Sys2Proof/Machine/Layer.lean ====
section
/-! DEFINITION. The layer's commands and states, clears and folds of the bed map, the end of a swath, the exposure
deposits (02_bed_and_swaths.md R56, R65, R74, R86-R92; 05_beam_instructions.md R208). -/

namespace Sys2Proof.Machine

/-! ## Layer state (R86) -/

/-- RESULT codes of HOST_LAYER_CMD (R92). -/
abbrev rsOK : Nat := 0
abbrev rsWRONG_STATE : Nat := 1
abbrev rsTOO_SOON : Nat := 2
abbrev rsTOO_FAR : Nat := 3
abbrev rsNOT_HOLDER : Nat := 4
abbrev rsNOT_FOUND : Nat := 5
abbrev rsBAD_ARG : Nat := 6
abbrev rsBAD_GEOM : Nat := 7

/-- The result of a layer command is placed in RESULT (R87). -/
def State.layerResult (s : State) (r : Nat) : State := s.put F.HOST_LAYER_CMD_RESULT r

/-- The layer enters state n; a participant owes its holder a LAYER_STATE at once (R478). -/
def State.enterLy (s : State) (n : Nat) : State :=
  let s := s.setLy n
  let s := if s.layer.follows then { s with layer := { s.layer with stateOwed := true } } else s
  if n = lyIDLE then
    { s.setFlag F.HOST_LAYER_STATE_CLOSED false with layer := { s.layer with wasActive := false, saturated := false, abortOwed := false } }
  else s

/-- T_B[31:0], the data word of sources 232 to 235 (R528). -/
def State.tbLo (s : State) : Nat := s.get F.HOST_LAYER_BEGIN_LO_T_B_LO

/-- The fabric role (R485): 0 SOLO, 1 HOLDER, 2 MEMBER, 3 STANDBY. -/
def State.role (s : State) : Nat := s.get F.FABRIC_STAT_ROLE

/-- A long operation runs (R520). -/
def State.longRuns (s : State) : Bool := s.get F.HOST_LONG_STATE == 1

/-- T_B − TS64 as a signed 64-bit difference (R88). -/
def State.tbAhead (s : State) : Int := sgn 64 (wrap 64 ((s.tB : Int) - s.now))

/-- R87: the result of SCHEDULE's checks after those of state and holder. -/
def State.scheduleCheck (s : State) : Nat :=
  if s.geomValid = false then rsBAD_GEOM
  else if s.mapInSilo = false then rsBAD_ARG
  else if s.tbAhead < 2000000 then rsTOO_SOON
  else if !s.flag F.TIME_STATUS_EXT_VALID && decide (2147483647 < s.tbAhead) then rsTOO_FAR
  else rsOK

/-- SCHEDULE is accepted: ARMING, with what a new layer resets (R86, R89, R269, R284, R296, R303). -/
def State.startArming (s : State) : State :=
  let s := s.setFlag F.BEDMAP_GEOM_BUSY true
  let s := { s with bed := { s.bed with foldOwed := true } }
  let s := (s.enterLy lyARMING).computeStencil
  let s := ((s.setFlag F.ARB_STAT_REPLAY_BROKEN false).setFlag F.ARB_STAT_REC_OVF false).put F.ARB_STAT_REC_COUNT 0
  let s := { s with arb := { s.arb with recCount := 0 } }
  forEach allBeams s fun s b => s.modArb b fun a => { a with nextOrd := 0, retireEnded := false }

/-- A SCHEDULE with T_B in the registers, by the holder or as a participant (R87, R478); none once the supervisor pair is dead (R651). -/
def State.scheduleNow (s : State) : Nat × State :=
  if s.idle = false ∨ s.longRuns ∨ s.holds.supDead then (rsWRONG_STATE, s)
  else
    let r := s.scheduleCheck
    if r = rsOK then (rsOK, s.startArming) else (r, s)

/-- SCHEDULE (R87, R88): on the holder an accepted one begins the layer of its participants (R478). -/
def execSchedule (s : State) : Host.Outcome State Fault Refusal :=
  .next (
    if s.idle ∧ s.longRuns = false ∧ (s.role = 2 ∨ s.role = 3) then s.layerResult rsNOT_HOLDER
    else
      let q := s.scheduleNow
      let s := if q.1 = rsOK then { q.2 with layer := { q.2.layer with
        give := none, since := s.now, reports := [], removed := [], follows := false } } else q.2
      s.layerResult q.1)

/-- The done map and the DONE and FAILED fields of every sheaf are cleared (R89). -/
def State.clearLayerMap (s : State) : State :=
  let b := s.mapBase
  let keep := fun (c : Nat × Byte) => decide (c.1 < b ∨ b + 532480 ≤ c.1 ∨
    (b + 0x80000 ≤ c.1 ∧ ((c.1 - b) % 8 < 2 ∨ 6 ≤ (c.1 - b) % 8)))
  { s with silo := { s.silo with cells := s.silo.cells.filter keep } }

/-- ABORT takes effect outside ARMING (R90): every beam stops, CLAIMED descriptors end FAILED and QUEUED ones
CANCELLED, and the state is ABORTING. -/
def State.abortNow (s : State) : State :=
  let s := forEach allBeams s fun s b =>
    let held := s.beam[b].swaths
    let s := s.stopBeam b
    let s := forEach held s fun s w => s.endSwath b w dFAILED
    if held.isEmpty || s.eng[engOf b].active then s else s.toDispatch b
  let s := forEach ((List.range 20).map (· + 32)) s fun s n =>
    let s := forEach (s.heldSlots n) s fun s i =>
      if s.dStatus (s.slotAddr n i) = dQUEUED then (s.setStatus (s.slotAddr n i) dCANCELLED).stampDone (s.slotAddr n i) else s
    s.passFinal n (s.ringSpan n)
  let s := { s with arb := { s.arb with movePend := [], moveRaised := false } }
  (s.setFlag F.ARB_STAT_MOVE_PEND false).enterLy lyABORTING

/-- ABORT in states 1 to 4 (R86, R90): ABORTING; during ARMING its effect waits for the fold. The holder begins LAYER_ABORT (R480). -/
def State.doAbort (s : State) : State :=
  let s := if s.role = 1 then { s with layer := { s.layer with give := some .abort } } else s
  if s.lyState = lyARMING then { s with layer := { s.layer with abortOwed := true } }.enterLy lyABORTING else s.abortNow

/-- ABORT is accepted in this state (R87). -/
def State.canAbort (s : State) : Bool := decide (1 ≤ s.lyState ∧ s.lyState ≤ 4)

/-- ARMING_DONE (R56, R89, R90): the map clear and the fold have ended, behind a clear of R56 that came first: ARMED, or the abort that
waited. -/
def execArmingDone (s : State) : Host.Outcome State Fault Refusal :=
  .next (
    if s.bed.foldOwed ∧ s.bed.clearOwed = false ∧ (s.lyState = lyARMING ∨ s.layer.abortOwed) then
      let s := s.clearLayerMap.foldBed
      let s := { s with bed := { s.bed with foldOwed := false } }.setFlag F.BEDMAP_GEOM_BUSY false
      if s.layer.abortOwed then { s with layer := { s.layer with abortOwed := false } }.abortNow else s.enterLy lyARMED
    else s)

/-- LAYER_BEGIN (R86, R97): the time base has reached T_B. -/
def execLayerBegin (s : State) : Host.Outcome State Fault Refusal :=
  .next (
    if s.lyState = lyARMED ∧ s.reached s.tB then
      let s := { s with bed := { s.bed with prevTb := some s.tB }, layer := { s.layer with wasActive := true, saturated := false }
                        arb := { s.arb with lastClaim := s.tB } }
      ((s.enterLy lyACTIVE).searchAgain).raise 232 s.tbLo
    else s)

/-- Every beam and glean ring is empty. -/
def State.ringsEmpty (s : State) : Bool := ((List.range 20).map (· + 32)).all fun n => s.ringCount n == 0

/-- No laser event of any beam is queued or on its way (R86). -/
def State.laserQuiet (s : State) : Bool := allBeams.all fun b => !s.beamEdges b

/-- The layer enters RECOAT (R86, R479). -/
def State.enterRecoat (s : State) : State := (s.enterLy lyRECOAT).raise 234 s.tbLo

/-- A participant of the holder's layer (R478, R481): a node of FABRIC_LAYER other than the holder, not removed. -/
def State.layerParts (s : State) : List Node :=
  let mask := s.get F.FABRIC_LAYER_LO_LAYER + 2 ^ 32 * s.get F.FABRIC_LAYER_HI_LAYER
  (List.finRange 64).filter fun n =>
    mask.testBit n.val && decide (n.val ≠ s.get F.FABRIC_CFG_NODE) && !s.layer.removed.contains n

/-- The latest report of a node. -/
def State.reportOf (s : State) (n : Node) : Option LayerReport :=
  (s.layer.reports.find? fun r => decide (r.1 = n)).map (·.2)

/-- R479: the holder in LOCAL_END enters RECOAT once every participant has reported LOCAL_END or later for T_B. -/
def State.barrierDone (s : State) : State :=
  if s.role = 1 ∧ s.lyState = lyLOCALEND ∧ (s.layerParts.all fun n => match s.reportOf n with
      | some r => decide (r.tB = s.tB ∧ (r.state = lyLOCALEND ∨ r.state = lyRECOAT))
      | none => false) then
    { s.enterRecoat with layer := { s.enterRecoat.layer with give := some .go } }
  else s

/-- LAYER_LOCAL_END (R86): the layer is closed, rings empty, no lease held, no laser event queued. A solo device enters
RECOAT at once, a holder when its barrier completes (R479). A layer whose time is saturated can only be aborted (R65). -/
def execLayerLocalEnd (s : State) : Host.Outcome State Fault Refusal :=
  .next (
    if s.lyState = lyACTIVE ∧ s.layer.saturated = false ∧ s.flag F.HOST_LAYER_STATE_CLOSED ∧ s.ringsEmpty ∧ s.laserQuiet ∧ s.beamsFree then
      let s := (s.enterLy lyLOCALEND).raise 233 s.tbLo
      if s.role = 0 then s.enterRecoat else s.barrierDone
    else s)

/-- CLOSE (R87). -/
def execClose (s : State) : Host.Outcome State Fault Refusal :=
  .next (
    if 1 ≤ s.lyState ∧ s.lyState ≤ 3 then (s.setFlag F.HOST_LAYER_STATE_CLOSED true).layerResult rsOK
    else s.layerResult rsWRONG_STATE)

/-- ABORT (R87, R90). -/
def execAbort (s : State) : Host.Outcome State Fault Refusal :=
  .next (if 1 ≤ s.lyState ∧ s.lyState ≤ 4 then s.doAbort.layerResult rsOK
    else s.layerResult rsWRONG_STATE)

/-- ABORT_COMPLETE (R86): the beams have stopped and arming has finished. -/
def execAbortComplete (s : State) : Host.Outcome State Fault Refusal :=
  .next (
    if s.lyState = lyABORTING ∧ s.layer.abortOwed = false ∧ s.bed.foldOwed = false ∧ (allBeams.all fun b => s.stopDone b) then (s.enterLy lyIDLE).raise 235 s.tbLo else s)

/-- RECOAT_DONE (R87, R479): the holder sends LAYER_IDLE from then on. -/
def execRecoatDone (s : State) : Host.Outcome State Fault Refusal :=
  .next (
    if s.lyState = lyRECOAT then
      let s := (s.enterLy lyIDLE).layerResult rsOK
      if s.role = 1 then { s with layer := { s.layer with give := some .idle } } else s
    else s.layerResult rsWRONG_STATE)

/-- WAIVE (R74, R87). -/
def execWaive (arg : BitVec 22) (s : State) : Host.Outcome State Fault Refusal :=
  .next (
    if s.lyState = lyARMED ∨ s.lyState = lyACTIVE then
      if s.doneBit arg.toNat then s.layerResult rsNOT_FOUND
      else ((s.setDone arg.toNat).searchAgain).layerResult rsOK
    else s.layerResult rsWRONG_STATE)

/-- CANCEL (R83, R87): slot in bits 15:0, ring in 21:16. A ring that is no beam or glean ring is a bad argument. -/
def execCancel (arg : BitVec 22) (s : State) : Host.Outcome State Fault Refusal :=
  .next (
    let n := arg.toNat / 65536
    let slot := arg.toNat % 65536
    if lyACTIVE < s.lyState then s.layerResult rsWRONG_STATE
    else if isWorkRing n = false then s.layerResult rsBAD_ARG
    else if (s.heldSlots n).contains slot ∧ s.dStatus (s.slotAddr n slot) = dQUEUED then
      ((s.finish n slot dCANCELLED).searchAgain).layerResult rsOK
    else s.layerResult rsNOT_FOUND)

/-- BEDMAP_CLEAR_DONE (R56, R58): the clear has ended. -/
def execBedmapClearDone (s : State) : Host.Outcome State Fault Refusal :=
  .next (
    if s.bed.clearOwed then
      ({ s with bed := { s.bed with clearOwed := false } }.clearBed).setFlag F.BEDMAP_GEOM_BUSY s.bed.foldOwed
    else s)

/-- LAYER_TIME_SATURATE (R65): layer time has reached 0xFFFF_FFFF and holds. -/
def execLayerTimeSaturate (s : State) : Host.Outcome State Fault Refusal :=
  .next (
    if s.layerRuns ∧ s.layer.saturated = false ∧ s.layerTime = 0xFFFFFFFF then
      { s with layer := { s.layer with saturated := true } }.raise 218 0
    else s)

/-! ## The end of a swath (R74, R192) -/

/-- SWATH_DONE (R74, R81, R82, R192): the oldest swath of beam b whose program has ended is done. -/
def execSwathDone (b : Sys2Proof.Beam) (s : State) : Host.Outcome State Fault Refusal :=
  .next (match s.beam[b].swaths.head? with
    | none => s
    | some w => match w.doneAt with
      | none => s
      | some t =>
        if s.reachedEt t then
          let s := (s.setDone w.hdr.id.toNat).searchAgain
          let s := s.finish w.ring.val w.slot dDONE
          let s := s.swathDone b (s.slotAddr w.ring.val w.slot)
          s.modBeam b fun x => { x with swaths := x.swaths.filter fun v => v.hdr.id != w.hdr.id }
        else s)

/-! ## Power in effect (R249, R320) -/

/-- The power of the loop in force at t (ns): of the powers sent, newest first, the latest at or before t (R27). -/
def LoopSt.powerAt (l : LoopSt) (t : Int) : Nat :=
  match l.sent.find? fun x => decide ((x.1 : Int) ≤ t) with
  | some x => x.2
  | none => 0

/-- POWER at instant t (units of 125 ps), and the settings it is of (R249): none where it is 0. -/
def Traj.powerSet (j : Traj) (t : Int) : Option Settings :=
  match segAt j.path t with
  | some g => some g.set
  | none => if j.handed then ((j.path.filter fun g => decide (g.t1 ≤ t)).getLast?).map (·.set) else none

/-- A power held down by SAFE_P while CAPPED is 1 (R320, R335). -/
def State.capped (s : State) (b : Sys2Proof.Beam) (p : Nat) : Nat :=
  if s.flag (F.LOOP_BEAM_STAT_CAPPED b.val) then min p (s.get (F.LOOP_BEAM_SAFE_SAFE_P b.val)) else p

/-- The power in effect of beam b at instant t (R249, R320, R335). -/
def State.powerAt (s : State) (b : Sys2Proof.Beam) (t : Int) : Nat :=
  match s.beam[b].traj.powerSet t with
  | none => 0
  | some g => if g.loopMode = 0 then s.capped b g.power else (s.loops[b]).powerAt (t.fdiv 8)

/-! ## Exposure (R208) -/

/-- The plot of the commanded path at t: column and row. -/
def State.pathPlot (s : State) (j : Traj) (t : Int) : Int × Int :=
  let p := j.posAt t
  let f := fun (x o : Int) => (x - o * 1048576 * p.den).fdiv (s.pitchNm * 1048576 * p.den)
  (f p.x s.bedX0, f p.y s.bedY0)

/-- The instants within a piece at which its coordinates may turn back: its ends, and an arc's quarter turns. -/
def Seg.turns (g : Seg) : List Int :=
  match g.arc with
  | none => [g.t0, g.t1]
  | some (cx, cy, sw) =>
    let a : Int := angleOf (g.x0 - cx) (g.y0 - cy)
    let n := (sw.natAbs / 2 ^ 30) + 1
    let first : Int := if 0 ≤ sw then (-a) % 2 ^ 30 else a % 2 ^ 30
    let at_ := fun (k : Nat) => g.t0 + cdiv ((first + k * 2 ^ 30) * (g.t1 - g.t0)) sw.natAbs
    [g.t0, g.t1] ++ ((List.range n).map at_).filter fun t => decide (g.t0 < t ∧ t < g.t1)

/-- The instants of a path between a and b at which a coordinate may turn back or a power change, rising, b last. -/
def breaks (path : List Seg) (sent : List (Nat × Nat)) (a b : Int) : List Int :=
  let l := (path.flatMap Seg.turns) ++ sent.map (fun x => 8 * (x.1 : Int)) ++ [b]
  (sortKey (fun t => (t - a).toNat) (l.filter fun t => decide (a < t ∧ t ≤ b))).eraseDups

/-- The last instant of [lo, lo + 2^k) at which p holds, for a p that holds at lo and, once false, stays so. -/
def lastGo (p : Int → Bool) : Nat → Int → Int
  | 0, lo => lo
  | k + 1, lo => lastGo p k (if p (lo + 2 ^ k) then lo + 2 ^ k else lo)

/-- The instant at which the path leaves the plot it is in at t, no later than b. -/
def State.exitAt (s : State) (j : Traj) (t b : Int) : Int :=
  let here := s.pathPlot j t
  let rec go : List Int → Int → Int
    | [], _ => b
    | x :: rest, lo =>
      if s.pathPlot j x = here then go rest x
      else lastGo (fun y => decide (y < x) && decide (s.pathPlot j y = here)) 48 lo + 1
  go (breaks j.path [] t b) t

/-- A fraction added to another. -/
def addFrac (x y : Nat × Nat) : Nat × Nat := (x.1 * y.2 + y.1 * x.2, x.2 * y.2)

/-- The integral of raw power × duty over [a, b] in raw × 125 ps, as a fraction (R208). -/
def State.rawEnergy (s : State) (b : Sys2Proof.Beam) (from_ to_ : Int) : Nat × Nat :=
  let j := s.beam[b].traj
  let q := (breaks j.path (s.loops[b]).sent from_ to_).foldl (fun (acc : (Nat × Nat) × Int) t =>
    let dt := (t - acc.2).toNat
    let e := dt * s.powerAt b acc.2
    let f := match j.powerSet acc.2 with
      | some g => if g.modPeriod = 0 ∨ g.modPeriod ≤ g.modWidth + 10 then (e, 1) else (e * g.modWidth, g.modPeriod)
      | none => (0, 1)
    (addFrac acc.1 f, t)) ((0, 1), from_)
  q.1

/-- D of R208: the energy in units of E_LSB (raw / 65,536 µJ), rounded up. -/
def State.deposit (s : State) (b : Sys2Proof.Beam) (from_ to_ : Int) : Nat :=
  let e := s.rawEnergy b from_ to_
  let lsb := s.get F.BEDMAP_E_LSB_E_LSB
  if lsb = 0 then 0 else cdivN (e.1 * Config.laserPmax b.val * 65536) (e.2 * 65535 * 8000000 * lsb)

/-- One deposit: to the plot that the part [from, to] lies in, and to the peers whose zones hold it (R61, R290). -/
def State.depositPart (s : State) (b : Sys2Proof.Beam) (from_ to_ : Int) : State :=
  let q := s.pathPlot s.beam[b].traj from_
  if s.onMap q.1 q.2 then
    let d := s.deposit b from_ to_
    let te := (cdiv (to_ - 8 * (s.tB : Int)) 8000).toNat.min 0xFFFFFFFF
    let n : Int := s.pitchNm
    let x := s.bedX0 + q.1 * n + n / 2
    let y := s.bedY0 + q.2 * n + n / 2
    let s := s.expose (s.plotIdx q.1 q.2) d te
    let w := fun (i : Int) => BitVec.ofInt 32 i
    let near := (List.finRange 8).filter fun p =>
      let z := s.zone p
      s.flag (F.ARB_PEER_CFG_PEER_EN p.val) && decide (z.x0 ≤ x ∧ x ≤ z.x1 ∧ z.y0 ≤ y ∧ y ≤ z.y1)
    forEach near s fun s p => s.sendPeer p 0x27 b.val 0 0 [w x, w y, BitVec.ofNat 32 d, BitVec.ofNat 32 te]
  else s

/-- The first part of gate-high path not yet deposited that has ended by now: its ends. -/
def State.nextPart (s : State) (b : Sys2Proof.Beam) : Option (Int × Int) :=
  let j := s.beam[b].traj
  match j.gateHist.find? fun x => match x.2 with
      | some f => decide (j.expoFrom < f)
      | none => true with
  | none => none
  | some (r, f) =>
    let a := max j.expoFrom r
    let limit := match f with
      | some t => min t s.nowEt
      | none => s.nowEt
    if limit ≤ a then none
    else
      let e := s.exitAt j a limit
      if e < limit ∨ f = some e then some (a, e) else none

/-- Every part that has ended, at most n of them. The times of the gate are kept for 64 µs (R254). -/
def State.exposeParts (s : State) (b : Sys2Proof.Beam) : Nat → State
  | 0 => s
  | n + 1 => match s.nextPart b with
    | none => s
    | some (a, e) =>
      let s := (s.depositPart b a e).modTraj b fun j => { j with
        expoFrom := e, gateHist := j.gateHist.filter fun x => match x.2 with
          | some f => decide (e < f ∨ s.nowEt < f + 512000)
          | none => true }
      s.exposeParts b n

/-- EXPOSURE_UPDATE (R61, R208): every part of the gate-high path of beam b that has ended is deposited. -/
def execExposureUpdate (b : Sys2Proof.Beam) (s : State) : Host.Outcome State Fault Refusal :=
  .next (s.askSoon [domArb] fun s => (s.exposeParts b 4096).prunePath b)

end Sys2Proof.Machine
end

