-- ==== Sys2Proof/Machine/Loop.lean ====
section
/-! DEFINITION. The melt pool loop engine (08_loop_engine.md R308-R342) and the following-error supervisor it runs
(06_trajectory_heads.md R254-R256). -/

namespace Sys2Proof.Machine

/-! ## Rates and load (R308, R309, R330, R331) -/

/-- The throttle stage (R570). -/
def State.stage (s : State) : Nat := s.get F.HK_STAT_STAGE
/-- P_b in ns at a rate (R308). -/
def periodOf (rate : Nat) : Nat := 1000 * 2 ^ (3 - rate)
/-- RATE_EFF of beam b. -/
def State.rateEff (s : State) (b : Sys2Proof.Beam) : Nat := s.get (F.LOOP_BEAM_CFG_RATE_EFF b.val)
/-- The rate of R309 for a band cut and t3. -/
def State.rateFor (s : State) (b : Sys2Proof.Beam) (cut t3 : Nat) : Nat := s.get (F.LOOP_BEAM_CFG_RATE b.val) - t3 - cut
/-- t3 of R309. -/
def State.t3 (s : State) : Nat := b2n (decide (3 ≤ s.stage))
/-- RATE_EFF as R309 decides it now. -/
def State.rateWanted (s : State) (b : Sys2Proof.Beam) : Nat := s.rateFor b (s.get F.LOOP_CTRL_CUT) s.t3
/-- Each beam whose RATE_EFF is to change has it decided now (R309). -/
def State.decideRates (s : State) : State :=
  forEach allBeams s fun s b =>
    let r := s.rateWanted b
    let due := match (s.loops[b]).rateDue with
      | some (q, t) => if q = r then (q, t) else (r, s.now)
      | none => (r, s.now)
    let new := if r = s.rateEff b then none else some due
    s.modLoop b fun l => { l with rateDue := new }

/-- Cost of a micro-operation in ME (R316). -/
def uopCost (w : Word) : Nat :=
  match bitsOf w 31 28 with
  | 1 | 2 | 3 | 4 => 1
  | 5 => 3
  | 6 => 5
  | _ => 0

/-- Micro-operation i of beam b. -/
def State.uop (s : State) (b : Sys2Proof.Beam) (i : Nat) : Word := s.reg (R.LOOP_PROG b.val i)
/-- The micro-operations below PROG_LEN. -/
def State.uops (s : State) (b : Sys2Proof.Beam) : List Word :=
  (List.range (s.get (F.LOOP_BEAM_CFG_PROG_LEN b.val))).map (s.uop b)
/-- ME per sample of beam b (R330). -/
def State.sampleCost (s : State) (b : Sys2Proof.Beam) : Nat :=
  8 + (s.uops b).foldl (fun n w => n + uopCost w) 0 + 4 * s.get (F.BEAM_FE_CFG_FE_EN b.val)
/-- The load in ME/s with each beam at the given rate (R330). -/
def State.loadAt (s : State) (rate : Sys2Proof.Beam → Nat) : Nat :=
  allBeams.foldl (fun n b => n + 125000 * 2 ^ rate b * s.sampleCost b) 0
/-- The admission budget of a band in M ME/s (R331). -/
def budgetOf (band : Nat) : Nat := if band ≤ 1 then 2500 else if band = 2 then 2222 else 2000
/-- The load at the present RATE_EFF of every beam, in ME/s (R330). -/
def State.loadNow (s : State) : Nat := s.loadAt fun b => s.rateEff b
/-- The budget of the present band in ME/s. -/
def State.budget (s : State) : Nat := 1000000 * budgetOf (s.get F.SYS_BAND_BAND)

/-- Event 32 + b (R336). -/
def State.loopEvent (s : State) (b : Sys2Proof.Beam) (kind : Nat) : State :=
  s.raise (32 + b.val) (kind + s.get (F.LOOP_BEAM_STAT_OVR_COUNT b.val) * 65536)

/-- R333, at the end of a round: the smallest CUT that fits the band's budget; the beams it changes show RATE_CUT and raise KIND 3. -/
def State.loopCut (s : State) : State :=
  let fits := fun (c : Nat) => decide (s.loadAt (fun b => s.rateFor b c s.t3) ≤ s.budget)
  let cut := if s.flag F.LOOP_CTRL_OVERSUB then 0 else ([0, 1, 2].find? fits).getD 3
  let was := s.get F.LOOP_CTRL_CUT
  let s' := s.put F.LOOP_CTRL_CUT cut
  let s' := forEach allBeams s' fun t b =>
    if s.rateFor b was s.t3 = s.rateFor b cut s.t3 then (if cut = 0 then t.setFlag (F.LOOP_BEAM_STAT_RATE_CUT b.val) false else t)
    else (t.setFlag (F.LOOP_BEAM_STAT_RATE_CUT b.val) (decide (0 < cut))).loopEvent b 3
  s'.decideRates

/-- RATE_EFF_CHANGE (R309): at the first multiple of 8 µs after the change was decided. -/
def execRateEffChange (b : Sys2Proof.Beam) (s : State) : Host.Outcome State Fault Refusal :=
  .next (match (s.loops[b]).rateDue with
    | some (r, t) =>
      if s.reached ((t / 8000 + 1) * 8000 : Nat) then
        let s := (s.put (F.LOOP_BEAM_CFG_RATE_EFF b.val) r).modLoop b fun l => { l with rateDue := none }
        if s.flag F.LOOP_CAP_STAT_ACTIVE && decide (s.get F.LOOP_CAP_CFG_CAP_BEAM = b.val) then
          s.setFlag F.LOOP_CAP_STAT_RATE_CHG true else s
      else s
    | none => s)

/-! ## Programs (R314-R319) -/

/-- Fields of a micro-operation (R314). -/
def uD (w : Word) : Nat := bitsOf w 24 20
def uA (w : Word) : Nat := bitsOf w 19 15
def uB (w : Word) : Nat := bitsOf w 14 10
def uTag (w : Word) : Nat := bitsOf w 27 25
def uOp (w : Word) : Nat := bitsOf w 31 28
def uPar (w : Word) : Nat := bitsOf w 9 0

/-- The destination field is right for the tag (R319). -/
def uDestOk (w : Word) : Bool :=
  if uOp w = 0 ∨ (uOp w = 1 ∧ uPar w / 2 % 2 = 0) then decide (uD w = 0)
  else decide ((16 ≤ uD w ∧ uD w < 24) ∨ (24 ≤ uD w ∧ uD w < 28 ∧ uD w - 24 = uTag w))

/-- PARAM has no bit that R316 does not name, and its numbers lie in range (R316, R318, R319). -/
def uParOk (w : Word) : Bool :=
  let p := uPar w
  match uOp w with
  | 0 => decide (p = 0)
  | 1 => decide (p < 4)
  | 2 => decide (p < 2)
  | 3 => decide (p < 32)
  | 4 => decide (p / 32 % 8 = 0 ∧ (3 * 256 ≤ p → p % 32 < 8))
  | 5 => decide (p % 16 ≤ 12)
  | 6 => decide (p < 256 ∧ p % 16 ≤ 11 ∧ p / 16 % 16 ≤ 14 ∧ uB w = 0)
  | _ => false

/-- The state words a micro-operation uses. -/
def uStates (w : Word) : List Nat :=
  let i := uPar w / 16 % 16
  if uOp w = 5 then [i] else if uOp w = 6 then [i, i + 1] else []

/-- The index of the first word that makes the program invalid (R319), if any. -/
def progFault (l : List Word) : Option Nat :=
  let rec go : Nat → List Nat → List Word → Option Nat
    | _, _, [] => none
    | i, used, w :: t =>
      if uTag w < 5 && uDestOk w && uParOk w && (uStates w).all (fun n => !used.contains n) then go (i + 1) (used ++ uStates w) t
      else some i
  go 0 [] l

/-- The registers of a running program, ACC, what its PI and BIQ leave to commit, and PI outputs (R313-R318). -/
structure LoopRun where
  r : Vector Int 32
  acc : Int := 0
  st : Vector (BitVec 40) 16
  pis : List (Nat × Int × Bool × Bool × Option Int) := []
  biqs : List (Nat × BitVec 40) := []
  ds : List (Nat × Int) := []

/-- Register n. -/
def LoopRun.get (x : LoopRun) (n : Nat) : Int := x.r[n % 32]'(Nat.mod_lt _ (by decide))
/-- Register n written. -/
def LoopRun.set (x : LoopRun) (n : Nat) (v : Int) : LoopRun :=
  { x with r := x.r.set (n % 32) v (Nat.mod_lt _ (by decide)) }
/-- State word n. -/
def stGet (v : Vector (BitVec 40) 16) (n : Nat) : BitVec 40 := v[n % 16]'(Nat.mod_lt _ (by decide))
/-- State word n written. -/
def stSet (v : Vector (BitVec 40) 16) (n : Nat) (x : BitVec 40) : Vector (BitVec 40) 16 :=
  v.set (n % 16) x (Nat.mod_lt _ (by decide))
/-- An exact value as a state word (R312). -/
def st40 (i : Int) : BitVec 40 := BitVec.ofInt 40 (sat40 i).1

/-- W(c) of the gain entry as Q15. -/
def GainEnt.w (g : GainEnt) (c : Nat) : Int := (g.words.getD c 0).toInt

/-- PI (R317, R325, R326): `ovr` is the output at which the integrator is set before the computation, where R325 or
R326 sets it. -/
def LoopRun.pi (x : LoopRun) (g : GainEnt) (i : Nat) (w : Word) (ovr : Option Int) : LoopRun :=
  let c := uPar w % 16
  let si := uPar w / 16 % 16
  let ksh := uPar w / 256 % 4
  let e := (satQ15 (x.get (uA w) - x.get (uB w))).1
  let pe := (sat40 (g.w c * e * 2 ^ ksh)).1
  let st := match ovr with
    | some d => stSet x.st si (st40 (d * 32768 - pe))
    | none => x.st
  let u := (reduceQ (sat40 (pe + (stGet st si).toInt)).1).1
  let lo := g.w (c + 2)
  let hi := g.w (c + 3)
  let d := min (max u lo) hi
  let cand : Option Int := if 24 ≤ uD w ∧ uD w < 28 then some d else none
  let y := { x with st := st }.set (uD w) d
  { y with pis := y.pis ++ [(si, g.w (c + 1) * e, decide (hi < u), decide (u < lo), cand)]
           ds := y.ds ++ [(i, d)] }

/-- BIQ (R318). -/
def LoopRun.biq (x : LoopRun) (g : GainEnt) (w : Word) : LoopRun :=
  let c := uPar w % 16
  let si := uPar w / 16 % 16
  let a := x.get (uA w)
  let y := (reduceQ (sat40 (2 * g.w c * a + (stGet x.st si).toInt)).1).1
  let s1 := st40 (2 * g.w (c + 1) * a - 2 * g.w (c + 3) * y + (stGet x.st (si + 1)).toInt)
  let s2 := st40 (2 * g.w (c + 2) * a - 2 * g.w (c + 4) * y)
  { x.set (uD w) y with biqs := x.biqs ++ [(si, s1), (si + 1, s2)] }

/-- One micro-operation that runs (R316). -/
def LoopRun.step (x : LoopRun) (g : GainEnt) (valid : Vector Bool 8) (i : Nat) (w : Word) (ovr : Option Int) : LoopRun :=
  let a := x.get (uA w)
  let b := x.get (uB w)
  let p := uPar w
  match uOp w with
  | 1 =>
    let acc := (sat40 (if p % 2 = 1 then a * b else x.acc + a * b)).1
    let y := { x with acc := acc }
    if p / 2 % 2 = 1 then y.set (uD w) (reduceQ acc).1 else y
  | 2 => x.set (uD w) (satQ15 (if p % 2 = 1 then a - b else a + b)).1
  | 3 => x.set (uD w) (min (max a b) (x.get p))
  | 4 => x.set (uD w) (match p / 256 % 4 with
      | 0 => min a b
      | 1 => max a b
      | 2 => if 0 ≤ x.get (p % 32) then a else b
      | _ => if valid[p % 8]'(Nat.mod_lt _ (by decide)) then a else b)
  | 5 => x.pi g i w ovr
  | 6 => x.biq g w
  | _ => x

/-- The program runs once (R313): `ovr` gives, by index, the output a PI integrator is first set for. -/
def LoopRun.run (x : LoopRun) (g : GainEnt) (valid : Vector Bool 8) (mask : Nat) (ovr : Nat → Word → Option Int) :
    Nat → List Word → LoopRun
  | _, [] => x
  | i, w :: t =>
    if uTag w = 4 ∨ mask.testBit (uTag w) then (x.step g valid i w (ovr i w)).run g valid mask ovr (i + 1) t
    else x.run g valid mask ovr (i + 1) t

/-! ## Inputs (R310, R311) -/

/-- The gate of beam b was high at instant t (units of 125 ps). -/
def Traj.gateAt (j : Traj) (t : Int) : Bool :=
  j.gateHist.any fun x => decide (x.1 ≤ t) && (match x.2 with
    | some f => decide (t < f)
    | none => true)

/-- SPEED of the element in progress at t in mm/s (R310). -/
def Traj.speedAt (j : Traj) (t : Int) : Nat :=
  match segAt j.path t with
  | none => 0
  | some g => match g.kind with
    | .pause => 0
    | .jump | .crossing => (g.set.jumpSpeed / 65536).min 32767
    | _ => (g.set.markSpeed / 65536).min 32767

/-- The eight inputs at instant k (ns): value and validity, none where not valid (R310). -/
def State.loopInputs (s : State) (b : Sys2Proof.Beam) (k p : Nat) : List (Option Int) :=
  let l := s.loops[b]
  let j := s.beam[b].traj
  let n := b.val
  let pds := l.pds.filter fun x => decide (k - p < x.1 ∧ x.1 ≤ k)
  let mean := fun (f : Nat × Nat × Nat → Nat) =>
    if pds.isEmpty then none else some ((pds.foldl (fun t x => t + f x) 0 / (2 * pds.length) / 2 : Nat) : Int)
  let src := s.get (F.LOOP_BEAM_SRC_CAM_SRC n)
  let cam : Option Int := if h : src < 20 then
      match s.loopDev.taps[src] with
      | some (t, zs) =>
        if t ≤ k ∧ k - t ≤ 10000 * s.get (F.LOOP_BEAM_SRC_CAM_AGE n) then
          some ((tabGet (fun _ => (0 : BitVec 16)) zs (s.get (F.LOOP_BEAM_SRC_CAM_CH n) * 1024 + s.get (F.LOOP_BEAM_SRC_ZONE n))).toNat / 2 : Nat)
        else none
      | none => none
    else none
  let ain := s.get (F.LOOP_BEAM_SRC_LAS_AIN n)
  [ mean (fun x => x.2.1), mean (fun x => x.2.2), cam,
    (let q := s.pathPlot j (8 * (k : Int))
     match l.bedE with
     | some x => if s.onMap q.1 q.2 then some (x.2 / 2 : Nat) else none
     | none => none),
    (match j.payload, j.payloadAt with
     | some m, some t => if t ≤ k ∧ k - t ≤ 8000 then some (m.temp.toInt * 256) else none
     | _, _ => none),
    (if s.flag (F.LOOP_BEAM_SRC_LAS_EN n) && s.flag (F.HK_AIN_VALID ain) then some (s.get (F.HK_AIN_RAW ain) * 8 : Nat) else none),
    some (j.speedAt (8 * (k : Int)) : Nat),
    some (((j.powerSet (8 * (k : Int))).map (·.power)).getD 0 / 2 : Nat) ]

/-- BED_E_READ (R311): the entry of the plot at the commanded position, decayed to now. -/
def execBedERead (b : Sys2Proof.Beam) (s : State) : Host.Outcome State Fault Refusal :=
  .next (
    if s.beam[b].swaths.isEmpty then s
    else s.askSoon [domArb] fun s =>
      let q := s.pathPlot s.beam[b].traj s.nowEt
      let i := s.plotIdx q.1 q.2
      s.modLoop b fun l => { l with
        bedAt := some s.now
        bedE := if s.onMap q.1 q.2 then some (i, s.eAt (s.plot i) s.layerTime) else none })

/-! ## Gain schedule (R323, R324) -/

/-- Gain index i of R323, from SPEED and the BED_E read. -/
def State.gainIdx (s : State) (b : Sys2Proof.Beam) (speed : Nat) : Nat :=
  let n := b.val
  let e := (((s.loops[b]).bedE).map (·.2)).getD 0
  let cnt := fun (l : List Nat) (v : Nat) => (l.filter fun t => decide (t ≤ v)).length
  let sb := cnt [s.get (F.LOOP_BEAM_SPD_SPD_TH1 n), s.get (F.LOOP_BEAM_SPD_SPD_TH2 n), s.get (F.LOOP_BEAM_THR_SPD_TH3 n)] speed
  let eb := cnt [s.get (F.LOOP_BEAM_THR_E_TH1 n), s.get (F.LOOP_BEAM_ETH_E_TH2 n), s.get (F.LOOP_BEAM_ETH_E_TH3 n)] e
  let cls := match s.beam[b].swaths.head? with
    | some w => w.hdr.cls
    | none => 0
  16 * sb + 4 * cls + eb

/-- The gain entry at an index and rate, read from the Silo (R38, R323). -/
def State.readGain (s : State) (b : Sys2Proof.Beam) (i rate : Nat) : GainEnt × State :=
  let (l, s) := s.devReads (s.get (F.LOOP_BEAM_GAIN_GAIN_BASE b.val) * 8192 + 2048 * rate + 32 * i) 2 16
  (⟨i, rate, l.map (BitVec.ofNat 16)⟩, s)

/-! ## A sample (R312-R328) -/

/-- A step of the LFSR of R327: x^15 + x^14 + 1. -/
def lfsrStep (x : BitVec 15) : BitVec 15 := (x <<< 1) ||| (if x.getLsbD 14 != x.getLsbD 13 then 1 else 0)

/-- The injection table lies within the Silo (R340). -/
def State.injInSilo (s : State) : Bool := decide (2 * s.get F.LOOP_INJ_BASE_BASE + 2 * s.get F.LOOP_INJ_LEN_LEN ≤ siloSize)

/-- INJ at a sample of beam b, and the injection stepped (R327, R340). -/
def State.inject (s : State) (b : Sys2Proof.Beam) (tune gate : Bool) : Int × State :=
  if tune && gate && decide (s.get F.LOOP_INJ_CFG_INJ_BEAM = b.val) then
    let d := s.loopDev
    let s' := { s with loopDev := { d with injM := d.injM + 1, lfsr := lfsrStep d.lfsr } }
    if s.flag F.LOOP_INJ_CFG_SRC then
      let a := sgn 16 (s.get F.LOOP_INJ_CFG_AMP)
      ((satQ15 (if d.lfsr.getLsbD 0 then a else -a)).1, s')
    else if s.injInSilo then
      let i := d.injM % (s.get F.LOOP_INJ_LEN_LEN)
      let (v, s') := s'.devRead (2 * s.get F.LOOP_INJ_BASE_BASE + 2 * i) 2
      (sgn 16 v, s')
    else (0, s'.setFlag F.LOOP_CTRL_ERR true)
  else (0, s)

/-- The lowest of the candidates (value, contender), the lowest index first where equal (R321). -/
def lowestCand : List (Int × Nat) → Option (Int × Nat)
  | [] => none
  | x :: t => match lowestCand t with
    | some y => if y.1 < x.1 then some y else some x
    | none => some x

/-- A channel of a capture record (R329). -/
def captureWord (r : Vector Int 32) (y t : Nat) (fe : Nat) (gidx rate : Nat) (flags : Nat) (sel : Nat) : Nat :=
  if h : sel < 32 then wrap 16 r[sel]
  else match sel with
    | 32 => y / 2
    | 33 => t / 2
    | 34 => fe.min 32767
    | 35 => gidx + 64 * rate
    | _ => flags

/-- The following error of the latest evaluated payload (R254), in head units. -/
def State.followErr (s : State) (b : Sys2Proof.Beam) : Option (Nat × Sent) :=
  let j := s.beam[b].traj
  match j.payload with
  | none => none
  | some m =>
    if m.status.getLsbD 3 = false then none
    else match j.sent.find? fun x => decide (x.spTime = m.spEcho ∧ (s.now : Int) - x.t ≤ 64000) with
      | none => none
      | some x => some (max (x.u - m.mx.toInt).natAbs (x.v - m.my.toInt).natAbs, x)

/-- A following-error trip (R255, R256): TRIPS, the gate low, beam fault KIND 4, the stop of R26 with a restart counting a try, or
retirement at the third of a swath. It acts in every state of the beam, and joins the causes of a stop that has not finished (R253). -/
def State.feTrip (s : State) (b : Sys2Proof.Beam) (servo missing : Bool) : State :=
  let s := s.count (F.BEAM_FE_STAT_TRIPS b.val)
  let n := s.get (F.BEAM_FE_STAT_TRIPS b.val)
  let s := s.gateFall b s.nowEt
  let s := s.modTraj b fun j => { j with feRun := 0, settles := [], missAt := if missing then some s.now else j.missAt }
  let s := s.beamFault b 4 (n % 4 + 4 * b2n servo + 8 * b2n missing)
  if 3 ≤ n ∧ s.beam[b].swaths.isEmpty = false then s.retire b 2 else s.stopWith b .restart s.eng[engOf b].active false

/-- The supervisor at a sample of beam b (R254, R255). -/
def State.followCheck (s : State) (b : Sys2Proof.Beam) : State :=
  match s.followErr b with
  | none => s
  | some (e, x) =>
    let j := s.beam[b].traj
    let n := b.val
    let settle := s.flag (F.BEAM_FE_CFG_SETTLE_EN n) && j.settles.any fun t => decide (t ≤ 8 * x.t)
    let s := s.modTraj b fun j => { j with settles := j.settles.filter fun t => decide (8 * x.t < t) }
    let ovr := decide (s.get (F.BEAM_FE_CFG_FE_LIMIT n) < e)
    let gate := j.gateAt (8 * x.t)
    let s := if gate || settle then
      s.put (F.BEAM_FE_STAT_FE_MAX n) (max (s.get (F.BEAM_FE_STAT_FE_MAX n)) (e.min 0xFFFF)) else s
    let s := if gate then s.modTraj b fun j => { j with feRun := if ovr then j.feRun + 1 else 0 } else s
    if s.flag (F.BEAM_FE_CFG_FE_EN n) &&
        ((gate && ovr && decide (s.get (F.BEAM_FE_CFG_FE_COUNT n) ≤ s.beam[b].traj.feRun)) || (settle && ovr)) then
      s.feTrip b false false
    else s

/-- A capture record at index n, and what it completes (R328); beyond the Silo nothing is stored. -/
def State.putRecord (s : State) (w : Nat) : State :=
  if s.loopDev.recording then
    let n := s.loopDev.capN
    let a := s.get F.LOOP_CAP_BASE_BASE * 524288 + 8 * (n % 65536)
    let s := { s with silo := if a + 8 ≤ siloSize then s.silo.write a 8 w else s.silo, loopDev := { s.loopDev with capN := n + 1 } }
    let s := s.put F.LOOP_CAP_STAT_COUNT ((n + 1).min 65536)
    let s := if 65536 ≤ n then s.setFlag F.LOOP_CAP_STAT_WRAPPED true else s
    if n + 1 = 65536 ∧ s.flag F.LOOP_CAP_CFG_CONT = false then
      let s := (s.setFlag F.LOOP_CAP_STAT_ACTIVE false).setFlag F.LOOP_CAP_STAT_DONE true
      { s with loopDev := { s.loopDev with recording := false } }
    else s
  else s

/-- The result that is due at k commits (R322): the power sent from k on, the states, the record. It does whether or not a sample of the
beam is due at k (log entry 54). -/
def State.loopCommit (s : State) (b : Sys2Proof.Beam) (k : Nat) : State :=
  match (s.loops[b]).next with
  | none => s
  | some r =>
    if k < r.due then s
    else
      let s := s.modLoop b fun l => { l with
        next := none, prev := r.y
        st := r.commits.foldl (fun v x => stSet v x.1 x.2) l.st
        sent := (r.due, r.y) :: l.sent.filter fun x => decide (8 * (x.1 : Int) > s.beam[b].traj.expoFrom ∨ s.now < x.1 + 100000) }
      let s := s.setReg (R.LOOP_BEAM_OUT b.val) r.out
      let s := s.put (F.LOOP_BEAM_STAT_OVR_RUN b.val) 0
      match r.record with
      | some x => s.putRecord x.1
      | none => s

/-- The capture's trigger at a sample of CAP_BEAM (R328): whether sample k is recorded. -/
def State.captureAt (s : State) (b : Sys2Proof.Beam) (k : Nat) (gate : Bool) : Bool × State :=
  let d := s.loopDev
  if s.flag F.LOOP_CAP_STAT_ACTIVE && decide (s.get F.LOOP_CAP_CFG_CAP_BEAM = b.val) then
    let s := { s with loopDev := { s.loopDev with capGate := some gate } }
    if d.recording then (true, s)
    else
      let hit := match s.get F.LOOP_CAP_CFG_TRIG with
        | 0 => true
        | 1 => gate && decide (d.capGate = some false)
        | _ => d.capEntered
      if hit then
        let s := (s.put F.LOOP_CAP_T0_LO_T0_LO k).put F.LOOP_CAP_T0_HI_T0_HI (k / 2 ^ 32)
        (true, { s with loopDev := { s.loopDev with recording := true, capN := 0 } })
      else (false, s)
  else (false, s)

/-- t, y and the winner of R320 and R321: mode other than OFF. -/
structure Pick where
  t : Nat
  y : Nat
  winner : Nat
  nomWon : Bool

/-- The selection, clamp and slew of a sample (R320, R321). -/
def State.pick (s : State) (b : Sys2Proof.Beam) (mode mask : Nat) (gate : Bool) (nom inj : Int) (r : Vector Int 32)
    (prev : Nat) : Pick :=
  let n := b.val
  let kind := s.get (F.LOOP_BEAM_CFG_KIND n)
  let limit := fun (i : Nat) => kind.testBit i
  let closed := decide (2 ≤ mode) && gate
  let enabled := (List.range 4).filter fun i => mask.testBit i
  let cands := (enabled.filter fun i => closed || limit i).map fun i => (r[(24 + i) % 32]'(Nat.mod_lt _ (by decide)), i)
  let useNom := !closed || !(enabled.any fun i => !limit i)
  let best := lowestCand cands
  let nomWon := useNom && (match best with
    | some x => decide (nom < x.1)
    | none => true)
  let low := if nomWon then nom else (best.map (·.1)).getD nom
  let m := (satQ15 (low + inj)).1
  let q := if m < 0 then 0 else (2 * m).toNat
  let cap := s.capped b (s.get (F.LOOP_BEAM_CLAMP_P_CAP n))
  let t := min (max q (s.get (F.LOOP_BEAM_CLAMP_P_MIN n))) cap
  let up := s.get (F.LOOP_BEAM_SLEW_SLEW_UP n)
  let dn := s.get (F.LOOP_BEAM_SLEW_SLEW_DN n)
  let y := if gate = false then t
    else if prev < t then (if up = 0 then t else min t (prev + up))
    else (if dn = 0 then t else max t (prev - dn))
  ⟨t, y, (best.map (·.2)).getD 0, nomWon⟩

/-- A PI integrator commits, under its conditions (R317). -/
def piCommit (y : Nat) (st : Vector (BitVec 40) 16) (p : Nat × Int × Bool × Bool × Option Int) : Option (Nat × BitVec 40) :=
  let inc := p.2.1
  let yq : Int := (y / 2 : Nat)
  let held := (decide (0 < inc) && (p.2.2.1 || (match p.2.2.2.2 with | some d => decide (yq < d) | none => false))) ||
    (decide (inc < 0) && (p.2.2.2.1 || (match p.2.2.2.2 with | some d => decide (d < yq) | none => false)))
  if held then none else some (p.1, st40 ((stGet st p.1).toInt + inc))

/-- LOOP_SAMPLE (R27, R308, R312-R328): sample k of beam b, k the latest sample instant, once. -/
def State.loopSample (s : State) (b : Sys2Proof.Beam) (k p : Nat) : State :=
  let s := s.loopCommit b k
  let l := s.loops[b]
  let j := s.beam[b].traj
  let kt : Int := 8 * (k : Int)
  let gate := j.gateAt kt
  let ins := s.loopInputs b k p
  let inp : Vector Int 8 := Vector.ofFn fun i => ((ins.getD i.val none).getD l.inp[i])
  let valid : Vector Bool 8 := Vector.ofFn fun i => (ins.getD i.val none).isSome
  let set := (setAt j.path kt).getD s.beam[b].set
  let mode := set.loopMode
  let mask := set.loopMask
  let nom := inp[7]
  let pw := ((j.powerSet kt).map (·.power)).getD 0
  let rate := s.rateEff b
  let idx := s.gainIdx b (inp[6]).toNat
  let fresh := match l.gain with
    | some g => decide (g.idx ≠ idx ∨ g.rate ≠ rate)
    | none => true
  let (gain, s) := if fresh then s.readGain b idx rate else (l.gain.getD ⟨idx, rate, []⟩, s)
  let changed := fresh && l.gain.isSome && !l.starting
  let cap := s.capped b (s.get (F.LOOP_BEAM_CLAMP_P_CAP b.val))
  let prev := if l.starting then min (max pw (s.get (F.LOOP_BEAM_CLAMP_P_MIN b.val))) cap else l.prev
  let uops := s.uops b
  let st0 := if l.starting then
      uops.foldl (fun v w => if uOp w = 5 then stSet v (uPar w / 16 % 16) (st40 (nom * 32768))
        else if uOp w = 6 then stSet (stSet v (uPar w / 16 % 16) 0) (uPar w / 16 % 16 + 1) 0 else v) l.st
    else l.st
  let (inj, s) := s.inject b (decide (mode = 3)) gate
  let regs : Vector Int 32 := Vector.ofFn fun i =>
    if h : i.val < 8 then inp[i.val] else if i.val < 16 then gain.w (i.val - 8)
    else if i.val < 24 then 0 else if i.val < 28 then 32767
    else if i.val = 28 then ((prev / 2 : Nat) : Int) else if i.val = 29 then inj else if i.val = 30 then 0 else 32767
  let newTag := fun (w : Word) => !l.starting && uTag w < 4 && mask.testBit (uTag w) && !l.maskPrev.testBit (uTag w)
  let ovr := fun (i : Nat) (w : Word) =>
    if newTag w then some ((prev / 2 : Nat) : Int)
    else if changed then (l.dPrev.find? fun x => decide (x.1 = i)).map (·.2) else none
  let run : LoopRun := { r := regs, st := st0 }
  let run := if mode = 0 then run else run.run gain valid mask ovr 0 uops
  let pk := if mode = 0 then (let q := s.capped b pw; Pick.mk q q 0 false)
    else s.pick b mode mask gate nom (if s.flag F.LOOP_INJ_CFG_POINT then 0 else inj) run.r prev
  let commits := if gate && decide (mode ≠ 0) then run.pis.filterMap (piCommit pk.y run.st) ++ run.biqs else []
  let vbits := (List.finRange 8).foldl (fun n i => n + b2n valid[i] * 2 ^ i.val) 0
  let (rec_, s) := s.captureAt b k gate
  let fe := ((s.followErr b).map (·.1)).getD 0
  let flags := fun (o : Bool) => b2n gate + 2 * mode + 8 * pk.winner + 32 * b2n pk.nomWon + 64 * b2n o +
    128 * s.get (F.LOOP_BEAM_STAT_CAPPED b.val) + 256 * vbits
  let word := fun (o : Bool) => [s.get F.LOOP_CAP_CH_CH0, s.get F.LOOP_CAP_CH_CH1, s.get F.LOOP_CAP_CH_CH2, s.get F.LOOP_CAP_CH_CH3].zipIdx.foldl
    (fun n x => n + captureWord run.r (if o then prev else pk.y) pk.t fe idx rate (flags o) x.1 * 65536 ^ x.2) 0
  let out := BitVec.ofNat 32 (pk.y + 65536 * vbits + 2 ^ 24 * pk.winner + 2 ^ 26 * b2n pk.nomWon)
  let s := s.modLoop b fun l => { l with
    st := run.st, last := some k, prev := prev, inp := inp, valid := valid, gain := some gain
    dPrev := if mode = 0 then l.dPrev else run.ds, maskPrev := mask, gatePrev := gate, starting := false
    pds := l.pds.filter fun x => decide (k < x.1)
    next := some ⟨k + p, pk.y, out, commits, if rec_ then some (word false, word true) else none⟩ }
  let s := s.put (F.LOOP_BEAM_STAT_GAIN_IDX b.val) idx
  s.followCheck b

/-- A swath in a state from ENTRY to STOPPING (R223, R308). -/
def Swath.sampled (w : Swath) : Bool := match w.state with
  | .run | .suppress | .handler | .stopping => true
  | .pend | .restartWait | .suspended => false

/-- The loop of beam b samples now (R308): it holds a swath in a state from ENTRY to STOPPING, which one whose program has ended and
whose output still plays keeps (log entry 54), the beam is usable, and its latest sample instant has not been sampled. -/
def State.loopDue (s : State) (b : Sys2Proof.Beam) : Option (Nat × Nat) :=
  let p := periodOf (s.rateEff b)
  let k := s.now / p * p
  if (s.beam[b].swaths.any fun w => w.sampled) && s.usable b && (match (s.loops[b]).last with
      | some t => decide (t < k)
      | none => true) then some (k, p) else none

/-- LOOP_SAMPLE (R308). -/
def execLoopSample (b : Sys2Proof.Beam) (s : State) : Host.Outcome State Fault Refusal :=
  .next (match s.loopDue b with
    | some (k, p) => s.askSoon [20] fun s => s.loopSample b k p
    | none => s)

/-- A sample may overrun (R334): with OVERSUB, or in a band whose budget does not cover the load. -/
def State.mayOverrun (s : State) : Bool := s.flag F.LOOP_CTRL_OVERSUB || decide (s.budget < s.loadNow)

/-- LOOP_OVERRUN (R334, R335): the sample that is due has not completed: the power holds, nothing commits, and the
fourth in a row caps and pauses the beam. -/
def execLoopOverrun (b : Sys2Proof.Beam) (s : State) : Host.Outcome State Fault Refusal :=
  .next (match (s.loops[b]).next with
    | none => s
    | some r =>
      if s.reached r.due && s.mayOverrun then
        let n := b.val
        let s := s.modLoop b fun l => { l with next := none }
        let s := match r.record with
          | some x => s.putRecord x.2
          | none => s
        let s := ((s.count (F.LOOP_BEAM_STAT_OVR_COUNT n)).count (F.LOOP_BEAM_STAT_OVR_RUN n)).loopEvent b 1
        if s.get (F.LOOP_BEAM_STAT_OVR_RUN n) = 4 then
          ((s.setFlag (F.LOOP_BEAM_STAT_CAPPED n) true).setFlag (F.LOOP_BEAM_STAT_PAUSED n) true).loopEvent b 2
        else s
      else s)

/-- A swath has been entered by beam b: a capture with TRIG 2 may start (R328). -/
def State.captureEntered (s : State) (b : Sys2Proof.Beam) : State :=
  if s.flag F.LOOP_CAP_STAT_ACTIVE && decide (s.get F.LOOP_CAP_CFG_CAP_BEAM = b.val) then
    { s with loopDev := { s.loopDev with capEntered := true } }
  else s

/-! ## Configuration (R332) -/

/-- R332: why the configuration of s is refused: reason, beam, index. -/
def State.loopRefusal (s : State) : Option (Nat × Nat × Nat) :=
  let prog := allBeams.findSome? fun b => (progFault (s.uops b)).map fun i => (2, b.val, i)
  let gain := allBeams.findSome? fun b =>
    if siloSize < s.get (F.LOOP_BEAM_GAIN_GAIN_BASE b.val) * 8192 + 8192 then some (3, b.val, 0) else none
  match prog with
  | some x => some x
  | none => gain

/-- A configuration write of word `new` at address a, under the admission rules (R332). -/
def State.loopAdmit (s : State) (a : Nat) (new : Word) : State :=
  let t := s.setReg a new
  let beam := if a < 0xF0051000 then (a - 0xF0050100) / 0x40 % 16 else (a - 0xF0051000) / 0x80 % 16
  let refuse := fun (reason bm ix : Nat) =>
    (((s.setFlag F.LOOP_CTRL_ERR true).put F.LOOP_ADMIT_REASON reason).put F.LOOP_ADMIT_BEAM bm).put F.LOOP_ADMIT_INDEX ix
  match t.loopRefusal with
  | some (r, bm, ix) => refuse r bm ix
  | none =>
    if !t.flag F.LOOP_CTRL_OVERSUB &&
        decide (s.budget < t.loadAt fun b => t.get (F.LOOP_BEAM_CFG_RATE b.val)) then refuse 1 beam 0
    else t.decideRates

end Sys2Proof.Machine
end

