-- ==== Sys2Proof/Machine/Heads.lean ====
section
/-! DEFINITION. Scan heads and lasers: set-point frames, position payloads, LPWR slots, alarms, permits
(06_trajectory_heads.md R237-R265), and what holds exposure off (R32, R95, R252, R434, R575, R651). -/

namespace Sys2Proof.Machine

/-! ## The head's lane and the holds -/

/-- Beam b stops as in R26, and the swath it runs, if any, is suspended without a try (R32, R95). -/
def State.suspendBeam (s : State) (b : Sys2Proof.Beam) : State := s.stopWith b .suspend false false

/-- Beam b still has output: an edge or an element to come, or its gate is high. -/
def State.beamOutput (s : State) (b : Sys2Proof.Beam) : Bool := s.cells[cellGate b].level || s.beamEdges b || s.beamElements b

/-- Every beam stops and is suspended (R32, R95, R575, R651); an XK channel's output stops. -/
def State.suspendAll (s : State) : State :=
  forEach allBeams s fun s b =>
    if s.xkOwns b then (if s.chBusy (beamChan b) || s.beamOutput b then s.chCut (beamChan b) else s) else s.suspendBeam b

/-- A suspended swath whose beam nothing holds any more goes on to its restart (R32, R218). -/
def State.resumeBeam (s : State) (b : Sys2Proof.Beam) : State :=
  match s.beam[b].present with
  | some w => if w.state = .suspended ∧ s.exposureHeld b = false then s.modSwath b w.hdr.id fun w => { w with state := .stopping } else s
  | none => s

/-- Every beam that may resume does. -/
def State.resumeAll (s : State) : State := forEach allBeams s fun s b => s.resumeBeam b

/-! ## From bed to head (R239-R242) -/

/-- The bed-to-head transform at a path point (R239). -/
def State.toHead (s : State) (b : Sys2Proof.Beam) (p : Pt) : Int × Int × Int :=
  let n := b.val
  let d := 2 ^ 32 * 1048576 * p.den
  (s.int (F.BEAM_XFORM_OFS_U_OFS_U n) + rdivAway (s.int (F.BEAM_XFORM_A11_A11 n) * p.x + s.int (F.BEAM_XFORM_A12_A12 n) * p.y) d,
   s.int (F.BEAM_XFORM_OFS_V_OFS_V n) + rdivAway (s.int (F.BEAM_XFORM_A21_A21 n) * p.x + s.int (F.BEAM_XFORM_A22_A22 n) * p.y) d,
   s.int (F.BEAM_XFORM_Z_OFS_Z_OFS n) + rdivAway (s.int (F.BEAM_XFORM_Z_GAIN_Z_GAIN n) * p.z) d)

/-- The four Catmull-Rom weights at s / 2^17, times 2 × 2^51 (R240). -/
def cubicWeights (x : Int) : List Int :=
  let n : Int := 2 ^ 17
  [ -(x * x * x) + 2 * x * x * n - x * n * n, 3 * x * x * x - 5 * x * x * n + 2 * n * n * n,
    -(3 * x * x * x) + 4 * x * x * n + x * n * n, x * x * x - x * x * n ]

/-- The 16 nodes about cell (i, j) of a grid at a Silo offset, row by row, three words each (R38, R240). -/
def State.gridNodes (s : State) (base : Nat) (i j : Int) : List (List Nat) × State :=
  let c := fun (x : Int) => (clampI 0 128 x).toNat
  (List.range 16).foldl (fun q n =>
    let r := q.2.devReads (base + 12 * (129 * c (j + n / 4 - 1) + c (i + n % 4 - 1))) 4 3
    (q.1 ++ [r.1], r.2)) ([], s)

/-- The corrections of R240 at (u, v), rounded: du, dv, dw. -/
def State.gridAt (s : State) (base : Nat) (u v : Int) : (Int × Int × Int) × State :=
  let cell := fun (x : Int) => min 127 ((x + 2 ^ 23).fdiv (2 ^ 17))
  let i := cell u
  let j := cell v
  let wu := cubicWeights (u + 2 ^ 23 - i * 2 ^ 17)
  let wv := cubicWeights (v + 2 ^ 23 - j * 2 ^ 17)
  let (nodes, s) := s.gridNodes base i j
  let at_ := fun (k : Nat) => rdivAway (nodes.zipIdx.foldl (fun t x =>
    t + wu.getD (x.2 % 4) 0 * wv.getD (x.2 / 4) 0 * sgn 32 (x.1.getD k 0)) 0) (4 * 2 ^ 102)
  ((at_ 0, at_ 1, at_ 2), s)

/-- The Silo offset of the grid in use for the path of beam b at t (R242). -/
def State.gridBase (s : State) (b : Sys2Proof.Beam) (t : Int) : Nat :=
  let j := s.beam[b].traj
  let own := match segAt j.path t with
    | some g => s.beam[b].swaths.find? fun (w : Swath) => decide (w.hdr.id = g.swath)
    | none => s.beam[b].present
  match own with
  | some w => w.corrBase
  | none => j.corrOld

/-- The set-point of instant t (units of 125 ps): u_c, v_c, w_c, whether any saturated, and the state once the grid is read
(R239-R241). -/
def State.setpointAt (s : State) (b : Sys2Proof.Beam) (t : Int) : (Int × Int × Int) × Bool × State :=
  let p := s.toHead b (s.beam[b].traj.posAt t)
  let (d, s) := if s.flag (F.BEAM_HEAD_CFG_CORR_EN b.val) then s.gridAt (s.gridBase b t) p.1 p.2.1 else ((0, 0, 0), s)
  let q := (p.1 + d.1, p.2.1 + d.2.1, p.2.2 + d.2.2)
  let l := clampI (-8388608) 8388607
  let c := (l q.1, l q.2.1, l q.2.2)
  (c, decide (c ≠ q), s)

/-! ## Frames (R237, R238, R243, R244) -/

/-- The frames of beam b carry STOP at instant t in ns (R244): it is stopped, or holds no swath and its output has
ended. -/
def State.frameStop (s : State) (b : Sys2Proof.Beam) (t : Nat) : Bool :=
  let j := s.beam[b].traj
  j.stopAt.isSome || (s.beam[b].present.isNone && j.seq.isNone && decide (j.stream ≤ 8 * (t : Int)))

/-- The level of the gate of beam b at instant t (units of 125 ps), after the edges that lie before it. -/
def State.gateSoon (s : State) (b : Sys2Proof.Beam) (t : Int) : Bool :=
  let c := cellGate b
  let l := s.cells[c].q ++ (s.transit.filter fun x => decide (x.1 = c)).map (·.2) ++
    (s.beam[b].traj.pend.filter fun x => decide (x.1 = c)).map (·.2)
  !s.gateBarred b && (l.filter fun x => decide (x.et ≤ t)).foldl (fun _ x => x.rises) s.cells[c].level

/-- The SP_TIME of the next frame of beam b (R243): one period after the last, or the first that is not late. -/
def State.nextFrame (s : State) (b : Sys2Proof.Beam) : Nat :=
  match s.beam[b].traj.lastFrame with
  | some l => l + 500
  | none => cdivN (s.now + s.get (F.BEAM_HEAD_CFG_HEAD_LAT b.val) + 40) 500 * 500

/-- The 16 octets of a set-point payload (R243): position, power, FLAGS and SP_TIME. -/
def setpointOctets (p : Int × Int × Int) (power flags sp : Nat) : List Octet :=
  octets (wrap 24 p.1) 3 ++ octets (wrap 24 p.2.1) 3 ++ octets (wrap 24 p.2.2) 3 ++ octets power 2 ++ octets flags 1 ++ octets sp 4

/-- SETPOINT_FRAME (R237, R243, R244): the next frame of beam b is delivered to its lane. -/
def execSetpointFrame (b : Sys2Proof.Beam) (s : State) : Host.Outcome State Fault Refusal :=
  .next (
    let n := b.val
    let sp := s.nextFrame b
    let depart : Int := sp - (s.get (F.BEAM_HEAD_CFG_HEAD_LAT n) : Nat)
    if s.headUp b = false ∨ (s.now : Int) + 540 < depart then s
    else
      let late := decide (depart < s.now + 40)
      let stop := late || s.frameStop b sp
      let isNew := decide (sp % (500 * 2 ^ s.get (F.BEAM_HEAD_CFG_SP_DIV_EFF n)) = 0)
      let (p, over_, s) := if isNew then s.setpointAt b (8 * (sp : Int)) else (s.beam[b].traj.lastUvw, false, s)
      let s := if over_ then s.count (F.BEAM_TRAJ_STAT_CLIP n) else s
      let gate := !stop && s.gateSoon b (8 * (sp : Int))
      let power := if stop ∨ s.get (F.BEAM_HEAD_CFG_POWER_PATH n) = 1 then 0
        else s.powerAt b (8 * ((sp + s.get (F.BEAM_POWER_LEAD_LEAD n) : Nat) : Int))
      let frame : Out := .setpoint b 0x10 (setpointOctets p power (b2n isNew + 2 * b2n gate + 4 * b2n stop) sp)
      let s := match s.headLane b with
        | some n => s.transmitAt n (1000 * depart.toNat) 26 frame
        | none => s
      let s := s.modTraj b fun j => { j with
        lastFrame := some sp, lastUvw := p
        sent := ⟨BitVec.ofNat 32 sp, sp, p.1, p.2.1, p.2.2⟩ :: j.sent.filter fun x => decide ((s.now : Int) - x.t ≤ 64000) }
      if late then (s.countLate (cellGate b).val).lateBeam b (cellGate b) else s)

/-! ## Position payloads (R245, R254, R255, R258) -/

/-- Head b raises its own events (R258): not heads 0 to 3 in mixed, none in XK personality. -/
def State.headEvents (s : State) (b : Sys2Proof.Beam) : Bool :=
  s.pers == 0 || (s.pers == 2 && decide (4 ≤ b.val))

/-- Event 48 + h (R258). -/
def State.headEvent (s : State) (b : Sys2Proof.Beam) (kind value lat : Nat) : State :=
  if s.headEvents b then s.raise (48 + b.val) (kind + 256 * value + 65536 * lat) else s

/-- The fields of a position payload (R245), from its 20 octets; none where it is no such payload. -/
def posPayloadOf (l : List Octet) : Option PosPayload :=
  let n := octAt l
  if l.length = 20 then
    some ⟨BitVec.ofNat 24 (n 0 3), BitVec.ofNat 24 (n 3 3), BitVec.ofNat 16 (n 6 2), BitVec.ofNat 16 (n 8 2), BitVec.ofNat 16 (n 10 2),
      BitVec.ofNat 16 (n 12 2), BitVec.ofNat 8 (n 14 1), BitVec.ofNat 8 (n 15 1), BitVec.ofNat 32 (n 16 4)⟩
  else none

/-- The latest payload of head b (R245, R254, R255, R258, R310). -/
def State.takePosition (s : State) (b : Sys2Proof.Beam) (p : PosPayload) : State :=
    let j := s.beam[b].traj
    let was := (j.payload.map (·.status)).getD 0
    let changed := decide ((was ^^^ p.status) &&& 7#8 ≠ 0#8) || j.statusOwed
    let may := match j.lastStatusEvt with
      | some t => s.past (t + 1000000)
      | none => true
    let valid := p.status.getLsbD 3 && decide (sgn 32 (wrap 32 ((s.now : Int) - p.spEcho.toNat)) ≤ 64000)
    let s := s.modTraj b fun j => { j with
      payload := some p, payloadAt := some s.now
      validAt := if valid then some s.now else j.validAt
      headSilent := j.headSilent && !valid
      statusOwed := changed && !may
      lastStatusEvt := if changed && may then some s.now else j.lastStatusEvt }
    let s := if p.status.getLsbD 4 then s.modLoop b fun l => { l with
        pds := l.pds ++ [(s.now, p.pd0a.toNat + p.pd0b.toNat, p.pd1a.toNat + p.pd1b.toNat)] } else s
    let s := if changed && may then s.headEvent b 3 p.status.toNat 0 else s
    if p.status.getLsbD 1 && s.flag (F.BEAM_FE_CFG_FE_EN b.val) then s.feTrip b true false else s

/-- POSITION_PAYLOAD (R245): a payload of head b, of type 0x20. -/
def execPositionPayload (b : Sys2Proof.Beam) (payload : List Octet) (s : State) : Host.Outcome State Fault Refusal :=
  .next (match posPayloadOf payload with
    | some p => s.takePosition b p
    | none => s)

/-- POSITION_TIMEOUT (R255, R258): 8 µs without a valid payload; a further 8 µs count as another (log entry 16). -/
def execPositionTimeout (b : Sys2Proof.Beam) (s : State) : Host.Outcome State Fault Refusal :=
  .next (
    let j := s.beam[b].traj
    let up := match s.headLane b with
      | some n => s.lanes[n].since
      | none => 0
    let from_ := max (max (j.validAt.getD 0) (j.missAt.getD 0)) (if s.headUp b then up else 0)
    if s.past (from_ + 8000) then
      let s := if s.headUp b && !j.headSilent then
          (s.modTraj b fun j => { j with headSilent := true }).headEvent b 4 0 0 else s
      if s.flag (F.BEAM_FE_CFG_FE_EN b.val) && !s.beam[b].swaths.isEmpty then s.feTrip b false true else s
    else s)

/-! ## LPWR (R249, R250) -/

/-- LPWR_SLOT (R250): the word of the latest slot of laser b, once. -/
def execLpwrSlot (b : Sys2Proof.Beam) (s : State) : Host.Outcome State Fault Refusal :=
  .next (
    let o := 250 * (b.val % 4)
    let slot := (s.now - o) / 1000 * 1000 + o
    let path := if s.xkOwns b then 1 else s.get (F.BEAM_HEAD_CFG_POWER_PATH b.val)
    if s.now < o ∨ (path ≠ 1 ∧ path ≠ 2) ∨ s.beam[b].traj.lastLpwr = some slot then s
    else
      let t := slot + 136
      let w := if s.xkOwns b then BitVec.ofNat 16 (datedAt s.xk.chan[beamChan b].pws (8 * (t : Int)) 0)
        else if s.frameStop b t then 0
        else BitVec.ofNat 16 (s.powerAt b (8 * ((t + s.get (F.BEAM_POWER_LEAD_LEAD b.val) : Nat) : Int)))
      (s.send (.lpwr b w)).modTraj b fun j => { j with lastLpwr := some slot, lastWord := w })

/-! ## Alarms and permits (R251, R252) -/

/-- LASER_ALARM (R251, R631): the input has been active for ALARM_FILTER ns: the latch, the gate low, the beam's fault and its
retirement; an XK channel halts. -/
def execLaserAlarm (b : Sys2Proof.Beam) (s : State) : Host.Outcome State Fault Refusal :=
  .next (match s.beam[b].traj.alarmAct with
    | none => s
    | some t =>
      let n := b.val
      if s.xkOwns b then
        if s.flag (F.LS_CTRL_ALARM_LEVEL n) = false ∧ s.reachedEt (t + 8 * (s.get (F.BEAM_LASER_CFG_ALARM_FILTER n) : Nat)) then
          ((s.setFlag (F.LS_CTRL_ALARM_LEVEL n) true).setFlag (F.LS_CTRL_ALARM_LATCH n) true).chHalt (beamChan b) 4
        else s
      else if s.flag (F.BEAM_LASER_CFG_ALARM_LEVEL n) = false ∧ s.reachedEt (t + 8 * (s.get (F.BEAM_LASER_CFG_ALARM_FILTER n) : Nat)) then
        let s := s.setFlag (F.BEAM_LASER_CFG_ALARM_LEVEL n) true
        let s := if s.flag (F.BEAM_LASER_CFG_ALARM_LATCH n) then s
          else
            let s := ((s.setFlag (F.BEAM_LASER_CFG_ALARM_LATCH n) true).put (F.BEAM_ALARM_TIME_LO_ET n) t).put
              (F.BEAM_ALARM_TIME_HI_ET n) (t / 2 ^ 32)
            (s.gateFall b s.nowEt).beamFault b 3 0
        s.retire b 1
      else s)

/-- The beams of permit group g. -/
def groupBeams (g : Fin 4) : List Sys2Proof.Beam := allBeams.filter fun b => decide (b.val / 4 = g.val)

/-- PERMIT_WITHDRAWN (R252, R631, R633): the gates go low at the balls, and the beams of the group are suspended or held; XK channels
run on with their gates held low, and the rise of EMIT_PERMITn[0] sets their bit. -/
def execPermitWithdrawn (g : Fin 4) (s : State) : Host.Outcome State Fault Refusal :=
  .next (
    let rose : Bool := s.pins.permit[g].isSome
    let s : State := { s with pins := { s.pins with permit := s.pins.permit.set g none } }
    let s := if s.pers != 0 && g == 0 && rose then (s.xkInt 22).raise 48 1 else s
    forEach (groupBeams g) s fun s b =>
      let s := (s.setFlag (F.BEAM_LASER_CFG_PERMIT b.val) false).setFlag (F.BEAM_LASER_CFG_PERMIT_WAIT b.val) true
      if s.xkOwns b then s else (s.gateFall b s.nowEt).suspendBeam b)

/-- PERMIT_GIVEN (R252): EMIT_PERMITn[g] falls; its beams are held until they may go on. -/
def execPermitGiven (g : Fin 4) (s : State) : Host.Outcome State Fault Refusal :=
  .next (
    if s.pins.permit[g].isSome then s
    else
      let s := { s with pins := { s.pins with permit := s.pins.permit.set g (some s.now) } }
      forEach (groupBeams g) s fun s b =>
        (s.setFlag (F.BEAM_LASER_CFG_PERMIT b.val) true).setFlag (F.BEAM_LASER_CFG_PERMIT_WAIT b.val) true)

/-- EMIT_PERMITn[g] has been low for 10 ms (R252). -/
def State.permitSettled (s : State) (g : Fin 4) : Bool :=
  !s.beaconInhibit && (match s.pins.permit[g] with
    | some t => s.past (max t s.hk.inhibitEnd + 10000000)
    | none => false)

/-- Beam b need wait for its permit no longer. -/
def State.permitResume (s : State) (b : Sys2Proof.Beam) : State :=
  (s.setFlag (F.BEAM_LASER_CFG_PERMIT_WAIT b.val) false).resumeBeam b

/-- PERMIT_RESTORED (R252): low for 10 ms: the beams with AUTO_RESUME go on. -/
def execPermitRestored (g : Fin 4) (s : State) : Host.Outcome State Fault Refusal :=
  .next (
    if s.permitSettled g then
      forEach (groupBeams g) s fun s b => if s.flag (F.BEAM_LASER_CFG_AUTO_RESUME b.val) then s.permitResume b else s
    else s)

/-- R252: a write of RESUME to BEAM_LASER_CFG of beam b. It acts once the permit has been low for 10 ms. -/
def State.laserResume (s : State) (b : Sys2Proof.Beam) : State :=
  if s.permitSettled ⟨b.val / 4, by omega⟩ then s.permitResume b else s

end Sys2Proof.Machine
end

