-- ==== Sys2Proof/Machine/View.lean ====
section
/-! DEFINITION. The view in which a reader or writer of registers stands (00_scope.md R7, R8). -/

namespace Sys2Proof.Machine

/-- The access is in the supervisor view: an engine with P, or an OPEN supervisor session (R147, R501). -/
def State.supView (s : State) : Reader → Bool
  | .engine e => s.engPriv e
  | .session n => s.get (F.HOST_SESS_INFO_STATE n.val) == 2 && s.flag (F.HOST_SESS_INFO_VIEW n.val)

/-- An access that the view may not make (R8): an engine takes the privilege violation; a session's is refused. -/
def State.denied (s : State) : Reader → State
  | .engine e => s.syncExc e 2 0
  | .session _ => s

end Sys2Proof.Machine
end

