-- ==== Sys2Proof/Machine/Thresher.lean ====
section
/-! DEFINITION. Camera streams and the Thresher pipelines (09_thresher.md R343-R378). -/

namespace Sys2Proof.Machine

/-- s with stream n changed by f. -/
def State.modStream (s : State) (n : Stream) (f : StreamSt → StreamSt) : State := { s with streams := vmod s.streams n f }
/-- s with slot i of stream n changed by f. -/
def State.modSlot (s : State) (n : Stream) (i : Fin 4) (f : SlotSt → SlotSt) : State :=
  s.modStream n fun x => { x with slots := vmod x.slots i f }
/-- s with pipeline p changed by f. -/
def State.modPipe (s : State) (p : Fin 4) (f : PipeSt → PipeSt) : State := { s with pipes := vmod s.pipes p f }

/-- R344: stream n has a lane in the personality. -/
def State.camFitted (s : State) (n : Stream) : Bool :=
  decide (16 ≤ n.val) || (s.pers == 0) || (s.pers == 2 && decide (4 ≤ n.val))

/-- The lane of stream n (R343). -/
def State.camLane (s : State) (n : Stream) : Option Lane :=
  if n.val < 16 then s.roleLane 1 n.val else s.roleLane 2 (n.val - 16)

/-- The lane of stream n is UP. -/
def State.camUp (s : State) (n : Stream) : Bool := match s.camLane n with
  | some l => s.laneUp l
  | none => false

/-- The pipeline of stream n. -/
def State.pipeOf (s : State) (n : Stream) : Fin 4 := ⟨s.get (F.IMG_CAM_CFG_PIPE n.val) % 4, by omega⟩

/-- Event 128 + n (R375). -/
def State.camEvent (s : State) (n : Stream) (kind frameNo : Nat) : State :=
  s.raise (128 + n.val) (kind + 65536 * (frameNo % 65536))
/-- Event 148 + p (R375). -/
def State.pipeEvent (s : State) (p : Fin 4) (kind : Nat) (n : Stream) : State := s.raise (148 + p.val) (kind + 65536 * n.val)

/-! ## Landing rings (R351, R352) -/

/-- The bit depth of a code (R348). -/
def depthOf (code : Nat) : Nat := [8, 10, 12, 16].getD code 16
/-- N_MAX of stream n (R351). -/
def State.depthMax (s : State) (n : Stream) : Nat := depthOf (s.get (F.IMG_CAM_RATE_DEPTH n.val))
/-- STRIDE (R351). -/
def State.camStride (s : State) (n : Stream) : Nat :=
  cdivN (cdivN (s.get (F.IMG_CAM_MAX_MAX_W n.val) * s.depthMax n) 8) 64 * 64
/-- SLOT_SIZE (R351). -/
def State.slotSize (s : State) (n : Stream) : Nat := 64 + s.camStride n * s.get (F.IMG_CAM_MAX_MAX_H n.val)
/-- RING_BASE. -/
def State.camRing (s : State) (n : Stream) : Nat := s.get (F.IMG_CAM_RING_BASE n.val) * 64
/-- The Silo offset of slot i (R351). -/
def State.camSlot (s : State) (n : Stream) (i : Fin 4) : Nat := s.camRing n + i.val * s.slotSize n

/-- FILL shows the slots that are not EMPTY. -/
def State.showFill (s : State) (n : Stream) : State :=
  s.put (F.IMG_CAM_STAT_FILL n.val) (((List.finRange 4).filter fun i => s.streams[n].slots[i].step != .empty).length)

/-- Slot i of stream n becomes EMPTY (R354). -/
def State.freeSlot (s : State) (n : Stream) (i : Fin 4) : State :=
  ((s.modStream n fun x => { x with slots := x.slots.set i {}, order := x.order.filter (· ≠ i) })).showFill n

/-- The unit that runs on slot i of stream n has lost its frame. -/
def State.killUnit (s : State) (n : Stream) (i : Fin 4) : State :=
  forEach (List.finRange 4) s fun s p => s.modPipe p fun q =>
    { q with run := q.run.map fun u => if u.stream = n ∧ u.slot = i then { u with dead := true } else u }

/-- The slot in which a frame of stream n lands. -/
def State.landingSlot (s : State) (n : Stream) : Option (Fin 4) :=
  (List.finRange 4).find? fun i => s.streams[n].slots[i].step == .landing

/-- The frame that lands on stream n is discarded (R353). -/
def State.dropLanding (s : State) (n : Stream) (counted : Bool) : State :=
  match s.landingSlot n with
  | none => s
  | some i =>
    let no := s.streams[n].slots[i].frame.frameNo.toNat
    let s := (s.killUnit n i).freeSlot n i
    let s := s.modStream n fun x => { x with next := i, discards := if counted then x.discards + 1 else x.discards }
    if counted then (s.count (F.IMG_CAM_CNT_DAMAGED n.val)).camEvent n 3 no else s

/-! ## Pixels: the stages (R358-R360) -/

/-- What the stages need of a frame: its size, region, FORMAT, raw pixels, the context block, and halfwords and words
of the Silo. `open_` is the value of a quotient by zero, which the spec leaves open (log entry 11). -/
structure Img where
  w : Nat
  h : Nat
  rx : Nat
  ry : Nat
  depth : Nat
  layout : Nat
  phase : Nat
  raw : Nat → Nat → Nat
  half : Nat → Nat
  word : Nat → Nat
  blk : List Byte
  open_ : Nat → Nat → Nat

/-- Field of n octets at offset o of the context block (R360). -/
def Img.f (m : Img) (o n : Nat) : Nat := octAt m.blk o n
/-- STAGES bit k. -/
def Img.stage (m : Img) (k : Nat) : Bool := (m.f 0 4).testBit k
/-- CONV. -/
def Img.conv (m : Img) : Nat := m.f 0 4 / 32 % 4
/-- The number of channels (R358). -/
def Img.nch (m : Img) : Nat := if m.layout = 1 then 3 else if m.layout = 2 then 2 else 1

/-- Results are limited to 0 to 65,535 (R358). -/
def lim16 (i : Int) : Nat := if i < 0 then 0 else if 65535 < i then 65535 else i.toNat
/-- a / b to the nearest integer, ties upwards (R358). -/
def roundUp (a : Int) (b : Nat) : Int := (2 * a + b).fdiv (2 * b)

/-- Mirroring about the edge pixel (R359). -/
def mirror (n : Nat) (i : Int) : Nat :=
  if n ≤ 1 then 0
  else
    let k := (i % (2 * ((n : Int) - 1))).toNat
    if k < n then k else 2 * (n - 1) - k

/-- The phase of a pixel (R359). -/
def Img.phaseAt (m : Img) (x y : Nat) : Nat :=
  let xs := m.rx + x
  let ys := m.ry + y
  if m.layout = 1 then 2 * (ys % 2) + xs % 2 else if m.layout = 2 then xs % 2 else 0

/-- The colour or band at a phase (R348): 0, 1, 2 for R, G, B; 0, 1 for A, B. -/
def Img.colour (m : Img) (x y : Nat) : Nat :=
  let p := m.phaseAt x y
  if m.layout = 1 then
    ([[0, 1, 1, 2], [1, 0, 2, 1], [1, 2, 0, 1], [2, 1, 1, 0]].getD m.phase []).getD p 0
  else if m.layout = 2 then (p + m.phase) % 2
  else 0

/-- The offsets of the same-phase neighbours (R359). -/
def Img.steps (m : Img) : Int × Int := if m.layout = 1 then (2, 2) else if m.layout = 2 then (2, 1) else (1, 1)

/-- A pixel at an offset, mirrored at the edges. -/
def Img.off (m : Img) (g : Nat → Nat → Nat) (x y : Nat) (dx dy : Int) : Nat :=
  g (mirror m.w ((x : Int) + dx)) (mirror m.h ((y : Int) + dy))

/-- The median of the 8 same-phase neighbours (R359). -/
def Img.median (m : Img) (g : Nat → Nat → Nat) (x y : Nat) : Nat :=
  let (p, q) := m.steps
  let l := [(p, 0), (-p, 0), (0, q), (0, -q), (p, q), (p, -q), (-p, q), (-p, -q)].map fun (d : Int × Int) => m.off g x y d.1 d.2
  let t := l.mergeSort (fun a b => decide (a ≤ b))
  (t.getD 3 0 + t.getD 4 0) / 2

/-- Input and black level. -/
def Img.black (m : Img) (x y : Nat) : Nat :=
  let v := m.raw x y * 2 ^ (16 - m.depth)
  if m.stage 0 then v - m.f (4 + 2 * m.phaseAt x y) 2 else v

/-- The defect table holds the pixel (R359). -/
def Img.defect (m : Img) (x y : Nat) : Bool :=
  (List.range (m.f 0x10 4 % 8192)).any fun i => m.word (m.f 0x0C 4 + 4 * i) == m.rx + x + 65536 * (m.ry + y)

/-- Static defects. -/
def Img.static (m : Img) (x y : Nat) : Nat :=
  if m.stage 1 && m.defect x y then m.median m.black x y else m.black x y

/-- Dynamic defects (log entry 21). -/
def Img.dynamic (m : Img) (x y : Nat) : Nat :=
  let v := m.static x y
  if m.stage 2 then
    let d := m.median m.static x y
    if m.f 0x12 2 < (if v < d then d - v else v - d) then d else v
  else v

/-- Flat field (R359): the gain in units of 2^-(14 + 2s). -/
def Img.flat (m : Img) (x y : Nat) : Nat :=
  let v := m.dynamic x y
  if m.stage 3 then
    let e := 2 ^ (m.f 0x18 4 % 8)
    let xs := min (m.rx + x) (64 * e)
    let ys := min (m.ry + y) (64 * e)
    let i := min (xs / e) 63
    let j := min (ys / e) 63
    let a := xs - i * e
    let b := ys - j * e
    let g := fun i j => m.half (m.f 0x14 4 + 2 * (65 * j + i))
    let k := (e - b) * ((e - a) * g i j + a * g (i + 1) j) + b * ((e - a) * g i (j + 1) + a * g (i + 1) (j + 1))
    lim16 (roundUp ((v * k : Nat) : Int) (16384 * e * e))
  else v

/-- The mean of pixels at offsets. -/
def Img.mean (m : Img) (x y : Nat) (l : List (Int × Int)) : Nat :=
  lim16 (roundUp (((l.map fun d => m.off m.flat x y d.1 d.2).foldl (· + ·) 0 : Nat) : Int) l.length)

/-- Demosaic (R359): channel c at a pixel. -/
def Img.demosaic (m : Img) (x y c : Nat) : Nat :=
  let own := m.colour x y
  if own = c ∨ m.layout = 0 then m.flat x y
  else if m.layout = 2 then m.mean x y [(-1, 0), (1, 0)]
  else if c = 1 then m.mean x y [(-1, 0), (1, 0), (0, -1), (0, 1)]
  else if own = 1 then
    if m.colour (mirror m.w ((x : Int) + 1)) y = c then m.mean x y [(-1, 0), (1, 0)] else m.mean x y [(0, -1), (0, 1)]
  else m.mean x y [(-1, -1), (1, -1), (-1, 1), (1, 1)]

/-- Gains. -/
def Img.gain (m : Img) (x y c : Nat) : Nat :=
  let v := m.demosaic x y c
  if m.stage 4 then lim16 (roundUp ((v * m.f (0x1C + 2 * c) 2 : Nat) : Int) 4096) else v

/-- The pixel counts as INVALID (R359). -/
def Img.invalid (m : Img) (x y : Nat) : Bool := m.conv == 2 && decide (m.gain x y 1 < m.f 0x38 2)

/-- Matrix and ratio. -/
def Img.convert (m : Img) (x y c : Nat) : Nat :=
  if m.conv = 1 then
    lim16 (roundUp (((List.range 3).map fun j => sgn 16 (m.f (0x24 + 2 * (3 * c + j)) 2) * (m.gain x y j : Int)).foldl (· + ·) 0) 8192)
  else if m.conv = 2 then
    let a := m.gain x y 0
    let b := m.gain x y 1
    if c = 1 then a
    else if m.invalid x y then 0
    else if b = 0 then m.open_ x y
    else m.half (m.f 0x3C 4 + 2 * min 1023 (256 * a / b))
  else m.gain x y c

/-- Tone: the value of channel c at a pixel behind all stages. -/
def Img.value (m : Img) (x y c : Nat) : Nat :=
  let v := m.convert x y c
  if m.stage 7 then
    let t := fun h => m.half (m.f 0x40 4 + 514 * c + 2 * h)
    let h := v / 256
    lim16 ((t h : Int) + roundUp (((t (h + 1) : Int) - t h) * (v % 256 : Nat)) 256)
  else v

/-- Every place of the frame. -/
def Img.places (m : Img) : List (Nat × Nat) :=
  (List.range m.h).flatMap fun y => (List.range m.w).map fun x => (x, y)

/-! ## Statistics (R362, R363) -/

/-- Bin j of channel c. -/
def Img.bin (m : Img) (c j : Nat) : Nat :=
  if c < m.nch then min (2 ^ 32 - 1) ((m.places.filter fun p => m.value p.1 p.2 c / 256 == j).length) else 0

/-- The average of zone (zx, zy) of channel c. -/
def Img.zone (m : Img) (c zx zy : Nat) : Nat :=
  let nx := m.f 0x44 1
  let ny := m.f 0x45 1
  if c < m.nch ∧ zx < nx ∧ zy < ny then
    let l := m.places.filter fun p => decide (zx * m.w / nx ≤ p.1 ∧ p.1 < (zx + 1) * m.w / nx ∧
      zy * m.h / ny ≤ p.2 ∧ p.2 < (zy + 1) * m.h / ny)
    if l.isEmpty then 0 else (l.map fun p => m.value p.1 p.2 c).foldl (· + ·) 0 / l.length
  else 0

/-- The zone averages of a set that are not 0, by channel × 1,024 + zone (R364). -/
def Img.zones (m : Img) : List (Nat × BitVec 16) :=
  ((List.range m.nch).flatMap fun c => (List.range 1024).map fun z => (c * 1024 + z, BitVec.ofNat 16 (m.zone c (z % 32) (z / 32)))).filter
    fun e => e.2 != 0

/-! ## Outputs (R365, R366) -/

/-- The octets per pixel of a format. -/
def fmtSize (fmt : Nat) : Nat := [1, 2, 3, 4, 2].getD fmt 1

/-- A pixel of an output from its channels (R366). -/
def fmtPixel (fmt src nch : Nat) (ch : Nat → Nat) : List Byte :=
  let v := fun c => if c < nch then ch c else ch 0
  match fmt with
  | 0 => octets (v src / 256) 1
  | 1 => octets (v src) 2
  | 2 => octets (v 0 / 256) 1 ++ octets (v 1 / 256) 1 ++ octets (v 2 / 256) 1
  | 3 => octets (0xFF000000 + v 0 / 256 * 65536 + v 1 / 256 * 256 + v 2 / 256) 4
  | _ => octets (v 0 / 2048 * 2048 + v 1 / 1024 * 32 + v 2 / 2048) 2

/-- The clipped crop of output o: its origin and size (R365). -/
def Img.crop (m : Img) (o : Nat) : Nat × Nat × Nat × Nat :=
  let b := 0x50 + 0x20 * o
  let x := m.f (b + 4) 2
  let y := m.f (b + 6) 2
  (x, y, min (m.f (b + 8) 2) (m.w - x), min (m.f (b + 10) 2) (m.h - y))

/-- One pixel of output o: the mean of its pixels, rounded down (R365); with none, an open value. -/
def Img.outPixel (m : Img) (o ox oy c : Nat) : Nat :=
  let k := m.f (0x50 + 0x20 * o + 0x0C) 4 % 128
  let (x0, y0, cw, ch) := m.crop o
  let l := ((List.range ch).filter fun y => decide (y * k / 64 = oy)).flatMap fun y =>
    ((List.range cw).filter fun x => decide (x * k / 64 = ox)).map fun x => m.value (x0 + x) (y0 + y) c
  if l.isEmpty then m.open_ ox oy else l.foldl (· + ·) 0 / l.length

/-- The context block is valid for a frame of this layout (R361; log entry 21). -/
def Img.ok (m : Img) (statsIn : Nat) : Bool :=
  let inSilo := fun (a n : Nat) => decide (a + n ≤ siloSize)
  let outs := (List.range 4).map fun o => 0x50 + 0x20 * o
  decide (m.f 0 4 < 256 ∧ m.f 0x10 4 / 8192 % 8 = 0 ∧ m.f 0x18 4 < 8 ∧ m.f 0x36 2 = 0 ∧ m.f 0x3A 2 = 0 ∧
    m.f 0x44 4 / 64 % 4 = 0 ∧ m.f 0x44 4 < 16384 ∧ m.f 0x4C 4 = 0 ∧ m.f 0xD0 48 = 0 ∧
    1 ≤ m.f 0x44 1 ∧ m.f 0x44 1 ≤ 32 ∧ 1 ≤ m.f 0x45 1 ∧ m.f 0x45 1 ≤ 32 ∧ m.f 0x10 4 % 8192 ≤ 4096) &&
  (m.conv == 0 || (m.conv == 1 && m.layout == 1) || (m.conv == 2 && m.layout == 2)) &&
  (!m.stage 1 || inSilo (m.f 0x0C 4) (4 * (m.f 0x10 4 % 8192))) && (!m.stage 3 || inSilo (m.f 0x14 4) 8450) &&
  (m.conv != 2 || inSilo (m.f 0x3C 4) 2048) && (!m.stage 7 || inSilo (m.f 0x40 4) (514 * m.nch)) && inSilo (m.f 0x48 4) statsIn &&
  outs.all fun b =>
    decide (m.f b 4 / 64 % 4 = 0 ∧ m.f b 4 < 4096 ∧ m.f (b + 0x0C) 4 < 128 ∧ m.f (b + 0x1C) 4 = 0) &&
    (!(m.f b 4).testBit 0 ||
      (decide (m.f b 4 / 2 % 8 < 5 ∧ 4 ≤ m.f (b + 0x0C) 4 ∧ m.f (b + 0x0C) 4 ≤ 64) &&
        inSilo (m.f (b + 0x10) 4) (m.f (b + 0x18) 4 * (if m.f b 4 / 256 = 0 then 16 else m.f b 4 / 256))))

/-- The frame of a slot whose packed data lie at base with a stride, under a context block. What a word of a table gives that holds an
uncorrectable error is open (R38; log entry 46). -/
def State.img (s : State) (x : CamFrame) (base st : Nat) (blk : List Byte) : Img :=
  let open_ := fun k => (Config.freeValue s.free k).toNat
  let d := depthOf (x.format.toNat % 4)
  { w := x.width.toNat, h := x.height.toNat, rx := x.roiX.toNat, ry := x.roiY.toNat, depth := d
    layout := x.format.toNat / 16 % 4, phase := x.format.toNat / 64
    raw := fun px py => s.silo.read (base + st * py + px * d / 8) 4 / 2 ^ (px * d % 8) % 2 ^ d
    half := fun a => if s.silo.badIn a 2 then open_ (2 ^ 27 + a) % 65536 else s.silo.read a 2
    word := fun a => if s.silo.badIn a 4 then open_ (2 ^ 27 + a) else s.silo.read a 4
    blk := blk
    open_ := fun px py => open_ (px + 4096 * py) % 65536 }

/-- The tables in the Silo that the stages of a frame read (R359, R360): their offsets and lengths. -/
def Img.tables (m : Img) : List (Nat × Nat) :=
  (if m.stage 1 then [(m.f 0x0C 4, 4 * (m.f 0x10 4 % 8192))] else []) ++ (if m.stage 3 then [(m.f 0x14 4, 8450)] else []) ++
    (if m.conv = 2 then [(m.f 0x3C 4, 2048)] else []) ++ (if m.stage 7 then [(m.f 0x40 4, 514 * m.nch)] else [])

/-! ## Choosing units (R367-R369) -/

/-- The lines of a stripe of stream n. -/
def State.stripeLines (s : State) (n : Stream) : Nat := 16 * s.get (F.IMG_CAM_CFG_STRIPE n.val)

/-- The last stripe of a frame (R367). -/
def State.lastStripe (s : State) (n : Stream) (i : Fin 4) (j : Nat) : Bool :=
  !s.flag (F.IMG_CAM_CFG_SHARE n.val) ||
    decide (s.streams[n].slots[i].frame.height.toNat ≤ (j + 1) * s.stripeLines n)

/-- Stripe j of the frame in slot i of stream n, or the frame, is ready (R367). -/
def State.unitReady (s : State) (n : Stream) (i : Fin 4) (j : Nat) : Bool :=
  let x := s.streams[n].slots[i]
  !x.decim && (decide (x.step = .ready ∨ x.step = .working) ||
    (x.step == .landing && s.flag (F.IMG_CAM_CFG_SHARE n.val) && decide ((j + 1) * s.stripeLines n + 1 < x.line)))

/-- A pipeline runs a unit of stream n. -/
def State.unitRuns (s : State) (n : Stream) : Option UnitRun :=
  (List.finRange 4).findSome? fun p => s.pipes[p].run.filter fun u => decide (u.stream = n)

/-- The unit of stream n that comes next: the oldest frame's; `ended` takes the unit of the stream that runs, if one does, as ended
already (R369), and without it a stream whose unit runs has none, its units being processed one at a time (R367). -/
def State.readyUnit (s : State) (ended : Bool) (n : Stream) : Option (Fin 4 × Nat) :=
  let first := fun (l : List (Fin 4)) => match l with
    | [] => none
    | i :: _ => let j := (s.streams[n].slots[i]).stripe; if s.unitReady n i j then some (i, j) else none
  match s.unitRuns n with
  | none => first s.streams[n].order
  | some u =>
    if !ended then none
    else if u.dead then first s.streams[n].order
    else if u.last || u.cut then first (s.streams[n].order.filter fun i => decide (i ≠ u.slot))
    else if s.unitReady n u.slot (u.stripe + 1) then some (u.slot, u.stripe + 1) else none

/-- The streams that pipeline p serves. -/
def State.pipeStreams (s : State) (p : Fin 4) : List Stream :=
  (List.finRange 20).filter fun n => s.flag (F.IMG_CAM_CFG_ENABLE n.val) && decide (s.pipeOf n = p)

/-- Unit (n, i) goes before unit (m, j) (R368). -/
def State.unitBefore (s : State) (n m : Stream) (i j : Fin 4) : Bool :=
  let pn := s.get (F.IMG_CAM_CFG_PRIO n.val)
  let pm := s.get (F.IMG_CAM_CFG_PRIO m.val)
  let tn := s.streams[n].slots[i].tSof
  let tm := s.streams[m].slots[j].tSof
  decide (pm < pn) || (pn == pm && (later 64 tm tn || (tn == tm && decide (n < m))))

/-- The choice of R368 among the ready units of pipeline p; `ended` for the provisional one. -/
def State.chooseUnit (s : State) (ended : Bool) (p : Fin 4) : Option (Stream × Fin 4 × Nat) :=
  (s.pipeStreams p).foldl (fun best n => match s.readyUnit ended n with
    | none => best
    | some (i, k) => match best with
      | none => some (n, i, k)
      | some (m, j, l) => if s.unitBefore n m i j then some (n, i, k) else some (m, j, l)) none

/-- The context block of stream n as the pipeline reads it (R38, R361); none outside the Silo. -/
def State.ctxBlock (s : State) (n : Stream) : Option (List Byte × State) :=
  let a := s.get (F.IMG_CAM_CTX_BASE n.val) * 256
  if a + 256 ≤ siloSize then
    let (l, t) := s.devReads a 4 64
    some (l.flatMap fun w => octets w 4, t)
  else none

/-- Pipeline p starts the unit it chooses, if it is idle, once its domain is ON: at a frame's first unit it reads the context block, and a
frame whose block is invalid is freed (R361, R368). The count bounds the frames freed. -/
def State.startUnit (s : State) (p : Fin 4) : Nat → State
  | 0 => s
  | k + 1 =>
    if s.pipes[p].run.isSome then s
    else match s.chooseUnit false p with
      | none => s.put (F.IMG_PIPE_STAT_RUN_STREAM p.val) 0x1F
      | some (n, i, j) => s.askSoon [domPipe p] fun s =>
        let run := fun (s : State) =>
          let u : UnitRun := { stream := n, slot := i, stripe := j, last := s.lastStripe n i j, at_ := s.camSlot n i, stride := s.camStride n }
          let s := (s.modPipe p fun q => { q with run := some u }).put (F.IMG_PIPE_STAT_RUN_STREAM p.val) n.val
          s.modSlot n i fun x => if x.step = .ready then { x with step := .working } else x
        if j ≠ 0 then run s
        else
          let s := s.setFlag (F.IMG_CAM_CTX_PEND n.val) false
          match s.ctxBlock n with
          | some (b, s) =>
            if (s.img s.streams[n].slots[i].frame (s.camSlot n i + 64) (s.camStride n) b).ok 65536 then
              run (s.modStream n fun x => { x with block := b })
            else ((s.freeSlot n i).pipeEvent p 1 n).startUnit p k
          | none => ((s.freeSlot n i).pipeEvent p 1 n).startUnit p k

/-- Pipeline p looks for work. -/
def State.pipeKick (s : State) (p : Fin 4) : State := s.startUnit p 80

/-! ## Camera payloads (R346-R353) -/

/-- The line of packed octets (R348). -/
def lineBytes (f : CamFrame) : Nat := cdivN (f.width.toNat * depthOf (f.format.toNat % 4)) 8

/-- The fields of a FRAME_START are in range (R343, R348, R353). -/
def State.frameFits (s : State) (n : Stream) (f : CamFrame) : Bool :=
  decide (1 ≤ f.width.toNat ∧ f.width.toNat ≤ s.get (F.IMG_CAM_MAX_MAX_W n.val) ∧ 1 ≤ f.height.toNat ∧
    f.height.toNat ≤ s.get (F.IMG_CAM_MAX_MAX_H n.val) ∧ depthOf (f.format.toNat % 4) ≤ s.depthMax n ∧
    f.format.toNat / 4 % 4 = 0 ∧ f.format.toNat / 16 % 4 ≠ 3) &&
  !(decide (f.format.toNat / 16 % 4 = 2 ∧ 2 ≤ f.format.toNat / 64))

/-- The header of a landing frame (R352). -/
def camHeader (f : CamFrame) (status : BitVec 8) (tSof tExp dropped gap tEof : Nat) : List Byte :=
  octets f.frameNo.toNat 4 ++ [f.gen, f.format, status, 0] ++ octets f.roiX.toNat 2 ++ octets f.roiY.toNat 2 ++
  octets f.width.toNat 2 ++ octets f.height.toNat 2 ++ octets tSof 8 ++ octets tExp 8 ++ octets f.exposure.toNat 4 ++
  octets dropped 2 ++ octets gap 2 ++ octets tEof 8 ++ List.replicate 16 0

/-- T_SOF: the stamp, an ET value at the PMA boundary, completed under R98 and corrected to the balls, in whole ns (R119, R350; log entry
21). -/
def State.tSof (s : State) (n : Stream) (stamp : BitVec 64) : Nat :=
  let rate := match s.camLane n with
    | some l => s.laneRate l
    | none => 0
  wrap 64 ((s.etFull stamp * 125 - rxLatPs rate).fdiv 1000)

/-- A frame discarded at its FRAME_START is counted and reported (R353, R375). -/
def State.refuseFrame (s : State) (n : Stream) (f : CamFrame) (kind : Nat) : State :=
  ((s.modStream n fun x => { x with discards := x.discards + 1 }).count
    (if kind = 3 then F.IMG_CAM_CNT_DAMAGED n.val else F.IMG_CAM_CNT_DROPPED n.val)).camEvent n kind f.frameNo.toNat

/-- A frame begins to land in the next slot (R351, R352, R370). -/
def State.landFrame (s : State) (n : Stream) (f : CamFrame) (t : Nat) : State :=
  let x := s.streams[n]
  let d := min x.discards 65535
  let g := match x.landed with
    | some (l, _) => min (wrap 32 ((f.frameNo.toNat : Int) - l.toNat - 1 - x.discards)) 65535
    | none => 0
  let tExp := wrap 64 ((t : Int) - f.expAgo.toNat)
  let decim := decide (1 ≤ s.stage) && !s.flag (F.IMG_CAM_CFG_T1_EXEMPT n.val) && f.frameNo.getLsbD 0
  let s := s.modSlot n x.next fun _ => { step := .landing, frame := f, tSof := t, dropped := d, gap := g, decim := decim }
  let s := s.modStream n fun y => { y with order := y.order ++ [x.next] }
  (s.siloPut (s.camSlot n x.next) (camHeader f 0 t tExp d g 0)).showFill n

/-- T_SOF t lies too close behind that of the frame landed last (R353). -/
def State.overRate (s : State) (n : Stream) (t : Nat) : Bool :=
  match s.streams[n].landed with
  | some (_, l) => decide (16 * s.get (F.IMG_CAM_RATE_MAX_FPS n.val) * wrap 64 ((t : Int) - l) < 15 * 1000000000)
  | none => false

/-- The slot the next frame of stream n lands in is EMPTY. -/
def State.slotFree (s : State) (n : Stream) : Bool := s.streams[n].slots[s.streams[n].next].step == .empty

/-- GEN_RX of a FRAME_START answers the CAM_SET that is pending, whether or not the stream is in service (R355). -/
def State.camSetHeard (s : State) (n : Stream) (genRx : BitVec 8) : State :=
  if s.flag (F.IMG_CAM_STAT_SET_PEND n.val) && genRx.toNat == s.get (F.IMG_CAM_STAT_GEN n.val) then
    s.setFlag (F.IMG_CAM_STAT_SET_PEND n.val) false else s

/-- What a FRAME_START does on a stream in service (R350-R354). -/
def State.frameStart (s : State) (n : Stream) (f : CamFrame) (t : Nat) : State :=
  let s := (s.wakeDomain (domPipe (s.pipeOf n))).dropLanding n true
  if s.slotFree n then
    if s.overRate n t then s.refuseFrame n f 2
    else if s.frameFits n f then s.landFrame n f t
    else s.refuseFrame n f 3
  else s.refuseFrame n f 1

/-- FRAME_START (R346, R350-R355, R370). -/
def execFrameStart (n : Stream) (f : CamFrame) (stamp : BitVec 64) (s : State) : Host.Outcome State Fault Refusal :=
  .next (
    if s.camUp n then
      let s := s.camSetHeard n f.genRx
      if s.flag (F.IMG_CAM_CFG_ENABLE n.val) then s.frameStart n f (s.tSof n stamp) else s
    else s)

/-- LINE (R347, R353): data in order lands; anything else damages the frame. -/
def execLine (n : Stream) (frameLo line ofs : BitVec 16) (data : List (BitVec 8)) (s : State) : Host.Outcome State Fault Refusal :=
  .next (match s.landingSlot n with
    | none => s
    | some i =>
      let x := s.streams[n].slots[i]
      let lb := lineBytes x.frame
      if frameLo.toNat = x.frame.frameNo.toNat % 65536 ∧ line.toNat = x.line ∧ ofs.toNat = x.ofs ∧ 1 ≤ data.length ∧
          data.length ≤ 256 ∧ x.ofs + data.length ≤ lb ∧ x.line < x.frame.height.toNat then
        let e := x.ofs + data.length
        let s := s.siloPut (s.camSlot n i + 64 + s.camStride n * x.line + x.ofs) data
        let s := s.modSlot n i fun y => if e = lb then { y with line := y.line + 1, ofs := 0 } else { y with ofs := e }
        s.pipeKick (s.pipeOf n)
      else s.dropLanding n true)

/-- R357: the commits whose TARGET is the frame that landed with an earlier generation. -/
def State.lateSet (s : State) (n : Stream) (f : CamFrame) : State :=
  let bad := s.streams[n].commits.any fun c => c.target == f.frameNo && later 8 c.gen.toNat f.gen.toNat
  let s := s.modStream n fun x => { x with commits := x.commits.filter fun c => later 32 c.target.toNat f.frameNo.toNat }
  if bad then (s.setFlag (F.IMG_CAM_STAT_LATE_SET n.val) true).camEvent n 4 f.frameNo.toNat else s

/-- FRAME_END (R347, R352-R354, R357, R370): the frame has landed, or is damaged. -/
def execFrameEnd (n : Stream) (frameNo : BitVec 32) (lines : BitVec 16) (status : BitVec 8) (s : State) :
    Host.Outcome State Fault Refusal :=
  .next (match s.landingSlot n with
    | none => s
    | some i =>
      let x := s.streams[n].slots[i]
      if frameNo ≠ x.frame.frameNo then s
      else if lines ≠ x.frame.height ∨ status ≠ 0 ∨ x.line ≠ x.frame.height.toNat then s.dropLanding n true
      else
        let tExp := wrap 64 ((x.tSof : Int) - x.frame.expAgo.toNat)
        let s := s.siloPut (s.camSlot n i) (camHeader x.frame status x.tSof tExp x.dropped x.gap s.now)
        let s := (s.put (F.IMG_CAM_STAT_GEN_SEEN n.val) x.frame.gen.toNat).setFlag (F.IMG_CAM_STAT_LOST n.val) false
        let s := s.put (F.IMG_CAM_FRAME_FRAME_NO n.val) frameNo.toNat
        let s := s.put (F.IMG_CAM_CNT_GAP n.val) (min 255 (s.get (F.IMG_CAM_CNT_GAP n.val) + x.gap))
        let s := s.modStream n fun y => { y with landed := some (frameNo, x.tSof), discards := 0, next := i + 1 }
        let s := s.lateSet n x.frame
        let s := if x.decim then s.freeSlot n i else s.modSlot n i fun y => { y with step := .ready }
        s.pipeKick (s.pipeOf n))

/-! ## Exposure settings (R345, R355) -/

/-- The CAM_SET payload of the staged settings (R345). -/
def State.camSetPayload (s : State) (n : Stream) (target : BitVec 32) : List (BitVec 8) :=
  let m := n.val
  octets (s.get (F.IMG_CAM_STAT_GEN m)) 1 ++ [0, 0, 0] ++ octets target.toNat 4 ++ octets (s.get (F.IMG_CAM_SET_EXP_EXP m)) 4 ++
  octets (s.get (F.IMG_CAM_SET_GAIN_GAIN m)) 2 ++ octets (s.get (F.IMG_CAM_SET_ROI0_ROI_X m)) 2 ++
  octets (s.get (F.IMG_CAM_SET_ROI0_ROI_Y m)) 2 ++ octets (s.get (F.IMG_CAM_SET_ROI1_ROI_W m)) 2 ++
  octets (s.get (F.IMG_CAM_SET_ROI1_ROI_H m)) 2 ++ [0, 0] ++ octets (s.get (F.IMG_CAM_SET_PERIOD_PERIOD m)) 4

/-- The pending CAM_SET of stream n is sent, if its lane is UP. -/
def State.sendCamSet (s : State) (n : Stream) : State :=
  match s.camLane n with
  | some l => if s.laneUp l && s.camFitted n then
      (s.linkSend l 0x18 true 0 s.streams[n].camSet).modStream n fun x => { x with camSent := some s.now } else s
  | none => s

/-- CAM_SET_COMMIT (R355): a write of TARGET to IMG_CAM_SET_CMD. -/
def execCamSetCommit (n : Stream) (target : BitVec 32) (s : State) : Host.Outcome State Fault Refusal :=
  .next (
    let s := s.put (F.IMG_CAM_STAT_GEN n.val) ((s.get (F.IMG_CAM_STAT_GEN n.val) + 1) % 256)
    let s := s.setFlag (F.IMG_CAM_STAT_SET_PEND n.val) true
    let g := BitVec.ofNat 8 (s.get (F.IMG_CAM_STAT_GEN n.val))
    let p := s.camSetPayload n target
    (s.modStream n fun x => { x with camSet := p, commits := x.commits ++ [⟨target, g⟩], camSent := none }).sendCamSet n)

/-- CAM_SET_REPEAT (R355): every 20 µs while SET_PEND is 1. -/
def execCamSetRepeat (n : Stream) (s : State) : Host.Outcome State Fault Refusal :=
  .next (
    let due := match s.streams[n].camSent with
      | some t => s.past (t + 20000)
      | none => true
    if s.flag (F.IMG_CAM_STAT_SET_PEND n.val) && due then s.sendCamSet n else s)

/-! ## The end of a unit (R362-R365, R369, R375) -/

/-- The statistics set number k of stream n (R362). -/
def State.writeStats (s : State) (n : Stream) (i : Fin 4) (m : Img) : State :=
  let x := s.streams[n].slots[i]
  let a := m.f 0x48 4 + 16384 * (s.streams[n].count % 4)
  let no := octets x.frame.frameNo.toNat 4
  let inv := (m.places.filter fun p => m.invalid p.1 p.2).length
  let decim := b2n (decide (1 ≤ s.stage) && !s.flag (F.IMG_CAM_CFG_T1_EXEMPT n.val))
  let s := s.siloPut (a + 4) (no ++ [x.frame.gen, BitVec.ofNat 8 n.val, BitVec.ofNat 8 (m.f 0x44 1), BitVec.ofNat 8 (m.f 0x45 1),
    BitVec.ofNat 8 m.nch, BitVec.ofNat 8 decim, 0, 0] ++ octets (wrap 64 ((x.tSof : Int) - x.frame.expAgo.toNat)) 8 ++ octets s.now 8 ++
    octets x.dropped 2 ++ octets x.gap 2 ++ octets inv 4 ++ octets (m.w * m.h) 4)
  let s := forEach (List.range 4) s fun s c => s.siloPut (a + 0x40 + 1024 * c) ((List.range 256).flatMap fun j => octets (m.bin c j) 4)
  let s := forEach (List.range 4) s fun s c =>
    s.siloPut (a + 0x1040 + 2048 * c) ((List.range 1024).flatMap fun z => octets (m.zone c (z % 32) (z / 32)) 2)
  let s := s.siloPut a no
  { s with loopDev := { s.loopDev with taps := s.loopDev.taps.set n (some (s.now, m.zones)) } }

/-- Output o of a processed frame (R365, R366). -/
def State.writeOutput (s : State) (n : Stream) (p : Fin 4) (frameNo : BitVec 32) (m : Img) (o : Fin 4) : State :=
  let b := 0x50 + 0x20 * o.val
  let ctrl := m.f b 4
  if ctrl.testBit 0 then
    let k := m.f (b + 0x0C) 4 % 128
    let (_, _, cw, ch) := m.crop o.val
    let ow := max 1 (cw * k / 64)
    let oh := max 1 (ch * k / 64)
    let fmt := ctrl / 2 % 8
    let st := m.f (b + 0x14) 4
    let nb := if ctrl / 256 % 16 = 0 then 16 else ctrl / 256 % 16
    let buf := s.streams[n].outs[o] % nb
    if st < ow * fmtSize fmt ∨ m.f (b + 0x18) 4 < oh * st then s.pipeEvent p 2 n
    else
      let base := m.f (b + 0x10) 4 + m.f (b + 0x18) 4 * buf
      let s := forEach (List.range oh) s fun s y =>
        s.siloPut (base + st * y) ((List.range ow).flatMap fun x => fmtPixel fmt (ctrl / 16 % 4) m.nch fun c => m.outPixel o.val x y c)
      let s := s.modStream n fun x => { x with outs := x.outs.set o (x.outs[o] + 1) }
      (s.put (F.IMG_CAM_OUT_LAST_BUF n.val o.val) buf).put (F.IMG_CAM_OUT_LAST_FRAME_LO n.val o.val) (frameNo.toNat % 65536)
  else s

/-- UNIT_COMPLETE (R362-R369, R371): the unit of pipeline p ends. The frame's last unit writes outputs and statistics, and
frees the slot; data with an uncorrectable error frees it unprocessed (R375). -/
def execUnitComplete (p : Fin 4) (s : State) : Host.Outcome State Fault Refusal :=
  .next (match s.pipes[p].run with
    | none => s
    | some u =>
      let n := u.stream
      let i := u.slot
      let s := s.modPipe p fun q => { q with run := none }
      let s :=
        if u.dead then s
        else if u.cut then s.freeSlot n i
        else
          let x := s.streams[n].slots[i]
          let size := u.stride * x.frame.height.toNat
          if s.silo.badIn (u.at_ + 64) size then
            ((((s.freeSlot n i).count (F.IMG_CAM_CNT_DAMAGED n.val)).pipeEvent p 3 n))
          else if u.last then
            let s := s.siloFix (u.at_ + 64) size
            let m := s.img x.frame (u.at_ + 64) u.stride s.streams[n].block
            let s := forEach m.tables s fun s t => s.siloFix t.1 t.2
            let s := forEach (List.finRange 4) s fun s o => s.writeOutput n p x.frame.frameNo m o
            let s := s.writeStats n i m
            (({ s with free := s.free + 1 }).modStream n fun x => { x with count := x.count + 1 }).freeSlot n i
          else s.modSlot n i fun x => { x with stripe := x.stripe + 1 }
      s.pipeKick p)

/-- PROVISIONAL_CHOICE (R369): the context of the provisional choice is loaded into the shadow. -/
def execProvisionalChoice (p : Fin 4) (s : State) : Host.Outcome State Fault Refusal :=
  .next (if s.pipes[p].run.isSome then s.modPipe p fun q => { q with shadow := (s.chooseUnit true p).map (·.1) } else s)

/-! ## Enabling and disabling (R344, R371, R374, R378) -/

/-- The load of pipeline p, in pix/s × 1, over a list of streams (R374). -/
def State.pipeLoad (s : State) (l : List Stream) : Nat :=
  (l.map fun n =>
    let u := if s.flag (F.IMG_CAM_CFG_SHARE n.val) then cdivN (s.get (F.IMG_CAM_MAX_MAX_H n.val)) (s.stripeLines n) else 1
    s.get (F.IMG_CAM_RATE_MAX_FPS n.val) *
      (s.get (F.IMG_CAM_MAX_MAX_W n.val) * s.get (F.IMG_CAM_MAX_MAX_H n.val) + 150 * u)).foldl (· + ·) 0

/-- LOAD shows the admitted loads (R377). -/
def State.showPipeLoad (s : State) : State :=
  forEach (List.finRange 4) s fun s p => s.put (F.IMG_PIPE_STAT_LOAD p.val) (cdivN (s.pipeLoad (s.pipeStreams p)) 1000000)

/-- A refused write to an IMG register (R374, R376, R378). -/
def State.imgErr (s : State) (n : Stream) : State := (s.setFlag F.IMG_CTRL_ERR true).put F.IMG_CTRL_STREAM n.val

/-- The reason for which stream n may not be enabled (R374), 0 for none. The stream's registers hold the new values, and
its ENABLE is 1. -/
def State.enableReason (s : State) (n : Stream) : Nat :=
  let p := s.pipeOf n
  let l := s.pipeStreams p
  let stripe0 := s.flag (F.IMG_CAM_CFG_SHARE n.val) && s.get (F.IMG_CAM_CFG_STRIPE n.val) == 0
  if 1500000000 < s.pipeLoad l then 1
  else if siloSize < s.camRing n + 4 * s.slotSize n then 2
  else if s.camFitted n = false ∨ stripe0 = true ∨
      l.any (fun m => m != n && s.get (F.IMG_CAM_CFG_CTX m.val) == s.get (F.IMG_CAM_CFG_CTX n.val)) = true then 3
  else 0

/-- A stripe-shared frame of stream n ends after its present stripe (R371). -/
def State.cutUnit (s : State) (n : Stream) : State :=
  forEach (List.finRange 4) s fun s p => s.modPipe p fun q =>
    { q with run := q.run.map fun u => if u.stream = n then { u with cut := true } else u }

/-- A write of v to IMG_CAM_CFG of stream n (R371, R374, R378). -/
def State.camCfgWrite (s : State) (n : Stream) (sup : Bool) (v : Word) : State :=
  let a := R.IMG_CAM_CFG n.val
  let was := s.flag (F.IMG_CAM_CFG_ENABLE n.val)
  let t := s.plainWrite a sup v
  let now_ := t.flag (F.IMG_CAM_CFG_ENABLE n.val)
  if was then
    if t.reg a ≠ s.reg a ∧ t.reg a ≠ (s.setFlag (F.IMG_CAM_CFG_ENABLE n.val) false).reg a then s.imgErr n
    else if now_ then t
    else
      let t := t.dropLanding n false
      let t := if s.flag (F.IMG_CAM_CFG_SHARE n.val) then t.cutUnit n else t
      let keep := fun (i : Fin 4) => match t.unitRuns n with
        | some u => decide (u.slot = i) && !u.dead
        | none => false
      let t := forEach (List.finRange 4) t fun t i => if keep i then t else t.freeSlot n i
      (t.setFlag (F.IMG_CAM_STAT_SET_PEND n.val) false).showPipeLoad
  else if now_ then
    let r := t.enableReason n
    if r = 0 then t.showPipeLoad else (s.imgErr n).put F.IMG_CTRL_REASON r
  else t

/-- STREAM_ENABLE (R374): a write with ENABLE = 1 to IMG_CAM_CFG. -/
def execStreamEnable (who : Reader) (n : Stream) (v : BitVec 32) (s : State) : Host.Outcome State Fault Refusal :=
  .next (s.askReg (R.IMG_CAM_CFG n.val) (.streamEnable who n v) fun s => s.camCfgWrite n (s.supView who) (v ||| 1#32))

/-- STREAM_DISABLE (R371): a write with ENABLE = 0 to IMG_CAM_CFG. -/
def execStreamDisable (who : Reader) (n : Stream) (v : BitVec 32) (s : State) : Host.Outcome State Fault Refusal :=
  .next (s.askReg (R.IMG_CAM_CFG n.val) (.streamDisable who n v) fun s => s.camCfgWrite n (s.supView who) (v &&& 0xFFFFFFFE#32))

/-- A write of v to IMG_CAM_CTX of stream n (R361). -/
def State.camCtxWrite (s : State) (n : Stream) (sup : Bool) (v : Word) : State :=
  if sup then (s.plainWrite (R.IMG_CAM_CTX n.val) sup v).setFlag (F.IMG_CAM_CTX_PEND n.val) true else s

/-- IMG_CAM_CTX_WRITE (R361). -/
def execImgCamCtxWrite (who : Reader) (n : Stream) (v : BitVec 32) (s : State) : Host.Outcome State Fault Refusal :=
  .next (s.askReg (R.IMG_CAM_CTX n.val) (.camCtx who n v) fun s => s.camCtxWrite n (s.supView who) v)

/-! ## The stream's lane (R353, R372) -/

/-- The stream that lane n carries, if it carries one. -/
def State.laneStream (s : State) (l : Lane) : Option Stream :=
  (List.finRange 20).find? fun n => decide (s.camLane n = some l) && s.camFitted n

/-- The lane of a stream leaves UP (R353, R372). -/
def State.camLaneDown (s : State) (l : Lane) : State :=
  match s.laneStream l with
  | some n =>
    ((s.dropLanding n true).setFlag (F.IMG_CAM_STAT_LOST n.val) true).camEvent n 5 (s.get (F.IMG_CAM_FRAME_FRAME_NO n.val))
  | none => s

/-- The lane of a stream comes UP: a pending CAM_SET is sent again (R372). -/
def State.camLaneUp (s : State) (l : Lane) : State :=
  match s.laneStream l with
  | some n => if s.flag (F.IMG_CAM_STAT_SET_PEND n.val) then s.sendCamSet n else s
  | none => s

end Sys2Proof.Machine
end

