-- ==== Sys2Proof/Machine/Axes.lean ====
section
/-! DEFINITION. The axes: commands, steps, fine axes, limits, homing, encoders (10_axes.md R379-R415). -/

namespace Sys2Proof.Machine

/-- s with axis a changed by f. -/
def State.modAxis (s : State) (a : Axis) (f : AxisSt → AxisSt) : State := { s with axes := vmod s.axes a f }

/-- The cell of AXa_STEP (R379). -/
def stepCell (a : Axis) : Cell := ⟨64 + 2 * a.val, by omega⟩
/-- The cell of AXa_DIR (R379). -/
def dirCell (a : Axis) : Cell := ⟨65 + 2 * a.val, by omega⟩
/-- AX0 and AX1 are fine (R379). -/
def fineAx (a : Axis) : Bool := decide (a.val < 2)

/-! ## States, results, events (R394, R412, R414) -/

abbrev axIDLE : Nat := 0
abbrev axMOVE : Nat := 1
abbrev axVELOCITY : Nat := 2
abbrev axSTOPPING : Nat := 3
abbrev axHOMING : Nat := 4
abbrev axARMED : Nat := 5
abbrev axKEYLOST : Nat := 6
abbrev axDISABLED : Nat := 7

/-- STATE of axis a. -/
def State.axState (s : State) (a : Axis) : Nat := s.get (F.AX_STAT_STATE a.val)
/-- s with STATE of axis a. -/
def State.setAxState (s : State) (a : Axis) (n : Nat) : State := s.put (F.AX_STAT_STATE a.val) n
/-- Axis a is in motion. -/
def State.axMoves (s : State) (a : Axis) : Bool := decide (1 ≤ s.axState a ∧ s.axState a ≤ 4)
/-- AX_POS of axis a. -/
def State.axPos (s : State) (a : Axis) : Int := s.int (F.AX_POS_POS a.val)
/-- s with AX_POS of axis a, modulo 2^32. -/
def State.setAxPos (s : State) (a : Axis) (p : Int) : State := s.put (F.AX_POS_POS a.val) (wrap 32 p)
/-- Event 64 + a (R412). -/
def State.axEvent (s : State) (a : Axis) (kind : Nat) : State :=
  s.raise (64 + a.val) (kind + 65536 * (s.get (F.AX_POS_POS a.val) / 256 % 65536))

/-! ## Figures of an axis -/

/-- The grid of rest points: the finest step of a step/dir axis (R389), a unit on a fine axis. -/
def State.axGrid (s : State) (a : Axis) : Int := if fineAx a then 1 else (2 ^ (8 - s.get (F.AX_CFG_M_MAX a.val)) : Nat)
/-- The cap on speeds, as 16.16 full steps/s (R399, R404). -/
def State.axCap (s : State) (a : Axis) : Nat :=
  if fineAx a then 16384 * 1000000000 / (2000 * 2 ^ s.get (F.AX_BR_CFG_BR_PERIOD a.val))
  else s.get (F.AX_RATE_LIM_RATE_LIM a.val) * 65536 / 2 ^ s.get (F.AX_CFG_M_MIN a.val)
/-- The cruise speed: MAX_SPEED under the cap (R385). -/
def State.axVmax (s : State) (a : Axis) : Int := axSpeed (min (s.get (F.AX_MAX_SPEED_MAX_SPEED a.val)) (s.axCap a) : Nat)
/-- The instant at which a command given now acts on the profile (R385). -/
def State.axNow (s : State) : Int := axTime (s.now + s.leff * 1000)
/-- The profile's position and speed at t. -/
def State.axAt (s : State) (a : Axis) (t : Int) : Int × Int :=
  (profPos s.axes[a].pieces s.axes[a].rest t, profVel s.axes[a].pieces t)
/-- The soft limits are in force (R406). -/
def State.softOn (s : State) (a : Axis) : Bool := s.flag (F.AX_CFG_SOFT_EN a.val) && s.flag (F.AX_STAT_HOMED a.val)

/-- The profile of axis a goes on from t as planned. -/
def State.axRun (s : State) (a : Axis) (t : Int) (new : List AxPiece) (rest : Int) : State :=
  let old := min s.axes[a].at_ (axTime s.now)
  s.modAxis a fun x => { x with
    pieces := (profCut x.pieces t).filter (fun p => match p.t1 with
      | some e => decide (old ≤ e)
      | none => true) ++ new
    rest := rest, hold := false }

/-- SPEED_CAPPED: the cap binds for a speed wanted (R399, R404). -/
def State.showCap (s : State) (a : Axis) (want : Nat) : State := s.setFlag (F.AX_STAT_SPEED_CAPPED a.val) (decide (s.axCap a < want))

/-! ## Motions (R387-R391, R406, R407) -/

/-- A position move from the profile's state at t. -/
def State.axMove (s : State) (a : Axis) (t : Int) (tgt : Int) : State :=
  let (p, v) := s.axAt a t
  let s := (s.setAxState a axMOVE).showCap a (s.get (F.AX_MAX_SPEED_MAX_SPEED a.val))
  (s.axRun a t (planTake t p v (tgt * axUnit) (s.axVmax a) s.axes[a].acc (s.axGrid a)) (tgt * axUnit)).modAxis a
    fun x => { x with target := tgt, leave := false, soft := false, home := none }

/-- VELOCITY with target speed raw (signed 16.16), from the profile's state at t (R390, R406). -/
def State.axVel (s : State) (a : Axis) (t : Int) (raw : Int) : State :=
  let (p, v) := s.axAt a t
  let top : Int := (min (s.get (F.AX_MAX_SPEED_MAX_SPEED a.val)) (s.axCap a) : Nat)
  let vt := axSpeed (clampI (-top) top raw)
  let acc : Int := s.axes[a].acc
  let soft := s.softOn a && decide (vt ≠ 0)
  let lim := (if 0 < vt then s.int (F.AX_SOFT_MAX_SOFT_MAX a.val) else s.int (F.AX_SOFT_MIN_SOFT_MIN a.val)) * axUnit
  let plan := if soft then planSoft t p v vt acc lim (s.axGrid a) else planVel t p v vt acc
  let s := (s.setAxState a axVELOCITY).showCap a (min raw.natAbs (s.get (F.AX_MAX_SPEED_MAX_SPEED a.val)))
  (s.axRun a t plan.1 plan.2).modAxis a fun x => { x with target := raw, leave := false, soft := soft }

/-- A stop planned from the profile's state at t (R389); a step/dir axis whose speed is 0 there rests at the last step computed. -/
def State.axStopAt (s : State) (a : Axis) (t : Int) : State :=
  let (p, v) := s.axAt a t
  let p := if v = 0 ∧ fineAx a = false then s.axes[a].qpos * axUnit else p
  let st := planStop t p v s.axes[a].acc (s.axGrid a)
  s.axRun a t st.1 st.2

/-- STOP acts on the profile at t (R387, R389): one given while the axis stops already has no further effect. -/
def State.axStopFrom (s : State) (a : Axis) (t : Int) : State :=
  let st := s.axState a
  if st = axMOVE ∨ st = axHOMING then
    ((s.axStopAt a t).setAxState a axSTOPPING).modAxis a fun x => { x with home := none }
  else if st = axVELOCITY ∧ s.axes[a].leave = false then (s.axStopAt a t).modAxis a fun x => { x with leave := true, soft := false }
  else s

/-- STOP given now (R385, R387). -/
def State.axStop (s : State) (a : Axis) : State := s.axStopFrom a s.axNow

/-- The home switch (R407): whether it is AXa_LIMP. -/
def State.homePositive (s : State) (a : Axis) : Bool := s.flag (F.AX_HOME_CFG_HOME_SRC a.val)
/-- The filtered level of a limit input of axis a. -/
def State.axLimit (s : State) (a : Axis) (positive : Bool) : Bool :=
  if positive then s.flag (F.AX_STAT_LIMP a.val) else s.flag (F.AX_STAT_LIMN a.val)

/-- A homing phase at a speed (full steps/s) from the profile's state at t: it runs, and stops at ACCEL where it has
travelled HOME_RANGE (R407). -/
def State.axHomeRun (s : State) (a : Axis) (t : Int) (phase : Nat) (ref : Int) (up : Bool) (speed : Nat) : State :=
  let (p, v) := s.axAt a t
  let g : Int := if up then 1 else -1
  let vt := g * axSpeed (min (speed * 65536) (s.axCap a) : Nat)
  let acc : Int := s.axes[a].acc
  let run := planVel t p v vt acc
  let lim := p + g * (s.get (F.AX_HOME_RANGE_HOME_RANGE a.val) : Nat) * axUnit
  let tF := match nextCross (if up then lim - axFar else lim) (if up then lim else lim + axFar) run.1 t with
    | some (x, _) => x
    | none => t
  let st := planStop tF (profPos run.1 run.2 tF) (profVel run.1 tF) acc (s.axGrid a)
  let s := s.showCap a (speed * 65536)
  (s.axRun a t (profCut run.1 tF ++ st.1) st.2).modAxis a fun x => { x with home := some ⟨phase, ref, tF⟩ }

/-- Phase 2 of homing: away from the switch. -/
def State.axHomeAway (s : State) (a : Axis) (t : Int) : State :=
  s.axHomeRun a t 2 0 (!s.homePositive a) (max 1 (s.get (F.AX_HOME_CFG_HOME_SPEED a.val) / 8))

/-- HOME (R407). -/
def State.axHome (s : State) (a : Axis) (t : Int) : State :=
  let s := s.setAxState a axHOMING
  if s.axLimit a (s.homePositive a) then s.axHomeAway a t
  else s.axHomeRun a t 1 0 (s.homePositive a) (s.get (F.AX_HOME_CFG_HOME_SPEED a.val))

/-- round(AX_POS × ENC_CPS / 2^24) (R408). -/
def State.encExpect (s : State) (a : Axis) : Int := roundUp (s.axPos a * s.int (F.AX_ENC_CPS_ENC_CPS a.val)) (2 ^ 24)
/-- The count of the encoder that axis a selects. -/
def State.encCount (s : State) (a : Axis) : Nat :=
  if s.get (F.AX_CFG_ENC_SEL a.val) = 2 then s.get F.AX_ENC_COUNT1_COUNT else s.get F.AX_ENC_COUNT0_COUNT
/-- ref is set so that err is 0 (R408). -/
def State.encSync (s : State) (a : Axis) : State :=
  s.modAxis a fun x => { x with encRef := (s.encCount a : Int) - s.encExpect a }

/-- The count a step axis continues from at a position in units; a fine axis counts whole multiples of 256 (R379). -/
def axCount (a : Axis) (p : Int) : Int := if fineAx a then p.fdiv 256 * 256 else p

/-- An axis at rest stands at position p (units). -/
def State.axPlace (s : State) (a : Axis) (p : Int) : State :=
  (s.setAxPos a p).modAxis a fun x => { x with pieces := [], rest := p * axUnit, qpos := axCount a p }

/-- SET_POS (R387, R408). -/
def State.axSetPos (s : State) (a : Axis) (p : Int) : State :=
  ((s.axPlace a p).setFlag (F.AX_STAT_POS_VALID a.val) true).encSync a

/-- The target of a position move, from a base that the command does not name itself (R387), modulo 2^32. -/
def AxCmd.target (c : AxCmd) (base : Int) : Int := if c.cmd = 1 then c.arg else sgn 32 (wrap 32 (c.base.getD base + c.arg))

/-- A target outside the soft limits in force (R406). -/
def State.softBars (s : State) (a : Axis) (tgt : Int) : Bool :=
  s.softOn a && decide (tgt < s.int (F.AX_SOFT_MIN_SOFT_MIN a.val) ∨ s.int (F.AX_SOFT_MAX_SOFT_MAX a.val) < tgt)

/-- RESULT of AX_CMD. -/
def State.axResult (s : State) (a : Axis) (r : Nat) : State := s.put (F.AX_CMD_RESULT a.val) r

/-- The ACCEL in use becomes that of the register (R396). -/
def State.axNewAcc (s : State) (a : Axis) : State := s.modAxis a fun x => { x with acc := s.get (F.AX_ACCEL_ACCEL a.val) }

/-- A command begins at rest at the profile instant t (R387, R392, R396). -/
def State.axBegin (s : State) (a : Axis) (c : AxCmd) (t : Int) : State :=
  let s := s.axNewAcc a
  match c.cmd with
  | 1 | 2 =>
    let tgt := c.target (s.axes[a].rest.fdiv axUnit)
    if s.softBars a tgt then s.axResult a 4 else s.axMove a t tgt
  | 3 => s.axVel a t c.arg
  | 6 => s.axHome a t
  | 7 => s.axSetPos a c.arg
  | _ => s

/-- As axBegin; in B4 the motion stops where it begins (R411). -/
def State.axStart (s : State) (a : Axis) (c : AxCmd) (t : Int) : State :=
  let s := s.axBegin a c t
  if s.get F.SYS_BAND_BAND = 4 then s.axStopFrom a t else s

/-! ## Steps (R397-R401) -/

/-- The code the rule of R399 reaches downwards: coarser while the rate is above RATE_LIM. -/
def coarser (lim v mMin : Nat) : Nat → Nat → Nat
  | 0, m => m
  | n + 1, m => if lim * 2 ^ 40 < v * 2 ^ m ∧ mMin < m then coarser lim v mMin n (m - 1) else m
/-- The code the rule of R399 reaches upwards: finer while the rate stays within 3/4 of RATE_LIM. -/
def finer (lim v mMax : Nat) : Nat → Nat → Nat
  | 0, m => m
  | n + 1, m => if 4 * v * 2 ^ (m + 1) ≤ 3 * lim * 2 ^ 40 ∧ m < mMax then finer lim v mMax n (m + 1) else m

/-- The resolution code for the coming full step (R399): from a multiple of 256, in direction up. -/
def State.axCode (s : State) (a : Axis) (up : Bool) : Nat :=
  let x := s.axes[a]
  let mMin := s.get (F.AX_CFG_M_MIN a.val)
  let mMax := s.get (F.AX_CFG_M_MAX a.val)
  let lim := s.get (F.AX_RATE_LIM_RATE_LIM a.val)
  let g : Int := if up then 1 else -1
  let last := (profEnd x.pieces).isSome && decide (0 ≤ g * (x.rest - x.qpos * axUnit) ∧ g * (x.rest - x.qpos * axUnit) ≤ 256 * axUnit)
  if last then mMax
  else
    let q := (x.qpos + g * 256) * axUnit
    let tb := match nextCross (if up then q - axFar else q) (if up then q else q + axFar) x.pieces x.at_ with
      | some (t, _) => t
      | none => (profEnd x.pieces).getD x.at_
    let v := profPeak x.pieces x.at_ tb
    let m := max mMin (min mMax x.code)
    if lim * 2 ^ 40 < v * 2 ^ m then coarser lim v mMin 16 m else finer lim v mMax 16 m

/-- A level edge to an axis cell at an instant in ns. -/
def axEdge (t : Int) (v : Bool) : Edge := { et := 8 * t, what := .level v }

/-- The fall of the last step is handed over as soon as it lies within L_eff and its queue has room (R19, R20). -/
def State.axFallOne (s : State) (a : Axis) : State := match s.axes[a].fallOwed with
  | some f =>
    if f ≤ (s.now + s.leff * 1000 : Nat) ∧ s.cellRoom (stepCell a) = true then
      { s with transit := s.transit ++ [(stepCell a, axEdge f false)] }.modAxis a fun x => { x with fallOwed := none }
    else s
  | none => s

/-- The next step of axis a, if its rise may be handed over now: the last step's fall is, the rise lies within L_eff, the queues have
room, and the limit of its direction is inactive (R19, R20, R397-R401, R405). Its fall follows by itself. -/
def State.axStepOne (s : State) (a : Axis) : Option State :=
  let x := s.axes[a]
  match nextCross ((x.qpos - 1) * axUnit) ((x.qpos + 1) * axUnit) x.pieces x.at_ with
  | none => none
  | some (_, up) =>
    let fine := fineAx a
    let code := if fine then x.code else if x.qpos % 256 = 0 then s.axCode a up else x.code
    let g : Int := if fine then 256 else (2 ^ (8 - code) : Nat)
    let hi := (x.qpos.fdiv g + 1) * g
    let lo := if fine then x.qpos else -((-x.qpos).fdiv g) * g - g
    match nextCross (lo * axUnit) (hi * axUnit) x.pieces x.at_ with
    | none => none
    | some (t, rises) =>
      let r0 := axNs t
      let turn := decide (code ≠ x.code)
      let msAt := if turn then some (if x.steps.isEmpty then (s.now : Int) else x.lastFall.getD s.now) else x.msAt
      let r1 := match x.lastRise with
        | some l => max r0 (l + 1000)
        | none => r0
      let r2 := match msAt with
        | some m => if fine then r1 else max r1 (m + 10 * (s.get (F.AX_STEP_TIMING_MS_SETUP a.val) : Nat))
        | none => r1
      let level := rises != s.flag (F.AX_CFG_DIR_INV a.val)
      let setup : Int := (10 * s.get (F.AX_STEP_TIMING_DIR_SETUP a.val) : Nat)
      let dAt := match x.lastFall with
        | some f => max (r2 - setup) f
        | none => r2 - setup
      let dirs := decide (level ≠ x.dir)
      let r := if dirs then max r2 (dAt + setup) else r2
      let fall := r + 10 * (s.get (F.AX_STEP_TIMING_STEP_WIDTH a.val) : Nat)
      if x.fallOwed.isSome = true ∨ (s.now + s.leff * 1000 : Nat) < r ∨ s.axLimit a rises = true ∨ s.cellRoom (stepCell a) = false ∨
          (dirs = true ∧ s.cellRoom (dirCell a) = false) then none
      else
        let s := if r0 < r then s.count (F.AX_STAT_SLIP a.val) else s
        let s := if turn && x.steps.isEmpty then s.put (F.AX_STAT_RES a.val) code else s
        let new : List (Cell × Edge) := (if dirs then [(dirCell a, axEdge dAt level)] else []) ++
          [(stepCell a, axEdge r true)]
        some ({ s with transit := s.transit ++ new }.modAxis a fun x => { x with
          steps := (if turn then x.steps.dropLast ++ (x.steps.getLast?.map fun (y : AxStep) => { y with code := code }).toList else x.steps) ++
            [AxStep.mk (if rises then hi else if fine then lo - 256 else lo) code]
          qpos := if rises then hi else if fine then lo - 256 else lo
          at_ := t, fallOwed := some fall, lastRise := some r, lastFall := some fall, msAt := msAt, dir := level, code := code })

/-- Every step that may be handed over now. -/
def axPumpGo (a : Axis) : Nat → State → State
  | 0, s => s
  | n + 1, s => match s.axStepOne a with
    | some t => axPumpGo a n (t.axFallOne a)
    | none => s

/-- R405: a motion towards an active limit ends at the last step released: its queued edges are discarded, but for the fall of a
step that is high. -/
def State.axHalt (s : State) (a : Axis) : State :=
  let c := stepCell a
  let high := s.cells[c].level
  let fall := if high then (s.cells[c].q ++ (s.transit.filter fun x => decide (x.1 = c)).map Prod.snd).take 1 else []
  let s := { s with transit := s.transit.filter fun x => decide (x.1 ≠ c ∧ x.1 ≠ dirCell a) }
  let s := (s.modCell c fun y => { y with q := fall }).modCell (dirCell a) fun y => { y with q := [] }
  let d := s.cells[dirCell a].level
  (s.axPlace a (s.axPos a)).modAxis a fun x => { x with
    steps := if high then x.steps.take 1 else [], at_ := axTime s.now, dir := d, code := s.get (F.AX_STAT_RES a.val)
    fallOwed := if high && fall.isEmpty then x.fallOwed else none
    lastRise := none, lastFall := if high then (fall.head?.map fun (y : Edge) => y.et / 8).or x.fallOwed else none, msAt := none, restSince := s.now, home := none, leave := false, soft := false }

/-- The motion of axis a is over at once: IDLE, no pending command. -/
def State.axEndNow (s : State) (a : Axis) : State :=
  ((((s.axHalt a).setAxState a axIDLE).setFlag (F.AX_STAT_PEND a.val) false).setFlag (F.AX_STAT_SPEED_CAPPED a.val) false).modAxis a
    fun x => { x with pend := none }

/-- HOME has failed (R407). -/
def State.homeFail (s : State) (a : Axis) : State :=
  ((s.setFlag (F.AX_STAT_HOME_FAIL a.val) true).setFlag (F.AX_STAT_HOMED a.val) false).axEvent a 5

/-- R405: a limit ends the motion, also one that was to end homing as failed. -/
def State.limitHit (s : State) (a : Axis) : State :=
  let failed := s.axState a == axHOMING && s.axes[a].home.any fun h => decide (h.failAt ≤ axTime s.now)
  let s := ((s.axEndNow a).setFlag (F.AX_STAT_LIM_HIT a.val) true).axEvent a 2
  if failed then s.homeFail a else s

/-- The profile moves now in a direction whose limit is active. -/
def State.axBlocked (s : State) (a : Axis) : Bool :=
  let v := profVel s.axes[a].pieces (axTime s.now)
  (decide (0 < v) && s.axLimit a true) || (decide (v < 0) && s.axLimit a false)

/-- Axis a hands over what it may; a motion towards an active limit ends (R405). -/
def State.axPump (s : State) (a : Axis) : State :=
  let s := s.axFallOne a
  if s.axMoves a && s.flag F.AX_OUT_KEY_OK then
    if s.axBlocked a then s.limitHit a else axPumpGo a 10 s
  else s

/-- Every axis hands over what it may. -/
def State.axPumpAll (s : State) : State := forEach (List.finRange 8) s fun s a => s.axPump a

/-- The edge that a STEP cell released: a rise reaches the step's position (R397), a fall takes its code to the MS pins
(R400). `was` is the cell's level before. -/
def State.axReleased (s : State) (a : Axis) (was : Bool) : State :=
  let level := s.cells[stepCell a].level
  if was = level then s
  else match s.axes[a].steps with
    | [] => s
    | x :: rest =>
      if level then (if fineAx a then s else s.setAxPos a x.pos)
      else
        let s := s.modAxis a fun y => { y with steps := rest }
        (if fineAx a then s else s.put (F.AX_STAT_RES a.val) x.code).axPump a

/-- The axis whose STEP output cell c is. -/
def axisOf (c : Cell) : Option Axis :=
  if h : 64 ≤ c.val ∧ c.val < 80 then (if c.val % 2 = 0 then some ⟨(c.val - 64) / 2, by omega⟩ else none) else none

/-- After an operation on cell c, the axis it belongs to takes note (R397, R400). -/
def State.axNote (old s : State) (c : Cell) : State := match axisOf c with
  | some a => s.axReleased a old.cells[c].level
  | none => s

/-- CELL_QUEUE_ENTRY (R15, R22): the first event on its way to cell c enters its queue; while TS64 does not run, no cell releases an
edge (R94), and none enters. -/
def execCellQueueEntry (c : Cell) (s : State) : Host.Outcome State Fault Refusal :=
  .next (if s.time.running then State.axNote s (s.nextEntry c) c else s)

/-- EDGE_RELEASE (R109, R111, R397-R401): the head edge of output cell c, once the time base has reached its instant. -/
def execEdgeRelease (c : Cell) (s : State) : Host.Outcome State Fault Refusal :=
  .next (State.axNote s (s.releaseHead c) c)

/-! ## Commands (R387, R388, R392-R394) -/

/-- The layer runs (R393): ARMING to LOCAL_END. -/
def State.layerLocked (s : State) : Bool := decide (lyARMING ≤ s.lyState ∧ s.lyState ≤ lyLOCALEND)

/-- The position a relative command counts from, where it is known (R387). -/
def State.axBase (s : State) (a : Axis) : Option Int :=
  let st := s.axState a
  if st = axMOVE then some s.axes[a].target
  else if st = axVELOCITY then some ((s.axAt a s.axNow).1.fdiv (axUnit * s.axGrid a) * s.axGrid a)
  else if st = axHOMING then none
  else some (s.axes[a].rest.fdiv axUnit)

/-- RESULT of a command (R394): 0 where nothing refuses it. A relative move whose base is not known yet starts from a rest point, a
multiple of the grid, and meets the soft limits as it starts. -/
def State.axCheck (s : State) (a : Axis) (c : AxCmd) (arm : Bool) : Nat :=
  let st := s.axState a
  let go := decide (c.cmd = 1 ∨ c.cmd = 2 ∨ c.cmd = 3 ∨ c.cmd = 6 ∨ c.cmd = 7)
  let isMove := decide (c.cmd = 1 ∨ c.cmd = 2)
  let known := isMove && (c.cmd == 1 || c.base.isSome)
  let tgt := c.target 0
  if s.flag F.AX_OUT_KEY_OK = false ∧ c.cmd ≠ 5 then 2
  else if s.get F.SYS_BAND_BAND = 4 ∧ c.cmd ≠ 4 ∧ c.cmd ≠ 5 then 7
  else if go = true ∧ s.flag (F.AX_CFG_LAYER_LOCK a.val) = true ∧ s.layerLocked = true then 3
  else if (arm = true ∧ st ≠ axIDLE) ∨ (5 ≤ st ∧ c.cmd ≠ 5) ∨ (c.cmd = 7 ∧ st ≠ axIDLE) ∨ (c.cmd = 6 ∧ st = axVELOCITY) then 5
  else if c.cmd = 0 ∨ 8 ≤ c.cmd ∨ (isMove = true ∧ tgt % s.axGrid a ≠ 0) ∨
      (c.cmd = 6 ∧ s.flag (F.AX_HOME_CFG_HOME_IDX a.val) = true ∧ s.get (F.AX_CFG_ENC_SEL a.val) = 0) then 6
  else if known = true ∧ s.softBars a tgt = true then 4
  else 0

/-- A command goes to the pending slot (R388). -/
def State.axPend (s : State) (a : Axis) (c : AxCmd) : State :=
  let s := if s.flag (F.AX_STAT_PEND a.val) then s.setFlag (F.AX_STAT_PEND_REPLACED a.val) true else s
  (((s.setFlag (F.AX_STAT_PEND a.val) true).modAxis a fun x => { x with pend := some c })).axResult a 1

/-- An accepted command acts according to the axis state (R387). -/
def State.axAct (s : State) (a : Axis) (c : AxCmd) : State :=
  let st := s.axState a
  let clear := (s.setFlag (F.AX_STAT_PEND a.val) false).modAxis a fun x => { x with pend := none, armed := none }
  let s := s.axResult a 0
  match c.cmd with
  | 4 => s.axStop a
  | 5 => (((if st = axARMED then clear.setAxState a axIDLE else clear).axResult a 0).axStop a)
  | 7 => s.axSetPos a c.arg
  | n =>
    if st = axIDLE then s.axStart a c s.axNow
    else if st = axVELOCITY then
      let s := s.axNewAcc a
      if n = 3 then s.axVel a s.axNow c.arg else s.axMove a s.axNow (c.target 0)
    else s.axPend a c

/-- A command with its argument is given to axis a (R387, R392, R394). -/
def State.axGive (s : State) (a : Axis) (cmd : Nat) (arg : Int) (arm : Bool) : State :=
  let c : AxCmd := ⟨cmd, arg, if cmd = 2 then s.axBase a else none⟩
  let r := s.axCheck a c arm
  if r ≠ 0 then s.axResult a r
  else if arm then ((s.modAxis a fun x => { x with armed := some c }).setAxState a axARMED).axResult a 0
  else (s.axAct a c).axPump a

/-- A write to AX_CMD: AX_TARGET is the argument (R387). -/
def State.axCommand (s : State) (a : Axis) (cmd : Nat) (arm : Bool) : State := s.axGive a cmd (s.int (F.AX_TARGET_TARGET a.val)) arm

/-- MOVE_ABS (R385, R387, R394). -/
def execMoveAbs (a : Axis) (arm : Bool) (s : State) : Host.Outcome State Fault Refusal := .next (s.axCommand a 1 arm)
/-- MOVE_REL (R387). -/
def execMoveRel (a : Axis) (arm : Bool) (s : State) : Host.Outcome State Fault Refusal := .next (s.axCommand a 2 arm)
/-- VEL (R387, R390). -/
def execVel (a : Axis) (arm : Bool) (s : State) : Host.Outcome State Fault Refusal := .next (s.axCommand a 3 arm)
/-- STOP (R387, R389). -/
def execStop (a : Axis) (arm : Bool) (s : State) : Host.Outcome State Fault Refusal := .next (s.axCommand a 4 arm)
/-- STOP_ALL (R387). -/
def execStopAll (a : Axis) (arm : Bool) (s : State) : Host.Outcome State Fault Refusal := .next (s.axCommand a 5 arm)
/-- HOME (R387, R407). -/
def execHome (a : Axis) (arm : Bool) (s : State) : Host.Outcome State Fault Refusal := .next (s.axCommand a 6 arm)
/-- SET_POS (R387). -/
def execSetPos (a : Axis) (arm : Bool) (s : State) : Host.Outcome State Fault Refusal := .next (s.axCommand a 7 arm)

/-- The armed command of axis a starts (R392). -/
def State.axGo (s : State) (a : Axis) : State :=
  match s.axes[a].armed with
  | some c =>
    if s.axState a = axARMED then
      (((s.setAxState a axIDLE).modAxis a fun x => { x with armed := none }).axStart a c s.axNow).axPump a
    else s
  | none => s

/-- AX_GO (R392): the armed commands of the masked axes start at one profile instant. -/
def execAxGo (mask : BitVec 8) (s : State) : Host.Outcome State Fault Refusal :=
  .next (forEach ((List.finRange 8).filter fun a => mask.getLsbD a.val) s fun s a => s.axGo a)

/-! ## Changes in motion (R395, R396) -/

/-- A write to AX_MAX_SPEED (R395): a running position move is planned again; VELOCITY keeps to the new limit. -/
def State.axSpeedWrite (s : State) (a : Axis) (v : Word) : State :=
  let s := s.plainWrite (R.AX_MAX_SPEED a.val) false v
  let st := s.axState a
  if st = axMOVE then
    let (p, u) := s.axAt a s.axNow
    let tgt := s.axes[a].target * axUnit
    let s := s.showCap a (s.get (F.AX_MAX_SPEED_MAX_SPEED a.val))
    (s.axRun a s.axNow (planTake s.axNow p u tgt (s.axVmax a) s.axes[a].acc (s.axGrid a)) tgt).axPump a
  else if st = axVELOCITY ∧ s.axes[a].leave = false then (s.axVel a s.axNow s.axes[a].target).axPump a
  else s

/-- AX_MAX_SPEED_WRITE (R395). -/
def execAxMaxSpeedWrite (a : Axis) (v : BitVec 32) (s : State) : Host.Outcome State Fault Refusal := .next (s.axSpeedWrite a v)

/-- A new ACCEL in motion (R396). A move that comes to rest first keeps the old value for that stop. -/
def State.axAccel (s : State) (a : Axis) : State :=
  let new : Nat := s.get (F.AX_ACCEL_ACCEL a.val)
  let t := s.axNow
  let (p, v) := s.axAt a t
  let st := s.axState a
  if st = axMOVE then
    let tgt := s.axes[a].target * axUnit
    let d : Int := (tgt - p).natAbs
    match planBack t p v tgt (s.axVmax a) s.axes[a].acc new (s.axGrid a) with
    | some plan => ((s.modAxis a fun x => { x with acc := new }).axRun a t plan tgt).axPump a
    | none =>
    if v * v ≤ 2 * d * new * axUnit then
      let slows : Bool := ((profPiece s.axes[a].pieces t).map fun q => decide (q.acc * v < 0)).getD false
      let s := s.modAxis a fun x => { x with acc := new }
      (s.axRun a t (if slows = true then planLate t p v tgt new else planMove t p v tgt (s.axVmax a) new) tgt).axPump a
    else (s.setFlag (F.AX_STAT_ACCEL_DEFERRED a.val) true).axEvent a 8
  else if st = axVELOCITY ∧ s.axes[a].leave = false then
    ((s.modAxis a fun x => { x with acc := new }).axVel a t s.axes[a].target).axPump a
  else if st = axIDLE ∨ 5 ≤ st then s.modAxis a fun x => { x with acc := new }
  else s

/-- A write to AX_ACCEL (R384, R396). -/
def State.axAccelWrite (s : State) (a : Axis) (v : Word) : State := (s.plainWrite (R.AX_ACCEL a.val) false v).axAccel a
/-- AX_ACCEL_WRITE (R384, R396). -/
def execAxAccelWrite (a : Axis) (v : BitVec 32) (s : State) : Host.Outcome State Fault Refusal := .next (s.axAccelWrite a v)

/-! ## The end of a motion (R388, R406, R407, R412) -/

/-- The motion of axis a has ended: its profile is at rest and its last edge or frame is out. -/
def State.axEnded (s : State) (a : Axis) : Bool :=
  let x := s.axes[a]
  (match profEnd x.pieces with
    | some e => decide (e ≤ axTime s.now)
    | none => false) && x.steps.isEmpty &&
  (!fineAx a || decide (s.axPos a = sgn 32 (wrap 32 (x.rest.fdiv axUnit)))) &&
  (s.axState a != axVELOCITY || x.leave || x.soft)

/-- What the end of a motion means, by its state. -/
def State.axFinish (s : State) (a : Axis) : State :=
  let st := s.axState a
  let x := s.axes[a]
  if st = axHOMING then
    match x.home with
    | some h =>
      if h.phase = 4 then
        (((s.setFlag (F.AX_STAT_HOMED a.val) true).setFlag (F.AX_STAT_POS_VALID a.val) true).encSync a).axEvent a 4
      else s.homeFail a
    | none => s
  else if st = axVELOCITY ∧ x.soft = true then (s.setFlag (F.AX_STAT_SOFT_HIT a.val) true).axEvent a 3
  else s.axEvent a 1

/-- MOVE_END (R388, R406, R407, R412): the motion of axis a has ended, a step/dir axis at its last step; a pending command starts from
there. -/
def execMoveEnd (a : Axis) (s : State) : Host.Outcome State Fault Refusal :=
  .next (
    if s.axMoves a && s.axEnded a then
      let e := (profEnd s.axes[a].pieces).getD (axTime s.now)
      let s := ((s.axFinish a).setAxState a axIDLE).setFlag (F.AX_STAT_SPEED_CAPPED a.val) false
      let p := sgn 32 (wrap 32 (if fineAx a then s.axes[a].rest.fdiv axUnit else s.axes[a].qpos))
      let s := s.modAxis a fun x => { x with
        pieces := [], rest := p * axUnit, qpos := axCount a p, home := none, soft := false, leave := false, restSince := s.now }
      match s.axes[a].pend with
      | some c => (((s.setFlag (F.AX_STAT_PEND a.val) false).modAxis a fun x => { x with pend := none }).axStart a c e).axPump a
      | none => s
    else s)

/-! ## Limits, homing and encoders (R383, R405, R407, R408) -/

/-- The reference point of homing is found (R407): the position is set so that it equals HOME_POS, and the axis slows to
rest. -/
def State.axHomeFound (s : State) (a : Axis) (ref : Int) : State :=
  let d := s.int (F.AX_HOME_POS_HOME_POS a.val) - ref
  let t := s.axNow
  let s := s.setAxPos a (s.axPos a + d)
  let s := s.modAxis a fun x => { x with
    pieces := x.pieces.map fun p => { p with pa := p.pa + d * axUnit }
    rest := x.rest + d * axUnit
    qpos := if fineAx a then axCount a ((profPos x.pieces x.rest (axTime s.now) + d * axUnit).fdiv axUnit) else x.qpos + d
    steps := x.steps.map fun y => { y with pos := y.pos + d }
    home := some ⟨4, ref, axFar⟩ }
  (s.axStopAt a t).modAxis a fun x => { x with home := some ⟨4, ref, axFar⟩ }

/-- The home switch of axis a, in HOMING, becomes active or inactive (R407). -/
def State.axSwitch (s : State) (a : Axis) (h : AxHome) (active : Bool) : State :=
  if h.failAt ≤ axTime s.now then s
  else if h.phase = 1 ∧ active = true then
    let t := s.axNow
    (((s.axHalt a).setAxState a axHOMING).axHomeAway a t).axPump a
  else if h.phase = 2 ∧ active = false then
    let ref := s.axPos a
    if s.flag (F.AX_HOME_CFG_HOME_IDX a.val) then
      (s.axHomeRun a s.axNow 3 ref (!s.homePositive a) (max 1 (s.get (F.AX_HOME_CFG_HOME_SPEED a.val) / 8))).axPump a
    else (s.axHomeFound a ref).axPump a
  else s

/-- LIMIT_INPUT (R383, R405, R407): a limit input has held a new level for 1 µs. -/
def execLimitInput (a : Axis) (positive active : Bool) (s : State) : Host.Outcome State Fault Refusal :=
  .next (
    let s := s.setFlag (if positive then F.AX_STAT_LIMP a.val else F.AX_STAT_LIMN a.val) active
    match s.axes[a].home with
    | some h => if s.axState a = axHOMING ∧ positive = s.homePositive a then s.axSwitch a h active else s.axPump a
    | none => s.axPump a)

/-- The place of two phase levels in the four-edge cycle, A leading B upwards (log entry 23). -/
def quadPlace (a b : Bool) : Nat := if a then (if b then 2 else 1) else if b then 3 else 0

/-- ENCODER_EDGE (R383, R407): the inputs of encoder e have new levels. -/
def execEncoderEdge (e : Fin 2) (va vb vz : Bool) (s : State) : Host.Outcome State Fault Refusal :=
  .next (
    let x := s.enc[e]
    let k := (quadPlace va vb + 4 - quadPlace x.a x.b) % 4
    let f := if e.val = 0 then F.AX_ENC_COUNT0_COUNT else F.AX_ENC_COUNT1_COUNT
    let s := if k = 1 then s.put f (wrap 32 (s.get f + 1)) else if k = 3 then s.put f (wrap 32 ((s.get f : Int) - 1))
      else if k = 2 then s.count F.AX_OUT_ENC_SKIP else s
    let s := { s with enc := s.enc.set e ⟨va, vb, vz⟩ }
    if vz && !x.z then
      forEach (List.finRange 8) s fun s a => match s.axes[a].home with
        | some h =>
          if s.axState a = axHOMING ∧ h.phase = 3 ∧ s.get (F.AX_CFG_ENC_SEL a.val) = e.val + 1 ∧ axTime s.now < h.failAt then
            (s.axHomeFound a (s.axPos a)).axPump a
          else s
        | none => s
    else s)

/-- ENCODER_CHECK (R408): every 10 µs while POS_VALID is 1 and an encoder is selected. -/
def execEncoderCheck (a : Axis) (s : State) : Host.Outcome State Fault Refusal :=
  .next (
    let due := match s.axes[a].lastCheck with
      | some t => s.past (t + 10000)
      | none => true
    if s.flag (F.AX_STAT_POS_VALID a.val) && s.get (F.AX_CFG_ENC_SEL a.val) != 0 && due then
      let s := s.modAxis a fun x => { x with lastCheck := some s.now }
      let err := sgn 32 (wrap 32 ((s.encCount a : Int) - (s.axes[a].encRef + s.encExpect a)))
      if s.get (F.AX_ENC_TOL_ENC_TOL a.val) < err.natAbs then
        let s := (s.setFlag (F.AX_STAT_ENC_ERR a.val) true).axEvent a 6
        if s.flag (F.AX_CFG_ENC_STOP a.val) then
          (if s.axMoves a then s.axEndNow a else s).setFlag (F.AX_STAT_POS_VALID a.val) false
        else s
      else s
    else s)

/-! ## Fine axes (R402-R404) -/

/-- The axis of bridge port f. -/
def fineOf (f : Fin 2) : Axis := ⟨f.val, by omega⟩

/-- T[j] of the sine table of AX(f) (R402, R415). -/
def State.sine (s : State) (f : Fin 2) (j : Nat) : Nat :=
  let w := s.reg (R.AX_SINE f.val (j / 2))
  if j % 2 = 0 then bitsOf w 14 0 else bitsOf w 30 16

/-- The phase currents for position p (R402). -/
def State.currents (s : State) (f : Fin 2) (p : Int) : BitVec 16 × BitVec 16 :=
  let a := fineOf f
  let i := (p % 256).toNat
  let q := (p.fdiv 256 % 4).toNat
  let sc := if s.axes[a].hold then s.get (F.AX_BR_HOLD_HOLD_SCALE f.val) else s.get (F.AX_BR_CFG_RUN_SCALE f.val)
  let m := fun j => ((s.sine f j * sc / 65536 : Nat) : Int)
  let (x, y) : Int × Int := match q with
    | 0 => (m (255 - i), m i)
    | 1 => (-m i, m (255 - i))
    | 2 => (-m (255 - i), -m i)
    | _ => (m i, -m (255 - i))
  if s.flag (F.AX_CFG_ENABLE a.val) then (BitVec.ofInt 16 x, BitVec.ofInt 16 y) else (0, 0)

/-- BRIDGE_FRAME (R381, R402, R403): the frame of fine axis f that starts at the latest multiple of BR_PERIOD, once. -/
def execBridgeFrame (f : Fin 2) (s : State) : Host.Outcome State Fault Refusal :=
  .next (
    let a := fineOf f
    let o := 1000 * f.val
    let per := 2000 * 2 ^ s.get (F.AX_BR_CFG_BR_PERIOD f.val)
    let start := (s.now - o) / per * per + o
    if s.now < o ∨ s.axes[a].lastFrame = some start ∨ s.flag F.AX_OUT_KEY_OK = false ∨ s.time.running = false then s
    else
      let p := (2 * (s.axAt a (axTime (start + 264))).1 + axUnit).fdiv (2 * axUnit)
      let (x, y) := s.currents f p
      ((s.send (.bridge f x y (start + 264))).setAxPos a p).modAxis a fun x => { x with lastFrame := some start })

/-- HOLD_SCALE_TIMEOUT (R402): at rest for HOLD_DELAY ms. -/
def execHoldScaleTimeout (f : Fin 2) (s : State) : Host.Outcome State Fault Refusal :=
  .next (
    let a := fineOf f
    if !s.axMoves a && s.elapsed s.axes[a].restSince (1000000 * s.get (F.AX_CFG_HOLD_DELAY f.val)) then
      s.modAxis a fun x => { x with hold := true }
    else s)

/-! ## Key and band (R381, R409-R411) -/

/-- What the balls of an axis show while they are driven: STEP, DIR, ENn, and the four MS pins. -/
structure AxBalls where
  step : Bool
  dir : Bool
  enN : Bool
  ms : BitVec 4
  deriving DecidableEq, Repr

/-- The output balls of axis a (R380, R381, R400): none while they are at high impedance. ENn is low while ENABLE is 1; the MS pins show
MSMAP[m] of the code m in use. -/
def State.axBalls (s : State) (a : Axis) : Option AxBalls :=
  if s.flag F.AX_OUT_KEY_OK then
    let m := s.get (F.AX_STAT_RES a.val)
    let map := if m < 8 then s.get F.AX_MSMAP_LO_MAP0_7 / 16 ^ m else s.get F.AX_MSMAP_HI_MAP8
    some { step := s.cells[stepCell a].level, dir := s.cells[dirCell a].level, enN := !s.flag (F.AX_CFG_ENABLE a.val), ms := BitVec.ofNat 4 map }
  else none

/-- KEY_OK falls (R409): every axis lets go. -/
def State.axKeyLost (s : State) : State :=
  forEach (List.finRange 8) (s.setFlag F.AX_OUT_KEY_OK false) fun s a =>
    let s := (s.axEndNow a).modAxis a fun x => { x with armed := none, steps := [], fallOwed := none, lastFall := none }
    let s := (s.modCell (stepCell a) fun y => { y with q := [], level := false }).modCell (dirCell a) fun y => { y with q := [] }
    (s.setAxState a axKEYLOST).axEvent a 7

/-- KEY_OK returns (R409): each axis that lost it enters IDLE; one that has been DISABLED since reset stays so (R414). -/
def State.axKeyBack (s : State) : State :=
  forEach (List.finRange 8) (s.setFlag F.AX_OUT_KEY_OK true) fun s a =>
    ((s.setAxState a (if s.axState a = axKEYLOST then axIDLE else s.axState a)).setFlag (F.AX_STAT_HOMED a.val) false).setFlag
      (F.AX_STAT_POS_VALID a.val) false

/-- The band becomes B4 (R411): each moving axis stops. -/
def State.axBandStop (s : State) : State :=
  forEach (List.finRange 8) s fun s a => (s.axStop a).axPump a

/-- R410: axis a takes the state that the previous holder published. -/
def State.axAdopt (s : State) (a : Axis) (pos : Int) (code : Nat) (homed valid moving : Bool) : State :=
  let s := (s.axPlace a pos).modAxis a fun x => { x with code := code, lastFrame := none }
  ((s.put (F.AX_STAT_RES a.val) code).setFlag (F.AX_STAT_HOMED a.val) (homed && !moving)).setFlag
    (F.AX_STAT_POS_VALID a.val) (valid && !moving)

/-- AX_VEL: the profile speed now, as signed 16.16 (R414). -/
def State.axVelNow (s : State) (a : Axis) : Int := (profVel s.axes[a].pieces (axTime s.now)).fdiv (2 ^ 24)

end Sys2Proof.Machine
end

