-- ==== Sys2Proof/Machine/Claim.lean ====
section
/-! DEFINITION. What a beam in dispatch takes: a pending restart, the head of its own ring, a gleaned swath
(02_bed_and_swaths.md R48, R69; 05_beam_instructions.md R190, R191; 07_field_arbiter.md R281-R285). -/

namespace Sys2Proof.Machine

/-- Bytes of a correction grid (R240). -/
def gridSize : Nat := 199692

/-- Silo offset of the grid written to BEAM_CORR_BASE (R262). -/
def State.corrBaseOf (s : State) (b : Sys2Proof.Beam) : Nat := s.get (F.BEAM_CORR_BASE_BASE b.val) * 64

/-- Beam b in dispatch may begin a pending restart (R32, R95, R190, R434). -/
def State.mayRestart (s : State) (b : Sys2Proof.Beam) : Bool :=
  s.engLive (engOf b) && s.beam[b].disp && s.usable b && s.arb.beams[b].retiring.isNone && !s.exposureHeld b

/-- Beam b in dispatch may claim a swath (R190, R252, R335, R434, R573), which lies in a layer that runs (log
entry 17). -/
def State.mayClaim (s : State) (b : Sys2Proof.Beam) : Bool :=
  s.mayRestart b && s.beam[b].present.isNone && decide (s.lyState = lyACTIVE ∧ s.stage < 4) &&
    !s.flag (F.LOOP_BEAM_STAT_PAUSED b.val)

/-- R48 for the head of beam ring b, the descriptor at a: one that fails R69 is claimed all the same. -/
def State.eligibleOwn (s : State) (b : Sys2Proof.Beam) (a : Nat) : Bool :=
  !s.hdrOk b (32 + b.val) a || (let h := s.hdrAt (s.dPtr a); s.depMet h.dep0 && s.depMet h.dep1)

/-- R48 for the descriptor at a on a glean ring of beam b. -/
def State.eligibleGlean (s : State) (b : Sys2Proof.Beam) (a : Nat) : Bool :=
  !s.hdrSound (s.dPtr a) (s.dId a) ||
    (let h := s.hdrAt (s.dPtr a)
     h.affinity.getLsbD b.val && h.box.inside (s.field b) && s.depMet h.dep0 && s.depMet h.dep1)

/-- The trial of R281: a decision on the header box that writes nothing. -/
def State.startable (s : State) (b : Sys2Proof.Beam) (a : Nat) : Bool :=
  !s.hdrSound (s.dPtr a) (s.dId a) ||
    (let h := s.hdrAt (s.dPtr a)
     decide (s.decideLocal b h.box h.cls = .grant))

/-- The slots of ring n within DEPTH of HEAD that hold a QUEUED descriptor (R281, R302). -/
def State.inDepth (s : State) (n : Nat) : List Nat :=
  ((s.heldSlots n).take (s.get F.ARB_GLEAN_DEPTH)).filter fun i => s.dStatus (s.slotAddr n i) == dQUEUED

/-- The stamp with which a slot passed TAIL (R281). -/
def State.stampOf (s : State) (n slot : Nat) : Nat :=
  ((s.arb.stamps.find? fun x => decide (x.1 = n ∧ x.2.1 = slot)).map (·.2.2)).getD 0

/-- The glean rings of beam b. -/
def State.gleanRings (s : State) (b : Sys2Proof.Beam) : List Nat :=
  ([0, 1, 2, 3].filter fun g => s.gleans b g).map (· + 48)

/-- The candidate that passed TAIL first. -/
def State.earliest (s : State) (l : List (Nat × Nat)) : Option (Nat × Nat) :=
  (sortKey (fun x => s.stampOf x.1 x.2) l).head?

/-- What beam b would glean (R281). -/
def State.gleanPick (s : State) (b : Sys2Proof.Beam) : Option (Nat × Nat) :=
  s.earliest ((s.gleanRings b).filterMap fun n =>
    ((s.inDepth n).find? fun i => s.eligibleGlean b (s.slotAddr n i) && s.startable b (s.slotAddr n i)).map fun i => (n, i))

/-- The head descriptor of beam b's own ring (R190): the first QUEUED one, when it is eligible. -/
def State.ownPick (s : State) (b : Sys2Proof.Beam) : Option (Nat × Nat) :=
  let n := 32 + b.val
  match (s.heldSlots n).find? fun i => s.dStatus (s.slotAddr n i) == dQUEUED with
  | some i => if s.eligibleOwn b (s.slotAddr n i) then some (n, i) else none
  | none => none

/-- A gleaned claim is due under R283. -/
def State.gleanGap (s : State) (b : Sys2Proof.Beam) : Bool :=
  decide (s.stage < 2) || (match s.arb.beams[b].lastGlean with
    | some t => s.past (t + 1000 * s.get F.ARB_GLEAN_T2_GAP)
    | none => true)

/-- What beam b would claim in REPLAY (R284). On its own ring a descriptor that fails R69 is eligible as the head only (R48); a claim
from a glean ring keeps to R283. -/
def State.replayPick (s : State) (b : Sys2Proof.Beam) : Option (Nat × Nat) :=
  let mine := fun (n i : Nat) =>
    let a := s.slotAddr n i
    s.hdrReadable (s.dPtr a) && decide ((s.hdrAt (s.dPtr a)).replay = some (s.arb.beams[b].nextOrd, b.val)) &&
      (if n < 48 then s.eligibleOwn b a && (s.hdrOk b n a || decide (s.ownPick b = some (n, i)))
       else s.eligibleGlean b a && s.gleanGap b)
  s.earliest (((32 + b.val) :: s.gleanRings b).flatMap fun n => ((s.inDepth n).filter (mine n)).map fun i => (n, i))

/-- Beam b is about to search the glean rings (R281, R283). -/
def State.searches (s : State) (b : Sys2Proof.Beam) : Bool :=
  decide (s.arbMode = 1) && (s.ownPick b).isNone && s.arb.beams[b].searchOwed && s.gleanGap b

/-- R282: another beam searches before beam b: both entered dispatch within one ARB_WINDOW, and it comes first by PRIO, then index (log
entry 17). -/
def State.searchAfter (s : State) (b : Sys2Proof.Beam) : Bool :=
  let w := s.get F.ARB_WINDOW_WINDOW
  let key := fun (c : Sys2Proof.Beam) => (7 - s.get (F.ARB_BEAM_CFG_PRIO c.val)) * 16 + c.val
  let t := s.arb.beams[b].dispAt
  allBeams.any fun c => decide (key c < key b) && decide (s.arb.beams[c].dispAt ≤ t + w ∧ t ≤ s.arb.beams[c].dispAt + w) &&
    s.mayClaim c && s.searches c

/-- The plots that the trials of a search by beam b read (R39, R281). -/
def State.trialFix (s : State) (b : Sys2Proof.Beam) : State :=
  forEach (s.gleanRings b) s fun s n =>
    let l := (s.inDepth n).filter fun i => s.eligibleGlean b (s.slotAddr n i)
    let tried := l.takeWhile fun i => !s.startable b (s.slotAddr n i)
    forEach (l.take (tried.length + 1)) s fun s i => s.bedFixRect (s.plotsOf (s.hdrAt (s.dPtr (s.slotAddr n i))).box)

/-- The descriptor beam b takes now: ring and slot, and whether it was gleaned (R190, R281-R284). -/
def State.choice (s : State) (b : Sys2Proof.Beam) : Option ((Nat × Nat) × Bool) :=
  if s.arbMode = 2 then (s.replayPick b).map fun x => (x, decide (48 ≤ x.1))
  else match s.ownPick b with
    | some x => some (x, false)
    | none => if s.searches b then (s.gleanPick b).map fun x => (x, true) else none

/-- R284, R285: every claim counts toward NEXT_ORD and is recorded when RECORD is 1. -/
def State.recordClaim (s : State) (b : Sys2Proof.Beam) (id : Nat) : State :=
  let ord := s.arb.beams[b].nextOrd
  let n := s.arb.recCount
  let s := if s.flag F.ARB_CTRL_RECORD then
      if n < 65536 then
        let a := s.get F.ARB_REC_REC_BASE * 4096 + 8 * n
        let s := if a + 8 ≤ siloSize then (s.setSilo32 a (id % 2 ^ 22 + b.val * 2 ^ 24)).setSilo32 (a + 4) ord.toNat else s
        { s with arb := { s.arb with recCount := n + 1 } }.put F.ARB_STAT_REC_COUNT ((n + 1).min 0xFFFF)
      else s.setFlag F.ARB_STAT_REC_OVF true
    else s
  { s with arb := { s.arb with lastClaim := s.now } }.modArb b fun a => { a with nextOrd := ord + 1 }

/-- R191: the swath at slot i of ring n is entered by beam b. -/
def State.enterSwath (s : State) (b : Sys2Proof.Beam) (n : Ring) (i : Nat) : State :=
  let a := s.slotAddr n.val i
  let p := s.dPtr a
  let h := s.hdrAt p
  let e := engOf b
  let tries := s.dTries a
  let s := s.setDesc a dCLAIMED b.val tries
  let s := { s with silo := s.silo.write (a + 0x10) 8 s.now }
  let alone := s.beam[b].swaths.isEmpty
  let (g, s) := s.loadSettings b h.pset
  let base := s.corrBaseOf b
  let s := s.setFlag (F.BEAM_CORR_BASE_PEND b.val) false
  let s := s.put (F.BEAM_FE_STAT_TRIPS b.val) 0
  let s := s.modEng e fun x =>
    let y := ((x.setG 1 (BitVec.ofNat 32 (0x10000000 + p))).setG 2 (BitVec.ofNat 32 (0x10000000 + a))).setG 3 (BitVec.ofNat 32 tries)
    { y with pc := BitVec.ofNat 32 (0x10000000 + h.progOfs), wait := none
             flags := { x.flags with v := false, c := false, z := false, n := false } }
  let s := s.modBeam b fun x => { x with
    set := g, disp := false, expired := x.expired && x.settled, eretEnds := false, lookAhead := some (s.get F.SYS_LOOKAHEAD_LOOKAHEAD) }
  let s := s.modTraj b fun j => { j with corrOld := base, handed := j.handed && !alone }
  let w : Swath :=
    { ring := n, slot := i, ptr := p, hdr := h, tries := tries, state := .run, ended := none, lastOff := none, motionEnd := none
      committed := s.shadow b 0xFFFF s.eng[e].pc, pending := [], markDone := 0, suppressed := 0, countsTry := false
      primed := false, startS := s.beam[b].traj.stream, corrBase := base }
  let s := s.modBeam b fun x => { x with swaths := x.swaths ++ [w] }
  ((s.loopPrepare b true).captureEntered b).wdogReload e

/-- The claim of slot i of ring n by beam b: the checks of R69 in order, then entry. -/
def State.claim (s : State) (b : Sys2Proof.Beam) (n : Ring) (i : Nat) : State :=
  let a := s.slotAddr n.val i
  let s := s.recordClaim b (s.dId a)
  let bad := !s.hdrOk b n.val a || decide (siloSize < s.corrBaseOf b + gridSize)
  if bad then (s.finish n.val i dBAD_HEADER).swathDone b a
  else if s.doneBit (s.dId a) then (s.finish n.val i dDUPLICATE).swathDone b a
  else (s.siloFix (s.dPtr a) 64).enterSwath b n i

/-- A pending restart of beam b is taken (R190, R216): it counts its try, and the stop is awaited. -/
def State.takeRestart (s : State) (b : Sys2Proof.Beam) (w : Swath) : State :=
  let t := if w.countsTry then w.tries + 1 else w.tries
  let a := s.slotAddr w.ring.val w.slot
  let s := s.setDesc a dCLAIMED b.val t
  ((s.modSwath b w.hdr.id fun w => { w with tries := t, countsTry := false, state := .stopping }).modBeam b
    fun x => { x with disp := false }).wdogReload (engOf b)

/-- Beam b takes what it may claim, if anything: the own ring's head or a gleaned swath. -/
def State.claimNext (s : State) (b : Sys2Proof.Beam) : State :=
  let searches := s.searches b
  let s := if searches then s.trialFix b else s
  match s.choice b with
  | some ((n, i), gleaned) =>
    let s := if gleaned then s.modArb b fun a => { a with lastGlean := some s.now } else s
    if h : n < 52 then s.claim b ⟨n, h⟩ i else s
  | none => if searches then s.modArb b fun a => { a with searchOwed := false } else s

/-- DISPATCH_CLAIM (R190): the first that applies of a restart, the own ring's head, a gleaned swath. -/
def execDispatchClaim (b : Sys2Proof.Beam) (s : State) : Host.Outcome State Fault Refusal :=
  .next (match s.beam[b].present with
    | some w => if w.state = .pend ∧ s.mayRestart b then s.takeRestart b w else s
    | none =>
      if s.mayClaim b && !(s.searches b && s.searchAfter b) then
        (if s.searches b then s.askSoon [domArb] fun s => s.claimNext b else s.claimNext b)
      else s)

end Sys2Proof.Machine
end

