-- ==== Sys2Proof/Machine/Crypto.lean ====
section
/-! DEFINITION. SHA-256, HMAC-SHA-256 and the verification of ECDSA signatures over P-256, which R503, R519, R644 and R645 name
without setting them out (log entry 27: taken from FIPS 180-4, FIPS 198-1 and FIPS 186-4). -/

namespace Sys2Proof.Machine

/-- The number that octets spell, most significant first. -/
def beNum (l : List (BitVec 8)) : Nat := l.foldl (fun a b => a * 256 + b.toNat) 0

/-- A number as n octets, most significant first. -/
def beOctets (v : Nat) : Nat → List (BitVec 8)
  | 0 => []
  | n + 1 => BitVec.ofNat 8 (v / 256 ^ n) :: beOctets v n

/-! ## SHA-256 -/

/-- The 64 round constants of FIPS 180-4 in a row, the first in the highest bits: in each quarter sixteen of them. -/
def shaKs : Nat :=
  0x428a2f9871374491b5c0fbcfe9b5dba53956c25b59f111f1923f82a4ab1c5ed5d807aa9812835b01243185be550c7dc372be5d7480deb1fe9bdc06a7c19bf174 * 2 ^ 1536 +
  0xe49b69c1efbe47860fc19dc6240ca1cc2de92c6f4a7484aa5cb0a9dc76f988da983e5152a831c66db00327c8bf597fc7c6e00bf3d5a7914706ca635114292967 * 2 ^ 1024 +
  0x27b70a852e1b21384d2c6dfc53380d13650a7354766a0abb81c2c92e92722c85a2bfe8a1a81a664bc24b8b70c76c51a3d192e819d6990624f40e3585106aa070 * 2 ^ 512 +
  0x19a4c1161e376c082748774c34b0bcb5391c0cb34ed8aa4a5b9cca4f682e6ff3748f82ee78a5636f84c878148cc7020890befffaa4506cebbef9a3f7c67178f2

/-- The round constants. -/
def shaK : List Nat := (List.range 64).map fun i => shaKs / 2 ^ (32 * (63 - i)) % 2 ^ 32

/-- The first hash value. -/
def shaH : List Word := [0x6a09e667, 0xbb67ae85, 0x3c6ef372, 0xa54ff53a, 0x510e527f, 0x9b05688c, 0x1f83d9ab, 0x5be0cd19]

/-- The message schedule: 64 words from the 16 of a block, kept newest first. -/
def shaGrow : Nat → List Word → List Word
  | 0, w => w
  | n + 1, w =>
    let a := w.getD 14 0
    let b := w.getD 1 0
    let s0 := a.rotateRight 7 ^^^ a.rotateRight 18 ^^^ (a >>> 3)
    let s1 := b.rotateRight 17 ^^^ b.rotateRight 19 ^^^ (b >>> 10)
    shaGrow n ((w.getD 15 0 + s0 + w.getD 6 0 + s1) :: w)

/-- One round on the eight working words. -/
def shaRound (v : List Word) (kw : Nat × Word) : List Word :=
  match v with
  | [a, b, c, d, e, f, g, h] =>
    let t1 := h + (e.rotateRight 6 ^^^ e.rotateRight 11 ^^^ e.rotateRight 25) + ((e &&& f) ^^^ (~~~e &&& g)) + BitVec.ofNat 32 kw.1 + kw.2
    let t2 := (a.rotateRight 2 ^^^ a.rotateRight 13 ^^^ a.rotateRight 22) + ((a &&& b) ^^^ (a &&& c) ^^^ (b &&& c))
    [t1 + t2, a, b, c, d + t1, e, f, g]
  | _ => v

/-- The words of a block, most significant octet first. -/
def beWords : List (BitVec 8) → List Word
  | a :: b :: c :: d :: t => BitVec.ofNat 32 (beNum [a, b, c, d]) :: beWords t
  | _ => []

/-- One block. -/
def shaBlock (h : List Word) (block : List (BitVec 8)) : List Word :=
  let w := (shaGrow 48 (beWords block).reverse).reverse
  List.zipWith (· + ·) h ((shaK.zip w).foldl shaRound h)

/-- The blocks of 64 octets in turn, at most n of them. -/
def shaBlocks : Nat → List Word → List (BitVec 8) → List Word
  | 0, h, _ => h
  | n + 1, h, l => if l.isEmpty then h else shaBlocks n (shaBlock h (l.take 64)) (l.drop 64)

/-- SHA-256 of octets, as 32 octets. -/
def sha256 (l : List (BitVec 8)) : List (BitVec 8) :=
  let pad := (119 - l.length % 64) % 64
  let m := l ++ [0x80#8] ++ List.replicate pad 0 ++ beOctets (8 * l.length) 8
  (shaBlocks (m.length / 64) shaH m).flatMap fun w => beOctets w.toNat 4

/-- HMAC-SHA-256 under a key of at most 64 octets. -/
def hmac (key msg : List (BitVec 8)) : List (BitVec 8) :=
  let k := key ++ List.replicate (64 - key.length) 0
  let x (c : BitVec 8) := k.map (· ^^^ c)
  sha256 (x 0x5C ++ sha256 (x 0x36 ++ msg))

/-! ## ECDSA over P-256 -/

/-- The prime of the field. -/
abbrev p256 : Nat := 0xFFFFFFFF00000001000000000000000000000000FFFFFFFFFFFFFFFFFFFFFFFF
/-- The order of the base point. -/
abbrev n256 : Nat := 0xFFFFFFFF00000000FFFFFFFFFFFFFFFFBCE6FAADA7179E84F3B9CAC2FC632551
/-- The constant of the curve y² = x³ - 3x + b. -/
abbrev b256 : Nat := 0x5AC635D8AA3A93E7B3EBBD55769886BC651D06B0CC53B0F63BCE3C3E27D2604B
/-- The base point. -/
abbrev g256 : Nat × Nat := (0x6B17D1F2E12C4247F8BCE6E563A440F277037D812DEB33A0F4A13945D898C296,
  0x4FE342E2FE1A7F9B8EE7EB4A7C0F9E162BCE33576B315ECECBB6406837BF51F5)

/-- b^e mod m for e below 2^n. -/
def powMod (m : Nat) : Nat → Nat → Nat → Nat
  | 0, _, _ => 1 % m
  | n + 1, b, e => let r := powMod m n (b * b % m) (e / 2); if e % 2 = 1 then r * b % m else r

/-- The inverse modulo a prime. -/
def invMod (m a : Nat) : Nat := powMod m 256 (a % m) (m - 2)

/-- A point of the curve; none is the point at infinity. -/
abbrev EcPoint := Option (Nat × Nat)

/-- The sum of two points. -/
def ecAdd (a c : EcPoint) : EcPoint :=
  match a, c with
  | none, q => q
  | q, none => q
  | some (x, y), some (u, v) =>
    let go (num den : Nat) : EcPoint :=
      let k := num * invMod p256 den % p256
      let x3 := (k * k + 2 * p256 - x - u) % p256
      some (x3, (k * (x + p256 - x3) + p256 - y) % p256)
    if x = u then (if (y + v) % p256 = 0 then none else go (3 * x * x + p256 - 3) (2 * y))
    else go (v + p256 - y) (u + p256 - x)

/-- k times a point, for k below 2^n. -/
def ecMul : Nat → Nat → EcPoint → EcPoint
  | 0, _, _ => none
  | n + 1, k, q => let r := ecMul n (k / 2) (ecAdd q q); if k % 2 = 1 then ecAdd q r else r

/-- The signature (r, s), each 32 octets, of a digest verifies under a public key of 64 octets. -/
def ecdsaVerify (digest sig key : List (BitVec 8)) : Bool :=
  let r := beNum (sig.take 32)
  let s := beNum (sig.drop 32)
  let x := beNum (key.take 32)
  let y := beNum (key.drop 32)
  let on := decide (x < p256 ∧ y < p256 ∧ (x * x * x + (p256 - 3) * x + b256) % p256 = y * y % p256)
  let w := invMod n256 s
  let u := beNum digest * w % n256
  let v := r * w % n256
  on && decide (0 < r ∧ r < n256 ∧ 0 < s ∧ s < n256) &&
    (match ecAdd (ecMul 256 u (some g256)) (ecMul 256 v (some (x, y))) with
      | some (x, _) => decide (x % n256 = r)
      | none => false)

end Sys2Proof.Machine
end

