-- ==== Sys2Proof/Machine/Frames.lean ====
section
/-! DEFINITION. What an Ethernet port sends, as octets: Ethernet, IPv4, UDP, ICMP and ARP as R490, R493 and R494 name them (log entry 53:
what those rules leave to the protocols' own standards), and PAUSE (11_serial_lanes.md R451). -/

namespace Sys2Proof.Machine

/-- s with the host attachment changed by f. -/
def State.modHost (s : State) (f : HostSt → HostSt) : State := { s with host := f s.host }
/-- s with Ethernet port p changed by f. -/
def State.modNet (s : State) (p : EPort) (f : NetSt → NetSt) : State := s.modHost fun h => { h with net := vmod h.net p f }

/-- Something leaves port p, or waits while a PAUSE holds it (R451). -/
def State.sendPort (s : State) (p : EPort) (o : Out) : State :=
  if s.now < s.host.net[p].pausedTo then s.modNet p fun x => { x with held := x.held ++ [o] } else s.send o

/-- What a PAUSE held on port p leaves once the time is over (R451). -/
def State.netPump (s : State) (p : EPort) : State :=
  if s.now < s.host.net[p].pausedTo ∨ s.host.net[p].held = [] then s
  else s.host.net[p].held.foldl State.send (s.modNet p fun x => { x with held := [] })

/-- The IPv4 address of port p. -/
def State.portIp (s : State) (p : EPort) : Nat := s.get (F.HOST_NET_IP_IP p.val)
/-- The MAC address of port p. -/
def State.portMac (s : State) (p : EPort) : Nat := s.get (F.HOST_NET_MAC_HI_MAC_HI p.val) * 2 ^ 32 + s.get (F.HOST_NET_MAC_LO_MAC_LO p.val)

/-- The ones' complement sum of octets taken as 16-bit words (of IPv4, UDP and ICMP). -/
def onesSum (l : List Octet) : Nat :=
  let fold (n : Nat) : Nat := n % 65536 + n / 65536
  let whole := (List.range ((l.length + 1) / 2)).foldl (fun a i => a + beNum (((l.drop (2 * i)).take 2 ++ [0]).take 2)) 0
  fold (fold whole)

/-- The checksum of octets whose checksum field holds 0. -/
def inetSum (l : List Octet) : List Octet := beOctets (65535 - onesSum l) 2

/-- A frame of port p to a MAC address: tagged with VID and PCP where VLAN_EN is 1 (R493). -/
def State.ethFrame (s : State) (p : EPort) (mac : BitVec 48) (type : Nat) (l : List Octet) : List Octet :=
  let tag := if s.flag (F.HOST_NET_VLAN_VLAN_EN p.val) then
    beOctets 0x8100 2 ++ beOctets (s.get (F.HOST_NET_VLAN_PCP p.val) * 2 ^ 13 + s.get (F.HOST_NET_VLAN_VID p.val)) 2 else []
  beOctets mac.toNat 6 ++ beOctets (s.portMac p) 6 ++ tag ++ beOctets type 2 ++ l

/-- The first 12 octets of an IPv4 header: TTL 64, DF = 1, identification 0 (R493); its checksum as given. -/
def ipHead (len proto : Nat) (sum : List Octet) : List Octet :=
  [0x45#8, 0#8] ++ beOctets (20 + len) 2 ++ [0#8, 0#8, 0x40#8, 0#8, 64#8, BitVec.ofNat 8 proto] ++ sum

/-- A frame of port p with an IPv4 packet (R493). -/
def State.ipFrame (s : State) (p : EPort) (mac : BitVec 48) (ip : BitVec 32) (proto : Nat) (l : List Octet) : List Octet :=
  let ends := beOctets (s.portIp p) 4 ++ beOctets ip.toNat 4
  s.ethFrame p mac 0x0800 (ipHead l.length proto (inetSum (ipHead l.length proto [0, 0] ++ ends)) ++ ends ++ l)

/-- A frame of port p with a UDP message from VMP_PORT, its checksum computed (R493). -/
def State.udpFrame (s : State) (p : EPort) (mac : BitVec 48) (ip : BitVec 32) (port : BitVec 16) (l : List Octet) : List Octet :=
  let head (sum : List Octet) := beOctets (s.get F.HOST_VMP_CFG_VMP_PORT) 2 ++ beOctets port.toNat 2 ++ beOctets (8 + l.length) 2 ++ sum
  let pseudo := beOctets (s.portIp p) 4 ++ beOctets ip.toNat 4 ++ [0#8, 17#8] ++ beOctets (8 + l.length) 2
  let sum := inetSum (pseudo ++ head [0, 0] ++ l)
  s.ipFrame p mac ip 17 (head (if sum = [0, 0] then [0xFF, 0xFF] else sum) ++ l)

/-- The answer of port p to an ICMP echo request, with the same data (R494). -/
def State.echoFrame (s : State) (p : EPort) (mac : BitVec 48) (ip : BitVec 32) (ident seq : BitVec 16) (data : List Octet) : List Octet :=
  let rest := beOctets ident.toNat 2 ++ beOctets seq.toNat 2 ++ data
  s.ipFrame p mac ip 1 ([0, 0] ++ inetSum ([0, 0, 0, 0] ++ rest) ++ rest)

/-- An ARP packet of port p about its own address (R494): a reply to a request, or to everyone. -/
def State.arpFrame (s : State) (p : EPort) (reply : Bool) (mac : BitVec 48) (ip : BitVec 32) : List Octet :=
  s.ethFrame p mac 0x0806 (beOctets 1 2 ++ beOctets 0x0800 2 ++ [6#8, 4#8] ++ beOctets (if reply then 2 else 1) 2 ++
    beOctets (s.portMac p) 6 ++ beOctets (s.portIp p) 4 ++ beOctets (if reply then mac.toNat else 0) 6 ++ beOctets ip.toNat 4)

end Sys2Proof.Machine
end

