-- ==== Sys2Proof/Machine/HostBase.lean ====
section
/-! DEFINITION. Sessions, and how a VMP message leaves the device (13_host.md R492-R516, R526). Numbers in the
body of a message are in network byte order (DEDUCED, log entry 28). -/

namespace Sys2Proof.Machine

/-! ## The parts of the host attachment -/

/-- s with session n changed by f. -/
def State.modSess (s : State) (n : Sess) (f : SessSt → SessSt) : State := s.modHost fun h => { h with sess := vmod h.sess n f }
/-- s with host ring h changed by f. -/
def State.modHRing (s : State) (r : Fin 32) (f : HRingSt → HRingSt) : State := s.modHost fun h => { h with rings := vmod h.rings r f }
/-- s with the local bus changed by f. -/
def State.modLb (s : State) (f : LbSt → LbSt) : State := s.modHost fun h => { h with lb := f h.lb }

/-- STATE of session n: 0 FREE, 1 PENDING, 2 OPEN (R501). -/
def State.sessState (s : State) (n : Sess) : Nat := s.get (F.HOST_SESS_INFO_STATE n.val)
/-- The session has the supervisor view. -/
def State.sessSup (s : State) (n : Sess) : Bool := s.flag (F.HOST_SESS_INFO_VIEW n.val)
/-- Two origins are one binding (R501): the port, the addresses, and for a relay the origin node. -/
def sameBinding (a c : VmpFrom) : Bool := decide (a.port = c.port ∧ a.node = c.node ∧ a.origin = c.origin ∧ a.ip = c.ip ∧ a.udp = c.udp)

/-! ## Octets (R496, R497, R503) -/

/-- A message without its tag, as it travels (R496). -/
def vmpOctets (m : VmpMsg) : List Octet :=
  [0x56#8, 0x4D#8, 0x01#8, m.type, m.flags, m.session, m.ring, m.status] ++ beOctets m.seq.toNat 4 ++ beOctets m.xid.toNat 4 ++
    beOctets m.len.toNat 2 ++ beOctets m.relay.toNat 2 ++ m.body
/-- The length of a message in octets. -/
def vmpLen (m : VmpMsg) : Nat := 20 + m.body.length + m.tag.length

/-- The message that octets spell, if R497 does not have it discarded: MAGIC, VERSION and at least 20 octets. A message with TAG
has its last 16 octets as its tag. -/
def vmpParse (l : List Octet) : Option VmpMsg :=
  if l.length < 20 ∨ beNum (l.take 2) ≠ 0x564D ∨ beNum ((l.drop 2).take 1) ≠ 1 then none
  else
    let o (n : Nat) : Octet := l.getD n 0
    let tail := l.drop 20
    let cut := if (o 4).getLsbD 1 then tail.length - 16 else tail.length
    some ⟨o 3, o 4, o 5, o 6, o 7, BitVec.ofNat 32 (beNum ((l.drop 8).take 4)), BitVec.ofNat 32 (beNum ((l.drop 12).take 4)),
      BitVec.ofNat 16 (beNum ((l.drop 16).take 2)), BitVec.ofNat 16 (beNum ((l.drop 18).take 2)), tail.take cut, tail.drop cut⟩

/-- The key K as octets. -/
def State.keyOctets (s : State) : List Octet := beOctets (s.gran.key.getD 0).toNat 32

/-- The tag of a message of session n (R503). -/
def State.vmpTag (s : State) (n : Sess) (m : VmpMsg) : List Octet :=
  let x := s.host.sess[n]
  (hmac s.keyOctets (beOctets x.nHost.toNat 8 ++ beOctets x.nDev.toNat 8 ++ vmpOctets { m with flags := m.flags ||| 2#8 })).take 16

/-! ## Sending (R493, R515, R526) -/

/-- The 8 octets that precede a relayed message (R515), in the byte order of a FarmLink payload (R2). -/
def relayHead (o : VmpFrom) : List Octet := [o.origin, 0#8] ++ octets o.udp.toNat 2 ++ octets o.ip.toNat 4

/-- A message leaves for where a request came from: a port, the local bus, or the fabric. -/
def State.vmpOut (s : State) (o : VmpFrom) (m : VmpMsg) : State :=
  if h : o.port.val < 2 then
    let p : EPort := ⟨o.port.val, h⟩
    s.sendPort p (.eth p (s.udpFrame p o.mac o.ip o.udp (vmpOctets m ++ m.tag)))
  else if o.port.val = 2 then
    (if s.pers = 0 then s.modLb fun l => { l with rx := l.rx ++ [vmpOctets m ++ m.tag] } else s)
  else s.flSend 2 o.node 2 false (relayHead o ++ vmpOctets m ++ m.tag)

/-- The message with its tag, if session n is one whose messages carry one (R503, R506). -/
def State.tagged (s : State) (n : Sess) (m : VmpMsg) : VmpMsg :=
  if s.host.sess[n].keyed then { m with flags := m.flags ||| 2#8, tag := s.vmpTag n m } else m

/-- The response to a request, without a tag (R496, R499). -/
def vmpReply (q : VmpMsg) (status : Nat) (body : List Octet) : VmpMsg :=
  { q with flags := 1#8, status := BitVec.ofNat 8 status, len := BitVec.ofNat 16 body.length, body := body, tag := [] }

/-- An untagged answer to a request. -/
def State.vmpAnswer (s : State) (o : VmpFrom) (q : VmpMsg) (status : Nat) (body : List Octet) : State :=
  s.vmpOut o (vmpReply q status body)

/-- BAD_MSG, counted (R497). -/
def State.vmpBad (s : State) (o : VmpFrom) (q : VmpMsg) : State := (s.count F.HOST_VMP_CNT_BAD_MSG).vmpAnswer o q 5 []

/-- A device message on session n (R504): the next SEQ; no rule gives its XID. -/
def State.vmpDevice (s : State) (n : Sess) (type ring : Nat) (body : List Octet) : State :=
  match s.host.sess[n].peer with
  | none => s
  | some o =>
    let seq := s.host.sess[n].devSeq + 1
    let (xid, s) := s.freeVal 30 32
    let m : VmpMsg := ⟨BitVec.ofNat 8 type, 0, BitVec.ofNat 8 n.val, BitVec.ofNat 8 ring, 0, seq, BitVec.ofNat 32 xid,
      BitVec.ofNat 16 body.length, 0, body, []⟩
    let m := s.tagged n m
    (s.modSess n fun x => { x with devSeq := seq }).vmpOut o m

/-! ## Opening and closing (R501-R507, R511) -/

/-- The host rings whose messages go to session n. -/
def State.ringsOf (s : State) (n : Sess) : List (Fin 32) :=
  (List.finRange 32).filter fun r => decide (s.get (F.HOST_HRING_CFG_DEST r.val) = n.val)

/-- The rings of session n are sent from HEAD again, as to a new reader (R511). -/
def State.ringsFresh (s : State) (n : Sess) : State :=
  forEach (s.ringsOf n) s fun s r => s.modHRing r fun x => { x with sentAt := [], ever := 0, resends := 0, stalled := false }

/-- What session n has latched as a reader is gone: a later session of that number has made no read (R99). -/
def State.forgetReads (s : State) (n : Sess) : State :=
  let i : Fin 30 := ⟨21 + n.val, by omega⟩
  { s with
    time := { s.time with tnowHi := s.time.tnowHi.set i 0 }
    host := { s.host with evtLatch := s.host.evtLatch.set i 0 }
    gran := { s.gran with optHi := s.gran.optHi.set i 0 }
    xk := { s.xk with tickHi := s.xk.tickHi.set i 0, posHi := s.xk.posHi.set i (Vector.replicate 2 0) } }

/-- Session n becomes FREE, without an event. -/
def State.freeSession (s : State) (n : Sess) : State :=
  (((s.put (F.HOST_SESS_INFO_STATE n.val) 0).modSess n fun _ => {}).forgetReads n).ringsFresh n

/-- Session n, PENDING or OPEN, closes with a reason (R507, R528). -/
def State.closeSession (s : State) (n : Sess) (reason : Nat) : State :=
  if s.sessState n = 0 then s else (s.freeSession n).raise 241 (n.val + 256 * reason)

/-- The binding of a new session in its registers (R523). -/
def State.bindSession (s : State) (n : Sess) (o : VmpFrom) (state : Nat) (sup : Bool) : State :=
  let i := n.val
  let s := ((s.put (F.HOST_SESS_INFO_STATE i) state).setFlag (F.HOST_SESS_INFO_VIEW i) sup).put (F.HOST_SESS_INFO_PORT i) o.port.val
  let s := (s.put (F.HOST_SESS_INFO_NODE i) (if o.port = 3 then o.node.val else 0)).put (F.HOST_SESS_INFO_HOST_UDP i) o.udp.toNat
  s.put (F.HOST_SESS_ADDR_HOST_IP i) (if o.port = 2 then 0 else o.ip.toNat)

/-- Session n is OPEN (R528). -/
def State.sessOpened (s : State) (n : Sess) : State :=
  ((s.put (F.HOST_SESS_INFO_STATE n.val) 2).ringsFresh n).raise 240 (n.val + 16 * b2n (s.sessSup n))

/-- KILL of session n (R507). -/
def State.killSession (s : State) (n : Sess) : State := s.closeSession n 4

/-- SESSION_KILL (R507, R523): a write of KILL to HOST_SESS_INFO of session n from the supervisor view. -/
def execSessionKill (who : Reader) (n : Sess) (s : State) : Host.Outcome State Fault Refusal :=
  .next (s.ask 41 (.sessionKill who n) fun s => if s.supView who then s.killSession n else s)

/-- AUTH_TIMEOUT (R502): 1 s without a correct AUTH. -/
def execAuthTimeout (n : Sess) (s : State) : Host.Outcome State Fault Refusal :=
  .next (if s.sessState n = 1 ∧ s.past (s.host.sess[n].since + 1000000000) then s.freeSession n else s)

/-- SESSION_TIMEOUT (R507): not session 8, and not while a long operation runs. -/
def execSessionTimeout (n : Sess) (s : State) : Host.Outcome State Fault Refusal :=
  .next (if n ≠ 8 ∧ s.sessState n = 2 ∧ s.host.long.isNone ∧
      s.elapsed s.host.sess[n].since (s.get F.HOST_VMP_CFG_SESSION_TTL * 1000000000) then s.closeSession n 2 else s)

/-- The sessions bound to Ethernet port p close (R492). -/
def State.closePort (s : State) (p : EPort) : State :=
  forEach (List.finRange 9) s fun s n =>
    if s.host.sess[n].peer.any fun o => decide (o.port.val = p.val) then s.closeSession n 5 else s

/-- What a response owes once it is sent (R492): sessions of a port whose address changed. -/
def State.payPorts (s : State) : State :=
  forEach (List.finRange 2) s fun s p => if s.host.net[p].closeOwed then (s.modNet p fun x => { x with closeOwed := false }).closePort p else s

/-- A write to HOST_NET_IP or HOST_NET_MASK of port p (R492): a session's write closes the port's sessions after its response. -/
def State.hostNetWrite (s : State) (who : Reader) (p : EPort) (mask : Bool) (v : Word) : State :=
  let a := if mask then R.HOST_NET_MASK p.val else R.HOST_NET_IP p.val
  let t := s.plainWrite a (s.supView who) v
  if t.reg a = s.reg a then s
  else match who with
    | .engine _ => t.closePort p
    | .session _ => t.modNet p fun x => { x with closeOwed := true }

/-- HOST_NET_IP_WRITE (R492): with the response sent. -/
def execHostNetIpWrite (who : Reader) (p : EPort) (mask : Bool) (v : BitVec 32) (s : State) : Host.Outcome State Fault Refusal :=
  .next (s.ask 41 (.netIp who p mask v) fun s => (s.hostNetWrite who p mask v).payPorts)

end Sys2Proof.Machine
end

