-- ==== Sys2Proof/Machine/Time.lean ====
section
/-! DEFINITION. The time base, its extension, the lock of its PLL, reads of the time, general cells, the choice of the active
domain and the step (03_time.md R93-R118, R131-R138). -/

namespace Sys2Proof.Machine

/-- s with the time base changed by f. -/
def State.modTime (s : State) (f : TimeSt → TimeSt) : State := { s with time := f s.time }

/-! ## The counter (R93, R100) -/

/-- The greatest phase correction of one tick in 2^-32 ns (R132). -/
def State.slewLimit (s : State) : Int := (s.get F.TIME_CTRL_SLEW_PPM * 2 ^ 32 / 1000000 : Nat)

/-- SLEW of the present tick: nothing while the servo does not steer (R93, R95). -/
def State.slewNow (s : State) : Int :=
  if s.flag F.TIME_STATUS_LOCKED then clampI (-s.slewLimit) s.slewLimit s.time.phase else 0

/-- EXT_VALID by the cases of R102. -/
def State.extCheck (s : State) : State :=
  s.setFlag F.TIME_STATUS_EXT_VALID (s.time.extWritten && !s.time.supDown && !s.time.winnowFull && !s.time.stepping)

/-- EXT_VALID, which is 0 while a step takes effect (R102, R133), may be 1 again (log entry 33). -/
def State.stepOver (s : State) : State := if s.time.stepping then (s.modTime fun t => { t with stepping := false }).extCheck else s

/-- One tick of the 1 GHz clock: the counter goes on by 1 ns + (FREQ + SLEW) × 2^-32 ns, and PEND_WRAP is set when TS32
wraps. Before the first lock the time reads 0 (R94). -/
def State.clockTick (s : State) : State :=
  if s.time.running then
    let s := s.stepOver
    let sl := s.slewNow
    let total : Nat := (2 ^ 32 + s.int F.TIME_ADDEND_FREQ + sl + s.time.frac.toNat).toNat
    let ts := s.time.ts32.toNat + total / 2 ^ 32
    let left := s.time.phase - sl
    let s := s.modTime fun t => { t with
      ts32 := BitVec.ofNat 32 ts, frac := BitVec.ofNat 32 total, phase := left
      dom := if sl = 0 then t.dom else t.dom.map fun x => { x with slewed := x.slewed + sl } }
    let s := if left = 0 then s.setFlag F.TIME_STATUS_SLEWING false else s
    if 2 ^ 32 ≤ ts then (s.setFlag F.TIME_STATUS_PEND_WRAP true).modTime fun t => { t with wrapLost := false } else s
  else s

/-- TS32_WRAP (R93, R100): the tick of the clock at which TS32 wraps. -/
def execTs32Wrap (s : State) : Host.Outcome State Fault Refusal :=
  .next (if s.clockTick.time.ts32.toNat < s.time.ts32.toNat then s.clockTick else s)

/-! ## The extension (R101, R102) -/

/-- EXT_WRITE (R100-R102): the firmware, which runs, writes EXT. -/
def execExtWrite (v : BitVec 32) (s : State) : Host.Outcome State Fault Refusal :=
  .next (if s.engLive 20 then
    ((s.modTime fun t => { t with ext := v, extWritten := true }).setFlag F.TIME_STATUS_PEND_WRAP false).extCheck else s)

/-- EXT_LOST (R101): PEND_WRAP is still 1 when TS32 reaches 0x80000000; once for a wrap. -/
def execExtLost (s : State) : Host.Outcome State Fault Refusal :=
  .next (if s.flag F.TIME_STATUS_PEND_WRAP && s.time.ts32.getLsbD 31 && !s.time.wrapLost then
    (((s.modTime fun t => { t with extWritten := false, wrapLost := true }).extCheck).setFlag F.TIME_STATUS_EXT_LOST true).raise 117 0 else s)

/-! ## The lock (R94, R95) -/

/-- The PLL is locked from now on. -/
def State.locked (s : State) : State :=
  (s.setFlag F.TIME_STATUS_LOCKED true).modTime fun t => { t with running := true, lockedSince := some s.now }

/-- PLL_LOCK (R94): the first lock after a reset; TS64 is 0 at that tick. -/
def execPllLock (s : State) : Host.Outcome State Fault Refusal :=
  .next (if s.time.running then s else
    ((s.modTime fun t => { t with ts32 := 0, ext := 0, frac := 0 }).setFlag F.TIME_STATUS_PEND_WRAP false).locked)

/-- REFCLK_LOSS (R95): LOCKED falls, and every beam stops and is suspended. -/
def execRefclkLoss (s : State) : Host.Outcome State Fault Refusal :=
  .next (
    if s.flag F.TIME_STATUS_LOCKED then
      let s := ((s.setFlag F.TIME_STATUS_LOCKED false).setFlag F.TIME_STATUS_LOCK_LOST true).raise 116 0
      (s.modTime fun t => { t with lockedSince := none, resumeOwed := true }).suspendAll
    else s)

/-- REFCLK_RELOCK (R95): LOCKED rises again, and the 1 ms starts. -/
def execRefclkRelock (s : State) : Host.Outcome State Fault Refusal :=
  .next (if s.time.running && !s.flag F.TIME_STATUS_LOCKED then s.locked else s)

/-- LOCK_RESTORED (R95): LOCKED has been 1 for a continuous 1 ms. -/
def execLockRestored (s : State) : Host.Outcome State Fault Refusal :=
  .next (match s.time.lockedSince with
    | some t =>
      if s.flag F.TIME_STATUS_LOCKED && s.time.resumeOwed && s.past (t + 1000000) then
        (s.modTime fun t => { t with resumeOwed := false }).resumeAll
      else s
    | none => s)

/-! ## Reads that latch or pop (R99, R117, R137) -/

/-- The number of a reader of the time (R99): engines 0-20, sessions from 21. -/
def readerIdx : Reader → Fin 30
  | .engine e => ⟨e.val, by omega⟩
  | .session n => ⟨21 + n.val, by omega⟩

/-- TIME_NOW_LO_READ (R99): the matching upper half is latched for the reader. -/
def execTimeNowLoRead (who : Reader) (s : State) : Host.Outcome State Fault Refusal := .next (s.latchNow (readerIdx who))

/-- A read of OFS_LO latches OFS_HI (R137). -/
def State.latchOfs (s : State) (d : Dom) : State :=
  s.put (F.TIME_DOM_OFS_HI_OFS_HI d.val) (wrap 64 s.time.dom[d].offset / 2 ^ 32)

/-- TIME_DOM_OFS_LO_READ (R137), by any reader. -/
def execTimeDomOfsLoRead (_who : Reader) (d : Dom) (s : State) : Host.Outcome State Fault Refusal := .next (s.latchOfs d)

/-- A read of CAP_HI removes the head edge of an input cell's queue (R117). -/
def State.capPop (s : State) (n : Fin 16) : State :=
  if s.cellOut (generalCell n) then s else s.modCell (generalCell n) fun y => { y with q := y.q.drop 1 }

/-- TIME_GCELL_CAP_HI_READ (R117), by any reader. -/
def execTimeGcellCapHiRead (_who : Reader) (n : Fin 16) (s : State) : Host.Outcome State Fault Refusal := .next (s.capPop n)

/-- A write of v to TIME_GCELL_CFG n (R115, R116). -/
def State.gcellCfgWrite (s : State) (sup : Bool) (n : Fin 16) (v : Word) : State :=
  (s.plainWrite (R.TIME_GCELL_CFG n.val) sup v).gcellDir n (s.flag (F.TIME_GCELL_CFG_DIR n.val))

/-- TIME_GCELL_CFG_WRITE (R116). -/
def execTimeGcellCfgWrite (who : Reader) (n : Fin 16) (v : BitVec 32) (s : State) : Host.Outcome State Fault Refusal :=
  .next (s.gcellCfgWrite (s.supView who) n v)

/-! ## Domains: which is active (R131-R134) -/

/-- Domain d is valid. -/
def State.domValid (s : State) (d : Dom) : Bool := s.flag (F.TIME_DOM_CFG_VALID d.val)
/-- Domain d is valid and not degraded. -/
def State.domGood (s : State) (d : Dom) : Bool := s.domValid d && !s.flag (F.TIME_DOM_CFG_DEGRADED d.val)
/-- The active domain, while STATE is not FREE. -/
def State.activeDom (s : State) : Dom := if s.flag F.TIME_STATUS_ACTIVE_DOM then 1 else 0
/-- STATE is FREE. -/
def State.timeFree (s : State) : Bool := s.get F.TIME_STATUS_STATE == 0

/-- What is left of the offset of a domain, in 2^-32 ns: the offset measured less what the servo has closed since (R132). -/
def DomSt.left (x : DomSt) : Int := x.offset * 2 ^ 32 - x.slewed

/-- The servo closes the offset of the active domain by slewing (R107, R132); it stands still while the supervisor pair is
stopped (R651). -/
def State.slew (s : State) (d : Dom) : State :=
  let o := s.time.dom[d].left
  if s.time.supDown then s
  else (s.modTime fun t => { t with phase := o }).setFlag F.TIME_STATUS_SLEWING (decide (100 * 2 ^ 32 < o.natAbs))

/-- The servo acts on the offset of the active domain d: FREQ takes its estimate of the domain's rate, which the spec does not
state (a free value, log entry 11), and the offset is slewed unless a step waits (R96, R132, R133). Nothing is steered
while LOCKED is 0 (R95) or the supervisor pair is stopped (R651). -/
def State.steer (s : State) (d : Dom) : State :=
  if s.flag F.TIME_STATUS_LOCKED && !s.time.supDown then
    let (v, s) := s.freeVal 20 32
    let s := s.put F.TIME_ADDEND_FREQ (wrap 32 (clampI (-2147483) 2147483 (sgn 32 v)))
    if s.flag F.TIME_STATUS_STEP_PEND then s else s.slew d
  else s

/-- Domain d becomes the active one. -/
def State.follow (s : State) (d : Dom) : State :=
  (s.put F.TIME_STATUS_STATE (if s.get (F.TIME_DOM_CFG_SRC d.val) = 2 then 3 else 1 + d.val)).setFlag F.TIME_STATUS_ACTIVE_DOM (decide (d = 1))

/-- STATE leaves FREE for domain d (R133, R134). -/
def State.leaveFree (s : State) (d : Dom) : State :=
  let first := !s.time.leftFree
  let s := (s.follow d).setFlag F.TIME_STATUS_HOLDOVER false
  let s := s.modTime fun t => { t with everValid := true, leftFree := true }
  if first && s.flag F.TIME_CTRL_STEP_EN && decide (1000 < s.time.dom[d].offset.natAbs) then s.setFlag F.TIME_STATUS_STEP_PEND true
  else s.slew d

/-- No domain is valid any longer (R134). A phase correction still under way and a step that waits are dropped (log entry 33). -/
def State.enterFree (s : State) : State :=
  let s := (s.put F.TIME_STATUS_STATE 0).setFlag F.TIME_STATUS_SLEWING false
  let s := (s.setFlag F.TIME_STATUS_STEP_PEND false).modTime fun t => { t with phase := 0 }
  if s.time.everValid && !s.flag F.TIME_STATUS_HOLDOVER then (s.setFlag F.TIME_STATUS_HOLDOVER true).raise 115 0 else s

/-- The active domain changes to d (R132); a step that waits for the other is dropped (log entry 33). -/
def State.switchDom (s : State) (d : Dom) : State :=
  ((((s.follow d).setFlag F.TIME_STATUS_STEP_PEND false).setFlag F.TIME_STATUS_SWITCHED true).raise 113 d.val).slew d

/-- DOMAIN_SWITCH and HOLDOVER_ENTRY (R132, R134): which domain is active now. -/
def State.chooseDomain (s : State) : State :=
  if s.domValid 0 = false ∧ s.domValid 1 = false then (if s.timeFree then s else s.enterFree)
  else if s.timeFree then
    s.leaveFree (if s.domGood 0 then 0 else if s.domGood 1 then 1 else if s.domValid 0 then 0 else 1)
  else
    let other : Dom := 1 - s.activeDom
    if s.domGood s.activeDom = false ∧ s.domGood other = true then s.switchDom other else s

/-- VALID and DEGRADED of domain d have been decided again: since when it is good (R132), and which domain is active. -/
def State.domChanged (s : State) (d : Dom) : State :=
  let g := s.domGood d
  (s.modDom d fun x => { x with goodSince := if g then some (x.goodSince.getD s.now) else none }).chooseDomain

/-- Domain d becomes invalid (R131): LOST and event 114. -/
def State.loseDomain (s : State) (d : Dom) : State :=
  if s.domValid d then
    let s := (s.setFlag (F.TIME_DOM_CFG_VALID d.val) false).setFlag (F.TIME_DOM_CFG_LOST d.val) true
    (s.raise 114 d.val).domChanged d
  else s

/-- An interval of LOSS_INTERVALS times ns has passed since the instant. -/
def State.missing (s : State) (t : Option Nat) (ns : Nat) : Bool :=
  t.isSome && s.after t (s.get F.TIME_CTRL_LOSS_INTERVALS * ns)

/-- The interval of a logarithmic message interval in ns. -/
def logInterval (k : BitVec 8) : Nat :=
  if k.toInt < 0 then 1000000000 / 2 ^ k.toInt.natAbs else 1000000000 * 2 ^ k.toInt.natAbs

/-- The foreign master that domain d follows. -/
def DomSt.master (x : DomSt) : Option Foreign := x.foreign.find? fun f => decide (some f.a.source = x.parent)

/-- DOMAIN_LOSS (R131): Sync, Announce or the FarmLink SYNC (each 125 µs) has been missing for LOSS_INTERVALS intervals. -/
def execDomainLoss (d : Dom) (s : State) : Host.Outcome State Fault Refusal :=
  .next (
    let x := s.time.dom[d]
    let lost := s.missing x.lastSync (if s.get (F.TIME_DOM_CFG_SRC d.val) = 2 then 125000 else x.syncInterval) ||
      (s.get (F.TIME_DOM_CFG_SRC d.val) == 1 && (match x.master with
        | some f => s.missing (some f.at_) (logInterval f.a.logInterval)
        | none => false))
    if s.domValid d && lost then s.loseDomain d else s)

/-- DOMAIN_REVERT (R132): back to A once A has been valid and not degraded for 60 s. -/
def execDomainRevert (s : State) : Host.Outcome State Fault Refusal :=
  .next (
    if s.flag F.TIME_CTRL_REVERT && !s.timeFree && decide (s.activeDom = 1) && s.domGood 0 &&
        s.time.dom[(0 : Dom)].goodSince.isSome && s.after s.time.dom[(0 : Dom)].goodSince 60000000000 then s.switchDom 0
    else s)

/-- A write of v to TIME_DOM_CFG d (R137): a new source, port or domain number starts the domain anew, and one that was valid
becomes invalid at once. A master that is no longer capable leaves its role (R125). -/
def State.domCfgWrite (s : State) (sup : Bool) (d : Dom) (v : Word) : State :=
  let key (t : State) := (t.get (F.TIME_DOM_CFG_SRC d.val), t.get (F.TIME_DOM_CFG_PORT d.val), t.get (F.TIME_DOM_CFG_DOMAIN_NUM d.val))
  let t := s.plainWrite (R.TIME_DOM_CFG d.val) sup v
  if key t = key s then
    if s.time.dom[d].role = .master ∧ t.flag (F.TIME_DOM_CFG_MASTER_CAP d.val) = false then
      t.modDom d fun x => { x with role := .listening, since := s.now }
    else t
  else
    let t := (t.modDom d fun x => { since := s.now, offset := x.offset, slewed := x.slewed }).put (F.TIME_DOM_INFO_GM_CLASS d.val) 0xFF
    ((t.put (F.TIME_DOM_INFO_HOPS d.val) 0 |>.put (F.TIME_DOM_INFO_RMS_OFS d.val) 0).setFlag (F.TIME_DOM_CFG_DEGRADED d.val) false).loseDomain d

/-- TIME_DOM_CFG_WRITE (R137). -/
def execTimeDomCfgWrite (who : Reader) (d : Dom) (v : BitVec 32) (s : State) : Host.Outcome State Fault Refusal :=
  .next (s.domCfgWrite (s.supView who) d v)

/-! ## Steps (R133, R136) -/

/-- STEP is written: a step to the active domain waits for its conditions. Without an active domain it is ignored (log entry 33). -/
def State.stepRequest (s : State) : State :=
  if s.timeFree then s else ((s.setFlag F.TIME_STATUS_STEP_PEND true).setFlag F.TIME_STATUS_SLEWING false).modTime fun t => { t with phase := 0 }

/-- TIME_STEP_REQUEST (R136): in the supervisor view. -/
def execTimeStepRequest (who : Reader) (s : State) : Host.Outcome State Fault Refusal :=
  .next (if s.supView who then s.stepRequest else s)

/-- No output cell holds a queued edge (R133). -/
def State.cellsEmpty (s : State) : Bool := (List.finRange 96).all fun c => !s.cellOut c || s.cells[c].q.isEmpty

/-- Every pending WAITT completes with V (R133). -/
def State.endWaits (s : State) : State :=
  forEach (List.finRange 21) s fun s e => match s.eng[e].wait with
    | some (.until _ false false _) => s.modEng e fun x => x.complete fun x => { x with flags := x.flags.waited false true }
    | _ => s

/-- A step of TS64 by o ns does not disturb a display generator (R591). -/
def DispOut.shift (d : DispOut) (o : Int) : DispOut := { d with frameAt := d.frameAt + o * 2 ^ 24 }

/-- TS64_STEP (R133): TS64 becomes the time of the active domain, with EXT_VALID 0 until the next tick of the clock. -/
def execTs64Step (s : State) : Host.Outcome State Fault Refusal :=
  .next (
    if s.flag F.TIME_STATUS_STEP_PEND && !s.timeFree && s.idle && s.cellsEmpty then
      let d := s.activeDom
      let o := s.time.dom[d].left.fdiv (2 ^ 32)
      let t := wrap 64 ((s.now : Int) + o)
      let s := s.modTime fun x => { x with ts32 := BitVec.ofNat 32 t, ext := BitVec.ofNat 32 (t / 2 ^ 32), phase := 0, stepping := true }
      let s := { s with disp := s.disp.map fun (x : DispOut) => x.shift o }
      let s := (s.setFlag F.TIME_STATUS_PEND_WRAP false).setFlag F.TIME_STATUS_STEP_PEND false
      let s := forEach [(0 : Dom), 1] s fun s d => s.modDom d fun x => { x with offset := x.offset - o, last16 := [] }
      let s := (s.endWaits.setFlag F.TIME_STATUS_STEPPED true).setFlag F.TIME_STATUS_SLEWING false
      s.extCheck.raise 119 d.val
    else s)

end Sys2Proof.Machine
end

