-- ==== Sys2Proof/Machine/Fabric.lean ====
section
/-! DEFINITION. The FarmLink fabric: discovery, routes, the barn key, layers across the fabric, Winnow and health
(12_farmlink.md R457-R489). -/

namespace Sys2Proof.Machine

/-- s with the fabric changed by f. -/
def State.modFab (s : State) (f : FabricSt → FabricSt) : State := { s with fabric := f s.fabric }


/-! ## Sets and roles (R472) -/

/-- Bit n of a pair of mask registers. -/
def State.maskBit (s : State) (lo hi : Fld) (n : Node) : Bool := (s.get lo + 2 ^ 32 * s.get hi).testBit n.val
/-- Node n is eligible (R472). -/
def State.eligible (s : State) (n : Node) : Bool := s.maskBit F.FABRIC_ELIG_LO_ELIG F.FABRIC_ELIG_HI_ELIG n
/-- The nodes. -/
def allNodes : List Node := List.finRange 64
/-- The eligible set. -/
def State.eligSet (s : State) : List Node := allNodes.filter fun n => s.eligible n
/-- The quorum (R472). -/
def State.quorum (s : State) : Nat := s.eligSet.length / 2 + 1
/-- The role of a device that does not hold the key (R472). -/
def State.idleRole (s : State) : Nat :=
  if s.flag F.FABRIC_CFG_ENABLE then (if s.eligible s.ownNode then 3 else 2) else 0
/-- s with ROLE. -/
def State.setRole (s : State) (n : Nat) : State := s.put F.FABRIC_STAT_ROLE n
/-- The device holds the key. -/
def State.holder (s : State) : Bool := s.role == 1
/-- KEY_GEN. -/
def State.keyGen (s : State) : Nat := s.get F.FABRIC_KEY_GEN_GEN
/-- GUARD in ns. -/
def State.guardNs (s : State) : Nat := 100000 * s.get F.FABRIC_KEY_CFG_GUARD
/-- TTL_MS in ns. -/
def State.ttlNs (s : State) : Nat := 1000000 * s.get F.FABRIC_KEY_CFG_TTL_MS

/-- s with the expiry E that many ns ahead (R475). -/
def State.expireIn (s : State) (ns : Nat) : State := s.modFab fun f => { f with expiry := some (s.now + ns) }

/-! ## Health (R484) -/

/-- The penalty of lane n. -/
def State.lanePenalty (s : State) (n : Lane) : Nat :=
  let st := s.get (F.LN_STAT_STATE n.val)
  let low := s.flag (F.LN_STAT_MARGIN_LOW n.val)
  if s.get (F.LN_CFG_ROLE n.val) = 4 ∧ s.flag (F.LN_CFG_ENABLE n.val) = true then (if st ≠ 5 ∨ low = true then 32 else 0)
  else if low = true ∨ st = 6 then 4
  else 0

/-- Correctable memory errors in the last second. -/
def State.eccRecent (s : State) : Nat := (s.fabric.corrected.filter fun t => !s.past (t + 1000000000)).length

/-- SCORE (R484). -/
def State.score (s : State) : Nat :=
  let f := s.get F.FABRIC_WINNOW_STAT_FAIL
  let fault := match s.holds.lockstep with
    | some t => !s.elapsed t 60000000000
    | none => false
  255 - (16 * ((List.range 20).filter fun i => f.testBit i).length + (if f / 2 ^ 20 % 32 = 0 then 0 else 128) +
    (if f.testBit 25 then 64 else 0) + min 32 s.eccRecent + ((List.finRange 32).map fun n => s.lanePenalty n).foldl (· + ·) 0 +
    (if s.get F.SYS_BAND_BAND = 3 then 32 else 0) +
    (if s.get F.SYS_BAND_BAND = 4 ∨ s.flag F.TIME_STATUS_LOCKED = false ∨ fault = true then 255 else 0))

/-- The score is computed again: SCORE shows it, and the device's exclusion of itself ends after 10 s at or above KEY_MIN
(R475, R484). -/
def State.rescore (s : State) : State :=
  let v := s.score
  let good := if v < s.get F.FABRIC_KEY_CFG_KEY_MIN then none else some (s.fabric.goodSince.getD s.now)
  let out := s.fabric.selfOut && !(match good with
    | some t => s.elapsed t 10000000000
    | none => false)
  (s.put F.FABRIC_STAT_SCORE v).modFab fun f => { f with goodSince := good, selfOut := out }

/-! ## Discovery (R463, R464) -/

/-- HELLO on port k (R463, R471). -/
def State.sendHello (s : State) (k : FPort) : State :=
  let body := octets Config.uid.toNat 8 ++ octets s.ownNode.val 1 ++ octets k.val 1
  ((s.wakeDomain 40).portSend k 0x51 1 (s.flMsg 0x40 s.keyGen 32 body)).modFab fun f => { f with hello := f.hello.set k (some s.now) }

/-- HELLO_SEND (R463): on an UP port, every 10 ms. A device with a duplicate node still sends it (R458). -/
def execHelloSend (port : FPort) (s : State) : Host.Outcome State Fault Refusal :=
  .next (
    if s.flag F.FABRIC_CFG_ENABLE && s.portUp port && s.after s.fabric.hello[port] 10000000 then s.sendHello port else s)

/-- The adjacency of port k changes. -/
def State.setAdj (s : State) (k : FPort) (a : Option (Node × FPort)) : State :=
  if s.fabric.adj[k] = a then s else s.modFab fun f => { f with adj := f.adj.set k a, issueOwed := true }

/-- The node that an octet of a message names. -/
def nodeAt (x : List Octet) (o : Nat) : Node := Fin.ofNat 64 (octAt x o 1)
/-- KEY_GEN of a message (R471). -/
def genOf (x : List Octet) : BitVec 32 := BitVec.ofNat 32 (octAt x 4 4)

/-- HELLO_RECEIVE (R463, R471): a HELLO on an UP port forms its adjacency. -/
def execHelloReceive (port : FPort) (head body : List Octet) (s : State) : Host.Outcome State Fault Refusal :=
  let x := head ++ body
  .next (if s.fabOn && s.portUp port then s.setAdj port (some (nodeAt x 24, Fin.ofNat 8 (octAt x 25 1))) else s)

/-- The operating time in ms (R464, R552). -/
def State.opTime (s : State) : Nat := s.get F.GRANARY_OPTIME_LO_OP_LO + 2 ^ 32 * s.get F.GRANARY_OPTIME_HI_OP_HI

/-- The rate code of port k. -/
def State.portRate (s : State) (k : FPort) : Nat := match s.portLane k with
  | some n => s.laneRate n
  | none => 0

/-- The device's own LSA (R464, R471). -/
def State.ownLsa (s : State) : Lsa :=
  { origin := s.ownNode, uid := Config.uid, version := BitVec.ofNat 48 s.opTime
    adj := (List.finRange 8).filterMap fun k => s.fabric.adj[k].map fun (n, p) => ⟨n, k, p, BitVec.ofNat 8 (s.portRate k)⟩ }

/-- The message of an LSA (R471). -/
def State.lsaMsg (s : State) (m : Lsa) : List (BitVec 8) :=
  s.flMsg 0x41 s.keyGen 64 (octets m.uid.toNat 8 ++ octets m.version.toNat 6 ++ octets m.origin.val 1 ++ octets m.adj.length 1 ++
    m.adj.flatMap fun a => octets a.node.val 1 ++ octets a.port.val 1 ++ octets a.there.val 1 ++ [a.rate])

/-- The LSA that the octets of a message spell (R471). -/
def Lsa.read (x : List Octet) : Lsa :=
  { origin := nodeAt x 30, uid := BitVec.ofNat 64 (octAt x 16 8), version := BitVec.ofNat 48 (octAt x 24 6)
    adj := (List.range (min 8 (octAt x 31 1))).map fun k =>
      ⟨nodeAt x (32 + 4 * k), Fin.ofNat 8 (octAt x (33 + 4 * k) 1), Fin.ofNat 8 (octAt x (34 + 4 * k) 1), BitVec.ofNat 8 (octAt x (35 + 4 * k) 1)⟩ }

/-- An LSA goes out on every port that has an adjacency, but one (R464). -/
def State.flood (s : State) (m : Lsa) (but : Option FPort) : State :=
  forEach ((List.finRange 8).filter fun k => s.fabric.adj[k].isSome && decide (some k ≠ but)) s fun s k => s.portSend k 0x51 1 (s.lsaMsg m)

/-- An LSA is kept as the newest of its origin; the routes are to be computed again (R464, R465). -/
def State.keepLsa (s : State) (m : Lsa) : State :=
  s.modFab fun f => { f with lsas := f.lsas.filter (fun r => decide (r.m.origin ≠ m.origin)) ++ [⟨m, s.now⟩], routesOwed := true }

/-- LSA_ISSUE (R464): owed by a change, and at least 1 ms after the last; or 100 ms after it. -/
def execLsaIssue (s : State) : Host.Outcome State Fault Refusal :=
  .next (
    if s.fabOn && ((s.fabric.issueOwed && s.after s.fabric.issued 1000000) || s.after s.fabric.issued 100000000) then
      let m := s.ownLsa
      ((s.keepLsa m).flood m none).modFab fun f => { f with issued := some s.now, issueOwed := false }
    else s)

/-- The newest LSA kept of an origin. -/
def State.lsaOf (s : State) (n : Node) : Option LsaRec := s.fabric.lsas.find? fun r => decide (r.m.origin = n)

/-- LSA_RECEIVE (R458, R464): another device with the own node, or a newer LSA to keep and flood. -/
def execLsaReceive (port : FPort) (x : List Octet) (s : State) : Host.Outcome State Fault Refusal :=
  .next (
    let m := Lsa.read x
    if s.fabOn then
      if m.origin = s.ownNode ∧ m.uid ≠ Config.uid then
        if m.uid.toNat < Config.uid.toNat then (s.setFlag F.FABRIC_STAT_DUP_NODE true).raise 106 s.ownNode.val else s
      else
        let newer := match s.lsaOf m.origin with
          | some r => decide (r.m.version.toNat < m.version.toNat)
          | none => true
        if newer && decide (m.origin ≠ s.ownNode) then (s.keepLsa m).flood m (some port) else s
    else s)

/-- LSA_EXPIRY (R464): 350 ms after the receipt of an origin's newest LSA. -/
def execLsaExpiry (node : Node) (s : State) : Host.Outcome State Fault Refusal :=
  .next (match s.lsaOf node with
    | some r =>
      if s.past (r.at_ + 350000000) then
        s.modFab fun f => { f with lsas := f.lsas.filter (fun r => decide (r.m.origin ≠ node)), routesOwed := true }
      else s
    | none => s)

/-! ## Routes (R465, R466) -/

/-- A link that both its ends list: from node and port to node and port. -/
structure FlLink where
  a : Node
  pa : FPort
  b : Node
  pb : FPort
  deriving DecidableEq, Repr

/-- The links of a set of LSAs (R465). -/
def linksOf (l : List Lsa) : List FlLink :=
  l.flatMap fun m => (m.adj.filter fun x => l.any fun o => decide (o.origin = x.node) && o.adj.any fun y =>
    decide (y.node = m.origin ∧ y.port = x.there ∧ y.there = x.port)).map fun x => ⟨m.origin, x.port, x.node, x.there⟩

/-- The nodes from which dst lies within k links. -/
def within (ls : List FlLink) (dst : Node) : Nat → List Node
  | 0 => [dst]
  | k + 1 => let w := within ls dst k; allNodes.filter fun n => w.contains n || ls.any fun l => decide (l.a = n) && w.contains l.b

/-- The path from a node over k links to dst that the rule of R465 prefers: at each link the lower next node, then the
lower port. -/
def walkPath (ls : List FlLink) (dst : Node) : Nat → Node → List FlLink
  | 0, _ => []
  | k + 1, n =>
    let w := within ls dst k
    let c := ls.filter fun l => decide (l.a = n) && w.contains l.b
    match c.foldl (fun best l => match best with
      | none => some l
      | some m => if l.b < m.b ∨ (l.b = m.b ∧ l.pa < m.pa) then some l else some m) none with
    | some l => l :: walkPath ls dst k l.b
    | none => []

/-- The path with the fewest links, of at most 8 (R465); empty where there is none. -/
def bestPath (ls : List FlLink) (src dst : Node) : List FlLink :=
  match (List.range 9).find? fun k => (within ls dst k).contains src with
  | some k => walkPath ls dst k src
  | none => []

/-- The links of a path are taken out of a graph, in both directions. -/
def without (ls path : List FlLink) : List FlLink :=
  ls.filter fun l => !path.contains l && !path.contains ⟨l.b, l.pb, l.a, l.pa⟩

/-- The paths to every other node (R465). -/
def State.computePaths (s : State) : List FlPath :=
  let ls := linksOf (s.fabric.lsas.map (·.m))
  ((allNodes.filter fun n => decide (n ≠ s.ownNode)).map fun n =>
    let p := bestPath ls s.ownNode n
    ⟨n, p.map (·.pa), if p.isEmpty then [] else (bestPath (without ls p) s.ownNode n).map (·.pa)⟩).filter fun p => !p.first.isEmpty

/-- FABRIC_ROUTE of node n shows its paths (R489). -/
def State.showRoute (s : State) (n : Node) : State :=
  let p := s.pathTo n
  let v := fun (l : List FPort) => l.length + 16 * ((l.head?.map (·.val)).getD 0) + 128 * b2n (!l.isEmpty)
  s.setReg (R.FABRIC_ROUTE n.val) (BitVec.ofNat 32 (v p.first + 256 * v p.second))

/-- GEOM to a peer (R290, R291). -/
def State.sendGeom (s : State) (p : Peer) : State :=
  s.sendPeer p 0x28 0 0 0 [s.reg R.BEDMAP_ORIGIN_X, s.reg R.BEDMAP_ORIGIN_Y, BitVec.ofNat 32 (s.get F.BEDMAP_PITCH_PITCH)]

/-- The arbiter's peers follow the routes (R290, R292): a peer becomes UP with a route, and the time without one counts. -/
def State.peersFollow (s : State) : State :=
  forEach ((List.finRange 8).filter fun p => s.flag (F.ARB_PEER_CFG_PEER_EN p.val)) s fun s p =>
    let up := s.reachable (Fin.ofNat 64 (s.get (F.ARB_PEER_CFG_NODE p.val)))
    let none_ := s.arb.peerNoRoute[p]
    let s := { s with arb := { s.arb with peerNoRoute := s.arb.peerNoRoute.set p (if up then none else some (none_.getD s.now)) } }
    if up && s.get (F.ARB_PEER_CFG_STATE p.val) != 1 then (s.put (F.ARB_PEER_CFG_STATE p.val) 1).sendGeom p else s

/-- The nodes whose primary paths exist, as a mask (R466). -/
def State.reachMask (s : State) : Nat := (s.fabric.paths.map fun p => 2 ^ p.node.val).foldl (· + ·) 0

/-- New paths take effect (R466, R485, R489). -/
def State.setPaths (s : State) (l : List FlPath) : State :=
  let was := s.fabric.paths
  let s := s.modFab fun f => { f with paths := l, routesOwed := false }
  let s := forEach allNodes s fun s n => s.showRoute n
  let s := ((s.put F.FABRIC_REACH_LO_REACH s.reachMask).put F.FABRIC_REACH_HI_REACH (s.reachMask / 2 ^ 32)).put
    F.FABRIC_STAT_REACH_COUNT l.length
  let lost := was.filter fun p => !(l.any fun q => decide (q.node = p.node))
  let s := if lost.isEmpty && was.length == l.length then s else s.raise 104 l.length
  let s := forEach (lost.filter fun p => s.eligible p.node ||
    s.maskBit F.FABRIC_LAYER_LO_LAYER F.FABRIC_LAYER_HI_LAYER p.node) s fun s p => s.raise 105 p.node.val
  s.peersFollow

/-- ROUTE_COMPUTE (R465, R466): after a change in the set of LSAs. -/
def execRouteCompute (s : State) : Host.Outcome State Fault Refusal :=
  .next (if s.fabOn && s.fabric.routesOwed then s.setPaths s.computePaths else s)

/-- The lane of a FarmLink port has come UP (R463). -/
def State.portCameUp (s : State) (k : FPort) : State := if s.flag F.FABRIC_CFG_ENABLE then s.sendHello k else s
/-- The lane of a FarmLink port has left UP (R463). -/
def State.portWentDown (s : State) (k : FPort) : State := s.setAdj k none

/-! ## Routed frames (R460-R462, R468) -/

/-- The message has come before, on the other path (R468). -/
def State.seenBefore (s : State) (src type tSend : Nat) : Bool :=
  s.fabric.seen.any fun (a, b, c, t) => decide (a = src ∧ b = type ∧ c = tSend) && !s.past (t + 100000000)

/-- The host at the end of a relay head (R515); its MAC address is not kept, and no rule gives it. -/
def relayFrom (node : Node) (head : List (BitVec 8)) (mac : Nat) : VmpFrom :=
  ⟨Fin.ofNat 4 (octAt head 0 1), node, BitVec.ofNat 8 (octAt head 0 1), BitVec.ofNat 32 (octAt head 4 4),
    BitVec.ofNat 16 (octAt head 2 2), BitVec.ofNat 48 mac⟩

/-- A relayed response that has come back to the origin goes to its host (R516). -/
def State.relayBack (s : State) (node : Node) (msg : List (BitVec 8)) : State :=
  match vmpParse (msg.drop 8) with
  | some m =>
    if m.flags.getLsbD 0 && decide (octAt msg 0 1 < 3) then
      let (mac, s) := s.freeVal 32 48
      s.vmpOut (relayFrom node msg mac) m
    else s
  | none => s

/-- A message that has reached its node: to its endpoint, once (R461, R462, R468). -/
def State.deliver (s : State) (n : Lane) (vc : Fin 4) (h : Nat) (msg : List (BitVec 8)) : State :=
  let src := h / 1024 % 1024
  let dup := h.testBit 53
  if h % 1024 / 16 ≠ s.ownNode.val then s.count F.FABRIC_DROP_MISROUTE
  else if 3 ≤ h % 16 then s.count F.FABRIC_DROP_BADEP
  else if dup && s.seenBefore src (octAt msg 0 1) (octAt msg 8 8) then s
  else
    let s := if dup then s.modFab fun f => { f with
      seen := f.seen.filter (fun x => !s.past (x.2.2.2 + 100000000)) ++ [(src, octAt msg 0 1, octAt msg 8 8, s.now)] } else s
    let s := s.send (.passed n ⟨0x52, 0, true, vc, msg⟩)
    if h % 16 = 2 then s.relayBack (Fin.ofNat 64 (src / 16)) msg else s

/-- ROUTED_FRAME (R461): delivered, or sent on along its path. -/
def execRoutedFrame (port : FPort) (vc : Fin 4) (hdr : BitVec 64) (msg : List (BitVec 8)) (s : State) :
    Host.Outcome State Fault Refusal :=
  .next (match s.portLane port with
    | none => s
    | some n =>
      if s.fabOn then s.ask 40 (.routed port vc hdr msg) fun s =>
        let h := hdr.toNat
        let hop := h / 2 ^ 44 % 16 + 1
        let nhops := h / 2 ^ 48 % 16
        if hop = nhops then s.deliver n vc h msg
        else if nhops < hop then s.count F.FABRIC_DROP_MISROUTE
        else
          let k : FPort := Fin.ofNat 8 (h / 2 ^ (20 + 3 * hop) % 8)
          if s.portUp k then s.portSend k 0x52 vc (octets (h + 2 ^ 44) 8 ++ msg) else s.count F.FABRIC_DROP_NOROUTE
      else s)

/-! ## The barn key (R473-R477) -/

/-- Generation g is a or later (R5, R473). -/
def atOrLater (g a : Nat) : Bool := g == a || later 32 g a

/-- R473: the device accepts a message of generation g, equal to or later than the accepted one and any it has voted in. -/
def State.accepts (s : State) (g : BitVec 32) : Bool :=
  s.fabOn && (!s.flag F.FABRIC_STAT_KNOWN || (atOrLater g.toNat s.keyGen && s.fabric.voted.all fun v => atOrLater g.toNat v.toNat))

/-- R476: as accepts for a RENEW; a device in election takes none of its expired generation. -/
def State.acceptsRenew (s : State) (g : BitVec 32) : Bool :=
  s.accepts g && (s.fabric.election.isNone || !s.flag F.FABRIC_STAT_KNOWN || later 32 g.toNat s.keyGen)

/-- The highest generation accepted or voted in. -/
def State.highest (s : State) : Nat := match s.fabric.voted with
  | some v => if later 32 v.toNat s.keyGen then v.toNat else s.keyGen
  | none => s.keyGen

/-- A message not accepted is discarded, counted and answered (R473). -/
def State.stale (s : State) (n : Node) : State :=
  if s.fabOn then (s.count F.FABRIC_DROP_STALE).flManage n 0x46 s.highest 16 [] else s

/-- The device leaves the holder role: KEY_OK falls, and E is GUARD ahead (R474, R475). In a layer it reports as a participant from
then on (R482). -/
def State.leaveHolder (s : State) : State :=
  let s := if s.flag F.AX_OUT_KEY_OK then s.axKeyLost else s
  let s := { s with layer := { s.layer with give := none, follows := !s.idle, stateOwed := !s.idle } }
  ((s.setRole s.idleRole).expireIn s.guardNs).modFab fun f => { f with waiting := [], nextGen := none, effective := none, adopt := false }

/-- The device accepts generation g from a sender (R473). -/
def State.acceptGen (s : State) (n : Node) (g : BitVec 32) : State :=
  let s := if s.holder && decide (n ≠ s.ownNode) then (s.leaveHolder).raise 108 s.keyGen else s
  (((s.put F.FABRIC_KEY_GEN_GEN g.toNat).setFlag F.FABRIC_STAT_KNOWN true).setFlag F.FABRIC_STAT_HOLDER_VALID true).put
    F.FABRIC_STAT_HOLDER n.val

/-- The body of RENEW (R471). -/
def State.renewBody (s : State) : List (BitVec 8) :=
  octets s.lyState 1 ++ List.replicate 7 0 ++ octets s.tB 8 ++ (List.finRange 8).flatMap fun a =>
    octets (s.get (F.AX_POS_POS a.val)) 4 ++ octets (s.get (F.AX_STAT_RES a.val)) 1 ++
    octets (b2n (s.flag (F.AX_STAT_HOMED a.val)) + 2 * b2n (s.flag (F.AX_STAT_POS_VALID a.val)) + 4 * b2n (s.axMoves a) +
      8 * b2n (s.flag (F.AX_CFG_ENABLE a.val))) 1 ++ [0, 0]

/-- A message of the holder goes to every node. -/
def State.toAll (s : State) (type len : Nat) (body : List (BitVec 8)) : State :=
  forEach (allNodes.filter fun n => decide (n ≠ s.ownNode)) s fun s n => s.flManage n type s.keyGen len body

/-- R410: the axes take the state of the last RENEW accepted. -/
def State.adoptAxes (s : State) : State :=
  match s.fabric.renew with
  | some r => forEach (List.finRange 8) s fun s a =>
      let x := r.axes[a]
      s.axAdopt a x.pos.toInt x.res.toNat (x.flags.getLsbD 0) (x.flags.getLsbD 1) (x.flags.getLsbD 2)
  | none => s

/-- The RENEW sent at t is effective (R474): KEY_OK rises with the first of its generation. -/
def State.makeEffective (s : State) (t : Nat) : State :=
  let s := s.modFab fun f => { f with
    effective := some (match f.effective with
      | some e => max e t
      | none => t)
    waiting := f.waiting.filter fun w => decide (t < w.1) }
  if s.flag F.AX_OUT_KEY_OK then s
  else
    let s := s.axKeyBack
    if s.fabric.adopt then s.adoptAxes.modFab fun f => { f with adopt := false } else s

/-- The RENEW sent at t has a quorum (R474). -/
def State.checkQuorum (s : State) (t : Nat) : State :=
  match s.fabric.waiting.find? fun w => decide (w.1 = t) with
  | some w => if s.quorum ≤ w.2.length then s.makeEffective t else s
  | none => s

/-- The holder sends RENEW (R473, R474). -/
def State.sendRenew (s : State) : State :=
  let s := match s.fabric.nextGen with
    | some g => (s.put F.FABRIC_KEY_GEN_GEN g.toNat).modFab fun f => { f with nextGen := none }
    | none => s
  let own := if s.eligible s.ownNode then [s.ownNode] else []
  let s := s.toAll 0x42 96 s.renewBody
  (s.modFab fun f => { f with sent := some s.now, waiting := f.waiting ++ [(s.now, own)] }).checkQuorum s.now

/-- The holder releases the key (R475). -/
def State.releaseKey (s : State) : State :=
  let g := s.keyGen
  let s := s.leaveHolder
  ((s.toAll 0x44 16 []).modFab fun f => { f with selfOut := true, goodSince := none }).raise 108 g

/-- KEY_RENEW_SEND (R474, R475): every RENEW_MS the holder computes its score and sends RENEW, or releases the key. -/
def execKeyRenewSend (s : State) : Host.Outcome State Fault Refusal :=
  .next (
    if s.fabOn && s.holder && s.after s.fabric.sent (1000000 * s.get F.FABRIC_KEY_CFG_RENEW_MS) then
      let s := s.rescore
      if s.get F.FABRIC_STAT_SCORE < s.get F.FABRIC_KEY_CFG_KEY_MIN then s.releaseKey else s.sendRenew
    else s)

/-- The RENEW that the octets of a message from a node spell (R471). -/
def Renew.read (node : Node) (x : List Octet) : Renew :=
  { node := node, gen := genOf x, tSend := BitVec.ofNat 64 (octAt x 8 8), layer := BitVec.ofNat 8 (octAt x 16 1), tB := BitVec.ofNat 64 (octAt x 24 8)
    axes := Vector.ofFn fun (a : Fin 8) =>
      ⟨BitVec.ofNat 32 (octAt x (32 + 8 * a.val) 4), BitVec.ofNat 8 (octAt x (36 + 8 * a.val) 1), BitVec.ofNat 8 (octAt x (37 + 8 * a.val) 1)⟩ }

/-- KEY_RENEW_RECEIVE (R473-R477). -/
def execKeyRenewReceive (m : Told) (s : State) : Host.Outcome State Fault Refusal :=
  .next (
    let m := Renew.read m.node m.octets
    if m.node = s.ownNode then s
    else if s.acceptsRenew m.gen then
      let same := s.flag F.FABRIC_STAT_HOLDER_VALID && decide (s.get F.FABRIC_STAT_HOLDER = m.node.val)
      let s := s.acceptGen m.node m.gen
      let s := if same then s else s.raise 109 m.node.val
      let s := (s.setFlag F.FABRIC_STAT_ELECTING false).expireIn (s.ttlNs + s.guardNs)
      let s := s.modFab fun f => { f with renew := some m, election := none }
      s.flManage m.node 0x43 s.keyGen 24 (octets m.tSend.toNat 8)
    else s.stale m.node)

/-- KEY_RENEW_ACK_RECEIVE (R474): an acknowledgement counts once for its eligible node. -/
def execKeyRenewAckReceive (node : Node) (x : List Octet) (s : State) : Host.Outcome State Fault Refusal :=
  .next (
    let tSend := octAt x 16 8
    if s.fabOn && s.holder && s.eligible node then
      let s := s.modFab fun f => { f with
        waiting := f.waiting.map fun w => if w.1 = tSend ∧ w.2.contains node = false then (w.1, w.2 ++ [node]) else w }
      s.checkQuorum tSend
    else s)

/-- KEY_EXPIRY (R474, R475): T_SEND of the last effective RENEW + TTL_MS is reached. -/
def execKeyExpiry (s : State) : Host.Outcome State Fault Refusal :=
  .next (match s.fabric.effective with
    | some t =>
      if s.holder && s.flag F.AX_OUT_KEY_OK && s.reached (t + s.ttlNs) then s.leaveHolder.raise 108 s.keyGen else s
    | none => s)

/-- KEY_RELEASE (R475): the holder's score is too low, or its supervisor pair has a lockstep fault. -/
def execKeyRelease (s : State) : Host.Outcome State Fault Refusal :=
  .next (
    if s.fabOn && s.holder then
      let t := s.rescore
      if t.get F.FABRIC_STAT_SCORE < t.get F.FABRIC_KEY_CFG_KEY_MIN ∨ s.holds.supDead = true then t.releaseKey else s
    else s)

/-- KEY_RELEASE_RECEIVE (R475). -/
def execKeyReleaseReceive (node : Node) (x : List Octet) (s : State) : Host.Outcome State Fault Refusal :=
  .next (
    if s.fabOn && s.flag F.FABRIC_STAT_KNOWN && decide ((genOf x).toNat = s.keyGen) && !s.holder then
      (s.expireIn s.guardNs).modFab fun f => { f with
        released := f.released.filter (· ≠ node) ++ [node]
        health := f.health.map fun h => if h.node = node then { h with good := none } else h }
    else s)

/-- Node n has released the key and excludes itself still: the scores it has sent since then have not stayed at KEY_MIN or above for
10 s (R475; log entry 31). -/
def State.excludes (s : State) (n : Node) : Bool := s.fabric.released.contains n &&
  !(s.fabric.health.any fun h => decide (h.node = n) && h.good.any fun t => s.elapsed t 10000000000)

/-- The candidates of R476: eligible, reachable or the device itself, with a recent score of KEY_MIN or more, and not
excluded. -/
def State.candidates (s : State) (out : List Node) : List (Nat × Node) :=
  let low := s.get F.FABRIC_KEY_CFG_KEY_MIN
  (s.eligSet.filter fun n => !out.contains n && !s.excludes n).filterMap fun n =>
    if n = s.ownNode then (if low ≤ s.score ∧ s.fabric.selfOut = false then some (s.score, n) else none)
    else match s.fabric.health.find? fun h => decide (h.node = n) with
      | some h => if s.reachable n && decide (low ≤ h.score) && !s.elapsed h.at_ 3000000000 then some (h.score, n) else none
      | none => none

/-- The candidate with the highest score, and of equal ones the lowest node. -/
def bestCand (l : List (Nat × Node)) : Option Node :=
  (l.foldl (fun best x => match best with
    | none => some x
    | some y => if y.1 < x.1 ∨ (x.1 = y.1 ∧ x.2 < y.2) then some x else some y) none).map (·.2)

/-- The FarmLink domains of a device that is the time root are not valid (R131). -/
def State.rootDomains (s : State) : State :=
  forEach [(0 : Dom), 1] s fun s d => if s.get (F.TIME_DOM_CFG_SRC d.val) = 2 then s.loseDomain d else s

/-- The device takes the key with generation g (R131, R410, R477) and leads a layer from its own state on (R482). -/
def State.takeKey (s : State) (g : BitVec 32) : State :=
  let s := ((s.setRole 1).acceptGen s.ownNode g).setFlag F.FABRIC_STAT_ELECTING false
  let s := s.modFab fun f => { f with election := none, votes := [], waiting := [], effective := none, nextGen := none, adopt := true }
  let s := { s with layer := { s.layer with
    follows := false, since := s.now, reports := [], removed := []
    give := if s.lyState = lyRECOAT then some .go else if s.lyState = lyABORTING then some .abort else none } }
  (s.raise 107 g.toNat).rootDomains.sendRenew

/-- Votes of one generation from a quorum of the eligible set (R477). -/
def State.countVotes (s : State) (g : BitVec 32) : State :=
  let n := (s.eligSet.filter fun n => s.fabric.votes.contains (g, n)).length
  if s.quorum ≤ n ∧ s.holder = false ∧ (s.flag F.FABRIC_STAT_KNOWN = false ∨ later 32 g.toNat s.keyGen = true) then s.takeKey g else s

/-- A vote of a node for this device (R477). -/
def State.addVote (s : State) (n : Node) (g : BitVec 32) : State :=
  (s.modFab fun f => { f with votes := if f.votes.contains (g, n) then f.votes else f.votes ++ [(g, n)] }).countVotes g

/-- A round of an election (R476): the vote, or the next round 100 ms later. -/
def State.voteRound (s : State) (e : Election) : State :=
  match bestCand (s.candidates e.out) with
  | some c =>
    let s := s.modFab fun f => { f with voted := some e.gen, election := some { e with vote := some (c, s.now), next := none } }
    if c = s.ownNode then s.addVote c e.gen else s.flManage c 0x45 e.gen.toNat 24 (octets c.val 1)
  | none => s.modFab fun f => { f with election := some { e with vote := none, out := [], next := some (s.now + 100000000) } }

/-- ELECTION_START (R476): an eligible device reaches its expiry. -/
def execElectionStart (s : State) : Host.Outcome State Fault Refusal :=
  .next (
    let due := match s.fabric.expiry with
      | some t => s.reached t
      | none => false
    if s.fabOn && s.eligible s.ownNode && !s.holder && s.fabric.election.isNone && due then
      let out := if s.flag F.FABRIC_STAT_HOLDER_VALID then [Fin.ofNat 64 (s.get F.FABRIC_STAT_HOLDER)] else []
      (s.setFlag F.FABRIC_STAT_ELECTING true).voteRound ⟨BitVec.ofNat 32 (s.keyGen + 1), none, out, none⟩
    else s)

/-- ELECTION_ROUND_TIMEOUT (R476): 10 ms after the vote, or at the instant of the next round. -/
def execElectionRoundTimeout (s : State) : Host.Outcome State Fault Refusal :=
  .next (match s.fabric.election with
    | some e =>
      match e.vote with
      | some (c, t) =>
        if s.past (t + 10000000) then s.voteRound ⟨e.gen + 1, none, e.out ++ [c], none⟩ else s
      | none => match e.next with
        | some t => if s.reached t then s.voteRound { e with next := none } else s
        | none => s
    | none => s)

/-- VOTE_RECEIVE (R477). -/
def execVoteReceive (node : Node) (head body : List Octet) (s : State) : Host.Outcome State Fault Refusal :=
  let x := head ++ body
  .next (if s.fabOn && decide (nodeAt x 16 = s.ownNode) && s.eligible node && s.eligible s.ownNode then s.addVote node (genOf x) else s)

/-- STALE_RECEIVE (R473): a later generation is known elsewhere. -/
def execStaleReceive (_node : Node) (x : List Octet) (s : State) : Host.Outcome State Fault Refusal :=
  .next (
    let gen := genOf x
    if s.fabOn && s.holder && later 32 gen.toNat s.keyGen then
      if s.flag F.AX_OUT_KEY_OK then s.modFab fun f => { f with nextGen := some (gen + 1) } else s.leaveHolder
    else s)

/-- KEY_LOST (R381, R409): KEY_OK falls on a device of a fabric that does not hold the key. -/
def execKeyLost (s : State) : Host.Outcome State Fault Refusal :=
  .next (if s.flag F.AX_OUT_KEY_OK && s.role != 0 && !s.holder then s.axKeyLost else s)

/-- HEALTH_SEND (R484): every 1 s. -/
def execHealthSend (s : State) : Host.Outcome State Fault Refusal :=
  .next (
    if s.fabOn && s.after s.fabric.healthSent 1000000000 then
      let s := s.rescore
      let bits := b2n (s.eligible s.ownNode) + 2 * b2n (s.role == 3 && decide (s.stage < 2)) + 4 * b2n s.holder
      let body := octets (s.get F.FABRIC_STAT_SCORE) 1 ++ octets (s.get F.SYS_BAND_BAND) 1 ++ octets bits 1 ++ [0] ++
        octets (s.get F.FABRIC_WINNOW_STAT_FAIL) 4 ++ octets s.eccRecent 4
      let s := forEach (s.eligSet.filter fun n => decide (n ≠ s.ownNode)) s fun s n => s.flManage n 0x47 s.keyGen 32 body
      s.modFab fun f => { f with healthSent := some s.now, corrected := f.corrected.filter fun t => !s.past (t + 1000000000) }
    else s)

/-- HEALTH_RECEIVE (R471, R476). -/
def execHealthReceive (node : Node) (head body : List Octet) (s : State) : Host.Outcome State Fault Refusal :=
  let x := head ++ body
  .next (
    let score := octAt x 16 1
    let good := if score < s.get F.FABRIC_KEY_CFG_KEY_MIN then none
      else some (((s.fabric.health.find? fun h => decide (h.node = node)).bind (·.good)).getD s.now)
    if s.fabOn then s.modFab fun f => { f with
      health := f.health.filter (fun h => decide (h.node ≠ node)) ++ [⟨node, score, s.now, good⟩] }
    else s)

/-! ## Layers across the fabric (R478-R482) -/

/-- The last message to participant n lies that many ns back. -/
def State.tellDue (s : State) (n : Node) (ns : Nat) : Bool :=
  s.after ((s.fabric.told.find? fun x => decide (x.1 = n)).map (·.2)) ns

/-- The holder sends a message with T_B to participant n. -/
def State.tell (s : State) (n : Node) (type : Nat) : State :=
  (s.flManage n type s.keyGen 24 (octets s.tB 8)).modFab fun f => { f with told := f.told.filter (fun x => decide (x.1 ≠ n)) ++ [(n, s.now)] }

/-- The layer state that participant n last reported for T_B. -/
def State.reported (s : State) (n : Node) : Option Nat := match s.reportOf n with
  | some r => if r.tB = s.tB then some r.state else none
  | none => none

/-- LAYER_SCHED_SEND (R478): every 100 µs to a participant that has not reported T_B. -/
def execLayerSchedSend (node : Node) (s : State) : Host.Outcome State Fault Refusal :=
  .next (
    if s.fabOn && s.holder && decide (1 ≤ s.lyState ∧ s.lyState ≤ 4) && s.layerParts.contains node && (s.reported node).isNone &&
        s.tellDue node 100000 then s.tell node 0x48
    else s)

/-- LAYER_SCHED_RECEIVE (R473, R478): a participant in IDLE acts as a local SCHEDULE, and reports the result. -/
def execLayerSchedReceive (node : Node) (head body : List Octet) (s : State) : Host.Outcome State Fault Refusal :=
  let x := head ++ body
  .next (
    let gen := genOf x
    let tB := BitVec.ofNat 64 (octAt x 16 8)
    if s.accepts gen then
      let s := s.acceptGen node gen
      if s.idle then
        let s := (s.put F.HOST_LAYER_BEGIN_LO_T_B_LO tB.toNat).put F.HOST_LAYER_BEGIN_HI_T_B_HI (tB.toNat / 2 ^ 32)
        let s := { s with layer := { s.layer with follows := true, stateOwed := true } }
        let q := s.scheduleNow
        { q.2 with layer := { q.2.layer with schedResult := q.1 } }
      else s
    else s.stale node)

/-- LAYER_STATE_SEND (R478): every 1 ms, and at once at a change, until the participant is IDLE again. -/
def execLayerStateSend (s : State) : Host.Outcome State Fault Refusal :=
  .next (
    if s.fabOn && s.layer.follows && s.flag F.FABRIC_STAT_HOLDER_VALID && (s.layer.stateOwed || s.after s.layer.stateSent 1000000) then
      let body := octets s.tB 8 ++ octets s.lyState 1 ++ octets s.layer.schedResult 1
      let s := s.flManage (Fin.ofNat 64 (s.get F.FABRIC_STAT_HOLDER)) 0x49 s.keyGen 32 body
      { s with layer := { s.layer with stateOwed := false, stateSent := some s.now, follows := !s.idle } }
    else s)

/-- LAYER_STATE_RECEIVE (R479-R482): the report is recorded; a failure or an abort ends the layer, and the barrier may
complete. A removed participant is told to abort. -/
def execLayerStateReceive (node : Node) (head : List Octet) (tB : BitVec 64) (rest : List Octet) (s : State) :
    Host.Outcome State Fault Refusal :=
  let x := head ++ octets tB.toNat 8 ++ rest
  .next (
    let tB := BitVec.ofNat 64 (octAt x 16 8)
    let code := BitVec.ofNat 8 (octAt x 24 1)
    let result := BitVec.ofNat 8 (octAt x 25 1)
    if s.fabOn && s.holder then
      if s.layer.removed.contains node then (if tB.toNat = s.tB then s.tell node 0x4C else s)
      else
        let rep : LayerReport := ⟨tB.toNat, code.toNat, result.toNat, s.now⟩
        let s := { s with layer := { s.layer with reports := s.layer.reports.filter (fun (r : Node × LayerReport) => decide (r.1 ≠ node)) ++ [(node, rep)] } }
        if tB.toNat = s.tB ∧ s.layerParts.contains node = true ∧ (result ≠ 0 ∨ code.toNat = lyABORTING) ∧ s.canAbort = true then s.doAbort
        else s.barrierDone
    else s)

/-- LAYER_REPORT_DEADLINE (R479): a participant has not reported T_B by T_B − 1 ms. -/
def execLayerReportDeadline (s : State) : Host.Outcome State Fault Refusal :=
  .next (
    if s.fabOn && s.holder && s.canAbort && s.reached ((s.tB : Int) - 1000000) && s.layerParts.any (fun n => (s.reported n).isNone) then
      s.doAbort
    else s)

/-- LAYER_GO_SEND (R479, R480): LAYER_GO, LAYER_IDLE or LAYER_ABORT, every 1 ms to a participant until it reports. -/
def execLayerGoSend (node : Node) (s : State) : Host.Outcome State Fault Refusal :=
  .next (
    if s.fabOn && s.holder && s.layerParts.contains node && s.tellDue node 1000000 then
      match s.layer.give with
      | some .go => if s.reported node = some lyRECOAT ∨ s.reported node = some lyIDLE then s else s.tell node 0x4A
      | some .idle => if s.reported node = some lyIDLE then s else s.tell node 0x4B
      | some .abort => if s.reported node = some lyIDLE then s else s.tell node 0x4C
      | none => s
    else s)

/-- LAYER_GO_RECEIVE (R473, R479). -/
def execLayerGoReceive (node : Node) (head body : List Octet) (s : State) : Host.Outcome State Fault Refusal :=
  let x := head ++ body
  .next (
    let gen := genOf x
    let tB := BitVec.ofNat 64 (octAt x 16 8)
    if s.accepts gen then
      let s := s.acceptGen node gen
      if s.layer.follows && decide (s.lyState = lyLOCALEND ∧ tB.toNat = s.tB) then s.enterRecoat else s
    else s.stale node)

/-- LAYER_IDLE_RECEIVE (R473, R479). -/
def execLayerIdleReceive (node : Node) (head body : List Octet) (s : State) : Host.Outcome State Fault Refusal :=
  let x := head ++ body
  .next (
    let gen := genOf x
    let tB := BitVec.ofNat 64 (octAt x 16 8)
    if s.accepts gen then
      let s := s.acceptGen node gen
      if s.layer.follows && decide (s.lyState = lyRECOAT ∧ tB.toNat = s.tB) then s.enterLy lyIDLE else s
    else s.stale node)

/-- LAYER_ABORT_RECEIVE (R473, R480). -/
def execLayerAbortReceive (node : Node) (head body : List Octet) (s : State) : Host.Outcome State Fault Refusal :=
  let x := head ++ body
  .next (
    let gen := genOf x
    let tB := BitVec.ofNat 64 (octAt x 16 8)
    if s.accepts gen then
      let s := s.acceptGen node gen
      if tB.toNat = s.tB ∧ s.canAbort = true then s.doAbort else s
    else s.stale node)

/-- PARTICIPANT_REMOVAL (R481): no LAYER_STATE from a participant for 10 ms during the layer that the device leads. -/
def execParticipantRemoval (node : Node) (s : State) : Host.Outcome State Fault Refusal :=
  .next (
    let last := match s.reportOf node with
      | some r => max r.at_ s.layer.since
      | none => s.layer.since
    if s.fabOn && s.holder && s.layerParts.contains node && decide (1 ≤ s.lyState ∧ s.lyState ≤ 5) && s.past (last + 10000000) then
      ({ s with layer := { s.layer with removed := s.layer.removed ++ [node] } }.raise 110 node.val).barrierDone
    else s)

/-! ## Winnow (R483) -/

/-- The engines Winnow tests now: in ENG_MASK, halted, RUN = 0. -/
def State.winnowEngs (s : State) : List Eng :=
  (List.finRange 21).filter fun e => decide (e.val < 20) && (s.get F.FABRIC_WINNOW_ENG_MASK).testBit e.val &&
    s.flag (F.SYS_ENG_CTRL_HALTED e.val) && !s.flag (F.SYS_ENG_CTRL_RUN e.val)

/-- Some word of Silo bank group g has an uncorrectable error (R36, R45). -/
def State.siloBad (s : State) (g : Nat) : Bool := s.silo.bad.any fun w => decide ((domainOfSilo (8 * w)).val = 26 + g)

/-- Every single-bit error of a memory is corrected (R38). -/
def MemR.scrub (m : MemR) : MemR := { m with one := [] }

/-- A FAIL bit after an item's test at this instant (R483). -/
def State.winnowItem (s : State) (i : Nat) (bad : Bool) : State :=
  let f := s.get F.FABRIC_WINNOW_STAT_FAIL
  let last := (s.fabric.failAt.find? fun x => decide (x.1 = i)).map (·.2)
  if bad then
    let s := s.modFab fun x => { x with failAt := x.failAt.filter (fun y => decide (y.1 ≠ i)) ++ [(i, s.now)] }
    if f.testBit i then s else (s.put F.FABRIC_WINNOW_STAT_FAIL (f + 2 ^ i)).raise 111 (f + 2 ^ i)
  else if f.testBit i && (decide (i < 20) || s.after last 60000000000) then s.put F.FABRIC_WINNOW_STAT_FAIL (f - 2 ^ i)
  else s

/-- Winnow's test of engine e: it is left in the state of R144, and its local memory is scrub-read (R483). -/
def State.winnowEng (s : State) (e : Eng) (bad : Bool) : State :=
  let k := s.eng[e].mem.one.length
  let s := s.modEng e fun x => { x.fresh with mem := x.mem.scrub }
  (s.noteFixes k).winnowItem e.val (bad || !s.eng[e].mem.bad.isEmpty)

/-- Winnow's scrub read of all Silo banks; `bad` gives the items that failed otherwise (R483). -/
def State.winnowSilo (s : State) (bad : Nat → Bool) : State :=
  let k := s.silo.one.length
  let s := State.noteFixes { s with silo := s.silo.scrub } k
  forEach (List.range 4) s fun s g => s.winnowItem (20 + g) (bad (20 + g) || s.siloBad g)

/-- Winnow's scrub read of the bed-map store (R39, R483). -/
def State.winnowBed (s : State) (bad : Bool) : State :=
  (s.bedFix fun _ => true).winnowItem 24 (bad || !s.bed.bad.isEmpty)

/-- Winnow's check of the Granary (R483). -/
def State.winnowGranary (s : State) (bad : Bool) : State := s.winnowItem 25 (bad || s.get F.GRANARY_STAT_STATE == 3)

/-- WINNOW_CYCLE (R483): one cycle of a standby device below throttle stage T2, every 1 s. `fail` gives the items whose
tests failed; an uncorrectable error met by a scrub read fails its item as well. -/
def execWinnowCycle (fail : BitVec 28) (s : State) : Host.Outcome State Fault Refusal :=
  .next (
    if s.fabOn && s.role == 3 && decide (s.stage < 2) && s.after s.fabric.winnow 1000000000 then
      let s := s.modFab fun f => { f with winnow := some s.now }
      let s := forEach s.winnowEngs s fun s e => s.winnowEng e (fail.getLsbD e.val)
      let s := if s.flag F.FABRIC_WINNOW_SILO then s.winnowSilo fun i => fail.getLsbD i else s
      let s := if s.flag F.FABRIC_WINNOW_BEDMAP then s.winnowBed (fail.getLsbD 24) else s
      if s.flag F.FABRIC_WINNOW_GRANARY then s.winnowGranary (fail.getLsbD 25) else s
    else s)

/-! ## Joining and leaving (R458, R475, R486) -/

/-- No path is known, and none shows (R466, R489). -/
def State.clearPaths (s : State) : State :=
  let s := s.modFab fun f => { f with paths := [], routesOwed := false }
  let s := forEach allNodes s fun s n => s.showRoute n
  (((s.put F.FABRIC_REACH_LO_REACH 0).put F.FABRIC_REACH_HI_REACH 0).put F.FABRIC_STAT_REACH_COUNT 0).peersFollow

/-- The device joins the fabric (R475). -/
def State.joinFabric (s : State) : State :=
  let s := if s.flag F.AX_OUT_KEY_OK then s.axKeyLost else s
  let s := s.clearPaths
  let old := s.fabric
  let s := { s with fabric := { corrected := old.corrected, failAt := old.failAt, winnow := old.winnow } }
  let s := forEach [F.FABRIC_STAT_KNOWN, F.FABRIC_STAT_HOLDER_VALID, F.FABRIC_STAT_ELECTING, F.FABRIC_STAT_DUP_NODE] s fun s f => s.setFlag f false
  (s.setRole s.idleRole).expireIn (s.ttlNs + s.guardNs)

/-- The device leaves the fabric, whose key it has released; in the solo role KEY_OK is 1 (R381, R458). -/
def State.leaveFabric (s : State) : State :=
  let s := s.clearPaths.setRole 0
  let s := s.setFlag F.FABRIC_STAT_ELECTING false
  if s.flag F.AX_OUT_KEY_OK then s else s.axKeyBack

/-- A write of v to FABRIC_CFG (R458, R475, R486). -/
def State.fabricCfgWrite (s : State) (sup : Bool) (v : Word) : State :=
  let on := s.flag F.FABRIC_CFG_ENABLE
  let new := s.written R.FABRIC_CFG sup Access.isRw v
  let on' := bitsOf new 8 8 == 1
  let ok := (on == on' || s.idle) && (!on || bitsOf new 5 0 == s.get F.FABRIC_CFG_NODE)
  if ok && on && !on' && sup then
    let s := if s.fabOn && s.holder then s.releaseKey else s
    (s.condWrite R.FABRIC_CFG sup v true F.FABRIC_CFG_CFG_ERR).1.leaveFabric
  else
    let t := (s.condWrite R.FABRIC_CFG sup v ok F.FABRIC_CFG_CFG_ERR).1
    if ok && sup && on' && (!on || s.flag F.FABRIC_STAT_DUP_NODE) then t.joinFabric else t

/-- FABRIC_ENABLE_WRITE (R475, R486): a write to FABRIC_CFG. -/
def execFabricEnableWrite (who : Reader) (v : BitVec 32) (s : State) : Host.Outcome State Fault Refusal :=
  .next (s.ask 40 (.fabricEnable who v) fun s => s.fabricCfgWrite (s.supView who) v)

end Sys2Proof.Machine
end

