-- ==== Sys2Proof/Machine/Granary.lean ====
section
/-! DEFINITION. The Granary: staging, writing, loss, power failure, the steps of power-up, the copy (14_granary.md). -/

namespace Sys2Proof.Machine

/-- s with the Granary changed by f. -/
def State.modGran (s : State) (f : GranSt → GranSt) : State := { s with gran := f s.gran }

/-! ## The array (R539-R541) -/

/-- A byte of the array: 0xFF where nothing is written (R540). -/
def GranSt.byte (g : GranSt) (a : Nat) : Octet := tabGet (fun _ => 0xFF) g.array a
/-- The array with octets written from an address on. -/
def GranSt.put (g : GranSt) (a : Nat) : List Octet → GranSt
  | [] => g
  | v :: t => { g with array := tabSet (fun _ => 0xFF) g.array a v }.put (a + 1) t
/-- n bytes of the array from an address on. -/
def GranSt.read (g : GranSt) (a : Nat) : Nat → List Octet
  | 0 => []
  | n + 1 => g.byte a :: g.read (a + 1) n

/-- The slot behind slot n in the order of R541. -/
def slotAfter (sealed_ : Bool) (n : Nat) : Nat :=
  if 65535 ≤ n then 8192 else if n < 8191 ∧ sealed_ = false then 8192 else n + 1
/-- The first slot from n on that is not in the bad-slot map. -/
def usableSlot (sealed_ : Bool) (bad : List Nat) : Nat → Nat → Nat
  | 0, n => n
  | k + 1, n => if bad.contains n then usableSlot sealed_ bad k (slotAfter sealed_ n) else n
/-- The next usable slot behind n (R541). -/
def GranSt.next (g : GranSt) (n : Nat) : Nat := usableSlot g.isSealed g.bad 65 (slotAfter g.isSealed n)

/-- A slot whose content a failed read-back leaves open: free values. -/
def State.spoilSlot (s : State) (slot : Nat) : State :=
  forEach (List.range 8) s fun s i =>
    let (v, s) := s.freeVal 31 64
    s.modGran fun g => g.put (64 * slot + 8 * i) (octets v 8)

/-- The sequence number behind n; 0xFFFFFFFF, none, is followed by 0 (R540, R561). -/
def seqAfter (n : Nat) : Nat := if 0xFFFFFFFE ≤ n then 0 else n + 1
/-- The sequence number of the next record (R545). -/
def State.nextSeq (s : State) : Nat := seqAfter (s.get F.GRANARY_LAST_SEQ_LAST_SEQ)

/-- The 64 bytes of a record (R542). -/
def GRec.octets (r : GRec) (seq : Nat) : List Octet :=
  let body := Machine.octets seq 4 ++ Machine.octets r.pcc.toNat 4 ++ Machine.octets r.op.toNat 6 ++
    [r.src, BitVec.ofNat 8 (r.cls % 32 + 32 * (r.sev % 8))] ++ Machine.octets r.time.toNat 8 ++ (r.data ++ List.replicate 32 0).take 32
  body ++ Machine.octets (crc32 body).toNat 4 ++ Machine.octets seq 4

/-! ## Records and staging (R542-R545, R548) -/

/-- s with the operating time at n. -/
def State.setOpTime (s : State) (n : Nat) : State :=
  (s.put F.GRANARY_OPTIME_LO_OP_LO n).put F.GRANARY_OPTIME_HI_OP_HI (n / 2 ^ 32)
/-- A nanosecond of operating time. -/
def State.opTick (s : State) : State :=
  if s.gran.opNs + 1 < 1000000 then s.modGran fun g => { g with opNs := g.opNs + 1 }
  else (s.setOpTime (s.opTime + 1)).modGran fun g => { g with opNs := 0 }

/-- A record made now (R542). -/
def State.record (s : State) (src cls sev time : Nat) (data : List Octet) : GRec :=
  let valid := s.flag F.TIME_STATUS_EXT_VALID && !s.timeFree
  ⟨BitVec.ofNat 32 (s.get F.GRANARY_PCC_PCC), BitVec.ofNat 48 s.opTime, BitVec.ofNat 8 src, cls, sev,
    BitVec.ofNat 64 (time % 2 ^ 63 + b2n valid * 2 ^ 63), data⟩

/-- The group of a source, as R527 orders the groups (R543). -/
def groupOf (src : Nat) : Nat :=
  ([16, 32, 48, 64, 72, 104, 112, 120, 128, 148, 152, 160, 168, 200, 232].filter fun n => decide (n ≤ src)).length

/-- Occupancy below 1,008 is measured from the instant it began (R548). -/
def GranSt.occupied (g : GranSt) (now : Nat) : GranSt :=
  { g with lowSince := if g.fifo.length < 1008 then (match g.lowSince with
    | some t => some t
    | none => some now) else none }
/-- A record enters the FIFO. -/
def State.stageRecord (s : State) (r : GRec) : State := (s.wakeDomain 42).modGran fun g => { g with fifo := g.fifo ++ [r] }.occupied s.now

/-- A record is lost to its class (R548): its TIME, source and severity. -/
def State.loseRecord (s : State) (r : GRec) : State :=
  let cls := r.cls
  let first := s.gran.loss.toList.all fun c => c.n == 0
  let s := s.count F.GRANARY_LOST_LOST
  let f (c : LossCtr) : LossCtr :=
    if c.n = 0 then ⟨1, r.time, r.time, r.src, r.sev⟩ else { c with n := c.n + 1, last := r.time, sev := max c.sev r.sev }
  let s := s.modGran fun g => { g with loss := vmod g.loss (Fin.ofNat 16 cls) f }
  if first then s.raise 120 cls else s

/-- DATA of an EVENT record (R544), with its two extra words. -/
def State.eventData (s : State) (src : Nat) (data w1 w2 : Nat) : List Octet :=
  octets data 4 ++ octets (if s.layerRuns then s.layerTime else 0xFFFFFFFF) 4 ++ octets s.keyGen 4 ++ octets s.lyState 1 ++
    octets (s.get F.SYS_BAND_BAND) 1 ++ octets (s.get F.FABRIC_CFG_NODE) 1 ++ [0] ++ octets w1 4 ++ octets w2 4 ++
    octets (s.reg (R.EVT_LAST_COUNT src)).toNat 4 ++ [0, 0, 0, 0]

/-- An EVENT record is routed to the Granary (R545, R547, R548, R550). -/
def State.granaryEvent (s : State) (src sev time : Nat) (data : List Octet) : State :=
  if s.gran.closed then (s.count F.GRANARY_LOST_LOST).modGran fun g => { g with dumpLost := g.dumpLost + 1 }
  else
    let r := s.record src (groupOf src) sev time data
    if 1008 ≤ s.gran.fifo.length ∨ s.get F.GRANARY_STAT_STATE = 3 then s.loseRecord r else s.stageRecord r

/-- The LOSS record of a class (R544). -/
def lossData (cls : Nat) (c : LossCtr) : List Octet :=
  octets c.n 4 ++ octets cls 1 ++ octets c.sev 1 ++ [0, 0] ++ octets c.first.toNat 8 ++ octets c.last.toNat 8 ++ List.replicate 8 0

/-- LOSS_RECORD_STAGE (R548): occupancy below 1,008 for 1 ms. -/
def execLossRecordStage (s : State) : Host.Outcome State Fault Refusal :=
  .next (
    let low := match s.gran.lowSince with
      | some t => s.past (t + 1000000)
      | none => false
    if low && !s.gran.closed then
      forEach (List.finRange 16) s fun s i =>
        let c := s.gran.loss[i]
        if c.n = 0 ∨ 1024 ≤ s.gran.fifo.length then s
        else (s.stageRecord (s.record c.src.toNat 16 5 s.now (lossData i.val c))).modGran fun g => { g with loss := g.loss.set i {} }
    else s)

/-! ## Writing (R545-R547) -/

/-- The device may begin a record write: 250 µs after the last began, not while power fails, a seal or a replay runs, the array is
in FAULT, the steps of R551 are owed, the Granary's supply is below its limit, or the supervisor pair is stopped (R546, R547, R550,
R551, R553, R575, R651). -/
def State.mayWrite (s : State) : Bool :=
  s.gran.writing.isNone && s.after s.gran.lastStart 250000 && s.gran.pfail.isNone && !s.gran.upOwed &&
    s.get F.GRANARY_STAT_STATE == 0 && !s.flag (F.HK_SUP_LOW 14) && !s.time.supDown

/-- The write of record r into slot NEXT_SLOT begins: SEQ_A first (R542). -/
def State.beginWrite (s : State) (r : GRec) : State :=
  let slot := s.get F.GRANARY_NEXT_NEXT_SLOT
  let seq := s.nextSeq
  s.modGran fun g => { g.put (64 * slot) (octets seq 4) with
    writing := some ⟨slot, BitVec.ofNat 32 seq, r⟩, lastStart := some s.now, again := none }

/-- GRANARY_WRITE_START (R545, R546): a record that failed its read-back first, else the oldest of the FIFO. -/
def execGranaryWriteStart (s : State) : Host.Outcome State Fault Refusal :=
  .next (
    if s.mayWrite then
      match s.gran.again, s.gran.fifo with
      | some x, _ => s.beginWrite x.2
      | none, r :: rest => (s.modGran fun g => { g with fifo := rest }.occupied s.now).beginWrite r
      | none, [] => s
    else s)

/-- A record stands in a slot: the registers follow (R561). -/
def State.wrote (s : State) (slot seq : Nat) : State :=
  (s.put F.GRANARY_LAST_SEQ_LAST_SEQ seq).put F.GRANARY_NEXT_NEXT_SLOT (s.gran.next slot)

/-- The write in progress ends (R546, R547): the read-back agrees, or the slot is bad and the record is written again. -/
def State.writeDone (s : State) (ok : Bool) : State :=
  match s.gran.writing with
    | none => s
    | some w =>
      let s := s.modGran fun g => { g with writing := none }
      if ok then (s.modGran fun g => g.put (64 * w.slot) (w.r.octets w.seq.toNat)).wrote w.slot w.seq.toNat
      else
        let s := ((s.spoilSlot w.slot).setFlag F.GRANARY_STAT_VERIFY_ERR true).modGran fun g => { g with again := some (w.seq, w.r) }
        let s := if 64 ≤ s.gran.bad.length then s.put F.GRANARY_STAT_STATE 3
          else
            let s := s.modGran fun g => { g with bad := g.bad ++ [w.slot] }
            s.put F.GRANARY_NEXT_NEXT_SLOT (s.gran.next w.slot)
        s.raise 122 (3 + 65536 * w.slot)

/-- GRANARY_WRITE_DONE (R546, R547). -/
def execGranaryWriteDone (ok : Bool) (s : State) : Host.Outcome State Fault Refusal := .next (s.writeDone ok)

/-! ## Power failure and reset (R550) -/

/-- A POWER_FAIL record with its cause is staged, in a reserved entry if need be. -/
def State.failRecord (s : State) (cause : Nat) : State :=
  if s.gran.fifo.length < 1024 then s.stageRecord (s.record 0 17 6 s.now (octets cause 4 ++ List.replicate 28 0)) else s

/-- The Granary acts on PFAILn low (R550); low again before the dump has completed, PFAILn no longer counts as risen (R551). -/
def State.pfailFall (s : State) : State :=
  if s.gran.pfail.isSome then s.modGran fun g => { g with rose := false }
  else (s.modGran fun g => { g with pfail := some s.now, closed := false, dumpLost := 0, rose := false }).failRecord 0

/-- The level of PFAILn is low or not. -/
def State.setPfail (s : State) (low : Bool) : State := { s with pins := { s.pins with pfail := low } }

/-- POWER_FAIL (R550, R667): PFAILn falls; in reset only its level is known, and it counts as a fall at the end of the reset. -/
def execPowerFail (s : State) : Host.Outcome State Fault Refusal :=
  .next (
    let s := s.setPfail true
    if s.boot.cause = 0 then s.pfailFall else s)

/-- DUMP_STAGING_CLOSE (R550): 50 µs after the fall. -/
def execDumpStagingClose (s : State) : Host.Outcome State Fault Refusal :=
  .next (match s.gran.pfail with
    | some t => if s.past (t + 50000) then s.modGran fun g => { g with closed := true } else s
    | none => s)

/-- The FIFO, behind a record that failed its read-back, is written to the dump area of 1,024 records with its trailer, and DUMP_VALID is
set (R539, R550, R552). -/
def State.dumpNow (s : State) : State :=
  let kept := match s.gran.again with
    | some x => [x.2]
    | none => []
  let old := match s.gran.dump with
    | some d => d.1
    | none => []
  s.modGran fun g => { g with dump := some ((old ++ kept ++ g.fifo).take 1024, g.dumpLost), checkpoint := BitVec.ofNat 48 s.opTime, fifo := [], again := none }

/-- A record written into the array at once, as the firmware writes it in R551. -/
def State.granaryPut (s : State) (r : GRec) : State :=
  let slot := s.get F.GRANARY_NEXT_NEXT_SLOT
  let seq := s.nextSeq
  (s.modGran fun g => g.put (64 * slot) (r.octets seq)).wrote slot seq

/-- Steps 5 and 6 of R551: the dump is replayed, and a POWER_UP record is written. -/
def State.replay (s : State) : State :=
  if s.get F.GRANARY_STAT_STATE = 3 then s
  else
    let n := match s.gran.dump with
      | some d => d.1.length
      | none => 0
    let lost := match s.gran.dump with
      | some d => d.2
      | none => 0
    let s := match s.gran.dump with
      | some d => (((forEach d.1 s fun s r => s.granaryPut r).modGran fun g => { g with dump := none }).setFlag
          F.GRANARY_STAT_DUMPED true).raise 121 n
      | none => s
    s.granaryPut (s.record 0 18 4 s.now
      (octets n 4 ++ octets lost 4 ++ octets (s.reg R.SYS_STRAPS).toNat 4 ++ List.replicate 20 0))

/-- PFAILn is high again and the dump has completed: the replay, and normal staging (R551). -/
def State.failOver (s : State) : State :=
  s.replay.modGran fun g => { g with pfail := none, closed := false, dumpLost := 0, rose := false }

/-- DUMP_COMPLETE (R550): once staging is closed and no write is in progress. -/
def execDumpComplete (s : State) : Host.Outcome State Fault Refusal :=
  .next (if s.gran.closed && s.gran.writing.isNone then
      let s := s.dumpNow
      if s.gran.rose then s.failOver else s
    else s)

/-- PFAIL_RISE (R551): PFAILn rises before power is lost. -/
def execPfailRise (s : State) : Host.Outcome State Fault Refusal :=
  .next (
    let s := s.setPfail false
    if s.gran.pfail.isNone then s
    else
      let s := s.modGran fun g => { g with rose := true }
      if s.gran.closed && s.gran.dump.isSome then s.failOver else s)

/-! ## The seal (R553-R556) -/

/-- The seal or rebin begins: its journal, STATE, and the bad-slot map without what it clears. -/
def State.sealBegin (s : State) (rebin : Bool) : State :=
  (s.modGran fun g => { g with journal := some rebin, bad := if rebin then g.bad.filter fun n => decide (n < 8192) else [] }).put
    F.GRANARY_STAT_STATE 1

/-- The seal or rebin that the journal holds completes: slots cleared, the slots that failed their read-back in the bad-slot map,
the SEAL record. The second result is RESULT (R554). -/
def State.sealEnd (s : State) (failed : List Nat) (resumed : Bool) : State × Nat :=
  match s.gran.journal with
  | none => (s, 0)
  | some rebin =>
    let low := if rebin then 8192 else 0
    let s := s.modGran fun g => { g with array := g.array.filter fun x => decide (x.1 < 64 * low) }
    let failed := failed.filter fun n => decide (low ≤ n)
    let s := forEach failed s fun s n => s.spoilSlot n
    let all := s.gran.bad ++ failed
    let full := decide (64 < all.length)
    let s := s.modGran fun g => { g with bad := all.take 64, journal := none, isSealed := true }
    let data := octets Config.uid.toNat 8 ++ octets 0x53461616 4 ++ octets s.gran.bad.length 1 ++ octets (b2n resumed) 1 ++
      octets (b2n rebin) 1 ++ List.replicate 17 0
    let s := if rebin then
        let n := s.get F.GRANARY_NEXT_NEXT_SLOT
        s.put F.GRANARY_NEXT_NEXT_SLOT (usableSlot true s.gran.bad 65 (if n < 8192 then n else 8192))
      else (s.put F.GRANARY_NEXT_NEXT_SLOT 0).put F.GRANARY_LAST_SEQ_LAST_SEQ 0xFFFFFFFF
    let s := s.granaryPut (s.record 0 19 7 s.now data)
    let s := (s.put F.GRANARY_STAT_STATE (if full then 3 else 0)).raise 122 (if resumed then 1 else 2)
    (s, if full then 2 else 0)

/-- The steps of R551 and R555: the supervisor firmware brings the Granary up. -/
def State.granaryUp (s : State) (met : List Nat) : State :=
  let s := if s.gran.journal.isSome then (s.sealEnd met true).1 else s
  let s := s.setOpTime (s.gran.checkpoint.toNat + 1000)
  let s := s.count F.GRANARY_PCC_PCC
  s.replay.modGran fun g => { g with upOwed := false }

/-- GRANARY_POWER_UP (R551, R555): `met` are the slots that fail their read-back while an interrupted seal is completed. -/
def execGranaryPowerUp (met : List (BitVec 16)) (s : State) : Host.Outcome State Fault Refusal :=
  .next (if s.gran.upOwed then s.granaryUp (met.map (·.toNat)) else s)

/-! ## Operating time and the copy (R552, R561, R563) -/

/-- OPTIME_CHECKPOINT (R552): every second. -/
def execOptimeCheckpoint (s : State) : Host.Outcome State Fault Refusal :=
  .next (if s.after s.gran.lastCheck 1000000000 then
      s.modGran fun g => { g with checkpoint := BitVec.ofNat 48 s.opTime, lastCheck := some s.now } else s)

/-- A read of OPTIME_LO latches OPTIME_HI for the reader. -/
def State.latchOp (s : State) (i : Fin 30) : State :=
  s.modGran fun g => { g with optHi := g.optHi.set i (BitVec.ofNat 16 (s.get F.GRANARY_OPTIME_HI_OP_HI)) }

/-- GRANARY_OPTIME_LO_READ (R561). -/
def execGranaryOptimeLoRead (who : Reader) (s : State) : Host.Outcome State Fault Refusal :=
  .next (s.ask 42 (.optimeLo who) fun s => s.latchOp (readerIdx who))

/-- The slots of a copy. -/
def State.copyCount (s : State) : Nat := let n := s.get F.GRANARY_COPY_SRC_COUNT; if n = 0 then 65536 else n

/-- START (R563). -/
def State.copyStart (s : State) : State :=
  let n := s.copyCount
  let base := 64 * s.get F.GRANARY_COPY_DST_BASE
  let st := s.get F.GRANARY_STAT_STATE
  if s.flag F.GRANARY_COPY_CTRL_BUSY ∨ st = 1 ∨ st = 2 ∨ siloSize < base + 64 * n then s.setFlag F.GRANARY_COPY_CTRL_ERR true
  else (s.setFlag F.GRANARY_COPY_CTRL_BUSY true).modGran fun g => { g with copy := some ⟨s.get F.GRANARY_COPY_SRC_SLOT, n, base⟩ }

/-- GRANARY_COPY_START (R563): a write of START, which both views have. -/
def execGranaryCopyStart (who : Reader) (s : State) : Host.Outcome State Fault Refusal :=
  .next (s.ask 42 (.copyStart who) fun s => s.copyStart)

/-- GRANARY_COPY_DONE (R563): the slots stand in the Silo. -/
def execGranaryCopyDone (s : State) : Host.Outcome State Fault Refusal :=
  .next (match s.gran.copy with
    | none => s
    | some c =>
      let s := forEach (List.range c.count) s fun s i =>
        s.siloPut (c.base + 64 * i) (s.gran.read (64 * ((c.slot + i) % 65536)) 64)
      ((s.setFlag F.GRANARY_COPY_CTRL_BUSY false).setFlag F.GRANARY_COPY_CTRL_DONE true).modGran fun g => { g with copy := none })

end Sys2Proof.Machine
end

