-- ==== Sys2Proof/Machine/Lanes.lean ====
section
/-! DEFINITION. Serial lanes: configuration, training, retraining, the eye scan, the link layer, Ethernet lanes
(11_serial_lanes.md R416-R456). -/

namespace Sys2Proof.Machine

/-! ## Roles and states -/

abbrev lnOFF : Nat := 0
abbrev lnSEEK : Nat := 1
abbrev lnALIGN : Nat := 2
abbrev lnTRAIN : Nat := 3
abbrev lnCHECK : Nat := 4
abbrev lnUP : Nat := 5
abbrev lnRETIRED : Nat := 6

/-- ROLE of lane n (R456): 0 OFF, 1 HeadLink, 2 bed camera, 3 Ethernet, 4 FarmLink. -/
def State.lnRole (s : State) (n : Lane) : Nat := s.get (F.LN_CFG_ROLE n.val)
/-- ARG of lane n. -/
def State.lnArg (s : State) (n : Lane) : Nat := s.get (F.LN_CFG_ARG n.val)
/-- STATE of lane n. -/
def State.lnState (s : State) (n : Lane) : Nat := s.get (F.LN_STAT_STATE n.val)
/-- Lane n is an Ethernet lane. -/
def State.isEth (s : State) (n : Lane) : Bool := s.lnRole n == 3
/-- The head of a HeadLink lane. -/
def State.lnHead (s : State) (n : Lane) : Sys2Proof.Beam := Fin.ofNat 16 (s.lnArg n)
/-- The port of a FarmLink lane. -/
def State.lnPort (s : State) (n : Lane) : FPort := Fin.ofNat 8 (s.lnArg n)
/-- The PLL that lane n runs from has locked. -/
def State.lnLocked (s : State) (n : Lane) : Bool :=
  if s.flag (F.LN_CFG_PLL n.val) then s.flag (F.LANES_QUAD_CFG_LOCK_B (n.val / 4)) else s.flag (F.LANES_QUAD_CFG_LOCK_A (n.val / 4))
/-- The domain of a lane's quad (R45). -/
def lnDomain (n : Lane) : Fin 44 := ⟨32 + n.val / 4, by omega⟩

/-- Event 72 + n (R452). -/
def State.lnEvent (s : State) (n : Lane) (kind arg : Nat) : State := s.raise (72 + n.val) (kind + 256 * arg)

/-! ## Entering and leaving states (R426, R430, R431, R434) -/

/-- Lane n leaves UP for a state (R258, R372, R434, R439, R452, R463). -/
def State.leftUp (s : State) (n : Lane) (to_ : Nat) : State :=
  let s := s.lnEvent n 2 0
  let s := if s.eye.lane = some n then
    { (s.setFlag F.LANES_EYE_CMD_BUSY false).setFlag F.LANES_EYE_CMD_ERR true with eye := {} } else s
  match s.lnRole n with
  | 1 =>
    let b := s.lnHead n
    let s := (s.put (F.BEAM_HEAD_CFG_HEAD_LAT b.val) 0).headEvent b 2 to_ 0
    let s := s.modTraj b fun j => { j with lastFrame := none }
    (if to_ = lnRETIRED then s.retire b 3 else s.suspendBeam b).camLaneDown n
  | 2 => s.camLaneDown n
  | 4 => s.portWentDown (s.lnPort n)
  | _ => s

/-- Lane n enters a state other than UP; in TRAIN the receiver starts from the CTLE of the present band's preset (R436). -/
def State.enterLane (s : State) (n : Lane) (st : Nat) : State :=
  let was := s.lnState n
  let s := (s.put (F.LN_STAT_STATE n.val) st).modLane n fun l => { l with
    since := s.now, tsRun := 0, ts2Tx := 0, ts2Rx := 0
    ctle := if st = lnTRAIN then s.get (F.LANES_EQ_CTLE (min 3 (s.get F.SYS_BAND_BAND))) else l.ctle }
  if was = lnUP then s.leftUp n st else s

/-- Something is sent on lane n now, or once what is in progress has ended (R448). -/
def State.transmit (s : State) (n : Lane) (groups : Nat) (x : Out) : State := s.transmitAt n (1000 * s.now) groups x

/-- Lane n enters SEEK: a fresh nonce, and a link layer that starts anew (R426, R428; log entries 11 and 20). -/
def State.enterSeek (s : State) (n : Lane) : State :=
  let (v, s) := (s.enterLane n lnSEEK).freeVal n.val 32
  s.modLane n fun l => { l with
    nonce := BitVec.ofNat 32 v, seekSent := none, partner := none, fresh := true
    nextSeq := 0, outst := [], resend := [], expect := 0, lastNak := none, nakOwed := false, ackOwed := false, txq := [], replayRun := 0, lowRun := 0 }

/-- What the device sends in its TS (R428, R442): its role, its credits and the nonce of the lane. -/
def State.ownTs (s : State) (n : Lane) (two : Bool) : TsMsg :=
  let far := s.lnRole n == 4
  ⟨two, if far then 3 else 0x81, 0, 0, if far then #v[0, 16, 64, 0] else #v[0, 96, 0, 0], s.lanes[n].nonce, 1⟩

/-- The device sends a TS on lane n, an IDLE behind it (R424, R428). -/
def State.sendTs (s : State) (n : Lane) (two : Bool) : State := (s.send (.ts n (TsMsg.octets (s.ownTs n two)))).send (.idle n)

/-- Lane n enters ALIGN: continuous TS1 (R426, R427). -/
def State.enterAlign (s : State) (n : Lane) : State := ((s.enterLane n lnALIGN).wakeDomain (lnDomain n)).sendTs n false

/-- The set-point period a head asks for (R257, R428): SP_DIV_EFF is the greater of the settings. -/
def spDivEff (own caps : Nat) : Nat := max own (caps / 2 % 4)

/-- Lane n comes UP (R430, R431, R434, R446). -/
def State.enterUp (s : State) (n : Lane) : State :=
  let s := ((s.put (F.LN_STAT_STATE n.val) lnUP).setFlag (F.LN_STAT_ABSENT n.val) false).setFlag (F.LN_STAT_REFUSED n.val) false
  let s := s.modLane n fun l =>
    let l := { l with since := s.now, progress := s.now, errs := [], replayRun := 0, lowRun := 0 }
    match l.partner with
    | some m => if l.fresh then
        { l with fresh := false, granted := m.credit, consumed := Vector.replicate 4 0, freed := Vector.replicate 4 0 } else l
    | none => l
  let s := match s.lanes[n].partner with
    | some m => if s.isEth n then s
        else ((s.put (F.LN_PARTNER_P_ROLE n.val) m.role.toNat).put (F.LN_PARTNER_P_CAPS n.val) m.caps.toNat).put
          (F.LN_PARTNER_P_HEAD_LAT n.val) m.headLat.toNat
    | none => s
  let s := (s.touch (lnDomain n)).lnEvent n 1 0
  match s.lnRole n with
  | 1 =>
    let b := s.lnHead n
    let caps := s.get (F.LN_PARTNER_P_CAPS n.val)
    let lat := s.get (F.LN_PARTNER_P_HEAD_LAT n.val)
    let s := (s.put (F.BEAM_HEAD_CFG_HEAD_LAT b.val) lat).put (F.BEAM_HEAD_CFG_SP_DIV_EFF b.val)
      (spDivEff (s.get (F.BEAM_HEAD_CFG_SP_DIV b.val)) caps)
    ((s.headEvent b 1 caps lat).resumeBeam b).camLaneUp n
  | 2 => s.camLaneUp n
  | 4 => s.portCameUp (s.lnPort n)
  | _ => s

/-- Lane n goes OFF (R426). -/
def State.enterOff (s : State) (n : Lane) : State := (s.enterLane n lnOFF).modLane n fun l => { l with txq := [], pcs := false }

/-- A lane in service whose PLL has locked leaves OFF (R418, R426, R451). -/
def State.leaveOff (s : State) (n : Lane) : State :=
  if s.flag (F.LN_CFG_ENABLE n.val) && s.lnLocked n && s.lnState n == lnOFF then
    if s.isEth n then s.enterLane n lnSEEK else s.enterSeek n
  else s

/-- QUAD_PLL_LOCK (R418): a PLL that is not off locks; the lanes that use it may leave OFF. -/
def execQuadPllLock (q : Fin 8) (pllB : Bool) (s : State) : Host.Outcome State Fault Refusal :=
  .next (
    let rate := if pllB then s.get (F.LANES_QUAD_CFG_RATE_B q.val) else s.get (F.LANES_QUAD_CFG_RATE_A q.val)
    if rate = 7 then s
    else
      let s := s.setFlag (if pllB then F.LANES_QUAD_CFG_LOCK_B q.val else F.LANES_QUAD_CFG_LOCK_A q.val) true
      forEach ((List.finRange 32).filter fun n => decide (n.val / 4 = q.val)) s fun s n => s.leaveOff n)

/-! ## LN_CFG (R420, R421) -/

/-- R420: the roles that lane n may take. -/
def roleAllowed (n : Lane) (role arg : Nat) : Bool :=
  role == 0 ||
  (if n.val < 16 then role == 1 && arg == n.val
    else if n.val < 18 then role == 2 && arg + 16 == n.val
    else if n.val < 20 then role == 3 && arg + 18 == n.val
    else if n.val < 28 then role == 4 && arg + 20 == n.val
    else (role == 2 && decide (n.val < 30) && arg + 26 == n.val) || (role == 4 && decide (arg < 8)) || role == 1)

/-- R421: the rates allowed for a role. -/
def rateAllowed (role code : Nat) : Bool :=
  if role = 3 then code == 0 else if role = 2 then decide (code < 7) else decide (1 ≤ code ∧ code < 7)

/-- R421: a new word for LN_CFG of lane n is acceptable. -/
def State.lnCfgOk (s : State) (n : Lane) (w : Word) : Bool :=
  let old := s.reg (R.LN_CFG n.val)
  let role := bitsOf w 6 4
  let arg := bitsOf w 11 8
  let on := bitsOf w 0 0 == 1
  let was := bitsOf old 0 0 == 1
  let rate := if bitsOf w 1 1 = 1 then s.get (F.LANES_QUAD_CFG_RATE_B (n.val / 4)) else s.get (F.LANES_QUAD_CFG_RATE_A (n.val / 4))
  let taken := (List.finRange 32).any fun m => m != n && s.lnRole m == role && s.lnArg m == arg
  roleAllowed n role arg && (role == 0 || !taken) && (!was || bitsOf w 31 1 == bitsOf old 31 1) &&
  (!on || was || (role != 0 && rateAllowed role rate &&
    !(role == 1 && (s.pers == 1 || (s.pers == 2 && decide (arg < 4))))))

/-- A write of v to LN_CFG of lane n (R421, R426). -/
def State.lnCfgWrite (s : State) (n : Lane) (sup : Bool) (v : Word) : State :=
  let was := s.flag (F.LN_CFG_ENABLE n.val)
  let w := s.written (R.LN_CFG n.val) sup Access.isRw v
  let t := (s.condWrite (R.LN_CFG n.val) sup v (s.lnCfgOk n w) (F.LN_STAT_CFG_ERR n.val)).1
  let on := t.flag (F.LN_CFG_ENABLE n.val)
  if was && !on && s.lnState n != lnRETIRED then
    let u := s.enterOff n
    u.setReg (R.LN_CFG n.val) (t.reg (R.LN_CFG n.val))
  else if !was && on then t.leaveOff n
  else t

/-- LN_CFG_WRITE (R421). -/
def execLnCfgWrite (who : Reader) (n : Lane) (v : BitVec 32) (s : State) : Host.Outcome State Fault Refusal :=
  .next (s.ask (lnDomain n) (.lnCfg who n v) fun s => s.lnCfgWrite n (s.supView who) v)

/-! ## Training (R426-R431) -/

/-- SEEK_BURST (R427): TS1 for 20 µs in every 1 ms. -/
def execSeekBurst (n : Lane) (s : State) : Host.Outcome State Fault Refusal :=
  .next (
    if s.lnState n == lnSEEK && !s.isEth n && s.after s.lanes[n].seekSent 1000000 then
      (s.sendTs n false).modLane n fun l => { l with seekSent := some s.now }
    else s)

/-- SEEK_TIMEOUT (R426, R431): ABSENT, and its event once. -/
def execSeekTimeout (n : Lane) (s : State) : Host.Outcome State Fault Refusal :=
  .next (
    if s.lnState n == lnSEEK && !s.isEth n && !s.flag (F.LN_STAT_ABSENT n.val) &&
        s.elapsed s.lanes[n].since (1000000 * s.get F.LANES_TIMING_SEEK_TIMEOUT) then
      (s.setFlag (F.LN_STAT_ABSENT n.val) true).lnEvent n 3 0
    else s)

/-- SIGNAL_DETECT (R426, R427). -/
def execSignalDetect (n : Lane) (s : State) : Host.Outcome State Fault Refusal :=
  .next (if s.lnState n == lnSEEK && !s.isEth n then s.enterAlign n else s)

/-- Lane n trains or is UP. -/
def State.lnTrains (s : State) (n : Lane) : Bool := decide (lnALIGN ≤ s.lnState n ∧ s.lnState n ≤ lnUP) && !s.isEth n

/-- PARTNER_LOSS (R426, R434): no signal for 2 µs. -/
def execPartnerLoss (n : Lane) (s : State) : Host.Outcome State Fault Refusal :=
  .next (if s.lnTrains n then s.enterSeek n else s)

/-- The virtual channels that a role uses towards the partner, and those it receives on (R429, R442). -/
def txVcs (role : Nat) : List (Fin 4) := if role = 4 then [1, 2] else [0]
/-- The channels on which reliable frames are received (R442). -/
def rxVcs (role : Nat) : List (Fin 4) := if role = 4 then [1, 2] else [1]

/-- REASON for which a partner is refused (R429), 0 for none. -/
def State.refusal (s : State) (n : Lane) (m : TsMsg) : Nat :=
  let role := s.lnRole n
  if m.role.toNat ≠ (if role = 1 then 1 else if role = 2 then 2 else 3) then 1
  else if 10000 < m.headLat.toNat then 2
  else if m.nonce = s.lanes[n].nonce then 3
  else if m.version ≠ 1 then 4
  else if (txVcs role).any fun v => m.credit[v] == 0 then 5
  else 0

/-- The partner is refused (R429, R431). -/
def State.refuse (s : State) (n : Lane) (reason : Nat) : State :=
  let was := s.flag (F.LN_STAT_REFUSED n.val)
  let s := ((s.setFlag (F.LN_STAT_REFUSED n.val) true).put (F.LN_STAT_REASON n.val) reason).enterSeek n
  if was then s else s.lnEvent n 4 reason

/-- A frame or ordered set is discarded for an error on lane n (R422, R432). -/
def State.noteErr (s : State) (n : Lane) : State :=
  s.modLane n fun l => { l with errs := l.errs.filter (fun (t : Nat) => !s.past (t + 1000000)) ++ [s.now] }

/-- TRAINING_TIMEOUT (R426): ALIGN and CHECK after 1 ms, TRAIN after 2 ms. -/
def execTrainingTimeout (n : Lane) (s : State) : Host.Outcome State Fault Refusal :=
  .next (
    let st := s.lnState n
    let t := if st = lnTRAIN then 2000000 else 1000000
    if !s.isEth n && decide (lnALIGN ≤ st ∧ st ≤ lnCHECK) && s.elapsed s.lanes[n].since t then s.enterSeek n else s)

/-! ## Retraining and retirement (R432, R433, R435) -/

/-- The counted triggers of the last 60 s (R432). -/
def State.trigsNow (s : State) (n : Lane) : List Nat := s.lanes[n].trigs.filter fun t => !s.elapsed t 60000000000

/-- A retrain trigger (R432, R433): the lane goes to ALIGN, or is retired by a counted trigger when three lie in the last
60 s. -/
def State.trigger (s : State) (n : Lane) (trig : Nat) : State :=
  let l := s.trigsNow n
  let s := s.put (F.LN_STAT_TRIG n.val) trig
  if trig = 6 then (s.enterAlign n).lnEvent n 6 trig
  else if l.length = 3 then
    let up := s.lnState n == lnUP
    let s := ((s.enterLane n lnRETIRED).modLane n fun x => { x with trigs := l, txq := [] }).lnEvent n 5 trig
    if !up && s.lnRole n == 1 then s.retire (s.lnHead n) 3 else s
  else
    let s := s.modLane n fun x => { x with trigs := l ++ [s.now], replayRun := 0, lowRun := 0, errs := [] }
    (s.enterAlign n).lnEvent n 6 trig

/-- An error burst (R432): ERR_LIMIT discards within 1 ms, on an UP lane. -/
def State.burst (s : State) (n : Lane) : State :=
  if s.lnState n = lnUP ∧ s.get F.LANES_TIMING_ERR_LIMIT ≤ s.lanes[n].errs.length then s.trigger n 2 else s

/-- An ordered set that holds a code error is discarded and counted (R422, R432). -/
def State.codeError (s : State) (n : Lane) : State := ((s.count (F.LN_ERR_CODE_ERR n.val)).noteErr n).burst n

/-- A TS without error (R426, R428, R429): it counts; in TRAIN a TS2 answers it (log entry 15). -/
def State.tsTake (s : State) (n : Lane) (m : TsMsg) : State :=
    if s.lnState n = lnALIGN then
      let s := s.modLane n fun l => { l with tsRun := l.tsRun + 1, partner := some m }
      if s.lanes[n].tsRun = 8 then s.enterLane n lnTRAIN else s
    else if s.lnState n = lnTRAIN then
      let s := (s.sendTs n true).modLane n fun l => { l with
        partner := some m, ts2Tx := l.ts2Tx + 1, ts2Rx := l.ts2Rx + b2n m.two }
      if 8 ≤ s.lanes[n].ts2Tx ∧ 8 ≤ s.lanes[n].ts2Rx then
        let r := s.refusal n m
        if r = 0 then s.enterLane n lnCHECK else s.refuse n r
      else s
    else s

/-- TS_RECEIVE (R422, R426, R428): one that holds a code error, or whose CHECK fails, is discarded. -/
def execTsReceive (n : Lane) (m : Coded) (s : State) : Host.Outcome State Fault Refusal :=
  .next (
    if s.isEth n then s
    else
      let s := if m.code then s.codeError n else s
      match (TsMsg.read m.octets).filter fun _ => !m.code with
      | some m => s.tsTake n m
      | none => if s.lnState n = lnALIGN then s.modLane n fun l => { l with tsRun := 0 } else s)

/-- CHECK_COMPLETE (R426, R430, R433): 100 µs in CHECK without a code error; the margins found at a dwell of 2^16 bits. -/
def execCheckComplete (n : Lane) (h v : BitVec 6) (s : State) : Host.Outcome State Fault Refusal :=
  .next (
    if s.lnState n == lnCHECK && !s.isEth n && s.past (s.lanes[n].since + 100000) then
      if s.get F.LANES_EYE_MIN_H_MIN ≤ h.toNat ∧ s.get F.LANES_EYE_MIN_V_MIN ≤ v.toNat then s.enterUp n else s.trigger n 5
    else s)

/-- A write of RETRAIN to LN_CTRL (R432, R456). -/
def State.lnRetrain (s : State) (n : Lane) : State := if s.lnState n == lnUP && !s.isEth n then s.trigger n 6 else s
/-- A write of UNRETIRE (R435). -/
def State.lnUnretire (s : State) (n : Lane) : State :=
  if s.lnState n = lnRETIRED then
    let s := (s.modLane n fun l => { l with trigs := [] }).enterSeek n
    if s.flag (F.LN_CFG_ENABLE n.val) then s else s.enterOff n
  else s
/-- A write of CLR_REFUSED (R431). -/
def State.lnClrRefused (s : State) (n : Lane) : State := s.setFlag (F.LN_STAT_REFUSED n.val) false

/-- RETRAIN (R432): the field is one-shot in the supervisor view only. -/
def execRetrain (who : Reader) (n : Lane) (s : State) : Host.Outcome State Fault Refusal :=
  .next (s.ask (lnDomain n) (.retrain who n) fun s => if s.supView who then s.lnRetrain n else s)
/-- UNRETIRE (R435). -/
def execUnretire (who : Reader) (n : Lane) (s : State) : Host.Outcome State Fault Refusal :=
  .next (s.ask (lnDomain n) (.unretire who n) fun s => if s.supView who then s.lnUnretire n else s)
/-- CLR_REFUSED (R431). -/
def execClrRefused (who : Reader) (n : Lane) (s : State) : Host.Outcome State Fault Refusal :=
  .next (s.ask (lnDomain n) (.clrRefused who n) fun s => if s.supView who then s.lnClrRefused n else s)

/-- LOSS_OF_SYNC (R432): four code errors within 16 code groups while UP. -/
def execLossOfSync (n : Lane) (s : State) : Host.Outcome State Fault Refusal :=
  .next (
    if s.lnState n == lnUP && !s.isEth n then
      (s.put (F.LN_ERR_CODE_ERR n.val) (min 255 (s.get (F.LN_ERR_CODE_ERR n.val) + 4))).trigger n 1
    else s)

/-! ## The eye (R437-R439) -/

/-- LIVE_SCAN_CYCLE (R438, R432): the margins found at the end of a cycle. -/
def execLiveScanCycle (n : Lane) (h v : BitVec 6) (s : State) : Host.Outcome State Fault Refusal :=
  .next (
    if s.lnState n == lnUP && decide (s.eye.lane ≠ some n) then
      let low := decide (h.toNat < s.get F.LANES_EYE_MIN_H_MIN ∨ v.toNat < s.get F.LANES_EYE_MIN_V_MIN)
      let s := ((s.put (F.LN_EYE_H_MARGIN n.val) h.toNat).put (F.LN_EYE_V_MARGIN n.val) v.toNat).count (F.LN_EYE_SCANS n.val)
      let s := (s.setFlag (F.LN_STAT_MARGIN_LOW n.val) low).modLane n fun l => { l with lowRun := if low then l.lowRun + 1 else 0 }
      if s.lanes[n].lowRun = 3 ∧ s.isEth n = false then s.trigger n 4 else s
    else s)

/-- A write of v to LANES_EYE_CMD (R439, R455). -/
def State.eyeCmdWrite (s : State) (sup : Bool) (v : Word) : State :=
  let s := s.plainWrite R.LANES_EYE_CMD sup v
  if pulsed F.LANES_EYE_CMD_START sup v then
    let n : Lane := Fin.ofNat 32 (s.get F.LANES_EYE_CMD_LANE)
    if s.flag F.LANES_EYE_CMD_BUSY || s.lnState n != lnUP then s.setFlag F.LANES_EYE_CMD_ERR true
    else { s.setFlag F.LANES_EYE_CMD_BUSY true with eye := { lane := some n } }
  else s

/-- EYE_SCAN_START (R439): a write with START = 1 to LANES_EYE_CMD. -/
def execEyeScanStart (who : Reader) (v : BitVec 32) (s : State) : Host.Outcome State Fault Refusal :=
  .next (s.eyeCmdWrite (s.supView who) (v ||| 0x100#32))

/-- EYE_SCAN_DONE (R439): the counts of the 8,192 points, in the order of their addresses. -/
def execEyeScanDone (counts : List (BitVec 32)) (s : State) : Host.Outcome State Fault Refusal :=
  .next (match s.eye.lane with
    | none => s
    | some _ =>
      let s := s.siloPut (s.get F.LANES_EYE_BASE_BASE * 32768) ((counts.take 8192).flatMap fun c => octets c.toNat 4)
      { (s.setFlag F.LANES_EYE_CMD_BUSY false).setFlag F.LANES_EYE_CMD_DONE true with eye := {} })

/-! ## The link layer (R440-R448) -/

/-- The credits a reliable frame costs (R446). -/
def creditCost (f : LinkFrame) : Nat := cdivN (f.payload.length + 8) 64

/-- The credits of a frame on lane n are returned (R446). -/
def State.freeCredit (s : State) (n : Lane) (f : LinkFrame) : State :=
  s.modLane n fun l => { l with freed := vmod l.freed f.vc fun c => c + BitVec.ofNat 8 (creditCost f) }

/-- R442, R459: the frame types a lane carries towards the device. -/
def typeKnown (role : Nat) (type : BitVec 8) : Bool :=
  let t := type.toNat
  match role with
  | 1 => decide (t = 0x20 ∨ (0x30 ≤ t ∧ t ≤ 0x32))
  | 2 => decide (0x30 ≤ t ∧ t ≤ 0x32)
  | 4 => decide (0x50 ≤ t ∧ t ≤ 0x52)
  | _ => false

/-- A frame that passed its checks goes to its block, or is counted UNKNOWN (R442, R443). -/
def State.passOn (s : State) (n : Lane) (f : LinkFrame) : State :=
  if typeKnown (s.lnRole n) f.type then s.send (.passed n f) else s.count (F.LN_ERR_UNKNOWN n.val)

/-- The code groups of a frame (R440, R470): its payload and 10. -/
def frameGroups (f : LinkFrame) : Nat := f.payload.length + 10

/-- R447: on a HeadLink lane a frame or an ordered set ends 8 code groups before the next set-point frame's departure. -/
def State.fitsBefore (s : State) (n : Lane) (groups : Nat) : Bool :=
  if s.lnRole n = 1 then
    let b := s.lnHead n
    let dep : Int := (s.nextFrame b : Int) - s.get (F.BEAM_HEAD_CFG_HEAD_LAT b.val)
    decide ((max s.lanes[n].txEnd (1000 * s.now) + (groups + 8) * 10 * uiPs (s.laneRate n) : Nat) ≤ 1000 * dep)
  else true

/-- NAK with the expected SEQ, at most once per SEQ in 10 µs (R444). -/
def State.sendNak (s : State) (n : Lane) : State :=
  let l := s.lanes[n]
  let due := match l.lastNak with
    | some (q, t) => decide (q ≠ l.expect) || s.past (t + 10000)
    | none => true
  if due then
    let t := s.modLane n fun l => { l with lastNak := some (l.expect, s.now) }
    if s.fitsBefore n 4 then t.transmit n 4 (.ack n (ackOctets l.expect true)) else t.modLane n fun l => { l with nakOwed := true }
  else s

/-- A frame that fails its checks is discarded and counted; a reliable one is answered with NAK, its credits returned (R441, R444, R446). -/
def State.linkBad (s : State) (n : Lane) (f : Option LinkFrame) (code : Bool) : State :=
  let s := if code then s.count (F.LN_ERR_CODE_ERR n.val) else s
  let s := (s.count (F.LN_ERR_CRC_ERR n.val)).noteErr n
  let s := match f.filter fun f => f.rel with
    | some f => (s.freeCredit n f).sendNak n
    | none => s
  s.burst n

/-- A frame that passed its checks (R443, R444, R446). -/
def State.linkGood (s : State) (n : Lane) (f : LinkFrame) : State :=
  if f.rel then
    let e := s.lanes[n].expect
    if f.seq = e then
      ((s.modLane n fun l => { l with expect := l.expect + 1, ackOwed := true }).passOn n f).freeCredit n f
    else
      let s := s.freeCredit n f
      if later 12 e.toNat f.seq.toNat then s.modLane n fun l => { l with ackOwed := true } else s.sendNak n
  else s.passOn n f

/-- LINK_FRAME_RECEIVE (R441-R446): a frame on an UP lane. -/
def execLinkFrameReceive (n : Lane) (f : Coded) (s : State) : Host.Outcome State Fault Refusal :=
  .next (
    if s.lnState n == lnUP && !s.isEth n then
      match LinkFrame.read f.octets with
      | some (g, good) => if good && !f.code then s.linkGood n g else s.linkBad n (some g) f.code
      | none => s.linkBad n none f.code
    else s)

/-- ACK_SEND (R444, R447): the last SEQ accepted, or a NAK that had to wait, once it fits before a set-point frame. -/
def execAckSend (n : Lane) (s : State) : Host.Outcome State Fault Refusal :=
  .next (
    if s.lnState n == lnUP && s.fitsBefore n 4 then
      if s.lanes[n].nakOwed then (s.modLane n fun l => { l with nakOwed := false }).transmit n 4 (.ack n (ackOctets s.lanes[n].expect true))
      else if s.lanes[n].ackOwed then
        (s.modLane n fun l => { l with ackOwed := false }).transmit n 4 (.ack n (ackOctets (s.lanes[n].expect - 1) false))
      else s
    else s)

/-- ACK_NAK_RECEIVE (R422, R444, R445): an ordered set that holds a code error or fails its check is discarded. -/
def execAckNakReceive (n : Lane) (w : BitVec 16) (check : Octet) (code : Bool) (s : State) : Host.Outcome State Fault Refusal :=
  let x := behindK w check
  .next (
    if s.lnState n == lnUP && !s.isEth n && code then s.codeError n
    else if s.lnState n == lnUP && !s.isEth n && checked 3 x then
      let seq := BitVec.ofNat 12 (octAt x 0 2)
      if (octAt x 1 1).testBit 4 then s.modLane n fun l => { l with resend := (l.outst.map (·.seq)).filter fun q => !later 12 seq.toNat q.toNat }
      else
        let l := s.lanes[n]
        let rest := l.outst.filter fun f => later 12 f.seq.toNat seq.toNat
        if rest.length = l.outst.length then s
        else s.modLane n fun l => { l with
          outst := rest, resend := l.resend.filter (fun q => rest.any fun f => f.seq == q), progress := s.now, replayRun := 0 }
    else s)

/-- REPLAY_TIMEOUT (R445, R432): REPLAY_TO µs without progress. -/
def execReplayTimeout (n : Lane) (s : State) : Host.Outcome State Fault Refusal :=
  .next (
    let l := s.lanes[n]
    if s.lnState n == lnUP && !s.isEth n && !l.outst.isEmpty && s.past (l.progress + 1000 * s.get F.LANES_TIMING_REPLAY_TO) then
      let s := (s.count (F.LN_ERR_REPLAYS n.val)).modLane n fun l => { l with
        resend := l.outst.map (·.seq), progress := s.now, replayRun := l.replayRun + 1 }
      if s.lanes[n].replayRun = 4 then s.trigger n 3 else s
    else s)

/-- CREDIT_RECEIVE (R446): GRANTED is the partner's CREDIT_INIT and its running total. -/
def execCreditReceive (n : Lane) (w : BitVec 16) (check : Octet) (code : Bool) (s : State) : Host.Outcome State Fault Refusal :=
  let x := behindK w check
  .next (
    if s.lnState n == lnUP && !s.isEth n && code then s.codeError n
    else if s.lnState n == lnUP && !s.isEth n && checked 3 x then
      let vc : Fin 4 := Fin.ofNat 4 (octAt x 0 1)
      s.modLane n fun l => match l.partner with
        | some m => { l with granted := l.granted.set vc (m.credit[vc] + BitVec.ofNat 8 (octAt x 1 1)) }
        | none => l
    else s)

/-- CREDIT_SEND (R446, R447): the running totals. -/
def execCreditSend (n : Lane) (s : State) : Host.Outcome State Fault Refusal :=
  .next (
    if s.lnState n == lnUP && !s.isEth n then
      forEach (rxVcs (s.lnRole n)) s fun s v => if s.fitsBefore n 4 then s.transmit n 4 (.credit n (creditOctets v s.lanes[n].freed[v])) else s
    else s)

/-- The credits at hand on a channel (R446). -/
def LaneSt.credits (l : LaneSt) (vc : Fin 4) : Nat := (l.granted[vc] - l.consumed[vc]).toNat

/-- A frame leaves lane n (R445, R446, R448). -/
def State.startFrame (s : State) (n : Lane) (f : LinkFrame) : State :=
  let s := s.modLane n fun l => { l with
    consumed := if f.rel then vmod l.consumed f.vc (fun c => c + BitVec.ofNat 8 (creditCost f)) else l.consumed
    tc1Run := if f.rel ∧ f.vc = 1 ∧ (l.txq.any fun g => g.vc == 2) = true then l.tc1Run + 1 else if f.vc = 2 then 0 else l.tc1Run }
  s.transmit n (frameGroups f) (.frame n (LinkFrame.octets f))

/-- The first frame of a channel that waits. -/
def LaneSt.firstOf (l : LaneSt) (p : LinkFrame → Bool) : Option LinkFrame := l.txq.find? p

/-- A waiting frame may start: an unreliable one, or a reliable one with credits and room in the window. -/
def LaneSt.mayStart (l : LaneSt) (f : LinkFrame) : Bool :=
  !f.rel || (decide (creditCost f ≤ l.credits f.vc) && decide (l.outst.length < 64))

/-- The frame that goes next (R469): TC0, TC1, TC2, but a TC2 frame behind 7 consecutive TC1 frames. -/
def LaneSt.nextUp (l : LaneSt) : Option LinkFrame :=
  let c0 := l.firstOf fun f => !f.rel
  let c1 := l.firstOf fun f => f.rel && f.vc != 2
  let c2 := l.firstOf fun f => f.rel && f.vc == 2
  let order := if 7 ≤ l.tc1Run then [c0, c2, c1] else [c0, c1, c2]
  order.findSome? fun o => o.filter fun f => l.mayStart f

/-- FRAME_TRANSMIT (R424, R445-R448, R469): once what is in progress and its IDLE have ended, the next of the frames to be sent again,
or of those that wait. -/
def execFrameTransmit (n : Lane) (s : State) : Host.Outcome State Fault Refusal :=
  .next (
    let l := s.lanes[n]
    if s.lnState n == lnUP && !s.isEth n && decide (l.txEnd ≤ 1000 * s.now) then
      let again := match l.resend with
        | q :: _ => l.outst.find? fun f => f.seq == q
        | [] => none
      match again with
      | some f =>
        if creditCost f ≤ l.credits f.vc ∧ s.fitsBefore n (frameGroups f) = true then
          (s.modLane n fun l => { l with resend := l.resend.drop 1 }).startFrame n f
        else s
      | none => match l.nextUp with
        | some f =>
          if s.fitsBefore n (frameGroups f) then
            let g := if f.rel then { f with seq := l.nextSeq } else f
            let s := s.startFrame n g
            s.modLane n fun l => { l with
              txq := l.txq.erase f
              outst := if f.rel then l.outst ++ [g] else l.outst
              nextSeq := if f.rel then l.nextSeq + 1 else l.nextSeq
              progress := if f.rel && l.outst.isEmpty then s.now else l.progress }
          else s
        | none => s
    else s)

/-! ## Ethernet lanes (R449-R451) -/

/-- An Ethernet lane without link is in TRAIN, one with it in UP. -/
def State.ethLink (s : State) (n : Lane) (up : Bool) : State :=
  if up then (if s.lnState n = lnUP then s else s.enterUp n) else if s.lnState n = lnUP then s.enterLane n lnTRAIN else s

/-- What a 1000BASE-X port advertises (R449): full duplex (bit 5) and the pause bits PS1 and PS2 (bits 7 and 8), nothing else. -/
def anWord (pauseAdv : Nat) : BitVec 16 := BitVec.ofNat 16 (0x20 + 128 * pauseAdv)

/-- PCS_SYNC_ACQUIRED (R449, R451): the link is up at once with AN_EN = 0, else auto-negotiation runs. -/
def execPcsSyncAcquired (n : Lane) (s : State) : Host.Outcome State Fault Refusal :=
  .next (
    if s.isEth n && s.flag (F.LN_CFG_ENABLE n.val) && s.lnState n == lnSEEK then
      let s := s.modLane n fun l => { l with pcs := true }
      if s.flag (F.LN_CFG_ETH_MODE n.val) then s.enterLane n lnTRAIN
      else if s.flag (F.LN_CFG_AN_EN n.val) then (s.enterLane n lnTRAIN).send (.ethConfig n (anWord (s.get (F.LN_CFG_PAUSE_ADV n.val))))
      else s.enterUp n
    else s)

/-- Pause is negotiated for reception, from the PS1 and PS2 bits of both sides (R449, R451; log entry 24). -/
def pauseRx (own lp : Nat) : Bool :=
  (own.testBit 0 && lp.testBit 0) || (own.testBit 0 && own.testBit 1 && !lp.testBit 0 && lp.testBit 1)

/-- AN_COMPLETE (R449, R451): auto-negotiation under Clause 37 has ended with the partner's word. -/
def execAnComplete (n : Lane) (lp : BitVec 16) (s : State) : Host.Outcome State Fault Refusal :=
  .next (
    if s.isEth n && s.flag (F.LN_CFG_AN_EN n.val) && !s.flag (F.LN_CFG_ETH_MODE n.val) && s.lnState n == lnTRAIN then
      let s := ((s.put (F.LN_ETH_LP_LP_WORD n.val) lp.toNat).setFlag (F.LN_STAT_AN_DONE n.val) true).modLane n
        fun l => { l with pause := pauseRx (s.get (F.LN_CFG_PAUSE_ADV n.val)) (lp.toNat / 128 % 4) }
      s.ethLink n (lp.getLsbD 5)
    else s)

/-- SGMII_CONFIG_RECEIVE (R450, R451): link, speed and duplex from the PHY's word, which is acknowledged (log entry 24). -/
def execSgmiiConfigReceive (n : Lane) (w : BitVec 16) (s : State) : Host.Outcome State Fault Refusal :=
  .next (
    if s.isEth n && s.flag (F.LN_CFG_ETH_MODE n.val) && (s.lnState n == lnTRAIN || s.lnState n == lnUP) then
      let link := w.getLsbD 15
      let full := w.getLsbD 12
      let sp := w.toNat / 1024 % 4
      let s := ((s.put (F.LN_ETH_LP_LP_WORD n.val) w.toNat).setFlag (F.LN_STAT_AN_DONE n.val) true).setFlag (F.LN_STAT_ETH_HD n.val) (link && !full)
      let s := if sp < 3 then s.put (F.LN_STAT_ETH_SPEED n.val) (2 - sp) else s
      let s := (s.modLane n fun l => { l with pause := (s.get (F.LN_CFG_PAUSE_ADV n.val)).testBit 0 }).send (.ethConfig n 0x4001)
      s.ethLink n (link && full)
    else s)

/-- ETH_SYNC_LOSS (R451): auto-negotiation starts again once the PCS has synchronised. -/
def execEthSyncLoss (n : Lane) (s : State) : Host.Outcome State Fault Refusal :=
  .next (
    if s.isEth n && (s.lnState n == lnTRAIN || s.lnState n == lnUP) then
      ((s.enterLane n lnSEEK).setFlag (F.LN_STAT_AN_DONE n.val) false).modLane n fun l => { l with pcs := false, pause := false }
    else s)

/-! ## Equaliser presets (R436) -/

/-- The preset of the present band for transmit (R436): B4 uses that of B3. -/
def State.eqPreset (s : State) : Nat × Nat :=
  let b := min 3 (s.get F.SYS_BAND_BAND)
  (s.get (F.LANES_EQ_TX_PRE b), s.get (F.LANES_EQ_TX_POST b))

/-- One step towards a value. -/
def towards (a b : Nat) : Nat := if a < b then a + 1 else if b < a then a - 1 else a

/-- Each transmitter moves one step towards its preset (R436): once per µs of the time base. -/
def State.eqStep (s : State) : State :=
  let p := s.eqPreset
  forEach (List.finRange 32) s fun s n => s.modLane n fun l => { l with txPre := towards l.txPre p.1, txPost := towards l.txPost p.2 }

end Sys2Proof.Machine
end

