-- ==== Sys2Proof/Machine/Ptp.lean ====
section
/-! DEFINITION. PTP and FarmLink time: stamps, the best master clock, Sync and delay measurement (03_time.md R119-R131). -/

namespace Sys2Proof.Machine

/-! ## Stamps (R98, R119-R122) -/

/-- A time in ps in units of 2^-16 ns, rounded down. -/
def ps16 (ps : Int) : Int := (ps * 65536).fdiv 1000

/-- The reported time of a PTP event message received on port p (R120), in 2^-16 ns. -/
def State.ptpRx (s : State) (p : EPort) (et : BitVec 64) : Int :=
  ps16 (s.etFull et * 125 + 58400 - s.int (F.TIME_PORT_ADJ_RX_ADJ p.val))

/-- The reported time of a PTP event message that port p sends now (R120), in 2^-16 ns. -/
def State.ptpTx (s : State) (p : EPort) : Int := ps16 (s.nowEt * 125 + 67600 + s.int (F.TIME_PORT_ADJ_TX_ADJ p.val))

/-- Ethernet port p carries PTP messages: its lane is UP at 1000 Mb/s (R121). -/
def State.portGig (s : State) (p : EPort) : Bool :=
  match (List.finRange 32).find? fun n => s.isEth n && decide (s.get (F.LN_CFG_ARG n.val) = p.val) with
  | some n => s.laneUp n && s.get (F.LN_STAT_ETH_SPEED n.val) == 0
  | none => false

/-- The Ethernet port of domain d. -/
def State.domPort (s : State) (d : Dom) : EPort := if s.flag (F.TIME_DOM_CFG_PORT d.val) then 1 else 0

/-- A and B are the same PTP domain of one port (R126). -/
def State.domsClash (s : State) : Bool :=
  s.get (F.TIME_DOM_CFG_SRC 0) == 1 && s.get (F.TIME_DOM_CFG_SRC 1) == 1 && decide (s.domPort 0 = s.domPort 1) &&
    s.get (F.TIME_DOM_CFG_DOMAIN_NUM 0) == s.get (F.TIME_DOM_CFG_DOMAIN_NUM 1)

/-- The PTP domain that a message of domainNumber k on port p belongs to (R124); domain A where both would (R126). -/
def State.ptpDom (s : State) (p : EPort) (k : BitVec 7) : Option Dom :=
  [(0 : Dom), 1].find? fun d => decide (s.get (F.TIME_DOM_CFG_SRC d.val) = 1 ∧ s.domPort d = p ∧ s.get (F.TIME_DOM_CFG_DOMAIN_NUM d.val) = k.toNat)

/-- R124: the message is discarded and counted. -/
def State.ptpDrop (s : State) : State := s.modTime fun t => { t with ptpDropped := t.ptpDropped + 1 }

/-- A PTP version R123 names: versionPTP 2 with minorVersionPTP 0 or 1. -/
def ptpVersionOk (version minor : Nat) : Bool := decide (version = 2 ∧ minor ≤ 1)

/-- A received PTP message is handed to its domain, or discarded: its version, its port and its domain number (R121, R123,
R124). -/
def State.ptpTake (s : State) (p : EPort) (k : BitVec 7) (version : Nat) (minor : BitVec 4) (f : Dom → State) : State :=
  if s.portGig p = true ∧ ptpVersionOk version minor.toNat = true then
    match s.ptpDom p k with
    | some d => f d
    | none => s.ptpDrop
  else s.ptpDrop

/-- A PTP message on Ethernet port p (R123, R124), by the header of IEEE 1588-2019 (log entry 25): its UDP port, whether it was
sent to one station alone, and its octets, of which messageType, the versions, domainNumber and twoStepFlag are read. It is one of the
messages R123 lists. -/
def State.ptpSupported (s : State) (p : EPort) (udp : Nat) (unicast : Bool) (l : List Octet) : Bool :=
  let o (i : Nat) : Nat := (l[i]?.getD 0).toNat
  let type := o 0 % 16
  let event := decide (type = 0 ∨ type = 1)
  !unicast && decide (34 ≤ l.length) && (event || decide (type = 8 ∨ type = 9 ∨ type = 11)) && decide (udp = if event then 319 else 320) &&
    ptpVersionOk (o 1 % 16) (o 1 / 16) && (type != 0 || (o 6).testBit 1) &&
    decide (o 4 < 128) && (s.ptpDom p (BitVec.ofNat 7 (o 4))).isSome

/-! ## The best master clock (R125) -/

/-- The device's port identity in domain d: its clockIdentity and the port number. -/
def State.portIdentity (s : State) (d : Dom) : BitVec 80 := BitVec.ofNat 80 (Config.uid.toNat * 65536 + (s.domPort d).val + 1)

/-- Lexicographic order. -/
def lexLess : List Nat → List Nat → Bool
  | a :: s, b :: t => decide (a < b) || (decide (a = b) && lexLess s t)
  | _, _ => false

/-- Announce a describes a better grandmaster, or the better way to the same one, than b (the data set comparison of
IEEE 1588-2019; log entry 25). -/
def better (a b : PtpAnnounce) : Bool :=
  if a.gmIdentity = b.gmIdentity then lexLess [a.steps.toNat, a.source.toNat] [b.steps.toNat, b.source.toNat]
  else
    let key (x : PtpAnnounce) := [x.prio1.toNat, x.gmClass.toNat, x.gmAccuracy.toNat, x.gmVariance.toNat, x.prio2.toNat, x.gmIdentity.toNat]
    lexLess (key a) (key b)

/-- The data set of the device in domain d (R125). -/
def State.ownData (s : State) (d : Dom) : PtpAnnounce :=
  { domainNum := BitVec.ofNat 7 (s.get (F.TIME_DOM_CFG_DOMAIN_NUM d.val)), seqId := 0, source := s.portIdentity d, gmIdentity := Config.uid
    gmClass := 248, gmAccuracy := 0xFE, gmVariance := 0xFFFF, prio1 := BitVec.ofNat 8 (s.get (F.TIME_DOM_CFG_PRIO d.val)), prio2 := 128
    steps := 0, logInterval := 1, version := 2, minor := 1 }

/-- The tag port p puts on a frame, as it stands in the frame: PCP and VID with VLAN_EN = 1, none without (R493). -/
def State.portTag (s : State) (p : EPort) : Option Nat :=
  if s.flag (F.HOST_NET_VLAN_VLAN_EN p.val) then some (s.get (F.HOST_NET_VLAN_PCP p.val) * 8192 + s.get (F.HOST_NET_VLAN_VID p.val)) else none

/-- A PTP message of domain d that carries no time: event messages go to port 319, general ones to 320 (R123). -/
def State.ptpMsg (s : State) (d : Dom) (type : PtpType) (seq : BitVec 16) (interval : Int) : PtpOut :=
  { type := type, udp := if type = .sync ∨ type = .delayReq then 319 else 320, tag := s.portTag (s.domPort d)
    domainNum := BitVec.ofNat 7 (s.get (F.TIME_DOM_CFG_DOMAIN_NUM d.val)), seqId := seq, source := s.portIdentity d
    twoStep := decide (type = .sync), logInterval := interval }

/-- m with the time t (2^-16 ns) as its PTP timestamp (R97), and what is below 1 ns added to its correctionField with the
sign g. -/
def PtpOut.stamped (m : PtpOut) (t g : Int) : PtpOut :=
  let ns := wrap 64 (t.fdiv 65536)
  { m with sec := BitVec.ofNat 48 (ns / 1000000000), nsec := BitVec.ofNat 32 (ns % 1000000000), corr := m.corr + g * t.fmod 65536 }

/-- Send a PTP message on the port of domain d. -/
def State.ptpSend (s : State) (d : Dom) (m : PtpOut) : State := s.sendPort (s.domPort d) (.ptp (s.domPort d) m)

/-- A foreign master whose Announce counts: two of them within four of its intervals (IEEE 1588-2019; log entry 25). -/
def Foreign.qualified (f : Foreign) : Bool := match f.before with
  | some b => decide (f.at_ ≤ b + 4 * logInterval f.a.logInterval)
  | none => false

/-- The best of the foreign masters that count. -/
def DomSt.best (x : DomSt) : Option Foreign :=
  (x.foreign.filter fun f => f.qualified).foldl (fun r f => match r with
    | some g => if better f.a g.a then some f else some g
    | none => some f) none

/-- DEGRADED by its two tests (R131). -/
def State.degradeCheck (s : State) (d : Dom) : State :=
  let x := s.time.dom[d]
  let sum := x.last16.foldl (fun a o => a + o * o) (0 : Int)
  let q := 8 * s.get (F.TIME_DOM_CFG_QUAL_LIMIT d.val)
  let bad := match x.master with
    | some f => decide (187 ≤ f.a.gmClass.toNat)
    | none => false
  s.setFlag (F.TIME_DOM_CFG_DEGRADED d.val) (bad || (q != 0 && decide ((q * q * x.last16.length : Nat) < sum)))

/-- Domain d enters a port state, with the parent it follows (R125). Outside slave state it is not valid (R131). -/
def State.ptpEnter (s : State) (d : Dom) (r : PtpRole) (parent : Option (BitVec 80)) : State :=
  let x := s.time.dom[d]
  let s := if x.role = r ∧ x.parent = parent then s
    else s.modDom d fun y => { y with
      role := r, parent := parent, since := s.now, lastSync := none, pendingSync := none, delaySent := none, pathDelay := 0, last16 := [] }
  if r = .slave ∧ x.parent = parent then s else s.loseDomain d

/-- The best master clock algorithm decides the port state of domain d (R125). `late` says that the announce receipt timeout
expired without an Announce that counts. -/
def State.bmca (s : State) (d : Dom) (late : Bool) : State :=
  let x := s.time.dom[d]
  let capable := s.flag (F.TIME_DOM_CFG_MASTER_CAP d.val)
  match x.best with
  | some f =>
    if capable && better (s.ownData d) f.a then s.ptpEnter d .master none
    else s.ptpEnter d .slave (some f.a.source)
  | none => if capable && (late || decide (x.role = .master)) then s.ptpEnter d .master none
    else if late then s.ptpEnter d .listening none else s

/-- PTP_ANNOUNCE_RECEIVE (R125, R131, R137): the data set and its clockClass are kept, and the port state, VALID, DEGRADED and the active domain are
decided again. -/
def execPtpAnnounceReceive (p : EPort) (m : PtpAnnounce) (s : State) : Host.Outcome State Fault Refusal :=
  .next (s.ptpTake p m.domainNum m.version m.minor fun d =>
    if m.source.toNat / 65536 = Config.uid.toNat ∨ 255 ≤ m.steps.toNat then s
    else
      let old := s.time.dom[d].foreign.find? fun f => decide (f.a.source = m.source)
      let fresh := match old with
        | some f => later 16 m.seqId.toNat f.a.seqId.toNat
        | none => true
      if fresh then
        let s := s.modDom d fun x => { x with
          foreign := x.foreign.filter (fun f => decide (f.a.source ≠ m.source)) ++ [⟨m, s.now, old.map (·.at_)⟩] }
        let s := s.put (F.TIME_DOM_INFO_GM_CLASS d.val) m.gmClass.toNat
        ((s.bmca d false).degradeCheck d).domChanged d
      else s)

/-- ANNOUNCE_RECEIPT_TIMEOUT (R125): three intervals without an Announce of the parent, or of anyone while listening. -/
def execAnnounceReceiptTimeout (d : Dom) (s : State) : Host.Outcome State Fault Refusal :=
  .next (
    let x := s.time.dom[d]
    let due := match x.master with
      | some f => s.elapsed f.at_ (3 * logInterval f.a.logInterval)
      | none => decide (x.role = .listening) && s.elapsed x.since (3 * logInterval 1)
    if s.get (F.TIME_DOM_CFG_SRC d.val) == 1 && due then
      let s := s.modDom d fun x => { x with foreign := x.foreign.filter fun f => !s.elapsed f.at_ (3 * logInterval f.a.logInterval) }
      ((s.bmca d true).degradeCheck d).domChanged d
    else s)

/-! ## A measured offset (R131) -/

/-- Domain d has measured the offset o (ns): it is kept, with the RMS over sixteen (rounded down, and of those there are while
there are fewer; log entry 33); the domain becomes valid where it may, and the servo follows the active one. -/
def State.measured (s : State) (d : Dom) (o : Int) : State :=
  let s := s.modDom d fun x => { x with offset := o, slewed := 0, last16 := (o :: x.last16).take 16 }
  let s := s.put (F.TIME_DOM_OFS_LO_OFS_LO d.val) (wrap 32 o)
  let l := s.time.dom[d].last16
  let rms := isqrt (l.foldl (fun a o => a + o.natAbs * o.natAbs) 0 / l.length)
  let s := (s.put (F.TIME_DOM_INFO_RMS_OFS d.val) (min 65535 rms)).degradeCheck d
  let s := if s.domsClash && decide (d = 1) then s else s.setFlag (F.TIME_DOM_CFG_VALID d.val) true
  let s := s.domChanged d
  if s.timeFree = false ∧ s.activeDom = d ∧ s.domValid d = true then s.steer d else s

/-! ## PTP messages (R123-R125) -/

/-- The message comes from the parent of domain d, which is in slave state. -/
def State.fromParent (s : State) (d : Dom) (m : PtpMsg) : Bool :=
  decide (s.time.dom[d].role = .slave) && decide (s.time.dom[d].parent = some m.source)

/-- PTP_SYNC_RECEIVE (R123, R124, R131): a two-step Sync of the parent, at an interval of 2^-4 to 2 s, waits for its Follow_Up. -/
def execPtpSyncReceive (p : EPort) (m : PtpMsg) (s : State) : Host.Outcome State Fault Refusal :=
  .next (s.ptpTake p m.domainNum m.version m.minor fun d =>
    if m.twoStep = false ∨ m.logInterval.toInt < -4 ∨ 1 < m.logInterval.toInt then s.ptpDrop
    else if s.fromParent d m then
      s.modDom d fun x => { x with pendingSync := some m, syncInterval := logInterval m.logInterval, lastSync := some s.now }
    else s)

/-- PTP_FOLLOW_UP_RECEIVE (R123, R131, R139): the Follow_Up of the Sync that waits completes a measurement. -/
def execPtpFollowUpReceive (p : EPort) (m : PtpMsg) (s : State) : Host.Outcome State Fault Refusal :=
  .next (s.ptpTake p m.domainNum m.version m.minor fun d =>
    match s.time.dom[d].pendingSync with
    | some y =>
      if s.fromParent d m && decide (y.seqId = m.seqId) then
        let s := s.modDom d fun x => { x with pendingSync := none }
        let o := m.carried * 65536 + m.corr + y.corr + s.time.dom[d].pathDelay - s.ptpRx p y.rx
        s.measured d (o.fdiv 65536)
      else s
    | none => s)

/-- PTP_DELAY_REQ_RECEIVE (R125): a domain in master state answers with the time of reception. -/
def execPtpDelayReqReceive (p : EPort) (m : PtpMsg) (s : State) : Host.Outcome State Fault Refusal :=
  .next (s.ptpTake p m.domainNum m.version m.minor fun d =>
    if s.time.dom[d].role = .master then
      s.ptpSend d ({ s.ptpMsg d .delayResp m.seqId 0 with reqPort := some m.source, corr := m.corr }.stamped (s.ptpRx p m.rx) (-1))
    else s)

/-- PTP_DELAY_RESP_RECEIVE (R125): the answer to the device's own Delay_Req gives the path delay and the interval of the next.
The path delay is half the sum of the way there and the way back, with the offset taken out. -/
def execPtpDelayRespReceive (p : EPort) (m : PtpMsg) (reqPort : BitVec 80) (s : State) : Host.Outcome State Fault Refusal :=
  .next (s.ptpTake p m.domainNum m.version m.minor fun d =>
    match s.time.dom[d].delaySent with
    | some t3 =>
      let x := s.time.dom[d]
      if s.fromParent d m && decide (m.seqId = x.delaySeq ∧ reqPort = s.portIdentity d) then
        -- way there: t4 - t3 = offset + delay, so the delay is that less the offset measured with the present delay
        let there := m.carried * 65536 - m.corr - t3
        s.modDom d fun x => { x with
          delaySent := none, delayInterval := logInterval m.logInterval
          pathDelay := (x.pathDelay + (there - x.offset * 65536)).fdiv 2 }
      else s
    | none => s)

/-- Domain d is in a port state at 1000 Mb/s, and an interval since the last time has passed. -/
def State.ptpDue (s : State) (d : Dom) (r : PtpRole) (last : Option Nat) (ns : Nat) : Bool :=
  s.get (F.TIME_DOM_CFG_SRC d.val) == 1 && decide (s.time.dom[d].role = r) && s.portGig (s.domPort d) && s.after last ns

/-- PTP_SYNC_SEND (R125): each second, with its Follow_Up. -/
def execPtpSyncSend (d : Dom) (s : State) : Host.Outcome State Fault Refusal :=
  .next (
    if s.ptpDue d .master s.time.dom[d].lastSent (logInterval 0) then
      let n := s.time.dom[d].syncSeq
      let s := s.modDom d fun x => { x with syncSeq := n + 1, lastSent := some s.now }
      (s.ptpSend d (s.ptpMsg d .sync n 0)).ptpSend d ((s.ptpMsg d .followUp n 0).stamped (s.ptpTx (s.domPort d)) 1)
    else s)

/-- PTP_ANNOUNCE_SEND (R125): every 2 s, with the device's data set. -/
def execPtpAnnounceSend (d : Dom) (s : State) : Host.Outcome State Fault Refusal :=
  .next (
    if s.ptpDue d .master s.time.dom[d].lastAnnounceSent (logInterval 1) then
      let n := s.time.dom[d].announceSeq
      (s.modDom d fun x => { x with announceSeq := n + 1, lastAnnounceSent := some s.now }).ptpSend d
        { s.ptpMsg d .announce n 1 with data := some { s.ownData d with seqId := n } }
    else s)

/-- PTP_DELAY_REQ_SEND (R125): at the interval of the Delay_Resp, 1 s before the first. -/
def execPtpDelayReqSend (d : Dom) (s : State) : Host.Outcome State Fault Refusal :=
  .next (
    if s.ptpDue d .slave s.time.dom[d].lastDelaySent s.time.dom[d].delayInterval then
      let n := s.time.dom[d].delaySeq + 1
      (s.modDom d fun x => { x with delaySeq := n, delaySent := some (s.ptpTx (s.domPort d)), lastDelaySent := some s.now }).ptpSend d
        (s.ptpMsg d .delayReq n 0x7F)
    else s)

/-! ## FarmLink time (R121, R127-R130) -/

/-- s with FarmLink time changed by f. -/
def State.modFl (s : State) (f : FlTimeSt → FlTimeSt) : State := s.modTime fun t => { t with fl := f t.fl }
/-- The arrival of a time frame at the balls of a port, in ps (R121, R419). -/
def State.flRx (s : State) (k : FPort) (et : BitVec 64) : Int := s.etFull et * 125 - rxLatPs (s.portRate k)
/-- The departure at the balls of a time frame sent on a port, in ps: now, or once what is in progress there has ended (R448). -/
def State.flTx (s : State) (k : FPort) : Int :=
  max (s.nowEt * 125) (match s.portLane k with
    | some n => (s.lanes[n].txEnd : Int)
    | none => 0) + txLatPs (s.portRate k)
/-- A time in ps as an ET value, and what is left of it in 2^-16 ns. -/
def etOf (ps : Int) : BitVec 64 × Int := (BitVec.ofNat 64 (wrap 64 (ps.fdiv 125)), ps16 (ps.fmod 125))

/-- The 32 octets of a time payload of a type, little-endian (R2, R129). -/
def FlTime.octets (type : Nat) (m : FlTime) : List Octet :=
  [BitVec.ofNat 8 type, m.hops, BitVec.ofNat 8 m.root.val, m.flags] ++ Machine.octets m.keyGen.toNat 4 ++ Machine.octets m.seq.toNat 4 ++
    Machine.octets m.origin.toNat 8 ++ Machine.octets m.corr.toNat 8 ++ Machine.octets 0 4

/-- The fields of a time payload of a type (R129); none where it is no such payload. -/
def flTimeOf (type : Nat) (l : List Octet) : Option FlTime :=
  let n := octAt l
  if l.length = 32 ∧ n 0 1 = type then
    some ⟨BitVec.ofNat 8 (n 1 1), Fin.ofNat 64 (n 2 1), BitVec.ofNat 8 (n 3 1), BitVec.ofNat 32 (n 4 4), BitVec.ofNat 32 (n 8 4),
      BitVec.ofNat 64 (n 12 8), BitVec.ofNat 64 (n 20 8)⟩
  else none

/-- The node of the time root, the holder of the barn key (R127). -/
def State.rootNode (s : State) : Node := Fin.ofNat 64 (s.get F.FABRIC_STAT_HOLDER)

/-- Send a time payload of a type on FarmLink port k: a frame of TC0, ahead of those that wait (R459, R469). -/
def State.flTimeSend (s : State) (k : FPort) (type : Nat) (m : FlTime) : State := match s.portLane k with
  | some n => s.transmitAt n (1000 * s.now) 42 (.frame n (LinkFrame.octets ⟨0x50, 0, false, 0, FlTime.octets type m⟩))
  | none => s

/-- FL_SYNC_SEND (R127, R129): the time root's SYNC on every UP port, each 125 µs. -/
def execFlSyncSend (s : State) : Host.Outcome State Fault Refusal :=
  .next (
    if s.fabOn && s.holder && s.after s.time.fl.lastSync 125000 then
      let seq := s.time.fl.seq + 1
      let s := s.modFl fun f => { f with seq := seq, lastSync := some s.now, heard := some (BitVec.ofNat 32 s.keyGen, seq) }
      let st := s.get F.TIME_STATUS_STATE
      let flags := b2n (s.flag F.TIME_STATUS_HOLDOVER) + 2 * b2n (st == 1 || st == 2)
      forEach (List.finRange 8) s fun s k =>
        if s.portUp k then
          let t := etOf (s.flTx k)
          s.flTimeSend k 1 ⟨0, s.rootNode, BitVec.ofNat 8 flags, BitVec.ofNat 32 s.keyGen, seq, t.1, BitVec.ofNat 64 (wrap 64 t.2)⟩
        else s
    else s)

/-- The port towards the root: the first of the primary path to the holder (R127, R465). -/
def State.rootPort (s : State) : Option FPort := (s.pathTo (Fin.ofNat 64 (s.get F.FABRIC_STAT_HOLDER))).first.head?

/-- A SYNC is accepted: its KEY_GEN is equal to or later than the latest accepted (R130), and within one KEY_GEN its SEQ is later
(R139; log entry 25). -/
def State.syncNew (s : State) (m : FlTime) : Bool := match s.time.fl.heard with
  | none => true
  | some (g, q) => later 32 m.keyGen.toNat g.toNat || (decide (m.keyGen = g) && later 32 m.seq.toNat q.toNat)

/-- A SYNC that arrived at a port (ps) on the way to a FarmLink domain d (R127, R131): HOPS, the offset it measures, and when. -/
def State.syncDomain (s : State) (d : Dom) (m : FlTime) (arr corr : Int) : State :=
  if s.get (F.TIME_DOM_CFG_SRC d.val) = 2 then
    let o := (s.etFull m.origin * 125 * 65536).fdiv 1000 + corr - ps16 arr
    let s := s.modDom d fun x => { x with lastSync := some s.now }
    (s.put (F.TIME_DOM_INFO_HOPS d.val) (min 255 (m.hops.toNat + 1))).measured d (o.fdiv 65536)
  else s

/-- FL_SYNC_RECEIVE (R127, R130): a SYNC of current KEY_GEN on the port towards the root steers the FarmLink domain and goes
on to the other UP ports with the residence time and the link's delay in CORR. -/
def execFlSyncReceive (port : FPort) (a : Stamped) (s : State) : Host.Outcome State Fault Refusal :=
  .next (match flTimeOf 1 a.payload with
    | none => s
    | some m =>
      if s.fabOn && !s.holder && s.portUp port && decide (s.rootPort = some port) && s.syncNew m then
        let arr := s.flRx port a.arrival
        let corr := m.corr.toInt + s.time.fl.delay[port]
        let s := s.modFl fun f => { f with heard := some (m.keyGen, m.seq) }
        let s := forEach [(0 : Dom), 1] s fun s d => s.syncDomain d m arr corr
        forEach (List.finRange 8) s fun s k =>
          if s.portUp k = true ∧ k ≠ port then
            s.flTimeSend k 1 { m with hops := m.hops + 1, corr := BitVec.ofNat 64 (wrap 64 (corr + ps16 (s.flTx k - arr))) }
          else s
      else s)

/-- A delay payload from this device (R128, R129). What the layout gives the SYNC alone is 0 (log entry 25). -/
def State.delayMsg (s : State) (seq : BitVec 32) (origin : BitVec 64) (corr : Int) : FlTime :=
  ⟨0, s.rootNode, 0, BitVec.ofNat 32 s.keyGen, seq, origin, BitVec.ofNat 64 (wrap 64 corr)⟩

/-- FL_DELAY_REQ_SEND (R128): each 1 ms on an UP port. -/
def execFlDelayReqSend (port : FPort) (s : State) : Host.Outcome State Fault Refusal :=
  .next (
    if s.fabOn && s.portUp port && s.after s.time.fl.lastReq[port] 1000000 then
      let seq := s.time.fl.reqSeq + 1
      let t := s.flTx port
      let s := s.modFl fun f => { f with reqSeq := seq, reqSent := f.reqSent.set port (some (seq, t)), lastReq := f.lastReq.set port (some s.now) }
      s.flTimeSend port 2 (s.delayMsg seq (etOf t).1 0)
    else s)

/-- FL_DELAY_REQ_RECEIVE (R128, R129): the answer carries the arrival of the request and the turnaround time. -/
def execFlDelayReqReceive (port : FPort) (a : Stamped) (s : State) : Host.Outcome State Fault Refusal :=
  .next (match flTimeOf 2 a.payload with
    | none => s
    | some m =>
      if s.fabOn && s.portUp port then
        let arr := s.flRx port a.arrival
        s.flTimeSend port 3 (s.delayMsg m.seq (etOf arr).1 (ps16 (s.flTx port - arr)))
      else s)

/-- FL_DELAY_RESP_RECEIVE (R128): the delay of the link is half the time away less the turnaround. -/
def execFlDelayRespReceive (port : FPort) (a : Stamped) (s : State) : Host.Outcome State Fault Refusal :=
  .next (match flTimeOf 3 a.payload, s.time.fl.reqSent[port] with
    | some m, some (seq, t1) =>
      if s.portUp port && decide (seq = m.seq) then
        let dl := (ps16 (s.flRx port a.arrival - t1) - m.corr.toInt).fdiv 2
        s.modFl fun f => { f with reqSent := f.reqSent.set port none, delay := f.delay.set port dl }
      else s
    | _, _ => s)

end Sys2Proof.Machine
end

