-- ==== Sys2Proof/Machine/Reset.lean ====
section
/-! DEFINITION. Resets and their reach, and the restart of the supervisor pair (18_startup_faults_modes.md R636-R642, R651, R653;
13_host.md R521). A device held in reset keeps State.boot.cause other than 0 until RESET_END (log entry 29). -/

namespace Sys2Proof.Machine

/-! ## What a reset keeps (R640) -/

/-- What the Granary keeps: the array and the control region (R539). -/
def GranSt.kept (g : GranSt) : GranSt :=
  { array := g.array, isSealed := g.isSealed, bad := g.bad, dump := g.dump, journal := g.journal, key := g.key
    checkpoint := g.checkpoint, zeroMark := g.zeroMark }

/-- A register that holds what the Granary's array and counts hold, or the causes of resets. -/
def keptFull (a : Nat) : Bool :=
  decide (a = R.GRANARY_NEXT ∨ a = R.GRANARY_LAST_SEQ ∨ a = R.GRANARY_PCC ∨ a = R.GRANARY_OPTIME_LO ∨ a = R.GRANARY_OPTIME_HI ∨
    a = R.SYS_RESET_CAUSE)

/-- A register that a CORE reset does not reach (R640, R654, R655). -/
def keptCore (a : Nat) : Bool :=
  let blk := blockNo a
  let ofs := a % 0x10000
  if blk = 0 then decide (ofs < 0x24 ∨ a = R.SYS_BOOT ∨ a = R.SYS_BOOT_GEN)
  else if blk = 10 then decide (ofs < 0x1000 ∨ 0x3000 ≤ ofs)
  else decide (blk = 1 ∨ blk = 8 ∨ blk = 9 ∨ blk = 11 ∨ blk = 12)

/-- The inputs of beam b show again what stands on their balls: its permit and its alarm (R251, R252). -/
def State.inputAgain (s : State) (b : Sys2Proof.Beam) : State :=
  let s := if s.permitOff b then s
    else (s.setFlag (F.BEAM_LASER_CFG_PERMIT b.val) true).setFlag (F.BEAM_LASER_CFG_PERMIT_WAIT b.val) true
  s.modTraj b fun j => { j with alarmAct := if s.alarmActive b s.cells[cellAlarm b].level then some s.nowEt.toNat else none }

/-- The inputs of every beam show again. -/
def State.inputsAgain (s : State) : State := forEach allBeams s fun s b => s.inputAgain b

/-- The device held in reset for a cause: every block at its reset values, what R640 keeps as it was. -/
def State.inReset (s : State) (cause : Nat) : State :=
  { State.reset with
    pending := s.pending, regs := s.regs.filter fun x => keptFull x.1
    silo := s.silo
    eng := Vector.ofFn fun e => { mem := s.eng[e].mem }
    cells := Vector.ofFn fun c => if isAlarm c then { level := s.cells[c].level } else {}
    enc := s.enc, gran := s.gran.kept, flash := s.flash
    pins := { permit := s.pins.permit.map fun (x : Option Nat) => x.map fun _ => (0 : Nat), pfail := s.pins.pfail, testPort := s.pins.testPort }
    holds := { shutdown := s.holds.shutdown }
    boot := { cause := cause }
    out := s.out, free := s.free }.inputsAgain

/-- A full reset: first the Granary completes the write in progress and its dump, with cause 1 (R550, R640). -/
def State.fullReset (s : State) (cause : Nat) : State := ((s.failRecord 1).writeDone true).dumpNow.inReset cause

/-- POWER_ON (R636, R640): every supply comes up; memories without their contents. -/
def execPowerOn (s : State) : Host.Outcome State Fault Refusal :=
  .next (
    let s := { s with silo := {}, eng := Vector.replicate 21 {}, holds := {} }
    (s.inReset 1).setReg R.SYS_RESET_CAUSE 0)

/-- SYS_RESETN (R636, R666): a low level of ns; one shorter than 20 ns is ignored. -/
def execSysResetn (ns : BitVec 32) (s : State) : Host.Outcome State Fault Refusal :=
  .next (if ns.toNat < 20 then s else s.fullReset (s.boot.cause ||| 2))

/-- DEVICE_RESET (R641), by a write in the supervisor view. -/
def execDeviceReset (who : Reader) (s : State) : Host.Outcome State Fault Refusal :=
  .next (if s.supView who then s.fullReset 4 else s.denied who)

/-- A CORE reset (R640, R642): the build blocks at their reset values, the layer in IDLE; a holder's layer ends by abort on
every participant. -/
def State.coreReset (s : State) : State :=
  let give := s.role == 1 && !s.idle
  let s := forEach allBeams s fun s b =>
    let s := s.stopBeam b
    ({ s with transit := s.transit.filter fun x => decide (x.1 ≠ cellSync b) }).modCell (cellSync b) fun c =>
      { c with q := [], level := false, train := none }
  let s := forEach (List.finRange 8) s fun s a =>
    let s := s.axEndNow a
    (s.modCell (stepCell a) fun y => { y with q := [], level := false }).modCell (dirCell a) fun y => { y with q := [] }
  let key := s.flag F.AX_OUT_KEY_OK
  let pers := s.pers
  let sup := s.eng[(20 : Eng)]
  let t : State := { s with
    regs := s.regs.filter fun x => keptCore x.1
    power := Vector.replicate 44 {}, bed := {}
    layer := if give then { give := some .abort, reports := s.layer.reports, removed := s.layer.removed } else {}
    eng := (Vector.ofFn fun (e : Eng) => if e = 20 then sup else { mem := s.eng[e].mem })
    beam := Vector.replicate 16 {}, arb := {}, loops := Vector.replicate 16 {}, loopDev := {}
    streams := Vector.replicate 20 {}, pipes := Vector.replicate 4 {}, axes := Vector.replicate 8 {}
    disp := Vector.replicate 2 {}, xk := {}
    host := { s.host with rings := Vector.replicate 32 {}, evtLatch := Vector.replicate 30 0 }
    pins := { s.pins with evtOut := Vector.replicate 4 none }
    fired := [] }
  let t := ((t.setFlag F.AX_OUT_KEY_OK key).put F.XK_CFG_PERS pers).inputsAgain
  t.setFlag F.SYS_RESET_CAUSE_CORE true

/-- CORE_RESET (R641, R642), by a write in the supervisor view. -/
def execCoreReset (who : Reader) (s : State) : Host.Outcome State Fault Refusal :=
  .next (if s.supView who then s.coreReset else s.denied who)

/-- A write of DEVICE and CORE (R641): both is a full reset; a session's write acts after its response. -/
def State.resetWrite (s : State) (who : Reader) (device core : Bool) : State :=
  if device = false ∧ core = false then s
  else match who with
    | .engine _ => if device then s.fullReset 4 else s.coreReset
    | .session _ => s.modHost fun h => { h with resetOwed := some (if device then 1 else 2) }

/-- The reset that a response owes (R641). -/
def State.payReset (s : State) : State :=
  match s.host.resetOwed with
  | some k => if k = 1 then s.fullReset 4 else (s.modHost fun h => { h with resetOwed := none }).coreReset
  | none => s

/-- R648: a zeroise under its mark is run to completion. -/
def State.zeroiseEnd (s : State) : State :=
  if s.gran.zeroMark then { s with silo := {} }.modGran fun g => { g with zeroMark := false } else s

/-- R420: on the lanes chosen, ENABLE resets to 0 where the personality has no use of them: lanes 0-15 in XK, 0-3 in mixed. -/
def State.lanesReset (s : State) (p : Lane → Bool) : State :=
  forEach ((List.finRange 32).filter fun n => p n && (decide (s.pers = 1 ∧ n.val < 16) || decide (s.pers = 2 ∧ n.val < 4))) s
    fun s n => s.setFlag (F.LN_CFG_ENABLE n.val) false

/-- RESET_END (R636-R639, R653, R667): the straps are sampled and the supervisor pair starts. A device in thermal shutdown stays in
reset (R574). PFAILn low at this instant counts as its fall. KEY_OK is 1 in the solo role (R381). -/
def execResetEnd (mode : BitVec 3) (src : BitVec 2) (s : State) : Host.Outcome State Fault Refusal :=
  .next (
    if s.boot.cause = 0 ∨ s.holds.shutdown then s
    else
      let s := (s.put F.SYS_STRAPS_MODE mode.toNat).put F.SYS_STRAPS_BOOT_SRC src.toNat
      let s := s.put F.XK_CFG_PERS (if mode.toNat < 3 then mode.toNat else 0)
      let s := (s.setFlag F.SYS_BOOT_STRAP_ERR (decide (3 ≤ mode.toNat))).lanesReset fun _ => true
      let s := s.setReg R.SYS_RESET_CAUSE (s.reg R.SYS_RESET_CAUSE ||| BitVec.ofNat 32 s.boot.cause)
      let s := ({ s with boot := { s.boot with cause := 0 } }.modTime fun t => { t with supDown := false }).zeroiseEnd
      (if s.pins.pfail then s.pfailFall else s).axKeyBack)

/-! ## The end of a long operation (R521) -/

/-- A long operation ends with a RESULT: LONG_DONE to its session, event 244. -/
def State.endLong (s : State) (result : Nat) : State :=
  match s.host.long with
  | none => s
  | some l =>
    let s := (s.modHost fun h => { h with long := none }).modTime fun t => { t with winnowFull := false }
    let s := (s.extCheck.put F.HOST_LONG_STATE (if result = 0 then 2 else 3)).put F.HOST_LONG_RESULT result
    let body := beOctets l.op 1 ++ beOctets result 1 ++ [0, 0] ++ beOctets ((s.now - l.start) / 1000000) 4
    (s.vmpDevice l.sess 0x41 0 body).raise 244 (l.op + 256 * result)

/-! ## The supervisor pair (R651) -/

/-- LOCKSTEP_MISMATCH (R651): the pair stops and restarts, or is dead at a second mismatch within 60 s. -/
def execLockstepMismatch (s : State) : Host.Outcome State Fault Refusal :=
  .next (
    if s.time.supDown ∨ s.boot.cause ≠ 0 then s
    else
      let again := match s.holds.lockstep with
        | some t => !s.elapsed t 60000000000
        | none => false
      let s := s.count F.SYS_SUP_LOCKSTEP
      let s := { s with holds := { s.holds with lockstep := some s.now } }
      let s := (s.modTime fun t => { t with supDown := true, extWritten := false, phase := 0 }).extCheck
      let s := s.setFlag F.TIME_STATUS_SLEWING false
      let s := if s.fabOn && s.holder then s.releaseKey else s
      let s := s.endLong 0xFF
      if again then
        let s := ({ s with holds := { s.holds with supDead := true } }.setFlag F.SYS_SUP_SUP_DEAD true).suspendAll
        if s.flag F.AX_OUT_KEY_OK then s.axKeyLost else s
      else { s with holds := { s.holds with supRestarting := true } }.setFlag F.SYS_SUP_RESTARTING true)

/-- SUPERVISOR_RESTART_DONE (R648, R651): the pair runs again from its reset state; the firmware writes EXT, and completes what a
long operation left. -/
def execSupervisorRestartDone (ext : BitVec 32) (s : State) : Host.Outcome State Fault Refusal :=
  .next (
    if s.holds.supRestarting then
      let s := (s.setFlag F.SYS_SUP_RESTARTING false).modEng 20 fun x => x.fresh
      let s := { s with holds := { s.holds with supHalt := false, supRestarting := false } }
      let s := (s.modTime fun t => { t with supDown := false, ext := ext, extWritten := true }).setFlag F.TIME_STATUS_PEND_WRAP false
      let s := s.extCheck.zeroiseEnd
      if s.gran.journal.isSome then (s.sealEnd [] true).1 else s
    else s)

end Sys2Proof.Machine
end

