-- ==== Sys2Proof/Machine/Boot.lean ====
section
/-! DEFINITION. Boot images, their checks and the flash slots (18_startup_faults_modes.md R643-R649). -/

namespace Sys2Proof.Machine

/-! ## Where an image lies (R643, R644) -/

/-- A byte of the flash; an unlisted one is erased (log entry 26). -/
def State.flashByte (s : State) (a : Nat) : Octet := tabGet (fun _ => 0xFF) s.flash.cells a
/-- The flash with bytes from a on. -/
def FlashSt.put (f : FlashSt) (a : Nat) : List Octet → FlashSt
  | [] => f
  | v :: t => FlashSt.put { f with cells := tabSet (fun _ => 0xFF) f.cells a v } (a + 1) t
/-- The flash with n bytes from a on erased. -/
def FlashSt.erase (f : FlashSt) (a n : Nat) : FlashSt := { f with cells := f.cells.filter fun x => decide (x.1 < a ∨ a + n ≤ x.1) }
/-- The size of a slot (R643). -/
def State.slotBytes (s : State) : Nat := min s.flash.slot 0x4000000
/-- The place in the flash or the Silo of an image: slot A is 0, slot B 1, the Silo 2 with an offset. -/
def State.imageBase (s : State) (src base : Nat) : Nat := if src = 2 then base else if src = 1 then s.flash.slot else 0
/-- n bytes of an image from offset o on. -/
def State.imageBytes (s : State) (src base o n : Nat) : List Octet :=
  let a := s.imageBase src base + o
  (List.range n).map fun i => if src = 2 then s.silo.byte (a + i) else s.flashByte (a + i)
/-- A little-endian word of an image. -/
def State.imageWord (s : State) (src base o : Nat) : Nat := ((s.imageBytes src base o 4).reverse.foldl (fun n v => n * 256 + v.toNat) 0)

/-- A section (R644): KIND, TARGET, DEST, LEN and where its data begin. -/
structure Section where
  kind : Nat
  target : Nat
  dest : Nat
  len : Nat
  at_ : Nat
  deriving DecidableEq, Repr

/-- n sections from offset o on, if they fill the image up to `stop` exactly. -/
def State.sections (s : State) (src base stop : Nat) : Nat → Nat → Option (List Section)
  | 0, o => if o = stop then some [] else none
  | n + 1, o =>
    if stop < o + 16 then none
    else
      let w := s.imageWord src base o
      let x : Section := ⟨w % 256, w / 256 % 256, s.imageWord src base (o + 4), s.imageWord src base (o + 8), o + 16⟩
      (s.sections src base stop n (o + 16 + cdivN x.len 16 * 16)).map fun l => x :: l

/-- The sections of an image. -/
def State.imageSections (s : State) (src base : Nat) : Option (List Section) :=
  s.sections src base (s.imageWord src base 0x0C) (min (s.imageWord src base 0x10) (s.imageWord src base 0x0C)) 256

/-- GEN of an image. -/
def State.imageGen (s : State) (src base : Nat) : Nat := s.imageWord src base 8

/-- A section lies within its target (R645). -/
def State.sectionOk (s : State) (src base : Nat) (x : Section) : Bool :=
  match x.kind with
  | 1 => decide (x.target < 20) && decide (x.dest + x.len ≤ localSize (Fin.ofNat 21 x.target))
  | 2 => decide (x.dest + x.len ≤ siloSize)
  | 3 => (List.range (x.len / 8)).all fun i => let a := s.imageWord src base (x.at_ + 8 * i); decide (0xF0000000 ≤ a ∧ a < 0xF0100000)
  | _ => false

/-- The reason code of the first check that fails, 0 for a valid image (R645). `room` is the size of its slot; `committed` has COMMIT
taken as correct (R649). -/
def State.imageCheck (s : State) (src base room : Nat) (committed : Bool) : Nat :=
  let w := s.imageWord src base
  let zero (o n : Nat) : Bool := (s.imageBytes src base o n).all (· == 0)
  let len := w 0x0C
  if w 0 ≠ 0x564A494D ∨ w 4 ≠ 1 ∨ (w 0xF8 ≠ 0x434F4D54 ∧ committed = false) ∨ zero 0x18 8 = false ∨ zero 0xC0 56 = false then 2
  else if (crc32 (s.imageBytes src base 0 0xF8 ++ octets 0x434F4D54 4)).toNat ≠ w 0xFC then 3
  else if len < 256 ∨ room < len ∨ len % 16 ≠ 0 ∨ (src = 2 ∧ siloSize < base + len) then 4
  else match s.imageSections src base with
    | none => 4
    | some l =>
      if sha256 (s.imageBytes src base 0x100 (len - 0x100)) ≠ s.imageBytes src base 0x20 32 then 5
      else if Config.enforce = true ∧ (beNum (sha256 (s.imageBytes src base 0x80 64)) ≠ Config.keyHash.toNat ∨
          ecdsaVerify (sha256 (s.imageBytes src base 0 0x40)) (s.imageBytes src base 0x40 64) (s.imageBytes src base 0x80 64) = false) then 6
      else if l.all (s.sectionOk src base) then 0 else 7

/-- The check of slot n: reason 1 without a flash. -/
def State.slotCheck (s : State) (n : Nat) : Nat := if s.flash.fitted then s.imageCheck n 0 s.slotBytes false else 1

/-! ## Boot (R639, R643, R646) -/

/-- Boot runs: out of reset, and STATE is LOADING. -/
def State.loading (s : State) : Bool := s.boot.cause == 0 && s.get F.SYS_BOOT_STATE == 0

/-- BOOT_BEGIN (R643, R646): the slots are checked, or a host image is waited for. -/
def execBootBegin (s : State) : Host.Outcome State Fault Refusal :=
  .next (
    if s.loading && s.boot.image.isNone then
      let src := s.get F.SYS_STRAPS_BOOT_SRC
      if 2 ≤ src ∨ s.flag F.SYS_BOOT_STRAP_ERR = true then s.put F.SYS_BOOT_STATE 2
      else
        let a := s.slotCheck 0
        let b := s.slotCheck 1
        let t := ((s.put F.SYS_BOOT_FAIL_A a).put F.SYS_BOOT_FAIL_B b).setFlag F.SYS_BOOT_SLOW (s.flash.fitted && !s.flash.quad)
        if a ≠ 0 ∧ b ≠ 0 then t.put F.SYS_BOOT_STATE (if src = 0 then 2 else 3)
        else
          let n := if a ≠ 0 then 1 else if b ≠ 0 then 0 else if later 32 (s.imageGen 1 0) (s.imageGen 0 0) then 1 else 0
          { t with boot := { t.boot with image := some (n, 0) } }
    else s)

/-- The octets of an image in the Silo that a check reads. -/
def State.imageSpan (s : State) (base : Nat) : Nat := min (max 256 (s.imageWord 2 base 0x0C)) (siloSize - base)

/-- A check of an image in the Silo that answers `check` (R38): single-bit errors are corrected and counted; an uncorrectable one makes
it fail, with a reason of R645 that is a free value (log entry 46). -/
def State.siloImage (s : State) (base : Nat) (check : State → Nat → Nat) : Nat × State :=
  let n := s.imageSpan base
  let bad := decide (0 < n) && s.silo.badIn base n
  let s := s.siloFix base n
  if bad then
    let (v, s) := s.freeVal 52 3
    (check s (2 + v % 6), s)
  else (check s 0, s)

/-- A write to SYS_BOOT_HOST in the supervisor view (R646, R654). -/
def State.bootHostWrite (s : State) (v : Word) : State :=
  let s := s.plainWrite R.SYS_BOOT_HOST true v
  if v.getLsbD 0 then
    if s.get F.SYS_BOOT_STATE = 2 then
      let base := s.get F.SYS_BOOT_HOST_BASE * 64
      let (r, s) := s.siloImage base fun s bad => if bad ≠ 0 then bad else s.imageCheck 2 base s.slotBytes false
      let s := s.put F.SYS_BOOT_FAIL_H r
      if r = 0 then { s with boot := { s.boot with image := some (2, base) } } else s
    else s.setFlag F.SYS_BOOT_HOST_ERR true
  else s

/-- SYS_BOOT_HOST_START (R646). -/
def execSysBootHostStart (who : Reader) (v : BitVec 32) (s : State) : Host.Outcome State Fault Refusal :=
  .next (if s.supView who then s.bootHostWrite v else s.denied who)

/-! ## IMAGE_WRITE (R649) -/

/-- The inactive slot: the one not booted from; after a host boot an invalid one first, then the earlier GEN, and B. -/
def State.inactiveSlot (s : State) : Nat :=
  let src := s.get F.SYS_BOOT_SOURCE
  if src < 2 then 1 - src
  else
    let a := s.slotCheck 0
    let b := s.slotCheck 1
    if b ≠ 0 then 1 else if a ≠ 0 then 0 else if later 32 (s.imageGen 0 0) (s.imageGen 1 0) then 1 else 0

/-- RESULT of step 1 of IMAGE_WRITE of the image at a Silo offset: 0, BAD_IMAGE with its reason, TOO_LARGE or OLD_GEN. `bad` is the
reason of an uncorrectable error, 0 without one. -/
def State.imageRefusal (s : State) (base bad : Nat) : Nat :=
  let len := s.imageWord 2 base 0x0C
  let r := if bad ≠ 0 then bad else s.imageCheck 2 base siloSize false
  let active := 1 - s.inactiveSlot
  if r ≠ 0 then 1 + 16 * r
  else if s.slotBytes < len then 3
  else if s.slotCheck active = 0 ∧ later 32 (s.imageGen 2 base) (s.imageGen active 0) = false then 4
  else 0

/-- Step 2: the inactive slot is erased. -/
def State.imageErase (s : State) (slot : Nat) : State := { s with flash := s.flash.erase (s.imageBase slot 0) s.slotBytes }

end Sys2Proof.Machine
end

