-- ==== Sys2Proof/Machine/Display.lean ====
section
/-! DEFINITION. The process view display (16_display.md). -/

namespace Sys2Proof.Machine

/-- s with output o changed by f. -/
def State.modDisp (s : State) (o : DOut) (f : DispOut → DispOut) : State := { s with disp := vmod s.disp o f }

/-! ## The timing set in use (R591-R593, R602) -/

/-- The staged timing set of output o: the words at +0x00 to +0x18. -/
def State.dispStaged (s : State) (o : DOut) : List Word := (List.range 7).map fun k => s.reg (R.DISP_OUT_CFG o.val + 4 * k)

/-- Bits hi to lo of word k of the timing set in use. -/
def DispOut.tb (d : DispOut) (k hi lo : Nat) : Nat := bitsOf (d.tim.getD k 0) hi lo
/-- The output runs in command mode. -/
def DispOut.command (d : DispOut) : Bool := d.tb 0 1 1 == 1
/-- TE_EN in use. -/
def DispOut.teEn (d : DispOut) : Bool := d.tb 0 6 6 == 1
/-- The pixels of a line (R592). -/
def DispOut.hTotal (d : DispOut) : Nat := d.tb 2 12 0 + d.tb 3 9 0 + d.tb 2 25 16 + d.tb 3 25 16
/-- The lines of a frame at its programmed timing (R592). -/
def DispOut.vTotal (d : DispOut) : Nat := d.tb 4 12 0 + d.tb 5 9 0 + d.tb 4 25 16 + d.tb 5 25 16
/-- The time n lines take, in 2^-24 ns (R591). -/
def DispOut.lines (d : DispOut) (n : Nat) : Nat := n * d.hTotal * 2 ^ 48 / d.tb 1 23 0
/-- The end of the present frame in 2^-24 ns; a clock with INC = 0 has no edges (R591, R604). -/
def DispOut.frameEnd (d : DispOut) : Option Int :=
  if d.tb 1 23 0 = 0 then none else some (d.frameAt + (d.lines (if d.slow then 2 * d.vTotal else d.vTotal) : Nat))
/-- The start of line COMMIT_LINE of the present frame in 2^-24 ns (R598). -/
def DispOut.latchAt (d : DispOut) : Option Int := if d.tb 1 23 0 = 0 then none else some (d.frameAt + (d.lines d.line : Nat))

/-- An instant in 2^-24 ns has come. -/
def State.pastFx (s : State) (t : Option Int) : Bool := match t with
  | some t => decide (t ≤ (s.now : Int) * 2 ^ 24)
  | none => false

/-- STATE of output o (R608): 0 OFF, 1 RUN, 2 BLANK, 3 PUSH. -/
def State.dispState (s : State) (o : DOut) : Nat := s.get (F.DISP_STAT_STATE o.val)
/-- Output o shares generator 0 (R593). -/
def State.dispSlave (s : State) (o : DOut) : Bool := o == 1 && s.flag F.DISP_CTRL_LOCK_ACT
/-- Output o runs in video mode with a generator of its own. -/
def State.dispVideo (s : State) (o : DOut) : Bool := s.dispState o == 1 && !s.disp[o].command && !s.dispSlave o
/-- A display event (R606). -/
def State.dispEvent (s : State) (o : DOut) (kind : Nat) : State :=
  s.raise (152 + o.val) (kind + 65536 * (s.get (F.DISP_FRAME_FRAME o.val) % 65536))
/-- The bus of a command output is idle (R601, R602). -/
def State.busIdle (s : State) (o : DOut) : Bool := s.dispState o == 1 && s.disp[o].command && s.past s.disp[o].queueEnd
/-- The output reduces its refresh (R604). -/
def State.dispSlow (s : State) (o : DOut) : Bool := decide (1 ≤ s.stage) && s.disp[o].tb 0 9 9 == 1

/-! ## Planes and composition (R594, R595) -/

/-- The shadows of output o: DIRTY0, DIRTY1 and five words of each plane. -/
def State.dispShadows (s : State) (o : DOut) : List Word :=
  [s.reg (R.DISP_DIRTY0 o.val), s.reg (R.DISP_DIRTY1 o.val)] ++
    [0, 1].flatMap fun p => (List.range 5).map fun k => s.reg (R.DISP_PL_CTRL o.val p + 4 * k)

/-- Bits hi to lo of word k of plane p in a list of shadows. -/
def planeBits (l : List Word) (p k hi lo : Nat) : Nat := bitsOf (l.getD (2 + 5 * p + k) 0) hi lo

/-- An octet of a colour: 2 red, 1 green, 0 blue. -/
def colourOf (rgb c : Nat) : Nat := rgb / 256 ^ c % 256
/-- A value of w bits widened to 8 by repeating its high bits. -/
def widen (w v : Nat) : Nat := v * 2 ^ (8 - w) + v / 2 ^ (2 * w - 8)

/-- A pixel at Silo offset a as 24-bit RGB, and its top octet (R594). What a word with an uncorrectable error gives is open (log entry
46). -/
def State.pixelAt (s : State) (fmt a : Nat) : Nat × Nat :=
  let v := if s.silo.badIn a (fmtSize fmt) then (Config.freeValue s.free (2 ^ 26 + a)).toNat % 256 ^ fmtSize fmt else s.silo.read a (fmtSize fmt)
  match fmt with
  | 0 => (v * 0x10101, 0)
  | 1 => (v / 256 * 0x10101, 0)
  | 2 => (v % 256 * 65536 + v / 256 % 256 * 256 + v / 65536, 0)
  | 3 => (v % 2 ^ 24, v / 2 ^ 24)
  | _ => (widen 5 (v / 2048) * 65536 + widen 6 (v / 32 % 64) * 256 + widen 5 (v % 32), 0)

/-- What plane p makes of the colour beneath at panel pixel (x, y) (R594, R595). -/
def State.planeOver (s : State) (l : List Word) (p x y below : Nat) : Nat :=
  let px := planeBits l p 3 12 0
  let py := planeBits l p 3 28 16
  if planeBits l p 0 0 0 = 0 ∨ x < px ∨ y < py ∨ px + planeBits l p 4 12 0 ≤ x ∨ py + planeBits l p 4 28 16 ≤ y then below
  else
    let fmt := planeBits l p 0 3 1
    let (c, top) := s.pixelAt fmt (planeBits l p 1 26 0 + planeBits l p 2 15 0 * (y - py) + fmtSize fmt * (x - px))
    if p = 0 then c
    else
      let alpha := planeBits l p 0 15 8
      let a := if planeBits l p 0 4 4 = 1 ∧ fmt = 3 then (alpha * top + 127) / 255 else alpha
      let mix (k : Nat) : Nat := (a * colourOf c k + (255 - a) * colourOf below k + 127) / 255
      mix 2 * 65536 + mix 1 * 256 + mix 0

/-- The composed pixel at panel pixel (x, y) of output o, planes over BG (R594). -/
def State.dispPixel (s : State) (o : DOut) (x y : Nat) : Nat :=
  let l := s.disp[o].used
  s.planeOver l 1 x y (s.planeOver l 0 x y (s.disp[o].bg.toNat))

/-- A video pixel: column x and line y of output o, with output 1 the right half of a shared panel (R593). -/
def State.videoPixel (s : State) (o : DOut) (x y : Nat) : Nat :=
  if s.dispSlave o then s.planeOver s.disp[(0 : DOut)].used 1 (s.disp[(0 : DOut)].tb 2 12 0 + x) y
    (s.planeOver s.disp[(0 : DOut)].used 0 (s.disp[(0 : DOut)].tb 2 12 0 + x) y s.disp[o].bg.toNat)
  else s.dispPixel o x y

/-- The planes that output o has in use are fetched (R38): single-bit errors are corrected and counted. -/
def State.planesFix (s : State) (o : DOut) : State :=
  forEach [0, 1] s fun s p =>
    let l := s.disp[o].used
    let n := fmtSize (planeBits l p 0 3 1)
    if planeBits l p 0 0 0 = 1 then
      s.siloFix (planeBits l p 1 26 0) (planeBits l p 2 15 0 * (planeBits l p 4 28 16 - 1) + planeBits l p 4 12 0 * n)
    else s

/-! ## The balls (R590-R592, R599) -/

/-- The output balls of a display output: D[23:0], and by their names in video mode PCLK, HS, VS, DE (R590). -/
structure DispBalls where
  d : BitVec 24
  pclk : Bool
  hs : Bool
  vs : Bool
  de : Bool
  deriving DecidableEq, Repr

/-- Whole pixels of a generator since the start of its frame, in halves (R591). -/
def State.halfPixels (s : State) (d : DispOut) : Nat := ((s.now : Int) * 2 ^ 24 - d.frameAt).toNat * d.tb 1 23 0 * 2 / 2 ^ 48

/-- The balls of a video output (R590-R592, R596): lines of active pixels, front porch, sync and back porch, lines of a frame likewise. -/
def State.videoBalls (s : State) (o : DOut) : DispBalls :=
  let gen := s.disp[if s.dispSlave o then (0 : DOut) else o]
  let d := s.disp[o]
  let pol (k : Nat) : Bool := (d.tb 0 k k) == 1
  let half := s.halfPixels gen
  let col := half / 2 % gen.hTotal
  let line := half / 2 / gen.hTotal
  let hs := gen.tb 2 12 0 + gen.tb 3 9 0
  let vs := gen.tb 4 12 0 + gen.tb 5 9 0 + (if gen.slow then gen.vTotal else 0)
  if s.dispState o = 1 ∧ gen.tb 1 23 0 ≠ 0 then
    let de := decide (col < gen.tb 2 12 0 ∧ line < gen.tb 4 12 0)
    let dark := match d.dark with
      | some (l, c) => decide (line = l ∧ c ≤ col)
      | none => false
    { d := if de then (if dark then d.bg.setWidth 24 else BitVec.ofNat 24 (s.videoPixel o col line)) else 0
      pclk := (half % 2 == 1) != pol 5
      hs := decide (hs ≤ col ∧ col < hs + gen.tb 2 25 16) != pol 2
      vs := decide (vs ≤ line ∧ line < vs + gen.tb 4 25 16) != pol 3
      de := de != pol 4 }
  else ⟨0, false, pol 2, pol 3, pol 4⟩

/-- The balls of a command output (R590, R599): WRn low in the first half of a bus cycle, CSn low while words are sent, RDn high. -/
def State.commandBalls (s : State) (o : DOut) : DispBalls :=
  let d := s.disp[o]
  let cyc := d.tb 6 9 0
  match if d.busAt ≤ s.now then d.bus[(s.now - d.busAt) / cyc]? else none with
  | some (dcx, w) => ⟨w.setWidth 24, decide (cyc ≤ 2 * ((s.now - d.busAt) % cyc)), false, true, dcx⟩
  | none => ⟨0, true, true, true, false⟩

/-- The output balls of output o (R590). -/
def State.dispBalls (s : State) (o : DOut) : DispBalls :=
  let d := if s.disp[o].tim.isEmpty then { s.disp[o] with tim := s.dispStaged o } else s.disp[o]
  let s := s.modDisp o fun _ => d
  if d.command then s.commandBalls o else s.videoBalls o

/-! ## Commits (R597, R598) -/

/-- Enabled plane p of the shadows of output o is refused. -/
def State.planeBad (s : State) (o : DOut) (p : Nat) : Bool :=
  let l := s.dispShadows o
  let fmt := planeBits l p 0 3 1
  let w := planeBits l p 4 12 0
  let h := planeBits l p 4 28 16
  let stride := planeBits l p 2 15 0
  planeBits l p 0 0 0 == 1 && (decide (5 ≤ fmt ∨ w = 0 ∨ h = 0 ∨ stride < w * fmtSize fmt) ||
    decide (siloSize < planeBits l p 1 26 0 + stride * (h - 1) + w * fmtSize fmt))

/-- The timing set that says how output o stands: the one in use, or the staged one while it is off. -/
def State.dispTim (s : State) (o : DOut) : DispOut := if s.disp[o].tim.isEmpty then { s.disp[o] with tim := s.dispStaged o } else s.disp[o]

/-- The rectangle of a command output is refused. -/
def State.rectBad (s : State) (o : DOut) : Bool :=
  let d := s.dispTim o
  let x0 := s.get (F.DISP_DIRTY0_X0 o.val)
  let y0 := s.get (F.DISP_DIRTY0_Y0 o.val)
  let x1 := s.get (F.DISP_DIRTY1_X1 o.val)
  let y1 := s.get (F.DISP_DIRTY1_Y1 o.val)
  d.command && decide (x1 < x0 ∨ y1 < y0 ∨ d.tb 2 12 0 ≤ x1 ∨ d.tb 4 12 0 ≤ y1)

/-- A write of 1 to COMMIT of output o (R597, R600): with a push in progress it waits for the next. -/
def State.dispCommit (s : State) (o : DOut) : State :=
  if s.dispSlave o then s
  else if s.dispState o = 3 then s.modDisp o fun d => { d with again := true, commitAt := s.now }
  else if s.flag (F.DISP_STAT_COMMIT_PEND o.val) then s
  else if s.planeBad o 0 || s.planeBad o 1 || s.rectBad o then s.setFlag F.DISP_CTRL_ERR true
  else (s.setFlag (F.DISP_STAT_COMMIT_PEND o.val) true).modDisp o fun d =>
    { d with commitAt := s.now, late := s.dispVideo o && s.pastFx d.latchAt, waitTe := true, teFrom := s.now }

/-- COMMIT (R597). -/
def execCommit (who : Reader) (o : DOut) (s : State) : Host.Outcome State Fault Refusal :=
  .next (s.ask 30 (.commit who o) fun s => s.dispCommit o)

/-- COMMIT_LATCH (R598): at the start of line COMMIT_LINE; a commit that missed it in its frame is LATE. -/
def execCommitLatch (o : DOut) (s : State) : Host.Outcome State Fault Refusal :=
  .next (
    let d := s.disp[o]
    if s.dispVideo o && s.flag (F.DISP_STAT_COMMIT_PEND o.val) && d.latched.isNone && s.pastFx d.latchAt &&
        (match d.latchAt with
          | some t => decide ((d.commitAt : Int) * 2 ^ 24 < t)
          | none => false) then
      let l := s.dispShadows o
      let s := s.modDisp o fun d => { d with latched := some l, late := false }
      if d.late then (s.setFlag (F.DISP_STAT_LATE o.val) true).dispEvent o 2 else s
    else s)

/-- LINE_UNDERRUN (R596): BG for the rest of the line. -/
def execLineUnderrun (o : DOut) (s : State) : Host.Outcome State Fault Refusal :=
  .next (
    if s.dispState o = 1 ∧ s.disp[o].command = false then
      let first := !s.disp[o].reported
      let gen := s.disp[if s.dispSlave o then (0 : DOut) else o]
      let n := s.halfPixels gen / 2
      let s := (s.count (F.DISP_STAT_UNDERRUN o.val)).modDisp o fun d => { d with reported := true, dark := some (n / gen.hTotal, n % gen.hTotal) }
      if first then s.dispEvent o 4 else s
    else s)

/-! ## Frames (R592, R598, R603, R604) -/

/-- A pending commit is dropped (R603). -/
def State.dropCommit (s : State) (o : DOut) : State :=
  let s := s.modDisp o fun d => { d with latched := none, late := false, again := false, waitTe := false }
  if s.flag (F.DISP_STAT_COMMIT_PEND o.val) then
    ((s.setFlag (F.DISP_STAT_COMMIT_PEND o.val) false).setFlag (F.DISP_STAT_DROPPED o.val) true).dispEvent o 3
  else s

/-- Output o blanks (R603). -/
def State.blankOut (s : State) (o : DOut) : State :=
  (if s.dispState o = 0 then s else s.put (F.DISP_STAT_STATE o.val) 2).dropCommit o

/-- Output o has come to its own frame end, or its bus is idle (R603). -/
def State.atFrameEnd (s : State) (o : DOut) : Bool :=
  if s.disp[o].command then s.busIdle o
  else s.dispState o == 1 && s.pastFx (if s.dispSlave o then s.disp[(0 : DOut)].frameEnd else s.disp[o].frameEnd)

/-- A timing change that waits blanks each output that has come to its end. -/
def State.blankDue (s : State) : State :=
  if s.flag F.DISP_CTRL_TPEND then forEach [(1 : DOut), 0] s fun s o => if s.atFrameEnd o then s.blankOut o else s else s

/-- What holds for a frame that starts at t: BG, COMMIT_LINE, its length (R604). -/
def State.frameSet (s : State) (o : DOut) (t : Int) : State :=
  let bg := s.reg (R.DISP_BG o.val)
  let line := s.get (F.DISP_COMMIT_LINE_LINE o.val)
  let slow := s.dispSlow o
  s.modDisp o fun d => { d with bg := bg, line := line, slow := slow, frameAt := t, reported := false, dark := none }

/-- Output o starts a frame at t. -/
def State.frameBegin (s : State) (o : DOut) (t : Int) : State :=
  let s := (s.frameSet o t).put (F.DISP_FRAME_FRAME o.val) (s.get (F.DISP_FRAME_FRAME o.val) + 1)
  match s.disp[o].latched with
  | none => s.planesFix o
  | some l =>
    let s := ((s.modDisp o fun d => { d with used := l, latched := none }).planesFix o).setFlag (F.DISP_STAT_COMMIT_PEND o.val) false
    if s.flag (F.DISP_OUT_CFG_EV_APPLY o.val) then s.dispEvent o 1 else s

/-- DISPLAY_FRAME_START (R592, R598): at the end of the frame before; a timing change that waits blanks the output instead
(R603). With LOCK both halves start (R593). -/
def execDisplayFrameStart (o : DOut) (s : State) : Host.Outcome State Fault Refusal :=
  .next (
    if s.flag F.DISP_CTRL_TPEND then s.blankDue
    else match s.disp[o].frameEnd with
      | none => s
      | some t =>
        if s.dispVideo o && s.pastFx (some t) then
          let s := s.frameBegin o t
          if s.flag F.DISP_CTRL_LOCK_ACT then s.frameBegin 1 t else s
        else s)

/-! ## Command mode (R599-R602, R604) -/

/-- Pixels as words with CFMT = 1: three for every two pixels (R600). -/
def rgbPairs : List Nat → List (Bool × BitVec 16)
  | p :: q :: t =>
    (true, BitVec.ofNat 16 (p / 256)) :: (true, BitVec.ofNat 16 (p % 256 * 256 + q / 65536)) :: (true, BitVec.ofNat 16 (q % 65536)) :: rgbPairs t
  | [p] => [(true, BitVec.ofNat 16 (p / 256)), (true, BitVec.ofNat 16 (p % 256 * 256))]
  | [] => []

/-- The words of one push (R600): queue, column window, row window, pixels. -/
def State.pushWords (s : State) (o : DOut) : List (Bool × BitVec 16) :=
  let d := s.disp[o]
  let x0 := bitsOf (d.used.getD 0 0) 12 0
  let y0 := bitsOf (d.used.getD 0 0) 28 16
  let x1 := bitsOf (d.used.getD 1 0) 12 0
  let y1 := bitsOf (d.used.getD 1 0) 28 16
  let data (v : Nat) : Bool × BitVec 16 := (true, BitVec.ofNat 16 v)
  let window (op a c : Nat) : List (Bool × BitVec 16) :=
    (false, BitVec.ofNat 16 op) :: [a / 256, a % 256, c / 256, c % 256].map data
  let pixels := (List.range (y1 + 1 - y0)).flatMap fun y => (List.range (x1 + 1 - x0)).map fun x => s.dispPixel o (x0 + x) (y0 + y)
  let body := if d.tb 0 8 8 = 1 then rgbPairs pixels
    else pixels.map fun p => data (colourOf p 2 / 8 * 2048 + colourOf p 1 / 4 * 32 + colourOf p 0 / 8)
  (d.cmdq.map fun e => (e.1, e.2.setWidth 16)) ++ window 0x2A x0 x1 ++ window 0x2B y0 y1 ++ [(false, 0x2C)] ++ body

/-- A push of output o begins (R600): the shadows are latched, one word a bus cycle. -/
def State.pushBegin (s : State) (o : DOut) : State :=
  let l := s.dispShadows o
  let bg := s.reg (R.DISP_BG o.val)
  let s := (s.modDisp o fun d => { d with used := l, bg := bg, waitTe := false }).planesFix o
  let words := s.pushWords o
  let stop := s.now + words.length * s.disp[o].tb 6 9 0
  let t := s.now
  ((s.put (F.DISP_STAT_STATE o.val) 3).modDisp o fun d =>
    { d with cmdq := [], pushEnd := stop, teEdges := 0, lastPush := some t, bus := words, busAt := t }).send (.panel o words)

/-- A push of output o may begin as far as the bus and R604 go: pushes on tearing edges count edges, others time. -/
def State.pushFree (s : State) (o : DOut) : Bool :=
  s.busIdle o && s.flag (F.DISP_STAT_COMMIT_PEND o.val) && !s.flag F.DISP_CTRL_TPEND &&
    (s.stage == 0 || (if s.disp[o].teEn then decide (2 ≤ s.disp[o].teEdges) else s.after s.disp[o].lastPush 33000000))

/-- PUSH_START (R600, R601): the bus is idle, and no tearing edge is waited for. -/
def execPushStart (o : DOut) (s : State) : Host.Outcome State Fault Refusal :=
  .next (if s.pushFree o && !(s.disp[o].teEn && s.disp[o].waitTe) then s.pushBegin o else s)

/-- TE_EDGE (R601, R604): an active edge. -/
def execTeEdge (o : DOut) (s : State) : Host.Outcome State Fault Refusal :=
  .next (
    let t := s.now
    let s := s.modDisp o fun d => { d with teEdges := min 2 (d.teEdges + 1), teFrom := t }
    if s.disp[o].teEn && s.flag (F.DISP_STAT_COMMIT_PEND o.val) && (s.stage == 0 || decide (2 ≤ s.disp[o].teEdges)) &&
        s.dispState o == 1 then
      let s := s.modDisp o fun d => { d with waitTe := false }
      if s.pushFree o then s.pushBegin o else s
    else s)

/-- TE_MISS (R601): 100 ms without an active edge. -/
def execTeMiss (o : DOut) (s : State) : Host.Outcome State Fault Refusal :=
  .next (
    let d := s.disp[o]
    if s.dispState o = 1 ∧ d.command ∧ d.teEn ∧ d.waitTe ∧ s.flag (F.DISP_STAT_COMMIT_PEND o.val) ∧ s.past (d.teFrom + 100000000) then
      let s := ((s.setFlag (F.DISP_STAT_TE_MISS o.val) true).dispEvent o 6).modDisp o fun d => { d with waitTe := false, teEdges := 2 }
      if s.pushFree o then s.pushBegin o else s
    else s)

/-- PUSH_COMPLETE (R600): COMMIT_PEND falls, unless one more commit waits; a timing change that waits blanks the output. -/
def execPushComplete (o : DOut) (s : State) : Host.Outcome State Fault Refusal :=
  .next (
    if s.dispState o = 3 ∧ s.past s.disp[o].pushEnd then
      let again := s.disp[o].again
      let s := (s.put (F.DISP_STAT_STATE o.val) 1).setFlag (F.DISP_STAT_COMMIT_PEND o.val) again
      let s := s.put (F.DISP_FRAME_FRAME o.val) (s.get (F.DISP_FRAME_FRAME o.val) + 1)
      (s.modDisp o fun d => { d with again := false, waitTe := again, teFrom := d.commitAt }).blankDue
    else s)

/-- A write to DISP_CMDQ of output o (R602). -/
def State.cmdqWrite (s : State) (o : DOut) (v : Word) : State :=
  if 64 ≤ s.disp[o].cmdq.length then s.setFlag F.DISP_CTRL_ERR true
  else s.modDisp o fun d => { d with cmdq := d.cmdq ++ [(v.getLsbD 8, v.setWidth 8)] }

/-- DISP_CMDQ_WRITE (R602). -/
def execDispCmdqWrite (who : Reader) (o : DOut) (v : BitVec 32) (s : State) : Host.Outcome State Fault Refusal :=
  .next (s.ask 30 (.cmdq who o v) fun s => s.cmdqWrite o v)

/-- CMDQ_SEND (R602): with no commit pending, under its own CSn low period. -/
def execCmdqSend (o : DOut) (s : State) : Host.Outcome State Fault Refusal :=
  .next (
    if s.busIdle o && !s.disp[o].cmdq.isEmpty && !s.flag (F.DISP_STAT_COMMIT_PEND o.val) && !s.flag F.DISP_CTRL_TPEND then
      let words := s.disp[o].cmdq.map fun e => (e.1, e.2.setWidth 16)
      let stop := s.now + words.length * s.disp[o].tb 6 9 0
      (s.modDisp o fun d => { d with cmdq := [], queueEnd := stop, bus := words, busAt := s.now }).send (.panel o words)
    else s)

/-! ## Changing the timing (R603) -/

/-- A staged timing set is refused: LOCK with a command output, or fewer than three lines of vertical blanking. -/
def State.timingBad (s : State) : Bool :=
  let lock := s.flag F.DISP_CTRL_LOCK
  let few (o : Nat) : Bool := decide (s.get (F.DISP_VTIM1_V_FP o) + s.get (F.DISP_VTIM0_V_SYNC o) + s.get (F.DISP_VTIM1_V_BP o) < 3)
  (lock && (s.flag (F.DISP_OUT_CFG_KIND 0) || s.flag (F.DISP_OUT_CFG_KIND 1))) || few 0 || (!lock && few 1)

/-- A write of 1 to TCOMMIT. -/
def State.timingCommit (s : State) : State :=
  if s.flag F.DISP_CTRL_TPEND || s.timingBad then s.setFlag F.DISP_CTRL_ERR true
  else
    let s := s.setFlag F.DISP_CTRL_TPEND true
    (forEach [(0 : DOut), 1] s fun s o => if s.dispState o = 0 then s.blankOut o else s).blankDue

/-- TCOMMIT (R603): in the supervisor view. -/
def execTcommit (who : Reader) (s : State) : Host.Outcome State Fault Refusal :=
  .next (s.ask 30 (.tcommit who) fun s => if s.supView who then s.timingCommit else s)

/-- Output o takes its timing set: with LOCK that of output 0. A video output stands at line V_TOTAL − 2. -/
def State.takeTiming (s : State) (o : DOut) : State :=
  let lock := s.flag F.DISP_CTRL_LOCK
  let src : DOut := if lock then 0 else o
  let on := s.flag (F.DISP_OUT_CFG_ENABLE src.val)
  let t := (s.now : Int) * 2 ^ 24
  let s := (s.modDisp o fun d => { d with tim := if on then s.dispStaged src else [], queueEnd := 0, pushEnd := 0, teEdges := 2 }).put
    (F.DISP_STAT_STATE o.val) (b2n on)
  if on && !s.disp[o].command then s.frameSet o (t - (s.disp[o].lines (s.disp[o].vTotal - 2) : Nat)) else s

/-- TIMING_APPLIED (R603): every running output has blanked; both start at one instant, without the doubled frame of R604 in
the two lines before the first. -/
def execTimingApplied (s : State) : Host.Outcome State Fault Refusal :=
  .next (
    let s := s.blankDue
    if s.flag F.DISP_CTRL_TPEND && (s.dispState 0 == 0 || s.dispState 0 == 2) && (s.dispState 1 == 0 || s.dispState 1 == 2) then
      let s := (s.takeTiming 0).takeTiming 1
      let s := (s.modDisp 0 fun d => { d with slow := false }).modDisp 1 fun d => { d with slow := false }
      let s := (s.setFlag F.DISP_CTRL_LOCK_ACT (s.flag F.DISP_CTRL_LOCK)).setFlag F.DISP_CTRL_TPEND false
      (s.dispEvent 0 5).dispEvent 1 5
    else s)

/-! ## Writes (R597, R598, R607-R609) -/

/-- COMMIT_LINE of output o after a write: a LINE above V_TOTAL − 2 stores that (R598). -/
def State.commitLineWrite (s : State) (o : DOut) (v : Word) : State :=
  let d := s.dispTim o
  let t := s.plainWrite (R.DISP_COMMIT_LINE o.val) true v
  if d.vTotal - 2 < t.get (F.DISP_COMMIT_LINE_LINE o.val) then t.put (F.DISP_COMMIT_LINE_LINE o.val) (d.vTotal - 2) else t

/-- A shadow at a of output o takes a write, unless a commit is pending (R597). -/
def State.shadowWrite (s : State) (o : DOut) (a : Nat) (sup : Bool) (v : Word) : State :=
  (s.condWrite a sup v (!s.flag (F.DISP_STAT_COMMIT_PEND o.val)) F.DISP_CTRL_ERR).1

/-- A write to the display register at offset ofs (R607-R609). -/
def State.dispWrite (s : State) (ofs : Nat) (sup : Bool) (v : Word) : State :=
  let a := R.DISP_CTRL + ofs
  if ofs = 0 then
    let s := s.plainWrite a sup v
    if pulsed F.DISP_CTRL_TCOMMIT sup v then s.timingCommit else s
  else if 0x100 ≤ ofs ∧ ofs < 0x300 then
    let o : DOut := if ofs < 0x200 then 0 else 1
    let k := ofs % 0x100
    if k = 0x2C then (if v.getLsbD 0 then s.dispCommit o else s)
    else if k = 0x30 then s.cmdqWrite o v
    else if k = 0x1C then (if sup then s.commitLineWrite o v else s)
    else if k = 0x24 ∨ k = 0x28 ∨ 0x40 ≤ k then s.shadowWrite o a sup v
    else s.plainWrite a sup v
  else s.plainWrite a sup v

end Sys2Proof.Machine
end

