-- ==== Sys2Proof/Machine/Housekeeping.lean ====
section
/-! DEFINITION. Housekeeping: the round's decisions, throttle stages, bands, supplies, inputs and lighting
(15_housekeeping_lighting.md R564-R589; 01_architecture.md R28-R34). Temperatures are in 1/8 °C. -/

namespace Sys2Proof.Machine

/-- s with housekeeping changed by f. -/
def State.modHk (s : State) (f : HkSt → HkSt) : State := { s with hk := f s.hk }

/-! ## Sensors (R567-R569) -/

/-- A sensor. -/
abbrev Sensor := Fin 24
/-- STATE of sensor i: 0 VALID, 1 FAILED, 2 RECOVERING. -/
def State.tsState (s : State) (i : Sensor) : Nat := s.get (F.HK_TS_STATE i.val)
/-- The VALUE of sensor i in 1/8 °C. -/
def State.tsValue (s : State) (i : Sensor) : Int := s.int (F.HK_TS_VALUE i.val)
/-- Sensor j is a declared neighbour of i. -/
def State.nbr (s : State) (i j : Sensor) : Bool := decide (i ≠ j) && (s.get (F.HK_TS_NBR_NBR i.val)).testBit j.val
/-- The sensors in order. -/
def allSensors : List Sensor := List.finRange 24
/-- A reading of the round. -/
def HkRound.read (r : HkRound) (i : Sensor) : Option Int := r.ts[i].map (·.toInt)

/-- R568: sensor i fails in the round; its neighbours count by their states before it. -/
def State.tsFails (s : State) (r : HkRound) (i : Sensor) : Bool :=
  match HkRound.read r i with
  | none => true
  | some v =>
    let near := (allSensors.filter fun j => s.nbr i j && s.tsState j == 0).filterMap fun j => HkRound.read r j
    decide (v < -480 ∨ 1280 < v) || (!near.isEmpty && near.all fun w => decide (160 < (v - w).natAbs))

/-- Event 123 with a KIND and a sensor (R583). -/
def State.tempEvent (s : State) (kind sensor : Nat) (thr : Int) : State := s.raise 123 (kind + 256 * sensor + 65536 * wrap 16 thr)

/-- Sensor i after the round (R568, R585), and whether it left VALID (4) or became VALID (5). -/
def State.tsNext (s : State) (r : HkRound) (fails : Bool) (i : Sensor) : State × Nat :=
  let st := s.tsState i
  let s := match HkRound.read r i with
    | some v => s.put (F.HK_TS_VALUE i.val) (wrap 12 (clampI (-2048) 2047 v))
    | none => s
  let s := s.setFlag (F.HK_TS_TRIP i.val) (r.trip.getLsbD i.val)
  if fails then ((s.put (F.HK_TS_STATE i.val) 1).put (F.HK_TS_RUN i.val) 0, if st = 0 then 4 else 0)
  else if st = 0 then (s, 0)
  else
    let n := s.get (F.HK_TS_RUN i.val) + 1
    let s := s.put (F.HK_TS_RUN i.val) n
    if 64 ≤ n then (s.put (F.HK_TS_STATE i.val) 0, 5) else (s.put (F.HK_TS_STATE i.val) 2, 0)

/-- The greatest of the numbers with its place, the first place among equals. -/
def hottest : List (Int × Sensor) → Option (Int × Sensor)
  | [] => none
  | x :: t => some (t.foldl (fun a y => if a.1 < y.1 then y else a) x)

/-- The readings of the VALID sensors. -/
def State.validTs (s : State) : List (Int × Sensor) := (allSensors.filter fun i => s.tsState i == 0).map fun i => (s.tsValue i, i)

/-- The substitute of sensor i (R569). -/
def State.substitute (s : State) (i : Sensor) : Option Int :=
  let v := s.validTs
  let near := v.filter fun x => s.nbr i x.2
  (hottest (if near.isEmpty then v else near)).map fun x => x.1 + 64

/-- What sensor i gives to T_THR (R569). -/
def State.thrOf (s : State) (i : Sensor) : Option (Int × Sensor) :=
  let st := s.tsState i
  if st = 0 then some (s.tsValue i, i)
  else
    let q := s.substitute i
    if st = 1 then q.map fun x => (x, i)
    else some (match q with
      | some x => max x (s.tsValue i)
      | none => s.tsValue i, i)

/-! ## Throttle stages (R570-R573) -/

/-- A threshold of a byte of °C, in 1/8 °C. -/
def State.degrees (s : State) (f : Fld) : Int := 8 * s.int f
/-- T1_ON to T4_ON. -/
def State.onAt (s : State) : List Int :=
  [F.HK_THROTTLE_T1_ON, F.HK_THROTTLE_T2_ON, F.HK_THROTTLE_T3_ON, F.HK_THROTTLE_T4_ON].map s.degrees

/-- RISE_ACT and CRIT_ACT after a round with T_THR = t from sensor w, and their events; WARN (R570). -/
def State.riseCrit (s : State) (t : Int) (w : Nat) : State :=
  let lim := s.get F.HK_LIMITS_RISE_LIM
  let old := s.hk.hist[15]?
  let rose := if lim = 0 then [] else s.validTs.filter fun x => match old with
    | some v => (match v[x.2] with
      | some a => decide ((lim * 128 : Nat) < (x.1 - a) * 125)
      | none => false)
    | none => false
  let quiet := if rose.isEmpty then s.hk.quiet + 1 else 0
  let act := s.flag F.HK_STAT_RISE_ACT
  let act' := !rose.isEmpty || (act && decide (quiet < 16))
  let crit := s.flag F.HK_STAT_CRIT_ACT
  let cool := if t < s.degrees F.HK_LIMITS_CRIT - 8 * (s.get F.HK_LIMITS_HYST : Nat) then s.hk.cool + 1 else 0
  let crit' := decide (s.degrees F.HK_LIMITS_CRIT ≤ t) || (crit && decide (cool < 4))
  let warn := decide (s.degrees F.HK_LIMITS_WARN ≤ t)
  let s := if warn && !s.hk.warned then s.tempEvent 1 w t else s
  let s := if crit' && !crit then s.tempEvent 2 w t else s
  let s := if act' && !act then s.tempEvent 3 ((rose.head?.map (·.2.val)).getD w) t else s
  let s := (s.setFlag F.HK_STAT_RISE_ACT act').setFlag F.HK_STAT_CRIT_ACT crit'
  s.modHk fun h => { h with quiet := quiet, cool := cool, warned := warn }

/-- The demanded stage (R569, R570). -/
def State.demanded (s : State) (t : Int) : Nat :=
  if s.validTs.isEmpty then 4
  else
    let sT := (s.onAt.filter fun x => decide (x ≤ t)).length
    max (max sT (if s.flag F.HK_STAT_RISE_ACT then min 4 (sT + 1) else 0))
      (max (if s.flag F.HK_STAT_CRIT_ACT then 4 else 0) (s.get F.HK_STAT_FLOOR))

/-- The stage becomes n (R571, R572): loop rates follow T3, dispatch looks again below T4. -/
def State.setStage (s : State) (n : Nat) : State :=
  let old := s.stage
  if n = old then s
  else
    let s := (s.put F.HK_STAT_STAGE n).raise 124 (n + 16 * old)
    let s := if (3 ≤ n) ≠ (3 ≤ old) then s.decideRates else s
    if old = 4 then s.searchAgain else s

/-- R571: the stage at the end of the round. -/
def State.stageNext (s : State) (t : Int) : State :=
  let d := s.demanded t
  let k := s.stage
  let hold := allSensors.any fun i => s.tsState i != 0
  let s := s.setFlag F.HK_STAT_HOLD hold
  if k < d then s.setStage d
  else
    let lim := s.onAt.getD (k - 1) 0 - 8 * (s.get F.HK_LIMITS_HYST : Nat)
    if d < k ∧ s.hk.thr.length = 4 ∧ (s.hk.thr.all fun x => decide (x ≤ lim)) = true ∧
        s.flag F.HK_STAT_RISE_ACT = false ∧ s.flag F.HK_STAT_CRIT_ACT = false ∧ hold = false then s.setStage (k - 1) else s

/-! ## Bands (R28-R34) -/

/-- The band of a reading (R28): B4 lies above 105 °C. -/
def bandOf (v : Int) : Nat := if v < 0 then 0 else if v < 400 then 1 else if v < 680 then 2 else if v ≤ 840 then 3 else 4
/-- The lower edge of a band. -/
def bandEdge (n : Nat) : Int := [0, 0, 400, 680, 840].getD n 0

/-- Every beam stops on a fault of the whole device that XK channels answer by a halt (R32, R622). -/
def State.pauseB4 (s : State) : State :=
  let s := if s.pers = 0 then s else forEach (List.finRange 4) s fun s h => if s.chBusy h then s.chHalt h 5 else s
  s.suspendAll.axBandStop

/-- The band becomes n (R29, R31, R32, R34). -/
def State.setBand (s : State) (n : Nat) : State :=
  let old := s.get F.SYS_BAND_BAND
  if n = old then s
  else
    let s := ((s.put F.SYS_BAND_BAND n).setFlag F.SYS_BAND_PAUSED (decide (n = 4))).count F.SYS_BAND_BAND_CHANGES
    let s := (s.showLeff).raise 118 (n + 16 * old)
    if n = 4 then s.pauseB4 else if old = 4 then (s.resumeAll).searchAgain else s

/-- R29, R30: the band at the end of a round; the first round chooses it outright. -/
def State.bandNext (s : State) (first : Bool) : State :=
  match hottest s.validTs with
  | none => (s.modHk fun h => { h with bandRun := 0 }).setBand 4
  | some x =>
    let s := (s.put F.SYS_BAND_TJ_HOT (wrap 8 (x.1.fdiv 8))).put F.SYS_BAND_HOT_SENSOR x.2.val
    let old := s.get F.SYS_BAND_BAND
    let target := bandOf x.1
    if first ∨ old < target then (s.modHk fun h => { h with bandRun := 0 }).setBand target
    else if 0 < old ∧ x.1 ≤ bandEdge old - 16 then
      if s.hk.bandRun + 1 < 4 then s.modHk fun h => { h with bandRun := h.bandRun + 1 }
      else (s.modHk fun h => { h with bandRun := 0 }).setBand (old - 1)
    else s.modHk fun h => { h with bandRun := 0 }

/-! ## Supplies and inputs (R575, R576) -/

/-- A supply monitor after the round, with its event for a new excursion. -/
def State.supply (s : State) (r : HkRound) (i : Fin 16) : State :=
  let n := i.val
  let mv := r.sup[i].toNat
  let low := decide (mv < s.get (F.HK_SUP_LIM_LO n))
  let high := decide (s.get (F.HK_SUP_LIM_HI n) < mv)
  let was := s.flag (F.HK_SUP_LOW n) || s.flag (F.HK_SUP_HIGH n)
  let s := ((s.put (F.HK_SUP_MV n) mv).setFlag (F.HK_SUP_LOW n) low).setFlag (F.HK_SUP_HIGH n) high
  if low || high then
    let s := s.setFlag (F.HK_SUP_LATCH n) true
    if was then s else s.raise 125 (n + 16 * b2n high + 65536 * mv)
  else s

/-- The supplies, and what a low VDD_CORE does (R575). -/
def State.supplies (s : State) (r : HkRound) : State :=
  let vdd : List (Fin 16) := [0, 1, 2, 3]
  let was := vdd.filter fun i => s.flag (F.HK_SUP_LOW i.val)
  let s := forEach (List.finRange 16) s fun s i => s.supply r i
  let good := vdd.all fun i => !s.flag (F.HK_SUP_LOW i.val) && !s.flag (F.HK_SUP_HIGH i.val)
  let s := s.modHk fun h => { h with vddGood := if good then h.vddGood + 1 else 0 }
  if s.holds.vdd then
    (if 4 ≤ s.hk.vddGood then { s with holds := { s.holds with vdd := false } }.resumeAll.searchAgain else s)
  else if was.any fun i => s.flag (F.HK_SUP_LOW i.val) then { s with holds := { s.holds with vdd := true } }.suspendAll
  else s

/-- TEMP of an NTC input (R576), in 1/256 °C. -/
def State.ntc (s : State) (a raw : Nat) : Int :=
  let k := raw / 256
  let p := s.int (F.HK_AIN_LUT_T a k)
  let q := s.int (F.HK_AIN_LUT_T a (k + 1))
  p + rdivAway ((q - p) * (raw % 256 : Nat)) 256

/-- Analogue input a after the round. -/
def State.ainNext (s : State) (r : HkRound) (a : Fin 8) : State :=
  let n := a.val
  let was := s.flag (F.HK_AIN_VALID n)
  let ntc := s.flag (F.HK_AIN_MODE n)
  let s := match r.ain[a] with
    | some v =>
      let ok := !ntc || decide (16 < v.toNat ∧ v.toNat < 4079)
      let s := (s.put (F.HK_AIN_RAW n) v.toNat).setFlag (F.HK_AIN_VALID n) ok
      if ntc then (if ok then s.put (F.HK_AIN_TEMP n) (wrap 16 (s.ntc n v.toNat)) else s) else s.put (F.HK_AIN_TEMP n) 0
    | none => s.setFlag (F.HK_AIN_VALID n) false
  if was && !s.flag (F.HK_AIN_VALID n) then s.raise 126 n else s

/-! ## Lighting (R577-R581) -/

/-- A lighting channel. -/
abbrev Light := Fin 12
/-- Beacon channel n belongs to the group (R589). -/
def State.inGroup (s : State) (n : Light) : Bool := decide (8 ≤ n.val) && (s.get F.HK_BCN_MASK).testBit (n.val - 8)

/-- Every beam acts as though its permit were withdrawn, its gates low through the stop of R26 (R581). -/
def State.inhibit (s : State) : State :=
  forEach allBeams s fun s b =>
    let s := s.setFlag (F.BEAM_LASER_CFG_PERMIT_WAIT b.val) true
    if s.xkOwns b then s.chCut (beamChan b) else if s.beam[b].swaths.isEmpty then s.stopCells b else s.suspendBeam b

/-- A channel is faulted (R580, R581): the code 1 open, 2 over-current, 3 short. -/
def State.lightFault (s : State) (n : Light) (code : Nat) : State :=
  let s := (s.put (F.LT_STAT_FAULT n.val) code).modHk fun h => { h with open_ := h.open_.set n 0, ovr := h.ovr.set n 0 }
  if s.inGroup n then
    if s.flag F.HK_BCN_OFF then s
    else
      let s := ((s.setFlag F.HK_BCN_OFF true).put F.HK_BCN_FAULT_CH n.val).raise 161 n.val
      if s.flag F.HK_BCN_INHIBIT_EN then s.inhibit else s
  else s.raise 160 (n.val + 16 * code)

/-- The current and voltage checks of a round against the L_eff in force during it (R580). -/
def State.lightCheck (s : State) (r : HkRound) (n : Light) : State :=
  let cur := r.cur[n].toNat
  let l := s.get (F.LT_STAT_L_EFF n.val)
  let beacon := decide (8 ≤ n.val)
  let s := s.put (F.LT_STAT_MEAS n.val) (min 8191 cur)
  if s.get (F.LT_STAT_FAULT n.val) ≠ 0 then s
  else
    let open_ := decide (205 ≤ l ∧ (if beacon then 2 * cur else 4 * cur) < l)
    let ovr := if beacon then decide (0 < l ∧ s.get F.HK_BCN_SHORT_V < r.volt[(Fin.ofNat 4 (n.val - 8))].toNat)
      else decide (3 * l + 164 < 2 * cur)
    let a := if open_ then s.hk.open_[n] + 1 else 0
    let b := if ovr then s.hk.ovr[n] + 1 else 0
    let s := s.modHk fun h => { h with open_ := h.open_.set n a, ovr := h.ovr.set n b }
    if 2 ≤ a then s.lightFault n 1 else if 2 ≤ b then s.lightFault n (if beacon then 3 else 2) else s

/-- g in units of 2^-24 and d as a fraction (R578), for a temperature in 1/256 °C. -/
def State.lightGain (s : State) (n : Light) (t : Int) : Nat × Nat × Nat :=
  let g : Int := if s.flag (F.LT_CFG_COMP_EN n.val) then
    clampI 0 (2 ^ 25) (2 ^ 24 + s.int (F.LT_COMP_COEF n.val) * (t - 6400)) else 2 ^ 24
  let knee := 256 * s.int (F.LT_CFG_KNEE n.val)
  let span := 256 * s.get (F.LT_CFG_SPAN n.val)
  if s.flag (F.LT_CFG_DER_EN n.val) = false ∨ t ≤ knee then (g.toNat, 1, 1)
  else if span = 0 then (g.toNat, 0, 1)
  else (g.toNat, (span - (t - knee)).toNat, span)

/-- L_eff, the mode and DERATING of a channel (R578, R579). -/
def State.lightNext (s : State) (n : Light) : State :=
  let a := s.get (F.LT_CFG_AIN n.val)
  let bad := s.flag (F.HK_AIN_MODE a) && !s.flag (F.HK_AIN_VALID a) &&
    (s.flag (F.LT_CFG_COMP_EN n.val) || s.flag (F.LT_CFG_DER_EN n.val))
  let s := if bad && !s.hk.reported[n] then s.raise 163 n.val else s
  let s := s.modHk fun h => { h with reported := h.reported.set n bad }
  let q := if bad then (2 ^ 24, 1, 2) else s.lightGain n (s.int (F.HK_AIN_TEMP a))
  let dark := decide (s.get (F.LT_STAT_FAULT n.val) ≠ 0) || (s.inGroup n && s.flag F.HK_BCN_OFF) ||
    (decide (8 ≤ n.val) && s.flag (F.LT_CFG_SRC n.val) && (s.pins.permit[(Fin.ofNat 4 (n.val - 8))]).isNone)
  let l := if dark then 0 else min (4096 * 2 ^ 24) (s.get (F.LT_LEVEL_LEVEL n.val) * q.1) * q.2.1 / (2 ^ 24 * q.2.2)
  let der := decide (q.2.1 < q.2.2)
  let s := if der && !s.flag (F.LT_STAT_DERATING n.val) then s.raise 162 n.val else s
  ((s.put (F.LT_STAT_L_EFF n.val) l).setFlag (F.LT_STAT_PULSED n.val) (decide (1 ≤ l ∧ l ≤ 818))).setFlag
    (F.LT_STAT_DERATING n.val) der

/-- At the start of its pulse period a channel takes its L_eff into use (R579): every PERIOD µs of TS64. -/
def State.lightStep (s : State) : State :=
  forEach (List.finRange 12) s fun s n =>
    if s.now % (1000 * s.get (F.LT_COMP_PERIOD n.val)) = 0 then
      let l := s.get (F.LT_STAT_L_EFF n.val)
      if s.hk.light[n] = l then s else s.modHk fun h => { h with light := h.light.set n l }
    else s

/-- The width of a pulse in ns: PERIOD × L_eff / 819, to the nearest 10 ns and at least 100 ns (R579). -/
def lightWidth (period l : Nat) : Nat := max 100 (10 * ((2 * (100 * period * l) + 819) / (2 * 819)))

/-- The level that channel n drives now, in 1/4,096 of its full current (R577, R579): L_eff, or 819 within a pulse. -/
def State.lightDrive (s : State) (n : Light) : Nat :=
  let l := s.hk.light[n]
  let period := s.get (F.LT_COMP_PERIOD n.val)
  if l = 0 ∨ 819 ≤ l then l else if s.now % (1000 * period) < lightWidth period l then 819 else 0

/-- Faults of all channels, then their currents. -/
def State.lighting (s : State) (r : HkRound) : State :=
  forEach (List.finRange 12) (forEach (List.finRange 12) s fun s n => s.lightCheck r n) fun s n => s.lightNext n

/-- LT_FAULT_CLEAR (R580): a write of v to LT_STAT of channel n; a 1 in FAULT relights the channel. -/
def execLtFaultClear (who : Reader) (n : Fin 12) (v : BitVec 32) (s : State) : Host.Outcome State Fault Refusal :=
  .next (s.askReg (R.LT_STAT n.val) (.ltFault who n v) fun s => s.plainWrite (R.LT_STAT n.val) (s.supView who) v)

/-- CLR of the beacon group (R581): dark no longer; resumption counts from now. -/
def State.beaconClear (s : State) : State :=
  let was := s.flag F.HK_BCN_OFF
  let s := forEach (List.finRange 12) s fun s n => if s.inGroup n then s.put (F.LT_STAT_FAULT n.val) 0 else s
  let s := (s.setFlag F.HK_BCN_OFF false).put F.HK_BCN_FAULT_CH 0
  if was then s.modHk fun h => { h with inhibitEnd := s.now } else s

/-- BEACON_CLR (R581): a write of CLR in the supervisor view. -/
def execBeaconClr (who : Reader) (s : State) : Host.Outcome State Fault Refusal := .next (if s.supView who then s.beaconClear else s)

/-- A write of v to HK_BCN (R589): CLR, then INHIBIT_EN on a group that is off. -/
def State.beaconWrite (s : State) (sup : Bool) (v : Word) : State :=
  let was := s.beaconInhibit
  let s := s.plainWrite F.HK_BCN_MASK.addr sup v
  let s := if pulsed F.HK_BCN_CLR sup v then s.beaconClear else s
  if s.beaconInhibit && !was then s.inhibit
  else if was && !s.beaconInhibit then s.modHk fun h => { h with inhibitEnd := s.now } else s

/-! ## The round (R564-R566, R574) -/

/-- The sensor that brings thermal shutdown, if the round does (R574). -/
def State.tooHot (s : State) (r : HkRound) : Option Sensor :=
  match s.validTs.filter fun x => decide (1000 ≤ x.1) with
  | x :: _ => some x.2
  | [] =>
    let tripped := allSensors.filter fun i => r.trip.getLsbD i.val
    if 2 ≤ tripped.length then tripped.head? else none

/-- Thermal shutdown (R574): every beam stops, event 127 is staged, and a full reset holds the device. -/
def State.shutDown (s : State) (i : Sensor) : State :=
  let s := forEach allBeams s fun s b => s.stopBeam b
  let s := s.granaryEvent 127 (s.get (F.EVT_ROUTE_SEV 127)) s.now (s.eventData 127 i.val 0 0)
  { s with holds := { s.holds with shutdown := true } }.fullReset 16

/-- T_THR of the round with its sensor; with nothing to give it, it keeps its value (R569). -/
def State.tThr (s : State) : State × Int × Nat :=
  match hottest (allSensors.filterMap fun i => s.thrOf i) with
  | some x => ((s.put F.HK_STAT_T_THR (wrap 8 (x.1.fdiv 8))).put F.HK_STAT_WORST x.2.val, x.1, x.2.val)
  | none => (s, s.hk.thr.head?.getD 0, s.get F.HK_STAT_WORST)

/-- The decisions on temperature: while the supervisor pair is stopped, band and stage hold (R651). The band and stage of the round decide
CUT (R333). -/
def State.tempDecide (s : State) (events : List (Nat × Sensor)) : State :=
  let q := s.tThr
  let s := q.1
  let t := q.2.1
  let s := forEach events s fun s x => s.tempEvent x.1 x.2.val t
  let first := s.hk.roundAt.isNone
  let s := s.modHk fun h => { h with thr := (t :: h.thr).take 4 }
  let s := s.riseCrit t q.2.2
  let s := (if s.time.supDown then s else (s.bandNext first).stageNext t).loopCut
  s.modHk fun h => { h with
    hist := ((Vector.ofFn fun i => if s.tsState i = 0 then some (s.tsValue i) else none) :: h.hist).take 16
    roundAt := some s.now }

/-- A round ends at every TS64 multiple of 8 ms but 0, once (R564). -/
def State.roundDue (s : State) : Bool := decide (((s.hk.roundAt.getD 0) : Nat) / 8000000 < s.now / 8000000)

/-- HK_THERMn is low (R574). -/
def State.thermLow (s : State) : Bool := s.holds.shutdown

/-- HK_ROUND_END (R564-R582): the decisions of a round. -/
def execHkRoundEnd (r : HkRound) (s : State) : Host.Outcome State Fault Refusal :=
  .next (
    if s.roundDue && !s.holds.shutdown then
      let fails := allSensors.map fun i => (i, s.tsFails r i)
      let q := fails.foldl (fun (a : State × List (Nat × Sensor)) x =>
        let n := a.1.tsNext r x.2 x.1
        (n.1, if n.2 = 0 then a.2 else a.2 ++ [(n.2, x.1)])) (s, [])
      match q.1.tooHot r with
      | some i => q.1.shutDown i
      | none =>
        let s := q.1.tempDecide q.2
        let s := s.supplies r
        (forEach (List.finRange 8) s fun s a => s.ainNext r a).lighting r
    else s)

end Sys2Proof.Machine
end

