-- ==== Sys2Proof/Machine/Xk.lean ====
section
/-! DEFINITION. The XK interpreter: list commands and what they do (17_xk_personality.md R619-R628, R630-R633). A channel's path is
in units of 2^-20 head units (log entry 8). -/

namespace Sys2Proof.Machine

/-! ## Ticks (R620) -/

/-- Ticks are emulated. -/
def State.tickEmu (s : State) : Bool := s.flag F.XK_CTRL_TICK_EMU
/-- The first tick not before t, both in units of 125 ps. -/
def State.ceilTick (s : State) (t : Int) : Int :=
  let ph : Int := 8 * (s.get F.XK_CFG_PHASE : Nat)
  cdiv (t - ph) 80000 * 80000 + ph
/-- The first tick whose edges and frames would not be late: 40 ns ahead (R112, R629). -/
def State.nextTick (s : State) : Int := s.ceilTick (s.nowEt + 320)
/-- The chip has XK channels (R611). -/
def State.xkOn (s : State) : Bool := s.pers != 0

/-! ## The channel's stream -/

/-- An element of channel h starts now: its stream stands at its next command's instant, its end point at its position. -/
def State.xkAt (s : State) (h : Chan) : State :=
  let c := s.xk.chan[h]
  s.modTraj (chanBeam h) fun j => { j with hx := c.x * fxOne, hy := c.y * fxOne, hz := 0, stream := max j.stream c.outT }

/-- The channel's next command stands where its stream does. -/
def State.xkTo (s : State) (h : Chan) : State :=
  let t := s.beam[chanBeam h].traj.stream
  s.modChan h fun c => { c with outT := max c.outT t }

/-- The settings of channel h (R627): light shifts in ns, in whole ticks under emulation; settle times of whole ticks. -/
def State.xkSet (s : State) (h : Chan) : Settings :=
  let c := s.xk.chan[h]
  let shift (d : Int) : Int := if s.tickEmu then cdiv d 10 * 10000 else d * 1000
  { s.beam[chanBeam h].set with
    onDelay := shift c.lead, offDelay := shift c.lag
    jumpDelay := c.travelSettle * 10000, markDelay := c.strokeSettle * 10000, polyDelay := c.bendSettle * 10000 }

/-- The open sequence of channel h ends: its fall, unless LIGHT_ON holds the gate, and the settle time (R231, R627). -/
def State.xkEndSeq (s : State) (h : Chan) : State :=
  let b := chanBeam h
  match s.beam[b].traj.seq with
  | none => s
  | some q =>
    let s := if s.xk.chan[h].light then
        (s.modTraj b fun j => { j with seq := none }).addPause b (8 * max 0 (max (q.set.markDelay : Int) q.set.offDelay)) q.set
      else s.endSequence b
    s.xkTo h

/-- Where the next element of channel h starts, after a break (R227, R620): under emulation on a tick that is still ahead. -/
def State.xkStart (s : State) (h : Chan) : State :=
  let b := chanBeam h
  let c := s.xk.chan[h]
  let t := max c.outT s.beam[b].traj.stream
  let t := if s.tickEmu then (if t < s.nowEt + 320 then s.nextTick else s.ceilTick t)
    else if s.beamElements b = false ∧ s.beamEdges b = false ∧ s.beam[b].traj.seq.isNone ∧ t < s.nowEt + s.lminEt then s.nowEt + s.leffEt b
    else t
  (s.modChan h fun c => { c with outT := t }).xkAt h

/-- The power word of channel h from instant t on, where it differs from the last (R630). -/
def State.xkPower (s : State) (h : Chan) (t : Int) : State :=
  let p := s.beam[chanBeam h].set.power
  s.modChan h fun c => if (c.pws.getLast?.map (·.2)).getD 0 = p then c else { c with pws := c.pws ++ [(t, p)] }

/-! ## Motion (R626-R628) -/

/-- The time of a motion of length L units at S/256 units per tick. -/
def State.xkTime (s : State) (L S : Nat) : Int :=
  if s.tickEmu then 80000 * (max 1 (cdivN (256 * L) S) : Nat) else (cdivN (80000 * 256 * L) S : Nat)

/-- An unlit stroke of channel h to (x, y). -/
def State.xkTravel (s : State) (h : Chan) (x y : Nat) : State :=
  let b := chanBeam h
  let s := (s.xkEndSeq h).xkStart h
  let c := s.xk.chan[h]
  let g := s.xkSet h
  let dx := ((x : Int) - c.x).natAbs
  let dy := ((y : Int) - c.y).natAbs
  let t := s.beam[b].traj.stream
  let s := (s.xkPower h t).syncChange b t g
  let s := s.addSeg b .jump t (s.xkTime (isqrtUp (dx * dx + dy * dy)) c.travelRate) (x * fxOne) (y * fxOne) 0 none g
  let s := s.addPause b (8 * (g.jumpDelay : Int)) g
  (s.modChan h fun c => { c with x := x, y := y }).xkTo h

/-- A lit motion of channel h to (x, y): a join of the open sequence, or the first of one (R230, R231, R627). -/
def State.xkLit (s : State) (h : Chan) (x y : Nat) (len : Nat) (arc : Option (Int × Int × Int)) : State :=
  let b := chanBeam h
  let s := match s.beam[b].traj.seq with
    | some q => if q.te < s.xk.chan[h].outT ∨ (s.tickEmu = true ∧ q.te < s.nowEt + 320) then s.xkEndSeq h else s
    | none => s
  let s := s.xkStart h
  let c := s.xk.chan[h]
  let g := s.xkSet h
  let dur := s.xkTime len c.strokeRate
  let kind : SegKind := if arc.isSome then .arc else .mark
  let piece : Seg := ⟨kind, 0, 0, c.x * fxOne, c.y * fxOne, 0, x * fxOne, y * fxOne, 0, arc, g, 0⟩
  let s := match s.beam[b].traj.seq with
    | some q =>
      let a := turnAngle q.dir piece.dirIn
      let s := if a.2 then s else s.addPause b (8 * (q.set.polyDelay : Int)) q.set
      let t := s.beam[b].traj.stream
      let s := ((s.xkPower h t).syncChange b t g).modChange b t q.rise g
      let s := s.addSeg b kind t dur piece.x1 piece.y1 0 arc g
      s.modTraj b fun j => { j with seq := some { q with te := j.stream, dir := piece.dirOut, set := g } }
    | none =>
      let t := s.beam[b].traj.stream
      let s := (s.xkPower h t).syncChange b t g
      let d := 8 * g.onDelay
      let before := s.beam[b].traj.lastGate
      let (rise, s) := if c.light then (t, s) else s.placeRise b (if 0 ≤ d then t + d else t) g
      let s := if d < 0 then s.addPause b (-d) g else s
      let s := s.addSeg b kind s.beam[b].traj.stream dur piece.x1 piece.y1 0 arc g
      s.modTraj b fun j => { j with seq := some ⟨j.stream, rise, piece.dirOut, g, before⟩ }
  (s.modChan h fun c => { c with x := x, y := y }).xkTo h

/-- A pause of n ticks of channel h, the gate high in it or not (R621). -/
def State.xkRest (s : State) (h : Chan) (n : Nat) (lit : Bool) : State :=
  let b := chanBeam h
  let s := (s.xkEndSeq h).xkStart h
  let g := s.xkSet h
  let t := s.beam[b].traj.stream
  let s := if lit && !s.xk.chan[h].light then
      let s := s.xkPower h t
      let (_, s) := s.placeRise b t g
      let (f, s) := s.gateTime b (t + 80000 * (n : Int))
      let s := (s.placeEdge b (cellGate b) { et := f, what := .level false }).placeEdge b (cellMod b) { et := f, what := .off }
      s.modTraj b fun j => { j with lastGate := some f }
    else s
  (s.addPause b (80000 * (n : Int)) g).xkTo h

/-! ## The list (R618, R621, R625) -/

/-- The place of list word i (buffer in bit 14) in the Silo. -/
def State.listAt (s : State) (i : Nat) : Nat := s.get F.XK_CFG_WORK_BASE * 262144 + i / 16384 % 2 * 65536 + 4 * (i % 16384)

/-- A list word; where the work area lies beyond the Silo no rule gives one. -/
def State.listWord (s : State) (i : Nat) : Nat × State :=
  if s.listAt i + 4 ≤ siloSize then s.devRead (s.listAt i) 4 else s.freeVal 40 32

/-- The place of the next word in the same buffer. -/
def listNext (i n : Nat) : Nat := i / 16384 * 16384 + (i + n) % 16384

/-- CH_FETCH of channel h. -/
def State.chFetch (s : State) (h : Chan) : Nat := s.get (F.CH_FETCH_FETCH h.val)
/-- Channel h continues at i. -/
def State.xkGo (s : State) (h : Chan) (i : Nat) : State := s.put (F.CH_FETCH_FETCH h.val) i

/-- Channel h waits (R619). -/
def State.xkWaits (s : State) (h : Chan) (w : XkWait) : State :=
  (s.put (F.CH_STAT_STATE h.val) 2).modChan h fun c => { c with wait := some w }

/-- Channel h runs on; `tick` says that it does at the next tick (R619, R621). -/
def State.xkResume (s : State) (h : Chan) (tick : Bool) : State :=
  let t := s.xk.chan[h].outT
  let t := if tick then s.ceilTick (max (t + 1) (s.nowEt + 320)) else t
  (s.put (F.CH_STAT_STATE h.val) 1).modChan h fun c => { c with wait := none, outT := t }

/-- Every channel that waits at a SYNC with this mask continues, once each channel of the mask that runs or waits has come to
one (R621). -/
def State.xkSync (s : State) (mask : Nat) : State :=
  let here (h : Chan) : Bool := decide (s.xk.chan[h].wait = some (.sync mask))
  if (List.finRange 4).all fun h => !(mask.testBit h.val && s.chBusy h) || here h then
    let t := (List.finRange 4).foldl (fun (n : Int) h => if here h then max n s.xk.chan[h].outT else n) (0 : Int)
    forEach (List.finRange 4) s fun s h =>
      if here h then (s.modChan h fun c => { c with outT := max c.outT t }).xkResume h true else s
  else s

/-- Channel h goes to the other buffer if that is READY (R624). -/
def State.xkSwapNow (s : State) (h : Chan) : State :=
  let old := s.chFetch h / 16384 % 2
  let ready (n : Nat) : Fld := if n = 0 then F.XK_BUF_READY0 else F.XK_BUF_READY1
  if s.flag (ready (1 - old)) then
    let s := (s.setFlag (ready old) false).xkGo h ((1 - old) * 16384)
    ((s.xkInt (12 + h.val)).raise (16 + h.val) (2 + 16 * old)).xkResume h true
  else s

/-- A channel that waits continues once its condition holds (R619, R624, R631). PAUSE ends by CONTINUE. -/
def State.xkCheck (s : State) (h : Chan) : State :=
  match s.xk.chan[h].wait with
  | some (.sync m) => s.xkSync m
  | some .swap => s.xkSwapNow h
  | some (.ax a) => if s.axState ⟨2 + a.val, by omega⟩ = axIDLE then s.xkResume h false else s
  | some (.var v) => if s.get (F.XK_V_V v.toNat) ≠ 0 then s.xkResume h false else s
  | some .t4 => if s.stage < 4 then s.xkResume h false else s
  | some .idle => if s.xk.chan[h].outT ≤ s.nowEt + s.leffEt (chanBeam h) then s.xkResume h false else s
  | some .pause | none => s

/-- One list command of `words` words on channel h, if it runs: CH_PC and CH_FETCH, then its effect; non-zero unnamed bits
halt the channel (R621, R622). -/
def State.xkCmd (s : State) (h : Chan) (words : Nat) (bad : Bool) (f : State → State) : State :=
  if s.xkOn && s.chRuns h then
    let b := chanBeam h
    let pc := s.chFetch h
    let t := if s.tickEmu ∧ s.xk.chan[h].outT < s.nowEt + 320 then s.nextTick else s.xk.chan[h].outT
    let now := s.nowEt
    let s := s.modChan h fun c => { c with
      outT := t, pcs := datedFrom (c.pcs ++ [(t, pc)]) now, zs := datedFrom c.zs now, pws := datedFrom c.pws now }
    let s := s.xkGo h (listNext pc words)
    if bad then s.chHalt h 1 else ((f s).prunePath b).pump b
  else s

/-- Some bit of A outside the mask of named bits is set. -/
def unnamed (a : BitVec 24) (named : Nat) : Bool := decide (a.toNat &&& (0xFFFFFF - named) ≠ 0)

/-- The AX number of an XK axis (R611). -/
def xkAxis (a : BitVec 24) : Axis := if a.getLsbD 0 then 3 else 2

/-- A command to an XK axis (R621); refused, it halts the channel and sets the axis's bit. No rule gives the KIND of that event
(R412, R631, R633). -/
def State.xkAxGive (s : State) (h : Chan) (a : Axis) (cmd : Nat) (arg : Int) : State :=
  let s := s.axGive a cmd arg false
  if s.get (F.AX_CMD_RESULT a.val) ≤ 1 then s
  else
    let (k, s) := s.freeVal 41 4
    ((s.xkInt (20 + (a.val - 2))).axEvent a k).chHalt h 6

/-- MAX_SPEED of an XK axis: n full steps/s (R616, R621). -/
def State.xkSpeed (s : State) (a : Axis) (n : Nat) : State := s.axSpeedWrite a (BitVec.ofNat 32 (min (max 1 n * 65536) 0xFFFFFFFF))
/-- ACCEL of an XK axis: n full steps/s² (R384). -/
def State.xkAccel (s : State) (a : Axis) (n : Nat) : State := s.axAccelWrite a (BitVec.ofNat 32 (min (n * 256) 0xFFFFFFFF))

/-! ## The commands (R621) -/

/-- NOP (R621). -/
def State.xkNop (s : State) (h : Chan) (a : BitVec 24) : State := s.xkCmd h 1 (unnamed a 0) fun s => s
/-- FINISH (R621, R633). -/
def State.xkFinish (s : State) (h : Chan) (a : BitVec 24) : State :=
  let pc := s.chFetch h
  s.xkCmd h 1 (unnamed a 0) fun s => (((s.xkEndSeq h).put (F.CH_STAT_STATE h.val) 0).xkInt h.val).raise (16 + h.val) (1 + 65536 * pc)
/-- BRANCH (R621). -/
def State.xkBranch (s : State) (h : Chan) (a : BitVec 24) : State := s.xkCmd h 1 (unnamed a 0x7FFF) fun s => s.xkGo h a.toNat
/-- CALL (R621, R622). -/
def State.xkCall (s : State) (h : Chan) (a : BitVec 24) : State := s.xkCmd h 1 (unnamed a 0x7FFF) fun s =>
  if 8 ≤ s.xk.chan[h].stack.length then s.chHalt h 2
  else
    let r := s.chFetch h
    (s.modChan h fun c => { c with stack := r :: c.stack }).xkGo h a.toNat
/-- RETURN (R621, R622). -/
def State.xkReturn (s : State) (h : Chan) (a : BitVec 24) : State := s.xkCmd h 1 (unnamed a 0) fun s =>
  match s.xk.chan[h].stack with
  | [] => s.chHalt h 2
  | r :: t => (s.modChan h fun c => { c with stack := t }).xkGo h r
/-- LOOP (R621, R622): a count of 0 is no count. -/
def State.xkLoop (s : State) (h : Chan) (a : BitVec 24) : State := s.xkCmd h 1 (unnamed a 0xFFFF || a == 0) fun s =>
  if 4 ≤ s.xk.chan[h].loops.length then s.chHalt h 2
  else
    let r := s.chFetch h
    s.modChan h fun c => { c with loops := (r, a.toNat) :: c.loops }
/-- AGAIN (R621, R622). -/
def State.xkAgain (s : State) (h : Chan) (a : BitVec 24) : State := s.xkCmd h 1 (unnamed a 0) fun s =>
  match s.xk.chan[h].loops with
  | [] => s.chHalt h 2
  | (r, n) :: t => if n ≤ 1 then s.modChan h fun c => { c with loops := t } else (s.modChan h fun c => { c with loops := (r, n - 1) :: t }).xkGo h r
/-- IDLE_T (R619, R621). -/
def State.xkIdleT (s : State) (h : Chan) (a : BitVec 24) : State := s.xkCmd h 1 false fun s =>
  if a = 0 then s else (s.xkRest h a.toNat false).xkWaits h .idle
/-- SYNC (R619, R621). -/
def State.xkSyncCmd (s : State) (h : Chan) (a : BitVec 24) : State := s.xkCmd h 1 (unnamed a 0xF) fun s =>
  ((s.xkEndSeq h).xkWaits h (.sync a.toNat)).xkSync a.toNat
/-- PAUSE (R619, R621). -/
def State.xkPause (s : State) (h : Chan) (a : BitVec 24) : State := s.xkCmd h 1 (unnamed a 0) fun s => (s.xkEndSeq h).xkWaits h .pause
/-- IRQ (R621, R633). -/
def State.xkIrq (s : State) (h : Chan) (a : BitVec 24) : State := s.xkCmd h 1 (unnamed a 3) fun s =>
  (s.xkInt (16 + a.toNat % 4)).raise (196 + a.toNat % 4) h.val
/-- WAIT_AX (R621). -/
def State.xkWaitAx (s : State) (h : Chan) (a : BitVec 24) : State := s.xkCmd h 1 (unnamed a 1) fun s =>
  if s.axState (xkAxis a) = axIDLE then s else (s.xkEndSeq h).xkWaits h (.ax (if a.getLsbD 0 then 1 else 0))
/-- WAIT_V (R621). -/
def State.xkWaitV (s : State) (h : Chan) (a : BitVec 24) : State := s.xkCmd h 1 (unnamed a 0xFF) fun s =>
  if s.get (F.XK_V_V (a.toNat % 256)) ≠ 0 then s else (s.xkEndSeq h).xkWaits h (.var (a.setWidth 8))
/-- SWAP (R624). -/
def State.xkSwap (s : State) (h : Chan) (a : BitVec 24) : State := s.xkCmd h 1 (unnamed a 0) fun s => ((s.xkEndSeq h).xkWaits h .swap).xkSwapNow h
/-- A target coordinate (R621, R626). -/
def xkTarget (rel : Bool) (old v : Nat) : Nat := if rel then (clampI 0 65535 ((old : Int) + sgn 16 v)).toNat else v % 65536
/-- STROKE (R621, R626, R627); in stage T4 the channel pauses before an unlit one, in RUN, and reads it again after (R619, R631). -/
def State.xkStroke (s : State) (h : Chan) (lit rel : Bool) (a : BitVec 24) (w : BitVec 32) : State :=
  let pc := s.chFetch h
  s.xkCmd h 2 (unnamed a 0xFFFF || decide (65536 ≤ w.toNat)) fun s =>
    let c := s.xk.chan[h]
    let x := xkTarget rel c.x (a.toNat % 65536)
    let y := xkTarget rel c.y (w.toNat % 65536)
    if lit then
      let dx := ((x : Int) - c.x).natAbs
      let dy := ((y : Int) - c.y).natAbs
      s.xkLit h x y (isqrtUp (dx * dx + dy * dy)) none
    else if s.stage = 4 then ((s.xkEndSeq h).xkGo h pc).modChan h fun c => { c with wait := some .t4 }
    else s.xkTravel h x y
/-- CURVE (R203, R621, R626): an arc of no radius or no sweep moves nothing. -/
def State.xkCurve (s : State) (h : Chan) (rel : Bool) (a : BitVec 24) (w : BitVec 32) : State := s.xkCmd h 2 (unnamed a 0xFFFF) fun s =>
  let c := s.xk.chan[h]
  let centre (old v : Nat) : Int := if rel then (old : Int) + sgn 16 v else v
  let cx := centre c.x (a.toNat % 65536)
  let cy := centre c.y (w.toNat % 65536)
  let sweep : Int := 65536 * sgn 16 (w.toNat / 65536)
  let r2 := (((c.x : Int) - cx) * (c.x - cx) + ((c.y : Int) - cy) * (c.y - cy)).toNat
  if sweep = 0 ∨ r2 = 0 then s
  else
    let q := turn c.x c.y cx cy sweep (2 ^ 32)
    let len := cdivN (isqrtUp (r2 * 2 ^ 64) * twoPiFx * sweep.natAbs) (2 ^ 128)
    s.xkLit h (clampI 0 65535 q.1).toNat (clampI 0 65535 q.2).toNat len (some (cx * fxOne, cy * fxOne, sweep))
/-- FOCUS (R621): from the set-point after this tick's. -/
def State.xkFocus (s : State) (h : Chan) (a : BitVec 24) : State := s.xkCmd h 1 (unnamed a 0xFFFF) fun s =>
  s.modChan h fun c => { c with zs := c.zs ++ [(c.outT + 1, a.toNat)] }
/-- DWELL (R621). -/
def State.xkDwell (s : State) (h : Chan) (a : BitVec 24) : State := s.xkCmd h 1 (unnamed a 0xFFFF) fun s =>
  if a = 0 then s else s.xkRest h a.toNat true
/-- LIGHT_ON (R621). -/
def State.xkLightOn (s : State) (h : Chan) (a : BitVec 24) : State := s.xkCmd h 1 (unnamed a 0) fun s =>
  let b := chanBeam h
  let t := s.xk.chan[h].outT
  let s := if s.xk.chan[h].light || s.beam[b].traj.seq.isSome then s else ((s.xkPower h t).placeRise b t (s.xkSet h)).2
  s.modChan h fun c => { c with light := true }
/-- LIGHT_OFF (R621): a sequence that is open ends with it. -/
def State.xkLightOff (s : State) (h : Chan) (a : BitVec 24) : State := s.xkCmd h 1 (unnamed a 0) fun s =>
  let b := chanBeam h
  let (f, s) := s.gateTime b s.xk.chan[h].outT
  let s := (s.placeEdge b (cellGate b) { et := f, what := .level false }).placeEdge b (cellMod b) { et := f, what := .off }
  (s.modTraj b fun j => { j with lastGate := some f, seq := none }).modChan h fun c => { c with light := false }
/-- TRAVEL_RATE (R621). -/
def State.xkTravelRate (s : State) (h : Chan) (a : BitVec 24) : State := s.xkCmd h 1 false fun s =>
  s.modChan h fun c => { c with travelRate := max 1 a.toNat }
/-- STROKE_RATE (R621). -/
def State.xkStrokeRate (s : State) (h : Chan) (a : BitVec 24) : State := s.xkCmd h 1 false fun s =>
  s.modChan h fun c => { c with strokeRate := max 1 a.toNat }
/-- LIGHT_LEAD (R197, R621). -/
def State.xkLightLead (s : State) (h : Chan) (a : BitVec 24) : State := s.xkCmd h 1 (unnamed a 0xFFFF) fun s =>
  s.modChan h fun c => { c with lead := clampI (-100) 100 (sgn 16 a.toNat) }
/-- LIGHT_LAG (R197, R621). -/
def State.xkLightLag (s : State) (h : Chan) (a : BitVec 24) : State := s.xkCmd h 1 (unnamed a 0xFFFF) fun s =>
  s.modChan h fun c => { c with lag := clampI (-100) 100 (sgn 16 a.toNat) }
/-- TRAVEL_SETTLE (R197, R621). -/
def State.xkTravelSettle (s : State) (h : Chan) (a : BitVec 24) : State := s.xkCmd h 1 (unnamed a 0xFFFF) fun s =>
  s.modChan h fun c => { c with travelSettle := min 1000 a.toNat }
/-- STROKE_SETTLE (R197, R621). -/
def State.xkStrokeSettle (s : State) (h : Chan) (a : BitVec 24) : State := s.xkCmd h 1 (unnamed a 0xFFFF) fun s =>
  s.modChan h fun c => { c with strokeSettle := min 1000 a.toNat }
/-- BEND_SETTLE (R197, R621). -/
def State.xkBendSettle (s : State) (h : Chan) (a : BitVec 24) : State := s.xkCmd h 1 (unnamed a 0xFFFF) fun s =>
  s.modChan h fun c => { c with bendSettle := min 1000 a.toNat }
/-- POWER (R621, R630): from this tick. -/
def State.xkPowerCmd (s : State) (h : Chan) (a : BitVec 24) : State := s.xkCmd h 1 (unnamed a 0xFFFF) fun s =>
  (s.modBeam (chanBeam h) fun x => { x with set := { x.set with power := a.toNat } }).xkPower h s.xk.chan[h].outT
/-- A pulse setting (R197, R621): setting n of R196. -/
def State.xkPulse (s : State) (h : Chan) (n : Nat) (a : BitVec 24) : State := s.xkCmd h 1 false fun s =>
  s.modBeam (chanBeam h) fun x => { x with set := (x.set.put n (a.setWidth 32)).1 }
/-- AX_ABS (R387, R621). -/
def State.xkAxAbs (s : State) (h : Chan) (a : BitVec 24) (w : BitVec 32) : State :=
  s.xkCmd h 2 (unnamed a 1) fun s => s.xkAxGive h (xkAxis a) 1 w.toInt
/-- AX_REL (R387, R621). -/
def State.xkAxRel (s : State) (h : Chan) (a : BitVec 24) (w : BitVec 32) : State :=
  s.xkCmd h 2 (unnamed a 1) fun s => s.xkAxGive h (xkAxis a) 2 w.toInt
/-- AX_SPEED (R621). -/
def State.xkAxSpeed (s : State) (h : Chan) (a : BitVec 24) : State := s.xkCmd h 1 (unnamed a 0xFFFFF1) fun s => s.xkSpeed (xkAxis a) (a.toNat / 16)
/-- AX_ACCEL (R384, R621). -/
def State.xkAxAccel (s : State) (h : Chan) (a : BitVec 24) : State := s.xkCmd h 1 (unnamed a 0xFFFFF1) fun s => s.xkAccel (xkAxis a) (a.toNat / 16)
/-- AX_STOP (R387, R621). -/
def State.xkAxStop (s : State) (h : Chan) (a : BitVec 24) : State := s.xkCmd h 1 (unnamed a 1) fun s => s.xkAxGive h (xkAxis a) 4 0
/-- AX_HOME (R387, R621). -/
def State.xkAxHome (s : State) (h : Chan) (a : BitVec 24) : State := s.xkCmd h 1 (unnamed a 1) fun s => s.xkAxGive h (xkAxis a) 6 0
/-- List variable v takes n, modulo 2^16 (R621, R623). -/
def State.setV16 (s : State) (v : Nat) (n : Nat) : State := s.put (F.XK_V_V v) n
/-- The variable number in A[23:16]. -/
def xkVar (a : BitVec 24) : Nat := a.toNat / 65536
/-- VSET (R621). -/
def State.xkVset (s : State) (h : Chan) (a : BitVec 24) : State := s.xkCmd h 1 false fun s => s.setV16 (xkVar a) (a.toNat % 65536)
/-- VADD (R621). -/
def State.xkVadd (s : State) (h : Chan) (a : BitVec 24) : State := s.xkCmd h 1 false fun s =>
  s.setV16 (xkVar a) (s.get (F.XK_V_V (xkVar a)) + a.toNat % 65536)
/-- A jump on a variable (R621): taken where `f` of its value holds. -/
def State.xkJump (s : State) (h : Chan) (a : BitVec 24) (f : Nat → Bool) : State :=
  if f (s.get (F.XK_V_V (xkVar a))) then s.xkGo h (a.toNat % 32768) else s
/-- JZ (R621). -/
def State.xkJz (s : State) (h : Chan) (a : BitVec 24) : State := s.xkCmd h 1 (a.getLsbD 15) fun s => s.xkJump h a (· == 0)
/-- JNZ (R621). -/
def State.xkJnz (s : State) (h : Chan) (a : BitVec 24) : State := s.xkCmd h 1 (a.getLsbD 15) fun s => s.xkJump h a (· != 0)
/-- DJNZ (R621). -/
def State.xkDjnz (s : State) (h : Chan) (a : BitVec 24) : State := s.xkCmd h 1 (a.getLsbD 15) fun s =>
  (s.setV16 (xkVar a) (s.get (F.XK_V_V (xkVar a)) + 65535)).xkJump h a (· != 0)
/-- TSTAMP (R621): TS32 of the command's tick; v of 255 has no second variable. -/
def State.xkTstamp (s : State) (h : Chan) (a : BitVec 24) : State := s.xkCmd h 1 (unnamed a 0xFF || a.toNat % 256 == 255) fun s =>
  let t := wrap 32 (s.xk.chan[h].outT.fdiv 8)
  (s.setV16 (a.toNat % 256) t).setV16 (a.toNat % 256 + 1) (t / 65536)

/-- The list command of word w, with the word after it (R621); a reserved OP halts the channel. -/
def State.xkExec (s : State) (h : Chan) (w : Nat) (w1 : BitVec 32) : State :=
  let a := BitVec.ofNat 24 w
  let op := w / 2 ^ 24 % 256
  match op with
  | 0x00 => s.xkNop h a
  | 0x01 => s.xkFinish h a
  | 0x02 => s.xkBranch h a
  | 0x03 => s.xkCall h a
  | 0x04 => s.xkReturn h a
  | 0x05 => s.xkLoop h a
  | 0x06 => s.xkAgain h a
  | 0x07 => s.xkIdleT h a
  | 0x08 => s.xkSyncCmd h a
  | 0x09 => s.xkPause h a
  | 0x0A => s.xkIrq h a
  | 0x0B => s.xkWaitAx h a
  | 0x0C => s.xkWaitV h a
  | 0x0D => s.xkSwap h a
  | 0x10 => s.xkStroke h false false a w1
  | 0x11 => s.xkStroke h false true a w1
  | 0x12 => s.xkStroke h true false a w1
  | 0x13 => s.xkStroke h true true a w1
  | 0x14 => s.xkCurve h false a w1
  | 0x15 => s.xkCurve h true a w1
  | 0x16 => s.xkFocus h a
  | 0x17 => s.xkDwell h a
  | 0x18 => s.xkLightOn h a
  | 0x19 => s.xkLightOff h a
  | 0x20 => s.xkTravelRate h a
  | 0x21 => s.xkStrokeRate h a
  | 0x22 => s.xkLightLead h a
  | 0x23 => s.xkLightLag h a
  | 0x24 => s.xkTravelSettle h a
  | 0x25 => s.xkStrokeSettle h a
  | 0x26 => s.xkBendSettle h a
  | 0x27 => s.xkPowerCmd h a
  | 0x28 => s.xkPulse h 12 a
  | 0x29 => s.xkPulse h 13 a
  | 0x2A => s.xkPulse h 14 a
  | 0x2B => s.xkPulse h 15 a
  | 0x30 => s.xkAxAbs h a w1
  | 0x31 => s.xkAxRel h a w1
  | 0x32 => s.xkAxSpeed h a
  | 0x33 => s.xkAxAccel h a
  | 0x34 => s.xkAxStop h a
  | 0x35 => s.xkAxHome h a
  | 0x38 => s.xkVset h a
  | 0x39 => s.xkVadd h a
  | 0x3A => s.xkJz h a
  | 0x3B => s.xkJnz h a
  | 0x3C => s.xkDjnz h a
  | 0x3E => s.xkTstamp h a
  | _ => s.xkCmd h 1 true fun s => s

/-- Command words with a second word (R621). -/
def xkLong (w : Nat) : Bool := let op := w / 2 ^ 24 % 256; decide ((0x10 ≤ op ∧ op ≤ 0x15) ∨ op = 0x30 ∨ op = 0x31)

/-- Channel h reads and executes its next command (R622, R625). -/
def State.xkNext (s : State) (h : Chan) : State :=
  let i := s.chFetch h
  let x := s.listWord i
  if x.2.silo.badIn (s.listAt i) 4 || (xkLong x.1 && x.2.silo.badIn (s.listAt (listNext i 1)) 4) then x.2.chHalt h 7
  else if xkLong x.1 then
    let y := x.2.listWord (listNext i 1)
    y.2.xkExec h x.1 (BitVec.ofNat 32 y.1)
  else x.2.xkExec h x.1 0

/-- The commands of one tick: until one consumes ticks, or 64 (R620). -/
def xkTickGo (h : Chan) (t : Int) : Nat → State → State
  | 0, s => s.modChan h fun c => if c.outT ≤ t then { c with outT := t + 80000 } else c
  | n + 1, s => if !s.chRuns h || decide (t < s.xk.chan[h].outT) then s else xkTickGo h t n (s.xkNext h)

/-- Without emulation: until the channel is L_eff ahead, or 64 commands a tick. -/
def xkFreeGo (h : Chan) : Nat → State → State
  | 0, s => s
  | n + 1, s =>
    if !s.chRuns h || decide (s.nowEt + s.leffEt (chanBeam h) < max s.xk.chan[h].outT s.beam[chanBeam h].traj.stream) then s
    else xkFreeGo h n (s.xkNext h)

/-- The channel whose next command stands at the earliest tick, if that lies within L_eff (R625). -/
def State.xkFirst (s : State) : Option Chan :=
  let at_ (h : Chan) : Int := let t := s.xk.chan[h].outT; if t < s.nowEt + 320 then s.nextTick else t
  (List.finRange 4).foldl (fun (r : Option Chan) h =>
    if s.chRuns h && decide (at_ h ≤ s.nowEt + s.leffEt (chanBeam h)) && (match r with
      | some k => decide (at_ h < at_ k)
      | none => true) then some h else r) none

/-- The channels run on, tick by tick. -/
def xkRunGo : Nat → State → State
  | 0, s => s
  | n + 1, s =>
    let s := forEach (List.finRange 4) s fun s h => if s.xk.chan[h].wait = some .idle then s.xkCheck h else s
    match s.xkFirst with
    | none => s
    | some h =>
      let t := let t := s.xk.chan[h].outT; if t < s.nowEt + 320 then s.nextTick else t
      xkRunGo n (xkTickGo h t 64 (s.modChan h fun c => { c with outT := t }))

end Sys2Proof.Machine
end

