-- ==== Sys2Proof/Machine/XkCmd.lean ====
section
/-! DEFINITION. The commands of the XK block: starts and stops, ticks, XY2-100 frames, ports and list commands
(17_xk_personality.md R612-R631). -/

namespace Sys2Proof.Machine

/-! ## Starts, stops, ticks (R619, R620, R631) -/

/-- START of channel h (R616, R619): ignored unless IDLE or HALT. -/
def State.xkBegin (s : State) (h : Chan) : State :=
  if s.xkOn && !s.chBusy h then
    let i := s.get (F.CH_START_BUF h.val) * 16384 + s.get (F.CH_START_ADDR h.val)
    let s := ((s.put (F.CH_STAT_STATE h.val) 1).put (F.CH_STAT_FAULT h.val) 0).xkGo h i
    let t := s.nowEt
    s.modChan h fun c => { c with stack := [], loops := [], wait := none, outT := t, pcs := [(t, i)] }
  else s

/-- CH_START (R619). -/
def execChStart (_who : Reader) (h : Chan) (s : State) : Host.Outcome State Fault Refusal := .next (s.xkBegin h)

/-- STOP of channel h (R619): at the next tick. -/
def State.xkStop (s : State) (h : Chan) : State := if s.xkOn then s.modChan h fun c => { c with stopOwed := true } else s

/-- CH_STOP (R619). -/
def execChStop (_who : Reader) (h : Chan) (s : State) : Host.Outcome State Fault Refusal := .next (s.xkStop h)

/-- CONTINUE (R616): every channel in PAUSE runs on at the next tick. -/
def State.xkContinue (s : State) : State :=
  forEach (List.finRange 4) s fun s h => if s.xk.chan[h].wait = some .pause then s.xkResume h true else s

/-- XK_CONTINUE (R619). -/
def execXkContinue (_who : Reader) (s : State) : Host.Outcome State Fault Refusal := .next (if s.xkOn then s.xkContinue else s)

/-- STOP_ALL (R616). -/
def State.xkStopAll (s : State) : State := forEach (List.finRange 4) s fun s h => s.xkStop h

/-- XK_STOP_ALL (R616). -/
def execXkStopAll (_who : Reader) (s : State) : Host.Outcome State Fault Refusal := .next s.xkStopAll

/-- The tick at or before now, in ns (R620). -/
def State.lastTickNs (s : State) : Option Nat :=
  let ph := s.get F.XK_CFG_PHASE
  if s.now < ph then none else some ((s.now - ph) / 10000 * 10000 + ph)

/-- Stops that are owed take effect (R619). -/
def State.xkStops (s : State) : State :=
  forEach (List.finRange 4) s fun s h =>
    if s.xk.chan[h].stopOwed then (s.chStop h).put (F.CH_STAT_STATE h.val) 0 else s

/-- What the channels do at a tick (R619, R620, R625, R631): stops, halts in B4, waits that end, then the commands up to L_eff
ahead. While a cause holds every beam off exposure, the next commands wait. -/
def State.xkRun (s : State) : State :=
  let s := s.xkStops
  let s := if s.get F.SYS_BAND_BAND = 4 then forEach (List.finRange 4) s fun s h => if s.chBusy h then s.chHalt h 5 else s else s
  if s.allHeld then forEach (List.finRange 4) s fun s h => s.modChan h fun c => { c with outT := max c.outT s.nowEt } else
  let s := forEach (List.finRange 4) s fun s h => s.xkCheck h
  if s.tickEmu then xkRunGo (4 * (s.leff / 10 + 2)) s
  else forEach (List.finRange 4) s fun s h => xkFreeGo h 64 s

/-- XK_TICK (R620). -/
def execXkTick (s : State) : Host.Outcome State Fault Refusal :=
  .next (
    if s.xkOn && s.lastTickNs.isSome && decide (s.xk.lastTick ≠ s.lastTickNs) then
      { s with xk := { s.xk with lastTick := s.lastTickNs } }.xkRun
    else s)

/-- XK_WAIT_RESUME (R619, R624): a waiting channel, once its condition holds. -/
def execXkWaitResume (h : Chan) (s : State) : Host.Outcome State Fault Refusal := .next (s.xkCheck h)

/-! ## Set-points (R628, R629) -/

/-- A grid halfword of head h in the work area (R618): index 2 × (65j + i) + k. -/
def State.xkGridAt (s : State) (h : Nat) (index : Nat) : Nat := s.get F.XK_CFG_WORK_BASE * 262144 + 0x20000 + 0x4400 * h + 2 * index
/-- A grid halfword; where the work area lies beyond the Silo no rule gives one. -/
def State.gridWord (s : State) (h index : Nat) : Nat × State :=
  if s.xkGridAt h index + 2 ≤ siloSize then s.devRead (s.xkGridAt h index) 2 else s.freeVal 42 16

/-- The bilinear blend of four signed 16-bit nodes at p, r in units of 1/1024 (R628). -/
def blendOf (p r a b c d : Nat) : Int :=
  rdivAway (sgn 16 a * ((1024 - p) * (1024 - r) : Nat) + sgn 16 b * (p * (1024 - r) : Nat) + sgn 16 c * ((1024 - p) * r : Nat) +
    sgn 16 d * (p * r : Nat)) 1048576

/-- One coordinate of the correction at (u, v): k = 0 for DX, 1 for DY (R628). -/
def State.gridBlend (s : State) (h u v k : Nat) : Int × State :=
  let node (di dj : Nat) : Nat := 2 * (65 * (v / 1024 + dj) + u / 1024 + di) + k
  let a := s.gridWord h (node 0 0)
  let b := a.2.gridWord h (node 1 0)
  let c := b.2.gridWord h (node 0 1)
  let d := c.2.gridWord h (node 1 1)
  (blendOf (u % 1024) (v % 1024) a.1 b.1 c.1 d.1, d.2)

/-- The set-point of channel h for the tick at t (ns), corrected if CORR_EN is 1 (R628). -/
def State.xkSetpoint (s : State) (h : Chan) (t : Nat) : (Nat × Nat × Nat) × State :=
  let lim (v : Int) : Nat := (clampI 0 65535 v).toNat
  let p := s.chanPos h (8 * (t : Int))
  let x := lim p.1
  let y := lim p.2
  let z := datedAt s.xk.chan[h].zs (8 * (t : Int)) 0x8000
  if s.flag (F.CH_CTRL_CORR_EN h.val) then
    let dx := s.gridBlend h.val x y 0
    let dy := dx.2.gridBlend h.val x y 1
    ((lim (x + dx.1), lim (y + dy.1), z), dy.2)
  else ((x, y, z), s)

/-- The 20 bits of a frame, bit 0 first: 0, 0, 1, the data from bit 15 down, and the parity that makes the ones even (R629). -/
def xy2Bits (v : BitVec 16) : List Bool :=
  let l := [false, false, true] ++ (List.range 16).map fun i => v.getLsbD (15 - i)
  l ++ [(l.filter (· == true)).length % 2 == 1]

/-- The bits of the frame on the X, Y or Z line of head h: CH_X, CH_Y or CH_Z, the last set-point sent (R616, R629). -/
def State.xy2Line (s : State) (f : Fld) : List Bool := xy2Bits (BitVec.ofNat 16 (s.get f))

/-- The frame of head h for tick t, from its registers, goes out. -/
def State.xy2Out (s : State) (h : Chan) (t : Nat) : State :=
  s.send (.xy2 h (s.xy2Line (F.CH_X_POS h.val)) (s.xy2Line (F.CH_Y_POS h.val)) (s.xy2Line (F.CH_Z_POS h.val)) t)

/-- The frame of head h for tick t (R629): late where the channel's commands for it are not executed 40 ns before it starts. -/
def State.xy2Send (s : State) (h : Chan) (t : Nat) : State :=
  let st : Int := 8 * ((t : Int) - 10000)
  if s.chRuns h ∧ s.allHeld = false ∧ s.tickEmu = true ∧ s.xk.chan[h].outT ≤ st then
    ((s.xy2Out h t).raise 112 (4 * h.val)).chHalt h 3
  else
    let p := s.xkSetpoint h t
    let s := ((p.2.put (F.CH_X_POS h.val) p.1.1).put (F.CH_Y_POS h.val) p.1.2.1).put (F.CH_Z_POS h.val) p.1.2.2
    s.xy2Out h t

/-- The levels of the XY2-100 pairs of head h (R612, R629): CLK, SYNC, X, Y and Z; all 0 in native personality, while XY_EN is 0 and
before the first frame. -/
def State.xy2Pins (s : State) (h : Chan) : Bool × Bool × Bool × Bool × Bool :=
  match s.xk.lastFrame with
  | none => (false, false, false, false, false)
  | some t =>
    let d := s.now + 10000 - t
    if s.xkOn && s.flag F.XK_CTRL_XY_EN && decide (t ≤ s.now + 10000 ∧ d < 10000) then
      let bit (f : Fld) : Bool := (s.xy2Line f).getD (d / 500) false
      (decide (d % 500 < 250), decide (d < 9500), bit (F.CH_X_POS h.val), bit (F.CH_Y_POS h.val), bit (F.CH_Z_POS h.val))
    else (false, false, false, false, false)

/-- XY2_FRAME (R629): the frames that start in the present tick period, for the tick at its end. -/
def execXy2Frame (s : State) : Host.Outcome State Fault Refusal :=
  .next (
    match s.lastTickNs with
    | some st =>
      let t := st + 10000
      if s.xkOn && s.flag F.XK_CTRL_XY_EN && decide (s.xk.lastFrame ≠ some t) then
        forEach (List.finRange 4) { s with xk := { s.xk with lastFrame := some t } } fun s h => s.xy2Send h t
      else s
    | none => s)

/-! ## Ports (R616, R618) -/

/-- The list index of LIST_ADDR. -/
def State.listPort (s : State) : Nat := s.get F.LIST_ADDR_BUF * 16384 + s.get F.LIST_ADDR_ADDR
/-- ADDR of LIST_ADDR goes on by one. -/
def State.listStep (s : State) : State := s.put F.LIST_ADDR_ADDR (s.get F.LIST_ADDR_ADDR + 1)
/-- A write to LIST_LO. -/
def State.listLoWrite (s : State) (v : BitVec 16) : State := { s with xk := { s.xk with listLo := v } }
/-- A write to LIST_HI; beyond the Silo nothing is stored. -/
def State.listHiWrite (s : State) (v : BitVec 16) : State :=
  let a := s.listAt s.listPort
  let w := v.toNat * 65536 + s.xk.listLo.toNat
  (if a + 4 ≤ siloSize then s.setSilo32 a w else s).listStep
/-- INDEX of CORR_ADDR goes on by one. -/
def State.corrStep (s : State) : State := s.put F.CORR_ADDR_INDEX (s.get F.CORR_ADDR_INDEX + 1)
/-- A write to CORR_DATA. -/
def State.corrWrite (s : State) (v : BitVec 16) : State :=
  let i := s.get F.CORR_ADDR_INDEX
  let a := s.xkGridAt (s.get F.CORR_ADDR_HEAD) i
  (if i ≤ 8449 ∧ a + 2 ≤ siloSize then { s with silo := s.silo.write a 2 v.toNat } else s).corrStep

/-- LIST_LO_WRITE (R616). -/
def execListLoWrite (_who : Reader) (v : BitVec 16) (s : State) : Host.Outcome State Fault Refusal := .next (if s.xkOn then s.listLoWrite v else s)
/-- LIST_HI_WRITE (R616, R625). -/
def execListHiWrite (_who : Reader) (v : BitVec 16) (s : State) : Host.Outcome State Fault Refusal := .next (if s.xkOn then s.listHiWrite v else s)
/-- LIST_HI_READ (R616). -/
def execListHiRead (_who : Reader) (s : State) : Host.Outcome State Fault Refusal := .next (if s.xkOn then s.listStep else s)
/-- CORR_DATA_WRITE (R616). -/
def execCorrDataWrite (_who : Reader) (v : BitVec 16) (s : State) : Host.Outcome State Fault Refusal := .next (if s.xkOn then s.corrWrite v else s)
/-- CORR_DATA_READ (R616). -/
def execCorrDataRead (_who : Reader) (s : State) : Host.Outcome State Fault Refusal := .next (if s.xkOn then s.corrStep else s)
/-- The axis of XK axis a (R611). -/
def xaxOf (a : XAxis) : Axis := ⟨2 + a.val, by omega⟩
/-- XAX_SPEED_WRITE (R616). -/
def execXaxSpeedWrite (_who : Reader) (a : XAxis) (v : BitVec 16) (s : State) : Host.Outcome State Fault Refusal :=
  .next (if s.xkOn then s.xkSpeed (xaxOf a) v.toNat else s)
/-- XAX_ACCEL_WRITE (R384, R616). -/
def execXaxAccelWrite (_who : Reader) (a : XAxis) (v : BitVec 16) (s : State) : Host.Outcome State Fault Refusal :=
  .next (if s.xkOn then s.xkAccel (xaxOf a) (v.toNat * 64) else s)
/-- XK_TICK (R620): the ticks counted, modulo 2^32. -/
def State.tickCount (s : State) : Nat := ((s.now - s.get F.XK_CFG_PHASE) / 10000) % 2 ^ 32
/-- A read of XK_TICK_LO latches the upper half for its reader. -/
def State.latchTick (s : State) (who : Reader) : State :=
  { s with xk := { s.xk with tickHi := vmod s.xk.tickHi (readerIdx who) fun _ => BitVec.ofNat 16 (s.tickCount / 65536) } }
/-- XK_TICK_LO_READ (R616). -/
def execXkTickLoRead (who : Reader) (s : State) : Host.Outcome State Fault Refusal := .next (if s.xkOn then s.latchTick who else s)
/-- A read of XAX_POS_LO latches the upper half for its reader. -/
def State.latchXpos (s : State) (who : Reader) (a : XAxis) : State :=
  let hi := BitVec.ofNat 16 (s.get (F.AX_POS_POS (xaxOf a).val) / 65536)
  { s with xk := { s.xk with posHi := vmod s.xk.posHi (readerIdx who) fun v => v.set a hi } }
/-- XAX_POS_LO_READ (R616). -/
def execXaxPosLoRead (who : Reader) (a : XAxis) (s : State) : Host.Outcome State Fault Refusal := .next (if s.xkOn then s.latchXpos who a else s)

/-- A write of v to XK word w (R612, R615, R616). -/
def State.xkWordWrite (s : State) (w : Nat) (v : BitVec 16) : State :=
  let a := R.XK_ID + 4 * w
  let v32 := v.setWidth 32
  if !s.xkOn then s
  else if w = 2 then
    let s := s.plainWrite a true v32
    let s := if v.getLsbD 2 then s.xkContinue else s
    if v.getLsbD 3 then s.xkStopAll else s
  else if 0x10 ≤ w ∧ w < 0x50 then
    let h : Chan := Fin.ofNat 4 (w / 16 - 1)
    let s := s.plainWrite a true v32
    if w % 16 = 0 then
      let s := if v.getLsbD 0 then s.xkBegin h else s
      if v.getLsbD 1 then s.xkStop h else s
    else s
  else if 0x50 ≤ w ∧ w < 0x70 ∧ w % 8 = 0 then
    let h : Chan := Fin.ofNat 4 ((w - 0x50) / 8)
    let t := s.plainWrite a true v32
    let b := chanBeam h
    let active := s.alarmActive b s.cells[cellAlarm b].level
    (t.setFlag (F.LS_CTRL_ALARM_LATCH h.val) (s.flag (F.LS_CTRL_ALARM_LATCH h.val) && (active || !v.getLsbD 1))).alarmAgain b
  else if w = 0x73 then s.xkSpeed 2 v.toNat
  else if w = 0x83 then s.xkSpeed 3 v.toNat
  else if w = 0x74 then s.xkAccel 2 (v.toNat * 64)
  else if w = 0x84 then s.xkAccel 3 (v.toNat * 64)
  else if w = 0x91 then s.listLoWrite v
  else if w = 0x92 then s.listHiWrite v
  else if w = 0xA1 then s.corrWrite v
  else s.plainWrite a true v32

/-- What a read of XK word w by a reader does beside its value (R616). -/
def State.xkWordSeen (s : State) (who : Reader) (w : Nat) : State :=
  if !s.xkOn then s
  else if w = 8 then s.latchTick who
  else if w = 0x70 then s.latchXpos who 0
  else if w = 0x80 then s.latchXpos who 1
  else if w = 0x92 then s.listStep
  else if w = 0xA1 then s.corrStep
  else s

/-- XK_CFG may be written (R617). -/
def State.xkCfgFree (s : State) : Bool := (List.finRange 4).all (fun h => s.chState h == 0) && !s.flag F.XK_CTRL_XY_EN

/-! ## The list commands as rows (R621) -/

/-- XK_NOP. -/
def execXkNop (h : Chan) (a : BitVec 24) (s : State) : Host.Outcome State Fault Refusal := .next (s.xkNop h a)
/-- XK_FINISH. -/
def execXkFinish (h : Chan) (a : BitVec 24) (s : State) : Host.Outcome State Fault Refusal := .next (s.xkFinish h a)
/-- XK_BRANCH. -/
def execXkBranch (h : Chan) (a : BitVec 24) (s : State) : Host.Outcome State Fault Refusal := .next (s.xkBranch h a)
/-- XK_CALL. -/
def execXkCall (h : Chan) (a : BitVec 24) (s : State) : Host.Outcome State Fault Refusal := .next (s.xkCall h a)
/-- XK_RETURN. -/
def execXkReturn (h : Chan) (a : BitVec 24) (s : State) : Host.Outcome State Fault Refusal := .next (s.xkReturn h a)
/-- XK_LOOP. -/
def execXkLoop (h : Chan) (a : BitVec 24) (s : State) : Host.Outcome State Fault Refusal := .next (s.xkLoop h a)
/-- XK_AGAIN. -/
def execXkAgain (h : Chan) (a : BitVec 24) (s : State) : Host.Outcome State Fault Refusal := .next (s.xkAgain h a)
/-- XK_IDLE_T. -/
def execXkIdleT (h : Chan) (a : BitVec 24) (s : State) : Host.Outcome State Fault Refusal := .next (s.xkIdleT h a)
/-- XK_SYNC. -/
def execXkSync (h : Chan) (a : BitVec 24) (s : State) : Host.Outcome State Fault Refusal := .next (s.xkSyncCmd h a)
/-- XK_PAUSE. -/
def execXkPause (h : Chan) (a : BitVec 24) (s : State) : Host.Outcome State Fault Refusal := .next (s.xkPause h a)
/-- XK_IRQ. -/
def execXkIrq (h : Chan) (a : BitVec 24) (s : State) : Host.Outcome State Fault Refusal := .next (s.xkIrq h a)
/-- XK_WAIT_AX. -/
def execXkWaitAx (h : Chan) (a : BitVec 24) (s : State) : Host.Outcome State Fault Refusal := .next (s.xkWaitAx h a)
/-- XK_WAIT_V. -/
def execXkWaitV (h : Chan) (a : BitVec 24) (s : State) : Host.Outcome State Fault Refusal := .next (s.xkWaitV h a)
/-- XK_SWAP. -/
def execXkSwap (h : Chan) (a : BitVec 24) (s : State) : Host.Outcome State Fault Refusal := .next (s.xkSwap h a)
/-- XK_STROKE. -/
def execXkStroke (h : Chan) (lit rel : Bool) (a : BitVec 24) (w : BitVec 32) (s : State) : Host.Outcome State Fault Refusal :=
  .next (s.xkStroke h lit rel a w)
/-- XK_CURVE. -/
def execXkCurve (h : Chan) (rel : Bool) (a : BitVec 24) (w : BitVec 32) (s : State) : Host.Outcome State Fault Refusal := .next (s.xkCurve h rel a w)
/-- XK_FOCUS. -/
def execXkFocus (h : Chan) (a : BitVec 24) (s : State) : Host.Outcome State Fault Refusal := .next (s.xkFocus h a)
/-- XK_DWELL. -/
def execXkDwell (h : Chan) (a : BitVec 24) (s : State) : Host.Outcome State Fault Refusal := .next (s.xkDwell h a)
/-- XK_LIGHT_ON. -/
def execXkLightOn (h : Chan) (a : BitVec 24) (s : State) : Host.Outcome State Fault Refusal := .next (s.xkLightOn h a)
/-- XK_LIGHT_OFF. -/
def execXkLightOff (h : Chan) (a : BitVec 24) (s : State) : Host.Outcome State Fault Refusal := .next (s.xkLightOff h a)
/-- XK_TRAVEL_RATE. -/
def execXkTravelRate (h : Chan) (a : BitVec 24) (s : State) : Host.Outcome State Fault Refusal := .next (s.xkTravelRate h a)
/-- XK_STROKE_RATE. -/
def execXkStrokeRate (h : Chan) (a : BitVec 24) (s : State) : Host.Outcome State Fault Refusal := .next (s.xkStrokeRate h a)
/-- XK_LIGHT_LEAD. -/
def execXkLightLead (h : Chan) (a : BitVec 24) (s : State) : Host.Outcome State Fault Refusal := .next (s.xkLightLead h a)
/-- XK_LIGHT_LAG. -/
def execXkLightLag (h : Chan) (a : BitVec 24) (s : State) : Host.Outcome State Fault Refusal := .next (s.xkLightLag h a)
/-- XK_TRAVEL_SETTLE. -/
def execXkTravelSettle (h : Chan) (a : BitVec 24) (s : State) : Host.Outcome State Fault Refusal := .next (s.xkTravelSettle h a)
/-- XK_STROKE_SETTLE. -/
def execXkStrokeSettle (h : Chan) (a : BitVec 24) (s : State) : Host.Outcome State Fault Refusal := .next (s.xkStrokeSettle h a)
/-- XK_BEND_SETTLE. -/
def execXkBendSettle (h : Chan) (a : BitVec 24) (s : State) : Host.Outcome State Fault Refusal := .next (s.xkBendSettle h a)
/-- XK_POWER. -/
def execXkPower (h : Chan) (a : BitVec 24) (s : State) : Host.Outcome State Fault Refusal := .next (s.xkPowerCmd h a)
/-- XK_MOD_PERIOD. -/
def execXkModPeriod (h : Chan) (a : BitVec 24) (s : State) : Host.Outcome State Fault Refusal := .next (s.xkPulse h 12 a)
/-- XK_MOD_WIDTH. -/
def execXkModWidth (h : Chan) (a : BitVec 24) (s : State) : Host.Outcome State Fault Refusal := .next (s.xkPulse h 13 a)
/-- XK_SYNC_PERIOD. -/
def execXkSyncPeriod (h : Chan) (a : BitVec 24) (s : State) : Host.Outcome State Fault Refusal := .next (s.xkPulse h 14 a)
/-- XK_SYNC_WIDTH. -/
def execXkSyncWidth (h : Chan) (a : BitVec 24) (s : State) : Host.Outcome State Fault Refusal := .next (s.xkPulse h 15 a)
/-- XK_AX_ABS. -/
def execXkAxAbs (h : Chan) (a : BitVec 24) (w : BitVec 32) (s : State) : Host.Outcome State Fault Refusal := .next (s.xkAxAbs h a w)
/-- XK_AX_REL. -/
def execXkAxRel (h : Chan) (a : BitVec 24) (w : BitVec 32) (s : State) : Host.Outcome State Fault Refusal := .next (s.xkAxRel h a w)
/-- XK_AX_SPEED. -/
def execXkAxSpeed (h : Chan) (a : BitVec 24) (s : State) : Host.Outcome State Fault Refusal := .next (s.xkAxSpeed h a)
/-- XK_AX_ACCEL. -/
def execXkAxAccel (h : Chan) (a : BitVec 24) (s : State) : Host.Outcome State Fault Refusal := .next (s.xkAxAccel h a)
/-- XK_AX_STOP. -/
def execXkAxStop (h : Chan) (a : BitVec 24) (s : State) : Host.Outcome State Fault Refusal := .next (s.xkAxStop h a)
/-- XK_AX_HOME. -/
def execXkAxHome (h : Chan) (a : BitVec 24) (s : State) : Host.Outcome State Fault Refusal := .next (s.xkAxHome h a)
/-- XK_VSET (R621, R623). -/
def execXkVset (h : Chan) (a : BitVec 24) (s : State) : Host.Outcome State Fault Refusal := .next (s.xkVset h a)
/-- XK_VADD. -/
def execXkVadd (h : Chan) (a : BitVec 24) (s : State) : Host.Outcome State Fault Refusal := .next (s.xkVadd h a)
/-- XK_JZ. -/
def execXkJz (h : Chan) (a : BitVec 24) (s : State) : Host.Outcome State Fault Refusal := .next (s.xkJz h a)
/-- XK_JNZ. -/
def execXkJnz (h : Chan) (a : BitVec 24) (s : State) : Host.Outcome State Fault Refusal := .next (s.xkJnz h a)
/-- XK_DJNZ. -/
def execXkDjnz (h : Chan) (a : BitVec 24) (s : State) : Host.Outcome State Fault Refusal := .next (s.xkDjnz h a)
/-- XK_TSTAMP. -/
def execXkTstamp (h : Chan) (a : BitVec 24) (s : State) : Host.Outcome State Fault Refusal := .next (s.xkTstamp h a)

end Sys2Proof.Machine
end

