-- ==== Sys2Proof/Machine/Views.lean ====
section
/-! DEFINITION. What a register shows that is no stored word: fields made from the state at the moment of the read
(00_scope.md R7), and what a read does beside its value. -/

namespace Sys2Proof.Machine

/-- A word with n in a field. -/
def setF (w : Word) (f : Fld) (n : Nat) : Word := putBits w f.hi f.lo n

/-! ## Time (R99, R117, R137) -/

/-- The head edge of input cell n as its ET, 0 while the queue is empty (R117). -/
def State.capEt (s : State) (n : Fin 16) : Nat := match s.cells[generalCell n].q with
  | x :: _ => wrap 64 x.et
  | [] => 0
/-- The level after the head edge of input cell n. -/
def State.capLevel (s : State) (n : Fin 16) : Bool := s.flag (F.TIME_GCELL_CFG_DIR n.val) && (match s.cells[generalCell n].q with
  | x :: _ => (match x.what with
    | .level v => v
    | _ => false)
  | [] => false)

/-- Registers of the TIME block. -/
def State.viewTime (s : State) (who : Reader) (a : Nat) (w : Word) : Word :=
  if a = R.TIME_NOW_LO then s.time.ts32
  else if a = R.TIME_NOW_HI then s.time.tnowHi[readerIdx who]
  else match indexIn a (R.TIME_DOM_OFS_LO 0) 0x10 2 with
    | some d => BitVec.ofNat 32 (wrap 64 s.time.dom[(Fin.ofNat 2 d)].offset)
    | none => match indexIn a (R.TIME_GCELL_CFG 0) 4 16 with
      | some n => setF (setF w (F.TIME_GCELL_CFG_COUNT n) s.cells[generalCell (Fin.ofNat 16 n)].q.length)
          (F.TIME_GCELL_CFG_LEVEL n) (b2n (s.capLevel (Fin.ofNat 16 n)))
      | none => match indexIn a (R.TIME_GCELL_CAP_LO 0) 4 32 with
        | some i =>
          let n : Fin 16 := Fin.ofNat 16 (i / 2)
          if s.flag (F.TIME_GCELL_CFG_DIR n.val) then BitVec.ofNat 32 (s.capEt n / 2 ^ (32 * (i % 2))) else 0
        | none => w

/-! ## Beams and the arbiter (R223-R226, R299, R305, R306) -/

/-- The swath BEAM_SWATH describes: the present one, else the oldest held. -/
def State.shownSwath (s : State) (b : Sys2Proof.Beam) : Option Swath := match s.beam[b].present with
  | some w => some w
  | none => s.beam[b].swaths.head?

/-- STATE of BEAM_SWATH (R223). -/
def State.swathState (s : State) (b : Sys2Proof.Beam) : Nat :=
  if !s.flag (F.SYS_ENG_CTRL_RUN b.val) then 0
  else match s.beam[b].present with
    | none => if s.beam[b].disp then 1 else 3
    | some w => match w.state with
      | .run | .handler => 3
      | .suppress => 4
      | .stopping => 5
      | .restartWait => 6
      | .suspended => 7
      | .pend => if s.beam[b].disp then 1 else 3

/-- A swath of beam b has a restart that waits for dispatch (R223). -/
def State.restartPend (s : State) (b : Sys2Proof.Beam) : Bool := s.beam[b].swaths.any fun w => w.state == .pend || w.state == .handler

/-- The barriers beam b waits at, as BEAM_SYNC shows them. -/
def State.waitsAt (s : State) (b : Sys2Proof.Beam) : Nat :=
  ((List.finRange 8).map fun n => if s.arb.barriers[n].any (fun x => decide (x.beam = b)) then 2 ^ n.val else 0).foldl (· + ·) 0

/-- Registers of a beam's page. -/
def State.viewBeam (s : State) (b : Sys2Proof.Beam) (o : Nat) (w : Word) : Word :=
  let x := s.shownSwath b
  if o = 0x80 then
    let w := setF w (F.BEAM_SWATH_STATE b.val) (s.swathState b)
    let w := setF w (F.BEAM_SWATH_LEASED b.val) (b2n s.beam[b].lease.isSome)
    let w := setF w (F.BEAM_SWATH_RESTART_PEND b.val) (b2n (s.restartPend b))
    match x with
    | some y => setF (setF (setF w (F.BEAM_SWATH_TRIES b.val) y.tries) (F.BEAM_SWATH_RING b.val) y.ring.val)
        (F.BEAM_SWATH_SAFE_K b.val) y.committed.k.toNat
    | none => w
  else if o = 0x84 then match x with
    | some y => BitVec.ofNat 32 (y.hdr.id.toNat + 2 ^ 31)
    | none => 0
  else if o = 0x88 then match x with
    | some y => BitVec.ofNat 32 y.markDone
    | none => 0
  else if o = 0x8C then setF w (F.BEAM_SYNC_WAITING b.val) (s.waitsAt b)
  else w

/-- Registers of the ARB block. -/
def State.viewArb (s : State) (a : Nat) (w : Word) : Word :=
  if a = R.ARB_SEP_RADIUS then setF w F.ARB_SEP_RADIUS_R_PLOTS s.sepR
  else match indexIn a (R.ARB_BEAM_STAT 0) 4 16 with
    | some i =>
      let x := s.arb.beams[(Fin.ofNat 16 i)]
      let waits := match x.req with
        | some r => r.waiting
        | none => false
      putBits w 3 0 (b2n x.cur.isSome + 2 * b2n x.agedAt.isSome + 4 * b2n waits + 8 * b2n (!x.old.isEmpty))
    | none => match indexIn a (R.ARB_LEASE_P_LO 0) 4 64 with
      | some i =>
        match s.arb.beams[(Fin.ofNat 16 (i / 4))].cur with
        | none => 0
        | some l =>
          if i % 4 = 0 then BitVec.ofNat 32 (l.p.x0.toNat + 65536 * l.p.y0.toNat)
          else if i % 4 = 1 then BitVec.ofNat 32 (l.p.x1.toNat + 65536 * l.p.y1.toNat)
          else if i % 4 = 2 then match s.deadline l with
            | some t => BitVec.ofNat 32 (s.layerTimeOf t)
            | none => 0
          else 0
      | none => w

/-! ## The loop engine, the axes, the lanes (R341, R342, R414, R456) -/

/-- LOOP_LOAD as a read shows it (R338). -/
def State.viewLoad (s : State) (w : Word) : Word :=
  setF (setF w F.LOOP_LOAD_LOAD (cdivN s.loadNow 1000000)) F.LOOP_LOAD_BUDGET (s.budget / 1000000)

/-- Registers of the LOOP block: OUT is the power in effect. -/
def State.viewLoop (s : State) (a : Nat) (w : Word) : Word :=
  match indexIn a (R.LOOP_BEAM_OUT 0) 0x40 16 with
  | some b => putBits w 15 0 (s.powerAt (Fin.ofNat 16 b) s.nowEt)
  | none => match indexIn a 0xF0052000 4 512 with
    | some i =>
      let v := s.loops[(Fin.ofNat 16 (i / 32))].st[(Fin.ofNat 16 (i / 2))].toInt
      BitVec.ofNat 32 (wrap 64 v / 2 ^ (32 * (i % 2)))
    | none => if a = F.LOOP_LOAD_LOAD.addr then s.viewLoad w else w

/-- Registers of the AXES block. -/
def State.viewAxes (s : State) (a : Nat) (w : Word) : Word := match indexIn a (R.AX_VEL 0) 0x80 8 with
  | some i => BitVec.ofNat 32 (wrap 32 (s.axVelNow (Fin.ofNat 8 i)))
  | none => w

/-- Registers of the LANES block. -/
def State.viewLanes (s : State) (a : Nat) (w : Word) : Word := match indexIn a (R.LN_STAT 0) 0x20 32 with
  | some i => setF w (F.LN_STAT_RETRAINS i) (s.trigsNow (Fin.ofNat 32 i)).length
  | none => w

/-! ## The host attachment, events, the Granary (R85, R522, R533, R560-R562) -/

/-- The greatest time of a long operation in ms (R517). -/
def longBound (op : Nat) : Nat := [0, 3200, 40000, 1500, 80, 50].getD op 0
/-- The time the long operation that runs still takes at most, in ms (R522). -/
def State.longRemain (s : State) : Nat := match s.host.long with
  | some l => cdivN (longBound l.op * 1000000 - (s.now - l.start)) 1000000
  | none => 0

/-- Registers of the HOST block. -/
def State.viewHost (s : State) (a : Nat) (w : Word) : Word :=
  if a = R.HOST_LONG then setF w F.HOST_LONG_REMAIN_MS s.longRemain
  else if a = R.HOST_KEY then BitVec.ofNat 32 (b2n s.gran.key.isSome)
  else match indexIn a (R.HOST_RING_CFG 0) 0x10 52 with
    | some n => setF w (F.HOST_RING_CFG_COUNT n) (s.ringCount n)
    | none => w

/-- Registers of the EVT block: TIME is the reader's latch. -/
def State.viewEvt (s : State) (who : Reader) (a : Nat) (w : Word) : Word := match indexIn a (R.EVT_LAST_DATA 0) 4 1024 with
  | some i =>
    let t := s.host.evtLatch[readerIdx who]
    if i % 4 = 1 then t.setWidth 32 else if i % 4 = 2 then (t >>> 32).setWidth 32 else w
  | none => w

/-- Registers of the GRANARY block. -/
def State.viewGran (s : State) (who : Reader) (a : Nat) (w : Word) : Word :=
  let g := s.gran
  if a = R.GRANARY_STAT then
    let w := putBits w 2 2 (b2n g.isSealed)
    let w := putBits w 4 4 (b2n (g.loss.toList.any fun c => c.n != 0))
    putBits (putBits w 18 8 g.fifo.length) 30 24 g.bad.length
  else if a = R.GRANARY_OPTIME_HI then g.optHi[readerIdx who].setWidth 32
  else match indexIn a (R.GRANARY_WIN_DATA 0) 4 16 with
    | some i => BitVec.ofNat 32 (octAt (g.read (64 * s.get F.GRANARY_WIN_SLOT_SLOT + 4 * i) 4) 0 4)
    | none => w

/-! ## The display and the XK block (R608, R616) -/

/-- LINE of DISP_STAT: whole lines since the start of the present frame; 0 where no generator runs. -/
def State.presentLine (s : State) (o : DOut) : Nat :=
  let src : DOut := if s.dispSlave o then 0 else o
  let d := s.disp[src]
  if s.dispVideo src && d.hTotal != 0 then (((s.now : Int) * 2 ^ 24 - d.frameAt).toNat * d.tb 1 23 0) / (d.hTotal * 2 ^ 48) % 8192 else 0

/-- Registers of the DISP block. -/
def State.viewDisp (s : State) (a : Nat) (w : Word) : Word :=
  match indexIn a (R.DISP_CMDQ 0) 0x100 2 with
  | some o => putBits w 22 16 s.disp[(Fin.ofNat 2 o)].cmdq.length
  | none => match indexIn a (R.DISP_STAT 0) 0x100 2 with
    | some o => putBits w 12 0 (s.presentLine (Fin.ofNat 2 o))
    | none => w

/-- The channels in a state of R616, as bits. -/
def State.chMask (s : State) (p : Nat → Bool) : Nat :=
  ((List.finRange 4).map fun h => if p (s.chState h) then 2 ^ h.val else 0).foldl (· + ·) 0

/-- XK word w with its view (R616); the second result counts a free value where the work area lies beyond the Silo. -/
def State.viewXk (s : State) (who : Reader) (w : Nat) (v : Word) : Word × State :=
  let n (x : Nat) : Word × State := (BitVec.ofNat 32 (x % 65536), s)
  let ax (k : Nat) : Axis := if k < 0x80 then 2 else 3
  if w = 3 then n (s.chMask (fun x => x == 1 || x == 2) + 16 * s.chMask (· == 2) + 256 * s.chMask (· == 3))
  else if w = 8 then n s.tickCount
  else if w = 9 then n s.xk.tickHi[readerIdx who].toNat
  else if 0x10 ≤ w ∧ w < 0x50 ∧ w % 16 = 3 then n (s.chPc (Fin.ofNat 4 (w / 16 - 1)))
  else if 0x50 ≤ w ∧ w < 0x70 ∧ w % 8 = 1 then n s.beam[(Fin.ofNat 16 ((w - 0x50) / 8))].traj.lastWord.toNat
  else if w = 0x70 ∨ w = 0x80 then n (s.get (F.AX_POS_POS (ax w).val))
  else if w = 0x71 ∨ w = 0x81 then n (s.xk.posHi[readerIdx who])[(Fin.ofNat 2 (w / 16 - 7))].toNat
  else if w = 0x72 ∨ w = 0x82 then
    n (s.axState (ax w) + 8 * s.get (F.AX_STAT_HOMED (ax w).val) + 16 * s.get (F.AX_STAT_LIMP (ax w).val) +
      32 * s.get (F.AX_STAT_LIMN (ax w).val))
  else if w = 0x73 ∨ w = 0x83 then n (s.get (F.AX_MAX_SPEED_MAX_SPEED (ax w).val) / 65536)
  else if w = 0x74 ∨ w = 0x84 then n (s.get (F.AX_ACCEL_ACCEL (ax w).val) / 256 / 64)
  else if w = 0x91 ∨ w = 0x92 then
    let r := s.listWord s.listPort
    (BitVec.ofNat 32 (r.1 / 2 ^ (16 * (w - 0x91)) % 65536), r.2)
  else if w = 0xA1 then
    if s.get F.CORR_ADDR_INDEX ≤ 8449 then
      let r := s.gridWord (s.get F.CORR_ADDR_HEAD) (s.get F.CORR_ADDR_INDEX)
      (BitVec.ofNat 32 r.1, r.2)
    else n 0
  else (v, s)

/-! ## All of them -/

/-- The register at address a as it stands at this moment for a reader, before the access codes of its view are applied. -/
def State.viewWord (s : State) (who : Reader) (a : Nat) : Word × State :=
  let w := s.reg a
  match blockNo a with
  | 0 => (if a = R.SYS_BOOT then setF w F.SYS_BOOT_ENFORCE (b2n Config.enforce) else w, s)
  | 1 => (s.viewTime who a w, s)
  | 2 => (s.viewBeam (Fin.ofNat 16 (a / 0x1000)) (a % 0x1000) w, s)
  | 3 => (s.viewArb a w, s)
  | 5 => (s.viewLoop a w, s)
  | 7 => (s.viewAxes a w, s)
  | 8 => (s.viewLanes a w, s)
  | 10 => (s.viewHost a w, s)
  | 11 => (s.viewGran who a w, s)
  | 13 => (s.viewDisp a w, s)
  | 14 =>
    if !s.xkOn then (0, s)
    else if a % 0x10000 < 0x800 then s.viewXk who (a % 0x800 / 4) w
    else (w, s)
  | 15 => (s.viewEvt who a w, s)
  | _ => (w, s)

/-- What a read of the register at address a does beside its value: latches, removals, steps of a port (R99, R117, R137,
R533, R561, R616). -/
def State.seen (s : State) (who : Reader) (a : Nat) : State :=
  if a = R.TIME_NOW_LO then s.latchNow (readerIdx who)
  else if a = R.GRANARY_OPTIME_LO then s.latchOp (readerIdx who)
  else match indexIn a (R.TIME_DOM_OFS_LO 0) 0x10 2 with
    | some d => s.latchOfs (Fin.ofNat 2 d)
    | none => match indexIn a (R.TIME_GCELL_CAP_HI 0) 8 16 with
      | some n => s.capPop (Fin.ofNat 16 n)
      | none => match indexIn a (R.EVT_LAST_DATA 0) 0x10 256 with
        | some k =>
          let t := (s.reg (R.EVT_LAST_TIME_HI k)).toNat * 2 ^ 32 + (s.reg (R.EVT_LAST_TIME_LO k)).toNat
          { s with host := { s.host with evtLatch := s.host.evtLatch.set (readerIdx who) (BitVec.ofNat 64 t) } }
        | none => if 0xF00E0000 ≤ a ∧ a < 0xF00E0800 then s.xkWordSeen who (a % 0x800 / 4) else s

end Sys2Proof.Machine
end

