-- ==== Sys2Proof/Machine/Writes.lean ====
section
/-! DEFINITION. What a write of a register does beside storing its fields: the engines, time, the beams, the arbiter, the bed
map and the loop engine. -/

namespace Sys2Proof.Machine

/-- The state a meaning answers, or s where it answers none. -/
def State.via (s : State) (f : State → Host.Outcome State Fault Refusal) : State := match f s with
  | .next t => t
  | _ => s

/-! ## SYS (R33, R44, R187, R188, R641, R654) -/

/-- Engine e is one of the beam engines that XK and mixed personality keep (R611). -/
def State.engTaken (s : State) (e : Fin 20) : Bool := s.pers != 0 && decide (e.val < 4)
/-- The engine of a register index. -/
def engAt (e : Fin 20) : Eng := ⟨e.val, by omega⟩

/-- What an engine waits for ends with it: its barrier breaks, its request is dropped (R205, R210). -/
def State.leaveWaits (s : State) (e : Eng) : State := match beamOfEng e with
  | some b => ((s.withdraw b).dropTent b).modArb b fun a => { a with req := none }
  | none => s

/-- A 1-to-0 change of RUN (R179, R187). -/
def State.engStop (s : State) (e : Fin 20) : State :=
  let s := (s.haltBeam (engAt e)).leaveWaits (engAt e)
  let s := ((s.setFlag (F.SYS_ENG_CTRL_RUN e.val) false).setFlag (F.SYS_ENG_CTRL_HALTED e.val) true).modEng (engAt e) fun x =>
    { x with wait := none }
  s.wdogSync (engAt e)

/-- RESET of an engine (R144, R179, R187): DOUBLE, FCAUSE and EV_MERGED stay. -/
def State.engReset (s : State) (e : Fin 20) : State :=
  let s := (s.haltBeam (engAt e)).leaveWaits (engAt e)
  let s := ((s.setFlag (F.SYS_ENG_CTRL_RUN e.val) false).setFlag (F.SYS_ENG_CTRL_HALTED e.val) true).setFlag
    (F.SYS_ENG_CTRL_FAULT e.val) false
  let s := s.modEng (engAt e) fun x => x.fresh
  match beamOfEng (engAt e) with
  | some b => s.modBeam b fun x => { x with disp := false, eretEnds := false, expired := false, settled := false, barrierStart := none }
  | none => s

/-- RUN of an engine is set (R144, R187): nothing while FAULT is 1 or RUN is 1. -/
def State.engRun (s : State) (e : Fin 20) : State :=
  if s.engTaken e || s.flag (F.SYS_ENG_CTRL_FAULT e.val) || s.flag (F.SYS_ENG_CTRL_RUN e.val) then s
  else (s.setFlag (F.SYS_ENG_CTRL_RUN e.val) true).engStart (engAt e)

/-- A write of v to SYS_ENG_CTRL of engine e (R187): its W1C fields, then RESET, else RUN. -/
def State.engCtrlWrite (s : State) (e : Fin 20) (sup : Bool) (v : Word) : State :=
  if s.engTaken e || !sup then s
  else
    let s := s.w1cWrite (R.SYS_ENG_CTRL e.val) sup v
    if v.getLsbD 1 then s.engReset e
    else if v.getLsbD 0 then s.engRun e
    else if s.flag (F.SYS_ENG_CTRL_RUN e.val) && !s.flag (F.SYS_ENG_CTRL_FAULT e.val) then s.engStop e
    else s

/-- A write of v to SYS_ENG_WDOG of engine e (R186, R188): the count begins again. -/
def State.engWdogWrite (s : State) (e : Fin 20) (sup : Bool) (v : Word) : State :=
  if s.engTaken e || !sup then s else (s.plainWrite (R.SYS_ENG_WDOG e.val) sup v).wdogReload (engAt e)

/-- A write of v to SYS_PWR_POLICY of domain d (R44, R45). -/
def State.policyWrite (s : State) (d : Fin 44) (sup : Bool) (v : Word) : State :=
  let s := s.plainWrite (R.SYS_PWR_POLICY d.val) sup v
  if s.flag (F.SYS_PWR_POLICY_FORCE_ON d.val) then s.wakeDomain d else s

/-- A write in the SYS block. -/
def State.writeSys (s : State) (who : Reader) (sup : Bool) (a : Nat) (v : Word) : State :=
  if a = R.SYS_LOOKAHEAD then (s.plainWrite a sup v).showLeff
  else if a = R.SYS_RESET then
    s.resetWrite who (pulsed F.SYS_RESET_DEVICE sup v) (pulsed F.SYS_RESET_CORE sup v)
  else if a = R.SYS_BOOT_HOST then (if sup then s.bootHostWrite v else s)
  else match indexIn a (R.SYS_PWR_POLICY 0) 4 44 with
    | some d => s.policyWrite (Fin.ofNat 44 d) sup v
    | none => match indexIn a (R.SYS_ENG_CTRL 0) 4 20 with
      | some e => s.engCtrlWrite (Fin.ofNat 20 e) sup v
      | none => match indexIn a (R.SYS_ENG_WDOG 0) 4 20 with
        | some e => s.engWdogWrite (Fin.ofNat 20 e) sup v
        | none => s.plainWrite a sup v

/-! ## TIME (R98, R107, R116, R135) -/

/-- A write in the TIME block: ADDEND is taken while STATE is FREE. -/
def State.writeTime (s : State) (sup : Bool) (a : Nat) (v : Word) : State :=
  if a = R.TIME_ADDEND then (if s.timeFree then s.plainWrite a sup v else s)
  else if a = R.TIME_CTRL then
    let t := s.plainWrite a sup v
    if pulsed F.TIME_CTRL_STEP sup v then t.stepRequest else t
  else match indexIn a (R.TIME_DOM_CFG 0) 0x10 2 with
    | some d => s.domCfgWrite sup (Fin.ofNat 2 d) v
    | none => match indexIn a (R.TIME_GCELL_CFG 0) 4 16 with
      | some n => s.gcellCfgWrite sup (Fin.ofNat 16 n) v
      | none => s.plainWrite a sup v

/-! ## Beams (R49, R50, R209, R226, R241, R251, R252, R259-R263) -/

/-- A write to BEAM_CORR_BASE of beam b (R241): it takes effect at the beam's next swath. -/
def State.corrBaseWrite (s : State) (b : Sys2Proof.Beam) (sup : Bool) (v : Word) : State :=
  if sup then (s.plainWrite (R.BEAM_CORR_BASE b.val) sup v).setFlag (F.BEAM_CORR_BASE_PEND b.val) true else s

/-- A write of v to BEAM_LASER_CFG of beam b (R251, R252): ALARM_LATCH clears only while the input is inactive. -/
def State.laserCfgWrite (s : State) (b : Sys2Proof.Beam) (sup : Bool) (v : Word) : State :=
  let hold := s.flag (F.BEAM_LASER_CFG_ALARM_LATCH b.val) && s.alarmActive b s.cells[cellAlarm b].level
  let t := s.plainWrite (R.BEAM_LASER_CFG b.val) sup v
  let t := (if hold then t.setFlag (F.BEAM_LASER_CFG_ALARM_LATCH b.val) true else t).alarmAgain b
  if pulsed (F.BEAM_LASER_CFG_RESUME b.val) sup v then t.laserResume b else t

/-- SP_DIV_EFF of beam b (R259). -/
def State.showSpDiv (s : State) (b : Sys2Proof.Beam) : State :=
  let caps := match s.roleLane 1 b.val with
    | some n => s.get (F.LN_PARTNER_P_CAPS n.val)
    | none => 0
  s.put (F.BEAM_HEAD_CFG_SP_DIV_EFF b.val) (spDivEff (s.get (F.BEAM_HEAD_CFG_SP_DIV b.val)) caps)

/-- The engine of beam b waits at a barrier. -/
def State.atBarrier (s : State) (b : Sys2Proof.Beam) : Bool := match s.eng[engOf b].wait with
  | some (.barrier _) => true
  | _ => false

/-- A write at offset o of the page of beam b. -/
def State.writeBeam (s : State) (b : Sys2Proof.Beam) (sup : Bool) (o a : Nat) (v : Word) : State :=
  if 0x40 ≤ o ∧ o ≤ 0x4C then (s.condWrite a sup v s.idle F.BEDMAP_GEOM_ERR).1
  else if o = 0x8C then (s.condWrite a sup v (!s.atBarrier b) (F.BEAM_SWATH_CFG_ERR b.val)).1
  else if o = 0x100 then (s.condWrite a sup v s.idle (F.BEAM_SWATH_CFG_ERR b.val)).1.showSpDiv b
  else if o = 0x50 ∨ o = 0x104 ∨ (0x110 ≤ o ∧ o ≤ 0x12C) then (s.condWrite a sup v s.idle (F.BEAM_SWATH_CFG_ERR b.val)).1
  else if o = 0x130 then s.corrBaseWrite b sup v
  else if o = 0x140 then s.laserCfgWrite b sup v
  else s.plainWrite a sup v

/-! ## The arbiter (R293, R296-R307) -/

/-- A write of 1s to RETIRED (R293): cause 5 for each beam not yet retired. -/
def State.retireWrite (s : State) (v : Word) : State :=
  forEach (allBeams.filter fun b => v.getLsbD b.val) s fun s b => s.retire b 5

/-- The cause of the retirement of beam b has cleared (R296). -/
def State.causeGone (s : State) (b : Sys2Proof.Beam) : Bool :=
  let c := s.get (F.ARB_BEAM_STAT_RETIRE_CAUSE b.val)
  if c = 1 then !s.flag (F.BEAM_LASER_CFG_ALARM_LATCH b.val)
  else if c = 3 then (match s.roleLane 1 b.val with
    | some n => s.laneUp n
    | none => false)
  else if c = 4 then !s.flag (F.SYS_ENG_CTRL_FAULT b.val)
  else true

/-- The retirement of beam b ends, or CFG_ERR (R296). -/
def State.unretire (s : State) (b : Sys2Proof.Beam) : State :=
  if (s.get F.ARB_RETIRED_RETIRED).testBit b.val then
    if s.idle && s.causeGone b then
      ((s.put F.ARB_RETIRED_RETIRED (s.get F.ARB_RETIRED_RETIRED - 2 ^ b.val)).put (F.ARB_BEAM_STAT_RETIRE_CAUSE b.val) 0).modArb b
        fun x => { x with retireEnded := true }
    else s.setFlag F.ARB_CTRL_CFG_ERR true
  else s

/-- A write of 1s to RETIRE_CLR (R296). -/
def State.retireClear (s : State) (v : Word) : State :=
  forEach (allBeams.filter fun b => v.getLsbD b.val) s fun s b => s.unretire b

/-- A write in the ARB block. -/
def State.writeArb (s : State) (sup : Bool) (a : Nat) (v : Word) : State :=
  if a = R.ARB_RETIRED then (if sup then s.retireWrite v else s)
  else if a = R.ARB_RETIRE_CLR then (if sup then s.retireClear v else s)
  else
    let r := s.condWrite a sup v s.idle F.ARB_CTRL_CFG_ERR
    match indexIn a (R.ARB_PEER_CFG 0) 0x20 8 with
    | some p =>
      if r.2 && (!r.1.flag (F.ARB_PEER_CFG_PEER_EN p) || r.1.get (F.ARB_PEER_CFG_NODE p) != s.get (F.ARB_PEER_CFG_NODE p)) then
        (r.1.put (F.ARB_PEER_CFG_STATE p) 0).peersFollow
      else if r.2 then r.1.peersFollow else r.1
    | none => r.1

/-! ## The bed map (R56) -/

/-- The geometry on which the place of a plot rests. -/
def State.bedGeom (s : State) : List Nat :=
  [s.get F.BEDMAP_ORIGIN_X_ORIGIN, s.get F.BEDMAP_ORIGIN_Y_ORIGIN, s.nx, s.ny, s.get F.BEDMAP_PITCH_PITCH]

/-- A write in the BEDMAP block (R56): a change of geometry begins a clear. -/
def State.writeBed (s : State) (sup : Bool) (a : Nat) (v : Word) : State :=
  let t := (s.condWrite a sup v (s.idle && !s.bedBusy) F.BEDMAP_GEOM_ERR).1
  if t.bedGeom = s.bedGeom then t
  else { t.setFlag F.BEDMAP_GEOM_BUSY true with bed := { t.bed with clearOwed := true } }

/-! ## The loop engine (R317-R342) -/

/-- A capture is armed by a write of v to LOOP_CAP_CFG (R339). -/
def State.capArm (s : State) (v : Word) : State :=
  let s := s.plainWrite R.LOOP_CAP_CFG true v
  let s := ((((s.put F.LOOP_CAP_STAT_COUNT 0).setFlag F.LOOP_CAP_STAT_DONE false).setFlag F.LOOP_CAP_STAT_WRAPPED false).setFlag
    F.LOOP_CAP_STAT_RATE_CHG false).setFlag F.LOOP_CAP_STAT_ACTIVE true
  { s with loopDev := { s.loopDev with recording := false, capGate := none, capEntered := false, capN := 0 } }

/-- The capture ends (R339), and no record of it is written any more. -/
def State.capStop (s : State) : State :=
  let s := { s.setFlag F.LOOP_CAP_STAT_ACTIVE false with loopDev := { s.loopDev with recording := false } }
  forEach allBeams s fun s b => s.modLoop b fun l => { l with next := l.next.map fun r => { r with record := none } }

/-- A write of v to LOOP_CAP_CFG (R339). -/
def State.capCfgWrite (s : State) (v : Word) : State :=
  if s.flag F.LOOP_CAP_STAT_ACTIVE then
    let s := if s.wouldChange R.LOOP_CAP_CFG true v || v.getLsbD 7 then s.setFlag F.LOOP_CTRL_ERR true else s
    if v.getLsbD 8 then s.capStop else s
  else if v.getLsbD 7 then s.capArm v else s.plainWrite R.LOOP_CAP_CFG true v

/-- A write to an injection register (R340): the table or the shift register starts again with LOOP_INJ_CFG. -/
def State.injWrite (s : State) (a : Nat) (v : Word) : State :=
  let s := s.plainWrite a true v
  let s := if a = R.LOOP_INJ_CFG then { s with loopDev := { s.loopDev with injM := 0, lfsr := 0x7FFF } } else s
  if s.injInSilo then s else s.setFlag F.LOOP_CTRL_ERR true

/-- RESUME of beam b's loop (R335). -/
def State.loopGo (s : State) (b : Sys2Proof.Beam) : State :=
  ((s.setFlag (F.LOOP_BEAM_STAT_CAPPED b.val) false).setFlag (F.LOOP_BEAM_STAT_PAUSED b.val) false).put
    (F.LOOP_BEAM_STAT_OVR_RUN b.val) 0

/-- A write of v to LOOP_BEAM_CFG, LOOP_BEAM_GAIN, a program word or LOOP_CTRL (R332): in IDLE under the admission rules. -/
def State.loopCfgWrite (s : State) (sup : Bool) (a : Nat) (v : Word) : State :=
  let s := s.w1cWrite a sup v
  if !s.wouldChange a sup v then s
  else if s.idle then s.loopAdmit a (s.written a sup Access.isRw v)
  else s.setFlag F.LOOP_CTRL_ERR true

/-- A write in the LOOP block. -/
def State.writeLoop (s : State) (sup : Bool) (a : Nat) (v : Word) : State :=
  if a = R.LOOP_CTRL ∨ (R.LOOP_PROG 0 0 ≤ a ∧ a < R.LOOP_PROG 16 0) then s.loopCfgWrite sup a v
  else if a = R.LOOP_CAP_CFG then s.capCfgWrite v
  else if a = R.LOOP_CAP_CH ∨ a = R.LOOP_CAP_BASE then
    (s.condWrite a sup v (!s.flag F.LOOP_CAP_STAT_ACTIVE) F.LOOP_CTRL_ERR).1
  else if R.LOOP_INJ_CFG ≤ a ∧ a ≤ R.LOOP_INJ_LEN then s.injWrite a v
  else if R.LOOP_BEAM_CFG 0 ≤ a ∧ a < R.LOOP_BEAM_CFG 16 then
    let o := a % 0x40
    let b : Sys2Proof.Beam := Fin.ofNat 16 ((a - R.LOOP_BEAM_CFG 0) / 0x40)
    if o = 0 ∨ o = 4 then s.loopCfgWrite sup a v
    else if o = 0x24 then s.plainWrite a sup v
    else
      let t := (s.condWrite a sup v s.idle F.LOOP_CTRL_ERR).1
      if o = 0x10 ∧ pulsed (F.LOOP_BEAM_SAFE_RESUME b.val) sup v then t.loopGo b else t
  else s.plainWrite a sup v

end Sys2Proof.Machine
end

