-- ==== Sys2Proof/Machine/Writes2.lean ====
section
/-! DEFINITION. What a write of a register does beside storing its fields: the pipelines, the axes, the lanes, the fabric, the
host attachment, the Granary, housekeeping, the display, the XK block, events. -/

namespace Sys2Proof.Machine

/-! ## IMG (R355, R361, R371, R374-R378) -/

/-- A write in the IMG block. -/
def State.writeImg (s : State) (sup : Bool) (a : Nat) (v : Word) : State :=
  if R.IMG_CAM_CFG 0 ≤ a ∧ a < R.IMG_CAM_CFG 20 then
    let n : Stream := Fin.ofNat 20 ((a - R.IMG_CAM_CFG 0) / 0x80)
    let o := a % 0x80
    if o = 0 then s.camCfgWrite n sup v
    else if o = 4 ∨ o = 0xC then
      let r := s.condWrite a sup v (!s.flag (F.IMG_CAM_CFG_ENABLE n.val)) F.IMG_CTRL_ERR
      if r.2 then r.1 else r.1.imgErr n
    else if o = 8 then (s.plainWrite a sup v).showPipeLoad
    else if o = 0x10 then s.camCtxWrite n sup v
    else if o = 0x28 then s.via (execCamSetCommit n v)
    else s.plainWrite a sup v
  else s.plainWrite a sup v

/-! ## AXES (R387, R395, R396, R402, R414) -/

/-- The writes of R414 are accepted: IDLE or DISABLED with nothing pending. -/
def State.axCfgFree (s : State) (a : Axis) : Bool :=
  (s.axState a == axIDLE || s.axState a == axDISABLED) && !s.flag (F.AX_STAT_PEND a.val)

/-- The limit flags follow a change of their polarity (R405, R414). -/
def State.limPol (old s : State) (a : Axis) : State :=
  let s := if s.flag (F.AX_CFG_LIMP_POL a.val) = old.flag (F.AX_CFG_LIMP_POL a.val) then s
    else s.setFlag (F.AX_STAT_LIMP a.val) (!s.flag (F.AX_STAT_LIMP a.val))
  if s.flag (F.AX_CFG_LIMN_POL a.val) = old.flag (F.AX_CFG_LIMN_POL a.val) then s
  else s.setFlag (F.AX_STAT_LIMN a.val) (!s.flag (F.AX_STAT_LIMN a.val))

/-- A write of v to AX_CFG (R414). ENABLE stands apart: a 1 is taken in any state, a 0 in IDLE. -/
def State.axCfgWrite (s : State) (a : Axis) (sup : Bool) (v : Word) : State :=
  let r := R.AX_CFG a.val
  let was := s.flag (F.AX_CFG_ENABLE a.val)
  let new := s.written r sup Access.isRw v
  let on := bitsOf new 0 0 == 1
  let rest := setF new (F.AX_CFG_ENABLE a.val) (b2n was)
  let ok := s.axCfgFree a || rest == s.reg r
  let off := was && !on && s.axState a != axIDLE
  if off || !ok then
    let s := s.setFlag (F.AX_STAT_CFG_ERR a.val) true
    if !was && on then
      let s := s.setFlag (F.AX_CFG_ENABLE a.val) true
      if s.axState a = axDISABLED then s.setAxState a axIDLE else s
    else s
  else
    let t := s.setReg r new
    let t := if t.get (F.AX_CFG_M_MAX a.val) < t.get (F.AX_CFG_M_MIN a.val) then
      t.put (F.AX_CFG_M_MIN a.val) (t.get (F.AX_CFG_M_MAX a.val)) else t
    let t := State.limPol s t a
    if !was && on && t.axState a == axDISABLED then t.setAxState a axIDLE
    else if was && !on then t.setAxState a axDISABLED
    else t

/-- A write of v to AX_BR_CFG (R402, R414): RUN_SCALE is taken in any state. -/
def State.axBrWrite (s : State) (a : Axis) (sup : Bool) (v : Word) : State :=
  let r := R.AX_BR_CFG a.val
  let new := s.written r sup Access.isRw v
  if s.axCfgFree a || bitsOf new 1 0 == s.get (F.AX_BR_CFG_BR_PERIOD a.val) then s.setReg r new
  else (s.setReg r (setF new (F.AX_BR_CFG_BR_PERIOD a.val) (s.get (F.AX_BR_CFG_BR_PERIOD a.val)))).setFlag (F.AX_STAT_CFG_ERR a.val) true

/-- A write in the AXES block. -/
def State.writeAxes (s : State) (sup : Bool) (a : Nat) (v : Word) : State :=
  if a = R.AX_GO then s.via (execAxGo (v.setWidth 8))
  else if R.AX_CFG 0 ≤ a ∧ a < R.AX_CFG 8 then
    let n : Axis := Fin.ofNat 8 ((a - R.AX_CFG 0) / 0x80)
    let o := a % 0x80
    if o = 0 then s.axCfgWrite n sup v
    else if o = 4 then s.axSpeedWrite n v
    else if o = 8 then s.axAccelWrite n v
    else if o = 0x10 then s.axCommand n (bitsOf v 3 0) (v.getLsbD 4)
    else if 0x20 ≤ o ∧ o ≤ 0x40 then (s.condWrite a sup v (s.axCfgFree n) (F.AX_STAT_CFG_ERR n.val)).1
    else if o = 0x44 ∧ n.val < 2 then s.axBrWrite n sup v
    else s.plainWrite a sup v
  else if R.AX_SINE 0 0 ≤ a ∧ a < R.AX_SINE 2 0 then
    let n := (a - R.AX_SINE 0 0) / 0x200
    (s.condWrite a sup v (!s.flag (F.AX_CFG_ENABLE n)) (F.AX_STAT_CFG_ERR n)).1
  else s.plainWrite a sup v

/-! ## LANES (R418, R421, R431, R439) -/

/-- A lane of quad q that uses PLL B (or A) is in service. -/
def State.pllUsed (s : State) (q : Nat) (pllB : Bool) : Bool := (List.finRange 32).any fun n =>
  decide (n.val / 4 = q) && s.flag (F.LN_CFG_ENABLE n.val) && s.flag (F.LN_CFG_PLL n.val) == pllB

/-- A write of v to LANES_QUAD_CFG of quad q (R418, R421): a PLL whose rate changes locks anew. -/
def State.quadWrite (s : State) (q : Nat) (sup : Bool) (v : Word) : State :=
  let a := R.LANES_QUAD_CFG q
  let new := s.written a sup Access.isRw v
  let chA := bitsOf new 2 0 != s.get (F.LANES_QUAD_CFG_RATE_A q)
  let chB := bitsOf new 6 4 != s.get (F.LANES_QUAD_CFG_RATE_B q)
  let r := s.condWrite a sup v (!(chA && s.pllUsed q false) && !(chB && s.pllUsed q true)) (F.LANES_QUAD_CFG_ERR q)
  if r.2 then
    let t := if chA then r.1.setFlag (F.LANES_QUAD_CFG_LOCK_A q) false else r.1
    if chB then t.setFlag (F.LANES_QUAD_CFG_LOCK_B q) false else t
  else r.1

/-- A write of v to LANES_REF (R417, R421): bit k is the reference of quads 2k and 2k + 1. -/
def State.refWrite (s : State) (sup : Bool) (v : Word) : State :=
  let new := s.written R.LANES_REF sup Access.isRw v
  let bad := (List.range 8).filter fun q =>
    bitsOf new (q / 2) (q / 2) != bitsOf (s.reg R.LANES_REF) (q / 2) (q / 2) && (s.pllUsed q false || s.pllUsed q true)
  if bad.isEmpty then s.plainWrite R.LANES_REF sup v
  else forEach bad s fun s q => s.setFlag (F.LANES_QUAD_CFG_ERR q) true

/-- A write of v to LN_CTRL of lane n (R431, R433). -/
def State.lnCtrlWrite (s : State) (n : Lane) (sup : Bool) (v : Word) : State :=
  let s := if pulsed (F.LN_CTRL_CLR_REFUSED n.val) sup v then s.lnClrRefused n else s
  let s := if pulsed (F.LN_CTRL_UNRETIRE n.val) sup v then s.lnUnretire n else s
  if pulsed (F.LN_CTRL_RETRAIN n.val) sup v then s.lnRetrain n else s

/-- A write in the LANES block. -/
def State.writeLanes (s : State) (sup : Bool) (a : Nat) (v : Word) : State :=
  if a = R.LANES_REF then s.refWrite sup v
  else if a = R.LANES_EYE_CMD then s.eyeCmdWrite sup v
  else match indexIn a (R.LANES_QUAD_CFG 0) 4 8 with
    | some q => s.quadWrite q sup v
    | none =>
      if R.LN_CFG 0 ≤ a ∧ a < R.LN_CFG 32 then
        let n : Lane := Fin.ofNat 32 ((a - R.LN_CFG 0) / 0x20)
        let o := a % 0x20
        if o = 0 then s.lnCfgWrite n sup v
        else if o = 0x14 then s.lnCtrlWrite n sup v
        else s.plainWrite a sup v
      else s.plainWrite a sup v

/-! ## FABRIC (R458, R487) -/

/-- A write in the FABRIC block. -/
def State.writeFabric (s : State) (sup : Bool) (a : Nat) (v : Word) : State :=
  let off := !s.flag F.FABRIC_CFG_ENABLE
  if a = R.FABRIC_CFG then s.fabricCfgWrite sup v
  else if a = R.FABRIC_KEY_CFG then
    let r := s.condWrite a sup v off F.FABRIC_CFG_CFG_ERR
    let least := 4 * r.1.get F.FABRIC_KEY_CFG_RENEW_MS
    if r.1.get F.FABRIC_KEY_CFG_TTL_MS < least then r.1.put F.FABRIC_KEY_CFG_TTL_MS least else r.1
  else if a = R.FABRIC_ELIG_LO ∨ a = R.FABRIC_ELIG_HI then (s.condWrite a sup v off F.FABRIC_CFG_CFG_ERR).1
  else if a = R.FABRIC_LAYER_LO ∨ a = R.FABRIC_LAYER_HI then (s.condWrite a sup v s.idle F.FABRIC_CFG_CFG_ERR).1
  else s.plainWrite a sup v

/-! ## HOST (R78, R85, R87, R92, R492, R509, R514, R523) -/

/-- A ring with this base word and configuration word lies in the Silo. -/
def ringFits (base cfg : Word) : Bool := decide (bitsOf base 26 5 * 32 + 32 * 2 ^ bitsOf cfg 4 0 ≤ siloSize)

/-- A write of v to HOST_RING_CFG of ring n (R85): fields while ENABLE is 0, ENABLE set on a ring in the Silo and cleared
in IDLE. RSEQ of a host ring begins again (R512). -/
def State.ringCfgWrite (s : State) (n : Nat) (sup : Bool) (v : Word) : State :=
  let a := R.HOST_RING_CFG n
  let was := s.ringOn n
  let new := s.written a sup Access.isRw v
  let on := bitsOf new 8 8 == 1
  let rest := setF new (F.HOST_RING_CFG_ENABLE n) 1 == s.reg a
  let ok := if was then !on && rest && s.idle else !on || ringFits (s.reg (R.HOST_RING_BASE n)) new
  let r := s.condWrite a sup v ok (F.HOST_RING_CFG_ERR n)
  if !was && r.1.ringOn n then
    (if n < 32 then r.1.modHRing (Fin.ofNat 32 n) fun x => { lost := x.lost } else (r.1.passFinal n (r.1.ringSpan n)).searchAgain)
  else r.1

/-- A write of v to HOST_RING_TAIL of ring n (R78, R509). -/
def State.ringTailWrite (s : State) (n : Nat) (sup : Bool) (v : Word) : State :=
  let a := R.HOST_RING_TAIL n
  let t := s.w1cWrite a sup v
  if !s.wouldChange a sup v then t
  else if n < 32 then t.setFlag (F.HOST_RING_TAIL_OVF n) true
  else t.tailWrite n (bitsOf v 15 0) (bitsOf v 16 16)

/-- A write of v to HOST_LAYER_CMD (R87, R92). -/
def State.layerCmdWrite (s : State) (v : Word) : State :=
  let arg := BitVec.ofNat 22 (bitsOf v 25 4)
  match bitsOf v 3 0 with
  | 1 => s.via execSchedule
  | 2 => s.via execClose
  | 3 => s.via execAbort
  | 4 => s.via execRecoatDone
  | 5 => s.via (execWaive arg)
  | 6 => s.via (execCancel arg)
  | _ => s.layerResult rsBAD_ARG

/-- A write in the HOST block. -/
def State.writeHost (s : State) (who : Reader) (sup : Bool) (a : Nat) (v : Word) : State :=
  if a = R.HOST_LAYER_CMD then s.layerCmdWrite v
  else if a = R.HOST_LAYER_BEGIN_LO ∨ a = R.HOST_LAYER_BEGIN_HI ∨ a = R.HOST_LAYER_MAP then
    (s.condWrite a sup v s.idle F.BEDMAP_GEOM_ERR).1
  else if R.HOST_RING_BASE 0 ≤ a ∧ a < R.HOST_RING_BASE 52 then
    let n := (a - R.HOST_RING_BASE 0) / 0x10
    let o := a % 0x10
    if o = 0 then (s.condWrite a sup v (!s.ringOn n) (F.HOST_RING_CFG_ERR n)).1
    else if o = 4 then s.ringCfgWrite n sup v
    else if o = 0xC then s.ringTailWrite n sup v
    else s
  else match indexIn a (R.HOST_HRING_CFG 0) 4 32 with
    | some h =>
      let w := if h = 0 then setF v (F.HOST_HRING_CFG_KIND 0) (s.get (F.HOST_HRING_CFG_KIND 0)) else v
      (s.condWrite a sup w (!s.ringOn h) (F.HOST_RING_CFG_ERR h)).1
    | none => match indexIn a (R.HOST_SESS_INFO 0) 8 9 with
      | some n => if pulsed (F.HOST_SESS_INFO_KILL n) sup v then s.killSession (Fin.ofNat 9 n) else s
      | none => match indexIn a (R.HOST_NET_IP 0) 0x20 2 with
        | some p => s.hostNetWrite who (Fin.ofNat 2 p) false v
        | none => match indexIn a (R.HOST_NET_MASK 0) 0x20 2 with
          | some p => s.hostNetWrite who (Fin.ofNat 2 p) true v
          | none => s.plainWrite a sup v

/-! ## The Granary, housekeeping, the display, the XK block, events (R535, R563, R584, R589, R615-R617) -/

/-- A write in the GRANARY block (R563). -/
def State.writeGran (s : State) (sup : Bool) (a : Nat) (v : Word) : State :=
  if a = R.GRANARY_COPY_SRC ∨ a = R.GRANARY_COPY_DST then
    (s.condWrite a sup v (!s.flag F.GRANARY_COPY_CTRL_BUSY) F.GRANARY_COPY_CTRL_ERR).1
  else if a = R.GRANARY_COPY_CTRL then
    let t := s.plainWrite a sup v
    if pulsed F.GRANARY_COPY_CTRL_START sup v then t.copyStart else t
  else s.plainWrite a sup v

/-- The stage thresholds of a word do not fall (R584). -/
def stagesRise (w : Word) : Bool :=
  let t (k : Nat) : Int := sgn 8 (bitsOf w (8 * k + 7) (8 * k))
  decide (t 0 ≤ t 1 ∧ t 1 ≤ t 2 ∧ t 2 ≤ t 3)

/-- A write in the HK block. -/
def State.writeHk (s : State) (sup : Bool) (a : Nat) (v : Word) : State :=
  if a = R.HK_THROTTLE then (s.condWrite a sup v (stagesRise (s.written a sup Access.isRw v)) F.HK_STAT_ERR).1
  else if a = R.HK_BCN then s.beaconWrite sup v
  else s.plainWrite a sup v

/-- A write in the XK block (R611, R615-R617): none of it is there in native personality. -/
def State.writeXk (s : State) (sup : Bool) (a : Nat) (v : Word) : State :=
  if !s.xkOn then s
  else if a % 0x10000 < 0x800 then
    let w := a % 0x800 / 4
    let t := s.xkWordWrite w (v.setWidth 16)
    if 0x50 ≤ w ∧ w < 0x70 ∧ w % 8 = 0 then t.alarmAgain (chanBeam (Fin.ofNat 4 ((w - 0x50) / 8))) else t
  else if a % 0x10000 = 0x1000 then (s.condWrite a sup v s.xkCfgFree F.XK_CFG_CFG_ERR).1
  else s.plainWrite a sup v

/-- Software event 168 + k with the word of EVT_HOST_DATA (R531). -/
def State.hostRaise (s : State) (k : Nat) : State := s.raise (168 + k % 32) (s.reg R.EVT_HOST_DATA).toNat

/-- A write in the EVT block. -/
def State.writeEvt (s : State) (sup : Bool) (a : Nat) (v : Word) : State :=
  if a = R.EVT_HOST_RAISE then s.hostRaise (bitsOf v 4 0) else s.plainWrite a sup v

end Sys2Proof.Machine
end

