-- ==== Sys2Proof/Machine/Access.lean ====
section
/-! DEFINITION. A read and a write of a device register by whoever may make one (00_scope.md R7, R8; 04_engine_isa.md R146;
13_host.md R536, R537), and the rows that are the write of one register. -/

namespace Sys2Proof.Machine

/-- The address is that of a register word (R145, R146). -/
def regWindow (a : Nat) : Bool := decide (regBase ≤ a ∧ a < 0xF0100000 ∧ a % 4 = 0)

/-- A read of the register at a (R7, R8): its word and what the read does, or none where the view may not read it. -/
def State.regRead (s : State) (who : Reader) (a : Nat) : Option (Word × State) :=
  let sup := s.supView who
  if regDenied a sup then none
  else match regFind a with
    | none => some (0, s)
    | some r =>
      let (w, t) := s.viewWord who a
      some (r.shown sup w, t.seen who a)

/-- What a write of v to the register at a does in a view. -/
def State.regEffect (s : State) (who : Reader) (sup : Bool) (a : Nat) (v : Word) : State :=
  match blockNo a with
  | 0 => s.writeSys who sup a v
  | 1 => s.writeTime sup a v
  | 2 => s.writeBeam (Fin.ofNat 16 (a % 0x10000 / 0x1000)) sup (a % 0x1000) a v
  | 3 => s.writeArb sup a v
  | 4 => s.writeBed sup a v
  | 5 => s.writeLoop sup a v
  | 6 => s.writeImg sup a v
  | 7 => s.writeAxes sup a v
  | 8 => s.writeLanes sup a v
  | 9 => s.writeFabric sup a v
  | 10 => s.writeHost who sup a v
  | 11 => s.writeGran sup a v
  | 12 => s.writeHk sup a v
  | 13 => s.dispWrite (a % 0x10000) sup v
  | 14 => s.writeXk sup a v
  | _ => s.writeEvt sup a v

/-- A write of v to the register at a (R7, R8), or none where the view may not write it. -/
def State.regWrite (s : State) (who : Reader) (a : Nat) (v : Word) : Option State :=
  let sup := s.supView who
  if regDenied a sup then none
  else match regFind a with
    | none => some s
    | some _ => some (s.regEffect who sup a v)

/-- A write of v by who at address a, with its consequences: an engine's privilege violation (R8), what a session's write owes
once its response is sent (R492, R641). -/
def State.writeAt (s : State) (who : Reader) (a : Nat) (v : Word) : State :=
  if regWindow a then
    s.askReg a (.write who (BitVec.ofNat 32 a) v) fun s =>
      match s.regWrite who a v with
      | some t => match who with
        | .engine _ => t
        | .session _ => t.payPorts.payReset
      | none => s.denied who
  else s

/-- REGISTER_WRITE (R7, R8, R146). -/
def execRegisterWrite (who : Reader) (addr v : BitVec 32) (s : State) : Host.Outcome State Fault Refusal :=
  .next (s.writeAt who addr.toNat v)

/-! ## Rows that are the write of one register -/

/-- SYS_PWR_POLICY_WRITE (R44, R45). -/
def execSysPwrPolicyWrite (who : Reader) (d : Fin 44) (v : BitVec 32) (s : State) : Host.Outcome State Fault Refusal :=
  .next (s.writeAt who (R.SYS_PWR_POLICY d.val) v)

/-- The address of a geometry register. -/
def bedRegAddr : BedReg → Nat
  | .originX => R.BEDMAP_ORIGIN_X
  | .originY => R.BEDMAP_ORIGIN_Y
  | .geom => R.BEDMAP_GEOM
  | .pitch => R.BEDMAP_PITCH
  | .halfLife => R.BEDMAP_HALF_LIFE
  | .eLsb => R.BEDMAP_E_LSB

/-- BEDMAP_CONFIG_WRITE (R56). -/
def execBedmapConfigWrite (who : Reader) (r : BedReg) (v : BitVec 32) (s : State) : Host.Outcome State Fault Refusal :=
  .next (s.writeAt who (bedRegAddr r) v)

/-- RING_TAIL_WRITE (R78, R509). -/
def execRingTailWrite (who : Reader) (n : Ring) (v : BitVec 32) (s : State) : Host.Outcome State Fault Refusal :=
  .next (s.writeAt who (R.HOST_RING_TAIL n.val) v)

/-- ENGINE_RUN (R144, R187): RUN is written 1. -/
def execEngineRun (who : Reader) (e : Fin 20) (s : State) : Host.Outcome State Fault Refusal :=
  .next (if s.supView who then s.engRun e else s)

/-- ENGINE_STOP (R179, R187): RUN is written 0. -/
def execEngineStop (who : Reader) (e : Fin 20) (s : State) : Host.Outcome State Fault Refusal :=
  .next (if s.supView who && !s.engTaken e && s.flag (F.SYS_ENG_CTRL_RUN e.val) && !s.flag (F.SYS_ENG_CTRL_FAULT e.val) then s.engStop e else s)

/-- ENGINE_RESET (R144, R179, R187): RESET is written 1. -/
def execEngineReset (who : Reader) (e : Fin 20) (s : State) : Host.Outcome State Fault Refusal :=
  .next (if s.supView who && !s.engTaken e then s.engReset e else s)

/-- SYS_ENG_WDOG_WRITE (R186, R188). -/
def execSysEngWdogWrite (who : Reader) (e : Fin 20) (v : BitVec 32) (s : State) : Host.Outcome State Fault Refusal :=
  .next (s.writeAt who (R.SYS_ENG_WDOG e.val) v)

/-- LASER_RESUME (R252): RESUME is written 1. -/
def execLaserResume (who : Reader) (b : Sys2Proof.Beam) (s : State) : Host.Outcome State Fault Refusal :=
  .next (s.ask ⟨b.val, by omega⟩ (.laserResume who b) fun s => if s.supView who then s.laserResume b else s)

/-- BEAM_CORR_BASE_WRITE (R241, R261). -/
def execBeamCorrBaseWrite (who : Reader) (b : Sys2Proof.Beam) (v : BitVec 32) (s : State) : Host.Outcome State Fault Refusal :=
  .next (s.writeAt who (R.BEAM_CORR_BASE b.val) v)

/-- RETIRE_WRITE (R293). -/
def execRetireWrite (who : Reader) (v : BitVec 32) (s : State) : Host.Outcome State Fault Refusal :=
  .next (s.writeAt who R.ARB_RETIRED v)

/-- RETIRE_CLEAR (R296). -/
def execRetireClear (who : Reader) (v : BitVec 32) (s : State) : Host.Outcome State Fault Refusal :=
  .next (s.writeAt who R.ARB_RETIRE_CLR v)

/-- LOOP_CONFIG_WRITE (R332): a write at an offset within the LOOP block. -/
def execLoopConfigWrite (who : Reader) (ofs v : BitVec 32) (s : State) : Host.Outcome State Fault Refusal :=
  .next (s.writeAt who (R.LOOP_CTRL + ofs.toNat % 0x10000) v)

/-- CAPTURE_ARM (R339): a write with ARM = 1 to LOOP_CAP_CFG. -/
def execCaptureArm (who : Reader) (v : BitVec 32) (s : State) : Host.Outcome State Fault Refusal :=
  .next (s.writeAt who R.LOOP_CAP_CFG (v ||| 0x80#32))

/-- CAPTURE_STOP (R339): a write of the present fields with STOP = 1 to LOOP_CAP_CFG. -/
def execCaptureStop (who : Reader) (s : State) : Host.Outcome State Fault Refusal :=
  .next (s.writeAt who R.LOOP_CAP_CFG (s.reg R.LOOP_CAP_CFG ||| 0x100#32))

/-- LOOP_INJ_CFG_WRITE (R340). -/
def execLoopInjCfgWrite (who : Reader) (v : BitVec 32) (s : State) : Host.Outcome State Fault Refusal :=
  .next (s.writeAt who R.LOOP_INJ_CFG v)

/-- LOOP_RESUME (R335): RESUME is written 1. -/
def execLoopResume (who : Reader) (b : Sys2Proof.Beam) (s : State) : Host.Outcome State Fault Refusal :=
  .next (s.ask 20 (.loopResume who b) fun s =>
    if pulsed (F.LOOP_BEAM_SAFE_RESUME b.val) (s.supView who) 0x10000#32 then s.loopGo b else s)

end Sys2Proof.Machine
end

