-- ==== Sys2Proof/Machine/BootEnd.lean ====
section
/-! DEFINITION. A valid image is applied (18_startup_faults_modes.md R644, R645, R647). -/

namespace Sys2Proof.Machine

/-- The i-th pair of a KIND 3 section is written by the supervisor pair (R644). -/
def State.bootPair (s : State) (src base at_ i : Nat) : State :=
  let a := s.imageWord src base (at_ + 8 * i)
  if s.boot.cause = 0 ∧ regWindow a then
    ((s.wakeReg a).regWrite (.engine 20) a (BitVec.ofNat 32 (s.imageWord src base (at_ + 8 * i + 4)))).getD s
  else s

/-- A section is written (R644); one for an engine that XK or mixed personality keeps is left out (R645). -/
def State.bootSection (s : State) (src base : Nat) (x : Section) : State :=
  let data := s.imageBytes src base x.at_ x.len
  if s.boot.cause ≠ 0 then s
  else if x.kind = 1 then
    let e : Fin 20 := Fin.ofNat 20 x.target
    if s.engTaken e then s
    else s.modEng (engAt e) fun y => { y with mem := (y.mem.setBytes x.dest data).renew x.dest x.len }
  else if x.kind = 2 then s.siloPut x.dest data
  else if x.kind = 3 then forEach (List.range (x.len / 8)) s fun s i => s.bootPair src base x.at_ i
  else s

/-- The steps of R647 for the image at an offset of a source. -/
def State.bootApply (s : State) (src base : Nat) : State :=
  let s := if src = 2 then s.siloFix base (s.imageSpan base) else s
  let run := s.imageWord src base 0x14
  let gen := s.imageGen src base
  let s := forEach ((s.imageSections src base).getD []) s fun s x => s.bootSection src base x
  if s.boot.cause ≠ 0 then s
  else
    let s := forEach ((List.finRange 20).filter fun e => run.testBit e.val) s fun s e => s.engRun e
    let s := (((s.put F.SYS_BOOT_STATE 1).put F.SYS_BOOT_SOURCE src).setFlag F.SYS_BOOT_SIGNED Config.enforce).put F.SYS_BOOT_GEN_GEN gen
    { s with boot := { s.boot with image := none } }

/-- BOOT_END (R647): nothing while no valid image waits. -/
def execBootEnd (s : State) : Host.Outcome State Fault Refusal :=
  .next (match s.boot.image with
    | some (src, base) => if s.boot.cause = 0 then s.bootApply src base else s
    | none => s)

end Sys2Proof.Machine
end

