-- ==== Sys2Proof/Machine/EngineMem.lean ====
section
/-! DEFINITION. Loads, stores and atomic operations of an engine (04_engine_isa.md R145, R146, R163-R166, R180, R184). -/

namespace Sys2Proof.Machine

/-! ## Where an access falls (R145, R146, R180) -/

/-- What an access of n bytes at an address reaches: local memory, the Silo, a device register, or a misaligned access with its
DETAIL. -/
inductive Place
  | loc (o : Nat)
  | silo (o : Nat)
  | reg (a : Nat)
  | none (detail : Nat)
  deriving DecidableEq, Repr

/-- The place of n bytes at address a for engine e (R145); registers are reached by words only (R146). -/
def placeOf (e : Eng) (a n : Nat) : Place :=
  if a % n ≠ 0 then .none 0
  else if a < localSize e then .loc a
  else if 0x10000000 ≤ a ∧ a < 0x10000000 + siloSize then .silo (a - 0x10000000)
  else if regBase ≤ a ∧ a < 0xF0100000 then (if n = 4 then .reg a else .none 2)
  else .none 1

/-- The address of a load or store: g[a] + sext (R163). -/
def memAddr (x : Engine) (a : GReg) (i : Imm) : Nat := (x.rd a + immSext i).toNat

/-! ## Loads (R163, R164) -/

/-- A load of n bytes at a: k of the value goes on in engine e. -/
def State.loadData (s : State) (e : Eng) (a n : Nat) (k : Nat → Engine → Engine) : Eff :=
  match placeOf e a n with
  | .none d => .exc 3 d
  | .loc o =>
    if s.eng[e].mem.badIn o n then .exc 4 0
    else .done ((s.localFix e o n).modEng e (k (s.eng[e].mem.read o n)))
  | .silo o =>
    if s.domainOn (domainOfSilo o) = false then .stall (domainOfSilo o)
    else if s.silo.badIn o n then .exc 4 2
    else .done (((s.touch (domainOfSilo o)).siloFix o n).modEng e (k (s.silo.read o n)))
  | .reg r =>
    if regDenied r (s.engPriv e) then .exc 2 0
    else match s.domainOfReg r with
      | some d =>
        if s.domainOn d = false then .stall d
        else match (s.touch d).regRead (.engine e) r with
          | some (v, t) => .done (t.modEng e (k v.toNat))
          | none => .exc 2 0
      | none => match s.regRead (.engine e) r with
        | some (v, t) => .done (t.modEng e (k v.toNat))
        | none => .exc 2 0

/-- A load instruction: n bytes at g[a] + sext, f of the value to g[d]. -/
def State.load (s : State) (e : Eng) (i : Instr) (d a : GReg) (im : Imm) (n : Nat) (f : Nat → Word) : State :=
  s.runEng e i (immLen im) none fun s => s.loadData e (memAddr s.eng[e] a im) n fun v x => x.setG d (f v)

/-- The low w bits of a number, sign-extended to a word (R4). -/
def sextTo (w v : Nat) : Word := BitVec.ofInt 32 (sgn w v)

/-- LW (R163). -/
def execLw (e : Eng) (d a : GReg) (i : Imm) (s : State) : Host.Outcome State Fault Refusal :=
  .next (s.load e (.lw e d a i) d a i 4 (BitVec.ofNat 32))
/-- LH (R163). -/
def execLh (e : Eng) (d a : GReg) (i : Imm) (s : State) : Host.Outcome State Fault Refusal :=
  .next (s.load e (.lh e d a i) d a i 2 (sextTo 16))
/-- LHU (R163). -/
def execLhu (e : Eng) (d a : GReg) (i : Imm) (s : State) : Host.Outcome State Fault Refusal :=
  .next (s.load e (.lhu e d a i) d a i 2 (BitVec.ofNat 32))
/-- LB (R163). -/
def execLb (e : Eng) (d a : GReg) (i : Imm) (s : State) : Host.Outcome State Fault Refusal :=
  .next (s.load e (.lb e d a i) d a i 1 (sextTo 8))
/-- LBU (R163). -/
def execLbu (e : Eng) (d a : GReg) (i : Imm) (s : State) : Host.Outcome State Fault Refusal :=
  .next (s.load e (.lbu e d a i) d a i 1 (BitVec.ofNat 32))
/-- LD (R163): d even; the word at the lower address to g[d]. -/
def execLd (e : Eng) (d a : GReg) (i : Imm) (s : State) : Host.Outcome State Fault Refusal :=
  .next (s.runEng e (.ld e d a i) (immLen i) (badField (oddPair d)) fun s =>
    s.loadData e (memAddr s.eng[e] a i) 8 fun v x =>
      (x.setG d (BitVec.ofNat 32 v)).setG (pairHi d) (BitVec.ofNat 32 (v / 2 ^ 32)))

/-! ## Stores (R163, R164) -/

/-- A store to device register r: the write, with the program counter already behind the instruction, since it may stop or reset
the engine itself. -/
def State.storeReg (s : State) (e : Eng) (len r v : Nat) : Eff :=
  match (s.modEng e fun x => { x with pc := x.pc + BitVec.ofNat 32 len }).regWrite (.engine e) r (BitVec.ofNat 32 v) with
  | some t => .hold t
  | none => .exc 2 0

/-- A store of the low n bytes of v at a by an instruction of len bytes; a whole 64-bit word gets new check bits. -/
def State.storeAt (s : State) (e : Eng) (len a n v : Nat) : Eff :=
  match placeOf e a n with
  | .none d => .exc 3 d
  | .loc o =>
    if n < 8 ∧ s.eng[e].mem.badIn o n = true then .exc 4 0
    else
      let t := if n < 8 then s.localFix e o n else s
      .done (t.modEng e fun x => { x with mem := (x.mem.write o n v).renew o n })
  | .silo o =>
    if s.domainOn (domainOfSilo o) = false then .stall (domainOfSilo o)
    else if n < 8 ∧ s.silo.badIn o n = true then .exc 4 2
    else
      let t := s.touch (domainOfSilo o)
      let t := if n < 8 then t.siloFix o n else t
      .done { t with silo := (t.silo.write o n v).renew o n }
  | .reg r =>
    if regDenied r (s.engPriv e) then .exc 2 0
    else match s.domainOfReg r with
      | some d => if s.domainOn d = false then .stall d else (s.touch d).storeReg e len r v
      | none => s.storeReg e len r v

/-- A store instruction: the low n bytes of g[d] at g[a] + sext. -/
def State.store (s : State) (e : Eng) (i : Instr) (d a : GReg) (im : Imm) (n : Nat) : State :=
  s.runEng e i (immLen im) none fun s =>
    s.storeAt e (immLen im) (memAddr s.eng[e] a im) n (s.eng[e].rd d).toNat

/-- SW (R163). -/
def execSw (e : Eng) (d a : GReg) (i : Imm) (s : State) : Host.Outcome State Fault Refusal :=
  .next (s.store e (.sw e d a i) d a i 4)
/-- SH (R163). -/
def execSh (e : Eng) (d a : GReg) (i : Imm) (s : State) : Host.Outcome State Fault Refusal :=
  .next (s.store e (.sh e d a i) d a i 2)
/-- SB (R163). -/
def execSb (e : Eng) (d a : GReg) (i : Imm) (s : State) : Host.Outcome State Fault Refusal :=
  .next (s.store e (.sb e d a i) d a i 1)
/-- SD (R163): d even; g[d] at the lower address. -/
def execSd (e : Eng) (d a : GReg) (i : Imm) (s : State) : Host.Outcome State Fault Refusal :=
  .next (s.runEng e (.sd e d a i) (immLen i) (badField (oddPair d)) fun s =>
    let x := s.eng[e]
    s.storeAt e (immLen i) (memAddr x a i) 8 ((x.rd d).toNat + (x.rd (pairHi d)).toNat * 2 ^ 32))

/-! ## Atomic operations (R165, R166) -/

/-- One read-modify-write of the Silo word at g[a]: `f old` is the new word, if one is written; the old word goes to g[d], and g
finishes the flags from whether it was written. An address outside the Silo takes DETAIL 3, also one of a register window, which
DETAIL 2 of R180 would name as well (log entry 48). -/
def State.atom (s : State) (e : Eng) (i : Instr) (d a : GReg) (f : Engine → Word → Option Word)
    (g : Engine → Bool → Engine) : State :=
  s.runEng e i 4 none fun s =>
    let x := s.eng[e]
    let p := (x.rd a).toNat
    if p % 4 ≠ 0 then .exc 3 0
    else if 0x10000000 ≤ p ∧ p < 0x10000000 + siloSize then
      let o := p - 0x10000000
      if s.domainOn (domainOfSilo o) = false then .stall (domainOfSilo o)
      else if s.silo.badIn o 4 then .exc 4 2
      else
        let t := (s.touch (domainOfSilo o)).siloFix o 4
        let old := BitVec.ofNat 32 (s.silo32 o)
        let t := match f x old with
          | some v => t.setSilo32 o v.toNat
          | none => t
        .done (t.modEng e fun y => (g y (f x old).isSome).setG d old)
    else .exc 3 3

/-- ATOM_SWAP (R165). -/
def execAtomSwap (e : Eng) (d a b : GReg) (s : State) : Host.Outcome State Fault Refusal :=
  .next (s.atom e (.atomSwap e d a b) d a (fun x _ => some (x.rd b)) fun y _ => y)
/-- ATOM_ADD (R165). -/
def execAtomAdd (e : Eng) (d a b : GReg) (s : State) : Host.Outcome State Fault Refusal :=
  .next (s.atom e (.atomAdd e d a b) d a (fun x old => some (old + x.rd b)) fun y _ => y)
/-- ATOM_CAS (R165): g[b] where the old word is g[d]; Z says whether it was written. -/
def execAtomCas (e : Eng) (d a b : GReg) (s : State) : Host.Outcome State Fault Refusal :=
  .next (s.atom e (.atomCas e d a b) d a (fun x old => if old = x.rd d then some (x.rd b) else none)
    fun y w => { y with flags := { y.flags with z := w } })
/-- ATOM_OR (R165). -/
def execAtomOr (e : Eng) (d a b : GReg) (s : State) : Host.Outcome State Fault Refusal :=
  .next (s.atom e (.atomOr e d a b) d a (fun x old => some (old ||| x.rd b)) fun y _ => y)
/-- ATOM_AND (R165). -/
def execAtomAnd (e : Eng) (d a b : GReg) (s : State) : Host.Outcome State Fault Refusal :=
  .next (s.atom e (.atomAnd e d a b) d a (fun x old => some (old &&& x.rd b)) fun y _ => y)

/-- FENCE (R166): every store is visible at once, so it only goes on. -/
def execFence (e : Eng) (s : State) : Host.Outcome State Fault Refusal :=
  .next (s.runLocal e (.fence e) 4 none fun x => x)

end Sys2Proof.Machine
end

