-- ==== Sys2Proof/Machine/Vmp.lean ====
section
/-! DEFINITION. The VMP requests of sessions, registers, the Silo and the host rings, and the messages of the device on its rings
(13_host.md R496-R516, R520, R537). -/

namespace Sys2Proof.Machine

/-! ## Codes (R499) -/

abbrev vmOK : Nat := 0
abbrev vmBUSY : Nat := 1
abbrev vmPRIVILEGE : Nat := 2
abbrev vmBADSESSION : Nat := 3
abbrev vmBADSEQ : Nat := 4
abbrev vmBADMSG : Nat := 5
abbrev vmBADTYPE : Nat := 6
abbrev vmBADADDR : Nat := 7
abbrev vmBADRING : Nat := 8
abbrev vmWRONGDIR : Nat := 9
abbrev vmFULL : Nat := 10
abbrev vmWRONGSTATE : Nat := 11
abbrev vmNOSESSION : Nat := 12
abbrev vmUNREACHABLE : Nat := 13
abbrev vmFAILED : Nat := 14

/-! ## Before a request is executed (R497, R501, R503-R506, R516, R520, R639) -/

/-- The length of a message is that of its header, and it is a request (R497). -/
def vmpWell (m : VmpMsg) : Bool :=
  decide (m.len.toNat = m.body.length) && decide (m.tag.length = if m.flags.getLsbD 1 then 16 else 0) && !m.flags.getLsbD 0

/-- A message for another node (R516): RLY, and a target that is not the device. -/
def State.forAnother (s : State) (m : VmpMsg) : Bool := m.relay.getLsbD 15 && decide (m.relay.toNat % 64 ≠ s.ownNode.val)

/-- The origin passes a message on to its target (R515, R516). -/
def State.relayOn (s : State) (o : VmpFrom) (m : VmpMsg) : State :=
  let n : Node := Fin.ofNat 64 (m.relay.toNat % 64)
  if 248 < vmpLen m then s.vmpBad o m
  else if s.role = 0 || !s.fabOn || !s.reachable n then (s.raise 247 n.val).vmpAnswer o m vmUNREACHABLE []
  else s.flSend 2 n 2 false (relayHead { o with origin := BitVec.ofNat 8 o.port.val } ++ vmpOctets m ++ m.tag)

/-- Boot has not ended (R639): LOADING or FAILED. -/
def State.bootRuns (s : State) : Bool := s.get F.SYS_BOOT_STATE == 0 || s.get F.SYS_BOOT_STATE == 3

/-- The BUSY answer (R520, R639), untagged. -/
def State.vmpBusy (s : State) (o : VmpFrom) (m : VmpMsg) : State :=
  let (remain, s) := if s.longRuns then (s.longRemain, s) else s.freeVal 35 32
  let op := if s.longRuns then s.get F.HOST_LONG_OP else 0
  (s.count F.HOST_VMP_CNT_BUSY).vmpAnswer o m vmBUSY (beOctets op 1 ++ [0, 0, 0] ++ beOctets remain 4)

/-- What every request meets first: nothing while the device is held in reset, the way to another node, BAD_MSG, BUSY; then k. -/
def State.vmpMeet (s : State) (o : VmpFrom) (m : VmpMsg) (discover : Bool) (k : State → State) : State :=
  if s.boot.cause ≠ 0 then s
  else if s.forAnother m && decide (o.port ≠ 3) then s.relayOn o m
  else if vmpWell m = false then s.vmpBad o m
  else if s.longRuns || (s.bootRuns && !discover) then s.vmpBusy o m
  else k s

/-- A response that a relay may not carry is refused (R516). -/
def tooLong (o : VmpFrom) (m : VmpMsg) : Bool := decide (o.port = 3) && decide (248 < vmpLen m)

/-- A wrong or absent tag (R505). -/
def State.badTag (s : State) (n : Sess) : State :=
  let s := ((s.count F.HOST_VMP_CNT_BAD_TAG).raise 242 n.val).modSess n fun x => { x with badTags := x.badTags + 1 }
  if 8 ≤ s.host.sess[n].badTags then s.closeSession n 3 else s

/-- The tag of a request of a session whose messages carry one is correct. -/
def State.tagOk (s : State) (n : Sess) (m : VmpMsg) : Bool := m.flags.getLsbD 1 && m.tag == s.vmpTag n { m with tag := [] }

/-- The rings of session n that had stopped resending start again (R510). -/
def State.wakeRings (s : State) (n : Sess) : State :=
  forEach (s.ringsOf n) s fun s r => if s.host.rings[r].stalled then
    s.modHRing r fun x => { x with sentAt := [], resends := 0, stalled := false } else s

/-- A request is accepted: A, the session's time, the host's present addresses (R493, R504, R507). -/
def State.vmpAccept (s : State) (n : Sess) (o : VmpFrom) (m : VmpMsg) : State :=
  (s.modSess n fun x => { x with a := m.seq, accepted := true, since := s.now, peer := x.peer.map fun p => { p with mac := o.mac } }).wakeRings n

/-- The response of an executed request: tagged as the session's messages are, kept among the last sixteen, sent; then what it
owes (R492, R503, R504, R641). `q` is the state before the request was executed. -/
def State.vmpDone (s q : State) (n : Sess) (o : VmpFrom) (m : VmpMsg) (status : Nat) (body : List Octet) : State :=
  let r := q.tagged n (vmpReply m status body)
  let s := if s.sessState n = 0 then s else s.modSess n fun x => { x with stored := (r :: x.stored).take 16 }
  ((s.vmpOut o r).payPorts).payReset

/-- What the execution of a request gives: the state, STATUS and the body. -/
abbrev VmpOp := State → Sess → VmpMsg → State × Nat × List Octet

/-- A request of a session is a row of the table (R498, R517). -/
def vmpRow (m : VmpMsg) : Bool :=
  [3, 4, 5, 0x10, 0x11, 0x20, 0x21, 0x30, 0x32].contains m.type.toNat ||
    (decide (m.type.toNat = 0x40) && decide (1 ≤ (m.body.headD 0).toNat ∧ (m.body.headD 0).toNat ≤ 5))

/-- A request of this session byte waits. -/
def vmpHeld (session : Octet) : Asked → Bool
  | .vmp _ m => m.session == session
  | _ => false

/-- A number in network byte order at octet i. -/
def beAt (l : List Octet) (i n : Nat) : Nat := beNum ((l.drop i).take n)

/-- The bank groups of the extent of n octets at a of the Silo (R36, R45). -/
def siloDomains (a n : Nat) : List (Fin 44) := [domainOfSilo a, domainOfSilo (a + n - 1)]

/-- The domains that a request asks (R41, R45): the way it came, and the blocks of what it reads or writes. -/
def State.vmpAsks (s : State) (o : VmpFrom) (m : VmpMsg) : List (Fin 44) :=
  let way : List (Fin 44) := if o.port.val < 2 then [41] else if o.port.val = 3 then [40] else []
  let k := beAt m.body 0 1
  let regs (n : Nat) := (List.range (min k 64)).filterMap fun i => s.domainOfReg (beAt m.body (4 + n * i) 4)
  way ++ (match m.type.toNat with
    | 0x10 => regs 4
    | 0x11 => regs 8
    | 0x20 => siloDomains (beAt m.body 0 4) (m.body.length - 4)
    | 0x21 => siloDomains (beAt m.body 0 4) (beAt m.body 4 4)
    | 0x30 => (List.range (min k 44)).map fun i =>
        let r := m.ring.toNat
        domainOfSilo (s.slotAddr r ((s.get (F.HOST_RING_TAIL_SLOT r) + i) % 2 ^ s.ringK r))
    | _ => [])

/-- A request of a session waits (R41): a domain that it asks is not ON, or one of its session that came before it waits. -/
def State.vmpWaits (s : State) (o : VmpFrom) (m : VmpMsg) : Bool :=
  vmpRow m && (s.waiting.any (vmpHeld m.session) || (s.vmpAsks o m).any fun d => !s.domainOn d)

/-- A request of a session waits for the domains that it asks (R41). -/
def State.vmpPark (s : State) (o : VmpFrom) (m : VmpMsg) : State :=
  (forEach (s.vmpAsks o m) s fun s d => s.wakeDomain d).park (.vmp o m)

/-- A request on session n whose tag has been checked (R504): executed, answered again, or refused. -/
def State.vmpSeq (s : State) (n : Sess) (o : VmpFrom) (m : VmpMsg) (f : VmpOp) : State :=
  let x := s.host.sess[n]
  if later 32 m.seq.toNat x.a.toNat then
    if s.vmpWaits o m then s.vmpPark o m
    else
    let s := (forEach (s.vmpAsks o m) s fun s d => s.touch d).vmpAccept n o m
    let r := f s n m
    if tooLong o (s.tagged n (vmpReply m r.2.1 r.2.2)) then s.vmpDone s n o m vmBADMSG []
    else r.1.vmpDone s n o m r.2.1 r.2.2
  else match x.stored.find? fun r => decide (r.seq = m.seq ∧ r.xid = m.xid) with
    | some r => s.vmpOut o r
    | none => (s.count F.HOST_VMP_CNT_BAD_SEQ).vmpOut o (s.tagged n (vmpReply m vmBADSEQ []))

/-- The session a request names, if its binding is that of the request (R501). -/
def State.vmpSess (s : State) (o : VmpFrom) (m : VmpMsg) : Option Sess :=
  if h : m.session.toNat < 9 then
    let n : Sess := ⟨m.session.toNat, h⟩
    match s.host.sess[n].peer with
    | some p => if sameBinding p o && s.sessState n != 0 then some n else none
    | none => none
  else none

/-- A request of an OPEN session, from its header to its execution. -/
def State.vmpRun (s : State) (o : VmpFrom) (m : VmpMsg) (f : VmpOp) : State :=
  s.vmpMeet o m false fun s =>
    match s.vmpSess o m with
    | none => s.vmpAnswer o m vmBADSESSION []
    | some n =>
      if s.sessState n ≠ 2 then s.vmpAnswer o m vmBADSESSION []
      else if s.host.sess[n].keyed then (if s.tagOk n m then s.vmpSeq n o m f else s.badTag n)
      else if m.flags.getLsbD 1 then s.vmpBad o m
      else s.vmpSeq n o m f

/-- An execution that changes nothing. -/
def vmpNo (s : State) (status : Nat) : State × Nat × List Octet := (s, status, [])
/-- A body that breaks a rule of its type (R497). -/
def vmpBody (s : State) : State × Nat × List Octet := (s.count F.HOST_VMP_CNT_BAD_MSG, vmBADMSG, [])
/-- A type that carries RING = 0 (R498). -/
def onRing0 (f : VmpOp) : VmpOp := fun s n m => if m.ring = 0 then f s n m else vmpNo s vmBADRING

/-! ## DISCOVER, OPEN, AUTH, CLOSE, KEEPALIVE (R498, R502, R505-R507) -/

/-- DISCOVER (R498). -/
def execDiscover (o : VmpFrom) (m : VmpMsg) (s : State) : Host.Outcome State Fault Refusal :=
  .next (
    let m := { m with type := 1 }
    s.vmpMeet o m true fun s =>
      if m.ring ≠ 0 then s.vmpAnswer o m vmBADRING []
      else if m.body ≠ [] then s.vmpBad o m
      else
        let ip := if o.port.val < 2 then s.get (F.HOST_NET_IP_IP o.port.val) else 0
        s.vmpAnswer o m vmOK (beOctets Config.uid.toNat 8 ++ beOctets (s.reg R.SYS_DEVICE_ID).toNat 4 ++ beOctets (s.reg R.SYS_REV).toNat 4 ++
          beOctets s.ownNode.val 1 ++ beOctets o.port.val 1 ++ beOctets (s.get F.SYS_STRAPS_MODE) 1 ++ [0] ++ beOctets ip 4))

/-- The session an OPEN from o takes: 8 on the local bus, else the lowest FREE. -/
def State.openSess (s : State) (o : VmpFrom) : Option Sess :=
  if o.port = 2 then some 8
  else (List.finRange 9).find? fun n => decide (n.val < 8) && s.sessState n == 0

/-- The session whose OPEN came from the same binding with the same N_HOST and that has accepted no request (R502). -/
def State.sameOpen (s : State) (o : VmpFrom) (nHost : BitVec 64) : Option VmpMsg :=
  (List.finRange 9).findSome? fun n =>
    let x := s.host.sess[n]
    if s.sessState n != 0 && x.nHost == nHost && !x.accepted && (match x.peer with
      | some p => sameBinding p o
      | none => false) then x.opened else none

/-- Session n is allocated to an OPEN (R502, R506). -/
def State.openNow (s : State) (n : Sess) (o : VmpFrom) (m : VmpMsg) (sup : Bool) (nHost : BitVec 64) : State :=
  let s := if s.sessState n = 0 then s
    else let (r, s) := s.freeVal 33 4; s.closeSession n r
  let keyed := sup && s.gran.key.isSome
  let (nDev, s) := if keyed then s.freeVal 34 64 else (0, s)
  let r := vmpReply m vmOK (beOctets n.val 1 ++ beOctets (b2n sup) 1 ++ [0, 0] ++ beOctets nDev 8)
  let s := (s.modSess n fun _ =>
    { peer := some o, nHost := nHost, nDev := BitVec.ofNat 64 nDev, keyed := keyed, opened := some r, since := s.now }).bindSession
      n o (if keyed then 1 else 2) sup
  let s := if keyed then s else s.sessOpened n
  s.vmpOut o r

/-- OPEN (R502, R506). -/
def execOpenReq (o : VmpFrom) (m : VmpMsg) (s : State) : Host.Outcome State Fault Refusal :=
  .next (
    let m := { m with type := 2 }
    s.vmpMeet o m false fun s =>
      let mode := beAt m.body 0 1
      let nHost := BitVec.ofNat 64 (beAt m.body 4 8)
      if m.ring ≠ 0 then s.vmpAnswer o m vmBADRING []
      else if m.body.length ≠ 12 ∨ 2 ≤ mode ∨ beAt m.body 1 3 ≠ 0 then s.vmpBad o m
      else match s.sameOpen o nHost with
        | some r => s.vmpOut o r
        | none =>
          if mode = 0 ∧ s.flag F.HOST_VMP_CFG_USER_OPEN = false then s.vmpAnswer o m vmPRIVILEGE []
          else match s.openSess o with
            | none => s.vmpAnswer o m vmNOSESSION []
            | some n => s.openNow n o m (decide (mode = 1)) nHost)

/-- AUTH (R502, R505): opens a PENDING session whose key it proves. -/
def execAuth (o : VmpFrom) (m : VmpMsg) (s : State) : Host.Outcome State Fault Refusal :=
  .next (
    let m := { m with type := 3 }
    s.vmpMeet o m false fun s =>
      match s.vmpSess o m with
      | none => s.vmpAnswer o m vmBADSESSION []
      | some n =>
        if s.sessState n = 1 then
          if s.tagOk n m then
            s.vmpSeq n o m (onRing0 fun s n m => if m.body = [] then (s.sessOpened n, vmOK, []) else vmpBody s)
          else s.badTag n
        else s.vmpRun o m fun s _ _ => vmpNo s vmWRONGSTATE)

/-- CLOSE (R507): answered, and the session closes with reason 1. -/
def execVmpClose (o : VmpFrom) (m : VmpMsg) (s : State) : Host.Outcome State Fault Refusal :=
  .next (s.vmpRun o { m with type := 4 } (onRing0 fun s n m => if m.body = [] then (s.closeSession n 1, vmOK, []) else vmpBody s))

/-- KEEPALIVE (R498). -/
def execKeepalive (o : VmpFrom) (m : VmpMsg) (s : State) : Host.Outcome State Fault Refusal :=
  .next (s.vmpRun o { m with type := 5 } (onRing0 fun s _ m => if m.body = [] then (s, vmOK, beOctets s.now 8) else vmpBody s))

/-! ## Registers (R498, R537) -/

/-- Reads of n addresses in the octets l, the count done and the values so far; STATUS of the first refusal. -/
def State.vmpReads (who : Reader) : Nat → List Octet → Nat → List Octet → State → State × Nat × Nat × List Octet
  | 0, _, done, out, s => (s, vmOK, done, out)
  | n + 1, l, done, out, s =>
    let a := beAt l 0 4
    if regWindow a = false then (s, vmBADADDR, done, out)
    else match (s.touchReg a).regRead who a with
      | none => (s, vmPRIVILEGE, done, out)
      | some (w, t) => State.vmpReads who n (l.drop 4) (done + 1) (out ++ beOctets w.toNat 4) t

/-- Writes of n pairs in the octets l. -/
def State.vmpWrites (who : Reader) : Nat → List Octet → Nat → State → State × Nat × Nat
  | 0, _, done, s => (s, vmOK, done)
  | n + 1, l, done, s =>
    let a := beAt l 0 4
    if regWindow a = false then (s, vmBADADDR, done)
    else match (s.touchReg a).regWrite who a (BitVec.ofNat 32 (beAt l 4 4)) with
      | none => (s, vmPRIVILEGE, done)
      | some t => State.vmpWrites who n (l.drop 8) (done + 1) t

/-- REG_READ (R498, R537). -/
def execRegRead (o : VmpFrom) (m : VmpMsg) (s : State) : Host.Outcome State Fault Refusal :=
  .next (s.vmpRun o { m with type := 0x10 } (onRing0 fun s n m =>
    let k := beAt m.body 0 1
    if k = 0 ∨ 64 < k ∨ m.body.length ≠ 4 + 4 * k ∨ beAt m.body 1 3 ≠ 0 then vmpBody s
    else
      let r := State.vmpReads (.session n) k (m.body.drop 4) 0 [] s
      (r.1, r.2.1, beOctets r.2.2.1 1 ++ [0, 0, 0] ++ r.2.2.2)))

/-- REG_WRITE (R498, R537). -/
def execRegWrite (o : VmpFrom) (m : VmpMsg) (s : State) : Host.Outcome State Fault Refusal :=
  .next (s.vmpRun o { m with type := 0x11 } (onRing0 fun s n m =>
    let k := beAt m.body 0 1
    if k = 0 ∨ 64 < k ∨ m.body.length ≠ 4 + 8 * k ∨ beAt m.body 1 3 ≠ 0 then vmpBody s
    else
      let r := State.vmpWrites (.session n) k (m.body.drop 4) 0 s
      (r.1, r.2.1, beOctets r.2.2 1 ++ [0, 0, 0])))

/-! ## The Silo (R498) -/

/-- SILO_WRITE (R498). -/
def execSiloWrite (o : VmpFrom) (m : VmpMsg) (s : State) : Host.Outcome State Fault Refusal :=
  .next (s.vmpRun o { m with type := 0x20 } (onRing0 fun s _ m =>
    let a := beAt m.body 0 4
    let l := m.body.drop 4
    if l = [] ∨ 1432 < l.length ∨ l.length % 4 ≠ 0 then vmpBody s
    else if a % 4 ≠ 0 ∨ siloSize < a + l.length then vmpNo s vmBADADDR
    else (s.siloPut a l, vmOK, [])))

/-- SILO_READ (R38, R498). -/
def execSiloRead (o : VmpFrom) (m : VmpMsg) (s : State) : Host.Outcome State Fault Refusal :=
  .next (s.vmpRun o { m with type := 0x21 } (onRing0 fun s _ m =>
    let a := beAt m.body 0 4
    let n := beAt m.body 4 4
    if m.body.length ≠ 8 ∨ n < 4 ∨ 1432 < n ∨ n % 4 ≠ 0 then vmpBody s
    else if a % 4 ≠ 0 ∨ siloSize < a + n then vmpNo s vmBADADDR
    else
      if s.silo.badIn a n then vmpNo s vmFAILED
      else let t := s.siloFix a n; (t, vmOK, t.silo.bytes a n)))

/-! ## Host rings (R508-R511) -/

/-- A message of session n on host ring r: BAD_RING or PRIVILEGE where it may not be made. -/
def State.ringRefusal (s : State) (n : Sess) (r : Nat) : Nat :=
  if 32 ≤ r then vmBADRING
  else if s.flag (F.HOST_HRING_CFG_SUP_ONLY r) && !s.sessSup n then vmPRIVILEGE
  else vmOK

/-- n descriptors are placed in host ring r, as far as it has room; the count placed. -/
def State.placeDescs (r : Nat) : Nat → List Octet → Nat → State → State × Nat
  | 0, _, k, s => (s, k)
  | n + 1, l, k, s =>
    if s.ringFull r then (s, k)
    else
      let a := s.slotAddr r (s.get (F.HOST_RING_TAIL_SLOT r))
      let s := s.siloPut a (l.take 32)
      State.placeDescs r n (l.drop 32) (k + 1) (s.setTail r (s.ringNext r (s.vTail r)))

/-- RING_PUT (R508, R509). -/
def execRingPut (o : VmpFrom) (m : VmpMsg) (s : State) : Host.Outcome State Fault Refusal :=
  .next (s.vmpRun o { m with type := 0x30 } fun s n m =>
    let k := beAt m.body 0 1
    let r := m.ring.toNat
    if k = 0 ∨ 44 < k ∨ m.body.length ≠ 4 + 32 * k ∨ beAt m.body 1 3 ≠ 0 then vmpBody s
    else if r = 0 then vmpNo s vmBADRING
    else if s.ringRefusal n r ≠ vmOK then vmpNo s (s.ringRefusal n r)
    else if s.get (F.HOST_HRING_CFG_KIND r) ≠ 0 then vmpNo s vmWRONGDIR
    else if s.ringOn r = false then (s, vmBADRING, [0, 0, 0, 0] ++ beOctets (s.vTail r) 4)
    else
      let q := State.placeDescs r k (m.body.drop 4) 0 s
      (q.1, if q.2 = k then vmOK else vmFULL, beOctets q.2 1 ++ [0, 0, 0] ++ beOctets (q.1.vTail r) 4))

/-- RING_ACK (R508, R510): HEAD moves to V. -/
def execRingAck (o : VmpFrom) (m : VmpMsg) (s : State) : Host.Outcome State Fault Refusal :=
  .next (s.vmpRun o { m with type := 0x32 } fun s n m =>
    let r := m.ring.toNat
    if m.body.length ≠ 4 then vmpBody s
    else if s.ringRefusal n r ≠ vmOK then vmpNo s (s.ringRefusal n r)
    else if s.get (F.HOST_HRING_CFG_KIND r) = 0 ∨ s.get (F.HOST_HRING_CFG_DEST r) ≠ n.val then vmpNo s vmWRONGDIR
    else if s.ringOn r = false then vmpNo s vmBADRING
    else
      let h : Fin 32 := Fin.ofNat 32 r
      let v := beAt m.body 0 4
      let k := s.ringK r
      let step := wrap (k + 1) ((v : Int) - s.vHead r)
      if 2 ^ (k + 1) ≤ v ∨ step = 0 ∨ s.host.rings[h].ever < step then vmpBody s
      else
        let s := (s.setHead r v).modHRing h fun x => { x with sentAt := x.sentAt.drop step, ever := x.ever - step, resends := 0 }
        (s, vmOK, beOctets v 4))

/-- The session to which host ring r is sent, if it is OPEN. -/
def State.ringDest (s : State) (r : Fin 32) : Option Sess :=
  let n : Sess := Fin.ofNat 9 (s.get (F.HOST_HRING_CFG_DEST r.val))
  if s.sessState n = 2 then some n else none

/-- Session n is bound by relay. -/
def State.viaRelay (s : State) (n : Sess) : Bool := match s.host.sess[n].peer with
  | some p => decide (p.port = 3)
  | none => false

/-- RING_DATA_SEND (R510, R516, R520): the next descriptor of an OUT or EVENT ring goes to its session. -/
def execRingDataSend (h : Fin 32) (s : State) : Host.Outcome State Fault Refusal :=
  .next (
    let r := h.val
    let x := s.host.rings[h]
    let kind := s.get (F.HOST_HRING_CFG_KIND r)
    let i := x.sentAt.length
    match s.ringDest h with
    | none => s
    | some n =>
      if s.longRuns || kind == 0 || !s.ringOn r || x.stalled || decide (16 ≤ i) || decide (s.ringCount r ≤ i) then s
      else
        let v := (s.vHead r + i) % 2 ^ (s.ringK r + 1)
        let a := s.slotAddr r (v % 2 ^ s.ringK r)
        s.askSoon [domainOfSilo a] fun s =>
        let far := s.viaRelay n
        let (desc, s) := s.devReads a 4 8
        let p := desc.getD 0 0
        let len := if kind = 1 then min (desc.getD 1 0) (if far then 160 else 1024) else 0
        let none_ := kind == 1 && (decide (siloSize < p + len) || (decide (0 < len) && s.silo.badIn p len))
        let s := if none_ || decide (len = 0) then s else s.siloFix p len
        let data := if none_ then [] else s.silo.bytes p len
        let flags := b2n none_ + 2 * b2n (decide (i < x.ever))
        let s := s.modHRing h fun y => { y with sentAt := y.sentAt ++ [s.now], ever := max y.ever (i + 1) }
        s.vmpDevice n 0x31 r (beOctets v 4 ++ beOctets flags 4 ++ (desc.flatMap fun w => octets w 4) ++ data))

/-- RING_RESEND (R510): HEAD has not moved for 20 ms after the oldest unacknowledged send. -/
def execRingResend (h : Fin 32) (s : State) : Host.Outcome State Fault Refusal :=
  .next (match s.host.rings[h].sentAt with
    | t :: _ =>
      if s.longRuns || s.host.rings[h].stalled || !s.past (t + 20000000) || (s.ringDest h).isNone then s
      else if 8 ≤ s.host.rings[h].resends then
        (s.modHRing h fun x => { x with stalled := true }).raise 246 h.val
      else s.modHRing h fun x => { x with sentAt := [], resends := x.resends + 1 }
    | [] => s)

/-! ## Requests that no row of the table names (R498) -/

/-- The types of requests. -/
def vmpTypes : List Nat := [1, 2, 3, 4, 5, 0x10, 0x11, 0x20, 0x21, 0x30, 0x32, 0x40]

/-- An unknown type, or a long operation that R517 does not list. -/
def State.vmpUnknown (s : State) (o : VmpFrom) (m : VmpMsg) : State :=
  if m.type.toNat = 0x40 then s.vmpRun o m (onRing0 fun s n _ => if s.sessSup n then vmpBody s else vmpNo s vmPRIVILEGE)
  else s.vmpMeet o m false fun s => s.vmpAnswer o m vmBADTYPE []

/-- The device has the meaning of this message as a row of its own. -/
def vmpKnown (m : VmpMsg) : Bool :=
  vmpTypes.contains m.type.toNat && (decide (m.type.toNat ≠ 0x40) || decide (1 ≤ beAt m.body 0 1 ∧ beAt m.body 0 1 ≤ 5))

end Sys2Proof.Machine
end

