-- ==== Sys2Proof/Machine/LocalBus.lean ====
section
/-! DEFINITION. The local bus as a host port in native personality (13_host.md R524-R526). -/

namespace Sys2Proof.Machine

/-- The local bus is a host port: native personality, out of reset. -/
def State.lbOn (s : State) : Bool := s.pers == 0 && s.boot.cause == 0

/-- TX_SEND (R526): the octets written since the last TX_SEND or TX_RESET go as one message, or TX_ERR. -/
def State.lbSend (s : State) : State :=
  let l := s.host.lb
  let n := l.txLen.toNat
  if n = 0 ∨ 1472 < n ∨ l.tx.length < n then s.modLb fun l => { l with tx := [], txErr := true }
  else
    let t := s.modLb fun l => { l with tx := [], txErr := false }
    match vmpParse (l.tx.take n) with
    | none => t
    | some m =>
      if vmpKnown m then t.send (.lbIn (l.tx.take n)) else t.vmpUnknown ⟨2, 0, 2, 0, 0, 0⟩ m

/-- A write of LB_CTRL (R525, R526). -/
def State.lbCtrl (s : State) (v : BitVec 16) : State :=
  let s := s.modLb fun l => { l with irqEn := (v >>> 2).setWidth 2 }
  let s := if v.getLsbD 0 then s.lbSend else s
  let s := if v.getLsbD 1 then s.modLb fun l => { l with rx := l.rx.drop 1, rxPos := 0 } else s
  if v.getLsbD 4 then s.modLb fun l => { l with tx := [], txErr := false } else s

/-- TX_SEND (R525, R526): LB_TX_LEN holds len as LB_CTRL is written. -/
def execTxSend (len ctrl : BitVec 16) (s : State) : Host.Outcome State Fault Refusal :=
  .next (if s.lbOn then (s.modLb fun l => { l with txLen := len }).lbCtrl (ctrl ||| 1#16) else s)
/-- RX_DONE (R526). -/
def execRxDone (ctrl : BitVec 16) (s : State) : Host.Outcome State Fault Refusal :=
  .next (if s.lbOn then s.lbCtrl (ctrl ||| 2#16) else s)
/-- TX_RESET (R526). -/
def execTxReset (ctrl : BitVec 16) (s : State) : Host.Outcome State Fault Refusal :=
  .next (if s.lbOn then s.lbCtrl (ctrl ||| 0x10#16) else s)
/-- LB_TX_DATA_WRITE (R525): two octets, the earlier in bits 7:0. -/
def execLbTxDataWrite (v : BitVec 16) (s : State) : Host.Outcome State Fault Refusal :=
  .next (if s.lbOn then s.modLb fun l => { l with tx := l.tx ++ [v.setWidth 8, (v >>> 8).setWidth 8] } else s)
/-- LB_RX_DATA_READ (R525): the next two octets have been read. -/
def execLbRxDataRead (s : State) : Host.Outcome State Fault Refusal :=
  .next (if s.lbOn && !s.host.lb.rx.isEmpty then s.modLb fun l => { l with rxPos := l.rxPos + 2 } else s)

/-- The length of the message that waits. -/
def LbSt.rxLen (l : LbSt) : Nat := (l.rx.headD []).length

/-- What a read of word w of the local bus returns (R525). -/
def State.lbWord (s : State) (w : Nat) : BitVec 16 :=
  let l := s.host.lb
  if !s.lbOn then 0
  else if w = 0 then 0x1616
  else if w = 1 then 0x5346
  else if w = 2 then BitVec.ofNat 16 (1 + 2 * b2n (!l.rx.isEmpty) + 4 * b2n (s.longRuns || s.bootRuns) + 8 * b2n l.txErr)
  else if w = 3 then l.irqEn.setWidth 16 <<< 2
  else if w = 4 then l.txLen
  else if w = 5 then BitVec.ofNat 16 l.rxLen
  else if w = 7 then (((l.rx.headD []).getD (l.rxPos + 1) 0).setWidth 16 <<< 8) ||| ((l.rx.headD []).getD l.rxPos 0).setWidth 16
  else if w = 8 then BitVec.ofNat 16 (min s.longRemain 65535)
  else 0

/-- A bit of XK_INT is set that XK_MASK lets through (R634). -/
def State.xkIrqLow (s : State) : Bool :=
  s.get F.XK_INT_LO_INT &&& s.get F.XK_MASK_LO_MASK != 0 || s.get F.XK_INT_HI_INT &&& s.get F.XK_MASK_HI_MASK != 0

/-- LB_IRQn is low: for the local bus port in native personality (R526), else for XK_INT (R634). -/
def State.lbIrq (s : State) : Bool :=
  if s.lbOn then (!s.host.lb.rx.isEmpty && s.host.lb.irqEn.getLsbD 0) || s.host.lb.irqEn.getLsbD 1
  else s.boot.cause == 0 && s.xkIrqLow

end Sys2Proof.Machine
end

