-- ==== Sys2Proof/Machine/VmpLong.lean ====
section
/-! DEFINITION. Long operations (13_host.md R517-R521; 14_granary.md R553-R557; 18_startup_faults_modes.md R648, R649). -/

namespace Sys2Proof.Machine

/-- Every beam engine and field core is halted (R517). -/
def State.allHalted (s : State) : Bool := (List.finRange 20).all fun e => s.flag (F.SYS_ENG_CTRL_HALTED e.val)

/-- The length of the body of a LONG_OP (R517). -/
def longLen (op : Nat) : Nat := if op = 2 then 12 else if op = 5 then 40 else 4

/-- The further condition of R517 and R519 holds. -/
def State.longFree (s : State) (n : Sess) (op : Nat) (args : List Octet) : Bool :=
  s.idle && !s.longRuns &&
    (if op = 3 ∨ op = 4 then s.allHalted
     else if op = 5 then (if beAt args 0 1 = 0 then s.gran.key.isNone else s.gran.key.isSome && s.host.sess[n].keyed)
     else true)

/-- Operation op begins for session n (R518): event 243. -/
def State.longBegin (s : State) (n : Sess) (op : Nat) (args : List Octet) : State :=
  let s := s.modHost fun h => { h with long := some ⟨op, n, args, s.now⟩ }
  let s := ((s.put F.HOST_LONG_OP op).put F.HOST_LONG_STATE 1).put F.HOST_LONG_RESULT 0
  s.raise 243 op

/-- The Silo offset of the image that the arguments name. -/
def longImage (args : List Octet) : Nat := beAt args 0 4

/-- RESULT of an operation that ends at once: a seal of a sealed device, an image that does not pass step 1 (R554, R649). -/
def State.longAtOnce (s : State) (op : Nat) (args : List Octet) : Option Nat × State :=
  if op = 1 ∧ s.gran.isSealed = true ∧ s.get F.GRANARY_STAT_STATE ≠ 3 then (some 1, s)
  else if op = 2 then
    if siloSize < beAt args 0 4 + beAt args 4 4 then (some (1 + 16 * 4), s)
    else
      let (r, s) := s.siloImage (longImage args) fun s bad => s.imageRefusal (longImage args) bad
      (if r = 0 then none else some r, s)
  else (none, s)

/-- What an operation does as it begins: the journal, the erasure of the slot, EXT_VALID, the ZEROISE mark (R102, R553, R648, R649). -/
def State.longSteps (s : State) (op : Nat) : State :=
  match op with
  | 1 => s.sealBegin s.gran.isSealed
  | 2 => s.imageErase s.inactiveSlot
  | 3 => (s.modTime fun t => { t with winnowFull := true }).extCheck
  | 4 => s.modGran fun g => { g with zeroMark := true }
  | _ => s

/-- A LONG_OP of a session (R517-R520): the response, then what has begun. -/
def longOp (op : Nat) : VmpOp := onRing0 fun s n m =>
  let args := m.body.drop 4
  if s.sessSup n = false then vmpNo s vmPRIVILEGE
  else if m.body.length ≠ longLen op ∨ beAt m.body 1 3 ≠ 0 then vmpBody s
  else if op = 5 ∧ (2 ≤ beAt args 0 1 ∨ beAt args 1 3 ≠ 0) then vmpBody s
  else if s.longFree n op args = false then vmpNo s vmWRONGSTATE
  else
    let remain := beOctets (longBound op) 4
    (s.longBegin n op args, vmOK, remain)

/-- An operation that has begun takes its first steps, or ends at once. -/
def State.longFirst (q s : State) : State :=
  match q.host.long, s.host.long with
  | none, some l => match s.longAtOnce l.op l.args with
    | (some r, s) => s.endLong r
    | (none, s) => s.longSteps l.op
  | _, _ => s

/-- A LONG_OP message with OP op. -/
def State.longReq (s : State) (o : VmpFrom) (m : VmpMsg) (op : Nat) : State :=
  State.longFirst s (s.vmpRun o { m with type := 0x40, body := BitVec.ofNat 8 op :: m.body.drop 1 } (longOp op))

/-- GRANARY_SEAL (R517, R553-R556). -/
def execGranarySeal (o : VmpFrom) (m : VmpMsg) (s : State) : Host.Outcome State Fault Refusal := .next (s.longReq o m 1)
/-- IMAGE_WRITE (R517, R649). -/
def execImageWrite (o : VmpFrom) (m : VmpMsg) (s : State) : Host.Outcome State Fault Refusal := .next (s.longReq o m 2)
/-- WINNOW_FULL (R102, R517). -/
def execWinnowFull (o : VmpFrom) (m : VmpMsg) (s : State) : Host.Outcome State Fault Refusal := .next (s.longReq o m 3)
/-- SILO_ZEROISE (R517, R648). -/
def execSiloZeroise (o : VmpFrom) (m : VmpMsg) (s : State) : Host.Outcome State Fault Refusal := .next (s.longReq o m 4)
/-- KEY_PROV (R517, R519). -/
def execKeyProv (o : VmpFrom) (m : VmpMsg) (s : State) : Host.Outcome State Fault Refusal := .next (s.longReq o m 5)

/-! ## The end (R521) -/

/-- The image is programmed into a slot, with COMMIT or without. -/
def State.programSlot (s : State) (slot base : Nat) (commit : Bool) : State :=
  let n := min (s.imageWord 2 base 0x0C) s.slotBytes
  let t := { s with flash := s.flash.put (s.imageBase slot 0) (s.imageBytes 2 base 0 n) }
  if commit then t else { t with flash := t.flash.put (t.imageBase slot 0 + 0xF8) [0xFF, 0xFF, 0xFF, 0xFF] }

/-- Steps 3 to 5 of IMAGE_WRITE (R649), `err` when the flash fails: the RESULT. -/
def State.imageDone (s : State) (base : Nat) (err : Bool) : State × Nat :=
  let slot := s.inactiveSlot
  let t := s.programSlot slot base true
  if !err && decide (t.imageCheck slot 0 t.slotBytes true = 0) then (t, 0)
  else (s.programSlot slot base false, 2)

/-- The full Winnow test has tested every item; `met` are those that failed otherwise. No rule gives its failure code. -/
def State.winnowDone (s : State) (met : List Nat) : State × Nat :=
  let engs := (List.finRange 21).take 20
  let clean := met.isEmpty && s.silo.bad.isEmpty && s.bed.bad.isEmpty && s.get F.GRANARY_STAT_STATE != 3 &&
    engs.all fun e => s.eng[e].mem.bad.isEmpty
  let s := forEach engs s fun s e => s.winnowEng e (met.contains e.val)
  let s := ((s.winnowSilo met.contains).winnowBed (met.contains 24)).winnowGranary (met.contains 25)
  if clean then (s, 0) else let (r, s) := s.freeVal 36 8; (s, r)

/-- The key of KEY_PROV (R519). -/
def State.newKey (s : State) (n : Sess) (args : List Octet) : BitVec 256 :=
  let w := BitVec.ofNat 256 (beAt args 4 32)
  if beAt args 0 1 = 0 then w
  else
    let x := s.host.sess[n]
    w ^^^ BitVec.ofNat 256 (beNum (hmac s.keyOctets ([0x56#8, 0x4A#8, 0x4B#8, 0x57#8] ++ beOctets x.nHost.toNat 8 ++ beOctets x.nDev.toNat 8)))

/-- Every supervisor session closes (R519). -/
def State.closeSups (s : State) : State :=
  forEach (List.finRange 9) s fun s n => if s.sessSup n then s.closeSession n 6 else s

/-- The effect of the operation that runs, at its end: the state and RESULT. -/
def State.longEffect (s : State) (l : LongSt) (met : List Nat) : State × Nat :=
  match l.op with
  | 1 => s.sealEnd met false
  | 2 => s.imageDone (longImage l.args) (!met.isEmpty)
  | 3 => s.winnowDone met
  | 4 => (s.zeroiseEnd, 0)
  | _ => (s.modGran fun g => { g with key := some (s.newKey l.sess l.args) }, 0)

/-- LONG_DONE (R521, R554, R649): the operation ends. `met` names what it met: slots that fail their read-back, a flash error, the
items that failed. -/
def execLongDone (met : List (BitVec 16)) (s : State) : Host.Outcome State Fault Refusal :=
  .next (match s.host.long with
    | none => s
    | some l =>
      let r := s.longEffect l (met.map (·.toNat))
      let t := r.1.endLong r.2
      if l.op = 5 then t.closeSups else t)

end Sys2Proof.Machine
end

