-- ==== Sys2Proof/Machine/Net.lean ====
section
/-! DEFINITION. The Ethernet ports' stack up to VMP: which frames pass, ARP and ICMP echo (13_host.md R490-R494, R497). -/

namespace Sys2Proof.Machine

/-- The lane of Ethernet port p (R490). -/
def State.ethLane (s : State) (p : EPort) : Option Lane := s.roleLane 3 p.val
/-- The link of Ethernet port p is up. -/
def State.ethUp (s : State) (p : EPort) : Bool := match s.ethLane p with
  | some n => s.laneUp n
  | none => false
/-- Why a frame is not passed up: the field of HOST_NET_DROP that counts it. -/
inductive Drop
  | frag | proto | err
  deriving DecidableEq, Repr

/-- An IPv4 packet of port p: its UDP or ICMP payload passes (none), or it is dropped (R490). -/
def State.ipDrop (s : State) (p : EPort) (l : List Octet) : Option Drop :=
  let at_ (i n : Nat) : Nat := beAt l i n
  let total := at_ 2 2
  if l.length < 20 ∨ at_ 0 1 / 16 ≠ 4 ∨ at_ 0 1 % 16 < 5 ∨ total < 20 ∨ l.length < total then some .err
  else if at_ 0 1 % 16 ≠ 5 ∨ at_ 6 2 % 16384 ≠ 0 then some .frag
  else if onesSum (l.take 20) ≠ 65535 then some .err
  else
    let dst := at_ 16 4
    let mask := s.get (F.HOST_NET_MASK_MASK p.val)
    let own := decide (dst = s.portIp p)
    let broad := decide (dst = 2 ^ 32 - 1) ||
      (BitVec.ofNat 32 dst == (BitVec.ofNat 32 (s.portIp p) &&& BitVec.ofNat 32 mask ||| ~~~ (BitVec.ofNat 32 mask)))
    let body := (l.take total).drop 20
    if at_ 9 1 = 17 then
      let port := beAt body 2 2
      let ulen := beAt body 4 2
      let pseudo := (l.drop 12).take 8 ++ [0, 17] ++ beOctets ulen 2
      let ptp := decide (port = 319 ∨ port = 320)
      let vmp := decide (port = s.get F.HOST_VMP_CFG_VMP_PORT)
      let disc := vmp && decide (beAt body 8 2 = 0x564D ∧ beAt body 11 1 = 1)
      if body.length < 8 ∨ ulen < 8 ∨ body.length < ulen then some .err
      else if beAt body 6 2 ≠ 0 ∧ onesSum (pseudo ++ body.take ulen) ≠ 65535 then some .err
      else if ptp && (own || decide (dst = 0xE0000181)) then none
      else if vmp && (own || (broad && disc)) then none
      else some .proto
    else if at_ 9 1 = 1 then
      if own = false ∨ beAt body 0 1 ≠ 8 then some .proto
      else if onesSum body ≠ 65535 then some .err else none
    else some .proto

/-- An ARP packet passes: IPv4 over Ethernet, a request or a reply (R490). -/
def arpOk (l : List Octet) : Bool :=
  decide (28 ≤ l.length ∧ beAt l 0 2 = 1 ∧ beAt l 2 2 = 0x0800 ∧ beAt l 4 2 = 0x0604 ∧ (beAt l 6 2 = 1 ∨ beAt l 6 2 = 2))

/-- A frame without its tag, if its tag or its want of one is what the port accepts (R493): EtherType and payload. -/
def State.untagged (s : State) (p : EPort) (f : List Octet) : Option (Nat × List Octet) :=
  let en := s.flag (F.HOST_NET_VLAN_VLAN_EN p.val)
  if beAt f 12 2 = 0x8100 then
    let vid := beAt f 14 2 % 4096
    if vid = (if en then s.get (F.HOST_NET_VLAN_VID p.val) else 0) then some (beAt f 16 2, f.drop 18) else none
  else if en then none else some (beAt f 12 2, f.drop 14)

/-- Whether a frame received on port p passes up the stack, or the field that counts it (R490). -/
def State.frameDrop (s : State) (p : EPort) (f : List Octet) : Option Drop :=
  let dst := beAt f 0 6
  if f.length < 14 then some .err
  else if dst ≠ s.portMac p ∧ dst ≠ 2 ^ 48 - 1 ∧ dst ≠ 0x01005E000181 then some .proto
  else match s.untagged p f with
    | none => some .proto
    | some (type, l) =>
      if 1500 < l.length then some .proto
      else if type = 0x0806 then (if arpOk l then none else some .proto)
      else if type = 0x0800 then s.ipDrop p l
      else some .proto

/-- The VMP message of a frame that passes, with where it comes from. -/
def State.frameVmp (s : State) (p : EPort) (f : List Octet) : Option (VmpFrom × VmpMsg) :=
  match s.untagged p f with
  | some (0x0800, l) =>
    let u := (l.take (beAt l 2 2)).drop 20
    if beAt l 9 1 = 17 ∧ beAt u 2 2 = s.get F.HOST_VMP_CFG_VMP_PORT then
      (vmpParse ((u.take (beAt u 4 2)).drop 8)).map fun m =>
        (⟨⟨p.val, by omega⟩, 0, BitVec.ofNat 8 p.val, BitVec.ofNat 32 (beAt l 12 4), BitVec.ofNat 16 (beAt u 0 2), BitVec.ofNat 48 (beAt f 6 6)⟩, m)
    else none
  | _ => none

/-- A frame that passes carries a PTP message that R123 does not support (R124). -/
def State.framePtpBad (s : State) (p : EPort) (f : List Octet) : Bool :=
  match s.untagged p f with
  | some (0x0800, l) =>
    let u := (l.take (beAt l 2 2)).drop 20
    let port := beAt u 2 2
    decide (beAt l 9 1 = 17 ∧ (port = 319 ∨ port = 320)) &&
      !s.ptpSupported p port (decide (beAt l 16 4 ≠ 0xE0000181)) ((u.take (beAt u 4 2)).drop 8)
  | _ => false

/-- The quanta of a PAUSE that port p honours (R451; log entry 53): a MAC control frame to the PAUSE group or to the port, where its lane
takes PAUSE. -/
def State.pauseOf (s : State) (p : EPort) (f : List Octet) : Option Nat :=
  let dst := beAt f 0 6
  if (s.ethLane p).any (fun n => s.lanes[n].pause) ∧ 18 ≤ f.length ∧ (dst = 0x0180C2000001 ∨ dst = s.portMac p) ∧ beAt f 12 4 = 0x88080001 then
    some (beAt f 16 2)
  else none

/-- A PAUSE of so many quanta, each 512 bit times at the port's speed (R451). -/
def State.pauseFor (s : State) (p : EPort) (quanta : Nat) : State :=
  let bit := 10 ^ ((s.ethLane p).map fun n => s.get (F.LN_STAT_ETH_SPEED n.val)).getD 0
  (s.modNet p fun x => { x with pausedTo := s.now + quanta * 512 * bit }).netPump p

/-- ETH_FRAME_RECEIVE (R124, R451, R490, R493, R497, R498): a PAUSE holds the port; any other frame is passed up, or discarded and counted. What a frame that passes asks for is the effect
of its own row; a VMP message of a type without one is answered here. -/
def execEthFrameReceive (p : EPort) (frame : List Octet) (s : State) : Host.Outcome State Fault Refusal :=
  .next (
    if s.boot.cause ≠ 0 ∨ s.ethUp p = false then s
    else match s.pauseOf p frame with
    | some q => s.pauseFor p q
    | none => s.ask 41 (.eth p frame) fun s => match s.frameDrop p frame with
      | some .frag => s.count (F.HOST_NET_DROP_FRAG p.val)
      | some .proto => s.count (F.HOST_NET_DROP_PROTO p.val)
      | some .err => s.count (F.HOST_NET_DROP_ERR p.val)
      | none => match s.frameVmp p frame with
        | some (o, m) => if vmpKnown m then s.send (.up p frame) else s.vmpUnknown o m
        | none => if s.framePtpBad p frame then s.ptpDrop else s.send (.up p frame))

/-- ARP_REQUEST (R494): one for the port's own address is answered. -/
def execArpRequest (p : EPort) (mac : BitVec 48) (ip target : BitVec 32) (s : State) : Host.Outcome State Fault Refusal :=
  .next (if s.boot.cause = 0 ∧ s.ethUp p = true ∧ target.toNat = s.portIp p then s.sendPort p (.eth p (s.arpFrame p true mac ip)) else s)

/-- GRATUITOUS_ARP (R494): one each time the port's link comes up. -/
def execGratuitousArp (p : EPort) (s : State) : Host.Outcome State Fault Refusal :=
  .next (match s.ethLane p with
    | none => s
    | some n =>
      if s.laneUp n && decide (s.host.net[p].arpFor ≠ some s.lanes[n].since) then
        (s.sendPort p (.eth p (s.arpFrame p false 0xFFFFFFFFFFFF#48 (BitVec.ofNat 32 (s.portIp p))))).modNet p fun x => { x with arpFor := some s.lanes[n].since }
      else s)

/-- ICMP_ECHO (R494): answered with the same data; beyond 100 in a second it is counted. -/
def execIcmpEcho (p : EPort) (mac : BitVec 48) (ip : BitVec 32) (ident seq : BitVec 16) (data : List Octet) (s : State) :
    Host.Outcome State Fault Refusal :=
  .next (
    if s.boot.cause ≠ 0 ∨ s.ethUp p = false then s
    else if 1472 < data.length then s.count (F.HOST_NET_DROP_PROTO p.val)
    else
      let l := s.host.net[p].echoes.filter fun t => !s.past (t + 1000000000)
      if 100 ≤ l.length then (s.modNet p fun x => { x with echoes := l }).count (F.HOST_NET_DROP_ICMP_LIM p.val)
      else (s.modNet p fun x => { x with echoes := l ++ [s.now] }).sendPort p (.eth p (s.echoFrame p mac ip ident seq data)))

end Sys2Proof.Machine
end

