-- ==== Sys2Proof/Machine/Power.lean ====
section
/-! DEFINITION. When a power domain leaves ON, and what is lost with its supply (01_architecture.md R40-R45;
15_housekeeping_lighting.md R582). -/

namespace Sys2Proof.Machine

/-- Beam b holds a lease, has a queued laser event or a swath in progress (R42). -/
def State.beamHolds (s : State) (b : Sys2Proof.Beam) : Bool :=
  s.beam[b].lease.isSome || s.arb.beams[b].cur.isSome || !s.arb.beams[b].old.isEmpty || s.beamEdges b || !s.beam[b].swaths.isEmpty

/-- Something of R42 or R582 holds domain d ON. -/
def State.domainHeld (s : State) (d : Fin 44) : Bool :=
  let n := d.val
  if n < 16 then s.beamHolds (Fin.ofNat 16 n)
  else if n = 20 then allBeams.any fun b => s.beam[b].set.loopMask != 0 || s.loops[b].maskPrev != 0
  else if 21 ≤ n ∧ n < 25 then
    (s.pipes[(Fin.ofNat 4 (n - 21))]).run.isSome ||
      (s.pipeStreams (Fin.ofNat 4 (n - 21))).any fun m => (s.streams[m]).slots.toList.any fun x => x.step == .landing
  else if n = 30 then (List.finRange 2).any fun o => s.dispState o != 0
  else if n = 31 then (List.finRange 8).any fun a => s.axMoves a
  else if 32 ≤ n ∧ n < 40 then (List.finRange 32).any fun m => decide (m.val / 4 = n - 32) && s.laneUp m
  else if n = 43 then (List.finRange 12).any fun i => s.get (F.LT_STAT_L_EFF i.val) != 0
  else false

/-- Domains that never enter OFF (R43). -/
def neverOff (d : Fin 44) : Bool := decide (25 ≤ d.val ∧ d.val ≤ 29) || decide (d.val = 42)

/-- Lane m belongs to quad q. -/
def inQuad (q : Nat) (m : Lane) : Bool := decide (m.val / 4 = q)

/-- What the blocks of domain d hold beside their registers, lost with the supply: reset values, and an engine's local memory its
contents (R40; log entry 30). -/
def State.blockLost (s : State) (d : Fin 44) : State :=
  let n := d.val
  if h : n < 20 then
    let s := s.modEng ⟨n, by omega⟩ fun x => { x.fresh with mem := {} }
    if n < 16 then s.modBeam (Fin.ofNat 16 n) fun _ => {} else s
  else if n = 20 then { s with loops := Vector.replicate 16 {}, loopDev := {} }
  else if 21 ≤ n ∧ n < 25 then
    let p := Fin.ofNat 4 (n - 21)
    { s with pipes := s.pipes.set p {}, streams := Vector.ofFn fun m => if s.pipeOf m = p then {} else s.streams[m] }
  else if n = 30 then { s with disp := Vector.replicate 2 {} }
  else if n = 31 then { s with axes := Vector.replicate 8 {} }
  else if 32 ≤ n ∧ n < 40 then
    { s with lanes := Vector.ofFn fun m => if inQuad (n - 32) m then {} else s.lanes[m] }
  else if n = 40 then { s with fabric := { corrected := s.fabric.corrected } }
  else if n = 41 then s.modHost fun x => { x with sess := Vector.replicate 9 {}, net := Vector.replicate 2 {}, long := none }
  else if n = 43 then
    { s with hk := { s.hk with open_ := Vector.replicate 12 0, ovr := Vector.replicate 12 0, reported := Vector.replicate 12 false } }
  else s

/-- A register that returns to its reset value with the supply of domain d. -/
def State.lostWith (s : State) (d : Fin 44) (a : Nat) : Bool :=
  decide (s.domainOfReg a = some d) || (decide (d.val < 20) && decide (a = R.SYS_ENG_CTRL d.val))

/-- Domain d loses its supply (R40): its blocks return to their reset values. -/
def State.domainOff (s : State) (d : Fin 44) : State :=
  let key := s.flag F.AX_OUT_KEY_OK
  let t := { s.blockLost d with regs := s.regs.filter fun x => !s.lostWith d x.1 }
  let t := if d.val = 31 then t.setFlag F.AX_OUT_KEY_OK key
    else if d.val < 16 then t.inputAgain (Fin.ofNat 16 d.val)
    else if 32 ≤ d.val ∧ d.val < 40 then t.lanesReset (inQuad (d.val - 32))
    else t
  t.put (F.SYS_PWR_POLICY_STATE d.val) 2

/-- Domain d has had no handshake for IDLE_DELAY µs, and nothing keeps it ON (R40, R42, R44). -/
def State.domainIdle (s : State) (d : Fin 44) : Bool :=
  s.domainOn d && s.get (F.SYS_PWR_POLICY_IDLE_DELAY d.val) != 0 && !s.flag (F.SYS_PWR_POLICY_FORCE_ON d.val) &&
    s.past ((s.power[d]).lastUse + s.get (F.SYS_PWR_POLICY_IDLE_DELAY d.val) * 1000) && !s.domainHeld d

/-- POWER_IDLE_TIMEOUT (R40): to IDLE-RETAIN, or OFF with OFF_EN = 1. -/
def execPowerIdleTimeout (d : Fin 44) (s : State) : Host.Outcome State Fault Refusal :=
  .next (
    if s.domainIdle d then
      if s.flag (F.SYS_PWR_POLICY_OFF_EN d.val) && !neverOff d then s.domainOff d
      else s.put (F.SYS_PWR_POLICY_STATE d.val) 1
    else s)

end Sys2Proof.Machine
end

