-- ==== Sys2Proof/Machine/Router.lean ====
section
/-! DEFINITION. The event router: what happens to a source that fired, and the rows of the EVT block (13_host.md R175, R512,
R513, R529-R535, R544). -/

namespace Sys2Proof.Machine

/-- The router keeps the latest firing of its source and counts it (R530). -/
def State.keepLast (s : State) (f : Fired) : State :=
  let s := s.setReg (R.EVT_LAST_DATA f.src) f.data
  let s := s.setReg (R.EVT_LAST_TIME_LO f.src) (BitVec.ofNat 32 f.time)
  (s.setReg (R.EVT_LAST_TIME_HI f.src) (BitVec.ofNat 32 (f.time / 2 ^ 32))).count (F.EVT_LAST_COUNT_COUNT f.src)

/-- The pending bit of a source in the latch of engine e; a bit already set counts a merge (R175). -/
def State.latchEvent (s : State) (e : Fin 20) (src : Nat) : State :=
  let g : Eng := ⟨e.val, by omega⟩
  if s.eng[g].latch.contains src then s.count (F.SYS_ENG_CTRL_EV_MERGED e.val)
  else s.modEng g fun x => { x with latch := x.latch ++ [src] }

/-- The firing reaches every engine its source is routed to. -/
def State.toEngines (s : State) (f : Fired) : State :=
  forEach ((List.finRange 20).filter fun e => (s.get (F.EVT_ENG_ENG f.src)).testBit e.val) s fun s e => s.latchEvent e f.src

/-- The firing drives its pin: latched, or until WIDTH µs after the latest firing (R535). -/
def State.toPin (s : State) (f : Fired) : State :=
  if s.flag (F.EVT_ROUTE_PIN_EN f.src) then
    let p : Fin 4 := Fin.ofNat 4 (s.get (F.EVT_ROUTE_PIN f.src))
    if s.flag (F.EVT_OUT_CFG_MODE p.val) then s.setFlag (F.EVT_OUT_CFG_LATCHED p.val) true
    else
      let stop := f.time + s.get (F.EVT_OUT_CFG_WIDTH p.val) * 1000
      { s with pins := { s.pins with evtOut := vmod s.pins.evtOut p fun t => some (max (t.getD 0) stop) } }
  else s

/-- EVT_OUTp is active (R535): latched, or until its pulse ends. -/
def State.evtOutActive (s : State) (p : Fin 4) : Bool :=
  if s.flag (F.EVT_OUT_CFG_MODE p.val) then s.flag (F.EVT_OUT_CFG_LATCHED p.val) else s.pins.evtOut[p].isSome
/-- The level of EVT_OUTp (R534). -/
def State.evtOutHigh (s : State) (p : Fin 4) : Bool := s.evtOutActive p != s.flag (F.EVT_OUT_CFG_POL p.val)

/-- The event record of a firing (R512). -/
def eventRecord (f : Fired) (lost : Nat) (rseq : BitVec 32) : List Octet :=
  octets f.src 1 ++ [0] ++ octets lost 2 ++ octets f.data.toNat 4 ++ octets f.time 8 ++ octets rseq.toNat 4 ++ List.replicate 12 0

/-- A record is discarded on host ring h (R513): event 245 for the first while the count is 0. -/
def State.loseOnRing (s : State) (h : Fin 32) : State :=
  let first := s.host.rings[h].lost == 0
  let s := (s.count (F.HOST_HRING_CFG_LOST h.val)).modHRing h fun x => { x with lost := min (x.lost + 1) 0xFFFF }
  if first then s.raise 245 h.val else s

/-- A record is written at TAIL of host ring h (R512). -/
def State.putOnRing (s : State) (h : Fin 32) (f : Fired) : State :=
  let x := s.host.rings[h]
  let s := s.siloPut (s.slotAddr h.val (s.get (F.HOST_RING_TAIL_SLOT h.val))) (eventRecord f x.lost x.rseq)
  (s.setTail h.val (s.ringNext h.val (s.vTail h.val))).modHRing h fun x => { x with lost := 0, rseq := x.rseq + 1 }

/-- The firing is a record on its host ring, if that is an EVENT ring (R513, R532). -/
def State.toRing (s : State) (f : Fired) : State :=
  if s.flag (F.EVT_ROUTE_RING_EN f.src) then
    let h : Fin 32 := Fin.ofNat 32 (s.get (F.EVT_ROUTE_RING f.src))
    if s.get (F.HOST_HRING_CFG_KIND h.val) ≠ 2 then s
    else if !s.ringOn h.val || s.ringFull h.val then s.loseOnRing h
    else s.putOnRing h f
  else s

/-- The extra words of an EVENT record (R544). -/
def State.extraWords (s : State) (src : Nat) : Nat × Nat :=
  let swath (b : Nat) : Nat × Nat :=
    ((s.viewBeam (Fin.ofNat 16 b) 0x84 0#32).toNat, (s.viewBeam (Fin.ofNat 16 b) 0x88 0#32).toNat)
  if src < 32 then swath (src % 16)
  else if src < 48 then
    ((s.viewLoop (R.LOOP_BEAM_STAT (src - 32)) (s.reg (R.LOOP_BEAM_STAT (src - 32)))).toNat,
      (s.viewLoop (R.LOOP_BEAM_OUT (src - 32)) (s.reg (R.LOOP_BEAM_OUT (src - 32)))).toNat)
  else if 72 ≤ src ∧ src < 104 then
    ((s.viewLanes (R.LN_STAT (src - 72)) (s.reg (R.LN_STAT (src - 72)))).toNat, (s.reg (R.LN_ERR (src - 72))).toNat)
  else if 200 ≤ src ∧ src < 216 then swath (src - 200)
  else (0, 0)

/-- The firing is staged in the Granary with its severity (R544, R545). -/
def State.toGranary (s : State) (f : Fired) : State :=
  if s.flag (F.EVT_ROUTE_GRANARY f.src) then
    let w := s.extraWords f.src
    s.granaryEvent f.src (s.get (F.EVT_ROUTE_SEV f.src)) f.time (s.eventData f.src f.data.toNat w.1 w.2)
  else s

/-- A firing goes to all its destinations (R529, R530). -/
def State.deliverFired (s : State) (f : Fired) : State := ((((s.keepLast f).toEngines f).toPin f).toRing f).toGranary f

/-- EVENT_DELIVERY (R529): the firing that the router received first. -/
def execEventDelivery (s : State) : Host.Outcome State Fault Refusal :=
  .next (match s.fired with
    | f :: rest => { s with fired := rest }.deliverFired f
    | [] => s)

/-- EVT_HOST_RAISE (R531). -/
def execEvtHostRaise (who : Reader) (v : BitVec 32) (s : State) : Host.Outcome State Fault Refusal :=
  .next (s.writeAt who R.EVT_HOST_RAISE v)

/-- EVT_LAST_DATA_READ (R533): the reader's latch takes TIME of the source. -/
def execEvtLastDataRead (who : Reader) (src : Fin 256) (s : State) : Host.Outcome State Fault Refusal :=
  .next (match s.regRead who (R.EVT_LAST_DATA src.val) with
    | some (_, t) => t
    | none => s)

/-- EVT_OUT_PULSE_END (R535): WIDTH µs after the latest routed firing. -/
def execEvtOutPulseEnd (p : Fin 4) (s : State) : Host.Outcome State Fault Refusal :=
  .next (match s.pins.evtOut[p] with
    | some t => if s.past t then { s with pins := { s.pins with evtOut := s.pins.evtOut.set p none } } else s
    | none => s)

end Sys2Proof.Machine
end

