-- ==== Sys2Proof/Machine/Stalls.lean ====
section
/-! DEFINITION. How a stall ends (01_architecture.md R19, R20): a stalled instruction is executed again, and a trajectory
unit, an axis or an XK channel hands over what it may. -/

namespace Sys2Proof.Machine

/-- The instruction of an engine, executed. -/
def State.runAgain (s : State) (i : Instr) : State :=
  match i with
  | .add e d a b S => s.via (execAdd e d a b S)
  | .sub e d a b S => s.via (execSub e d a b S)
  | .and e d a b S => s.via (execAnd e d a b S)
  | .or e d a b S => s.via (execOr e d a b S)
  | .xor e d a b S => s.via (execXor e d a b S)
  | .slt e d a b S => s.via (execSlt e d a b S)
  | .sltu e d a b S => s.via (execSltu e d a b S)
  | .min e d a b S => s.via (execMin e d a b S)
  | .max e d a b S => s.via (execMax e d a b S)
  | .minu e d a b S => s.via (execMinu e d a b S)
  | .maxu e d a b S => s.via (execMaxu e d a b S)
  | .addc e d a b S => s.via (execAddc e d a b S)
  | .subb e d a b S => s.via (execSubb e d a b S)
  | .mul e d a b S => s.via (execMul e d a b S)
  | .mulh e d a b S => s.via (execMulh e d a b S)
  | .mulhu e d a b S => s.via (execMulhu e d a b S)
  | .div e d a b S => s.via (execDiv e d a b S)
  | .divu e d a b S => s.via (execDivu e d a b S)
  | .rem e d a b S => s.via (execRem e d a b S)
  | .remu e d a b S => s.via (execRemu e d a b S)
  | .sll e d a amt S => s.via (execSll e d a amt S)
  | .srl e d a amt S => s.via (execSrl e d a amt S)
  | .sra e d a amt S => s.via (execSra e d a amt S)
  | .ror e d a amt S => s.via (execRor e d a amt S)
  | .addi e d a i => s.via (execAddi e d a i)
  | .andi e d a i => s.via (execAndi e d a i)
  | .ori e d a i => s.via (execOri e d a i)
  | .xori e d a i => s.via (execXori e d a i)
  | .lui e d a i => s.via (execLui e d a i)
  | .slti e d a i => s.via (execSlti e d a i)
  | .sltiu e d a i => s.via (execSltiu e d a i)
  | .cmpi e d a i => s.via (execCmpi e d a i)
  | .tsti e d a i => s.via (execTsti e d a i)
  | .macq e d a b => s.via (execMacq e d a b)
  | .msuq e d a b => s.via (execMsuq e d a b)
  | .mulqa e d a b => s.via (execMulqa e d a b)
  | .clra e d a b => s.via (execClra e d a b)
  | .rndq e d a b => s.via (execRndq e d a b)
  | .addq e d a b => s.via (execAddq e d a b)
  | .subq e d a b => s.via (execSubq e d a b)
  | .mulq e d a b => s.via (execMulq e d a b)
  | .adda e d a b => s.via (execAdda e d a b)
  | .asha e d a b => s.via (execAsha e d a b)
  | .rdal e d a b => s.via (execRdal e d a b)
  | .rdah e d a b => s.via (execRdah e d a b)
  | .wra e d a b => s.via (execWra e d a b)
  | .movqa e d a b => s.via (execMovqa e d a b)
  | .lw e d a i => s.via (execLw e d a i)
  | .lh e d a i => s.via (execLh e d a i)
  | .lhu e d a i => s.via (execLhu e d a i)
  | .lb e d a i => s.via (execLb e d a i)
  | .lbu e d a i => s.via (execLbu e d a i)
  | .sw e d a i => s.via (execSw e d a i)
  | .sh e d a i => s.via (execSh e d a i)
  | .sb e d a i => s.via (execSb e d a i)
  | .ld e d a i => s.via (execLd e d a i)
  | .sd e d a i => s.via (execSd e d a i)
  | .atomSwap e d a b => s.via (execAtomSwap e d a b)
  | .atomAdd e d a b => s.via (execAtomAdd e d a b)
  | .atomCas e d a b => s.via (execAtomCas e d a b)
  | .atomOr e d a b => s.via (execAtomOr e d a b)
  | .atomAnd e d a b => s.via (execAtomAnd e d a b)
  | .fence e => s.via (execFence e)
  | .b e cond ofs => s.via (execB e cond ofs)
  | .call e cond ofs => s.via (execCall e cond ofs)
  | .jr e a => s.via (execJr e a)
  | .jalr e d a => s.via (execJalr e d a)
  | .eret e d a b fn => s.via (execEret e d a b fn)
  | .mfs e d a b fn => s.via (execMfs e d a b fn)
  | .mts e d a b fn => s.via (execMts e d a b fn)
  | .waitt e d a b => s.via (execWaitt e d a b)
  | .waitr e d a b => s.via (execWaitr e d a b)
  | .sched e d a b fn => s.via (execSched e d a b fn)
  | .rput e d a b => s.via (execRput e d a b)
  | .rget e d a b => s.via (execRget e d a b)
  | .rcount e d a b => s.via (execRcount e d a b)
  | .evsig e d a b fn => s.via (execEvsig e d a b fn)
  | .waite e d a b fn => s.via (execWaite e d a b fn)
  | .evpoll e d a b fn => s.via (execEvpoll e d a b fn)
  | .bmrd e d a b => s.via (execBmrd e d a b)
  | .bmsete e d a b => s.via (execBmsete e d a b)
  | .bmwt e d a b => s.via (execBmwt e d a b)
  | .bmflag e d a b => s.via (execBmflag e d a b)
  | .bmidx e d a b => s.via (execBmidx e d a b)
  | .halt e d a b => s.via (execHalt e d a b)
  | .wdog e d a b => s.via (execWdog e d a b)
  | .mark e d a b fn => s.via (execMark e d a b fn)
  | .jump e d a b fn => s.via (execJump e d a b fn)
  | .arc e d a b fn => s.via (execArc e d a b fn)
  | .speed e d a i => s.via (execSpeed e d a i)
  | .power e d a i => s.via (execPower e d a i)
  | .delay e d a i => s.via (execDelay e d a i)
  | .fly e d a i => s.via (execFly e d a i)
  | .pulse e d a i => s.via (execPulse e d a i)
  | .loopsel e d a b fn => s.via (execLoopsel e d a b fn)
  | .lease e d a b fn => s.via (execLease e d a b fn)
  | .release e d a b fn => s.via (execRelease e d a b fn)
  | .sync e d a b fn => s.via (execSync e d a b fn)
  | .tstamp e d a b fn => s.via (execTstamp e d a b fn)
  | .swend e d a b fn => s.via (execSwend e d a b fn)
  | .safe e d a k => s.via (execSafe e d a k)
  | _ => s

/-- Engine e executes the instruction it stalls at again; it stalls again where it still must. -/
def State.retryStall (s : State) (e : Eng) : State :=
  match s.eng[e].wait with
  | some (.stalled i) =>
    if s.engLive e && !s.engHeld e then (s.modEng e fun x => { x with wait := none }).runAgain i else s
  | _ => s

/-- A producer goes on as far as it may. -/
def State.producerGo (s : State) (p : Producer) : State :=
  match p with
  | .beam b => (s.pump b).retryStall (engOf b)
  | .axis a => s.axPump a
  | .engine e => s.retryStall e
  | .xk h => if s.xkOn then s.pump (chanBeam h) else s

/-- PRODUCER_STALL_RELEASE (R19): the time base has advanced far enough. -/
def execProducerStallRelease (p : Producer) (s : State) : Host.Outcome State Fault Refusal := .next (s.producerGo p)

/-- QUEUE_ROOM_RESUME (R20): a cell queue or the element queue has room. -/
def execQueueRoomResume (p : Producer) (s : State) : Host.Outcome State Fault Refusal := .next (s.producerGo p)

end Sys2Proof.Machine
end

