-- ==== Sys2Proof/Machine/Wake.lean ====
section
/-! DEFINITION. A power domain is ON again (01_architecture.md R41): what waits for it goes on. -/

namespace Sys2Proof.Machine

/-- A VMP request that waited, by its type and operation. -/
def State.vmpAgain (s : State) (o : VmpFrom) (m : VmpMsg) : State :=
  match m.type.toNat with
  | 3 => s.via (execAuth o m)
  | 4 => s.via (execVmpClose o m)
  | 5 => s.via (execKeepalive o m)
  | 0x10 => s.via (execRegRead o m)
  | 0x11 => s.via (execRegWrite o m)
  | 0x20 => s.via (execSiloWrite o m)
  | 0x21 => s.via (execSiloRead o m)
  | 0x30 => s.via (execRingPut o m)
  | 0x32 => s.via (execRingAck o m)
  | _ => match (m.body.headD 0).toNat with
    | 1 => s.via (execGranarySeal o m)
    | 2 => s.via (execImageWrite o m)
    | 3 => s.via (execWinnowFull o m)
    | 4 => s.via (execSiloZeroise o m)
    | _ => s.via (execKeyProv o m)

/-- A command whose request waited for a domain. -/
def State.askAgain (s : State) (i : Asked) : State :=
  match i with
  | .laserResume who b => s.via (execLaserResume who b)
  | .loopResume who b => s.via (execLoopResume who b)
  | .streamEnable who n v => s.via (execStreamEnable who n v)
  | .streamDisable who n v => s.via (execStreamDisable who n v)
  | .camCtx who n v => s.via (execImgCamCtxWrite who n v)
  | .lnCfg who n v => s.via (execLnCfgWrite who n v)
  | .retrain who n => s.via (execRetrain who n)
  | .unretire who n => s.via (execUnretire who n)
  | .clrRefused who n => s.via (execClrRefused who n)
  | .fabricEnable who v => s.via (execFabricEnableWrite who v)
  | .routed port vc hdr msg => s.via (execRoutedFrame port vc hdr msg)
  | .sessionKill who n => s.via (execSessionKill who n)
  | .netIp who p mask v => s.via (execHostNetIpWrite who p mask v)
  | .optimeLo who => s.via (execGranaryOptimeLoRead who)
  | .copyStart who => s.via (execGranaryCopyStart who)
  | .ltFault who n v => s.via (execLtFaultClear who n v)
  | .commit who o => s.via (execCommit who o)
  | .cmdq who o v => s.via (execDispCmdqWrite who o v)
  | .tcommit who => s.via (execTcommit who)
  | .peerReq node m => s.via (execPeerReqReceive node m)
  | .peerGrant node g r k => s.via (execPeerGrantReceive node g r k)
  | .peerCancel node r => s.via (execPeerCancelReceive node r)
  | .peerRelease node r => s.via (execPeerReleaseReceive node r)
  | .peerRenew node r => s.via (execPeerRenewReceive node r)
  | .peerAck node r => s.via (execPeerRenewAckReceive node r)
  | .peerEnergy node x y d te => s.via (execPeerEnergyReceive node x y d te)
  | .peerGeom node ox oy pitch => s.via (execPeerGeomReceive node ox oy pitch)
  | .eth p frame => s.via (execEthFrameReceive p frame)
  | .write who a v => s.via (execRegisterWrite who a v)
  | .vmp o m => s.vmpAgain o m

/-- Domain d is ON again: what stalls for it goes on, the commands in the order they came (R41). -/
def State.domainUp (s : State) (d : Fin 44) : State :=
  let s := (s.put (F.SYS_PWR_POLICY_STATE d.val) 0).touch d
  let s := if 21 ≤ d.val ∧ d.val < 25 then s.pipeKick (Fin.ofNat 4 (d.val - 21)) else s
  let s := forEach (List.finRange 21) s fun s e => s.retryStall e
  forEach s.waiting { s with waiting := [] } fun s i => s.askAgain i

/-- DOMAIN_WAKE_DONE (R41). -/
def execDomainWakeDone (d : Fin 44) (s : State) : Host.Outcome State Fault Refusal :=
  .next (if s.get (F.SYS_PWR_POLICY_STATE d.val) = 3 then s.domainUp d else s)

end Sys2Proof.Machine
end

