-- ==== Sys2Proof/Machine/Dispatch.lean ====
section
/-! DEFINITION. One arm for each command of the table: a direct call of its meaning, or a refusal by name. -/

namespace Sys2Proof.Machine

def exec (i : Instr) (s : State) : Host.Outcome State Fault Refusal :=
  match i with
  | .registerWrite who addr v => Sys2Proof.Machine.execRegisterWrite who addr v s
  | .producerStallRelease p => Sys2Proof.Machine.execProducerStallRelease p s
  | .queueRoomResume p => Sys2Proof.Machine.execQueueRoomResume p s
  | .cellQueueEntry c => Sys2Proof.Machine.execCellQueueEntry c s
  | .edgeRelease c => Sys2Proof.Machine.execEdgeRelease c s
  | .inputEdgeCapture c level frac => Sys2Proof.Machine.execInputEdgeCapture c level frac s
  | .powerIdleTimeout d => Sys2Proof.Machine.execPowerIdleTimeout d s
  | .domainWakeDone d => Sys2Proof.Machine.execDomainWakeDone d s
  | .sysPwrPolicyWrite who d v => Sys2Proof.Machine.execSysPwrPolicyWrite who d v s
  | .bedmapConfigWrite who r v => Sys2Proof.Machine.execBedmapConfigWrite who r v s
  | .bedmapClearDone => Sys2Proof.Machine.execBedmapClearDone s
  | .exposureUpdate b => Sys2Proof.Machine.execExposureUpdate b s
  | .layerTimeSaturate => Sys2Proof.Machine.execLayerTimeSaturate s
  | .ringTailWrite who r v => Sys2Proof.Machine.execRingTailWrite who r v s
  | .dispatchClaim b => Sys2Proof.Machine.execDispatchClaim b s
  | .swathDone b => Sys2Proof.Machine.execSwathDone b s
  | .leaseReleaseEffect b => Sys2Proof.Machine.execLeaseReleaseEffect b s
  | .schedule => Sys2Proof.Machine.execSchedule s
  | .armingDone => Sys2Proof.Machine.execArmingDone s
  | .layerBegin => Sys2Proof.Machine.execLayerBegin s
  | .layerLocalEnd => Sys2Proof.Machine.execLayerLocalEnd s
  | .close => Sys2Proof.Machine.execClose s
  | .abort => Sys2Proof.Machine.execAbort s
  | .abortComplete => Sys2Proof.Machine.execAbortComplete s
  | .recoatDone => Sys2Proof.Machine.execRecoatDone s
  | .waive arg => Sys2Proof.Machine.execWaive arg s
  | .cancel arg => Sys2Proof.Machine.execCancel arg s
  | .ts32Wrap => Sys2Proof.Machine.execTs32Wrap s
  | .extWrite v => Sys2Proof.Machine.execExtWrite v s
  | .extLost => Sys2Proof.Machine.execExtLost s
  | .pllLock => Sys2Proof.Machine.execPllLock s
  | .refclkLoss => Sys2Proof.Machine.execRefclkLoss s
  | .lockRestored => Sys2Proof.Machine.execLockRestored s
  | .timeNowLoRead who => Sys2Proof.Machine.execTimeNowLoRead who s
  | .timeDomCfgWrite who d v => Sys2Proof.Machine.execTimeDomCfgWrite who d v s
  | .timeDomOfsLoRead who d => Sys2Proof.Machine.execTimeDomOfsLoRead who d s
  | .timeGcellCfgWrite who n v => Sys2Proof.Machine.execTimeGcellCfgWrite who n v s
  | .timeGcellCapHiRead who n => Sys2Proof.Machine.execTimeGcellCapHiRead who n s
  | .timeStepRequest who => Sys2Proof.Machine.execTimeStepRequest who s
  | .ts64Step => Sys2Proof.Machine.execTs64Step s
  | .ptpSyncReceive p m => Sys2Proof.Machine.execPtpSyncReceive p m s
  | .ptpFollowUpReceive p m => Sys2Proof.Machine.execPtpFollowUpReceive p m s
  | .ptpAnnounceReceive p m => Sys2Proof.Machine.execPtpAnnounceReceive p m s
  | .ptpDelayReqReceive p m => Sys2Proof.Machine.execPtpDelayReqReceive p m s
  | .ptpDelayRespReceive p m reqPort => Sys2Proof.Machine.execPtpDelayRespReceive p m reqPort s
  | .ptpSyncSend d => Sys2Proof.Machine.execPtpSyncSend d s
  | .ptpAnnounceSend d => Sys2Proof.Machine.execPtpAnnounceSend d s
  | .ptpDelayReqSend d => Sys2Proof.Machine.execPtpDelayReqSend d s
  | .flSyncSend => Sys2Proof.Machine.execFlSyncSend s
  | .flSyncReceive port m => Sys2Proof.Machine.execFlSyncReceive port m s
  | .flDelayReqSend port => Sys2Proof.Machine.execFlDelayReqSend port s
  | .flDelayReqReceive port m => Sys2Proof.Machine.execFlDelayReqReceive port m s
  | .flDelayRespReceive port m => Sys2Proof.Machine.execFlDelayRespReceive port m s
  | .domainLoss d => Sys2Proof.Machine.execDomainLoss d s
  | .domainRevert => Sys2Proof.Machine.execDomainRevert s
  | .add e d a b S => Sys2Proof.Machine.execAdd e d a b S s
  | .sub e d a b S => Sys2Proof.Machine.execSub e d a b S s
  | .and e d a b S => Sys2Proof.Machine.execAnd e d a b S s
  | .or e d a b S => Sys2Proof.Machine.execOr e d a b S s
  | .xor e d a b S => Sys2Proof.Machine.execXor e d a b S s
  | .slt e d a b S => Sys2Proof.Machine.execSlt e d a b S s
  | .sltu e d a b S => Sys2Proof.Machine.execSltu e d a b S s
  | .min e d a b S => Sys2Proof.Machine.execMin e d a b S s
  | .max e d a b S => Sys2Proof.Machine.execMax e d a b S s
  | .minu e d a b S => Sys2Proof.Machine.execMinu e d a b S s
  | .maxu e d a b S => Sys2Proof.Machine.execMaxu e d a b S s
  | .addc e d a b S => Sys2Proof.Machine.execAddc e d a b S s
  | .subb e d a b S => Sys2Proof.Machine.execSubb e d a b S s
  | .mul e d a b S => Sys2Proof.Machine.execMul e d a b S s
  | .mulh e d a b S => Sys2Proof.Machine.execMulh e d a b S s
  | .mulhu e d a b S => Sys2Proof.Machine.execMulhu e d a b S s
  | .div e d a b S => Sys2Proof.Machine.execDiv e d a b S s
  | .divu e d a b S => Sys2Proof.Machine.execDivu e d a b S s
  | .rem e d a b S => Sys2Proof.Machine.execRem e d a b S s
  | .remu e d a b S => Sys2Proof.Machine.execRemu e d a b S s
  | .sll e d a amt S => Sys2Proof.Machine.execSll e d a amt S s
  | .srl e d a amt S => Sys2Proof.Machine.execSrl e d a amt S s
  | .sra e d a amt S => Sys2Proof.Machine.execSra e d a amt S s
  | .ror e d a amt S => Sys2Proof.Machine.execRor e d a amt S s
  | .addi e d a k => Sys2Proof.Machine.execAddi e d a k s
  | .andi e d a k => Sys2Proof.Machine.execAndi e d a k s
  | .ori e d a k => Sys2Proof.Machine.execOri e d a k s
  | .xori e d a k => Sys2Proof.Machine.execXori e d a k s
  | .lui e d a k => Sys2Proof.Machine.execLui e d a k s
  | .slti e d a k => Sys2Proof.Machine.execSlti e d a k s
  | .sltiu e d a k => Sys2Proof.Machine.execSltiu e d a k s
  | .cmpi e d a k => Sys2Proof.Machine.execCmpi e d a k s
  | .tsti e d a k => Sys2Proof.Machine.execTsti e d a k s
  | .macq e d a b => Sys2Proof.Machine.execMacq e d a b s
  | .msuq e d a b => Sys2Proof.Machine.execMsuq e d a b s
  | .mulqa e d a b => Sys2Proof.Machine.execMulqa e d a b s
  | .clra e d a b => Sys2Proof.Machine.execClra e d a b s
  | .rndq e d a b => Sys2Proof.Machine.execRndq e d a b s
  | .addq e d a b => Sys2Proof.Machine.execAddq e d a b s
  | .subq e d a b => Sys2Proof.Machine.execSubq e d a b s
  | .mulq e d a b => Sys2Proof.Machine.execMulq e d a b s
  | .adda e d a b => Sys2Proof.Machine.execAdda e d a b s
  | .asha e d a b => Sys2Proof.Machine.execAsha e d a b s
  | .rdal e d a b => Sys2Proof.Machine.execRdal e d a b s
  | .rdah e d a b => Sys2Proof.Machine.execRdah e d a b s
  | .wra e d a b => Sys2Proof.Machine.execWra e d a b s
  | .movqa e d a b => Sys2Proof.Machine.execMovqa e d a b s
  | .lw e d a k => Sys2Proof.Machine.execLw e d a k s
  | .lh e d a k => Sys2Proof.Machine.execLh e d a k s
  | .lhu e d a k => Sys2Proof.Machine.execLhu e d a k s
  | .lb e d a k => Sys2Proof.Machine.execLb e d a k s
  | .lbu e d a k => Sys2Proof.Machine.execLbu e d a k s
  | .sw e d a k => Sys2Proof.Machine.execSw e d a k s
  | .sh e d a k => Sys2Proof.Machine.execSh e d a k s
  | .sb e d a k => Sys2Proof.Machine.execSb e d a k s
  | .ld e d a k => Sys2Proof.Machine.execLd e d a k s
  | .sd e d a k => Sys2Proof.Machine.execSd e d a k s
  | .atomSwap e d a b => Sys2Proof.Machine.execAtomSwap e d a b s
  | .atomAdd e d a b => Sys2Proof.Machine.execAtomAdd e d a b s
  | .atomCas e d a b => Sys2Proof.Machine.execAtomCas e d a b s
  | .atomOr e d a b => Sys2Proof.Machine.execAtomOr e d a b s
  | .atomAnd e d a b => Sys2Proof.Machine.execAtomAnd e d a b s
  | .fence e => Sys2Proof.Machine.execFence e s
  | .b e cond ofs => Sys2Proof.Machine.execB e cond ofs s
  | .call e cond ofs => Sys2Proof.Machine.execCall e cond ofs s
  | .jr e a => Sys2Proof.Machine.execJr e a s
  | .jalr e d a => Sys2Proof.Machine.execJalr e d a s
  | .eret e d a b fn => Sys2Proof.Machine.execEret e d a b fn s
  | .mfs e d a b fn => Sys2Proof.Machine.execMfs e d a b fn s
  | .mts e d a b fn => Sys2Proof.Machine.execMts e d a b fn s
  | .waitt e d a b => Sys2Proof.Machine.execWaitt e d a b s
  | .waitr e d a b => Sys2Proof.Machine.execWaitr e d a b s
  | .waitResume e => Sys2Proof.Machine.execWaitResume e s
  | .sched e d a b fn => Sys2Proof.Machine.execSched e d a b fn s
  | .rput e d a b => Sys2Proof.Machine.execRput e d a b s
  | .rget e d a b => Sys2Proof.Machine.execRget e d a b s
  | .rcount e d a b => Sys2Proof.Machine.execRcount e d a b s
  | .evsig e d a b fn => Sys2Proof.Machine.execEvsig e d a b fn s
  | .waite e d a b fn => Sys2Proof.Machine.execWaite e d a b fn s
  | .evpoll e d a b fn => Sys2Proof.Machine.execEvpoll e d a b fn s
  | .bmrd e d a b => Sys2Proof.Machine.execBmrd e d a b s
  | .bmsete e d a b => Sys2Proof.Machine.execBmsete e d a b s
  | .bmwt e d a b => Sys2Proof.Machine.execBmwt e d a b s
  | .bmflag e d a b => Sys2Proof.Machine.execBmflag e d a b s
  | .bmidx e d a b => Sys2Proof.Machine.execBmidx e d a b s
  | .halt e d a b => Sys2Proof.Machine.execHalt e d a b s
  | .wdog e d a b => Sys2Proof.Machine.execWdog e d a b s
  | .watchdogExpiry e => Sys2Proof.Machine.execWatchdogExpiry e s
  | .pendingExceptionTaken e => Sys2Proof.Machine.execPendingExceptionTaken e s
  | .engineRun who e => Sys2Proof.Machine.execEngineRun who e s
  | .engineStop who e => Sys2Proof.Machine.execEngineStop who e s
  | .engineReset who e => Sys2Proof.Machine.execEngineReset who e s
  | .sysEngWdogWrite who e v => Sys2Proof.Machine.execSysEngWdogWrite who e v s
  | .mark e d a b fn => Sys2Proof.Machine.execMark e d a b fn s
  | .jump e d a b fn => Sys2Proof.Machine.execJump e d a b fn s
  | .arc e d a b fn => Sys2Proof.Machine.execArc e d a b fn s
  | .speed e d a k => Sys2Proof.Machine.execSpeed e d a k s
  | .power e d a k => Sys2Proof.Machine.execPower e d a k s
  | .delay e d a k => Sys2Proof.Machine.execDelay e d a k s
  | .fly e d a k => Sys2Proof.Machine.execFly e d a k s
  | .pulse e d a k => Sys2Proof.Machine.execPulse e d a k s
  | .loopsel e d a b fn => Sys2Proof.Machine.execLoopsel e d a b fn s
  | .lease e d a b fn => Sys2Proof.Machine.execLease e d a b fn s
  | .leaseRetry b => Sys2Proof.Machine.execLeaseRetry b s
  | .release e d a b fn => Sys2Proof.Machine.execRelease e d a b fn s
  | .sync e d a b fn => Sys2Proof.Machine.execSync e d a b fn s
  | .barrierWithdraw b => Sys2Proof.Machine.execBarrierWithdraw b s
  | .tstamp e d a b fn => Sys2Proof.Machine.execTstamp e d a b fn s
  | .swend e d a b fn => Sys2Proof.Machine.execSwend e d a b fn s
  | .safe e d a k => Sys2Proof.Machine.execSafe e d a k s
  | .safeCommit b => Sys2Proof.Machine.execSafeCommit b s
  | .swathRestart b => Sys2Proof.Machine.execSwathRestart b s
  | .sequenceStarve b => Sys2Proof.Machine.execSequenceStarve b s
  | .setpointFrame b => Sys2Proof.Machine.execSetpointFrame b s
  | .positionPayload b payload => Sys2Proof.Machine.execPositionPayload b payload s
  | .positionTimeout b => Sys2Proof.Machine.execPositionTimeout b s
  | .lpwrSlot b => Sys2Proof.Machine.execLpwrSlot b s
  | .laserAlarm b => Sys2Proof.Machine.execLaserAlarm b s
  | .permitWithdrawn g => Sys2Proof.Machine.execPermitWithdrawn g s
  | .permitRestored g => Sys2Proof.Machine.execPermitRestored g s
  | .laserResume who b => Sys2Proof.Machine.execLaserResume who b s
  | .beamCorrBaseWrite who b v => Sys2Proof.Machine.execBeamCorrBaseWrite who b v s
  | .arbWindowClose => Sys2Proof.Machine.execArbWindowClose s
  | .leaseExpiry b => Sys2Proof.Machine.execLeaseExpiry b s
  | .reservationLapse b => Sys2Proof.Machine.execReservationLapse b s
  | .replayStall => Sys2Proof.Machine.execReplayStall s
  | .peerReqReceive node m => Sys2Proof.Machine.execPeerReqReceive node m s
  | .peerGrantReceive node grant reqId reason => Sys2Proof.Machine.execPeerGrantReceive node grant reqId reason s
  | .peerTimeout b => Sys2Proof.Machine.execPeerTimeout b s
  | .peerCancelReceive node reqId => Sys2Proof.Machine.execPeerCancelReceive node reqId s
  | .peerRenewSend b p => Sys2Proof.Machine.execPeerRenewSend b p s
  | .peerRenewReceive node reqId => Sys2Proof.Machine.execPeerRenewReceive node reqId s
  | .peerRenewAckReceive node reqId => Sys2Proof.Machine.execPeerRenewAckReceive node reqId s
  | .peerReleaseReceive node reqId => Sys2Proof.Machine.execPeerReleaseReceive node reqId s
  | .remoteEntryExpiry node reqId => Sys2Proof.Machine.execRemoteEntryExpiry node reqId s
  | .peerEnergyReceive node x y d te => Sys2Proof.Machine.execPeerEnergyReceive node x y d te s
  | .peerGeomReceive node ox oy pitch => Sys2Proof.Machine.execPeerGeomReceive node ox oy pitch s
  | .peerLost p => Sys2Proof.Machine.execPeerLost p s
  | .retireWrite who v => Sys2Proof.Machine.execRetireWrite who v s
  | .moveComplete => Sys2Proof.Machine.execMoveComplete s
  | .retireClear who v => Sys2Proof.Machine.execRetireClear who v s
  | .loopSample b => Sys2Proof.Machine.execLoopSample b s
  | .loopOverrun b => Sys2Proof.Machine.execLoopOverrun b s
  | .rateEffChange b => Sys2Proof.Machine.execRateEffChange b s
  | .bedERead b => Sys2Proof.Machine.execBedERead b s
  | .loopConfigWrite who ofs v => Sys2Proof.Machine.execLoopConfigWrite who ofs v s
  | .captureArm who v => Sys2Proof.Machine.execCaptureArm who v s
  | .captureStop who => Sys2Proof.Machine.execCaptureStop who s
  | .loopInjCfgWrite who v => Sys2Proof.Machine.execLoopInjCfgWrite who v s
  | .loopResume who b => Sys2Proof.Machine.execLoopResume who b s
  | .frameStart n f stamp => Sys2Proof.Machine.execFrameStart n f stamp s
  | .line n frameLo line ofs data => Sys2Proof.Machine.execLine n frameLo line ofs data s
  | .frameEnd n frameNo lines status => Sys2Proof.Machine.execFrameEnd n frameNo lines status s
  | .camSetCommit n target => Sys2Proof.Machine.execCamSetCommit n target s
  | .camSetRepeat n => Sys2Proof.Machine.execCamSetRepeat n s
  | .provisionalChoice p => Sys2Proof.Machine.execProvisionalChoice p s
  | .unitComplete p => Sys2Proof.Machine.execUnitComplete p s
  | .streamEnable who n v => Sys2Proof.Machine.execStreamEnable who n v s
  | .streamDisable who n v => Sys2Proof.Machine.execStreamDisable who n v s
  | .imgCamCtxWrite who n v => Sys2Proof.Machine.execImgCamCtxWrite who n v s
  | .moveAbs a arm => Sys2Proof.Machine.execMoveAbs a arm s
  | .moveRel a arm => Sys2Proof.Machine.execMoveRel a arm s
  | .vel a arm => Sys2Proof.Machine.execVel a arm s
  | .stop a arm => Sys2Proof.Machine.execStop a arm s
  | .stopAll a arm => Sys2Proof.Machine.execStopAll a arm s
  | .home a arm => Sys2Proof.Machine.execHome a arm s
  | .setPos a arm => Sys2Proof.Machine.execSetPos a arm s
  | .axGo mask => Sys2Proof.Machine.execAxGo mask s
  | .axMaxSpeedWrite a v => Sys2Proof.Machine.execAxMaxSpeedWrite a v s
  | .axAccelWrite a v => Sys2Proof.Machine.execAxAccelWrite a v s
  | .moveEnd a => Sys2Proof.Machine.execMoveEnd a s
  | .limitInput a positive active => Sys2Proof.Machine.execLimitInput a positive active s
  | .encoderEdge e va vb vz => Sys2Proof.Machine.execEncoderEdge e va vb vz s
  | .encoderCheck a => Sys2Proof.Machine.execEncoderCheck a s
  | .bridgeFrame f => Sys2Proof.Machine.execBridgeFrame f s
  | .holdScaleTimeout f => Sys2Proof.Machine.execHoldScaleTimeout f s
  | .keyLost => Sys2Proof.Machine.execKeyLost s
  | .quadPllLock q pllB => Sys2Proof.Machine.execQuadPllLock q pllB s
  | .lnCfgWrite who n v => Sys2Proof.Machine.execLnCfgWrite who n v s
  | .seekBurst n => Sys2Proof.Machine.execSeekBurst n s
  | .seekTimeout n => Sys2Proof.Machine.execSeekTimeout n s
  | .signalDetect n => Sys2Proof.Machine.execSignalDetect n s
  | .partnerLoss n => Sys2Proof.Machine.execPartnerLoss n s
  | .tsReceive n m => Sys2Proof.Machine.execTsReceive n m s
  | .trainingTimeout n => Sys2Proof.Machine.execTrainingTimeout n s
  | .checkComplete n h v => Sys2Proof.Machine.execCheckComplete n h v s
  | .retrain who n => Sys2Proof.Machine.execRetrain who n s
  | .unretire who n => Sys2Proof.Machine.execUnretire who n s
  | .clrRefused who n => Sys2Proof.Machine.execClrRefused who n s
  | .liveScanCycle n h v => Sys2Proof.Machine.execLiveScanCycle n h v s
  | .eyeScanStart who v => Sys2Proof.Machine.execEyeScanStart who v s
  | .eyeScanDone counts => Sys2Proof.Machine.execEyeScanDone counts s
  | .linkFrameReceive n f => Sys2Proof.Machine.execLinkFrameReceive n f s
  | .ackSend n => Sys2Proof.Machine.execAckSend n s
  | .ackNakReceive n w check code => Sys2Proof.Machine.execAckNakReceive n w check code s
  | .replayTimeout n => Sys2Proof.Machine.execReplayTimeout n s
  | .creditReceive n w check code => Sys2Proof.Machine.execCreditReceive n w check code s
  | .creditSend n => Sys2Proof.Machine.execCreditSend n s
  | .frameTransmit n => Sys2Proof.Machine.execFrameTransmit n s
  | .anComplete n lp => Sys2Proof.Machine.execAnComplete n lp s
  | .sgmiiConfigReceive n w => Sys2Proof.Machine.execSgmiiConfigReceive n w s
  | .ethSyncLoss n => Sys2Proof.Machine.execEthSyncLoss n s
  | .helloSend port => Sys2Proof.Machine.execHelloSend port s
  | .helloReceive port head body => Sys2Proof.Machine.execHelloReceive port head body s
  | .lsaIssue => Sys2Proof.Machine.execLsaIssue s
  | .lsaReceive port x => Sys2Proof.Machine.execLsaReceive port x s
  | .lsaExpiry node => Sys2Proof.Machine.execLsaExpiry node s
  | .routeCompute => Sys2Proof.Machine.execRouteCompute s
  | .routedFrame port vc hdr msg => Sys2Proof.Machine.execRoutedFrame port vc hdr msg s
  | .keyRenewSend => Sys2Proof.Machine.execKeyRenewSend s
  | .keyRenewReceive m => Sys2Proof.Machine.execKeyRenewReceive m s
  | .keyRenewAckReceive node x => Sys2Proof.Machine.execKeyRenewAckReceive node x s
  | .keyExpiry => Sys2Proof.Machine.execKeyExpiry s
  | .keyRelease => Sys2Proof.Machine.execKeyRelease s
  | .keyReleaseReceive node x => Sys2Proof.Machine.execKeyReleaseReceive node x s
  | .electionStart => Sys2Proof.Machine.execElectionStart s
  | .electionRoundTimeout => Sys2Proof.Machine.execElectionRoundTimeout s
  | .voteReceive node head body => Sys2Proof.Machine.execVoteReceive node head body s
  | .staleReceive node x => Sys2Proof.Machine.execStaleReceive node x s
  | .healthSend => Sys2Proof.Machine.execHealthSend s
  | .healthReceive node head body => Sys2Proof.Machine.execHealthReceive node head body s
  | .layerSchedSend node => Sys2Proof.Machine.execLayerSchedSend node s
  | .layerSchedReceive node head body => Sys2Proof.Machine.execLayerSchedReceive node head body s
  | .layerStateSend => Sys2Proof.Machine.execLayerStateSend s
  | .layerStateReceive node head tB rest => Sys2Proof.Machine.execLayerStateReceive node head tB rest s
  | .layerReportDeadline => Sys2Proof.Machine.execLayerReportDeadline s
  | .layerGoSend node => Sys2Proof.Machine.execLayerGoSend node s
  | .layerGoReceive node head body => Sys2Proof.Machine.execLayerGoReceive node head body s
  | .layerIdleReceive node head body => Sys2Proof.Machine.execLayerIdleReceive node head body s
  | .layerAbortReceive node head body => Sys2Proof.Machine.execLayerAbortReceive node head body s
  | .participantRemoval node => Sys2Proof.Machine.execParticipantRemoval node s
  | .winnowCycle fail => Sys2Proof.Machine.execWinnowCycle fail s
  | .fabricEnableWrite who v => Sys2Proof.Machine.execFabricEnableWrite who v s
  | .ethFrameReceive p frame => Sys2Proof.Machine.execEthFrameReceive p frame s
  | .arpRequest p mac ip target => Sys2Proof.Machine.execArpRequest p mac ip target s
  | .gratuitousArp p => Sys2Proof.Machine.execGratuitousArp p s
  | .icmpEcho p mac ip ident seq data => Sys2Proof.Machine.execIcmpEcho p mac ip ident seq data s
  | .discover o m => Sys2Proof.Machine.execDiscover o m s
  | .openReq o m => Sys2Proof.Machine.execOpenReq o m s
  | .auth o m => Sys2Proof.Machine.execAuth o m s
  | .authTimeout n => Sys2Proof.Machine.execAuthTimeout n s
  | .vmpClose o m => Sys2Proof.Machine.execVmpClose o m s
  | .keepalive o m => Sys2Proof.Machine.execKeepalive o m s
  | .regRead o m => Sys2Proof.Machine.execRegRead o m s
  | .regWrite o m => Sys2Proof.Machine.execRegWrite o m s
  | .siloWrite o m => Sys2Proof.Machine.execSiloWrite o m s
  | .siloRead o m => Sys2Proof.Machine.execSiloRead o m s
  | .ringPut o m => Sys2Proof.Machine.execRingPut o m s
  | .ringAck o m => Sys2Proof.Machine.execRingAck o m s
  | .ringDataSend h => Sys2Proof.Machine.execRingDataSend h s
  | .ringResend h => Sys2Proof.Machine.execRingResend h s
  | .sessionTimeout n => Sys2Proof.Machine.execSessionTimeout n s
  | .sessionKill who n => Sys2Proof.Machine.execSessionKill who n s
  | .hostNetIpWrite who p mask v => Sys2Proof.Machine.execHostNetIpWrite who p mask v s
  | .granarySeal o m => Sys2Proof.Machine.execGranarySeal o m s
  | .imageWrite o m => Sys2Proof.Machine.execImageWrite o m s
  | .winnowFull o m => Sys2Proof.Machine.execWinnowFull o m s
  | .siloZeroise o m => Sys2Proof.Machine.execSiloZeroise o m s
  | .keyProv o m => Sys2Proof.Machine.execKeyProv o m s
  | .longDone met => Sys2Proof.Machine.execLongDone met s
  | .eventDelivery => Sys2Proof.Machine.execEventDelivery s
  | .evtHostRaise who v => Sys2Proof.Machine.execEvtHostRaise who v s
  | .evtLastDataRead who src => Sys2Proof.Machine.execEvtLastDataRead who src s
  | .evtOutPulseEnd p => Sys2Proof.Machine.execEvtOutPulseEnd p s
  | .txSend len ctrl => Sys2Proof.Machine.execTxSend len ctrl s
  | .rxDone ctrl => Sys2Proof.Machine.execRxDone ctrl s
  | .txReset ctrl => Sys2Proof.Machine.execTxReset ctrl s
  | .lbTxDataWrite v => Sys2Proof.Machine.execLbTxDataWrite v s
  | .lbRxDataRead => Sys2Proof.Machine.execLbRxDataRead s
  | .granaryWriteStart => Sys2Proof.Machine.execGranaryWriteStart s
  | .granaryWriteDone ok => Sys2Proof.Machine.execGranaryWriteDone ok s
  | .lossRecordStage => Sys2Proof.Machine.execLossRecordStage s
  | .powerFail => Sys2Proof.Machine.execPowerFail s
  | .dumpStagingClose => Sys2Proof.Machine.execDumpStagingClose s
  | .dumpComplete => Sys2Proof.Machine.execDumpComplete s
  | .pfailRise => Sys2Proof.Machine.execPfailRise s
  | .granaryPowerUp met => Sys2Proof.Machine.execGranaryPowerUp met s
  | .optimeCheckpoint => Sys2Proof.Machine.execOptimeCheckpoint s
  | .granaryOptimeLoRead who => Sys2Proof.Machine.execGranaryOptimeLoRead who s
  | .granaryCopyStart who => Sys2Proof.Machine.execGranaryCopyStart who s
  | .granaryCopyDone => Sys2Proof.Machine.execGranaryCopyDone s
  | .hkRoundEnd r => Sys2Proof.Machine.execHkRoundEnd r s
  | .ltFaultClear who n v => Sys2Proof.Machine.execLtFaultClear who n v s
  | .beaconClr who => Sys2Proof.Machine.execBeaconClr who s
  | .displayFrameStart o => Sys2Proof.Machine.execDisplayFrameStart o s
  | .commit who o => Sys2Proof.Machine.execCommit who o s
  | .commitLatch o => Sys2Proof.Machine.execCommitLatch o s
  | .lineUnderrun o => Sys2Proof.Machine.execLineUnderrun o s
  | .teEdge o => Sys2Proof.Machine.execTeEdge o s
  | .teMiss o => Sys2Proof.Machine.execTeMiss o s
  | .pushStart o => Sys2Proof.Machine.execPushStart o s
  | .pushComplete o => Sys2Proof.Machine.execPushComplete o s
  | .dispCmdqWrite who o v => Sys2Proof.Machine.execDispCmdqWrite who o v s
  | .cmdqSend o => Sys2Proof.Machine.execCmdqSend o s
  | .tcommit who => Sys2Proof.Machine.execTcommit who s
  | .timingApplied => Sys2Proof.Machine.execTimingApplied s
  | .chStart who h => Sys2Proof.Machine.execChStart who h s
  | .chStop who h => Sys2Proof.Machine.execChStop who h s
  | .xkContinue who => Sys2Proof.Machine.execXkContinue who s
  | .xkStopAll who => Sys2Proof.Machine.execXkStopAll who s
  | .xkTick => Sys2Proof.Machine.execXkTick s
  | .xkWaitResume h => Sys2Proof.Machine.execXkWaitResume h s
  | .xkNop h a => Sys2Proof.Machine.execXkNop h a s
  | .xkFinish h a => Sys2Proof.Machine.execXkFinish h a s
  | .xkBranch h a => Sys2Proof.Machine.execXkBranch h a s
  | .xkCall h a => Sys2Proof.Machine.execXkCall h a s
  | .xkReturn h a => Sys2Proof.Machine.execXkReturn h a s
  | .xkLoop h a => Sys2Proof.Machine.execXkLoop h a s
  | .xkAgain h a => Sys2Proof.Machine.execXkAgain h a s
  | .xkIdleT h a => Sys2Proof.Machine.execXkIdleT h a s
  | .xkSync h a => Sys2Proof.Machine.execXkSync h a s
  | .xkPause h a => Sys2Proof.Machine.execXkPause h a s
  | .xkIrq h a => Sys2Proof.Machine.execXkIrq h a s
  | .xkWaitAx h a => Sys2Proof.Machine.execXkWaitAx h a s
  | .xkWaitV h a => Sys2Proof.Machine.execXkWaitV h a s
  | .xkSwap h a => Sys2Proof.Machine.execXkSwap h a s
  | .xkStroke h lit rel a w => Sys2Proof.Machine.execXkStroke h lit rel a w s
  | .xkCurve h rel a w => Sys2Proof.Machine.execXkCurve h rel a w s
  | .xkFocus h a => Sys2Proof.Machine.execXkFocus h a s
  | .xkDwell h a => Sys2Proof.Machine.execXkDwell h a s
  | .xkLightOn h a => Sys2Proof.Machine.execXkLightOn h a s
  | .xkLightOff h a => Sys2Proof.Machine.execXkLightOff h a s
  | .xkTravelRate h a => Sys2Proof.Machine.execXkTravelRate h a s
  | .xkStrokeRate h a => Sys2Proof.Machine.execXkStrokeRate h a s
  | .xkLightLead h a => Sys2Proof.Machine.execXkLightLead h a s
  | .xkLightLag h a => Sys2Proof.Machine.execXkLightLag h a s
  | .xkTravelSettle h a => Sys2Proof.Machine.execXkTravelSettle h a s
  | .xkStrokeSettle h a => Sys2Proof.Machine.execXkStrokeSettle h a s
  | .xkBendSettle h a => Sys2Proof.Machine.execXkBendSettle h a s
  | .xkPower h a => Sys2Proof.Machine.execXkPower h a s
  | .xkModPeriod h a => Sys2Proof.Machine.execXkModPeriod h a s
  | .xkModWidth h a => Sys2Proof.Machine.execXkModWidth h a s
  | .xkSyncPeriod h a => Sys2Proof.Machine.execXkSyncPeriod h a s
  | .xkSyncWidth h a => Sys2Proof.Machine.execXkSyncWidth h a s
  | .xkAxAbs h a w => Sys2Proof.Machine.execXkAxAbs h a w s
  | .xkAxRel h a w => Sys2Proof.Machine.execXkAxRel h a w s
  | .xkAxSpeed h a => Sys2Proof.Machine.execXkAxSpeed h a s
  | .xkAxAccel h a => Sys2Proof.Machine.execXkAxAccel h a s
  | .xkAxStop h a => Sys2Proof.Machine.execXkAxStop h a s
  | .xkAxHome h a => Sys2Proof.Machine.execXkAxHome h a s
  | .xkVset h a => Sys2Proof.Machine.execXkVset h a s
  | .xkVadd h a => Sys2Proof.Machine.execXkVadd h a s
  | .xkJz h a => Sys2Proof.Machine.execXkJz h a s
  | .xkJnz h a => Sys2Proof.Machine.execXkJnz h a s
  | .xkDjnz h a => Sys2Proof.Machine.execXkDjnz h a s
  | .xkTstamp h a => Sys2Proof.Machine.execXkTstamp h a s
  | .xy2Frame => Sys2Proof.Machine.execXy2Frame s
  | .listLoWrite who v => Sys2Proof.Machine.execListLoWrite who v s
  | .listHiWrite who v => Sys2Proof.Machine.execListHiWrite who v s
  | .listHiRead who => Sys2Proof.Machine.execListHiRead who s
  | .corrDataWrite who v => Sys2Proof.Machine.execCorrDataWrite who v s
  | .corrDataRead who => Sys2Proof.Machine.execCorrDataRead who s
  | .xaxSpeedWrite who a v => Sys2Proof.Machine.execXaxSpeedWrite who a v s
  | .xaxAccelWrite who a v => Sys2Proof.Machine.execXaxAccelWrite who a v s
  | .xkTickLoRead who => Sys2Proof.Machine.execXkTickLoRead who s
  | .xaxPosLoRead who a => Sys2Proof.Machine.execXaxPosLoRead who a s
  | .powerOn => Sys2Proof.Machine.execPowerOn s
  | .sysResetn ns => Sys2Proof.Machine.execSysResetn ns s
  | .deviceReset who => Sys2Proof.Machine.execDeviceReset who s
  | .coreReset who => Sys2Proof.Machine.execCoreReset who s
  | .resetEnd mode src => Sys2Proof.Machine.execResetEnd mode src s
  | .bootBegin => Sys2Proof.Machine.execBootBegin s
  | .bootEnd => Sys2Proof.Machine.execBootEnd s
  | .sysBootHostStart who v => Sys2Proof.Machine.execSysBootHostStart who v s
  | .lockstepMismatch => Sys2Proof.Machine.execLockstepMismatch s
  | .supervisorRestartDone ext => Sys2Proof.Machine.execSupervisorRestartDone ext s
  | .refclkRelock => Sys2Proof.Machine.execRefclkRelock s
  | .permitGiven g => Sys2Proof.Machine.execPermitGiven g s
  | .lossOfSync n => Sys2Proof.Machine.execLossOfSync n s
  | .pcsSyncAcquired n => Sys2Proof.Machine.execPcsSyncAcquired n s
  | .announceReceiptTimeout d => Sys2Proof.Machine.execAnnounceReceiptTimeout d s

end Sys2Proof.Machine
end

