-- ==== Sys2Proof/Machine/Tick.lean ====
section
/-! DEFINITION. A nanosecond without a command (log entry 1): what the time base drives by itself (03_time.md R93;
05_beam_instructions.md R209; 10_axes.md R397; 11_serial_lanes.md R436, R451; 14_granary.md R552;
15_housekeeping_lighting.md R579). -/

namespace Sys2Proof.Machine

/-- One tick of the 1 GHz clock: the operating time goes on while the device has its supply; out of reset, so does the time
base, barriers that are met complete, the axes hand over their steps, loop samples commit, retirements go on once their stop has
finished, what a PAUSE held leaves its port, and every µs the equalisers take a step and
the lighting channels whose pulse period begins their L_eff. -/
def State.tick (s : State) : State :=
  let s := s.opTick
  if s.boot.cause ≠ 0 then s
  else
    let s := (forEach (List.finRange 8) s.clockTick fun s n => s.barrierCheck n).axPumpAll
    let s := forEach allBeams s fun s b => (s.loopCommit b (s.now - 1)).retireStep b
    let s := (s.netPump 0).netPump 1
    if s.now % 1000 = 0 then s.eqStep.lightStep else s

end Sys2Proof.Machine
end

