-- ==== Sys2Proof/WellFormed.lean ====
section
/-! DEFINITION. Which commands are well formed: the lengths and ranges that the formats of the spec give the messages they carry
and that their types do not. -/

namespace Sys2Proof

/-- A version of four bits, less than 10^9 nanoseconds (R97), and a correction of 64 bits (R123). -/
def PtpMsg.wf (m : PtpMsg) : Bool :=
  decide (m.version < 16) && decide (m.nsec.toNat < 1000000000) && decide (-(2 ^ 63) ≤ m.corr ∧ m.corr < 2 ^ 63)

/-- The octet of a message at a place. -/
def octetOf (x : List Octet) (o : Nat) : Octet := x.getD o 0
/-- A message of the fabric manager: its TYPE and its length (R471). -/
def flWf (type : Octet) (len : Nat) (x : List Octet) : Bool := octetOf x 0 == type && x.length == len
/-- The same of a message that stands as its head of 16 octets and the rest (R471). -/
def flWf2 (type : Octet) (len : Nat) (head body : List Octet) : Bool := head.length == 16 && flWf type len (head ++ body)

/-- A tag of 16 octets, or none (R503). -/
def VmpMsg.wf (m : VmpMsg) : Bool := decide (m.tag.length = 0 ∨ m.tag.length = 16)

/-- The command is well formed. -/
def Instr.wf : Instr → Bool
  | .registerWrite _ _ _ => true
  | .producerStallRelease _ => true
  | .queueRoomResume _ => true
  | .cellQueueEntry _ => true
  | .edgeRelease _ => true
  | .inputEdgeCapture _ _ _ => true
  | .powerIdleTimeout _ => true
  | .domainWakeDone _ => true
  | .sysPwrPolicyWrite _ _ _ => true
  | .bedmapConfigWrite _ _ _ => true
  | .bedmapClearDone => true
  | .exposureUpdate _ => true
  | .layerTimeSaturate => true
  | .ringTailWrite _ _ _ => true
  | .dispatchClaim _ => true
  | .swathDone _ => true
  | .leaseReleaseEffect _ => true
  | .schedule => true
  | .armingDone => true
  | .layerBegin => true
  | .layerLocalEnd => true
  | .close => true
  | .abort => true
  | .abortComplete => true
  | .recoatDone => true
  | .waive _ => true
  | .cancel _ => true
  | .ts32Wrap => true
  | .extWrite _ => true
  | .extLost => true
  | .pllLock => true
  | .refclkLoss => true
  | .lockRestored => true
  | .timeNowLoRead _ => true
  | .timeDomCfgWrite _ _ _ => true
  | .timeDomOfsLoRead _ _ => true
  | .timeGcellCfgWrite _ _ _ => true
  | .timeGcellCapHiRead _ _ => true
  | .timeStepRequest _ => true
  | .ts64Step => true
  | .ptpSyncReceive _ m => m.wf
  | .ptpFollowUpReceive _ m => m.wf
  | .ptpAnnounceReceive _ m => decide (m.version < 16)
  | .ptpDelayReqReceive _ m => m.wf
  | .ptpDelayRespReceive _ m _ => m.wf
  | .ptpSyncSend _ => true
  | .ptpAnnounceSend _ => true
  | .ptpDelayReqSend _ => true
  | .flSyncSend => true
  | .flSyncReceive _ m => decide (m.payload.length ≤ 264)
  | .flDelayReqSend _ => true
  | .flDelayReqReceive _ m => decide (m.payload.length ≤ 264)
  | .flDelayRespReceive _ m => decide (m.payload.length ≤ 264)
  | .domainLoss _ => true
  | .domainRevert => true
  | .add _ _ _ _ _ => true
  | .sub _ _ _ _ _ => true
  | .and _ _ _ _ _ => true
  | .or _ _ _ _ _ => true
  | .xor _ _ _ _ _ => true
  | .slt _ _ _ _ _ => true
  | .sltu _ _ _ _ _ => true
  | .min _ _ _ _ _ => true
  | .max _ _ _ _ _ => true
  | .minu _ _ _ _ _ => true
  | .maxu _ _ _ _ _ => true
  | .addc _ _ _ _ _ => true
  | .subb _ _ _ _ _ => true
  | .mul _ _ _ _ _ => true
  | .mulh _ _ _ _ _ => true
  | .mulhu _ _ _ _ _ => true
  | .div _ _ _ _ _ => true
  | .divu _ _ _ _ _ => true
  | .rem _ _ _ _ _ => true
  | .remu _ _ _ _ _ => true
  | .sll _ _ _ _ _ => true
  | .srl _ _ _ _ _ => true
  | .sra _ _ _ _ _ => true
  | .ror _ _ _ _ _ => true
  | .addi _ _ _ _ => true
  | .andi _ _ _ _ => true
  | .ori _ _ _ _ => true
  | .xori _ _ _ _ => true
  | .lui _ _ _ _ => true
  | .slti _ _ _ _ => true
  | .sltiu _ _ _ _ => true
  | .cmpi _ _ _ _ => true
  | .tsti _ _ _ _ => true
  | .macq _ _ _ _ => true
  | .msuq _ _ _ _ => true
  | .mulqa _ _ _ _ => true
  | .clra _ _ _ _ => true
  | .rndq _ _ _ _ => true
  | .addq _ _ _ _ => true
  | .subq _ _ _ _ => true
  | .mulq _ _ _ _ => true
  | .adda _ _ _ _ => true
  | .asha _ _ _ _ => true
  | .rdal _ _ _ _ => true
  | .rdah _ _ _ _ => true
  | .wra _ _ _ _ => true
  | .movqa _ _ _ _ => true
  | .lw _ _ _ _ => true
  | .lh _ _ _ _ => true
  | .lhu _ _ _ _ => true
  | .lb _ _ _ _ => true
  | .lbu _ _ _ _ => true
  | .sw _ _ _ _ => true
  | .sh _ _ _ _ => true
  | .sb _ _ _ _ => true
  | .ld _ _ _ _ => true
  | .sd _ _ _ _ => true
  | .atomSwap _ _ _ _ => true
  | .atomAdd _ _ _ _ => true
  | .atomCas _ _ _ _ => true
  | .atomOr _ _ _ _ => true
  | .atomAnd _ _ _ _ => true
  | .fence _ => true
  | .b _ _ _ => true
  | .call _ _ _ => true
  | .jr _ _ => true
  | .jalr _ _ _ => true
  | .eret _ _ _ _ _ => true
  | .mfs _ _ _ _ _ => true
  | .mts _ _ _ _ _ => true
  | .waitt _ _ _ _ => true
  | .waitr _ _ _ _ => true
  | .waitResume _ => true
  | .sched _ _ _ _ _ => true
  | .rput _ _ _ _ => true
  | .rget _ _ _ _ => true
  | .rcount _ _ _ _ => true
  | .evsig _ _ _ _ _ => true
  | .waite _ _ _ _ _ => true
  | .evpoll _ _ _ _ _ => true
  | .bmrd _ _ _ _ => true
  | .bmsete _ _ _ _ => true
  | .bmwt _ _ _ _ => true
  | .bmflag _ _ _ _ => true
  | .bmidx _ _ _ _ => true
  | .halt _ _ _ _ => true
  | .wdog _ _ _ _ => true
  | .watchdogExpiry _ => true
  | .pendingExceptionTaken _ => true
  | .engineRun _ _ => true
  | .engineStop _ _ => true
  | .engineReset _ _ => true
  | .sysEngWdogWrite _ _ _ => true
  | .mark _ _ _ _ _ => true
  | .jump _ _ _ _ _ => true
  | .arc _ _ _ _ _ => true
  | .speed _ _ _ _ => true
  | .power _ _ _ _ => true
  | .delay _ _ _ _ => true
  | .fly _ _ _ _ => true
  | .pulse _ _ _ _ => true
  | .loopsel _ _ _ _ _ => true
  | .lease _ _ _ _ _ => true
  | .leaseRetry _ => true
  | .release _ _ _ _ _ => true
  | .sync _ _ _ _ _ => true
  | .barrierWithdraw _ => true
  | .tstamp _ _ _ _ _ => true
  | .swend _ _ _ _ _ => true
  | .safe _ _ _ _ => true
  | .safeCommit _ => true
  | .swathRestart _ => true
  | .sequenceStarve _ => true
  | .setpointFrame _ => true
  | .positionPayload _ l => decide (l.length ≤ 264)
  | .positionTimeout _ => true
  | .lpwrSlot _ => true
  | .laserAlarm _ => true
  | .permitWithdrawn _ => true
  | .permitRestored _ => true
  | .laserResume _ _ => true
  | .beamCorrBaseWrite _ _ _ => true
  | .arbWindowClose => true
  | .leaseExpiry _ => true
  | .reservationLapse _ => true
  | .replayStall => true
  | .peerReqReceive _ _ => true
  | .peerGrantReceive _ _ _ _ => true
  | .peerTimeout _ => true
  | .peerCancelReceive _ _ => true
  | .peerRenewSend _ _ => true
  | .peerRenewReceive _ _ => true
  | .peerRenewAckReceive _ _ => true
  | .peerReleaseReceive _ _ => true
  | .remoteEntryExpiry _ _ => true
  | .peerEnergyReceive _ _ _ _ _ => true
  | .peerGeomReceive _ _ _ _ => true
  | .peerLost _ => true
  | .retireWrite _ _ => true
  | .moveComplete => true
  | .retireClear _ _ => true
  | .loopSample _ => true
  | .loopOverrun _ => true
  | .rateEffChange _ => true
  | .bedERead _ => true
  | .loopConfigWrite _ _ _ => true
  | .captureArm _ _ => true
  | .captureStop _ => true
  | .loopInjCfgWrite _ _ => true
  | .loopResume _ _ => true
  | .frameStart _ _ _ => true
  | .line _ _ _ _ data => decide (data.length ≤ 264)
  | .frameEnd _ _ _ _ => true
  | .camSetCommit _ _ => true
  | .camSetRepeat _ => true
  | .provisionalChoice _ => true
  | .unitComplete _ => true
  | .streamEnable _ _ _ => true
  | .streamDisable _ _ _ => true
  | .imgCamCtxWrite _ _ _ => true
  | .moveAbs _ _ => true
  | .moveRel _ _ => true
  | .vel _ _ => true
  | .stop _ _ => true
  | .stopAll _ _ => true
  | .home _ _ => true
  | .setPos _ _ => true
  | .axGo _ => true
  | .axMaxSpeedWrite _ _ => true
  | .axAccelWrite _ _ => true
  | .moveEnd _ => true
  | .limitInput _ _ _ => true
  | .encoderEdge _ _ _ _ => true
  | .encoderCheck _ => true
  | .bridgeFrame _ => true
  | .holdScaleTimeout _ => true
  | .keyLost => true
  | .quadPllLock _ _ => true
  | .lnCfgWrite _ _ _ => true
  | .seekBurst _ => true
  | .seekTimeout _ => true
  | .signalDetect _ => true
  | .partnerLoss _ => true
  | .tsReceive _ m => decide (m.octets.length = 15)
  | .trainingTimeout _ => true
  | .checkComplete _ _ _ => true
  | .retrain _ _ => true
  | .unretire _ _ => true
  | .clrRefused _ _ => true
  | .liveScanCycle _ _ _ => true
  | .eyeScanStart _ _ => true
  | .eyeScanDone counts => decide (counts.length = 8192)
  | .linkFrameReceive _ _ => true
  | .ackSend _ => true
  | .ackNakReceive _ _ _ _ => true
  | .replayTimeout _ => true
  | .creditReceive _ _ _ _ => true
  | .creditSend _ => true
  | .frameTransmit _ => true
  | .anComplete _ _ => true
  | .sgmiiConfigReceive _ _ => true
  | .ethSyncLoss _ => true
  | .helloSend _ => true
  | .helloReceive _ h l => flWf2 0x40 32 h l
  | .lsaIssue => true
  | .lsaReceive _ x => flWf 0x41 64 x && decide ((octetOf x 31).toNat ≤ 8)
  | .lsaExpiry _ => true
  | .routeCompute => true
  | .routedFrame _ _ _ msg => decide (msg.length ≤ 256)
  | .keyRenewSend => true
  | .keyRenewReceive m => flWf 0x42 96 m.octets
  | .keyRenewAckReceive _ x => flWf 0x43 24 x
  | .keyExpiry => true
  | .keyRelease => true
  | .keyReleaseReceive _ x => flWf 0x44 16 x
  | .electionStart => true
  | .electionRoundTimeout => true
  | .voteReceive _ h l => flWf2 0x45 24 h l
  | .staleReceive _ x => flWf 0x46 16 x
  | .healthSend => true
  | .healthReceive _ h l => flWf2 0x47 32 h l
  | .layerSchedSend _ => true
  | .layerSchedReceive _ h l => flWf2 0x48 24 h l
  | .layerStateSend => true
  | .layerStateReceive _ h _ r => flWf2 0x49 24 h r
  | .layerReportDeadline => true
  | .layerGoSend _ => true
  | .layerGoReceive _ h l => flWf2 0x4A 24 h l
  | .layerIdleReceive _ h l => flWf2 0x4B 24 h l
  | .layerAbortReceive _ h l => flWf2 0x4C 24 h l
  | .participantRemoval _ => true
  | .winnowCycle _ => true
  | .fabricEnableWrite _ _ => true
  | .ethFrameReceive _ _ => true
  | .arpRequest _ _ _ _ => true
  | .gratuitousArp _ => true
  | .icmpEcho _ _ _ _ _ _ => true
  | .discover _ m => m.wf
  | .openReq _ m => m.wf
  | .auth _ m => m.wf
  | .authTimeout _ => true
  | .vmpClose _ m => m.wf
  | .keepalive _ m => m.wf
  | .regRead _ m => m.wf
  | .regWrite _ m => m.wf
  | .siloWrite _ m => m.wf
  | .siloRead _ m => m.wf
  | .ringPut _ m => m.wf
  | .ringAck _ m => m.wf
  | .ringDataSend _ => true
  | .ringResend _ => true
  | .sessionTimeout _ => true
  | .sessionKill _ _ => true
  | .hostNetIpWrite _ _ _ _ => true
  | .granarySeal _ m => m.wf
  | .imageWrite _ m => m.wf
  | .winnowFull _ m => m.wf
  | .siloZeroise _ m => m.wf
  | .keyProv _ m => m.wf
  | .longDone _ => true
  | .eventDelivery => true
  | .evtHostRaise _ _ => true
  | .evtLastDataRead _ _ => true
  | .evtOutPulseEnd _ => true
  | .txSend _ _ => true
  | .rxDone _ => true
  | .txReset _ => true
  | .lbTxDataWrite _ => true
  | .lbRxDataRead => true
  | .granaryWriteStart => true
  | .granaryWriteDone _ => true
  | .lossRecordStage => true
  | .powerFail => true
  | .dumpStagingClose => true
  | .dumpComplete => true
  | .pfailRise => true
  | .granaryPowerUp _ => true
  | .optimeCheckpoint => true
  | .granaryOptimeLoRead _ => true
  | .granaryCopyStart _ => true
  | .granaryCopyDone => true
  | .hkRoundEnd _ => true
  | .ltFaultClear _ _ _ => true
  | .beaconClr _ => true
  | .displayFrameStart _ => true
  | .commit _ _ => true
  | .commitLatch _ => true
  | .lineUnderrun _ => true
  | .teEdge _ => true
  | .teMiss _ => true
  | .pushStart _ => true
  | .pushComplete _ => true
  | .dispCmdqWrite _ _ _ => true
  | .cmdqSend _ => true
  | .tcommit _ => true
  | .timingApplied => true
  | .chStart _ _ => true
  | .chStop _ _ => true
  | .xkContinue _ => true
  | .xkStopAll _ => true
  | .xkTick => true
  | .xkWaitResume _ => true
  | .xkNop _ _ => true
  | .xkFinish _ _ => true
  | .xkBranch _ _ => true
  | .xkCall _ _ => true
  | .xkReturn _ _ => true
  | .xkLoop _ _ => true
  | .xkAgain _ _ => true
  | .xkIdleT _ _ => true
  | .xkSync _ _ => true
  | .xkPause _ _ => true
  | .xkIrq _ _ => true
  | .xkWaitAx _ _ => true
  | .xkWaitV _ _ => true
  | .xkSwap _ _ => true
  | .xkStroke _ _ _ _ _ => true
  | .xkCurve _ _ _ _ => true
  | .xkFocus _ _ => true
  | .xkDwell _ _ => true
  | .xkLightOn _ _ => true
  | .xkLightOff _ _ => true
  | .xkTravelRate _ _ => true
  | .xkStrokeRate _ _ => true
  | .xkLightLead _ _ => true
  | .xkLightLag _ _ => true
  | .xkTravelSettle _ _ => true
  | .xkStrokeSettle _ _ => true
  | .xkBendSettle _ _ => true
  | .xkPower _ _ => true
  | .xkModPeriod _ _ => true
  | .xkModWidth _ _ => true
  | .xkSyncPeriod _ _ => true
  | .xkSyncWidth _ _ => true
  | .xkAxAbs _ _ _ => true
  | .xkAxRel _ _ _ => true
  | .xkAxSpeed _ _ => true
  | .xkAxAccel _ _ => true
  | .xkAxStop _ _ => true
  | .xkAxHome _ _ => true
  | .xkVset _ _ => true
  | .xkVadd _ _ => true
  | .xkJz _ _ => true
  | .xkJnz _ _ => true
  | .xkDjnz _ _ => true
  | .xkTstamp _ _ => true
  | .xy2Frame => true
  | .listLoWrite _ _ => true
  | .listHiWrite _ _ => true
  | .listHiRead _ => true
  | .corrDataWrite _ _ => true
  | .corrDataRead _ => true
  | .xaxSpeedWrite _ _ _ => true
  | .xaxAccelWrite _ _ _ => true
  | .xkTickLoRead _ => true
  | .xaxPosLoRead _ _ => true
  | .powerOn => true
  | .sysResetn _ => true
  | .deviceReset _ => true
  | .coreReset _ => true
  | .resetEnd _ _ => true
  | .bootBegin => true
  | .bootEnd => true
  | .sysBootHostStart _ _ => true
  | .lockstepMismatch => true
  | .supervisorRestartDone _ => true
  | .refclkRelock => true
  | .permitGiven _ => true
  | .lossOfSync _ => true
  | .pcsSyncAcquired _ => true
  | .announceReceiptTimeout _ => true

end Sys2Proof
end

