-- ==== Sys2Proof/Safety.lean ====
section
/-! DEFINITION. What counts as safe: the stores in their canonical form, and a queue that a command leaves alone. -/

namespace Sys2Proof.Machine

/-- The local memory of an engine is in canonical form. -/
def Engine.Ok (x : Engine) : Prop := Mem.wf x.mem.cells = true

/-- The register file, the Silo and every local memory are in canonical form (log entry 3): equal contents are equal data. -/
def State.Canon (s : State) : Prop :=
  tabWf regDefault s.regs = true ∧ Mem.wf s.silo.cells = true ∧ ∀ e : Eng, s.eng[e].Ok

/-- The queue of s is q, and its stores are canonical. -/
def State.Kept (q : List Instr) (s : State) : Prop := s.pending = q ∧ s.Canon

/-- An outcome is a next state of that kind, if it is a next state. -/
def OutKept (q : List Instr) (o : Host.Outcome State Fault Refusal) : Prop := ∀ t, o = .next t → t.Kept q

/-- Every state an instruction's effect carries is of that kind. -/
def Eff.Kept (q : List Instr) : Eff → Prop
  | .done s => s.Kept q
  | .jump s _ => s.Kept q
  | .hold s => s.Kept q
  | .exc _ _ => True
  | .stall _ => True

/-- Engine e executes the instruction at its program counter now (R41, R184, R192): it runs and waits for nothing, no
asynchronous exception is due, every domain that it needs is ON, its swath's program goes on, and the fetch succeeds, with nothing to
correct. -/
def State.Ready (s : State) (e : Eng) : Prop :=
  s.engExecutes e = true ∧ (s.eng[e].late.isSome && !s.eng[e].active) = false ∧ s.eng[e].wdogDue = false ∧
    (∀ d ∈ s.engDomains e, s.domainOn d = true) ∧ s.atProgramEnd e = false ∧ s.fetchExc e = none ∧ s.fetchMarked e = false

/-- The domains that engine e needs have had their handshake (R40). -/
def State.awake (s : State) (e : Eng) : State := forEach (s.engDomains e) s fun s d => s.touch d

/-- Only engine e differs, and the idle times of domains (R40). -/
def State.OnlyEngine (s t : State) (e : Eng) : Prop :=
  t = { s with eng := t.eng, power := t.power } ∧ ∀ f, f ≠ e → t.eng[f] = s.eng[f]

/-- Instruction i of n bytes completes on engine e: the engine becomes x, with the program counter behind the instruction, and
nothing else changes but idle times of domains. -/
def State.Completes (s : State) (e : Eng) (i : Instr) (n : Nat) (x : Engine) : Prop :=
  ∃ t, exec i s = .next t ∧ s.OnlyEngine t e ∧ t.eng[e] = { x with pc := s.eng[e].pc + BitVec.ofNat 32 n }

/-- Instruction i takes the synchronous exception of a cause with a DETAIL on engine e (R182), and does nothing else. -/
def State.Traps (s : State) (e : Eng) (i : Instr) (cause detail : Nat) : Prop :=
  exec i s = .next ((s.awake e).syncExc e cause detail)

/-- Instruction i completes on engine e: the engine becomes x, and goes on at pc; nothing else changes but idle times. -/
def State.JumpsTo (s : State) (e : Eng) (i : Instr) (x : Engine) (pc : Word) : Prop :=
  ∃ t, exec i s = .next t ∧ s.OnlyEngine t e ∧ t.eng[e] = { x with pc := pc }

/-- Instruction i takes hold of engine e: the engine becomes x, at the same instruction; nothing else changes but idle times. -/
def State.HoldsAt (s : State) (e : Eng) (i : Instr) (x : Engine) : Prop :=
  ∃ t, exec i s = .next t ∧ s.OnlyEngine t e ∧ t.eng[e] = x

/-- The engine with event source n taken from its latch to g[d], or the timeout of R175, and C and V as given. -/
def Engine.tookEvent (x : Engine) (d : GReg) (c v : Bool) : Engine :=
  match x.latch.min? with
  | some n => { ({ x with latch := x.latch.erase n } : Engine).setG d (BitVec.ofNat 32 n) with
      flags := { x.flags with c := c, v := v, z := false } }
  | none => { x.setG d 0xFFFFFFFF#32 with flags := { x.flags with c := c, v := v, z := true } }

/-- Only engine e, idle times of domains and the field named by the update differ: t is u with engine e as it is in t. -/
def State.But (u t : State) (e : Eng) : Prop := t = { u with eng := t.eng, power := t.power } ∧ ∀ f, f ≠ e → t.eng[f] = u.eng[f]

/-- Only engine e, the Silo, idle times of domains and the record of corrected errors (R38) differ. -/
def State.MemOnly (s t : State) (e : Eng) : Prop :=
  t = { s with eng := t.eng, silo := t.silo, power := t.power, fabric := { s.fabric with corrected := t.fabric.corrected } } ∧
    ∀ f, f ≠ e → t.eng[f] = s.eng[f]

/-- Memory m' holds the low n bytes of v from offset a on, the least significant byte first, and is m elsewhere. -/
def MemR.Stores (m m' : MemR) (a n v : Nat) : Prop :=
  (∀ k, k < n → m'.byte (a + k) = BitVec.ofNat 8 (v / 256 ^ k)) ∧ ∀ b, b < a ∨ a + n ≤ b → m'.byte b = m.byte b

/-- Instruction i of len bytes loads n bytes at address p (R163, R164, R180): engine e becomes f of the value read, from local
memory or the Silo, a single-bit error there is corrected, and nothing else changes; a misaligned access and an uncorrectable word
take their exceptions. -/
def State.Loads (s : State) (e : Eng) (i : Instr) (len p n : Nat) (f : Nat → Engine) : Prop :=
  let x := s.eng[e]
  let o := p - 0x10000000
  let pc := x.pc + BitVec.ofNat 32 len
  let inSilo := 0x10000000 ≤ p ∧ p < 0x10000000 + siloSize ∧ s.domainOn (domainOfSilo o) = true
  (p % n = 0 → p < localSize e → x.mem.badIn p n = false →
    ∃ t, exec i s = .next t ∧ s.MemOnly t e ∧ t.silo = s.silo ∧
      t.eng[e] = { f (x.mem.read p n) with mem := x.mem.correct p n, pc := pc }) ∧
  (p % n = 0 → inSilo → s.silo.badIn o n = false →
    ∃ t, exec i s = .next t ∧ s.MemOnly t e ∧ t.silo = s.silo.correct o n ∧ t.eng[e] = { f (s.silo.read o n) with pc := pc }) ∧
  (p % n ≠ 0 → s.Traps e i 3 0) ∧
  (p % n = 0 → p < localSize e → x.mem.badIn p n = true → s.Traps e i 4 0) ∧
  (p % n = 0 → inSilo → s.silo.badIn o n = true → s.Traps e i 4 2)

/-- Instruction i of len bytes stores the low n bytes of v at address p (R163, R164, R180): in local memory or the Silo the bytes
are there, least significant first, and every other byte, register and field stays; a misaligned access takes its exception. -/
def State.StoresTo (s : State) (e : Eng) (i : Instr) (len p n v : Nat) : Prop :=
  let x := s.eng[e]
  let o := p - 0x10000000
  let pc := x.pc + BitVec.ofNat 32 len
  (p % n = 0 → p < localSize e → (n = 8 ∨ x.mem.badIn p n = false) →
    ∃ t, exec i s = .next t ∧ s.MemOnly t e ∧ t.silo = s.silo ∧ t.eng[e] = { x with mem := t.eng[e].mem, pc := pc } ∧
      x.mem.Stores t.eng[e].mem p n v) ∧
  (p % n = 0 → 0x10000000 ≤ p → p < 0x10000000 + siloSize → s.domainOn (domainOfSilo o) = true →
    (n = 8 ∨ s.silo.badIn o n = false) →
    ∃ t, exec i s = .next t ∧ s.MemOnly t e ∧ t.eng[e] = { x with pc := pc } ∧ s.silo.Stores t.silo o n v) ∧
  (p % n ≠ 0 → s.Traps e i 3 0)

/-- Atomic instruction i on the Silo word at address p (R165, R166): engine e becomes x, the word becomes `new`, and no other byte,
register or field changes; a misaligned word and one outside the Silo take their exceptions. -/
def State.AtomicOn (s : State) (e : Eng) (i : Instr) (p : Nat) (x : Engine) (new : Word) : Prop :=
  let o := p - 0x10000000
  (p % 4 = 0 → 0x10000000 ≤ p → p < 0x10000000 + siloSize → s.domainOn (domainOfSilo o) = true → s.silo.badIn o 4 = false →
    ∃ t, exec i s = .next t ∧ s.MemOnly t e ∧ t.eng[e] = { x with pc := s.eng[e].pc + 4 } ∧ s.silo.Stores t.silo o 4 new.toNat) ∧
  (p % 4 ≠ 0 → s.Traps e i 3 0) ∧
  (p % 4 = 0 → p < 0x10000000 ∨ 0x10000000 + siloSize ≤ p → s.Traps e i 3 3)

/-- Beam engine e of beam b executes a beam instruction now, and no lease violation is due (R207). -/
def State.BeamReady (s : State) (e : Eng) (b : Sys2Proof.Beam) : Prop :=
  s.Ready e ∧ beamOfEng e = some b ∧ s.beam[b].expired = false

/-- Instruction i of n bytes completes on engine e with effect u: the program counter then stands behind it. -/
def State.Goes (s : State) (e : Eng) (i : Instr) (n : Nat) (u : State) : Prop :=
  exec i s = .next (u.modEng e fun x => { x with pc := s.eng[e].pc + BitVec.ofNat 32 n })

/-- A register write by who with what it owes once its response is sent (R492, R641): an engine's write owes nothing. -/
def State.settled (who : Reader) (t : State) : State := match who with
  | .engine _ => t
  | .session _ => t.payPorts.payReset

/-- i cut to the numbers from −m to m − 1. -/
def cutTo (m i : Int) : Int := if i < -m then -m else if m - 1 < i then m - 1 else i

/-- Instruction i completes with v, saturated to 40 bits, in accumulator n of engine e; V gathers the saturation (R159). -/
def State.AccResult (s : State) (e : Eng) (i : Instr) (n : Fin 8) (v : Int) : Prop :=
  s.Completes e i 4 { s.eng[e] with
    acc := s.eng[e].acc.set n (BitVec.ofInt 40 (cutTo (2 ^ 39) v))
    flags := { s.eng[e].flags with v := s.eng[e].flags.v || decide (cutTo (2 ^ 39) v ≠ v) } }

/-- Instruction i completes with v, saturated to 16 bits and sign-extended, in g[d] of engine e; V gathers the saturation. -/
def State.Q15Result (s : State) (e : Eng) (i : Instr) (d : GReg) (v : Int) : Prop :=
  s.Completes e i 4 { s.eng[e].setG d (BitVec.ofInt 32 (cutTo 32768 v)) with
    flags := { s.eng[e].flags with v := s.eng[e].flags.v || decide (cutTo 32768 v ≠ v) } }

/-- The field of an instruction that names accumulator n. -/
def accField (n : Fin 8) : GReg := ⟨n.val, by omega⟩

/-- A request meets nothing that answers it before its type is looked at: not reset, not the way to another node, not BAD_MSG,
not BUSY (R497, R516, R520, R639). -/
def State.Meets (s : State) (o : VmpFrom) (m : VmpMsg) (discover : Bool) : Prop :=
  s.boot.cause = 0 ∧ (s.forAnother m = true → o.port = 3) ∧ vmpWell m = true ∧ s.longRuns = false ∧
    (s.bootRuns = true → discover = true)

/-- A request of session n that the device is to accept (R501, R503, R504): the session's binding and a state, the tag its messages
carry, and a SEQ later than the last one accepted. -/
def State.Takes (s : State) (o : VmpFrom) (m : VmpMsg) (n : Sess) (state : Nat) : Prop :=
  s.Meets o m false ∧ s.vmpSess o m = some n ∧ s.sessState n = state ∧
    (if s.host.sess[n].keyed then s.tagOk n m = true else m.flags.getLsbD 1 = false) ∧
    later 32 m.seq.toNat s.host.sess[n].a.toNat = true

/-- Such a request that waits for no domain (R41): every one that it asks is ON, and none of its session waits before it. -/
def State.Accepts (s : State) (o : VmpFrom) (m : VmpMsg) (n : Sess) (state : Nat) : Prop :=
  s.Takes o m n state ∧ s.vmpWaits o m = false

/-- Request m of session n is accepted: the domains that it asks have their handshake (R40), and what R493, R504 and R507 record. -/
def State.taken (s : State) (o : VmpFrom) (m : VmpMsg) (n : Sess) : State :=
  (forEach (s.vmpAsks o m) s fun s d => s.touch d).vmpAccept n o m

/-- Request m of session n is executed and answered: t is the state the execution leaves, and its response has STATUS and a body
(R499, R503, R504, R516). -/
def State.Answers (s : State) (i : Instr) (o : VmpFrom) (m : VmpMsg) (n : Sess) (t : State) (status : Nat) (body : List Octet) : Prop :=
  let u := s.taken o m n
  tooLong o (u.tagged n (vmpReply m status body)) = false → exec i s = .next (t.vmpDone u n o m status body)

/-- Channel h has taken the list command at CH_FETCH, of that many words (R621): CH_PC, its instant, and the next command. -/
def State.xkTaken (s : State) (h : Chan) (words : Nat) : State :=
  let c := s.xk.chan[h]
  let pc := s.chFetch h
  let t := if s.tickEmu ∧ c.outT < s.nowEt + 320 then s.nextTick else c.outT
  (s.modChan h fun c => { c with
    outT := t, pcs := datedFrom (c.pcs ++ [(t, pc)]) s.nowEt, zs := datedFrom c.zs s.nowEt, pws := datedFrom c.pws s.nowEt }).xkGo h
      (listNext pc words)

/-- List command i of that many words on channel h of a device in XK or mixed personality, in RUN and not held by stage T4 (R621, R622,
R631): with a bit set that it
does not name the channel halts with fault 1, else it has effect f and the channel's path goes on. -/
def State.XkRow (s : State) (h : Chan) (i : Instr) (words : Nat) (bad : Bool) (f : State → State) : Prop :=
  s.pers ≠ 0 → s.chRuns h = true →
    let u := s.xkTaken h words
    (bad = true → exec i s = .next (u.chHalt h 1)) ∧
    (bad = false → exec i s = .next (((f u).prunePath (chanBeam h)).pump (chanBeam h)))

/-- Every command that waits is well formed. -/
def State.QueueWf (s : State) : Prop := s.pending.all Instr.wf = true

end Sys2Proof.Machine
end

