-- ==== Sys2Proof/Certificates/Slice0/Obligations.lean ====
section
/-! DEFINITION. The statements for the provers: what each command completes with, what it leaves, and what every step keeps. -/

section

open Sys2Proof Sys2Proof.Machine

/-! ## Engines: arithmetic (04_engine_isa.md) -/

/-- g0 reads 0 and discards a write; every other register reads what was written, and a write changes no other (R140). -/
def Obligations.GeneralRegisterZero : Prop :=
  ∀ (x : Engine) (d a : GReg) (v : Word),
    x.rd 0 = 0 ∧ x.setG 0 v = x ∧ (d ≠ 0 → (x.setG d v).rd d = v) ∧ (a ≠ d → (x.setG d v).rd a = x.rd a) ∧
      x.setG d v = { x with g := (x.setG d v).g }

/-- The rows of R155 but division, on an engine that executes: g[d], the flags with S = 1, and nothing else. -/
def Obligations.AluRowsComplete : Prop :=
  ∀ (s : State) (e : Eng) (d a b : GReg) (S : Bool), s.Ready e →
    let x := s.eng[e]
    let p := x.rd a
    let q := x.rd b
    let C : Nat := if x.flags.c then 1 else 0
    let fits (i : Int) : Bool := decide (-(2 ^ 31) ≤ i ∧ i < 2 ^ 31)
    let row (i : Instr) (r : Word) (c v : Bool) : Prop :=
      s.Completes e i 4 { x.setG d r with
        flags := if S then { x.flags with n := r.getLsbD 31, z := decide (r = 0), c := c, v := v } else x.flags }
    row (.add e d a b S) (p + q) (decide (2 ^ 32 ≤ p.toNat + q.toNat)) (!fits (p.toInt + q.toInt)) ∧
    row (.sub e d a b S) (p - q) (decide (q.toNat ≤ p.toNat)) (!fits (p.toInt - q.toInt)) ∧
    row (.and e d a b S) (p &&& q) false false ∧
    row (.or e d a b S) (p ||| q) false false ∧
    row (.xor e d a b S) (p ^^^ q) false false ∧
    row (.slt e d a b S) (if p.toInt < q.toInt then 1 else 0) false false ∧
    row (.sltu e d a b S) (if p.toNat < q.toNat then 1 else 0) false false ∧
    row (.min e d a b S) (if p.toInt ≤ q.toInt then p else q) false false ∧
    row (.max e d a b S) (if q.toInt ≤ p.toInt then p else q) false false ∧
    row (.minu e d a b S) (if p.toNat ≤ q.toNat then p else q) false false ∧
    row (.maxu e d a b S) (if q.toNat ≤ p.toNat then p else q) false false ∧
    row (.addc e d a b S) (p + q + BitVec.ofNat 32 C) (decide (2 ^ 32 ≤ p.toNat + q.toNat + C)) (!fits (p.toInt + q.toInt + C)) ∧
    row (.subb e d a b S) (p - q - BitVec.ofNat 32 (1 - C)) (decide (q.toNat + (1 - C) ≤ p.toNat))
      (!fits (p.toInt - q.toInt - ((1 - C : Nat) : Int))) ∧
    row (.mul e d a b S) (BitVec.ofNat 32 (p.toNat * q.toNat)) false (!fits (p.toInt * q.toInt)) ∧
    row (.mulh e d a b S) (BitVec.ofInt 32 (p.toInt * q.toInt / 2 ^ 32)) false false ∧
    row (.mulhu e d a b S) (BitVec.ofNat 32 (p.toNat * q.toNat / 2 ^ 32)) false false

/-- Division (R155, R156): the results, the cases that set V whatever S is, and that every other division clears V with S = 1 and
leaves it otherwise; it raises no exception. -/
def Obligations.DivisionRowsComplete : Prop :=
  ∀ (s : State) (e : Eng) (d a b : GReg) (S : Bool), s.Ready e →
    let x := s.eng[e]
    let p := x.rd a
    let q := x.rd b
    let row (i : Instr) (r : Word) (odd : Bool) : Prop :=
      s.Completes e i 4 { x.setG d r with
        flags := if S then { x.flags with n := r.getLsbD 31, z := decide (r = 0), c := false, v := odd }
          else { x.flags with v := x.flags.v || odd } }
    let corner := p = 0x80000000#32 ∧ q = 0xFFFFFFFF#32
    row (.div e d a b S) (if q = 0 then 0xFFFFFFFF#32 else if corner then 0x80000000#32 else BitVec.ofInt 32 (p.toInt.tdiv q.toInt))
      (decide (q = 0 ∨ corner)) ∧
    row (.divu e d a b S) (if q = 0 then 0xFFFFFFFF#32 else BitVec.ofNat 32 (p.toNat / q.toNat)) (decide (q = 0)) ∧
    row (.rem e d a b S) (if q = 0 then p else if corner then 0 else BitVec.ofInt 32 (p.toInt.tmod q.toInt)) (decide (q = 0 ∨ corner)) ∧
    row (.remu e d a b S) (if q = 0 then p else BitVec.ofNat 32 (p.toNat % q.toNat)) (decide (q = 0))

/-- The shifts of R157 by an amount of either form: the result, N and Z of it, C the last bit shifted out or 0 for a shift of 0, and
V cleared. -/
def Obligations.ShiftRowsComplete : Prop :=
  ∀ (s : State) (e : Eng) (d a : GReg) (amt : ShAmt) (S : Bool), s.Ready e →
    let x := s.eng[e]
    let p := x.rd a
    let n := match amt with
      | .reg b => (x.rd b).toNat % 32
      | .imm k => k.val
    let row (i : Instr) (r : Word) (last : Bool) : Prop :=
      s.Completes e i 4 { x.setG d r with
        flags := if S then { x.flags with n := r.getLsbD 31, z := decide (r = 0), c := if n = 0 then false else last, v := false }
          else x.flags }
    row (.sll e d a amt S) (p <<< n) (p.getLsbD (32 - n)) ∧
    row (.srl e d a amt S) (p >>> n) (p.getLsbD (n - 1)) ∧
    row (.sra e d a amt S) (p.sshiftRight n) (p.getLsbD (n - 1)) ∧
    row (.ror e d a amt S) (p.rotateRight n) (p.getLsbD (n - 1))

/-- The immediate rows of R158 in both forms, with the fields that must be 0: a field that is not takes the illegal-instruction
exception with DETAIL 2 (R150). -/
def Obligations.ImmediateRowsComplete : Prop :=
  ∀ (s : State) (e : Eng) (d a : GReg) (i : Imm), s.Ready e →
    let x := s.eng[e]
    let p := x.rd a
    let n := match i with
      | .imm _ => 4
      | .lit _ => 8
    let sext : Word := match i with
      | .imm v => v.signExtend 32
      | .lit l => l
    let zext : Word := match i with
      | .imm v => v.setWidth 32
      | .lit l => l
    let high : Word := match i with
      | .imm v => v.setWidth 32 <<< 16
      | .lit l => l
    let cmp : Flags := { x.flags with
      n := (p - sext).getLsbD 31, z := decide (p - sext = 0), c := decide (sext.toNat ≤ p.toNat)
      v := decide (¬(-(2 ^ 31) ≤ p.toInt - sext.toInt ∧ p.toInt - sext.toInt < 2 ^ 31)) }
    let tst : Flags := { x.flags with n := (p &&& zext).getLsbD 31, z := decide (p &&& zext = 0), c := false, v := false }
    s.Completes e (.addi e d a i) n (x.setG d (p + sext)) ∧
    s.Completes e (.andi e d a i) n (x.setG d (p &&& zext)) ∧
    s.Completes e (.ori e d a i) n (x.setG d (p ||| zext)) ∧
    s.Completes e (.xori e d a i) n (x.setG d (p ^^^ zext)) ∧
    (a = 0 → s.Completes e (.lui e d a i) n (x.setG d high)) ∧ (a ≠ 0 → s.Traps e (.lui e d a i) 1 2) ∧
    s.Completes e (.slti e d a i) n (x.setG d (if p.toInt < sext.toInt then 1 else 0)) ∧
    s.Completes e (.sltiu e d a i) n (x.setG d (if p.toNat < sext.toNat then 1 else 0)) ∧
    (d = 0 → s.Completes e (.cmpi e d a i) n { x with flags := cmp }) ∧ (d ≠ 0 → s.Traps e (.cmpi e d a i) 1 2) ∧
    (d = 0 → s.Completes e (.tsti e d a i) n { x with flags := tst }) ∧ (d ≠ 0 → s.Traps e (.tsti e d a i) 1 2)

/-- The Q15 and accumulator rows (R159-R162): a product is exact, an accumulator saturates at 40 bits, a result at 16, V gathers
saturation, and no other flag changes. A field that must be 0 and is not, and one that must name an accumulator and does not, take
the illegal-instruction exception with DETAIL 2, and nothing else happens (R150, R161, R162). -/
def Obligations.AccumulatorRowsComplete : Prop :=
  (∀ (s : State) (e : Eng) (n m : Fin 8) (d a b : GReg), s.Ready e →
    let x := s.eng[e]
    let q (r : GReg) : Int := ((x.rd r).setWidth 16).toInt
    let acc (n : Fin 8) : Int := (x.acc[n]).toInt
    let N := accField n
    let M := accField m
    s.AccResult e (.macq e N a b) n (acc n + q a * q b) ∧
    s.AccResult e (.msuq e N a b) n (acc n - q a * q b) ∧
    s.AccResult e (.mulqa e N a b) n (q a * q b) ∧
    s.AccResult e (.clra e N 0 0) n 0 ∧
    s.AccResult e (.adda e N M 0) n (acc n + acc m) ∧
    s.AccResult e (.asha e N 0 b) n (if b.val < 16 then acc n * 2 ^ b.val else rdivEven (acc n) (2 ^ (32 - b.val))) ∧
    s.Q15Result e (.addq e d a b) d (q a + q b) ∧
    s.Q15Result e (.subq e d a b) d (q a - q b) ∧
    s.Q15Result e (.mulq e d a b) d (rdivEven (q a * q b) 32768) ∧
    s.Q15Result e (.rndq e d N 0) d (rdivEven (acc n) 32768) ∧
    s.Completes e (.rdal e d N 0) 4 (x.setG d (x.acc[n].setWidth 32)) ∧
    s.Completes e (.rdah e d N 0) 4 (x.setG d ((x.acc[n].extractLsb' 32 8).signExtend 32)) ∧
    s.Completes e (.wra e N a b) 4 { x with acc := x.acc.set n (((x.rd b).setWidth 8) ++ (x.rd a)) } ∧
    s.Completes e (.movqa e N a 0) 4 { x with acc := x.acc.set n (BitVec.ofInt 40 (q a * 32768)) }) ∧
  (∀ (s : State) (e : Eng) (d a b : GReg), s.Ready e →
    (8 ≤ d.val → s.Traps e (.macq e d a b) 1 2 ∧ s.Traps e (.msuq e d a b) 1 2 ∧ s.Traps e (.mulqa e d a b) 1 2 ∧
      s.Traps e (.clra e d a b) 1 2 ∧ s.Traps e (.adda e d a b) 1 2 ∧ s.Traps e (.asha e d a b) 1 2 ∧ s.Traps e (.wra e d a b) 1 2 ∧
      s.Traps e (.movqa e d a b) 1 2) ∧
    (8 ≤ a.val → s.Traps e (.rndq e d a b) 1 2 ∧ s.Traps e (.adda e d a b) 1 2 ∧ s.Traps e (.rdal e d a b) 1 2 ∧
      s.Traps e (.rdah e d a b) 1 2) ∧
    (b ≠ 0 → s.Traps e (.clra e d a b) 1 2 ∧ s.Traps e (.adda e d a b) 1 2 ∧ s.Traps e (.rndq e d a b) 1 2 ∧
      s.Traps e (.rdal e d a b) 1 2 ∧ s.Traps e (.rdah e d a b) 1 2 ∧ s.Traps e (.movqa e d a b) 1 2) ∧
    (a ≠ 0 → s.Traps e (.clra e d a b) 1 2 ∧ s.Traps e (.asha e d a b) 1 2))

/-! ## Engines: memory (04_engine_isa.md) -/

/-- The loads of R163 from local memory and from the Silo, in both forms: g[d], or the pair of LD, takes the value, sign- or
zero-extended; LD of an odd d is an illegal instruction.
The model's own choices here: log entry 3. -/
def Obligations.LoadsComplete : Prop :=
  ∀ (s : State) (e : Eng) (d a : GReg) (i : Imm), s.Ready e →
    let x := s.eng[e]
    let p := (x.rd a + immSext i).toNat
    let n := immLen i
    s.Loads e (.lw e d a i) n p 4 (fun v => x.setG d (BitVec.ofNat 32 v)) ∧
    s.Loads e (.lh e d a i) n p 2 (fun v => x.setG d ((BitVec.ofNat 16 v).signExtend 32)) ∧
    s.Loads e (.lhu e d a i) n p 2 (fun v => x.setG d (BitVec.ofNat 32 v)) ∧
    s.Loads e (.lb e d a i) n p 1 (fun v => x.setG d ((BitVec.ofNat 8 v).signExtend 32)) ∧
    s.Loads e (.lbu e d a i) n p 1 (fun v => x.setG d (BitVec.ofNat 32 v)) ∧
    (d.val % 2 = 0 →
      s.Loads e (.ld e d a i) n p 8 fun v => (x.setG d (BitVec.ofNat 32 v)).setG (pairHi d) (BitVec.ofNat 32 (v / 2 ^ 32))) ∧
    (d.val % 2 = 1 → s.Traps e (.ld e d a i) 1 2)

/-- The stores of R163 to local memory and to the Silo, in both forms; SD of an odd d is an illegal instruction. -/
def Obligations.StoresComplete : Prop :=
  ∀ (s : State) (e : Eng) (d a : GReg) (i : Imm), s.Ready e → s.Canon →
    let x := s.eng[e]
    let p := (x.rd a + immSext i).toNat
    let n := immLen i
    s.StoresTo e (.sw e d a i) n p 4 (x.rd d).toNat ∧
    s.StoresTo e (.sh e d a i) n p 2 (x.rd d).toNat ∧
    s.StoresTo e (.sb e d a i) n p 1 (x.rd d).toNat ∧
    (d.val % 2 = 0 → s.StoresTo e (.sd e d a i) n p 8 ((x.rd d).toNat + (x.rd (pairHi d)).toNat * 2 ^ 32)) ∧
    (d.val % 2 = 1 → s.Traps e (.sd e d a i) 1 2)

/-- A word load or store of a device register, and the accesses that no memory takes (R145, R146, R180): a register of another size
is a misaligned access with DETAIL 2, an address outside the map one with DETAIL 1, a register that the view may not access a
privilege violation.
The model's own choices here: log entries 12 and 30. -/
def Obligations.RegisterAccessByEngine : Prop :=
  ∀ (s : State) (e : Eng) (d a : GReg) (i : Imm), s.Ready e →
    let x := s.eng[e]
    let p := (x.rd a + immSext i).toNat
    let pc := x.pc + BitVec.ofNat 32 (immLen i)
    let isReg := 0xF0000000 ≤ p ∧ p < 0xF0100000
    let w := match s.domainOfReg p with
      | some k => (s.awake e).touch k
      | none => s.awake e
    (isReg → p % 4 = 0 → regDenied p (s.engPriv e) = true → s.Traps e (.lw e d a i) 2 0 ∧ s.Traps e (.sw e d a i) 2 0) ∧
    (isReg → p % 4 = 0 → regDenied p (s.engPriv e) = false → s.regReady p = true →
      (∃ v u, w.regRead (.engine e) p = some (v, u) ∧
        exec (.lw e d a i) s = .next (u.modEng e fun y => { y.setG d v with pc := pc })) ∧
      (∃ u, (w.modEng e fun y => { y with pc := pc }).regWrite (.engine e) p (x.rd d) = some u ∧ exec (.sw e d a i) s = .next u)) ∧
    (isReg → p % 2 = 0 → s.Traps e (.lh e d a i) 3 2 ∧ s.Traps e (.lhu e d a i) 3 2 ∧ s.Traps e (.sh e d a i) 3 2) ∧
    (isReg → s.Traps e (.lb e d a i) 3 2 ∧ s.Traps e (.lbu e d a i) 3 2 ∧ s.Traps e (.sb e d a i) 3 2) ∧
    (localSize e ≤ p → p < 0x10000000 ∨ 0x10000000 + siloSize ≤ p → ¬ isReg → p % 4 = 0 →
      s.Traps e (.lw e d a i) 3 1 ∧ s.Traps e (.sw e d a i) 3 1)

/-- The atomic operations (R165, R166): the old word to g[d], the new word where one is written, and Z of ATOM_CAS; FENCE only goes
on.
The model's own choices here: log entries 47 and 48. -/
def Obligations.AtomicsComplete : Prop :=
  ∀ (s : State) (e : Eng) (d a b : GReg), s.Ready e → s.Canon →
    let x := s.eng[e]
    let p := (x.rd a).toNat
    let old : Word := BitVec.ofNat 32 (s.silo.read (p - 0x10000000) 4)
    s.AtomicOn e (.atomSwap e d a b) p (x.setG d old) (x.rd b) ∧
    s.AtomicOn e (.atomAdd e d a b) p (x.setG d old) (old + x.rd b) ∧
    s.AtomicOn e (.atomCas e d a b) p { x.setG d old with flags := { x.flags with z := decide (old = x.rd d) } }
      (if old = x.rd d then x.rd b else old) ∧
    s.AtomicOn e (.atomOr e d a b) p (x.setG d old) (old ||| x.rd b) ∧
    s.AtomicOn e (.atomAnd e d a b) p (x.setG d old) (old &&& x.rd b) ∧
    s.Completes e (.fence e) 4 x

/-! ## Engines: control flow, special registers, waits, events (04_engine_isa.md) -/

/-- The conditions of R151. -/
def Obligations.ConditionCodes : Prop :=
  ∀ f : Flags,
    f.holds 0 = f.z ∧ f.holds 1 = !f.z ∧ f.holds 2 = f.c ∧ f.holds 3 = !f.c ∧ f.holds 4 = f.n ∧ f.holds 5 = !f.n ∧ f.holds 6 = f.v ∧
    f.holds 7 = !f.v ∧ f.holds 8 = (f.c && !f.z) ∧ f.holds 9 = (!f.c || f.z) ∧ f.holds 10 = decide (f.n = f.v) ∧
    f.holds 11 = decide (f.n ≠ f.v) ∧ f.holds 12 = (!f.z && decide (f.n = f.v)) ∧ f.holds 13 = (f.z || decide (f.n ≠ f.v)) ∧
    f.holds 14 = true ∧ f.holds 15 = f.l

/-- B and CALL (R167): to the address of the instruction + 4 × offset22 when the condition is true; CALL then writes the address
behind it to g31, and leaves g31 otherwise. -/
def Obligations.BranchAndCallComplete : Prop :=
  ∀ (s : State) (e : Eng) (cond : Fin 16) (ofs : BitVec 22), s.Ready e →
    let x := s.eng[e]
    let target := x.pc + BitVec.ofInt 32 (4 * ofs.toInt)
    (x.flags.holds cond = true → s.JumpsTo e (.b e cond ofs) x target ∧ s.JumpsTo e (.call e cond ofs) (x.setG 31 (x.pc + 4)) target) ∧
    (x.flags.holds cond = false → s.Completes e (.b e cond ofs) 4 x ∧ s.Completes e (.call e cond ofs) 4 x)

/-- JR and JALR (R168): to the value that g[a] held before the write of the return address; a target that is not a multiple of 4
takes the misaligned access exception on the jump itself. -/
def Obligations.RegisterJumpsComplete : Prop :=
  ∀ (s : State) (e : Eng) (d a : GReg), s.Ready e →
    let x := s.eng[e]
    ((x.rd a).toNat % 4 = 0 → s.JumpsTo e (.jr e a) x (x.rd a) ∧ s.JumpsTo e (.jalr e d a) (x.setG d (x.pc + 4)) (x.rd a)) ∧
    ((x.rd a).toNat % 4 ≠ 0 → s.Traps e (.jr e a) 3 0 ∧ s.Traps e (.jalr e d a) 3 0)

/-- ERET (R183): PC from EPC, N, Z, C and V from SFLAGS, ACTIVE cleared, L and P as they are; a field that is not 0 is illegal. A
handler whose swath is ended or awaits restart ends as R215 says. -/
def Obligations.EretCompletes : Prop :=
  ∀ (s : State) (e : Eng) (d a b : GReg) (fn : BitVec 11), s.Ready e →
    let x := s.eng[e]
    let w := x.ecause
    let y : Engine := { x with
      flags := { x.flags with v := w.getLsbD 8, c := w.getLsbD 9, z := w.getLsbD 10, n := w.getLsbD 11 }
      ecause := w &&& 0xFFFFFFEF#32 }
    (s.eretEnds e = none → s.JumpsTo e (.eret e 0 0 0 0) y x.epc) ∧
    (∀ b, s.eretEnds e = some b → exec (.eret e 0 0 0 0) s = .next (((s.awake e).modEng e fun _ => y).handlerDone b)) ∧
    (d ≠ 0 ∨ a ≠ 0 ∨ b ≠ 0 ∨ fn ≠ 0 → s.Traps e (.eret e d a b fn) 1 2)

/-- MFS and MTS (R142, R143, R169): the value read of each special register, the latch of TNOW_HI by a read of TNOW_LO, what a write
of FLAGS, EPC and ECAUSE stores; a reserved number, a write of a read-only one and a field that is not 0 are illegal. -/
def Obligations.SpecialRegistersComplete : Prop :=
  ∀ (s : State) (e : Eng) (d a b : GReg) (fn : BitVec 11), s.Ready e →
    let x := s.eng[e]
    let n (p : Bool) : Nat := if p then 1 else 0
    let f := x.flags
    let flags : Word := BitVec.ofNat 32 (n f.v + 2 * n f.c + 4 * n f.z + 8 * n f.n + 16 * n f.l + 32 * n (s.engPriv e))
    let v := x.rd a
    let latch : State := { s with time := { s.time with tnowHi := s.time.tnowHi.set (readerOfEng e) s.nowHi } }
    s.Completes e (.mfs e d 0 0 0) 4 (x.setG d x.pc) ∧
    s.Completes e (.mfs e d 1 0 0) 4 (x.setG d flags) ∧
    s.Completes e (.mfs e d 2 0 0) 4 (x.setG d x.epc) ∧
    s.Completes e (.mfs e d 3 0 0) 4 (x.setG d (x.ecause &&& 0x00FFFFFF#32 ||| BitVec.ofNat 32 (e.val * 2 ^ 24))) ∧
    (∃ t, exec (.mfs e d 4 0 0) s = .next t ∧ latch.But t e ∧ t.eng[e] = { x.setG d s.time.ts32 with pc := x.pc + 4 }) ∧
    s.Completes e (.mfs e d 5 0 0) 4 (x.setG d s.time.tnowHi[readerOfEng e]) ∧
    s.Completes e (.mts e 1 a 0 0) 4 { x with
      flags := { v := v.getLsbD 0, c := v.getLsbD 1, z := v.getLsbD 2, n := v.getLsbD 3, l := f.l && v.getLsbD 4 } } ∧
    s.Completes e (.mts e 2 a 0 0) 4 { x with epc := v } ∧
    s.Completes e (.mts e 3 a 0 0) 4 { x with ecause := (x.ecause &&& 0xFFFFC0EF#32) ||| (v &&& 0x3F10#32) } ∧
    (6 ≤ a.val → s.Traps e (.mfs e d a 0 0) 1 3) ∧
    (d.val = 0 ∨ 4 ≤ d.val → s.Traps e (.mts e d a 0 0) 1 3) ∧
    (fn ≠ 0 ∨ b ≠ 0 → s.Traps e (.mfs e d a b fn) 1 2 ∧ s.Traps e (.mts e d a b fn) 1 2)

/-- WAITT and WAITR at their issue (R104, R170): V for a refused time, C for one already reached, and else the wait, towards T. A
wait whose condition is met completes with C and V 0 and goes on behind its instruction (R170, R175); a WAITE takes the lowest
pending source, or completes as a timeout. -/
def Obligations.TimedWaitsComplete : Prop :=
  (∀ (s : State) (e : Eng) (a b : GReg), s.Ready e →
    let x := s.eng[e]
    let row (i : Instr) (T : Nat) (rel : Bool) : Prop :=
      (s.timeRefused T = true → s.Completes e i 4 { x with flags := { x.flags with c := false, v := true } }) ∧
      (s.timeRefused T = false → s.reached T = true → s.Completes e i 4 { x with flags := { x.flags with c := true, v := false } }) ∧
      (s.timeRefused T = false → s.reached T = false →
        s.HoldsAt e i { x with wait := some (.until (BitVec.ofNat 64 T) false rel 0) })
    row (.waitt e 0 a b) ((x.rd b).toNat * 2 ^ 32 + (x.rd a).toNat) false ∧
    row (.waitr e 0 a 0) ((s.now + (x.rd a).toNat) % 2 ^ 64) true) ∧
  (∀ (s : State) (e : Eng), s.engLive e = true → s.engHeld e = false → (∀ d, domainOfEng e = some d → s.domainOn d = true) →
    let x := s.eng[e]
    let y : Engine := { x with wait := none }
    (∀ t rel d, x.wait = some (.until t false rel d) → s.reached t.toNat = true →
      s.Completes e (.waitResume e) 4 { y with flags := { x.flags with c := false, v := false } }) ∧
    (∀ t rel d, x.wait = some (.until t true rel d) → x.latch ≠ [] ∨ s.reached t.toNat = true →
      s.Completes e (.waitResume e) 4 (y.tookEvent d false false)) ∧
    (∀ d, x.wait = some (.event d) → x.latch ≠ [] → s.Completes e (.waitResume e) 4 (y.tookEvent d false false)))

/-- EVSIG, WAITE and EVPOLL (R175): the software event raised with its data word; the lowest pending source to g[d] and its bit
cleared with Z = 0, or 0xFFFFFFFF with Z = 1; C and V as for WAITT. SCHED (R172, R19, R20): V = 1 and nothing queued for an input
cell or a refused time; else, within L_eff and with room, the edge of the level at T × 8 + the fraction as an ET value (R98), owned by
the engine, with V = 0; farther or without room the engine stalls.
The model's own choices here: log entry 14. -/
def Obligations.EventAndSchedInstructionsComplete : Prop :=
  (∀ (s : State) (e : Eng) (d a b : GReg) (k : Fin 32), s.Ready e →
    let x := s.eng[e]
    let T : Nat := (x.rd b).toNat * 2 ^ 32 + (x.rd a).toNat
    (∃ t, exec (.evsig e 0 a 0 (BitVec.ofNat 8 k.val)) s = .next t ∧
      State.But { s with fired := s.fired ++ [⟨168 + k.val, x.rd a, s.now⟩] } t e ∧ t.eng[e] = { x with pc := x.pc + 4 }) ∧
    s.Completes e (.evpoll e d 0 0 0) 4 (x.tookEvent d true false) ∧
    (x.latch ≠ [] → s.Completes e (.waite e d a b 1) 4 (x.tookEvent d false false)) ∧
    (x.latch = [] → s.HoldsAt e (.waite e d a b 1) { x with wait := some (.event d) }) ∧
    (s.timeRefused T = true → s.Completes e (.waite e d a b 0) 4 (x.tookEvent d false true)) ∧
    (s.timeRefused T = false → s.reached T = true → s.Completes e (.waite e d a b 0) 4 (x.tookEvent d true false)) ∧
    (s.timeRefused T = false → s.reached T = false → x.latch ≠ [] → s.Completes e (.waite e d a b 0) 4 (x.tookEvent d false false)) ∧
    (s.timeRefused T = false → s.reached T = false → x.latch = [] →
      s.HoldsAt e (.waite e d a b 0) { x with wait := some (.until (BitVec.ofNat 64 T) true false d) })) ∧
  (∀ (s : State) (e : Eng) (a b : GReg) (fn : BitVec 11), s.Ready e → fn.toNat < 256 →
    let x := s.eng[e]
    let T : Nat := (x.rd b).toNat * 2 ^ 32 + (x.rd a).toNat
    let c := schedCell fn
    let i : Instr := .sched e 0 a b fn
    let et : Int := s.nowEt + sgn 64 (wrap 64 (8 * (T : Int) + (fn.toNat / 32 % 8 : Nat) - s.nowEt))
    let w : Nat := if s.flag F.TIME_STATUS_EXT_VALID then 67 else 35
    let far : Prop := ((s.leff * 8000 : Nat) : Int) < sgn w (wrap w (et - s.nowEt))
    (s.cellOut c = false ∨ s.timeRefused T = true → s.Completes e i 4 { x with flags := { x.flags with v := true } }) ∧
    (s.cellOut c = true → s.timeRefused T = false → ¬far → s.cellRoom c = true →
      ∃ t, exec i s = .next t ∧
        State.But { s with transit := s.transit ++ [(c, { et := et, what := .level (fn.getLsbD 4), owner := some e })] } t e ∧
        t.eng[e] = { x with flags := { x.flags with v := false }, pc := x.pc + 4 }) ∧
    (s.cellOut c = true → s.timeRefused T = false → far ∨ s.cellRoom c = false → s.HoldsAt e i { x with wait := some (.stalled i) }))

/-- RPUT, RGET and RCOUNT (R173): the misaligned accesses, the status of a refusal, which changes nothing else, and the descriptor
copied with status 0. The bed-map instructions (R176, R177), with the arbiter's domain ON and no clear under way: V and the status
of a refusal, the entry read, with a single-bit error in it corrected and counted (R39), the fields written, the index of a point.
The model's own choices here: log entry 49. -/
def Obligations.RingAndBedMapInstructionsComplete : Prop :=
  (∀ (s : State) (e : Eng) (d a b : GReg), s.Ready e →
    let x := s.eng[e]
    let n := (x.rd b).toNat % 64
    let p := (x.rd a).toNat
    let o := p - 0x10000000
    let pc := x.pc + 4
    let ok := p % 32 = 0 ∧ 0x10000000 ≤ p ∧ p < 0x10000000 + siloSize
    let src := s.slotAddr n (s.get (F.HOST_RING_HEAD_SLOT n))
    let slot := s.slotAddr n (s.get (F.HOST_RING_TAIL_SLOT n))
    let on (a : Nat) : Prop := s.domainOn (domainOfSilo a) = true
    (p % 32 ≠ 0 → s.Traps e (.rput e d a b) 3 0 ∧ s.Traps e (.rget e d a b) 3 0) ∧
    (p % 32 = 0 → p < 0x10000000 ∨ 0x10000000 + siloSize ≤ p → s.Traps e (.rput e d a b) 3 3 ∧ s.Traps e (.rget e d a b) 3 3) ∧
    (ok → s.rputStatus n ≠ 0 → s.Completes e (.rput e d a b) 4 (x.setG d (BitVec.ofNat 32 (s.rputStatus n)))) ∧
    (ok → s.rgetStatus n ≠ 0 → s.Completes e (.rget e d a b) 4 (x.setG d (BitVec.ofNat 32 (s.rgetStatus n)))) ∧
    (ok → s.rputStatus n = 0 → on o → on slot → s.silo.badIn o 32 = false →
      exec (.rput e d a b) s = .next ((((s.awake e).siloFix o 32).rput n o).modEng e fun x => { x.setG d 0 with pc := pc })) ∧
    (ok → s.rgetStatus n = 0 → on src → on o → s.silo.badIn src 32 = false →
      ∃ u : State, u = { (s.awake e).siloFix src 32 with
          silo := ((s.silo.correct src 32).setBytes o (s.silo.bytes src 32)).renew o 32 } ∧
        exec (.rget e d a b) s = .next ((u.setHead n (u.ringNext n (u.vHead n))).modEng e fun x => { x.setG d 0 with pc := pc })) ∧
    s.Completes e (.rcount e d 0 b) 4 (x.setG d (BitVec.ofNat 32 (if 52 ≤ n then 0xFFFFFFFF else s.ringCount n)))) ∧
  (∀ (s : State) (e : Eng) (d a b : GReg), s.Ready e → s.domainOn domArb = true → s.bedBusy = false →
    let x := s.eng[e]
    let n := (x.rd a).toNat
    let v := x.rd b
    let p := s.plot n
    let r := s.bedFix (· == n)
    let good := n < s.nx * s.ny ∧ s.bed.bad.contains n = false
    let setV (y : Engine) (f : Bool) : Engine := { y with flags := { x.flags with v := f }, pc := x.pc + 4 }
    let only (u : State) (i : Instr) (y : Engine) (f : Bool) : Prop := ∃ t, exec i s = .next t ∧ u.OnlyEngine t e ∧ t.eng[e] = setV y f
    let writes (i : Instr) (q : Plot) : Prop :=
      (s.nx * s.ny ≤ n → only s i (x.setG d 2) true) ∧
      (good → p.owner ≠ 31 → only r i (x.setG d 1) true) ∧
      (good → p.owner = 31 → ∃ t, exec i s = .next t ∧ State.But (r.setPlot n q) t e ∧ t.eng[e] = setV (x.setG d 0) false)
    (d.val % 2 = 0 → s.nx * s.ny ≤ n → only s (.bmrd e d a 0) x true) ∧
    (d.val % 2 = 0 → good → only r (.bmrd e d a 0) ((x.setG d (BitVec.ofNat 32 (s.bmWord p))).setG (pairHi d) p.tLast) false) ∧
    writes (.bmsete e d a b) { p with e := v.setWidth 16, tLast := BitVec.ofNat 32 s.layerTime } ∧
    writes (.bmwt e d a b) { p with tLast := v } ∧
    writes (.bmflag e d a b) { p with
      excluded := if v.getLsbD 2 then v.getLsbD 0 else p.excluded
      retiredCover := if v.getLsbD 3 then v.getLsbD 1 else p.retiredCover } ∧
    (let ix := s.plotX (x.rd a).toInt
     let iy := s.plotY (x.rd b).toInt
     (s.onMap ix iy = true → only s (.bmidx e d a b) (x.setG d (BitVec.ofNat 32 (s.plotIdx ix iy))) false) ∧
     (s.onMap ix iy = false → only s (.bmidx e d a b) (x.setG d 0xFFFFFFFF#32) true)))

/-! ## Beam instructions (05_beam_instructions.md) -/

/-- The setting instructions (R197, R198): on a beam engine each stores its value within its limits, V says whether a limit acted,
and nothing else changes; a d that names no setting is illegal. A beam instruction on an engine that is no beam engine is illegal,
with DETAIL 1 (R150, R199). -/
def Obligations.SettingsComplete : Prop :=
  (∀ (s : State) (e : Eng) (b : Sys2Proof.Beam) (d a : GReg) (i : Imm) (fn : BitVec 11), s.BeamReady e b →
    let x := s.eng[e]
    let g := s.beam[b].set
    let n := immLen i
    let high : Int := (x.rd a + immHigh i).toNat
    let zero : Int := (x.rd a + immZext i).toNat
    let sign : Int := (x.rd a + immSext i).toInt
    let row (c : Instr) (lo hi v : Int) (f : Int → Settings) : Prop :=
      let k := max lo (min hi v)
      ∃ t, exec c s = .next t ∧ State.But (s.modBeam b fun y => { y with set := f k }) t e ∧
        t.eng[e] = { x with flags := { x.flags with v := decide (k ≠ v) }, pc := x.pc + BitVec.ofNat 32 n }
    (d = 0 → row (.speed e d a i) 65536 1966080000 high fun k => { g with markSpeed := k.toNat }) ∧
    (d = 1 → row (.speed e d a i) 65536 1966080000 high fun k => { g with jumpSpeed := k.toNat }) ∧
    (d = 0 → row (.power e d a i) 0 65535 zero fun k => { g with power := k.toNat }) ∧
    (d = 0 → row (.delay e d a i) (-100000) 100000 sign fun k => { g with onDelay := k }) ∧
    (d = 1 → row (.delay e d a i) (-100000) 100000 sign fun k => { g with offDelay := k }) ∧
    (d = 2 → row (.delay e d a i) 0 10000000 sign fun k => { g with jumpDelay := k.toNat }) ∧
    (d = 3 → row (.delay e d a i) 0 10000000 sign fun k => { g with markDelay := k.toNat }) ∧
    (d = 4 → row (.delay e d a i) 0 10000000 sign fun k => { g with polyDelay := k.toNat }) ∧
    (d = 0 → row (.fly e d a i) 0 7 zero fun k => { g with flyFlags := k.toNat }) ∧
    (d = 1 → row (.fly e d a i) 0 5000 zero fun k => { g with flyLead := k.toNat }) ∧
    (d = 2 → row (.fly e d a i) 0 5000 zero fun k => { g with flyTail := k.toNat }) ∧
    (d = 3 → row (.fly e d a i) 0 0x80000000 high fun k => { g with flyAngle := k.toNat }) ∧
    (d = 0 → row (.pulse e d a i) (if zero = 0 then 0 else 20) 10000000 zero fun k => { g with modPeriod := k.toNat }) ∧
    (d = 1 → row (.pulse e d a i) 10 10000000 zero fun k => { g with modWidth := k.toNat }) ∧
    (d = 2 → row (.pulse e d a i) (if zero = 0 then 0 else 20) 10000000 zero fun k => { g with syncPeriod := k.toNat }) ∧
    (d = 3 → row (.pulse e d a i) 10 10000000 zero fun k => { g with syncWidth := k.toNat }) ∧
    (2 ≤ d.val → s.Traps e (.speed e d a i) 1 2) ∧ (1 ≤ d.val → s.Traps e (.power e d a i) 1 2) ∧
    (5 ≤ d.val → s.Traps e (.delay e d a i) 1 2) ∧ (4 ≤ d.val → s.Traps e (.fly e d a i) 1 2) ∧
    (4 ≤ d.val → s.Traps e (.pulse e d a i) 1 2) ∧
    (fn.toNat < 64 → ∃ t, exec (.loopsel e 0 0 0 fn) s = .next t ∧
      State.But (s.modBeam b fun y => { y with set := { g with loopMask := fn.toNat % 16, loopMode := fn.toNat / 16 % 4 } }) t e ∧
      t.eng[e] = { x with flags := { x.flags with v := false }, pc := x.pc + 4 }) ∧
    (64 ≤ fn.toNat → s.Traps e (.loopsel e 0 0 0 fn) 1 2)) ∧
  (∀ (s : State) (e : Eng) (d a b : GReg) (i : Imm) (fn : BitVec 11) (k : BitVec 16), s.Ready e → 16 ≤ e.val →
    s.Traps e (.mark e d a b fn) 1 1 ∧ s.Traps e (.jump e d a b fn) 1 1 ∧ s.Traps e (.arc e d a b fn) 1 1 ∧
    s.Traps e (.speed e d a i) 1 1 ∧ s.Traps e (.power e d a i) 1 1 ∧ s.Traps e (.delay e d a i) 1 1 ∧ s.Traps e (.fly e d a i) 1 1 ∧
    s.Traps e (.pulse e d a i) 1 1 ∧ s.Traps e (.loopsel e d a b fn) 1 1 ∧ s.Traps e (.lease e d a b fn) 1 1 ∧
    s.Traps e (.release e d a b fn) 1 1 ∧ s.Traps e (.sync e d a b fn) 1 1 ∧ s.Traps e (.tstamp e d a b fn) 1 1 ∧
    s.Traps e (.swend e d a b fn) 1 1 ∧ s.Traps e (.safe e d a k) 1 1)

/-- MARK, JUMP and ARC of a beam in RUN (R202-R204): the target, relative or absolute; V = 1 and nothing else where there is nothing
to move; the lease violation of the first check that fails; else the element handed over, the lease renewed, the target as the
present position and V = 0. R204: the checks of a straight element in their order.
The model's own choices here: log entries 8, 14 and 50. -/
def Obligations.MotionComplete : Prop :=
  (∀ (s : State) (e : Eng) (b : Sys2Proof.Beam) (d a c : GReg) (fn : BitVec 11), s.BeamReady e b → s.suppressing b = none →
    let x := s.eng[e]
    let p := s.beam[b]
    let w := s.awake e
    let r : Int := if fn.getLsbD 0 then 1 else 0
    let tx := r * p.x + (x.rd a).toInt
    let ty := r * p.y + (x.rd c).toInt
    let tz := if fn.getLsbD 1 then r * p.z + (x.rd d).toInt else p.z
    let sw := (x.rd d).toInt
    let r2 := (p.x - tx) ^ 2 + (p.y - ty) ^ 2
    let q := turn (p.x * fxOne) (p.y * fxOne) (tx * fxOne) (ty * fxOne) sw (2 ^ 32)
    let ex := rdivAway q.1 1048576
    let ey := rdivAway q.2 1048576
    let only (i : Instr) : Prop := s.Completes e i 4 { x with flags := { x.flags with v := true } }
    let moved (u : State) (i : Instr) (mx my mz : Int) : Prop := s.Goes e i 4 (((u.renew b).moveTo b mx my mz).setV b false)
    (fn.toNat < 4 → (fn.getLsbD 1 = true ∨ d = 0) → (tx, ty, tz) = (p.x, p.y, p.z) →
      only (.mark e d a c fn) ∧ only (.jump e d a c fn)) ∧
    (fn.toNat < 4 → (fn.getLsbD 1 = true ∨ d = 0) → (tx, ty, tz) ≠ (p.x, p.y, p.z) →
      (∀ k, s.motionCheck b true tx ty none = some k → s.Traps e (.mark e d a c fn) 5 k) ∧
      (∀ k, s.motionCheck b false tx ty none = some k → s.Traps e (.jump e d a c fn) 5 k) ∧
      (s.motionCheck b true tx ty none = none → w.handStalls b = false →
        moved (w.handMark b (w.markSeg b .mark tx ty tz none) (p.set.flyFlags.testBit 0)) (.mark e d a c fn) tx ty tz) ∧
      (s.motionCheck b false tx ty none = none → w.handStalls b = false →
        moved (w.handJump b (tx * fxOne) (ty * fxOne) (tz * fxOne) p.set) (.jump e d a c fn) tx ty tz)) ∧
    (4 ≤ fn.toNat ∨ (fn.getLsbD 1 = false ∧ d ≠ 0) → s.Traps e (.mark e d a c fn) 1 2 ∧ s.Traps e (.jump e d a c fn) 1 2) ∧
    (fn.toNat < 2 → sw = 0 ∨ r2 < 1000000 → only (.arc e d a c fn)) ∧
    (fn.toNat < 2 → sw ≠ 0 → 1000000 ≤ r2 →
      (∀ k, s.motionCheck b true ex ey (some (tx, ty, sw)) = some k → s.Traps e (.arc e d a c fn) 5 k) ∧
      (s.motionCheck b true ex ey (some (tx, ty, sw)) = none → w.handStalls b = false →
        moved (w.handMark b (w.markSeg b .arc ex ey p.z (some (tx, ty, sw))) (p.set.flyFlags.testBit 0)) (.arc e d a c fn) ex ey p.z)) ∧
    (2 ≤ fn.toNat → s.Traps e (.arc e d a c fn) 1 2)) ∧
  (∀ (s : State) (b : Sys2Proof.Beam) (x y : Int) (lit : Bool),
    let p := s.beam[b]
    let f := s.field b
    let out (f : Box) (x y : Int) : Prop := x < f.x0 ∨ f.x1 < x ∨ y < f.y0 ∨ f.y1 < y
    (out f x y → s.motionCheck b lit x y none = some 3) ∧
    (¬out f x y → s.motionCheck b false x y none = none) ∧
    (¬out f x y → p.lease = none → s.motionCheck b true x y none = some 1) ∧
    (∀ l, ¬out f x y → p.lease = some l → out l.1 p.x p.y ∨ out l.1 x y → s.motionCheck b true x y none = some 0) ∧
    (∀ l, ¬out f x y → p.lease = some l → ¬out l.1 p.x p.y → ¬out l.1 x y → s.motionCheck b true x y none = none))

/-- LEASE, RELEASE, SYNC, TSTAMP, SWEND and SAFE (R192, R205, R206, R209-R213): what each does at once, and the request, the arrival
at a barrier or the normal end that it begins. The happenings of a beam's program: the commit of a shadow (R213), the restart
(R218), the withdrawal from a barrier (R210), the repetition of a denied request (R274).
The model's own choices here: log entries 7 and 14. -/
def Obligations.LeaseBarrierAndProgramEventsComplete : Prop :=
  (∀ (s : State) (e : Eng) (b : Sys2Proof.Beam) (d a c : GReg) (fn : BitVec 11) (k : BitVec 16), s.BeamReady e b →
    let x := s.eng[e]
    let w := s.awake e
    let setV (y : Engine) (v : Bool) : Engine := { y with flags := { y.flags with v := v } }
    let pair (lo hi : Word) : Engine := (x.setG d lo).setG (pairHi d) hi
    let lease := Instr.lease e d a 0 fn
    let r := w.leaseRead e a
    let answer (v : Word) : Prop := s.Goes e lease 4 (r.modEng e fun y =>
      let z := (y.setG d v).setG (pairHi d) 0
      { z with flags := { z.flags with v := true } })
    let n : Fin 8 := Fin.ofNat 8 fn.toNat
    let arrive := ((if w.starved b then w.starve b else w.endSequence b).setWait e (.barrier n))
    (d.val % 2 = 0 → fn.toNat < 2 → ∀ q, s.leaseBox b e a = .error q → s.Traps e lease q.1 q.2) ∧
    (d.val % 2 = 0 → fn.toNat < 2 → (∀ k ∈ s.leaseBanks e a, s.domainOn k = true) → ∀ box, s.leaseBox b e a = .ok box →
      (s.beam[b].lease.isSome = true → answer 0x80000001#32) ∧
      (s.beam[b].lease = none → s.beam[b].present = none → answer 0x80000002#32) ∧
      (∀ v, s.beam[b].lease = none → s.beam[b].present = some v → box.empty = true ∨ box.inside v.hdr.box = false →
        answer 0x80000002#32) ∧
      (∀ v, s.beam[b].lease = none → s.beam[b].present = some v → box.empty = false → box.inside v.hdr.box = true →
        s.domainOn domArb = true →
        exec lease s = .next (((r.touch domArb).setWait e (.lease d (fn.getLsbD 0))).request b box v.hdr.cls (fn.getLsbD 0) false))) ∧
    (d.val % 2 = 1 ∨ 2 ≤ fn.toNat → s.Traps e lease 1 2) ∧
    (s.beam[b].lease.isSome = true → s.Goes e (.release e 0 0 0 0) 4 ((w.giveUpLease b none).setV b false)) ∧
    (s.beam[b].lease = none → s.Completes e (.release e 0 0 0 0) 4 (setV x true)) ∧
    (fn.toNat < 8 → (s.suppressing b).isSome = true → s.Completes e (.sync e 0 a 0 fn) 4 (setV x false)) ∧
    (fn.toNat < 8 → s.suppressing b = none → s.partOf b n = false → s.Completes e (.sync e 0 a 0 fn) 4 (setV x true)) ∧
    (fn.toNat < 8 → s.suppressing b = none → w.partOf b n = true →
      exec (.sync e 0 a 0 fn) s = .next
        (State.barrierCheck { arrive with arb := { arrive.arb with barriers := arrive.arb.barriers.set n (arrive.arb.barriers[n] ++
          [⟨b, arrive.beam[b].traj.stream, arrive.now, (arrive.eng[e].rd a).toNat⟩]) } } n)) ∧
    (d.val % 2 = 0 → s.Completes e (.tstamp e d 0 0 0) 4 (pair (BitVec.ofInt 32 ((w.nextStart b).fdiv 8))
      (BitVec.ofInt 32 ((w.nextStart b).fdiv 8 / 2 ^ 32)))) ∧
    (s.beam[b].eretEnds = false → exec (.swend e 0 0 0 0) s = .next (w.normalEnd b)) ∧
    (s.beam[b].eretEnds = true → exec (.swend e 0 0 0 0) s = .next (w.handlerDone b)) ∧
    (s.beam[b].present = none → s.Goes e (.safe e 0 0 k) 4 ((w.renew b).setV b true)) ∧
    (∀ v, s.beam[b].present = some v → s.safeValid v x.pc.toNat k.toNat = false → s.Goes e (.safe e 0 0 k) 4 ((w.renew b).setV b true)) ∧
    (∀ v, s.beam[b].present = some v → s.safeValid v x.pc.toNat k.toNat = true →
      (s.beam[b].swaths.flatMap (·.pending)).length < 4 →
      let u := (w.renew b).setV b false
      s.Goes e (.safe e 0 0 k) 4 (u.modSwath b v.hdr.id fun v => { v with pending := v.pending ++ [u.shadow b k (x.pc + 4)] }))) ∧
  (∀ (s : State) (b : Sys2Proof.Beam),
    let e := engOf b
    (∀ v h l, s.beam[b].swaths.find? (fun v => !v.pending.isEmpty) = some v → v.pending = h :: l → s.reachedEt h.at_ = true →
      ∃ t, exec (.safeCommit b) s = .next t ∧ t = { s with beam := t.beam } ∧ t.beam[b].traj = { s.beam[b].traj with mdFrom := h.at_ } ∧
        t.beam[b].swaths = s.beam[b].swaths.map fun u => if u.hdr.id = v.hdr.id then
          { u with committed := h, pending := l, markDone := 0, suppressed := 0 } else u) ∧
    (∀ v, s.beam[b].present = some v → v.state = .stopping → s.exposureHeld b = false → s.stopDone b = true → s.arb.beams[b].cur = none →
      s.arb.beams[b].old = [] → s.domainOn domArb = true →
      ∃ t, exec (.swathRestart b) s = .next t ∧ t.beam[b].set = v.committed.set ∧
        (t.beam[b].x, t.beam[b].y, t.beam[b].z) = (v.committed.x, v.committed.y, v.committed.z) ∧
        t.eng[e].pc = v.committed.pc ∧ t.eng[e].acc = v.committed.acc ∧ t.eng[e].rd 3 = BitVec.ofNat 32 v.tries ∧
        (∀ r : GReg, r ≠ 3 → t.eng[e].g[r] = v.committed.g[r]) ∧
        t.beam[b].swaths = s.beam[b].swaths.map fun u => if u.hdr.id = v.hdr.id then
          { u with state := if v.committed.lease.isSome then .restartWait else .suppress, suppressed := 0 } else u) ∧
    (∀ n v, s.eng[e].wait = some (.barrier n) → s.arb.barriers[n].filter (fun v => decide (v.beam = b)) = [v] → v.timeout ≠ 0 →
      s.elapsed v.at_ (1000 * v.timeout) = true →
      ∃ t, exec (.barrierWithdraw b) s = .next t ∧ t.arb.barriers[n] = [] ∧ t.eng[e].pc = s.eng[e].pc + 4 ∧ t.eng[e].wait = none ∧
        t.eng[e].flags = { s.eng[e].flags with v := true }) ∧
    (∀ r, s.arb.beams[b].req = some r → r.waiting = true → r.dead = false →
      (if r.retry = 0xFFFFFFFE#32 then r.unblocked.isSome = true ∧ r.trev ≤ s.layerTime else r.retry.toNat ≤ s.layerTime) →
      s.domainOn domArb = true →
      ∃ t, exec (.leaseRetry b) s = .next t ∧ t.arb.joined = s.arb.joined ++ [.loc b] ∧
        t.arb.beams[b].req = some { r with waiting := false, unblocked := none } ∧ t.arb.window.isSome = true))

/-! ## Exceptions, faults and the control of engines (04_engine_isa.md R179-R187) -/

/-- Taking an exception on a field core or the supervisor pair (R182): EPC, ECAUSE with ACTIVE and SFLAGS, PC from the vector entry,
and nothing else; a fault with DOUBLE where the entry is invalid or ACTIVE is 1. The vector entry of a cause (R182): the word at 4 ×
cause, if it has no uncorrectable error, is a multiple of 4 and lies in local memory from 0x40 on or in the Silo window.
The model's own choices here: log entry 12. -/
def Obligations.ExceptionEntry : Prop :=
  (∀ (s : State) (e : Eng) (cause detail : Nat) (async : Bool), 16 ≤ e.val → cause < 16 → detail < 256 →
    let x := s.eng[e]
    let n (p : Bool) : Nat := if p then 1 else 0
    let f := x.flags
    let flags : Nat := n f.v + 2 * n f.c + 4 * n f.z + 8 * n f.n + 16 * n f.l + 32 * n (s.engPriv e)
    let y : Engine := { x with
      epc := x.pc, ecause := BitVec.ofNat 32 (cause + 16 + 32 * n async + 256 * flags + 65536 * detail), wait := none }
    (∀ v, x.ecause.getLsbD 4 = false → s.vector e cause = some v →
      s.takeException e cause detail async = { s with eng := s.eng.set e { y with pc := v } }) ∧
    (x.ecause.getLsbD 4 = false → s.vector e cause = none →
      s.takeException e cause detail async = State.engFault { s with eng := s.eng.set e y } e cause true) ∧
    (x.ecause.getLsbD 4 = true → s.takeException e cause detail async = s.engFault e cause true)) ∧
  (∀ (s : State) (e : Eng) (cause : Nat),
    let m := s.eng[e].mem
    let v := m.read (4 * cause) 4
    let lies := (0x40 ≤ v ∧ v < localSize e) ∨ (0x10000000 ≤ v ∧ v < 0x16000000)
    (m.badIn (4 * cause) 4 = false → v % 4 = 0 → lies → s.vector e cause = some (BitVec.ofNat 32 v)) ∧
    (m.badIn (4 * cause) 4 = true ∨ v % 4 ≠ 0 ∨ ¬lies → s.vector e cause = none))

/-- The watchdog (R179, R184, R186) and the exceptions that stay pending (R184): a watchdog exception taken reloads the watchdog (R186),
and faults the engine while ACTIVE is 1 (R182). An engine fault of a field core (R185): HALTED,
FAULT, FCAUSE and DOUBLE, and the field core's fault event. -/
def Obligations.FaultsWatchdogAndPendingComplete : Prop :=
  (∀ (s : State) (e : Eng),
    let x := s.eng[e]
    let u := (s.setFlag (F.SYS_ENG_WDOG_EXPIRED e.val) true).wdogReload e
    let due := s.wdogCounts e = true ∧ 1000 * s.get (F.SYS_ENG_WDOG_TIMEOUT e.val) ≤ s.wdogRun e
    (s.Ready e → s.Completes e (.wdog e 0 0 0) 4 { x with wdogAcc := 0, wdogFrom := if s.wdogCounts e then some s.now else none }) ∧
    (∀ d a b, s.Ready e → d ≠ 0 ∨ a ≠ 0 ∨ b ≠ 0 → s.Traps e (.wdog e d a b) 1 2 ∧ s.Traps e (.halt e d a b) 1 2) ∧
    (due → x.active = true → exec (.watchdogExpiry e) s = .next (u.engFault e 7 true)) ∧
    (due → x.active = false → s.engHeld e = false → exec (.watchdogExpiry e) s = .next ((u.wdogFault e).takeException e 7 0 true)) ∧
    (due → x.active = false → s.engHeld e = true → ∀ b, beamOfEng e = some b →
      exec (.watchdogExpiry e) s = .next (((u.wdogFault e).stopWith b .restart false false).modEng e fun x => { x with wdogDue := true })) ∧
    (∀ c, s.engExecutes e = true → x.late = some c → x.active = false → exec (.pendingExceptionTaken e) s =
      .next ((s.modEng e fun x => { x with late := none }).enterException e 6 c true)) ∧
    (s.engExecutes e = true → x.late = none → x.wdogDue = true →
      let y := s.modEng e fun x => { x with wdogDue := false }
      (x.active = false → exec (.pendingExceptionTaken e) s = .next ((y.enterException e 7 0 true).wdogReload e)) ∧
      (x.active = true → exec (.pendingExceptionTaken e) s = .next (y.engFault e 7 true)))) ∧
  (∀ (s : State) (e : Eng) (cause : Nat) (double : Bool), s.Canon → 16 ≤ e.val → e.val < 20 → cause < 16 →
    let t := s.engFault e cause double
    t.flag (F.SYS_ENG_CTRL_HALTED e.val) = true ∧ t.flag (F.SYS_ENG_CTRL_FAULT e.val) = true ∧
      t.get (F.SYS_ENG_CTRL_FCAUSE e.val) = cause ∧ t.flag (F.SYS_ENG_CTRL_DOUBLE e.val) = double ∧ t.eng[e].wait = none ∧
      t.fired = s.fired ++ [⟨220 + e.val, BitVec.ofNat 32 (cause + if double then 16 else 0), s.now⟩])

/-- HALT, and RUN and RESET of SYS_ENG_CTRL written from the supervisor view (R144, R179, R187): RUN, HALTED, FAULT, the program
counter from entry 0, the state of R144 with local memory kept.
The model's own choices here: log entry 45. -/
def Obligations.EngineControlComplete : Prop :=
  ∀ (s : State) (e : Fin 20) (who : Reader), s.Canon → s.supView who = true → s.engTaken e = false →
    let g := engAt e
    let ctrl (t : State) (run halted fault : Bool) : Prop :=
      t.flag (F.SYS_ENG_CTRL_RUN e.val) = run ∧ t.flag (F.SYS_ENG_CTRL_HALTED e.val) = halted ∧
        t.flag (F.SYS_ENG_CTRL_FAULT e.val) = fault
    (∀ v, s.flag (F.SYS_ENG_CTRL_RUN e.val) = false → s.flag (F.SYS_ENG_CTRL_FAULT e.val) = false → s.vector g 0 = some v →
      ∃ t, exec (.engineRun who e) s = .next t ∧ ctrl t true false false ∧ t.eng[g].pc = v ∧ t.eng[g].wait = none) ∧
    (s.flag (F.SYS_ENG_CTRL_RUN e.val) = false → s.flag (F.SYS_ENG_CTRL_FAULT e.val) = false → s.vector g 0 = none →
      ∃ t, exec (.engineRun who e) s = .next t ∧ t.flag (F.SYS_ENG_CTRL_FAULT e.val) = true ∧ t.flag (F.SYS_ENG_CTRL_HALTED e.val) = true ∧
        t.get (F.SYS_ENG_CTRL_FCAUSE e.val) = 0 ∧ t.flag (F.SYS_ENG_CTRL_DOUBLE e.val) = true) ∧
    (s.flag (F.SYS_ENG_CTRL_RUN e.val) = true → s.flag (F.SYS_ENG_CTRL_FAULT e.val) = false →
      ∃ t, exec (.engineStop who e) s = .next t ∧ t.flag (F.SYS_ENG_CTRL_RUN e.val) = false ∧
        t.flag (F.SYS_ENG_CTRL_HALTED e.val) = true ∧ t.eng[g].wait = none) ∧
    (∃ t, exec (.engineReset who e) s = .next t ∧ ctrl t false true false ∧ t.eng[g] = { mem := s.eng[g].mem }) ∧
    (s.Ready g → 16 ≤ e.val → ∃ t, exec (.halt g 0 0 0) s = .next t ∧ t.flag (F.SYS_ENG_CTRL_HALTED e.val) = true ∧
      t.eng[g].pc = s.eng[g].pc + 4) ∧
    (s.Ready g → ∀ b, beamOfEng g = some b → s.Goes g (.halt g 0 0 0) 4
      ((((s.awake g).haltBeam g).setFlag (F.SYS_ENG_CTRL_HALTED e.val) true).wdogSync g))

/-! ## Power domains (01_architecture.md R40-R45) -/

/-- POWER_IDLE_TIMEOUT (R40, R42-R44): a domain that is ON, with IDLE_DELAY not 0, FORCE_ON 0, no handshake for IDLE_DELAY µs and
nothing of R42 to hold it, goes to IDLE-RETAIN, and nothing else changes; with OFF_EN = 1, where R43 lets it, it goes to OFF: its
registers return to their reset values (those of the beams, of the axes and of the lanes that show an input apart), and an engine's
local memory is empty. Of a domain that something holds ON, or whose delay is 0 or still runs, nothing changes.
The model's own choices here: log entry 30. -/
def Obligations.PowerDomainsComplete : Prop :=
  ∀ (s : State) (d : Fin 44), s.Canon →
    let delay := s.get (F.SYS_PWR_POLICY_IDLE_DELAY d.val)
    let due := s.domainOn d = true ∧ delay ≠ 0 ∧ s.flag (F.SYS_PWR_POLICY_FORCE_ON d.val) = false ∧
      s.past (s.power[d].lastUse + 1000 * delay) = true ∧ s.domainHeld d = false
    let off := s.flag (F.SYS_PWR_POLICY_OFF_EN d.val) = true ∧ neverOff d = false
    (due → ¬off → ∃ t, exec (.powerIdleTimeout d) s = .next t ∧ t.get (F.SYS_PWR_POLICY_STATE d.val) = 1 ∧
      t = { s with regs := t.regs }) ∧
    (due → off → ∃ t, exec (.powerIdleTimeout d) s = .next t ∧ t.get (F.SYS_PWR_POLICY_STATE d.val) = 2 ∧
      (∀ a, s.domainOfReg a = some d → d.val ≠ 31 → 16 ≤ d.val → (d.val < 32 ∨ 40 ≤ d.val) → t.reg a = regDefault a) ∧
      ∀ e, domainOfEng e = some d → t.eng[e].mem = {}) ∧
    (¬due → exec (.powerIdleTimeout d) s = .next s)

/-- DOMAIN_WAKE_DONE (R40, R41): a domain that wakes is ON, with its handshake. What stalled for it goes on: its pipeline, the
engines in order, and then the commands whose requests wait, in the order they came; where nothing stalled and nothing waits, nothing
else changes. Of a domain that does not wake nothing changes.
The model's own choices here: log entries 30 and 35. -/
def Obligations.DomainWakeDoneCompletes : Prop :=
  ∀ (s : State) (d : Fin 44), s.Canon →
    let state := s.get (F.SYS_PWR_POLICY_STATE d.val)
    let on := (s.put (F.SYS_PWR_POLICY_STATE d.val) 0).touch d
    let kicked := if 21 ≤ d.val ∧ d.val < 25 then on.pipeKick (Fin.ofNat 4 (d.val - 21)) else on
    let run := forEach (List.finRange 21) kicked fun s e => s.retryStall e
    on.domainOn d = true ∧
    (state = 3 → exec (.domainWakeDone d) s = .next (forEach run.waiting { run with waiting := [] } fun s i => s.askAgain i)) ∧
    (state = 3 → s.waiting = [] → (∀ (e : Eng) i, s.eng[e].wait ≠ some (.stalled i)) → d.val < 21 ∨ 25 ≤ d.val →
      exec (.domainWakeDone d) s = .next on) ∧
    (state ≠ 3 → exec (.domainWakeDone d) s = .next s)

/-! ## Registers (00_scope.md R7-R9; 04_engine_isa.md R146) -/

/-- REGISTER_WRITE: a register that the view may write takes it; one that it may not is a privilege violation of an engine and
nothing for a session (R7, R8); no register, no effect (R146); a write to a block that sleeps wakes it and waits (R41). A field as the access codes of R7 let a write of a word change it.
The model's own choices here: log entry 45. -/
def Obligations.RegisterWriteComplete : Prop :=
  (∀ (s : State) (who : Reader) (a v : BitVec 32),
    let n := a.toNat
    let u := s.touchReg n
    let at_ (denied : Bool) : Prop := regWindow n = true ∧ s.regReady n = true ∧ regDenied n (s.supView who) = denied
    (at_ false → (regFind n).isSome = true →
      exec (.registerWrite who a v) s = .next (State.settled who (u.regEffect who (s.supView who) n v))) ∧
    (regWindow n = true → s.regReady n = true → regFind n = none → exec (.registerWrite who a v) s = .next (State.settled who u)) ∧
    (∀ e, who = .engine e → at_ true → exec (.registerWrite who a v) s = .next (u.syncExc e 2 0)) ∧
    (∀ k, who = .session k → at_ true → exec (.registerWrite who a v) s = .next u) ∧
    (regWindow n = true → s.regReady n = false → exec (.registerWrite who a v) s = .next ((s.wakeReg n).park (.write who a v))) ∧
    (regWindow n = false → exec (.registerWrite who a v) s = .next s)) ∧
  (∀ (f : FieldD) (sup : Bool) (old v : Word), f.lo ≤ f.hi → f.hi < 32 →
    let n := bitsOf v f.hi f.lo
    let m := bitsOf old f.hi f.lo
    let w := f.write sup old v
    (f.access sup = .rw ∨ f.access sup = .wo → f.clamp = .none → bitsOf w f.hi f.lo = n) ∧
    (f.access sup = .w1c → f.whole = false → bitsOf w f.hi f.lo = m &&& (2 ^ (f.hi + 1 - f.lo) - 1 - n)) ∧
    (f.access sup = .w1c → f.whole = true → bitsOf w f.hi f.lo = if n = 0 then m else 0) ∧
    (f.access sup = .w1s → bitsOf w f.hi f.lo = m ||| n) ∧
    (f.access sup = .ro ∨ f.access sup = .w1p ∨ f.access sup = .na → w = old) ∧
    ∀ hi lo, lo ≤ hi → f.hi < lo ∨ hi < f.lo → bitsOf w hi lo = bitsOf old hi lo)

/-- The rows that are the write of one register, from the supervisor view: the effect each has (R44, R56, R78, R186, R241, R252,
R293, R296, R332, R335, R339, R340), where the register's block is ON.
The model's own choices here: log entries 35 and 45. -/
def Obligations.RegisterRowsComplete : Prop :=
  ∀ (s : State) (who : Reader) (v : BitVec 32) (e : Fin 20) (d : Fin 44) (b : Sys2Proof.Beam) (n : Ring) (r : BedReg) (ofs : BitVec 32),
    s.Canon → s.supView who = true →
    let row (a : Nat) (c : Instr) (f : State → State) : Prop :=
      s.regReady a = true → exec c s = .next (State.settled who (f (s.touchReg a)))
    row (R.SYS_ENG_WDOG e.val) (.sysEngWdogWrite who e v) (fun t => t.engWdogWrite e true v) ∧
    row (R.SYS_PWR_POLICY d.val) (.sysPwrPolicyWrite who d v) (fun t => t.policyWrite d true v) ∧
    row (bedRegAddr r) (.bedmapConfigWrite who r v) (fun t => t.writeBed true (bedRegAddr r) v) ∧
    row (R.HOST_RING_TAIL n.val) (.ringTailWrite who n v) (fun t => t.ringTailWrite n.val true v) ∧
    row (R.BEAM_CORR_BASE b.val) (.beamCorrBaseWrite who b v) (fun t => t.corrBaseWrite b true v) ∧
    row R.ARB_RETIRED (.retireWrite who v) (fun t => t.retireWrite v) ∧
    row R.ARB_RETIRE_CLR (.retireClear who v) (fun t => t.retireClear v) ∧
    row R.LOOP_CAP_CFG (.captureArm who v) (fun t => t.capCfgWrite (v ||| 0x80#32)) ∧
    row R.LOOP_CAP_CFG (.captureStop who) (fun t => t.capCfgWrite (s.reg R.LOOP_CAP_CFG ||| 0x100#32)) ∧
    row R.LOOP_INJ_CFG (.loopInjCfgWrite who v) (fun t => t.injWrite R.LOOP_INJ_CFG v) ∧
    (let a := R.LOOP_CTRL + ofs.toNat % 0x10000
     a % 4 = 0 → (regFind a).isSome = true → regDenied a true = false →
       row a (.loopConfigWrite who ofs v) (fun t => t.writeLoop true a v)) ∧
    (let p : Fin 44 := ⟨b.val, by omega⟩
     s.domainOn p = true → exec (.laserResume who b) s = .next ((s.touch p).laserResume b) ∧
       (s.permitSettled ⟨b.val / 4, by omega⟩ = true → (s.touch p).laserResume b = (s.touch p).permitResume b)) ∧
    (s.domainOn 20 = true → exec (.loopResume who b) s = .next ((s.touch 20).loopGo b))

/-! ## Trajectory, heads and lasers (06_trajectory_heads.md) -/

/-- Set-point frames, position payloads, LPWR words and starvation (R236, R243-R245, R250, R254, R255, R258): a frame's payload is the
16 octets of R243, and departs HEAD_LAT before its SP_TIME; a position payload is the 20 octets of R245.
The model's own choices here: log entries 16 and 50. -/
def Obligations.HeadsComplete : Prop :=
  ∀ (s : State) (b : Sys2Proof.Beam) (l : List Octet),
    let n := b.val
    let j := s.beam[b].traj
    let sp := s.nextFrame b
    let lat := s.get (F.BEAM_HEAD_CFG_HEAD_LAT n)
    let stop := s.frameStop b sp
    let fresh := decide (sp % (500 * 2 ^ s.get (F.BEAM_HEAD_CFG_SP_DIV_EFF n)) = 0)
    let r := s.setpointAt b (8 * (sp : Int))
    let q := if fresh then r.1 else j.lastUvw
    let v := if fresh then r.2.2 else s
    let u := if fresh && r.2.1 then v.count (F.BEAM_TRAJ_STAT_CLIP n) else v
    let gate := !stop && u.gateSoon b (8 * (sp : Int))
    let power := if stop = true ∨ u.get (F.BEAM_HEAD_CFG_POWER_PATH n) = 1 then 0
      else u.powerAt b (8 * ((sp + u.get (F.BEAM_POWER_LEAD_LEAD n) : Nat) : Int))
    let bit (v : Bool) (k : Nat) : Nat := if v then k else 0
    let o := 250 * (n % 4)
    let slot := (s.now - o) / 1000 * 1000 + o
    let word : BitVec 16 := if s.frameStop b (slot + 136) then 0
      else BitVec.ofNat 16 (s.powerAt b (8 * ((slot + 136 + s.get (F.BEAM_POWER_LEAD_LEAD n) : Nat) : Int)))
    let payload := octets (wrap 24 q.1) 3 ++ octets (wrap 24 q.2.1) 3 ++ octets (wrap 24 q.2.2) 3 ++ octets power 2 ++
      octets (bit fresh 1 + bit gate 2 + bit stop 4) 1 ++ octets sp 4
    (∀ m, s.headUp b = true → u.headLane b = some m → sp ≤ s.now + 540 + lat → s.now + 40 + lat ≤ sp →
      ∃ t, exec (.setpointFrame b) s = .next t ∧
        t = { u.transmitAt m (1000 * (sp - lat)) 26 (.setpoint b 0x10 payload) with beam := t.beam } ∧
        t.beam[b].traj.lastFrame = some sp ∧ t.beam[b].traj.lastUvw = q) ∧
    (∀ p, posPayloadOf l = some p → p.status.getLsbD 1 = false ∨ s.flag (F.BEAM_FE_CFG_FE_EN n) = false →
      ∃ t, exec (.positionPayload b l) s = .next t ∧ t.beam[b].traj.payload = some p ∧ t.beam[b].traj.payloadAt = some s.now ∧
        t.eng = s.eng ∧ t.cells = s.cells) ∧
    (l.length ≠ 20 → exec (.positionPayload b l) s = .next s) ∧
    (s.headUp b = true → j.headSilent = false → s.beam[b].swaths = [] →
      (∀ m, s.headLane b = some m →
        s.past (max (max (j.validAt.getD 0) (j.missAt.getD 0)) s.lanes[m].since + 8000) = true) →
      exec (.positionTimeout b) s = .next ((s.modTraj b fun j => { j with headSilent := true }).headEvent b 4 0 0)) ∧
    (s.xkOwns b = false → o ≤ s.now → s.get (F.BEAM_HEAD_CFG_POWER_PATH n) = 1 ∨ s.get (F.BEAM_HEAD_CFG_POWER_PATH n) = 2 →
      j.lastLpwr ≠ some slot →
      ∃ t, exec (.lpwrSlot b) s = .next t ∧
        t = { s with beam := t.beam, out := t.out } ∧ t.out = s.out ++ [.lpwr b word] ∧ t.beam[b].traj.lastLpwr = some slot ∧
        t.beam[b].traj.lastWord = word) ∧
    (s.starved b = true → s.xkOwns b = false →
      exec (.sequenceStarve b) s = .next ((s.count (F.BEAM_TRAJ_STAT_STARVE n)).endSequence b))

/-- Laser alarms and emission permits (R251, R252, R631).
The model's own choices here: log entry 10. -/
def Obligations.LasersComplete : Prop :=
  ∀ (s : State) (b : Sys2Proof.Beam) (g : Fin 4), s.Canon →
    let n := b.val
    let late (t : Nat) := s.reachedEt (t + 8 * (s.get (F.BEAM_LASER_CFG_ALARM_FILTER n) : Nat)) = true
    (∀ a, s.beam[b].traj.alarmAct = some a → late a → s.xkOwns b = false → s.flag (F.BEAM_LASER_CFG_ALARM_LEVEL n) = false →
      s.flag (F.BEAM_LASER_CFG_ALARM_LATCH n) = false →
      let u := (((s.setFlag (F.BEAM_LASER_CFG_ALARM_LEVEL n) true).setFlag (F.BEAM_LASER_CFG_ALARM_LATCH n) true).put
        (F.BEAM_ALARM_TIME_LO_ET n) a).put (F.BEAM_ALARM_TIME_HI_ET n) (a / 2 ^ 32)
      exec (.laserAlarm b) s = .next (((u.gateFall b u.nowEt).beamFault b 3 0).retire b 1) ∧
        u.flag (F.BEAM_LASER_CFG_ALARM_LEVEL n) = true ∧ u.flag (F.BEAM_LASER_CFG_ALARM_LATCH n) = true) ∧
    (∀ a, s.beam[b].traj.alarmAct = some a → late a → s.xkOwns b = false → s.flag (F.BEAM_LASER_CFG_ALARM_LEVEL n) = false →
      s.flag (F.BEAM_LASER_CFG_ALARM_LATCH n) = true →
      exec (.laserAlarm b) s = .next ((s.setFlag (F.BEAM_LASER_CFG_ALARM_LEVEL n) true).retire b 1)) ∧
    (∀ a, s.beam[b].traj.alarmAct = some a → late a → s.xkOwns b = true → s.flag (F.LS_CTRL_ALARM_LEVEL n) = false →
      exec (.laserAlarm b) s = .next
        (((s.setFlag (F.LS_CTRL_ALARM_LEVEL n) true).setFlag (F.LS_CTRL_ALARM_LATCH n) true).chHalt (beamChan b) 4)) ∧
    (let u : State := { s with pins := { s.pins with permit := s.pins.permit.set g none } }
     let rose := s.pers ≠ 0 ∧ g = 0 ∧ s.pins.permit[g] ≠ none
     exec (.permitWithdrawn g) s = .next (forEach (groupBeams g) (if rose then (u.xkInt 22).raise 48 1 else u) fun s b =>
       let v := (s.setFlag (F.BEAM_LASER_CFG_PERMIT b.val) false).setFlag (F.BEAM_LASER_CFG_PERMIT_WAIT b.val) true
       if v.xkOwns b then v else (v.gateFall b v.nowEt).suspendBeam b)) ∧
    (s.pins.permit[g] = none → ∃ t, exec (.permitGiven g) s = .next t ∧
        t = { s with regs := t.regs, pins := t.pins } ∧ t.pins.permit[g] = some s.now ∧
      ∀ c, c ∈ groupBeams g → t.flag (F.BEAM_LASER_CFG_PERMIT c.val) = true ∧ t.flag (F.BEAM_LASER_CFG_PERMIT_WAIT c.val) = true) ∧
    (s.permitSettled g = true → ∃ t, exec (.permitRestored g) s = .next t ∧
      ∀ c, c ∈ groupBeams g → s.flag (F.BEAM_LASER_CFG_AUTO_RESUME c.val) = true → t.flag (F.BEAM_LASER_CFG_PERMIT_WAIT c.val) = false)

/-! ## The field arbiter (07_field_arbiter.md) -/

/-- The decision on a request of a local beam (R271): the first five checks in their order, and a grant or the code of a set.
The model's own choices here: log entry 49. -/
def Obligations.LeaseDecision : Prop :=
  ∀ (s : State) (b : Sys2Proof.Beam) (box : Box) (cls : Nat),
    let p := s.plotsOf box
    let d := s.decideLocal b box cls
    let active := s.lyState = 3
    let sound := box.empty = false ∧ s.boxOnMap box = true
    (¬active → d = .deny 1 0xFFFFFFFF 0) ∧
    (active → s.layerTime = 0xFFFFFFFF → d = .deny 2 0xFFFFFFFF 0) ∧
    (active → s.layerTime ≠ 0xFFFFFFFF → ¬sound → d = .deny 3 0xFFFFFFFF 0) ∧
    (active → s.layerTime ≠ 0xFFFFFFFF → sound → 4096 < p.size → d = .deny 4 0xFFFFFFFF 0) ∧
    (active → s.layerTime ≠ 0xFFFFFFFF → sound → p.size ≤ 4096 →
      d = s.decideSets (some b) s.arb.beams[b].agedAt cls p (s.dilate p s.sepR)) ∧
    (d = .grant → active ∧ sound ∧ p.size ≤ 4096 ∧
      ∀ i, i ∈ s.idxs ⟨max 0 p.x0, max 0 p.y0, min (s.nx - 1) p.x1, min (s.ny - 1) p.y1⟩ → (s.plot i).excluded = false ∧
        s.eAt (s.plot i) s.layerTime < s.limit cls)

/-- The arbiter's happenings: a window closes, a lease expires or is released, a reservation lapses, replay stalls, a pending move
goes, a beam in dispatch claims (R190, R207, R275-R286, R294).
The model's own choices here: log entries 17, 18 and 49. -/
def Obligations.ArbiterComplete : Prop :=
  ∀ (s : State) (b : Sys2Proof.Beam),
    let a := s.arb.beams[b]
    (∀ w, s.arb.window = some w → s.reached w = true → s.domainOn domArb = true → exec .arbWindowClose s =
      .next (forEach (sortKey s.windowKey s.arb.joined) { s.touch domArb with arb := { s.arb with window := none, joined := [] } }
        fun s j => match j with
          | .loc b => s.decideBeam b
          | .rem n m t => s.decideRemote n m t)) ∧
    (s.leaseDue b = true →
      let u := (s.stopBeam b).modArb b fun a => { a with old := a.old.map fun l => { l with peers := [], lapsed := true } }
      let ended := s.expiryCutsEnded b
      let v := if ended then u.outcomes b .restart u.eng[engOf b].active true else u
      exec (.leaseExpiry b) s = .next ((v.modBeam b fun x => { x with expired := x.present.isSome, settled := ended }).raise 219 b.val) ∧
        u.beam[b].lease = none ∧ u.arb.beams[b].cur = none) ∧
    (∀ r w, a.reserve = some (r, some w) → s.reached w = true →
      ∃ t, exec (.reservationLapse b) s = .next t ∧ t.arb.beams[b].reserve = none ∧ t = { s with arb := t.arb }) ∧
    (s.arbMode = 2 → s.past (s.arb.lastClaim + 1000000) = true → s.queuedLeft = true → s.beamsFree = true →
      exec .replayStall s = .next (State.raise { s with arb := { s.arb with lastClaim := s.now } } 220 0)) ∧
    (∀ l, a.old.find? (fun l => match l.effectAt with
        | some t => s.reachedEt t
        | none => false) = some l →
      let rest := a.old.erase l
      exec (.leaseReleaseEffect b) s = .next (forEach l.peers
        ((s.modArb b fun a => { a with old := rest }).freePlots l.p ((rest ++ a.cur.toList).map (·.p)) b.val)
          fun s p => s.sendPeer p.1 0x24 b.val l.reqId 0 []).unblock) ∧
    (∀ x, s.arb.movePend.find? s.moveDue = some x → ∃ t, exec .moveComplete s = .next t ∧ t.arb.movePend = s.arb.movePend.erase x) ∧
    (s.arb.movePend.find? s.moveDue = none → exec .moveComplete s = .next s) ∧
    (∀ w, s.beam[b].present = some w → w.state = .pend → s.mayRestart b = true → exec (.dispatchClaim b) s = .next (s.takeRestart b w)) ∧
    (s.beam[b].present = none → s.mayClaim b = true → (s.searches b = true → s.searchAfter b = false ∧ s.domainOn domArb = true) →
      let u := if s.searches b then (s.touch domArb).trialFix b else s
      (∀ n i gl, u.choice b = some ((n, i), gl) → ∀ h : n < 52, exec (.dispatchClaim b) s = .next
        ((if gl then u.modArb b fun a => { a with lastGlean := some u.now } else u).claim b ⟨n, h⟩ i)) ∧
      (u.choice b = none → exec (.dispatchClaim b) s = .next
        (if s.searches b then u.modArb b fun a => { a with searchOwed := false } else u)))

/-- Messages between arbiters (R287-R292), where the arbiter's domain is ON; where it sleeps, they wake it and wait (R41).
The model's own choices here: log entries 11, 35 and 49. -/
def Obligations.PeersComplete : Prop :=
  ∀ (s : State) (b : Sys2Proof.Beam) (p : Peer) (node : Node) (id reason : BitVec 32) (m : PeerReq) (x y d te ox oy pitch : BitVec 32),
    let ix := s.plotX x.toInt
    let iy := s.plotY y.toInt
    let i := s.plotIdx ix iy
    let q := s.plot i
    let found (r : Remote) := s.arb.remotes.find? (fun r => decide (r.node = node ∧ r.reqId = id)) = some r
    let on := s.domainOn domArb = true
    let u := s.touch domArb
    let waits (c : Instr) (i : Asked) : Prop := s.domainOn domArb = false → exec c s = .next ((s.wakeDomain domArb).park i)
    (on → ∃ t, exec (.peerReqReceive node m) s = .next t ∧ t.arb.joined = s.arb.joined ++ [.rem node m s.now] ∧
      t.arb.window = some (s.arb.window.getD (s.now + s.get F.ARB_WINDOW_WINDOW))) ∧
    (∀ c t, on → s.tentOf id = some (c, t) → s.peerOf node = some p → p ∈ t.asked → p ∉ t.granted →
      let t' := { t with granted := t.granted ++ [p] }
      ((∀ k, k ∈ t.asked → k ∈ t'.granted) → s.layerTime ≠ 0xFFFFFFFF → exec (.peerGrantReceive node true id 0) s =
        .next ((u.modArb c fun a => { a with tent := none }).grantLease c t.req t.p t.d t.reqId t'.granted)) ∧
      ((∀ k, k ∈ t.asked → k ∈ t'.granted) → s.layerTime = 0xFFFFFFFF → exec (.peerGrantReceive node true id 0) s =
        .next (u.failPeers c t' 2 0xFFFFFFFF)) ∧
      ((¬∀ k, k ∈ t.asked → k ∈ t'.granted) →
        exec (.peerGrantReceive node true id 0) s = .next (u.modArb c fun a => { a with tent := some t' })) ∧
      exec (.peerGrantReceive node false id (reason.setWidth 8)) s =
        .next (u.failPeers c { t with asked := t.asked.filter (· ≠ p) } 11 s.peerRetry)) ∧
    (∀ x, on → s.tentOf id = none → s.peerOf node = some p → s.arb.dropped.find? (fun x => decide (x.1 = id ∧ x.2.2 = p)) = some x →
      let v : State := { u with arb := { u.arb with dropped := u.arb.dropped.erase x } }
      exec (.peerGrantReceive node true id 0) s = .next (v.sendPeer p 0x23 x.2.1.val id 0 [])) ∧
    (∀ t, s.arb.beams[b].tent = some t → s.past (t.sent + 100000) = true →
      exec (.peerTimeout b) s = .next (s.failPeers b t 12 s.peerRetry)) ∧
    (∀ r, found r →
      (on → ∃ t, exec (.peerCancelReceive node id) s = .next t ∧ t.arb.remotes = s.arb.remotes.erase r) ∧
      (on → ∃ t, exec (.peerReleaseReceive node id) s = .next t ∧ t.arb.remotes = s.arb.remotes.erase r) ∧
      (s.reached r.deadline = true → ∃ t, exec (.remoteEntryExpiry node id) s = .next t ∧ t.arb.remotes = s.arb.remotes.erase r) ∧
      (on → exec (.peerRenewReceive node id) s = .next (State.answer { u with arb := { s.arb with
        remotes := s.arb.remotes.map fun (x : Remote) => if x.node = node ∧ x.reqId = id then
          { x with deadline := s.now + 1000 * s.get F.ARB_LEASE_TTL_TTL + 1000000 } else x } } node 0x26 r.beam id 0))) ∧
    (exec (.peerRenewSend b p) s = .next
      ((forEach ((s.arb.beams[b].cur.toList ++ s.arb.beams[b].old).filter fun l => l.peers.any fun q => decide (q.1 = p)) s
        fun s l => s.sendPeer p 0x25 b.val l.reqId 0 []).modArb b fun a => a.modLeases fun l =>
          { l with peers := l.peers.map fun q => if q.1 = p then (q.1, q.2.1, q.2.2 ++ [s.now]) else q })) ∧
    (on → s.peerOf node = some p → ∃ t, exec (.peerRenewAckReceive node id) s = .next t ∧ t = { u with arb := t.arb } ∧
      ∀ c : Sys2Proof.Beam, t.arb.beams[c] = (s.arb.beams[c]).modLeases fun l => if l.reqId = id then
        { l with peers := l.peers.map fun q => if q.1 = p then ackOldest q else q } else l) ∧
    (on → s.onMap ix iy = true → exec (.peerEnergyReceive node x y d te) s = .next ((u.bedFix (· == i)).setPlot i { q with
      e := BitVec.ofNat 16 (min (decayed s.halfLife q.e.toNat q.tLast.toNat te.toNat + d.toNat) 65535)
      tLast := te, dirty := true })) ∧
    (on → s.peerOf node = some p → pitch.toNat ≠ s.get F.BEDMAP_PITCH_PITCH →
      exec (.peerGeomReceive node ox oy pitch) s = .next ((u.setFlag (F.ARB_PEER_CFG_GEOM_ERR p.val) true).raise 223 p.val)) ∧
    (on → s.peerOf node = some p → pitch.toNat = s.get F.BEDMAP_PITCH_PITCH → (ox.toInt - s.bedX0).fmod s.pitchNm = 0 →
      (oy.toInt - s.bedY0).fmod s.pitchNm = 0 → exec (.peerGeomReceive node ox oy pitch) s = .next u) ∧
    waits (.peerReqReceive node m) (.peerReq node m) ∧ waits (.peerCancelReceive node id) (.peerCancel node id) ∧
    waits (.peerReleaseReceive node id) (.peerRelease node id) ∧ waits (.peerRenewReceive node id) (.peerRenew node id) ∧
    waits (.peerRenewAckReceive node id) (.peerAck node id) ∧ waits (.peerEnergyReceive node x y d te) (.peerEnergy node x y d te) ∧
    waits (.peerGeomReceive node ox oy pitch) (.peerGeom node ox oy pitch) ∧
    (∀ g k, waits (.peerGrantReceive node g id k) (.peerGrant node g id k)) ∧
    (∀ t, s.arb.peerNoRoute[p] = some t → s.flag (F.ARB_PEER_CFG_PEER_EN p.val) = true → s.past (t + 1000000) = true →
      s.get (F.ARB_PEER_CFG_STATE p.val) ≠ 2 → exec (.peerLost p) s = .next ((s.put (F.ARB_PEER_CFG_STATE p.val) 2).raise 222 p.val))

/-! ## Layer, bed map and rings (02_bed_and_swaths.md) -/

/-- The layer's commands where they are accepted, and its own transitions, with the state of R86 that each leaves and the RESULT of
R92. -/
def Obligations.LayerComplete : Prop :=
  ∀ (s : State) (id arg : BitVec 22), s.Canon →
    let st := s.lyState
    let res (t : State) (r : Nat) : Prop := t.get F.HOST_LAYER_CMD_RESULT = r
    let tb := BitVec.ofNat 32 (s.get F.HOST_LAYER_BEGIN_LO_T_B_LO)
    let n := arg.toNat / 65536
    let slot := arg.toNat % 65536
    (st = 0 → s.longRuns = false → s.holds.supDead = false → s.role < 2 → s.scheduleCheck = 0 →
      ∃ t, exec .schedule s = .next t ∧ t.lyState = 1 ∧ res t 0 ∧ t.flag F.BEDMAP_GEOM_BUSY = true ∧ t.bed.foldOwed = true ∧
        t.get F.ARB_STAT_REC_COUNT = 0) ∧
    (st = 0 → s.longRuns = false → s.holds.supDead = false → s.role < 2 → s.scheduleCheck ≠ 0 →
      exec .schedule s = .next (s.put F.HOST_LAYER_CMD_RESULT s.scheduleCheck)) ∧
    (st ≠ 0 → exec .schedule s = .next (s.put F.HOST_LAYER_CMD_RESULT 1)) ∧
    (st = 1 → s.bed.foldOwed = true → s.bed.clearOwed = false → s.layer.abortOwed = false →
      ∃ t, exec .armingDone s = .next t ∧ t.lyState = 2 ∧ t.flag F.BEDMAP_GEOM_BUSY = false ∧ t.bed.foldOwed = false) ∧
    (st = 6 → s.bed.foldOwed = true → s.bed.clearOwed = false → s.layer.abortOwed = true →
      let u := State.setFlag { s.clearLayerMap.foldBed with bed := { s.clearLayerMap.foldBed.bed with foldOwed := false } } F.BEDMAP_GEOM_BUSY false
      exec .armingDone s = .next (State.abortNow { u with layer := { u.layer with abortOwed := false } })) ∧
    (s.bed.clearOwed = true → exec .armingDone s = .next s) ∧
    (st = 2 → s.reached s.tB = true → ∃ t, exec .layerBegin s = .next t ∧ t.lyState = 3 ∧ t.bed.prevTb = some s.tB ∧
      t.fired = s.fired ++ [⟨232, tb, s.now⟩]) ∧
    (st = 3 → s.layer.saturated = false → s.flag F.HOST_LAYER_STATE_CLOSED = true → s.ringsEmpty = true → s.laserQuiet = true → s.beamsFree = true → s.role = 0 →
      ∃ t, exec .layerLocalEnd s = .next t ∧ t.lyState = 5 ∧ t.fired = s.fired ++ [⟨233, tb, s.now⟩, ⟨234, tb, s.now⟩]) ∧
    (1 ≤ st → st ≤ 3 → ∃ t, exec .close s = .next t ∧
        t = { s with regs := t.regs } ∧ t.flag F.HOST_LAYER_STATE_CLOSED = true ∧ t.lyState = st ∧ res t 0) ∧
    (2 ≤ st → st ≤ 4 → ∃ t, exec .abort s = .next t ∧ t.lyState = 6 ∧ res t 0) ∧
    (st = 1 → ∃ t, exec .abort s = .next t ∧ t.layer.abortOwed = true ∧ t.lyState = 6 ∧ t.bed = s.bed ∧ res t 0) ∧
    (st = 6 → s.layer.abortOwed = false → s.bed.foldOwed = false → (∀ b, s.stopDone b = true) → ∃ t, exec .abortComplete s = .next t ∧ t.lyState = 0 ∧
      t.flag F.HOST_LAYER_STATE_CLOSED = false ∧ t.fired = s.fired ++ [⟨235, tb, s.now⟩]) ∧
    (st = 5 → ∃ t, exec .recoatDone s = .next t ∧ t.lyState = 0 ∧ t.flag F.HOST_LAYER_STATE_CLOSED = false ∧ res t 0) ∧
    (st = 2 ∨ st = 3 → s.doneBit id.toNat = false → ∃ t, exec (.waive id) s = .next t ∧ t.doneBit id.toNat = true ∧ res t 0) ∧
    (st = 2 ∨ st = 3 → s.doneBit id.toNat = true → ∃ t, exec (.waive id) s = .next t ∧ t.silo = s.silo ∧ res t 5) ∧
    (st ≤ 3 → 32 ≤ n → n < 52 → slot ∈ s.heldSlots n → s.dStatus (s.slotAddr n slot) = 0 →
      exec (.cancel arg) s = .next (((s.finish n slot 8).searchAgain).put F.HOST_LAYER_CMD_RESULT 0)) ∧
    (st ≤ 3 → 32 ≤ n → n < 52 → slot ∉ s.heldSlots n ∨ s.dStatus (s.slotAddr n slot) ≠ 0 →
      exec (.cancel arg) s = .next (s.put F.HOST_LAYER_CMD_RESULT 5)) ∧
    (st ≠ 5 → exec .recoatDone s = .next (s.put F.HOST_LAYER_CMD_RESULT 1)) ∧
    (st = 0 ∨ 4 ≤ st → exec .close s = .next (s.put F.HOST_LAYER_CMD_RESULT 1)) ∧
    (st ≠ 2 → st ≠ 3 → exec (.waive id) s = .next (s.put F.HOST_LAYER_CMD_RESULT 1)) ∧
    (st = 0 ∨ 5 ≤ st → exec .abort s = .next (s.put F.HOST_LAYER_CMD_RESULT 1)) ∧
    (4 ≤ st → exec (.cancel arg) s = .next (s.put F.HOST_LAYER_CMD_RESULT 1))

/-- The bed map and the end of a swath (R56, R58, R61, R65, R74, R208, R311). A bed-map entry's energy (R60-R62): an exposure adds
to what is left at its time, saturating; energy at a later time is no more than before, and none is left after sixteen half-lives.
The model's own choices here: log entry 7. -/
def Obligations.BedAndSwathsComplete : Prop :=
  (∀ (s : State) (b : Sys2Proof.Beam), s.Canon →
    let q := s.pathPlot s.beam[b].traj s.nowEt
    let i := s.plotIdx q.1 q.2
    (s.bed.clearOwed = true → ∃ t, exec .bedmapClearDone s = .next t ∧
        t = { s with regs := t.regs, bed := t.bed } ∧ (∀ k, t.plot k = Plot.reset) ∧ t.bed.one = [] ∧ t.bed.bad = [] ∧
      t.bed.clearOwed = false ∧ t.flag F.BEDMAP_GEOM_BUSY = s.bed.foldOwed) ∧
    (s.domainOn domArb = true → exec (.exposureUpdate b) s = .next (((s.touch domArb).exposeParts b 4096).prunePath b)) ∧
    (s.layerRuns = true → s.layer.saturated = false → s.layerTime = 0xFFFFFFFF → exec .layerTimeSaturate s =
      .next (State.raise { s with layer := { s.layer with saturated := true } } 218 0)) ∧
    (s.beam[b].swaths ≠ [] → s.domainOn domArb = true → ∃ t, exec (.bedERead b) s = .next t ∧ t.loops[b].bedAt = some s.now ∧
      t.loops[b].bedE = if s.onMap q.1 q.2 then some (i, s.eAt (s.plot i) s.layerTime) else none) ∧
    (∀ w rest x, s.beam[b].swaths = w :: rest → w.doneAt = some x → s.reachedEt x = true →
      let u := ((s.setDone w.hdr.id.toNat).searchAgain).finish w.ring.val w.slot 2
      exec (.swathDone b) s = .next ((u.swathDone b (u.slotAddr w.ring.val w.slot)).modBeam b fun y =>
        { y with swaths := y.swaths.filter fun v => v.hdr.id != w.hdr.id }))) ∧
  (∀ (s : State) (i d te half e t0 t : Nat),
    let p := s.plot i
    (s.expose i d te = (s.bedFix (· == i)).setPlot i { p with
      e := BitVec.ofNat 16 (min (decayed s.halfLife p.e.toNat p.tLast.toNat te + d) 65535), tLast := BitVec.ofNat 32 te, dirty := true }) ∧
    (half = 0 ∨ t ≤ t0 → decayed half e t0 t = e) ∧
    (0 < half → t0 + 16 * half ≤ t → decayed half e t0 t = 0) ∧
    decayed half e t0 t ≤ e)

/-! ## Timed-edge cells and stalls (01_architecture.md, 03_time.md) -/

/-- An edge on its way enters its cell's queue, the head of a queue is released at its instant, an input captures, a producer goes
on (R19, R20, R22, R109, R111, R114).
The model's own choices here: log entries 7 and 14. -/
def Obligations.CellsComplete : Prop :=
  ∀ (s : State) (c : Cell) (p : Producer) (n : Fin 16) (level : Bool) (frac : Fin 8),
    (∀ x, s.time.running = true → s.cellOut c = true → s.transit.find? (fun x => decide (x.1 = c)) = some x → x.2.exempt = false →
      320 ≤ s.etAhead x.2.et →
      (∀ y, s.cells[c].q.getLast? = some y → y.et ≤ x.2.et) →
      exec (.cellQueueEntry c) s = .next (State.axNote s (s.nextEntry c) c) ∧ (s.nextEntry c).cells[c].q = s.cells[c].q ++ [x.2] ∧
        (s.nextEntry c).transit = s.transit.eraseP fun y => decide (y.1 = c)) ∧
    (∀ x rest, s.cellOut c = true → s.time.running = true → s.cells[c].q = x :: rest →
      let t := match s.cells[c].last with
        | some l => max x.et (l + 16)
        | none => x.et
      s.reachedEt t = true →
      let u := s.modCell c fun y => { y with q := rest }
      exec (.edgeRelease c) s = .next (State.axNote s ((if x.et < t then u.count F.TIME_LATE_SPACED else u).applyEdge c x t) c)) ∧
    (s.cellOut (generalCell n) = false →
      (if level then (s.get (F.TIME_GCELL_CFG_EDGE n.val)).testBit 0 else (s.get (F.TIME_GCELL_CFG_EDGE n.val)).testBit 1) = true →
      s.cells[generalCell n].q.length < 16 →
      ∃ t, exec (.inputEdgeCapture (generalCell n) level frac) s = .next t ∧
        t = { s with cells := t.cells } ∧ t.cells[generalCell n].level = level ∧
        t.cells[generalCell n].q = s.cells[generalCell n].q ++ [⟨8 * (s.now : Int) + frac.val, .level level, none, false⟩]) ∧
    exec (.producerStallRelease p) s = .next (s.producerGo p) ∧ exec (.queueRoomResume p) s = .next (s.producerGo p) ∧
    (∀ b, s.producerGo (.beam b) = (s.pump b).retryStall (engOf b)) ∧ (∀ e, s.producerGo (.engine e) = s.retryStall e) ∧
    (∀ e i, s.eng[e].wait = some (.stalled i) → s.engLive e = true → s.engHeld e = false →
      s.retryStall e = (s.modEng e fun x => { x with wait := none }).runAgain i)

/-! ## The time base and its reads (03_time.md) -/

/-- The time base, its extension and its lock (R94, R95, R99-R102, R116, R117, R133, R136, R137).
The model's own choices here: log entries 1 and 33. -/
def Obligations.TimeBaseComplete : Prop :=
  ∀ (s : State) (v : BitVec 32) (who : Reader) (d : Dom) (n : Fin 16), s.Canon →
    let o := s.time.dom[s.activeDom].left.fdiv (2 ^ 32)
    let T := wrap 64 ((s.now : Int) + o)
    let tick := s.time.ts32.toNat + (2 ^ 32 + s.int F.TIME_ADDEND_FREQ + s.slewNow + s.time.frac.toNat).toNat / 2 ^ 32
    let c := generalCell n
    let w := s.plainWrite (R.TIME_GCELL_CFG n.val) (s.supView who) v
    (s.time.running = true → 2 ^ 32 ≤ tick → ∃ t, exec .ts32Wrap s = .next t ∧
        t = { s with regs := t.regs, time := t.time } ∧ t.time.ts32 = BitVec.ofNat 32 tick ∧ t.flag F.TIME_STATUS_PEND_WRAP = true ∧
        t.nowHi = s.time.ext + 1) ∧
    (s.engLive 20 = true → ∃ t, exec (.extWrite v) s = .next t ∧
        t = { s with regs := t.regs, time := t.time } ∧ t.nowHi = v ∧ t.time.ts32 = s.time.ts32 ∧
      t.flag F.TIME_STATUS_EXT_VALID = (!s.time.supDown && !s.time.winnowFull && !s.time.stepping)) ∧
    (s.flag F.TIME_STATUS_PEND_WRAP = true → s.time.ts32.getLsbD 31 = true → s.time.wrapLost = false →
      ∃ t, exec .extLost s = .next t ∧ t.flag F.TIME_STATUS_EXT_VALID = false ∧ t.flag F.TIME_STATUS_EXT_LOST = true ∧
        t.fired.map (·.src) = s.fired.map (·.src) ++ [117]) ∧
    (s.time.running = false → ∃ t, exec .pllLock s = .next t ∧
        t = { s with regs := t.regs, time := t.time } ∧ t.time.running = true ∧ t.flag F.TIME_STATUS_LOCKED = true ∧
      t.now = 0 ∧ t.time.lockedSince = some 0) ∧
    (s.flag F.TIME_STATUS_LOCKED = true →
      let u := ((s.setFlag F.TIME_STATUS_LOCKED false).setFlag F.TIME_STATUS_LOCK_LOST true).raise 116 0
      exec .refclkLoss s = .next (u.modTime fun t => { t with lockedSince := none, resumeOwed := true }).suspendAll ∧
        u.flag F.TIME_STATUS_LOCKED = false ∧ u.flag F.TIME_STATUS_LOCK_LOST = true) ∧
    (s.time.running = true → s.flag F.TIME_STATUS_LOCKED = false →
      ∃ t, exec .refclkRelock s = .next t ∧
        t = { s with regs := t.regs, time := t.time } ∧ t.flag F.TIME_STATUS_LOCKED = true ∧ t.time.lockedSince = some s.now) ∧
    (∀ k, s.time.lockedSince = some k → s.flag F.TIME_STATUS_LOCKED = true → s.time.resumeOwed = true → s.past (k + 1000000) = true →
      ∃ t, exec .lockRestored s = .next t ∧ t.time = { s.time with resumeOwed := false }) ∧
    (exec (.timeNowLoRead who) s = .next { s with time := { s.time with tnowHi := s.time.tnowHi.set (readerIdx who) s.nowHi } }) ∧
    (∃ t, exec (.timeDomOfsLoRead who d) s = .next t ∧ t = { s with regs := t.regs } ∧
      t.get (F.TIME_DOM_OFS_HI_OFS_HI d.val) = (s.time.dom[d].offset % 2 ^ 64).toNat / 2 ^ 32) ∧
    (s.cellOut c = false → ∃ t, exec (.timeGcellCapHiRead who n) s = .next t ∧
        t = { s with cells := t.cells } ∧ t.cells[c] = { s.cells[c] with q := s.cells[c].q.drop 1 } ∧
      ∀ k, k ≠ c → t.cells[k] = s.cells[k]) ∧
    (∃ t, exec (.timeGcellCfgWrite who n v) s = .next t ∧
        t = { s with regs := t.regs, cells := t.cells, transit := t.transit } ∧ t.regs = w.regs ∧
      (w.flag (F.TIME_GCELL_CFG_DIR n.val) ≠ s.flag (F.TIME_GCELL_CFG_DIR n.val) → t.cells[c].q = [] ∧
        t.transit = s.transit.filter fun x => decide (x.1 ≠ c)) ∧
      (w.flag (F.TIME_GCELL_CFG_DIR n.val) = s.flag (F.TIME_GCELL_CFG_DIR n.val) → t = w)) ∧
    (s.supView who = true → s.timeFree = false → ∃ t, exec (.timeStepRequest who) s = .next t ∧
        t = { s with regs := t.regs, time := t.time } ∧ t.flag F.TIME_STATUS_STEP_PEND = true ∧
      t.flag F.TIME_STATUS_SLEWING = false ∧ t.time = { s.time with phase := 0 }) ∧
    (s.flag F.TIME_STATUS_STEP_PEND = true → s.timeFree = false → s.idle = true → s.cellsEmpty = true →
      ∃ t, exec .ts64Step s = .next t ∧ t.now = T ∧ t.flag F.TIME_STATUS_STEP_PEND = false ∧ t.flag F.TIME_STATUS_STEPPED = true ∧
        t.flag F.TIME_STATUS_EXT_VALID = false ∧ t.flag F.TIME_STATUS_SLEWING = false ∧ t.time.phase = 0 ∧
        (∀ k : Dom, t.time.dom[k].offset = s.time.dom[k].offset - o) ∧ t.fired.map (·.src) = s.fired.map (·.src) ++ [119])

/-- The comparison of every time with the present one, and the times refused while EXT_VALID is 0 (R103, R104): the difference as a
signed number of 64 bits, or of 32 while EXT_VALID is 0. -/
def Obligations.TimeComparisons : Prop :=
  ∀ (s : State) (t : Int) (u : Nat),
    let valid := s.flag F.TIME_STATUS_EXT_VALID
    (valid = true → (s.reached t = true ↔ 0 ≤ (BitVec.ofInt 64 ((s.now : Int) - t)).toInt)) ∧
    (valid = false → (s.reached t = true ↔ 0 ≤ (BitVec.ofInt 32 ((s.now : Int) - t)).toInt)) ∧
    (s.timeRefused u = true ↔ valid = false ∧ 2147483647 < (BitVec.ofInt 64 ((u : Int) - s.now)).toInt)

/-- PTP (R123-R126, R131): what each accepted message does, what each due message sends, and which domain is active. FarmLink time
(R127-R130): the root's SYNC on every UP port, a SYNC taken and passed on, and the measure of a link's delay.
The model's own choices here: log entries 4 and 25. -/
def Obligations.PtpAndFarmLinkTimeComplete : Prop :=
  (∀ (s : State) (p : EPort) (d : Dom) (m : PtpMsg) (a : PtpAnnounce) (port : BitVec 80) (who : Reader) (v : BitVec 32),
    let x := s.time.dom[d]
    let takes (k : BitVec 7) (version : Nat) (minor : BitVec 4) : Prop :=
      s.portGig p = true ∧ version = 2 ∧ minor.toNat ≤ 1 ∧ s.ptpDom p k = some d
    let old := x.foreign.find? fun f => decide (f.a.source = a.source)
    (takes a.domainNum a.version a.minor → a.source.toNat / 65536 ≠ Config.uid.toNat → a.steps.toNat < 255 →
      (∀ f, old = some f → later 16 a.seqId.toNat f.a.seqId.toNat = true) →
      exec (.ptpAnnounceReceive p a) s = .next (((((s.modDom d fun x => { x with
        foreign := x.foreign.filter (fun f => decide (f.a.source ≠ a.source)) ++ [⟨a, s.now, old.map (·.at_)⟩] }).put
          (F.TIME_DOM_INFO_GM_CLASS d.val) a.gmClass.toNat).bmca d false).degradeCheck d).domChanged d)) ∧
    (takes m.domainNum m.version m.minor → m.twoStep = true → -4 ≤ m.logInterval.toInt → m.logInterval.toInt ≤ 1 → s.fromParent d m = true →
      ∃ t, exec (.ptpSyncReceive p m) s = .next t ∧ t = { s with time := t.time } ∧
        t.time.dom[d] = { x with pendingSync := some m, syncInterval := logInterval m.logInterval, lastSync := some s.now }) ∧
    (∀ y, takes m.domainNum m.version m.minor → x.pendingSync = some y → s.fromParent d m = true → y.seqId = m.seqId →
      exec (.ptpFollowUpReceive p m) s = .next ((s.modDom d fun x => { x with pendingSync := none }).measured d
        ((m.carried * 65536 + m.corr + y.corr + x.pathDelay - s.ptpRx p y.rx).fdiv 65536))) ∧
    (takes m.domainNum m.version m.minor → x.role = .master →
      exec (.ptpDelayReqReceive p m) s = .next (s.ptpSend d (PtpOut.stamped
        { s.ptpMsg d .delayResp m.seqId 0 with reqPort := some m.source, corr := m.corr } (s.ptpRx p m.rx) (-1)))) ∧
    (∀ t3, takes m.domainNum m.version m.minor → x.delaySent = some t3 → s.fromParent d m = true → m.seqId = x.delaySeq →
      port = s.portIdentity d →
      ∃ t, exec (.ptpDelayRespReceive p m port) s = .next t ∧
        t = { s with time := t.time } ∧ t.time.dom[d] = { x with
        delaySent := none, delayInterval := logInterval m.logInterval
        pathDelay := (x.pathDelay + (m.carried * 65536 - m.corr - t3 - x.offset * 65536)).fdiv 2 }) ∧
    (s.portGig p = false → ∃ t, exec (.ptpSyncReceive p m) s = .next t ∧ t = { s with time := { s.time with ptpDropped := s.time.ptpDropped + 1 } }) ∧
    (s.ptpDue d .master x.lastSent 1000000000 = true →
      let u := s.modDom d fun x => { x with syncSeq := x.syncSeq + 1, lastSent := some s.now }
      exec (.ptpSyncSend d) s = .next ((u.ptpSend d (u.ptpMsg d .sync x.syncSeq 0)).ptpSend d
        ((u.ptpMsg d .followUp x.syncSeq 0).stamped (u.ptpTx (u.domPort d)) 1))) ∧
    (s.ptpDue d .master x.lastAnnounceSent 2000000000 = true →
      exec (.ptpAnnounceSend d) s = .next
        ((s.modDom d fun x => { x with announceSeq := x.announceSeq + 1, lastAnnounceSent := some s.now }).ptpSend d
          { s.ptpMsg d .announce x.announceSeq 1 with data := some { s.ownData d with seqId := x.announceSeq } })) ∧
    (s.ptpDue d .slave x.lastDelaySent x.delayInterval = true →
      exec (.ptpDelayReqSend d) s = .next
        ((s.modDom d fun x => { x with
          delaySeq := x.delaySeq + 1, delaySent := some (s.ptpTx (s.domPort d)), lastDelaySent := some s.now }).ptpSend d
            (s.ptpMsg d .delayReq (x.delaySeq + 1) 0x7F))) ∧
    (∀ k : PtpOut, s.host.net[s.domPort d].pausedTo ≤ s.now → s.ptpSend d k = s.send (.ptp (s.domPort d) k)) ∧
    (∀ f, s.get (F.TIME_DOM_CFG_SRC d.val) = 1 → x.master = some f → s.elapsed f.at_ (3 * logInterval f.a.logInterval) = true →
      exec (.announceReceiptTimeout d) s = .next ((((s.modDom d fun x => { x with
        foreign := x.foreign.filter fun f => !s.elapsed f.at_ (3 * logInterval f.a.logInterval) }).bmca d true).degradeCheck d).domChanged d)) ∧
    (s.domValid d = true → s.missing x.lastSync (if s.get (F.TIME_DOM_CFG_SRC d.val) = 2 then 125000 else x.syncInterval) = true → exec (.domainLoss d) s =
      .next ((((s.setFlag (F.TIME_DOM_CFG_VALID d.val) false).setFlag (F.TIME_DOM_CFG_LOST d.val) true).raise 114 d.val).domChanged d)) ∧
    (∀ k, s.flag F.TIME_CTRL_REVERT = true → s.timeFree = false → s.activeDom = 1 → s.domGood 0 = true →
      s.time.dom[(0 : Dom)].goodSince = some k → s.after (some k) 60000000000 = true → exec .domainRevert s = .next (s.switchDom 0)) ∧
    (let w := s.plainWrite (R.TIME_DOM_CFG d.val) (s.supView who) v
     let same := w.get (F.TIME_DOM_CFG_SRC d.val) = s.get (F.TIME_DOM_CFG_SRC d.val) ∧
       w.get (F.TIME_DOM_CFG_PORT d.val) = s.get (F.TIME_DOM_CFG_PORT d.val) ∧
       w.get (F.TIME_DOM_CFG_DOMAIN_NUM d.val) = s.get (F.TIME_DOM_CFG_DOMAIN_NUM d.val)
     let leaves := x.role = .master ∧ w.flag (F.TIME_DOM_CFG_MASTER_CAP d.val) = false
     (same → ¬leaves → exec (.timeDomCfgWrite who d v) s = .next w) ∧
     (same → leaves → exec (.timeDomCfgWrite who d v) s = .next (w.modDom d fun x => { x with role := .listening, since := s.now })) ∧
     (¬same → exec (.timeDomCfgWrite who d v) s = .next
       ((((((w.modDom d fun x => { since := s.now, offset := x.offset, slewed := x.slewed }).put (F.TIME_DOM_INFO_GM_CLASS d.val) 0xFF).put
         (F.TIME_DOM_INFO_HOPS d.val) 0).put (F.TIME_DOM_INFO_RMS_OFS d.val) 0).setFlag (F.TIME_DOM_CFG_DEGRADED d.val) false).loseDomain d)))) ∧
  (∀ (s : State) (k : FPort) (l : List Octet) (m : FlTime) (et : BitVec 64),
    let f := s.time.fl
    let st := s.get F.TIME_STATUS_STATE
    let flags := (if s.flag F.TIME_STATUS_HOLDOVER then 1 else 0) + if st = 1 ∨ st = 2 then 2 else 0
    let gen := BitVec.ofNat 32 s.keyGen
    let arr := s.flRx k et
    let corr := m.corr.toInt + f.delay[k]
    let own (r : State) (seq : BitVec 32) (origin : BitVec 64) (c : Int) : FlTime :=
      ⟨0, r.rootNode, 0, BitVec.ofNat 32 r.keyGen, seq, origin, BitVec.ofNat 64 (wrap 64 c)⟩
    (s.fabOn = true → s.holder = true → s.after f.lastSync 125000 = true →
      exec .flSyncSend s = .next (forEach (List.finRange 8)
        (s.modFl fun f => { f with seq := f.seq + 1, lastSync := some s.now, heard := some (gen, f.seq + 1) }) fun r k =>
          if r.portUp k then
            let e := etOf (r.flTx k)
            r.flTimeSend k 1 { own r (f.seq + 1) e.1 e.2 with flags := BitVec.ofNat 8 flags }
          else r)) ∧
    (flTimeOf 1 l = some m → s.fabOn = true → s.holder = false → s.portUp k = true → s.rootPort = some k →
      (∀ g q, f.heard = some (g, q) → later 32 m.keyGen.toNat g.toNat = true ∨ m.keyGen = g ∧ later 32 m.seq.toNat q.toNat = true) →
      let u := s.modFl fun f => { f with heard := some (m.keyGen, m.seq) }
      exec (.flSyncReceive k ⟨l, et⟩) s = .next (forEach (List.finRange 8)
        (forEach [(0 : Dom), 1] u fun r d => r.syncDomain d m arr corr) fun r j =>
          if r.portUp j = true ∧ j ≠ k then
            r.flTimeSend j 1 { m with hops := m.hops + 1, corr := BitVec.ofNat 64 (wrap 64 (corr + ps16 (r.flTx j - arr))) }
          else r)) ∧
    (∀ d, s.get (F.TIME_DOM_CFG_SRC d.val) ≠ 2 → s.syncDomain d m arr corr = s) ∧
    (s.fabOn = true → s.portUp k = true → s.after f.lastReq[k] 1000000 = true →
      let u := s.modFl fun f => { f with
        reqSeq := f.reqSeq + 1, reqSent := f.reqSent.set k (some (f.reqSeq + 1, s.flTx k)), lastReq := f.lastReq.set k (some s.now) }
      exec (.flDelayReqSend k) s = .next (u.flTimeSend k 2 (own u (f.reqSeq + 1) (etOf (s.flTx k)).1 0))) ∧
    (flTimeOf 2 l = some m → s.fabOn = true → s.portUp k = true → exec (.flDelayReqReceive k ⟨l, et⟩) s =
      .next (s.flTimeSend k 3 (own s m.seq (etOf arr).1 (ps16 (s.flTx k - arr))))) ∧
    (∀ q t1, flTimeOf 3 l = some m → f.reqSent[k] = some (q, t1) → s.portUp k = true → q = m.seq →
      ∃ t, exec (.flDelayRespReceive k ⟨l, et⟩) s = .next t ∧
        t = { s with time := t.time } ∧ t.time.fl.delay[k] = (ps16 (arr - t1) - m.corr.toInt).fdiv 2 ∧
        t.time.fl.reqSent[k] = none) ∧
    (∀ n type, s.portLane k = some n → s.flTimeSend k type m =
      s.transmitAt n (1000 * s.now) 42 (.frame n (LinkFrame.octets ⟨0x50, 0, false, 0, FlTime.octets type m⟩))))

/-! ## Feedback loops (08_feedback_loops.md) and the Thresher (09_image_pipelines.md) -/

/-- A loop's sample that is due, its overrun, and a change of its rate (R305, R308, R334, R335).
The model's own choices here: log entries 35, 43 and 54. -/
def Obligations.LoopSamplesComplete : Prop :=
  ∀ (s : State) (b : Sys2Proof.Beam),
    let n := b.val
    (∀ k p, s.loopDue b = some (k, p) → s.domainOn 20 = true → exec (.loopSample b) s = .next ((s.touch 20).loopSample b k p)) ∧
    (∀ k p, s.loopDue b = some (k, p) → s.domainOn 20 = false → exec (.loopSample b) s = .next (s.wakeDomain 20)) ∧
    (∀ k p, s.loopDue b = some (k, p) → p = periodOf (s.rateEff b) ∧ k % p = 0 ∧ k ≤ s.now ∧
      ∃ w ∈ s.beam[b].swaths, w.state = .run ∨ w.state = .suppress ∨ w.state = .handler ∨ w.state = .stopping) ∧
    (s.mayOverrun = false → exec (.loopOverrun b) s = .next s) ∧
    (∀ r, s.loops[b].next = some r → s.reached r.due = true → s.mayOverrun = true →
      let v := s.modLoop b fun l => { l with next := none }
      let w := match r.record with
        | some x => v.putRecord x.2
        | none => v
      let u := ((w.count (F.LOOP_BEAM_STAT_OVR_COUNT n)).count (F.LOOP_BEAM_STAT_OVR_RUN n)).loopEvent b 1
      (u.get (F.LOOP_BEAM_STAT_OVR_RUN n) ≠ 4 → exec (.loopOverrun b) s = .next u) ∧
      (u.get (F.LOOP_BEAM_STAT_OVR_RUN n) = 4 → exec (.loopOverrun b) s = .next
        (((u.setFlag (F.LOOP_BEAM_STAT_CAPPED n) true).setFlag (F.LOOP_BEAM_STAT_PAUSED n) true).loopEvent b 2))) ∧
    (∀ r t, s.loops[b].rateDue = some (r, t) → s.reached ((t / 8000 + 1) * 8000 : Nat) = true →
      let u := (s.put (F.LOOP_BEAM_CFG_RATE_EFF n) r).modLoop b fun l => { l with rateDue := none }
      exec (.rateEffChange b) s = .next (if u.flag F.LOOP_CAP_STAT_ACTIVE && decide (u.get F.LOOP_CAP_CFG_CAP_BEAM = n) then
        u.setFlag F.LOOP_CAP_STAT_RATE_CHG true else u))

/-- Frames of a camera (R347, R352-R354, R357, R370): where its start, its lines and its end are taken, and where they damage it.
Settings of a camera, units of a pipeline, and the enabling of a stream (R355, R361-R371, R374, R375, R378).
The model's own choices here: log entry 21. -/
def Obligations.ThresherComplete : Prop :=
  (∀ (s : State) (n : Stream) (f : CamFrame) (stamp : BitVec 64) (i : Fin 4) (lo line ofs lines : BitVec 16) (data : List (BitVec 8))
    (no : BitVec 32) (status : BitVec 8),
    let x := s.streams[n].slots[i]
    let lb := lineBytes x.frame
    let inOrder := lo.toNat = x.frame.frameNo.toNat % 65536 ∧ line.toNat = x.line ∧ ofs.toNat = x.ofs ∧ 1 ≤ data.length ∧
      data.length ≤ 256 ∧ x.ofs + data.length ≤ lb ∧ x.line < x.frame.height.toNat
    (s.camUp n = true →
      let u := s.camSetHeard n f.genRx
      (u.flag (F.IMG_CAM_CFG_ENABLE n.val) = true → exec (.frameStart n f stamp) s = .next (u.frameStart n f (u.tSof n stamp))) ∧
      (u.flag (F.IMG_CAM_CFG_ENABLE n.val) = false → exec (.frameStart n f stamp) s = .next u)) ∧
    (s.landingSlot n = some i → inOrder →
      let u := (s.siloPut (s.camSlot n i + 64 + s.camStride n * x.line + x.ofs) data).modSlot n i fun y =>
        if x.ofs + data.length = lb then { y with line := y.line + 1, ofs := 0 } else { y with ofs := x.ofs + data.length }
      exec (.line n lo line ofs data) s = .next (u.pipeKick (u.pipeOf n))) ∧
    (s.landingSlot n = some i → ¬inOrder → exec (.line n lo line ofs data) s = .next (s.dropLanding n true)) ∧
    (s.landingSlot n = some i → no = x.frame.frameNo → lines ≠ x.frame.height ∨ status ≠ 0 ∨ x.line ≠ x.frame.height.toNat →
      exec (.frameEnd n no lines status) s = .next (s.dropLanding n true)) ∧
    (s.landingSlot n = some i → no = x.frame.frameNo → lines = x.frame.height → status = 0 → x.line = x.frame.height.toNat →
      let a := s.siloPut (s.camSlot n i) (camHeader x.frame status x.tSof (wrap 64 ((x.tSof : Int) - x.frame.expAgo.toNat)) x.dropped
        x.gap s.now)
      let b := ((a.put (F.IMG_CAM_STAT_GEN_SEEN n.val) x.frame.gen.toNat).setFlag (F.IMG_CAM_STAT_LOST n.val) false).put
        (F.IMG_CAM_FRAME_FRAME_NO n.val) no.toNat
      let c := ((b.put (F.IMG_CAM_CNT_GAP n.val) (min 255 (b.get (F.IMG_CAM_CNT_GAP n.val) + x.gap))).modStream n fun y =>
        { y with landed := some (no, x.tSof), discards := 0, next := i + 1 }).lateSet n x.frame
      let d := if x.decim then c.freeSlot n i else c.modSlot n i fun y => { y with step := .ready }
      exec (.frameEnd n no lines status) s = .next (d.pipeKick (d.pipeOf n)))) ∧
  (∀ (s : State) (n : Stream) (p : Fin 4) (target : BitVec 32) (who : Reader) (v : BitVec 32), s.Canon →
    let m := n.val
    let g := (s.get (F.IMG_CAM_STAT_GEN m) + 1) % 256
    let cfg := R.IMG_CAM_CFG m
    (∃ t, exec (.camSetCommit n target) s = .next t ∧
        t = { s with regs := t.regs, streams := t.streams, lanes := t.lanes } ∧ t.get (F.IMG_CAM_STAT_GEN m) = g ∧ t.flag (F.IMG_CAM_STAT_SET_PEND m) = true ∧
      t.streams[n].commits = s.streams[n].commits ++ [⟨target, BitVec.ofNat 8 g⟩]) ∧
    (s.flag (F.IMG_CAM_STAT_SET_PEND m) = true → (∀ t, s.streams[n].camSent = some t → s.past (t + 20000) = true) →
      exec (.camSetRepeat n) s = .next (s.sendCamSet n)) ∧
    (s.pipes[p].run.isSome = true → ∃ t, exec (.provisionalChoice p) s = .next t ∧ t = { s with pipes := t.pipes } ∧
      t.pipes[p] = { s.pipes[p] with shadow := (s.chooseUnit true p).map (·.1) }) ∧
    (∀ r, s.pipes[p].run = some r →
      let u := s.modPipe p fun q => { q with run := none }
      let k := r.stream
      let x := u.streams[k].slots[r.slot]
      let data := r.at_ + 64
      let size := r.stride * x.frame.height.toNat
      let bad := u.silo.badIn data size = true
      let y := u.siloFix data size
      let img := y.img x.frame data r.stride y.streams[k].block
      let read := forEach img.tables y fun s t => s.siloFix t.1 t.2
      let w := State.writeStats (forEach (List.finRange 4) read fun s o => s.writeOutput k p x.frame.frameNo img o) k r.slot img
      (r.dead = true → exec (.unitComplete p) s = .next (u.pipeKick p)) ∧
      (r.dead = false → r.cut = true → exec (.unitComplete p) s = .next ((u.freeSlot k r.slot).pipeKick p)) ∧
      (r.dead = false → r.cut = false → bad → exec (.unitComplete p) s =
        .next ((((u.freeSlot k r.slot).count (F.IMG_CAM_CNT_DAMAGED k.val)).pipeEvent p 3 k).pipeKick p)) ∧
      (r.dead = false → r.cut = false → ¬bad → r.last = true → exec (.unitComplete p) s =
        .next (((State.modStream { w with free := w.free + 1 } k fun x => { x with count := x.count + 1 }).freeSlot k r.slot).pipeKick p)) ∧
      (r.dead = false → r.cut = false → ¬bad → r.last = false →
        exec (.unitComplete p) s = .next ((u.modSlot k r.slot fun x => { x with stripe := x.stripe + 1 }).pipeKick p))) ∧
    (s.supView who = true → s.domainOn (domPipe (s.pipeOf n)) = true →
      let s' := s.touch (domPipe (s.pipeOf n))
      let t := s'.plainWrite cfg true (v ||| 1#32)
      let t' := s'.plainWrite cfg true (v &&& 0xFFFFFFFE#32)
      t.flag (F.IMG_CAM_CFG_ENABLE m) = true ∧ t'.flag (F.IMG_CAM_CFG_ENABLE m) = false ∧
      (s.flag (F.IMG_CAM_CFG_ENABLE m) = false → t.enableReason n = 0 → exec (.streamEnable who n v) s = .next t.showPipeLoad) ∧
      (s.flag (F.IMG_CAM_CFG_ENABLE m) = false → t.enableReason n ≠ 0 →
        exec (.streamEnable who n v) s = .next ((s'.imgErr n).put F.IMG_CTRL_REASON (t.enableReason n))) ∧
      (s.flag (F.IMG_CAM_CFG_ENABLE m) = false → exec (.streamDisable who n v) s = .next t') ∧
      (s.flag (F.IMG_CAM_CFG_ENABLE m) = true → t'.reg cfg = (s.setFlag (F.IMG_CAM_CFG_ENABLE m) false).reg cfg →
        let d := t'.dropLanding n false
        let u := if s.flag (F.IMG_CAM_CFG_SHARE m) then d.cutUnit n else d
        let keep : Fin 4 → Bool := fun i => match u.unitRuns n with
          | some r => decide (r.slot = i) && !r.dead
          | none => false
        exec (.streamDisable who n v) s = .next (((forEach (List.finRange 4) u fun t i =>
          bif keep i then t else t.freeSlot n i).setFlag (F.IMG_CAM_STAT_SET_PEND m) false).showPipeLoad)) ∧
      exec (.imgCamCtxWrite who n v) s = .next ((s'.plainWrite (R.IMG_CAM_CTX m) true v).setFlag (F.IMG_CAM_CTX_PEND m) true)))

/-! ## Motion axes (10_motion_axes.md) -/

/-- The commands of an axis (R385, R387, R392, R394): what refuses one, an armed one, one that acts at once, and AX_GO.
The model's own choices here: log entry 22. -/
def Obligations.AxisCommandsComplete : Prop :=
  ∀ (s : State) (a : Axis) (arm : Bool) (mask : BitVec 8), s.Canon →
    let n := a.val
    let arg := s.int (F.AX_TARGET_TARGET n)
    let cmdOf (cmd : Nat) : AxCmd := ⟨cmd, arg, if cmd = 2 then s.axBase a else none⟩
    let row (i : Instr) (cmd : Nat) : Prop :=
      let c := cmdOf cmd
      (s.axCheck a c arm ≠ 0 → exec i s = .next (s.put (F.AX_CMD_RESULT n) (s.axCheck a c arm))) ∧
      (s.axCheck a c arm = 0 → arm = false → exec i s = .next ((s.axAct a c).axPump a)) ∧
      (s.axCheck a c arm = 0 → arm = true → ∃ t, exec i s = .next t ∧ t = { s with regs := t.regs, axes := t.axes } ∧
        t.axState a = axARMED ∧ t.axes[a].armed = some c ∧
        t.get (F.AX_CMD_RESULT n) = 0)
    row (.moveAbs a arm) 1 ∧ row (.moveRel a arm) 2 ∧ row (.vel a arm) 3 ∧ row (.stop a arm) 4 ∧ row (.stopAll a arm) 5 ∧
    row (.home a arm) 6 ∧ row (.setPos a arm) 7 ∧
    (∀ c : AxCmd, s.flag F.AX_OUT_KEY_OK = false → c.cmd ≠ 5 → s.axCheck a c arm = 2) ∧
    (∀ c : AxCmd, s.flag F.AX_OUT_KEY_OK = true → s.get F.SYS_BAND_BAND = 4 → c.cmd ≠ 4 → c.cmd ≠ 5 → s.axCheck a c arm = 7) ∧
    exec (.axGo mask) s = .next (forEach ((List.finRange 8).filter fun a => mask.getLsbD a.val) s fun s a => s.axGo a) ∧
    (∀ c, s.axes[a].armed = some c → s.axState a = axARMED → s.axGo a =
      (((s.setAxState a axIDLE).modAxis a fun x => { x with armed := none }).axStart a c s.axNow).axPump a) ∧
    (s.axState a ≠ axARMED → s.axGo a = s)

/-- An axis in motion (R383, R384, R388, R395, R396, R402-R409, R412): a new limit of speed or of acceleration, the end of a motion,
its inputs, its encoder, its bridge frames and the loss of its key.
The model's own choices here: log entries 22 and 23. -/
def Obligations.AxisMotionComplete : Prop :=
  ∀ (s : State) (a : Axis) (v : BitVec 32) (positive active va vb vz : Bool) (e f : Fin 2), s.Canon →
    let n := a.val
    let w := s.plainWrite (R.AX_MAX_SPEED n) false v
    let x := s.axes[a]
    let limit := if positive then F.AX_STAT_LIMP n else F.AX_STAT_LIMN n
    let q := s.enc[e]
    let k := (quadPlace va vb + 4 - quadPlace q.a q.b) % 4
    let cnt := if e.val = 0 then F.AX_ENC_COUNT0_COUNT else F.AX_ENC_COUNT1_COUNT
    let fine := fineOf f
    let o := 1000 * f.val
    let per := 2000 * 2 ^ s.get (F.AX_BR_CFG_BR_PERIOD f.val)
    let start := (s.now - o) / per * per + o
    (w.axState a ≠ axMOVE → w.axState a ≠ axVELOCITY → exec (.axMaxSpeedWrite a v) s = .next w) ∧
    (w.axState a = axVELOCITY → x.leave = false → exec (.axMaxSpeedWrite a v) s = .next ((w.axVel a w.axNow w.axes[a].target).axPump a)) ∧
    (w.axState a = axMOVE → exec (.axMaxSpeedWrite a v) s =
      let r := w.axAt a w.axNow
      let tgt := w.axes[a].target * axUnit
      let u := w.showCap a (w.get (F.AX_MAX_SPEED_MAX_SPEED n))
      .next ((u.axRun a u.axNow (planTake u.axNow r.1 r.2 tgt (u.axVmax a) u.axes[a].acc (u.axGrid a)) tgt).axPump a)) ∧
    exec (.axAccelWrite a v) s = .next ((s.plainWrite (R.AX_ACCEL n) false v).axAccel a) ∧
    (∀ u : State, u.axState a = axIDLE → ∃ t, u.axAccel a = t ∧ t = { u with axes := t.axes } ∧ t.axes[a].acc = u.get (F.AX_ACCEL_ACCEL n)) ∧
    (s.axMoves a = true → s.axEnded a = true →
      let u := (((s.axFinish a).setAxState a axIDLE).setFlag (F.AX_STAT_SPEED_CAPPED n) false)
      let p := sgn 32 (wrap 32 (if fineAx a then u.axes[a].rest.fdiv axUnit else u.axes[a].qpos))
      let y := u.modAxis a fun x => { x with
        pieces := [], rest := p * axUnit, qpos := axCount a p, home := none, soft := false, leave := false, restSince := u.now }
      (y.axes[a].pend = none → exec (.moveEnd a) s = .next y) ∧
      (∀ c, y.axes[a].pend = some c → exec (.moveEnd a) s = .next
        ((((y.setFlag (F.AX_STAT_PEND n) false).modAxis a fun x => { x with pend := none }).axStart a c
          ((profEnd x.pieces).getD (axTime s.now))).axPump a))) ∧
    (x.home = none → exec (.limitInput a positive active) s = .next ((s.setFlag limit active).axPump a)) ∧
    (∀ h, x.home = some h →
      (s.setFlag limit active).axState a = axHOMING → (s.setFlag limit active).homePositive a = positive →
      exec (.limitInput a positive active) s = .next ((s.setFlag limit active).axSwitch a h active)) ∧
    (vz = false ∨ q.z = true → ∃ t, exec (.encoderEdge e va vb vz) s = .next t ∧
        t = { s with regs := t.regs, enc := t.enc } ∧ t.enc[e] = ⟨va, vb, vz⟩ ∧
      t.get cnt = (if k = 1 then wrap 32 (s.get cnt + 1) else if k = 3 then wrap 32 ((s.get cnt : Int) - 1) else s.get cnt)) ∧
    (s.flag (F.AX_STAT_POS_VALID n) = true → s.get (F.AX_CFG_ENC_SEL n) ≠ 0 → (∀ t, x.lastCheck = some t → s.past (t + 10000) = true) →
      let u := s.modAxis a fun x => { x with lastCheck := some s.now }
      let err := sgn 32 (wrap 32 ((u.encCount a : Int) - (u.axes[a].encRef + u.encExpect a)))
      let y := (u.setFlag (F.AX_STAT_ENC_ERR n) true).axEvent a 6
      (err.natAbs ≤ u.get (F.AX_ENC_TOL_ENC_TOL n) → exec (.encoderCheck a) s = .next u) ∧
      (u.get (F.AX_ENC_TOL_ENC_TOL n) < err.natAbs → y.flag (F.AX_CFG_ENC_STOP n) = false → exec (.encoderCheck a) s = .next y) ∧
      (u.get (F.AX_ENC_TOL_ENC_TOL n) < err.natAbs → y.flag (F.AX_CFG_ENC_STOP n) = true → exec (.encoderCheck a) s = .next
        ((if y.axMoves a then y.axEndNow a else y).setFlag (F.AX_STAT_POS_VALID n) false))) ∧
    (o ≤ s.now → s.time.running = true → s.axes[fine].lastFrame ≠ some start → s.flag F.AX_OUT_KEY_OK = true →
      let at_ := (2 * (s.axAt fine (axTime (start + 264))).1 + axUnit).fdiv (2 * axUnit)
      ∃ t, exec (.bridgeFrame f) s = .next t ∧
        t = { s with regs := t.regs, axes := t.axes, out := t.out } ∧ t.axes[fine].lastFrame = some start ∧
        t.out = s.out ++ [.bridge f (s.currents f at_).1 (s.currents f at_).2 (start + 264)]) ∧
    (s.axMoves fine = false → s.elapsed s.axes[fine].restSince (1000000 * s.get (F.AX_CFG_HOLD_DELAY f.val)) = true →
      ∃ t, exec (.holdScaleTimeout f) s = .next t ∧ t = { s with axes := t.axes } ∧ t.axes[fine] = { s.axes[fine] with hold := true }) ∧
    (s.flag F.AX_OUT_KEY_OK = true → s.role ≠ 0 → s.holder = false → exec .keyLost s = .next s.axKeyLost)

/-! ## Lanes and their link layer (11_lanes.md) -/

/-- The states of a lane (R418, R426-R439, R449, R451, R452): training, its timeouts, refusals and triggers, the live scan and the
eye scan, and Ethernet lanes.
The model's own choices here: log entries 11, 15, 19, 20, 24, 32 and 52. -/
def Obligations.LanesComplete : Prop :=
  ∀ (s : State) (n : Lane) (q : Fin 8) (pllB : Bool) (who : Reader) (v : BitVec 32) (x : List Octet) (m : TsMsg) (h w : BitVec 6)
    (counts : List (BitVec 32)) (lp : BitVec 16), s.Canon →
    let k := n.val
    let st := s.lnState n
    let l := s.lanes[n]
    let lnk := s.isEth n = false
    let sound := TsMsg.read x = some m
    let asked := s.domainOn (lnDomain n) = true
    let z := s.touch (lnDomain n)
    let seen := (s.sendTs n true).modLane n fun l => { l with partner := some m, ts2Tx := l.ts2Tx + 1, ts2Rx := l.ts2Rx + b2n m.two }
    let low := decide (h.toNat < s.get F.LANES_EYE_MIN_H_MIN ∨ w.toNat < s.get F.LANES_EYE_MIN_V_MIN)
    ((if pllB then s.get (F.LANES_QUAD_CFG_RATE_B q.val) else s.get (F.LANES_QUAD_CFG_RATE_A q.val)) ≠ 7 →
      exec (.quadPllLock q pllB) s = .next (forEach ((List.finRange 32).filter fun n => decide (n.val / 4 = q.val))
        (s.setFlag (if pllB then F.LANES_QUAD_CFG_LOCK_B q.val else F.LANES_QUAD_CFG_LOCK_A q.val) true) fun s n => s.leaveOff n)) ∧
    (asked →
     let new := s.written (R.LN_CFG k) (s.supView who) Access.isRw v
     let t := (z.condWrite (R.LN_CFG k) (s.supView who) v (s.lnCfgOk n new) (F.LN_STAT_CFG_ERR k)).1
     let was := s.flag (F.LN_CFG_ENABLE k)
     let on := t.flag (F.LN_CFG_ENABLE k)
     (was = on → exec (.lnCfgWrite who n v) s = .next t) ∧
     (was = false → on = true → exec (.lnCfgWrite who n v) s = .next (t.leaveOff n)) ∧
     (was = true → on = false → st ≠ lnRETIRED → exec (.lnCfgWrite who n v) s = .next ((z.enterOff n).setReg (R.LN_CFG k) (t.reg (R.LN_CFG k))))) ∧
    (st = lnSEEK → lnk → s.after l.seekSent 1000000 = true → ∃ t, exec (.seekBurst n) s = .next t ∧
      t.out = s.out ++ [.ts n (TsMsg.octets (s.ownTs n false)), .idle n] ∧
      t.lanes[n] = { l with seekSent := some s.now } ∧ t = { s with lanes := t.lanes, out := t.out }) ∧
    (st = lnSEEK → lnk → s.flag (F.LN_STAT_ABSENT k) = false → s.elapsed l.since (1000000 * s.get F.LANES_TIMING_SEEK_TIMEOUT) = true →
      exec (.seekTimeout n) s = .next ((s.setFlag (F.LN_STAT_ABSENT k) true).lnEvent n 3 0)) ∧
    (st = lnSEEK → lnk → exec (.signalDetect n) s = .next (s.enterAlign n)) ∧
    (s.lnTrains n = true → exec (.partnerLoss n) s = .next (s.enterSeek n)) ∧
    (sound → lnk → st = lnALIGN → l.tsRun = 7 →
      exec (.tsReceive n ⟨x, false⟩) s = .next ((s.modLane n fun l => { l with tsRun := l.tsRun + 1, partner := some m }).enterLane n lnTRAIN)) ∧
    (sound → lnk → st = lnALIGN → l.tsRun ≠ 7 →
      exec (.tsReceive n ⟨x, false⟩) s = .next (s.modLane n fun l => { l with tsRun := l.tsRun + 1, partner := some m })) ∧
    (sound → lnk → st = lnTRAIN →
      let full := 8 ≤ seen.lanes[n].ts2Tx ∧ 8 ≤ seen.lanes[n].ts2Rx
      (¬full → exec (.tsReceive n ⟨x, false⟩) s = .next seen) ∧
      (full → seen.refusal n m = 0 → exec (.tsReceive n ⟨x, false⟩) s = .next (seen.enterLane n lnCHECK)) ∧
      (full → seen.refusal n m ≠ 0 → exec (.tsReceive n ⟨x, false⟩) s = .next (seen.refuse n (seen.refusal n m)))) ∧
    (lnk → TsMsg.read x = none → exec (.tsReceive n ⟨x, false⟩) s =
      .next (if st = lnALIGN then s.modLane n fun l => { l with tsRun := 0 } else s)) ∧
    (lnk →
      let u := s.codeError n
      exec (.tsReceive n ⟨x, true⟩) s = .next (if u.lnState n = lnALIGN then u.modLane n fun l => { l with tsRun := 0 } else u)) ∧
    (lnk → lnALIGN ≤ st → st ≤ lnCHECK → s.elapsed l.since (if st = lnTRAIN then 2000000 else 1000000) = true →
      exec (.trainingTimeout n) s = .next (s.enterSeek n)) ∧
    (st = lnCHECK → lnk → s.past (l.since + 100000) = true → exec (.checkComplete n h w) s =
      .next (if s.get F.LANES_EYE_MIN_H_MIN ≤ h.toNat ∧ s.get F.LANES_EYE_MIN_V_MIN ≤ w.toNat then s.enterUp n else s.trigger n 5)) ∧
    (asked → s.supView who = true → st = lnUP → lnk → exec (.retrain who n) s = .next (z.trigger n 6)) ∧
    (asked → s.supView who = true → st = lnRETIRED →
      let u := (z.modLane n fun l => { l with trigs := [] }).enterSeek n
      exec (.unretire who n) s = .next (if u.flag (F.LN_CFG_ENABLE k) then u else u.enterOff n)) ∧
    (asked → s.supView who = true →
      ∃ t, exec (.clrRefused who n) s = .next t ∧ t = { z with regs := t.regs } ∧ t.flag (F.LN_STAT_REFUSED k) = false) ∧
    (asked → s.supView who = false →
      exec (.retrain who n) s = .next z ∧ exec (.unretire who n) s = .next z ∧ exec (.clrRefused who n) s = .next z) ∧
    (s.domainOn (lnDomain n) = false → exec (.retrain who n) s = .next ((s.wakeDomain (lnDomain n)).park (.retrain who n))) ∧
    (st = lnUP → s.eye.lane ≠ some n → l.lowRun ≠ 2 ∨ low = false → ∃ t, exec (.liveScanCycle n h w) s = .next t ∧
        t = { s with regs := t.regs, lanes := t.lanes } ∧
      t.get (F.LN_EYE_H_MARGIN k) = h.toNat ∧ t.get (F.LN_EYE_V_MARGIN k) = w.toNat ∧ t.flag (F.LN_STAT_MARGIN_LOW k) = low ∧
      t.lanes[n].lowRun = (if low then l.lowRun + 1 else 0) ∧ t.lnState n = lnUP) ∧
    (let t := s.plainWrite R.LANES_EYE_CMD true (v ||| 0x100#32)
     let x : Lane := Fin.ofNat 32 (t.get F.LANES_EYE_CMD_LANE)
     s.supView who = true →
     (t.flag F.LANES_EYE_CMD_BUSY = true ∨ t.lnState x ≠ lnUP → exec (.eyeScanStart who v) s = .next (t.setFlag F.LANES_EYE_CMD_ERR true)) ∧
     (t.flag F.LANES_EYE_CMD_BUSY = false → t.lnState x = lnUP →
       exec (.eyeScanStart who v) s = .next { t.setFlag F.LANES_EYE_CMD_BUSY true with eye := { lane := some x } })) ∧
    (s.eye.lane.isSome = true → ∃ t, exec (.eyeScanDone counts) s = .next t ∧
        t = { s with regs := t.regs, silo := t.silo, eye := t.eye } ∧ t.flag F.LANES_EYE_CMD_BUSY = false ∧
      t.flag F.LANES_EYE_CMD_DONE = true ∧ t.eye.lane = none) ∧
    (s.isEth n = true → s.flag (F.LN_CFG_ENABLE k) = true → st = lnSEEK →
      let u := s.modLane n fun l => { l with pcs := true }
      exec (.pcsSyncAcquired n) s = .next (if s.flag (F.LN_CFG_ETH_MODE k) then u.enterLane n lnTRAIN
        else if s.flag (F.LN_CFG_AN_EN k) then (u.enterLane n lnTRAIN).send (.ethConfig n (anWord (s.get (F.LN_CFG_PAUSE_ADV k))))
        else u.enterUp n)) ∧
    (s.isEth n = true → st = lnTRAIN ∨ st = lnUP →
      exec (.ethSyncLoss n) s = .next (((s.enterLane n lnSEEK).setFlag (F.LN_STAT_AN_DONE k) false).modLane n fun l =>
        { l with pcs := false, pause := false })) ∧
    (s.isEth n = true → s.flag (F.LN_CFG_AN_EN k) = true → s.flag (F.LN_CFG_ETH_MODE k) = false → st = lnTRAIN →
      let u := (s.put (F.LN_ETH_LP_LP_WORD k) lp.toNat).setFlag (F.LN_STAT_AN_DONE k) true
      exec (.anComplete n lp) s = .next ((u.modLane n fun l =>
        { l with pause := pauseRx (s.get (F.LN_CFG_PAUSE_ADV k)) (lp.toNat / 128 % 4) }).ethLink n (lp.getLsbD 5))) ∧
    (s.isEth n = true → s.flag (F.LN_CFG_ETH_MODE k) = true → st = lnTRAIN ∨ st = lnUP →
      let u := ((s.put (F.LN_ETH_LP_LP_WORD k) lp.toNat).setFlag (F.LN_STAT_AN_DONE k) true).setFlag (F.LN_STAT_ETH_HD k)
        (lp.getLsbD 15 && !lp.getLsbD 12)
      let sp := lp.toNat / 1024 % 4
      let y := if sp < 3 then u.put (F.LN_STAT_ETH_SPEED k) (2 - sp) else u
      exec (.sgmiiConfigReceive n lp) s = .next (((y.modLane n fun l => { l with pause := (y.get (F.LN_CFG_PAUSE_ADV k)).testBit 0 }).send
        (.ethConfig n 0x4001)).ethLink n (lp.getLsbD 15 && lp.getLsbD 12))) ∧
    (st = lnUP → lnk → exec (.lossOfSync n) s =
      .next ((s.put (F.LN_ERR_CODE_ERR k) (min 255 (s.get (F.LN_ERR_CODE_ERR k) + 4))).trigger n 1))

/-- The link layer of an UP lane (R441-R447): reliable delivery in order, acknowledgement, replay, credit, and the frame that goes
next; an IDLE behind everything that is sent (R424).
The model's own choices here: log entries 20 and 52. -/
def Obligations.LinkLayerComplete : Prop :=
  ∀ (s : State) (n : Lane) (x : List Octet) (f : LinkFrame) (code : Bool) (w : BitVec 16) (check : Octet) (groups : Nat) (o : Out),
    s.lnState n = lnUP → s.isEth n = false →
    let l := s.lanes[n]
    let sound := LinkFrame.read x = some (f, true)
    let freed := s.freeCredit n f
    let bad := ((if code then s.count (F.LN_ERR_CODE_ERR n.val) else s).count (F.LN_ERR_CRC_ERR n.val)).noteErr n
    let y := behindK w check
    let seq := w.setWidth 12
    let vc : Fin 4 := Fin.ofNat 4 (w.toNat % 256)
    let rest := l.outst.filter fun g => later 12 g.seq.toNat seq.toNat
    let again := match l.resend with
      | q :: _ => l.outst.find? fun f => f.seq == q
      | [] => none
    (sound → f.rel = true → f.seq = l.expect → exec (.linkFrameReceive n ⟨x, false⟩) s =
      .next (((s.modLane n fun l => { l with expect := l.expect + 1, ackOwed := true }).passOn n f).freeCredit n f)) ∧
    (sound → f.rel = true → f.seq ≠ l.expect → later 12 l.expect.toNat f.seq.toNat = true →
      exec (.linkFrameReceive n ⟨x, false⟩) s = .next (freed.modLane n fun l => { l with ackOwed := true })) ∧
    (sound → f.rel = true → f.seq ≠ l.expect → later 12 l.expect.toNat f.seq.toNat = false →
      exec (.linkFrameReceive n ⟨x, false⟩) s = .next (freed.sendNak n)) ∧
    (sound → f.rel = false → exec (.linkFrameReceive n ⟨x, false⟩) s = .next (s.passOn n f)) ∧
    (∀ good, LinkFrame.read x = some (f, good) → good = false ∨ code = true →
      exec (.linkFrameReceive n ⟨x, code⟩) s = .next ((if f.rel then (bad.freeCredit n f).sendNak n else bad).burst n)) ∧
    (LinkFrame.read x = none → exec (.linkFrameReceive n ⟨x, code⟩) s = .next (bad.burst n)) ∧
    (s.fitsBefore n 4 = true → l.nakOwed = false → l.ackOwed = true → exec (.ackSend n) s =
      .next ((s.modLane n fun l => { l with ackOwed := false }).transmit n 4 (.ack n (ackOctets (l.expect - 1) false)))) ∧
    (s.fitsBefore n 4 = true → l.nakOwed = true → exec (.ackSend n) s =
      .next ((s.modLane n fun l => { l with nakOwed := false }).transmit n 4 (.ack n (ackOctets l.expect true)))) ∧
    (checked 3 y = true → w.getLsbD 12 = true → ∃ t, exec (.ackNakReceive n w check false) s = .next t ∧
        t = { s with lanes := t.lanes } ∧
      t.lanes[n] = { l with resend := (l.outst.map (·.seq)).filter fun q => !later 12 seq.toNat q.toNat }) ∧
    (checked 3 y = true → w.getLsbD 12 = false → rest.length ≠ l.outst.length →
      ∃ t, exec (.ackNakReceive n w check false) s = .next t ∧
        t = { s with lanes := t.lanes } ∧ t.lanes[n] = { l with
      outst := rest, resend := l.resend.filter (fun q => rest.any fun f => f.seq == q), progress := s.now, replayRun := 0 }) ∧
    (l.outst ≠ [] → s.past (l.progress + 1000 * s.get F.LANES_TIMING_REPLAY_TO) = true →
      let u := (s.count (F.LN_ERR_REPLAYS n.val)).modLane n fun l => { l with
        resend := l.outst.map (·.seq), progress := s.now, replayRun := l.replayRun + 1 }
      exec (.replayTimeout n) s = .next (if u.lanes[n].replayRun = 4 then u.trigger n 3 else u)) ∧
    (∀ m, checked 3 y = true → l.partner = some m → ∃ t, exec (.creditReceive n w check false) s = .next t ∧
        t = { s with lanes := t.lanes } ∧
      t.lanes[n] = { l with granted := l.granted.set vc (m.credit[vc] + w.extractLsb' 8 8) }) ∧
    (exec (.ackNakReceive n w check true) s = .next (s.codeError n) ∧ exec (.creditReceive n w check true) s = .next (s.codeError n)) ∧
    (checked 3 y = false → exec (.ackNakReceive n w check false) s = .next s ∧ exec (.creditReceive n w check false) s = .next s) ∧
    (exec (.creditSend n) s = .next (forEach (rxVcs (s.lnRole n)) s fun r v =>
      if r.fitsBefore n 4 then r.transmit n 4 (.credit n (creditOctets v r.lanes[n].freed[v])) else r)) ∧
    (∀ g, again = some g → l.txEnd ≤ 1000 * s.now → creditCost g ≤ l.credits g.vc → s.fitsBefore n (frameGroups g) = true →
      exec (.frameTransmit n) s = .next ((s.modLane n fun l => { l with resend := l.resend.drop 1 }).startFrame n g)) ∧
    (∀ g, again = none → l.nextUp = some g → l.txEnd ≤ 1000 * s.now → s.fitsBefore n (frameGroups g) = true →
      let x : LinkFrame := if g.rel then { g with seq := l.nextSeq } else g
      let u := s.startFrame n x
      exec (.frameTransmit n) s = .next (u.modLane n fun l => { l with
        txq := l.txq.erase g
        outst := if g.rel then l.outst ++ [x] else l.outst
        nextSeq := if g.rel then l.nextSeq + 1 else l.nextSeq
        progress := if g.rel && l.outst.isEmpty then u.now else l.progress })) ∧
    (let t := s.transmit n groups o
     t = { s with lanes := t.lanes, out := s.out ++ [o, .idle n] } ∧
       t.lanes[n].txEnd = max l.txEnd (1000 * s.now) + (groups + 2) * 10 * uiPs (s.laneRate n))

/-! ## The FarmLink fabric (12_farmlink.md) -/

/-- Discovery, routes and routed frames (R458, R461-R466, R486), health and Winnow (R476, R483, R484).
The model's own choices here: log entries 31 and 46. -/
def Obligations.FabricComplete : Prop :=
  ∀ (s : State) (k : FPort) (node : Node) (x msg : List (BitVec 8)) (vc : Fin 4) (hdr : BitVec 64)
    (fail : BitVec 28) (who : Reader) (v : BitVec 32),
    let f := s.fabric
    let on := s.fabOn = true
    let m := Lsa.read x
    let ready := s.domainOn 40 = true
    let h := hdr.toNat
    let hop := h / 2 ^ 44 % 16 + 1
    let nhops := h / 2 ^ 48 % 16
    let u := s.touch 40
    let out : FPort := Fin.ofNat 8 (h / 2 ^ (20 + 3 * hop) % 8)
    (s.flag F.FABRIC_CFG_ENABLE = true → s.portUp k = true → s.after f.hello[k] 10000000 = true →
      exec (.helloSend k) s = .next (s.sendHello k)) ∧
    (on → s.portUp k = true →
      let a : Option (Node × FPort) := some (Fin.ofNat 64 (octAt x 24 1), Fin.ofNat 8 (octAt x 25 1))
      ∀ h c, h ++ c = x → ∃ t, exec (.helloReceive k h c) s = .next t ∧ t = { s with fabric := t.fabric } ∧ t.fabric.adj[k] = a ∧
        (∀ j : FPort, j ≠ k → t.fabric.adj[j] = f.adj[j]) ∧ (f.adj[k] ≠ a → t.fabric.issueOwed = true)) ∧
    (on → (f.issueOwed = true ∧ s.after f.issued 1000000 = true) ∨ s.after f.issued 100000000 = true → exec .lsaIssue s =
      .next (((s.keepLsa s.ownLsa).flood s.ownLsa none).modFab fun f => { f with issued := some s.now, issueOwed := false })) ∧
    (on → m.origin ≠ s.ownNode → (∀ r, s.lsaOf m.origin = some r → r.m.version.toNat < m.version.toNat) →
      exec (.lsaReceive k x) s = .next ((s.keepLsa m).flood m (some k))) ∧
    (on → m.origin = s.ownNode → m.uid.toNat < Config.uid.toNat →
      exec (.lsaReceive k x) s = .next ((s.setFlag F.FABRIC_STAT_DUP_NODE true).raise 106 s.ownNode.val)) ∧
    (on → m.origin = s.ownNode → Config.uid.toNat ≤ m.uid.toNat → exec (.lsaReceive k x) s = .next s) ∧
    (∀ r, s.lsaOf m.origin = some r → m.origin ≠ s.ownNode → m.version.toNat ≤ r.m.version.toNat → exec (.lsaReceive k x) s = .next s) ∧
    (∀ r, s.lsaOf node = some r → s.past (r.at_ + 350000000) = true → ∃ t, exec (.lsaExpiry node) s = .next t ∧
      t = { s with fabric := { f with lsas := t.fabric.lsas, routesOwed := true } } ∧ t.lsaOf node = none ∧
      ∀ n, n ≠ node → t.lsaOf n = s.lsaOf n) ∧
    (on → f.routesOwed = true → exec .routeCompute s = .next (s.setPaths s.computePaths)) ∧
    (∀ n, s.portLane k = some n → on → ready →
      (hop = nhops → exec (.routedFrame k vc hdr msg) s = .next (u.deliver n vc h msg)) ∧
      (nhops < hop → exec (.routedFrame k vc hdr msg) s = .next (u.count F.FABRIC_DROP_MISROUTE)) ∧
      (hop < nhops → u.portUp out = true →
        exec (.routedFrame k vc hdr msg) s = .next (u.portSend out 0x52 vc (octets (h + 2 ^ 44) 8 ++ msg))) ∧
      (hop < nhops → u.portUp out = false → exec (.routedFrame k vc hdr msg) s = .next (u.count F.FABRIC_DROP_NOROUTE))) ∧
    (∀ n, s.portLane k = some n → on → ¬ ready →
      exec (.routedFrame k vc hdr msg) s = .next ((s.wakeDomain 40).park (.routed k vc hdr msg))) ∧
    (on → s.after f.healthSent 1000000000 = true →
      let r := s.rescore
      let bits := b2n (r.eligible r.ownNode) + 2 * b2n (r.role == 3 && decide (r.stage < 2)) + 4 * b2n r.holder
      let body := octets (r.get F.FABRIC_STAT_SCORE) 1 ++ octets (r.get F.SYS_BAND_BAND) 1 ++ octets bits 1 ++ [0] ++
        octets (r.get F.FABRIC_WINNOW_STAT_FAIL) 4 ++ octets r.eccRecent 4
      let y := forEach (r.eligSet.filter fun n => decide (n ≠ r.ownNode)) r fun s n => s.flManage n 0x47 s.keyGen 32 body
      exec .healthSend s =
        .next (y.modFab fun f => { f with healthSent := some y.now, corrected := f.corrected.filter fun t => !y.past (t + 1000000000) })) ∧
    (on →
      let of (t : State) := t.fabric.health.find? fun h => decide (h.node = node)
      let score := octAt x 16 1
      ∀ h c, h ++ c = x → ∃ t r, exec (.healthReceive node h c) s = .next t ∧ t = { s with fabric := t.fabric } ∧ of t = some r ∧
        r.node = node ∧ r.score = score ∧ r.at_ = s.now ∧
        (score < s.get F.FABRIC_KEY_CFG_KEY_MIN → r.good = none) ∧
        (s.get F.FABRIC_KEY_CFG_KEY_MIN ≤ score → r.good = some (((of s).bind (·.good)).getD s.now)) ∧
        (∀ n, n ≠ node → t.fabric.health.find? (fun h => decide (h.node = n)) = s.fabric.health.find? fun h => decide (h.node = n))) ∧
    (on → s.role = 3 → s.stage < 2 → s.after f.winnow 1000000000 = true → ∃ t, exec (.winnowCycle fail) s = .next t ∧
      t.fabric.winnow = some s.now ∧ (∀ e ∈ s.winnowEngs, t.eng[e] = { s.eng[e].fresh with mem := s.eng[e].mem.scrub }) ∧
      (∀ e : Eng, e ∉ s.winnowEngs → t.eng[e] = s.eng[e]) ∧
      t.silo = (if s.flag F.FABRIC_WINNOW_SILO then s.silo.scrub else s.silo) ∧
      t.bed = if s.flag F.FABRIC_WINNOW_BEDMAP then { s.bed with one := [] } else s.bed) ∧
    (ready → exec (.fabricEnableWrite who v) s = .next (u.fabricCfgWrite (u.supView who) v)) ∧
    (¬ ready → exec (.fabricEnableWrite who v) s = .next ((s.wakeDomain 40).park (.fabricEnable who v)))

/-- The barn key (R473-R477): renewal, its quorum, expiry and release, and the election of a holder.
The model's own choices here: log entry 31. -/
def Obligations.BarnKeyComplete : Prop :=
  ∀ (s : State) (node : Node) (x : List (BitVec 8)),
    let f := s.fabric
    let on := s.fabOn = true
    let m := Renew.read node x
    let gen := genOf x
    let tSend := octAt x 16 8
    let hold := s.holder = true
    let low (t : State) := t.get F.FABRIC_STAT_SCORE < t.get F.FABRIC_KEY_CFG_KEY_MIN
    (on → hold → s.after f.sent (1000000 * s.get F.FABRIC_KEY_CFG_RENEW_MS) = true →
      exec .keyRenewSend s = .next (if low s.rescore then s.rescore.releaseKey else s.rescore.sendRenew)) ∧
    (m.node = node ∧ m.gen.toNat = octAt x 4 4 ∧ m.tSend.toNat = octAt x 8 8 ∧ m.layer.toNat = octAt x 16 1 ∧ m.tB.toNat = octAt x 24 8) ∧
    (node ≠ s.ownNode → s.acceptsRenew gen = true →
      let same := s.flag F.FABRIC_STAT_HOLDER_VALID && decide (s.get F.FABRIC_STAT_HOLDER = node.val)
      let a := s.acceptGen node gen
      let b := if same then a else a.raise 109 node.val
      let c := b.setFlag F.FABRIC_STAT_ELECTING false
      let d := (c.expireIn (b.ttlNs + b.guardNs)).modFab fun f => { f with renew := some m, election := none }
      exec (.keyRenewReceive ⟨node, x⟩) s = .next (d.flManage node 0x43 d.keyGen 24 (octets m.tSend.toNat 8))) ∧
    (node ≠ s.ownNode → s.acceptsRenew gen = false → exec (.keyRenewReceive ⟨node, x⟩) s = .next (s.stale node)) ∧
    (on → hold → s.eligible node = true → exec (.keyRenewAckReceive node x) s = .next ((s.modFab fun f => { f with
      waiting := f.waiting.map fun w => if w.1 = tSend ∧ w.2.contains node = false then (w.1, w.2 ++ [node]) else w }).checkQuorum tSend)) ∧
    (∀ t, f.effective = some t → hold → s.flag F.AX_OUT_KEY_OK = true → s.reached (t + s.ttlNs) = true →
      exec .keyExpiry s = .next (s.leaveHolder.raise 108 s.keyGen)) ∧
    (on → hold → low s.rescore ∨ s.holds.supDead = true → exec .keyRelease s = .next s.rescore.releaseKey) ∧
    (on → s.flag F.FABRIC_STAT_KNOWN = true → gen.toNat = s.keyGen → s.holder = false → ∃ t, exec (.keyReleaseReceive node x) s = .next t ∧
      t = { s with fabric := t.fabric } ∧ t.fabric.expiry = some (s.now + s.guardNs) ∧ node ∈ t.fabric.released ∧
      ∀ h ∈ t.fabric.health, h.node = node → h.good = none) ∧
    (∀ t, f.expiry = some t → s.reached t = true → on → s.eligible s.ownNode = true → s.holder = false → f.election = none →
      let out : List Node := if s.flag F.FABRIC_STAT_HOLDER_VALID then [Fin.ofNat 64 (s.get F.FABRIC_STAT_HOLDER)] else []
      exec .electionStart s = .next ((s.setFlag F.FABRIC_STAT_ELECTING true).voteRound ⟨BitVec.ofNat 32 (s.keyGen + 1), none, out, none⟩)) ∧
    (∀ e c t, f.election = some e → e.vote = some (c, t) → s.past (t + 10000000) = true →
      exec .electionRoundTimeout s = .next (s.voteRound ⟨e.gen + 1, none, e.out ++ [c], none⟩)) ∧
    (∀ e t, f.election = some e → e.vote = none → e.next = some t → s.reached t = true →
      exec .electionRoundTimeout s = .next (s.voteRound { e with next := none })) ∧
    (on → octAt x 16 1 % 64 = s.ownNode.val → s.eligible node = true → s.eligible s.ownNode = true →
      ∀ h c, h ++ c = x → exec (.voteReceive node h c) s = .next (s.addVote node gen)) ∧
    (on → hold → later 32 gen.toNat s.keyGen = true → s.flag F.AX_OUT_KEY_OK = true →
      exec (.staleReceive node x) s = .next (s.modFab fun f => { f with nextGen := some (gen + 1) })) ∧
    (on → hold → later 32 gen.toNat s.keyGen = true → s.flag F.AX_OUT_KEY_OK = false →
      exec (.staleReceive node x) s = .next s.leaveHolder) ∧
    s.leaveHolder.fabric.waiting = [] ∧ s.leaveHolder.fabric.effective = none

/-- Layers across the fabric (R478-R482): the messages of the holder and of a participant, and what each does. -/
def Obligations.FabricLayersComplete : Prop :=
  ∀ (s : State) (node : Node) (head body : List Octet),
    let x := head ++ body
    let gen := genOf x
    let tB := BitVec.ofNat 64 (octAt x 16 8)
    let code := BitVec.ofNat 8 (octAt x 24 1)
    let result := BitVec.ofNat 8 (octAt x 25 1)
    let on := s.fabOn = true
    let hold := s.holder = true
    let part := s.layerParts.contains node = true
    let a := s.acceptGen node gen
    let ok := s.accepts gen = true
    let b := (a.put F.HOST_LAYER_BEGIN_LO_T_B_LO tB.toNat).put F.HOST_LAYER_BEGIN_HI_T_B_HI (tB.toNat / 2 ^ 32)
    let q := State.scheduleNow { b with layer := { b.layer with follows := true, stateOwed := true } }
    (on → hold → 1 ≤ s.lyState → s.lyState ≤ 4 → part → s.reported node = none → s.tellDue node 100000 = true →
      exec (.layerSchedSend node) s = .next (s.tell node 0x48)) ∧
    (ok → a.idle = true → exec (.layerSchedReceive node head body) s = .next { q.2 with layer := { q.2.layer with schedResult := q.1 } }) ∧
    (s.accepts gen = false → exec (.layerSchedReceive node head body) s = .next (s.stale node) ∧
      exec (.layerGoReceive node head body) s = .next (s.stale node) ∧ exec (.layerIdleReceive node head body) s = .next (s.stale node) ∧
      exec (.layerAbortReceive node head body) s = .next (s.stale node)) ∧
    (on → s.layer.follows = true → s.flag F.FABRIC_STAT_HOLDER_VALID = true →
      s.layer.stateOwed = true ∨ s.after s.layer.stateSent 1000000 = true →
      let u := s.flManage (Fin.ofNat 64 (s.get F.FABRIC_STAT_HOLDER)) 0x49 s.keyGen 32
        (octets s.tB 8 ++ octets s.lyState 1 ++ octets s.layer.schedResult 1)
      exec .layerStateSend s = .next { u with layer := { u.layer with stateOwed := false, stateSent := some u.now, follows := !u.idle } }) ∧
    (on → hold → s.layer.removed.contains node = true → tB.toNat = s.tB →
      ∀ w rest, octets w.toNat 8 ++ rest = body → exec (.layerStateReceive node head w rest) s = .next (s.tell node 0x4C)) ∧
    (on → hold → s.layer.removed.contains node = false →
      let u := { s with layer := { s.layer with reports := s.layer.reports.filter (fun (r : Node × LayerReport) => decide (r.1 ≠ node)) ++
        [(node, (⟨tB.toNat, code.toNat, result.toNat, s.now⟩ : LayerReport))] } }
      let ends := tB.toNat = u.tB ∧ u.layerParts.contains node = true ∧ (result ≠ 0 ∨ code.toNat = lyABORTING) ∧ u.canAbort = true
      ∀ w rest, octets w.toNat 8 ++ rest = body → exec (.layerStateReceive node head w rest) s = .next (if ends then u.doAbort else u.barrierDone)) ∧
    (on → hold → s.canAbort = true → s.reached ((s.tB : Int) - 1000000) = true → (∃ n ∈ s.layerParts, s.reported n = none) →
      exec .layerReportDeadline s = .next s.doAbort) ∧
    (on → hold → part → s.tellDue node 1000000 = true →
      (s.layer.give = some .go → s.reported node ≠ some lyRECOAT → s.reported node ≠ some lyIDLE →
        exec (.layerGoSend node) s = .next (s.tell node 0x4A)) ∧
      (s.layer.give = some .idle → s.reported node ≠ some lyIDLE → exec (.layerGoSend node) s = .next (s.tell node 0x4B)) ∧
      (s.layer.give = some .abort → s.reported node ≠ some lyIDLE → exec (.layerGoSend node) s = .next (s.tell node 0x4C))) ∧
    (ok → exec (.layerGoReceive node head body) s =
      .next (if a.layer.follows && decide (a.lyState = lyLOCALEND ∧ tB.toNat = a.tB) then a.enterRecoat else a)) ∧
    (ok → exec (.layerIdleReceive node head body) s =
      .next (if a.layer.follows && decide (a.lyState = lyRECOAT ∧ tB.toNat = a.tB) then a.enterLy lyIDLE else a)) ∧
    (ok → exec (.layerAbortReceive node head body) s = .next (if tB.toNat = a.tB ∧ a.canAbort = true then a.doAbort else a)) ∧
    (let last := match s.reportOf node with
      | some r => max r.at_ s.layer.since
      | none => s.layer.since
     on → hold → part → 1 ≤ s.lyState → s.lyState ≤ 5 → s.past (last + 10000000) = true →
      exec (.participantRemoval node) s =
        .next (State.barrierDone (State.raise { s with layer := { s.layer with removed := s.layer.removed ++ [node] } } 110 node.val)))

/-! ## Host: the network, the local bus, VMP (13_host.md) -/

/-- The requests of an OPEN session that are accepted (R498, R504, R507-R510, R537): registers, the Silo, host rings, KEEPALIVE and
CLOSE, each with its STATUS and its body. A request that asks a domain that is not ON, or that stands behind one of its session that
waits, wakes what it asks and waits (R41).
The model's own choices here: log entries 28 and 35. -/
def Obligations.VmpRequestsComplete : Prop :=
  (∀ (s : State) (o : VmpFrom) (m : VmpMsg) (n : Sess), s.Takes o m n 2 → s.vmpWaits o m = true →
    let t := (forEach (s.vmpAsks o m) s fun s d => s.wakeDomain d).park (.vmp o m)
    (m.type = 4 → exec (.vmpClose o m) s = .next t) ∧ (m.type = 5 → exec (.keepalive o m) s = .next t) ∧
    (m.type = 0x10 → exec (.regRead o m) s = .next t) ∧ (m.type = 0x11 → exec (.regWrite o m) s = .next t) ∧
    (m.type = 0x20 → exec (.siloWrite o m) s = .next t) ∧ (m.type = 0x21 → exec (.siloRead o m) s = .next t) ∧
    (m.type = 0x30 → exec (.ringPut o m) s = .next t) ∧ (m.type = 0x32 → exec (.ringAck o m) s = .next t)) ∧
  ∀ (s : State) (o : VmpFrom) (m : VmpMsg) (n : Sess), s.Accepts o m n 2 →
    let u := s.taken o m n
    let b := m.body
    let k := beAt b 0 1
    let a := beAt b 0 4
    let l := b.drop 4
    let len := beAt b 4 4
    let r := m.ring.toNat
    let ok (i : Instr) (t : State) (body : List Octet) : Prop := s.Answers i o m n t 0 body
    (m.ring = 0 → b = [] → m.type = 4 → ok (.vmpClose o m) (u.closeSession n 1) []) ∧
    (m.ring = 0 → b = [] → m.type = 5 → ok (.keepalive o m) u (beOctets u.now 8)) ∧
    (m.ring = 0 → m.type = 0x10 → 1 ≤ k → k ≤ 64 → b.length = 4 + 4 * k → beAt b 1 3 = 0 →
      let q := State.vmpReads (.session n) k l 0 [] u
      s.Answers (.regRead o m) o m n q.1 q.2.1 (beOctets q.2.2.1 1 ++ [0, 0, 0] ++ q.2.2.2)) ∧
    (m.ring = 0 → m.type = 0x11 → 1 ≤ k → k ≤ 64 → b.length = 4 + 8 * k → beAt b 1 3 = 0 →
      let q := State.vmpWrites (.session n) k l 0 u
      s.Answers (.regWrite o m) o m n q.1 q.2.1 (beOctets q.2.2 1 ++ [0, 0, 0])) ∧
    (m.ring = 0 → m.type = 0x20 → l ≠ [] → l.length ≤ 1432 → l.length % 4 = 0 → a % 4 = 0 → a + l.length ≤ siloSize →
      ok (.siloWrite o m) (u.siloPut a l) []) ∧
    (m.ring = 0 → m.type = 0x20 → l ≠ [] → l.length ≤ 1432 → l.length % 4 = 0 → a % 4 ≠ 0 ∨ siloSize < a + l.length →
      s.Answers (.siloWrite o m) o m n u vmBADADDR []) ∧
    (m.ring = 0 → m.type = 0x21 → b.length = 8 → 4 ≤ len → len ≤ 1432 → len % 4 = 0 → a % 4 = 0 → a + len ≤ siloSize →
      (u.silo.badIn a len = false → ok (.siloRead o m) (u.siloFix a len) ((u.siloFix a len).silo.bytes a len)) ∧
      (u.silo.badIn a len = true → s.Answers (.siloRead o m) o m n u vmFAILED [])) ∧
    (m.type = 0x30 → 1 ≤ k → k ≤ 44 → b.length = 4 + 32 * k → beAt b 1 3 = 0 → r ≠ 0 → u.ringRefusal n r = 0 →
      u.get (F.HOST_HRING_CFG_KIND r) = 0 → u.ringOn r = true →
      let q := State.placeDescs r k l 0 u
      s.Answers (.ringPut o m) o m n q.1 (if q.2 = k then vmOK else vmFULL) (beOctets q.2 1 ++ [0, 0, 0] ++ beOctets (q.1.vTail r) 4)) ∧
    (m.type = 0x32 → b.length = 4 → u.ringRefusal n r = 0 → u.get (F.HOST_HRING_CFG_KIND r) ≠ 0 →
      u.get (F.HOST_HRING_CFG_DEST r) = n.val → u.ringOn r = true →
      let h : Fin 32 := Fin.ofNat 32 r
      let step := wrap (u.ringK r + 1) ((a : Int) - u.vHead r)
      a < 2 ^ (u.ringK r + 1) → 1 ≤ step → step ≤ u.host.rings[h].ever →
      ok (.ringAck o m) ((u.setHead r a).modHRing h fun x => { x with sentAt := x.sentAt.drop step, ever := x.ever - step, resends := 0 })
        (beOctets a 4))

/-- Sessions (R492, R498, R501, R502, R505-R507, R523), long operations (R517-R521, R553, R648, R649), and what the device sends on
a host ring (R510).
The model's own choices here: log entries 11, 28 and 35. -/
def Obligations.SessionsComplete : Prop :=
  ∀ (s : State) (o : VmpFrom) (m : VmpMsg) (n : Sess) (who : Reader) (h : Fin 32) (met : List (BitVec 16)) (p : EPort) (mask : Bool)
    (v : BitVec 32),
    let b := m.body
    let mode := beAt b 0 1
    let nHost := BitVec.ofNat 64 (beAt b 4 8)
    let u := s.taken o m n
    let x := s.host.rings[h]
    let net := s.domainOn 41 = true
    let w := s.touch 41
    (s.Meets o m true → m.type = 1 → m.ring = 0 → b = [] → exec (.discover o m) s =
      .next (s.vmpAnswer o m 0 (beOctets Config.uid.toNat 8 ++ beOctets (s.reg R.SYS_DEVICE_ID).toNat 4 ++ beOctets (s.reg R.SYS_REV).toNat 4 ++
        beOctets s.ownNode.val 1 ++ beOctets o.port.val 1 ++ beOctets (s.get F.SYS_STRAPS_MODE) 1 ++ [0] ++
        beOctets (if o.port.val < 2 then s.get (F.HOST_NET_IP_IP o.port.val) else 0) 4))) ∧
    (s.Meets o m false → m.type = 2 → m.ring = 0 → b.length = 12 → mode < 2 → beAt b 1 3 = 0 → s.sameOpen o nHost = none →
      (mode = 0 → s.flag F.HOST_VMP_CFG_USER_OPEN = true) →
      (s.openSess o = some n → exec (.openReq o m) s = .next (s.openNow n o m (decide (mode = 1)) nHost)) ∧
      (s.openSess o = none → exec (.openReq o m) s = .next (s.vmpAnswer o m vmNOSESSION []))) ∧
    (s.Accepts o m n 1 → s.host.sess[n].keyed = true → m.type = 3 → m.ring = 0 → b = [] →
      s.Answers (.auth o m) o m n (u.sessOpened n) 0 []) ∧
    (s.Meets o m false → s.vmpSess o m = some n → s.sessState n = 1 → s.tagOk n m = false → m.type = 3 →
      exec (.auth o m) s = .next (s.badTag n)) ∧
    (s.sessState n = 1 → s.past (s.host.sess[n].since + 1000000000) = true → exec (.authTimeout n) s = .next (s.freeSession n)) ∧
    (n ≠ 8 → s.sessState n = 2 → s.host.long = none → s.elapsed s.host.sess[n].since (s.get F.HOST_VMP_CFG_SESSION_TTL * 1000000000) = true →
      exec (.sessionTimeout n) s = .next (s.closeSession n 2)) ∧
    (net → (s.supView who = true → s.sessState n ≠ 0 → exec (.sessionKill who n) s = .next (w.closeSession n 4)) ∧
      (s.supView who = false → exec (.sessionKill who n) s = .next w) ∧
      exec (.hostNetIpWrite who p mask v) s = .next (w.hostNetWrite who p mask v).payPorts) ∧
    (¬ net → exec (.sessionKill who n) s = .next ((s.wakeDomain 41).park (.sessionKill who n)) ∧
      exec (.hostNetIpWrite who p mask v) s = .next ((s.wakeDomain 41).park (.netIp who p mask v))) ∧
    (s.Accepts o m n 2 → m.type = 0x40 → m.ring = 0 → u.sessSup n = true → beAt b 1 3 = 0 →
      let args := b.drop 4
      let row (i : Instr) (op : Nat) : Prop := mode = op → b.length = longLen op → u.longFree n op args = true →
        let remain := beOctets (longBound op) 4
        tooLong o (u.tagged n (vmpReply m 0 remain)) = false →
        exec i s = .next (State.longFirst s ((u.longBegin n op args).vmpDone u n o m 0 remain))
      row (.granarySeal o m) 1 ∧ row (.imageWrite o m) 2 ∧ row (.winnowFull o m) 3 ∧ row (.siloZeroise o m) 4 ∧
      (beAt args 0 1 < 2 → beAt args 1 3 = 0 → row (.keyProv o m) 5)) ∧
    (∀ l, s.host.long = some l →
      let r := s.longEffect l (met.map (·.toNat))
      exec (.longDone met) s = .next (if l.op = 5 then (r.1.endLong r.2).closeSups else r.1.endLong r.2)) ∧
    (∀ t rest, x.sentAt = t :: rest → s.longRuns = false → x.stalled = false → s.past (t + 20000000) = true → (s.ringDest h).isSome = true →
      (x.resends < 8 → exec (.ringResend h) s = .next (s.modHRing h fun x => { x with sentAt := [], resends := x.resends + 1 })) ∧
      (8 ≤ x.resends → exec (.ringResend h) s = .next ((s.modHRing h fun x => { x with stalled := true }).raise 246 h.val))) ∧
    (let kind := s.get (F.HOST_HRING_CFG_KIND h.val)
     s.ringDest h = some n → s.longRuns = false → kind ≠ 0 → s.ringOn h.val = true → x.stalled = false →
     x.sentAt.length < 16 → x.sentAt.length < s.ringCount h.val →
     let i := x.sentAt.length
     let place := (s.vHead h.val + i) % 2 ^ (s.ringK h.val + 1)
     let a := s.slotAddr h.val (place % 2 ^ s.ringK h.val)
     let d := domainOfSilo a
     let q := (s.touch d).devReads a 4 8
     let ptr := q.1.getD 0 0
     let len := if kind = 1 then min (q.1.getD 1 0) (if s.viaRelay n then 160 else 1024) else 0
     let lost := kind == 1 && (decide (siloSize < ptr + len) || (decide (0 < len) && q.2.silo.badIn ptr len))
     let c := if lost || decide (len = 0) then q.2 else q.2.siloFix ptr len
     (s.domainOn d = true → exec (.ringDataSend h) s = .next
       ((c.modHRing h fun y => { y with sentAt := y.sentAt ++ [c.now], ever := max y.ever (i + 1) }).vmpDevice n 0x31 h.val
         (beOctets place 4 ++ beOctets (b2n lost + 2 * b2n (decide (i < x.ever))) 4 ++ (q.1.flatMap fun v => octets v 4) ++
           if lost then [] else c.silo.bytes ptr len))) ∧
     (s.domainOn d = false → exec (.ringDataSend h) s = .next (s.wakeDomain d)))

/-- Frames of an Ethernet port, the local bus, and the event router (R490-R494, R525, R526, R529-R535).
The model's own choices here: log entries 2, 35, 47 and 53. -/
def Obligations.NetworkAndEventsComplete : Prop :=
  ∀ (s : State) (p : EPort) (frame data : List (BitVec 8)) (mac : BitVec 48) (ip target : BitVec 32) (ident seq len ctrl : BitVec 16) (who : Reader)
    (v : BitVec 32) (src : Fin 256) (pin : Fin 4),
    let up := s.boot.cause = 0 ∧ s.ethUp p = true
    let w := s.touch 41
    let recent := s.host.net[p].echoes.filter fun t => !s.past (t + 1000000000)
    let lb := s.lbOn = true
    let taken := up ∧ s.pauseOf p frame = none ∧ s.domainOn 41 = true
    (∀ q, up → s.pauseOf p frame = some q → exec (.ethFrameReceive p frame) s = .next (s.pauseFor p q)) ∧
    (up → s.pauseOf p frame = none → s.domainOn 41 = false →
      exec (.ethFrameReceive p frame) s = .next ((s.wakeDomain 41).park (.eth p frame))) ∧
    (taken → w.frameDrop p frame = some .frag → exec (.ethFrameReceive p frame) s = .next (w.count (F.HOST_NET_DROP_FRAG p.val))) ∧
    (taken → w.frameDrop p frame = some .proto → exec (.ethFrameReceive p frame) s = .next (w.count (F.HOST_NET_DROP_PROTO p.val))) ∧
    (taken → w.frameDrop p frame = some .err → exec (.ethFrameReceive p frame) s = .next (w.count (F.HOST_NET_DROP_ERR p.val))) ∧
    (taken → w.frameDrop p frame = none → w.frameVmp p frame = none → exec (.ethFrameReceive p frame) s =
      .next (if w.framePtpBad p frame then w.ptpDrop else w.send (.up p frame))) ∧
    (∀ o m, taken → w.frameDrop p frame = none → w.frameVmp p frame = some (o, m) →
      exec (.ethFrameReceive p frame) s = .next (if vmpKnown m then w.send (.up p frame) else w.vmpUnknown o m)) ∧
    (up → target.toNat = s.portIp p → exec (.arpRequest p mac ip target) s = .next (s.sendPort p (.eth p (s.arpFrame p true mac ip)))) ∧
    (∀ n, s.ethLane p = some n → s.laneUp n = true → s.host.net[p].arpFor ≠ some s.lanes[n].since → exec (.gratuitousArp p) s =
      .next ((s.sendPort p (.eth p (s.arpFrame p false 0xFFFFFFFFFFFF#48 (BitVec.ofNat 32 (s.portIp p))))).modNet p fun x =>
        { x with arpFor := some s.lanes[n].since })) ∧
    (up → data.length ≤ 1472 → recent.length < 100 → exec (.icmpEcho p mac ip ident seq data) s =
      .next ((s.modNet p fun x => { x with echoes := recent ++ [s.now] }).sendPort p (.eth p (s.echoFrame p mac ip ident seq data)))) ∧
    (up → data.length ≤ 1472 → 100 ≤ recent.length → exec (.icmpEcho p mac ip ident seq data) s =
      .next ((s.modNet p fun x => { x with echoes := recent }).count (F.HOST_NET_DROP_ICMP_LIM p.val))) ∧
    (lb → exec (.txSend len ctrl) s = .next ((s.modLb fun l => { l with txLen := len }).lbCtrl (ctrl ||| 1#16)) ∧
      exec (.rxDone ctrl) s = .next (s.lbCtrl (ctrl ||| 2#16)) ∧ exec (.txReset ctrl) s = .next (s.lbCtrl (ctrl ||| 0x10#16)) ∧
      (∃ t, exec (.lbTxDataWrite len) s = .next t ∧ t = { s with host := { s.host with lb := t.host.lb } } ∧
        t.host.lb = { s.host.lb with tx := s.host.lb.tx ++ [len.setWidth 8, (len >>> 8).setWidth 8] }) ∧
      (s.host.lb.rx ≠ [] → ∃ t, exec .lbRxDataRead s = .next t ∧ t = { s with host := { s.host with lb := t.host.lb } } ∧
        t.host.lb = { s.host.lb with rxPos := s.host.lb.rxPos + 2 })) ∧
    (∃ t, s.lbCtrl 0x10 = t ∧ t.host.lb.tx = [] ∧ t.host.lb.txErr = false ∧ t.out = s.out) ∧
    (∀ f rest, s.fired = f :: rest → exec .eventDelivery s = .next (State.deliverFired { s with fired := rest } f)) ∧
    exec (.evtHostRaise who v) s = .next (s.writeAt who R.EVT_HOST_RAISE v) ∧
    (∀ w t, s.regRead who (R.EVT_LAST_DATA src.val) = some (w, t) → exec (.evtLastDataRead who src) s = .next t) ∧
    (∀ t, s.pins.evtOut[pin] = some t → s.past t = true → ∃ u, exec (.evtOutPulseEnd pin) s = .next u ∧
      u = { s with pins := u.pins } ∧ u.pins.evtOut[pin] = none)

/-! ## Granary, housekeeping, startup (14_granary.md, 15_housekeeping.md, 18_startup_faults_modes.md) -/

/-- The Granary (R545-R552, R561, R563): writes and their read-back, lost records, power failure and the dump, the operating time,
and copies.
The model's own choices here: log entry 34. -/
def Obligations.GranaryComplete : Prop :=
  ∀ (s : State) (who : Reader) (met : List (BitVec 16)), s.Canon →
    let g := s.gran
    let slot := s.get F.GRANARY_NEXT_NEXT_SLOT
    let base := 64 * s.get F.GRANARY_COPY_DST_BASE
    let st := s.get F.GRANARY_STAT_STATE
    let ready := s.domainOn 42 = true
    let w := s.touch 42
    (s.mayWrite = true → g.again = none → ∀ r rest, g.fifo = r :: rest → ∃ t, exec .granaryWriteStart s = .next t ∧
      t = { s with gran := t.gran } ∧ t.gran.fifo = rest ∧ t.gran.writing = some ⟨slot, BitVec.ofNat 32 s.nextSeq, r⟩ ∧
      t.gran.lastStart = some s.now) ∧
    (s.mayWrite = true → ∀ x, g.again = some x → ∃ t, exec .granaryWriteStart s = .next t ∧ t = { s with gran := t.gran } ∧ t.gran.fifo = g.fifo ∧
      t.gran.writing = some ⟨slot, BitVec.ofNat 32 s.nextSeq, x.2⟩ ∧ t.gran.again = none) ∧
    (∀ w, g.writing = some w → exec (.granaryWriteDone true) s =
      .next (((s.modGran fun g => { g with writing := none }).modGran fun g => g.put (64 * w.slot) (w.r.octets w.seq.toNat)).wrote w.slot
        w.seq.toNat)) ∧
    (∀ w, g.writing = some w → g.bad.length < 64 → ∃ t, exec (.granaryWriteDone false) s = .next t ∧
        t = { s with regs := t.regs, gran := t.gran, free := t.free, fired := t.fired } ∧ t.gran.bad = g.bad ++ [w.slot] ∧
      t.gran.again = some (w.seq, w.r) ∧ t.gran.writing = none ∧ t.flag F.GRANARY_STAT_VERIFY_ERR = true) ∧
    (∀ w, g.writing = some w → 64 ≤ g.bad.length → ∃ t, exec (.granaryWriteDone false) s = .next t ∧
        t = { s with regs := t.regs, gran := t.gran, free := t.free, fired := t.fired } ∧ t.get F.GRANARY_STAT_STATE = 3 ∧
      t.gran.again = some (w.seq, w.r)) ∧
    (∀ t, g.lowSince = some t → s.past (t + 1000000) = true → g.closed = false → exec .lossRecordStage s =
      .next (forEach (List.finRange 16) s fun s i =>
        let c := s.gran.loss[i]
        if c.n = 0 ∨ 1024 ≤ s.gran.fifo.length then s
        else (s.stageRecord (s.record c.src.toNat 16 5 s.now (lossData i.val c))).modGran fun g => { g with loss := g.loss.set i {} })) ∧
    (let u := s.setPfail true
     (s.boot.cause = 0 → g.pfail = none → exec .powerFail s =
      .next ((u.modGran fun g => { g with pfail := some u.now, closed := false, dumpLost := 0, rose := false }).failRecord 0)) ∧
     (s.boot.cause = 0 → g.pfail.isSome = true → exec .powerFail s = .next (u.modGran fun g => { g with rose := false })) ∧
     (s.boot.cause ≠ 0 → exec .powerFail s = .next u)) ∧
    (∀ t, g.pfail = some t → s.past (t + 50000) = true → exec .dumpStagingClose s = .next (s.modGran fun g => { g with closed := true })) ∧
    (g.closed = true → g.writing = none → g.rose = false → ∃ t, exec .dumpComplete s = .next t ∧ t = { s with gran := t.gran } ∧
      t.gran.fifo = [] ∧ t.gran.checkpoint = BitVec.ofNat 48 s.opTime ∧ t.gran.dump = some (((match g.dump with
        | some d => d.1
        | none => []) ++ (match g.again with
        | some x => [x.2]
        | none => []) ++ g.fifo).take 1024, g.dumpLost)) ∧
    (g.closed = true → g.writing = none → g.rose = true → exec .dumpComplete s = .next s.dumpNow.failOver) ∧
    (let u := s.setPfail false
     let v := u.modGran fun g => { g with rose := true }
     (g.pfail = none → exec .pfailRise s = .next u) ∧
     (g.pfail.isSome = true → g.closed = false ∨ g.dump = none → exec .pfailRise s = .next v) ∧
     (g.pfail.isSome = true → g.closed = true → g.dump.isSome = true → exec .pfailRise s = .next v.failOver)) ∧
    (g.upOwed = true → exec (.granaryPowerUp met) s = .next (s.granaryUp (met.map (·.toNat)))) ∧
    (s.after g.lastCheck 1000000000 = true → exec .optimeCheckpoint s =
      .next (s.modGran fun g => { g with checkpoint := BitVec.ofNat 48 s.opTime, lastCheck := some s.now })) ∧
    (ready → ∃ t, exec (.granaryOptimeLoRead who) s = .next t ∧ t = { w with gran := t.gran } ∧
      t.gran.optHi[readerIdx who] = BitVec.ofNat 16 (s.get F.GRANARY_OPTIME_HI_OP_HI)) ∧
    (¬ ready → exec (.granaryOptimeLoRead who) s = .next ((s.wakeDomain 42).park (.optimeLo who)) ∧
      exec (.granaryCopyStart who) s = .next ((s.wakeDomain 42).park (.copyStart who))) ∧
    (let refused := s.flag F.GRANARY_COPY_CTRL_BUSY = true ∨ st = 1 ∨ st = 2 ∨ siloSize < base + 64 * s.copyCount
     (ready → refused → exec (.granaryCopyStart who) s = .next (w.setFlag F.GRANARY_COPY_CTRL_ERR true)) ∧
     (ready → ¬refused → ∃ t, exec (.granaryCopyStart who) s = .next t ∧
        t = { w with regs := t.regs, gran := t.gran } ∧ t.flag F.GRANARY_COPY_CTRL_BUSY = true ∧
       t.gran.copy = some ⟨s.get F.GRANARY_COPY_SRC_SLOT, s.copyCount, base⟩)) ∧
    (∀ c, g.copy = some c → ∃ t, exec .granaryCopyDone s = .next t ∧
        t = { s with regs := t.regs, gran := t.gran, silo := t.silo } ∧ t.flag F.GRANARY_COPY_CTRL_BUSY = false ∧
      t.flag F.GRANARY_COPY_CTRL_DONE = true ∧ t.gran.copy = none ∧ t.silo = (forEach (List.range c.count) s fun s i =>
        s.siloPut (c.base + 64 * i) (s.gran.read (64 * ((c.slot + i) % 65536)) 64)).silo)

/-- Resets and what they keep, boot, the supervisor pair (R381, R574, R636-R647, R651), and the rounds of housekeeping (R564-R566,
R580, R581).
The model's own choices here: log entries 29, 36, 37, 42 and 46. -/
def Obligations.StartupComplete : Prop :=
  ∀ (s : State) (who : Reader) (ns v ext : BitVec 32) (mode : BitVec 3) (src : BitVec 2) (n : Fin 12) (r : HkRound), s.Canon →
    let down := { s with silo := {}, eng := Vector.replicate 21 {}, holds := {} }
    let fails := allSensors.map fun i => (i, s.tsFails r i)
    let q := fails.foldl (fun (a : State × List (Nat × Sensor)) x =>
      let n := a.1.tsNext r x.2 x.1
      (n.1, if n.2 = 0 then a.2 else a.2 ++ [(n.2, x.1)])) (s, [])
    exec .powerOn s = .next ((down.inReset 1).setReg R.SYS_RESET_CAUSE 0) ∧
    (20 ≤ ns.toNat → exec (.sysResetn ns) s = .next (s.fullReset (s.boot.cause ||| 2))) ∧
    (ns.toNat < 20 → exec (.sysResetn ns) s = .next s) ∧
    (s.supView who = true → exec (.deviceReset who) s = .next (s.fullReset 4) ∧ exec (.coreReset who) s = .next s.coreReset) ∧
    (s.supView who = false → exec (.deviceReset who) s = .next (s.denied who) ∧ exec (.coreReset who) s = .next (s.denied who) ∧
      exec (.sysBootHostStart who v) s = .next (s.denied who)) ∧
    (∀ c, (s.fullReset c).boot.cause = c ∧ (s.fullReset c).pending = s.pending ∧ (s.fullReset c).silo = s.silo ∧
      (s.fullReset c).gran.fifo = [] ∧ (s.fullReset c).gran.key = s.gran.key ∧
      (s.gran.writing = none → (s.fullReset c).gran.array = s.gran.array) ∧
      (∀ w, s.gran.writing = some w → (s.fullReset c).gran.array = (s.gran.put (64 * w.slot) (w.r.octets w.seq.toNat)).array) ∧
      ∀ e : Eng, (s.fullReset c).eng[e] = { mem := s.eng[e].mem }) ∧
    (s.coreReset.lyState = 0 ∧ s.coreReset.flag F.SYS_RESET_CAUSE_CORE = true) ∧
    (s.boot.cause ≠ 0 → s.holds.shutdown = false → ∃ t u, exec (.resetEnd mode src) s = .next t ∧ t = State.axKeyBack u ∧ u.boot.cause = 0 ∧
      u.get F.SYS_STRAPS_MODE = mode.toNat ∧ u.get F.SYS_STRAPS_BOOT_SRC = src.toNat ∧
      u.get F.XK_CFG_PERS = (if mode.toNat < 3 then mode.toNat else 0) ∧ u.flag F.SYS_BOOT_STRAP_ERR = decide (3 ≤ mode.toNat) ∧
      u.time.supDown = false) ∧
    (s.boot.cause = 0 ∨ s.holds.shutdown = true → exec (.resetEnd mode src) s = .next s) ∧
    (s.loading = true → s.boot.image = none →
      let k := s.get F.SYS_STRAPS_BOOT_SRC
      let a := s.slotCheck 0
      let b := s.slotCheck 1
      let host := 2 ≤ k ∨ s.flag F.SYS_BOOT_STRAP_ERR = true
      let t := ((s.put F.SYS_BOOT_FAIL_A a).put F.SYS_BOOT_FAIL_B b).setFlag F.SYS_BOOT_SLOW (s.flash.fitted && !s.flash.quad)
      let slot := if a ≠ 0 then 1 else if b ≠ 0 then 0 else if later 32 (s.imageGen 1 0) (s.imageGen 0 0) then 1 else 0
      (host → exec .bootBegin s = .next (s.put F.SYS_BOOT_STATE 2)) ∧
      (¬host → a ≠ 0 → b ≠ 0 → exec .bootBegin s = .next (t.put F.SYS_BOOT_STATE (if k = 0 then 2 else 3))) ∧
      (¬host → a = 0 ∨ b = 0 → exec .bootBegin s = .next { t with boot := { t.boot with image := some (slot, 0) } })) ∧
    (s.supView who = true → exec (.sysBootHostStart who v) s = .next (s.bootHostWrite v)) ∧
    (∀ x, s.boot.image = some x → s.boot.cause = 0 → exec .bootEnd s = .next (s.bootApply x.1 x.2)) ∧
    (s.time.supDown = false → s.boot.cause = 0 →
      let again := match s.holds.lockstep with
        | some t => !s.elapsed t 60000000000
        | none => false
      let a := s.count F.SYS_SUP_LOCKSTEP
      let b := State.modTime { a with holds := { a.holds with lockstep := some a.now } } fun t =>
        { t with supDown := true, extWritten := false, phase := 0 }
      let c := b.extCheck.setFlag F.TIME_STATUS_SLEWING false
      let d := (if c.fabOn && c.holder then c.releaseKey else c).endLong 0xFF
      (again = false → exec .lockstepMismatch s =
        .next (State.setFlag { d with holds := { d.holds with supRestarting := true } } F.SYS_SUP_RESTARTING true)) ∧
      (again = true →
        let e := (State.setFlag { d with holds := { d.holds with supDead := true } } F.SYS_SUP_SUP_DEAD true).suspendAll
        exec .lockstepMismatch s = .next (if e.flag F.AX_OUT_KEY_OK then e.axKeyLost else e))) ∧
    (s.holds.supRestarting = true → s.gran.journal = none → s.gran.zeroMark = false → ∃ t, exec (.supervisorRestartDone ext) s = .next t ∧
      t.flag F.SYS_SUP_RESTARTING = false ∧ t.holds.supRestarting = false ∧ t.time.supDown = false ∧ t.time.ext = ext ∧ t.time.extWritten = true ∧
      t.holds.supHalt = false ∧ t.eng[(20 : Eng)] = s.eng[(20 : Eng)].fresh) ∧
    (s.roundDue = true → s.holds.shutdown = false →
      (∀ i, q.1.tooHot r = some i → exec (.hkRoundEnd r) s = .next (q.1.shutDown i)) ∧
      (q.1.tooHot r = none → exec (.hkRoundEnd r) s =
        .next (State.lighting (forEach (List.finRange 8) ((q.1.tempDecide q.2).supplies r) fun s a => s.ainNext r a) r))) ∧
    (let a := R.LT_STAT n.val
     (s.regReady a = true → exec (.ltFaultClear who n v) s = .next ((s.touchReg a).plainWrite a ((s.touchReg a).supView who) v)) ∧
     (s.regReady a = false → exec (.ltFaultClear who n v) s = .next ((s.wakeReg a).park (.ltFault who n v)))) ∧
    (s.supView who = true → exec (.beaconClr who) s = .next s.beaconClear) ∧
    (s.supView who = false → exec (.beaconClr who) s = .next s)

/-! ## Display (16_display.md) -/

/-- The display's commands and happenings (R592, R596-R603): commits and their latching, frames, pushes in command mode, the command
queue, and a change of timing.
The model's own choices here: log entry 40. -/
def Obligations.DisplayComplete : Prop :=
  ∀ (s : State) (who : Reader) (o : DOut) (v : BitVec 32), s.Canon →
    let n := o.val
    let d := s.disp[o]
    let pend := s.flag (F.DISP_STAT_COMMIT_PEND n) = true
    let st := s.dispState o
    let tpend := s.flag F.DISP_CTRL_TPEND
    let ready := s.domainOn 30 = true
    let w := s.touch 30
    (¬ ready → exec (.commit who o) s = .next ((s.wakeDomain 30).park (.commit who o)) ∧
      exec (.dispCmdqWrite who o v) s = .next ((s.wakeDomain 30).park (.cmdq who o v)) ∧
      exec (.tcommit who) s = .next ((s.wakeDomain 30).park (.tcommit who))) ∧
    (ready → s.dispSlave o = true ∨ (st ≠ 3 ∧ pend) → exec (.commit who o) s = .next w) ∧
    (ready → s.dispSlave o = false → st ≠ 3 → ¬pend →
      let bad := s.planeBad o 0 = true ∨ s.planeBad o 1 = true ∨ s.rectBad o = true
      (bad → exec (.commit who o) s = .next (w.setFlag F.DISP_CTRL_ERR true)) ∧
      (¬bad → ∃ t, exec (.commit who o) s = .next t ∧
        t = { w with regs := t.regs, disp := t.disp } ∧ t.flag (F.DISP_STAT_COMMIT_PEND n) = true ∧ t.disp[o] = { d with
        commitAt := s.now, late := s.dispVideo o && s.pastFx d.latchAt, waitTe := true, teFrom := s.now })) ∧
    (ready → s.dispSlave o = false → st = 3 → ∃ t, exec (.commit who o) s = .next t ∧
        t = { w with disp := t.disp } ∧ t.disp[o] = { d with again := true, commitAt := s.now }) ∧
    (∀ x, s.dispVideo o = true → pend → d.latched = none → s.pastFx d.latchAt = true → d.latchAt = some x →
      (d.commitAt : Int) * 2 ^ 24 < x →
      let u := s.modDisp o fun d => { d with latched := some (s.dispShadows o), late := false }
      exec (.commitLatch o) s = .next (if d.late then (u.setFlag (F.DISP_STAT_LATE n) true).dispEvent o 2 else u)) ∧
    (st = 1 → d.command = false →
      let gen := s.disp[if s.dispSlave o then (0 : DOut) else o]
      let k := s.halfPixels gen / 2
      let u := (s.count (F.DISP_STAT_UNDERRUN n)).modDisp o fun d =>
        { d with reported := true, dark := some (k / gen.hTotal, k % gen.hTotal) }
      exec (.lineUnderrun o) s = .next (if d.reported then u else u.dispEvent o 4)) ∧
    (tpend = true → exec (.displayFrameStart o) s = .next s.blankDue) ∧
    (∀ t, tpend = false → d.frameEnd = some t → s.dispVideo o = true → s.pastFx (some t) = true →
      let u := s.frameBegin o t
      exec (.displayFrameStart o) s = .next (if u.flag F.DISP_CTRL_LOCK_ACT then u.frameBegin 1 t else u)) ∧
    (s.pushFree o = true → d.teEn = false ∨ d.waitTe = false → exec (.pushStart o) s = .next (s.pushBegin o)) ∧
    (let u := s.modDisp o fun d => { d with teEdges := min 2 (d.teEdges + 1), teFrom := s.now }
     let w := u.modDisp o fun d => { d with waitTe := false }
     let takes := d.teEn = true ∧ pend ∧ st = 1 ∧ (s.stage = 0 ∨ 2 ≤ min 2 (d.teEdges + 1))
     (takes → w.pushFree o = true → exec (.teEdge o) s = .next (w.pushBegin o)) ∧
     (takes → w.pushFree o = false → exec (.teEdge o) s = .next w) ∧
     (d.teEn = false → exec (.teEdge o) s = .next u)) ∧
    (st = 1 → d.command = true → d.teEn = true → d.waitTe = true → pend → s.past (d.teFrom + 100000000) = true →
      let u := ((s.setFlag (F.DISP_STAT_TE_MISS n) true).dispEvent o 6).modDisp o fun d => { d with waitTe := false, teEdges := 2 }
      exec (.teMiss o) s = .next (if u.pushFree o then u.pushBegin o else u)) ∧
    (st = 3 → s.past d.pushEnd = true →
      let u := (s.put (F.DISP_STAT_STATE n) 1).setFlag (F.DISP_STAT_COMMIT_PEND n) d.again
      let w := u.put (F.DISP_FRAME_FRAME n) (u.get (F.DISP_FRAME_FRAME n) + 1)
      exec (.pushComplete o) s = .next ((w.modDisp o fun x => { x with again := false, waitTe := d.again, teFrom := x.commitAt }).blankDue)) ∧
    (ready → d.cmdq.length < 64 → ∃ t, exec (.dispCmdqWrite who o v) s = .next t ∧ t = { w with disp := t.disp } ∧
      t.disp[o] = { d with cmdq := d.cmdq ++ [(v.getLsbD 8, v.setWidth 8)] }) ∧
    (ready → 64 ≤ d.cmdq.length → exec (.dispCmdqWrite who o v) s = .next (w.setFlag F.DISP_CTRL_ERR true)) ∧
    (s.busIdle o = true → d.cmdq ≠ [] → ¬pend → tpend = false → ∃ t, exec (.cmdqSend o) s = .next t ∧
        t = { s with disp := t.disp, out := t.out } ∧
      t.out = s.out ++ [.panel o (d.cmdq.map fun e => (e.1, e.2.setWidth 16))] ∧
      t.disp[o] = { d with
        cmdq := [], queueEnd := s.now + d.cmdq.length * d.tb 6 9 0, bus := d.cmdq.map fun e => (e.1, e.2.setWidth 16), busAt := s.now }) ∧
    (ready → s.supView who = false → exec (.tcommit who) s = .next w) ∧
    (ready → s.supView who = true → tpend = true ∨ s.timingBad = true → exec (.tcommit who) s = .next (w.setFlag F.DISP_CTRL_ERR true)) ∧
    (ready → s.supView who = true → tpend = false → s.timingBad = false → exec (.tcommit who) s = .next ((forEach [(0 : DOut), 1]
      (w.setFlag F.DISP_CTRL_TPEND true) fun s o => if s.dispState o = 0 then s.blankOut o else s).blankDue)) ∧
    (let u := s.blankDue
     let still (o : DOut) := u.dispState o = 0 ∨ u.dispState o = 2
     u.flag F.DISP_CTRL_TPEND = true → still 0 → still 1 →
     let w := (((u.takeTiming 0).takeTiming 1).modDisp 0 fun d => { d with slow := false }).modDisp 1 fun d => { d with slow := false }
     let y := (w.setFlag F.DISP_CTRL_LOCK_ACT (w.flag F.DISP_CTRL_LOCK)).setFlag F.DISP_CTRL_TPEND false
     exec .timingApplied s = .next ((y.dispEvent 0 5).dispEvent 1 5))

/-! ## XK personality (17_xk_personality.md) -/

/-- The XK block (R616-R620, R625, R629-R631): starts and stops, ticks, waits, frames, and the ports of the list and the grid.
The model's own choices here: log entries 38, 41 and 43. -/
def Obligations.XkComplete : Prop :=
  ∀ (s : State) (who : Reader) (h : Chan) (v : BitVec 16) (a : XAxis), s.Canon →
    let n := h.val
    let c := s.xk.chan[h]
    let on := s.pers ≠ 0
    let i := s.get (F.CH_START_BUF n) * 16384 + s.get (F.CH_START_ADDR n)
    let port := s.listAt s.listPort
    let x := s.get F.CORR_ADDR_INDEX
    let grid := s.xkGridAt (s.get F.CORR_ADDR_HEAD) x
    (on → s.chBusy h = false → ∃ t, exec (.chStart who h) s = .next t ∧
        t = { s with regs := t.regs, xk := t.xk } ∧ t.chState h = 1 ∧ t.get (F.CH_STAT_FAULT n) = 0 ∧
      t.chFetch h = i ∧ t.xk.chan[h] = { c with stack := [], loops := [], wait := none, outT := s.nowEt, pcs := [(s.nowEt, i)] }) ∧
    (s.chBusy h = true → exec (.chStart who h) s = .next s) ∧
    (on → ∃ t, exec (.chStop who h) s = .next t ∧ t = { s with xk := t.xk } ∧ t.xk.chan[h] = { c with stopOwed := true }) ∧
    (on → ∃ t, exec (.xkStopAll who) s = .next t ∧ t = { s with xk := t.xk } ∧ ∀ k : Chan, t.xk.chan[k] = { s.xk.chan[k] with stopOwed := true }) ∧
    (on → exec (.xkContinue who) s = .next (forEach (List.finRange 4) s fun s h =>
      if s.xk.chan[h].wait = some .pause then s.xkResume h true else s)) ∧
    (∀ t, on → s.lastTickNs = some t → s.xk.lastTick ≠ some t →
      let u := State.xkStops { s with xk := { s.xk with lastTick := some t } }
      let w := if u.get F.SYS_BAND_BAND = 4 then forEach (List.finRange 4) u fun s h => if s.chBusy h then s.chHalt h 5 else s else u
      let y := forEach (List.finRange 4) w fun s h => s.xkCheck h
      exec .xkTick s = .next (
        if w.allHeld then forEach (List.finRange 4) w fun s h => s.modChan h fun c => { c with outT := max c.outT s.nowEt }
        else if y.tickEmu then xkRunGo (4 * (y.leff / 10 + 2)) y else forEach (List.finRange 4) y fun s h => xkFreeGo h 64 s)) ∧
    (c.wait = some .swap → exec (.xkWaitResume h) s = .next (s.xkSwapNow h)) ∧
    (∀ m, c.wait = some (.sync m) → exec (.xkWaitResume h) s = .next (s.xkSync m)) ∧
    (∀ k, c.wait = some (.var k) → s.get (F.XK_V_V k.toNat) ≠ 0 → exec (.xkWaitResume h) s = .next (s.xkResume h false)) ∧
    (c.wait = some .t4 → s.stage < 4 → exec (.xkWaitResume h) s = .next (s.xkResume h false)) ∧
    (∀ k : Fin 2, c.wait = some (.ax k) → s.axState (xaxOf k) = axIDLE → exec (.xkWaitResume h) s = .next (s.xkResume h false)) ∧
    (c.wait = some .idle → c.outT ≤ s.nowEt + s.leffEt (chanBeam h) → exec (.xkWaitResume h) s = .next (s.xkResume h false)) ∧
    (∀ t, s.lastTickNs = some t → on → s.flag F.XK_CTRL_XY_EN = true → s.xk.lastFrame ≠ some (t + 10000) → exec .xy2Frame s =
      .next (forEach (List.finRange 4) { s with xk := { s.xk with lastFrame := some (t + 10000) } } fun s h => s.xy2Send h (t + 10000))) ∧
    (on → ∃ t, exec (.listLoWrite who v) s = .next t ∧ t = { s with xk := { s.xk with listLo := v } }) ∧
    (on → port + 4 ≤ siloSize → exec (.listHiWrite who v) s = .next
      ((s.setSilo32 port (v.toNat * 65536 + s.xk.listLo.toNat)).put F.LIST_ADDR_ADDR (s.get F.LIST_ADDR_ADDR + 1))) ∧
    (on → s.get F.LIST_ADDR_ADDR < 16383 → ∃ t, exec (.listHiRead who) s = .next t ∧ t = { s with regs := t.regs } ∧
      t.get F.LIST_ADDR_ADDR = s.get F.LIST_ADDR_ADDR + 1) ∧
    (on → x ≤ 8449 → grid + 2 ≤ siloSize → exec (.corrDataWrite who v) s =
      .next (State.put { s with silo := s.silo.write grid 2 v.toNat } F.CORR_ADDR_INDEX (x + 1))) ∧
    (on → exec (.corrDataRead who) s = .next (s.put F.CORR_ADDR_INDEX (x + 1))) ∧
    (on → exec (.xaxSpeedWrite who a v) s = .next (s.axSpeedWrite (xaxOf a) (BitVec.ofNat 32 (min (max 1 v.toNat * 65536) 0xFFFFFFFF)))) ∧
    (on → exec (.xaxAccelWrite who a v) s = .next (s.axAccelWrite (xaxOf a) (BitVec.ofNat 32 (min (v.toNat * 64 * 256) 0xFFFFFFFF)))) ∧
    (on → ∃ t, exec (.xkTickLoRead who) s = .next t ∧ t = { s with xk := t.xk } ∧
      t.xk.tickHi[readerIdx who] = BitVec.ofNat 16 (s.tickCount / 65536)) ∧
    (on → ∃ t, exec (.xaxPosLoRead who a) s = .next t ∧ t = { s with xk := t.xk } ∧
      t.xk.posHi[readerIdx who][a] = BitVec.ofNat 16 (s.get (F.AX_POS_POS (xaxOf a).val) / 65536))

/-- The list commands (R621-R624, R626-R630), each with the bits that it does not name.
The model's own choices here: log entry 41. -/
def Obligations.XkListComplete : Prop :=
  ∀ (s : State) (h : Chan) (a : BitVec 24) (w : BitVec 32) (lit rel : Bool),
    let b := chanBeam h
    let pc := s.chFetch h
    let n := a.toNat
    let ax := xkAxis a
    let v := n / 65536
    let row (i : Instr) (words : Nat) (bad : Bool) (f : State → State) : Prop := s.XkRow h i words bad f
    let chan (i : Instr) (bad : Bool) (f : XkChan → XkChan) : Prop := row i 1 bad fun u => u.modChan h f
    let jump (i : Instr) (p : Nat → Bool) : Prop := row i 1 (a.getLsbD 15) fun u =>
      if p (u.get (F.XK_V_V v)) then u.xkGo h (n % 32768) else u
    row (.xkNop h a) 1 (unnamed a 0) id ∧
    row (.xkFinish h a) 1 (unnamed a 0) (fun u => (((u.xkEndSeq h).put (F.CH_STAT_STATE h.val) 0).xkInt h.val).raise (16 + h.val) (1 + 65536 * pc)) ∧
    row (.xkBranch h a) 1 (unnamed a 0x7FFF) (fun u => u.xkGo h n) ∧
    row (.xkCall h a) 1 (unnamed a 0x7FFF) (fun u => if 8 ≤ u.xk.chan[h].stack.length then u.chHalt h 2
      else (u.modChan h fun c => { c with stack := u.chFetch h :: c.stack }).xkGo h n) ∧
    row (.xkReturn h a) 1 (unnamed a 0) (fun u => match u.xk.chan[h].stack with
      | [] => u.chHalt h 2
      | r :: t => (u.modChan h fun c => { c with stack := t }).xkGo h r) ∧
    row (.xkLoop h a) 1 (unnamed a 0xFFFF || a == 0) (fun u => if 4 ≤ u.xk.chan[h].loops.length then u.chHalt h 2
      else u.modChan h fun c => { c with loops := (u.chFetch h, n) :: c.loops }) ∧
    row (.xkAgain h a) 1 (unnamed a 0) (fun u => match u.xk.chan[h].loops with
      | [] => u.chHalt h 2
      | (r, k) :: t => if k ≤ 1 then u.modChan h fun c => { c with loops := t }
        else (u.modChan h fun c => { c with loops := (r, k - 1) :: t }).xkGo h r) ∧
    row (.xkIdleT h a) 1 false (fun u => if a = 0 then u else (u.xkRest h n false).xkWaits h .idle) ∧
    row (.xkSync h a) 1 (unnamed a 0xF) (fun u => ((u.xkEndSeq h).xkWaits h (.sync n)).xkSync n) ∧
    row (.xkPause h a) 1 (unnamed a 0) (fun u => (u.xkEndSeq h).xkWaits h .pause) ∧
    row (.xkIrq h a) 1 (unnamed a 3) (fun u => (u.xkInt (16 + n % 4)).raise (196 + n % 4) h.val) ∧
    row (.xkWaitAx h a) 1 (unnamed a 1) (fun u => if u.axState ax = axIDLE then u
      else (u.xkEndSeq h).xkWaits h (.ax (if a.getLsbD 0 then 1 else 0))) ∧
    row (.xkWaitV h a) 1 (unnamed a 0xFF) (fun u => if u.get (F.XK_V_V (n % 256)) ≠ 0 then u else (u.xkEndSeq h).xkWaits h (.var (a.setWidth 8))) ∧
    row (.xkSwap h a) 1 (unnamed a 0) (fun u => ((u.xkEndSeq h).xkWaits h .swap).xkSwapNow h) ∧
    row (.xkStroke h lit rel a w) 2 (unnamed a 0xFFFF || decide (65536 ≤ w.toNat)) (fun u =>
      let c := u.xk.chan[h]
      let x := xkTarget rel c.x (n % 65536)
      let y := xkTarget rel c.y (w.toNat % 65536)
      let dx := ((x : Int) - c.x).natAbs
      let dy := ((y : Int) - c.y).natAbs
      if lit then u.xkLit h x y (isqrtUp (dx * dx + dy * dy)) none
      else if u.stage = 4 then ((u.xkEndSeq h).xkGo h pc).modChan h fun c => { c with wait := some .t4 }
      else u.xkTravel h x y) ∧
    row (.xkCurve h rel a w) 2 (unnamed a 0xFFFF) (fun u =>
      let c := u.xk.chan[h]
      let centre (old v : Nat) : Int := if rel then (old : Int) + sgn 16 v else v
      let cx := centre c.x (n % 65536)
      let cy := centre c.y (w.toNat % 65536)
      let sweep : Int := 65536 * sgn 16 (w.toNat / 65536)
      let r2 := (((c.x : Int) - cx) * (c.x - cx) + ((c.y : Int) - cy) * (c.y - cy)).toNat
      let q := turn c.x c.y cx cy sweep (2 ^ 32)
      if sweep = 0 ∨ r2 = 0 then u
      else u.xkLit h (clampI 0 65535 q.1).toNat (clampI 0 65535 q.2).toNat
        (cdivN (isqrtUp (r2 * 2 ^ 64) * twoPiFx * sweep.natAbs) (2 ^ 128)) (some (cx * fxOne, cy * fxOne, sweep))) ∧
    chan (.xkFocus h a) (unnamed a 0xFFFF) (fun c => { c with zs := c.zs ++ [(c.outT + 1, n)] }) ∧
    row (.xkDwell h a) 1 (unnamed a 0xFFFF) (fun u => if a = 0 then u else u.xkRest h n true) ∧
    row (.xkLightOn h a) 1 (unnamed a 0) (fun u =>
      let t := u.xk.chan[h].outT
      State.modChan (if u.xk.chan[h].light || u.beam[b].traj.seq.isSome then u else ((u.xkPower h t).placeRise b t (u.xkSet h)).2) h
        fun c => { c with light := true }) ∧
    row (.xkLightOff h a) 1 (unnamed a 0) (fun u =>
      let q := u.gateTime b u.xk.chan[h].outT
      (((q.2.placeEdge b (cellGate b) { et := q.1, what := .level false }).placeEdge b (cellMod b) { et := q.1, what := .off }).modTraj b
        fun j => { j with lastGate := some q.1, seq := none }).modChan h fun c => { c with light := false }) ∧
    chan (.xkTravelRate h a) false (fun c => { c with travelRate := max 1 n }) ∧
    chan (.xkStrokeRate h a) false (fun c => { c with strokeRate := max 1 n }) ∧
    chan (.xkLightLead h a) (unnamed a 0xFFFF) (fun c => { c with lead := clampI (-100) 100 (sgn 16 n) }) ∧
    chan (.xkLightLag h a) (unnamed a 0xFFFF) (fun c => { c with lag := clampI (-100) 100 (sgn 16 n) }) ∧
    chan (.xkTravelSettle h a) (unnamed a 0xFFFF) (fun c => { c with travelSettle := min 1000 n }) ∧
    chan (.xkStrokeSettle h a) (unnamed a 0xFFFF) (fun c => { c with strokeSettle := min 1000 n }) ∧
    chan (.xkBendSettle h a) (unnamed a 0xFFFF) (fun c => { c with bendSettle := min 1000 n }) ∧
    row (.xkPower h a) 1 (unnamed a 0xFFFF) (fun u =>
      (u.modBeam b fun x => { x with set := { x.set with power := n } }).xkPower h u.xk.chan[h].outT) ∧
    (let pulse (i : Instr) (k : Nat) : Prop := row i 1 false fun u => u.modBeam b fun x => { x with set := (x.set.put k (a.setWidth 32)).1 }
     pulse (.xkModPeriod h a) 12 ∧ pulse (.xkModWidth h a) 13 ∧ pulse (.xkSyncPeriod h a) 14 ∧ pulse (.xkSyncWidth h a) 15) ∧
    row (.xkAxAbs h a w) 2 (unnamed a 1) (fun u => u.xkAxGive h ax 1 w.toInt) ∧
    row (.xkAxRel h a w) 2 (unnamed a 1) (fun u => u.xkAxGive h ax 2 w.toInt) ∧
    row (.xkAxSpeed h a) 1 (unnamed a 0xFFFFF1) (fun u => u.xkSpeed ax (n / 16)) ∧
    row (.xkAxAccel h a) 1 (unnamed a 0xFFFFF1) (fun u => u.xkAccel ax (n / 16)) ∧
    row (.xkAxStop h a) 1 (unnamed a 1) (fun u => u.xkAxGive h ax 4 0) ∧
    row (.xkAxHome h a) 1 (unnamed a 1) (fun u => u.xkAxGive h ax 6 0) ∧
    row (.xkVset h a) 1 false (fun u => u.put (F.XK_V_V v) (n % 65536)) ∧
    row (.xkVadd h a) 1 false (fun u => u.put (F.XK_V_V v) (u.get (F.XK_V_V v) + n % 65536)) ∧
    jump (.xkJz h a) (· == 0) ∧ jump (.xkJnz h a) (· != 0) ∧
    row (.xkDjnz h a) 1 (a.getLsbD 15) (fun u =>
      let u := u.put (F.XK_V_V v) (u.get (F.XK_V_V v) + 65535)
      if u.get (F.XK_V_V v) ≠ 0 then u.xkGo h (n % 32768) else u) ∧
    row (.xkTstamp h a) 1 (unnamed a 0xFF || n % 256 == 255) (fun u =>
      let t := wrap 32 (u.xk.chan[h].outT.fdiv 8)
      (u.put (F.XK_V_V (n % 256)) t).put (F.XK_V_V (n % 256 + 1)) (t / 65536))

/-! ## The machine as a whole: words, steps, reset -/

/-- A program's words and an XK list's words spell the command they encode (R148-R150, R154-R183, R198, R199, R621): every operand
at every value comes back, and a word of 32 bits holds it. -/
def Obligations.EncodingRoundTrip : Prop :=
  (∀ (i : Instr) (w l : Nat), encodeEngine i = some (w, l) → w < 2 ^ 32 ∧ l < 2 ^ 32 ∧ ∃ e, decodeEngine e w l = .ok i) ∧
  (∀ (i : Instr) (w0 w1 : BitVec 32), encodeXk i = some (w0, w1) → ∃ h, decodeXk h w0 w1 = some i)

/-- A step runs the command at the front of the queue, with the queue's rest. -/
def Obligations.StepRunsFrontCommand : Prop :=
  ∀ (c : Instr) (rest : List Instr) (s : State), s.pending = c :: rest → step s = exec c { s with pending := rest }

/-- Every step keeps the canonical form of the register file, of the Silo and of every local memory, and takes from the queue at
most the command at its front; a queue of well-formed commands stays one.
The model's own choices here: log entries 1 and 3. -/
def Obligations.StepKeepsCanonicalForm : Prop :=
  ∀ s t : State, s.Canon → step s = .next t → t.Canon ∧ t.pending = s.pending.tail ∧ (s.QueueWf → t.QueueWf)

/-- Right after reset every register holds its reset value and the stores are canonical (R10), nothing waits, and the device stands
in the reset of log entry 29 (the model's choice); a step without a command is a tick (log entry 1, the model's choice), and the
clock's tick of a time base that runs without slew or frequency offset counts TS32 by one. -/
def Obligations.ResetAndIdle : Prop :=
  State.reset.Canon ∧ State.reset.QueueWf ∧ State.reset.pending = [] ∧ (∀ a, State.reset.reg a = regDefault a) ∧
  State.reset.silo = {} ∧ (∀ e : Eng, State.reset.eng[e] = {}) ∧
  (∀ s : State, s.pending = [] → step s = .next s.tick) ∧
  (∀ s : State, s.boot.cause ≠ 0 → s.tick = s.opTick) ∧
  step State.reset = .next State.reset.opTick ∧
  (∀ s : State, s.time.running = true → s.slewNow = 0 → s.int F.TIME_ADDEND_FREQ = 0 → s.clockTick.time.ts32 = s.time.ts32 + 1)

end
end

