-- ==== Sys2Proof/Laws/Tables.lean ====
section
/-! SUPPORT. Tables and memories keep their canonical form, and read back what was written. -/

namespace Sys2Proof.Machine

theorem tabAbove_trans {α : Type} {m n : Nat} (h : m < n) : ∀ {t : List (Nat × α)}, tabAbove n t = true → tabAbove m t = true
  | [], _ => rfl
  | (_, _) :: t, hn => by
    simp only [tabAbove, Bool.and_eq_true, decide_eq_true_eq] at hn ⊢
    exact ⟨by omega, tabAbove_trans h hn.2⟩

theorem tabAbove_tabSet {α : Type} [DecidableEq α] {d : Nat → α} {n k : Nat} {v : α} (hk : n < k) :
    ∀ {t : List (Nat × α)}, tabAbove n t = true → tabAbove n (tabSet d t k v) = true
  | [], _ => by unfold tabSet; split <;> simp [tabAbove, hk]
  | (j, w) :: t, h => by
    have h' := h
    simp only [tabAbove, Bool.and_eq_true, decide_eq_true_eq] at h'
    unfold tabSet
    split
    · split
      · exact h
      · simp [tabAbove, hk, h'.1, h'.2]
    · split
      · split
        · exact h'.2
        · simp [tabAbove, hk, h'.2]
      · simp [tabAbove, h'.1, tabAbove_tabSet hk h'.2]

/-- Storing a value keeps the canonical form. -/
theorem tabWf_tabSet {α : Type} [DecidableEq α] {d : Nat → α} {k : Nat} {v : α} :
    ∀ {t : List (Nat × α)}, tabWf d t = true → tabWf d (tabSet d t k v) = true
  | [], _ => by
    unfold tabSet
    split
    · rfl
    · next h => simp [tabWf, tabAbove, h]
  | (j, w) :: t, h => by
    have h' := h
    simp only [tabWf, Bool.and_eq_true, decide_eq_true_eq] at h'
    obtain ⟨⟨hw, ha⟩, ht⟩ := h'
    unfold tabSet
    split
    · next hkj =>
      split
      · exact h
      · next hv =>
        simp only [tabWf, tabAbove, Bool.and_eq_true, decide_eq_true_eq]
        exact ⟨⟨hv, hkj, tabAbove_trans hkj ha⟩, ⟨hw, ha⟩, ht⟩
    · next hkj =>
      split
      · next hkj2 =>
        subst hkj2
        split
        · exact ht
        · next hv => simp [tabWf, hv, ha, ht]
      · next hne =>
        simp only [tabWf, Bool.and_eq_true, decide_eq_true_eq]
        exact ⟨⟨hw, tabAbove_tabSet (by omega) ha⟩, tabWf_tabSet ht⟩

theorem tabAbove_filter {α : Type} {n : Nat} {p : Nat × α → Bool} :
    ∀ {t : List (Nat × α)}, tabAbove n t = true → tabAbove n (t.filter p) = true
  | [], _ => rfl
  | (j, w) :: t, h => by
    simp only [tabAbove, Bool.and_eq_true, decide_eq_true_eq] at h
    rw [List.filter_cons]
    split
    · simp [tabAbove, h.1, tabAbove_filter h.2]
    · exact tabAbove_filter h.2

/-- Dropping entries keeps the canonical form. -/
theorem tabWf_filter {α : Type} [DecidableEq α] {d : Nat → α} {p : Nat × α → Bool} :
    ∀ {t : List (Nat × α)}, tabWf d t = true → tabWf d (t.filter p) = true
  | [], _ => rfl
  | (j, w) :: t, h => by
    simp only [tabWf, Bool.and_eq_true, decide_eq_true_eq] at h
    rw [List.filter_cons]
    split
    · simp [tabWf, h.1.1, tabAbove_filter h.1.2, tabWf_filter h.2]
    · exact tabWf_filter h.2

theorem tabGet_above {α : Type} {d : Nat → α} {k : Nat} : ∀ {t : List (Nat × α)}, tabAbove k t = true → tabGet d t k = d k
  | [], _ => rfl
  | (j, w) :: t, h => by
    simp only [tabAbove, Bool.and_eq_true, decide_eq_true_eq] at h
    unfold tabGet
    rw [if_neg (by omega), if_pos h.1]

/-- The key written reads as the value written. -/
theorem tabGet_tabSet_same {α : Type} [DecidableEq α] {d : Nat → α} {k : Nat} {v : α} :
    ∀ {t : List (Nat × α)}, tabWf d t = true → tabGet d (tabSet d t k v) k = v
  | [], _ => by
    unfold tabSet
    split
    · next h => simp [tabGet, h]
    · simp [tabGet]
  | (j, w) :: t, h => by
    simp only [tabWf, Bool.and_eq_true, decide_eq_true_eq] at h
    obtain ⟨⟨_, ha⟩, ht⟩ := h
    unfold tabSet
    split
    · next hkj =>
      split
      · next hv => unfold tabGet; rw [if_neg (by omega), if_pos hkj]; exact hv.symm
      · simp [tabGet]
    · next hkj =>
      split
      · next e =>
        subst e
        split
        · next hv => rw [tabGet_above ha]; exact hv.symm
        · simp [tabGet]
      · next hne =>
        unfold tabGet
        rw [if_neg hne, if_neg (by omega)]
        exact tabGet_tabSet_same ht

/-- Every other key reads as before. -/
theorem tabGet_tabSet_other {α : Type} [DecidableEq α] {d : Nat → α} {k a : Nat} {v : α} (hk : a ≠ k) :
    ∀ {t : List (Nat × α)}, tabWf d t = true → tabGet d (tabSet d t k v) a = tabGet d t a
  | [], _ => by
    unfold tabSet
    split
    · rfl
    · unfold tabGet; rw [if_neg hk]; split <;> rfl
  | (j, w) :: t, h => by
    have hw := h
    simp only [tabWf, Bool.and_eq_true, decide_eq_true_eq] at h
    obtain ⟨⟨_, ha⟩, ht⟩ := h
    unfold tabSet
    split
    · next hkj =>
      split
      · rfl
      · by_cases hak : a < k
        · simp [tabGet, hk, hak, show a ≠ j by omega, show a < j by omega]
        · conv_lhs => unfold tabGet
          rw [if_neg hk, if_neg hak]
    · split
      · next e =>
        subst e
        split
        · by_cases hak : a < k
          · simp only [tabGet, if_neg hk, if_pos hak]
            exact tabGet_above (tabAbove_trans hak ha)
          · simp [tabGet, hk, hak]
        · simp [tabGet, hk]
      · next hne =>
        by_cases haj : a = j
        · simp [tabGet, haj]
        · by_cases hlt : a < j
          · simp [tabGet, haj, hlt]
          · simp only [tabGet, if_neg haj, if_neg hlt]
            exact tabGet_tabSet_other hk ht

/-! ## Memories -/

theorem MemR.wf_setByte {m : MemR} {a : Nat} {v : Byte} (h : Mem.wf m.cells = true) : Mem.wf (m.setByte a v).cells = true :=
  tabWf_tabSet h

theorem MemR.wf_write {n : Nat} : ∀ {m : MemR} {a v : Nat}, Mem.wf m.cells = true → Mem.wf (m.write a n v).cells = true := by
  induction n with
  | zero => intro m a v h; exact h
  | succ n ih => intro m a v h; exact ih (MemR.wf_setByte h)

theorem MemR.wf_setBytes : ∀ {l : List Byte} {m : MemR} {a : Nat}, Mem.wf m.cells = true → Mem.wf (m.setBytes a l).cells = true
  | [], _, _, h => h
  | v :: t, m, a, h => MemR.wf_setBytes (l := t) (m := m.setByte a v) (MemR.wf_setByte h)

@[simp] theorem MemR.correct_cells (m : MemR) (a n : Nat) : (m.correct a n).cells = m.cells := rfl
@[simp] theorem MemR.renew_cells (m : MemR) (a n : Nat) : (m.renew a n).cells = m.cells := rfl

/-- A byte written reads back. -/
theorem MemR.byte_setByte_same {m : MemR} {a : Nat} {v : Byte} (h : Mem.wf m.cells = true) : (m.setByte a v).byte a = v :=
  tabGet_tabSet_same h

/-- Every other byte reads as before. -/
theorem MemR.byte_setByte_other {m : MemR} {a b : Nat} {v : Byte} (h : Mem.wf m.cells = true) (hb : b ≠ a) :
    (m.setByte a v).byte b = m.byte b :=
  tabGet_tabSet_other hb h

/-- A write of n bytes leaves every byte outside them alone. -/
theorem MemR.byte_write_other {n : Nat} : ∀ {m : MemR} {a v b : Nat}, Mem.wf m.cells = true → (b < a ∨ a + n ≤ b) →
    (m.write a n v).byte b = m.byte b := by
  induction n with
  | zero => intro m a v b _ _; rfl
  | succ n ih =>
    intro m a v b h hb
    exact (ih (MemR.wf_setByte h) (by omega)).trans (MemR.byte_setByte_other h (by omega))

/-- Byte k of a write of n bytes reads back. -/
theorem MemR.byte_write_same {n : Nat} : ∀ {m : MemR} {a v k : Nat}, Mem.wf m.cells = true → k < n →
    (m.write a n v).byte (a + k) = BitVec.ofNat 8 (v / 256 ^ k) := by
  induction n with
  | zero => intro m a v k _ h; omega
  | succ n ih =>
    intro m a v k h hk
    show ((m.setByte a (BitVec.ofNat 8 v)).write (a + 1) n (v / 256)).byte (a + k) = _
    cases k with
    | zero =>
      rw [MemR.byte_write_other (MemR.wf_setByte h) (by omega), Nat.add_zero, MemR.byte_setByte_same h]
      simp
    | succ k =>
      rw [show a + (k + 1) = a + 1 + k by omega, ih (MemR.wf_setByte h) (by omega), Nat.div_div_eq_div_mul, pow_succ, mul_comm]

/-- A store, in the words of Safety. -/
theorem MemR.stores_write {m : MemR} {a n v : Nat} (h : Mem.wf m.cells = true) : m.Stores (m.write a n v) a n v :=
  ⟨fun _ hk => MemR.byte_write_same h hk, fun _ hb => MemR.byte_write_other h hb⟩

/-- Bits that mark errors do not show in the bytes. -/
@[simp] theorem MemR.byte_renew (m : MemR) (a n b : Nat) : (m.renew a n).byte b = m.byte b := rfl
@[simp] theorem MemR.byte_correct (m : MemR) (a n b : Nat) : (m.correct a n).byte b = m.byte b := rfl

/-! ## The register file -/

/-- A register written reads back. -/
theorem State.reg_setReg_same {s : State} {a : Nat} {v : Word} (h : tabWf regDefault s.regs = true) : (s.setReg a v).reg a = v :=
  tabGet_tabSet_same h

/-- Every other register reads as before. -/
theorem State.reg_setReg_other {s : State} {a b : Nat} {v : Word} (h : tabWf regDefault s.regs = true) (hb : b ≠ a) :
    (s.setReg a v).reg b = s.reg b :=
  tabGet_tabSet_other hb h

end Sys2Proof.Machine
end

