-- ==== Sys2Proof/Laws/State.lean ====
section
/-! SUPPORT. What each update of State leaves in each of its fields: one lemma per field and update. -/

namespace Sys2Proof.Machine

/-! ## One entry of a vector -/

theorem vmod_same {α : Type} {n : Nat} (v : Vector α n) (i : Fin n) (f : α → α) : (vmod v i f)[i] = f v[i] := by
  simp [vmod]

/-- The same, in the form simp brings an index to. -/
@[simp] theorem vmod_same_val {α : Type} {n : Nat} (v : Vector α n) (i : Fin n) (f : α → α) : (vmod v i f)[i.val] = f v[i.val] :=
  vmod_same v i f

theorem vmod_other {α : Type} {n : Nat} (v : Vector α n) {i j : Fin n} (f : α → α) (h : j ≠ i) : (vmod v i f)[j] = v[j] := by
  have : i.val ≠ j.val := fun e => h (Fin.ext e.symm)
  simp [vmod, this]

theorem vmod_get {α : Type} {n : Nat} (v : Vector α n) (i j : Fin n) (f : α → α) :
    (vmod v i f)[j] = if j = i then f v[j] else v[j] := by
  by_cases h : j = i
  · subst h
    rw [vmod_same, if_pos rfl]
  · rw [vmod_other v f h, if_neg h]

variable (s : State)

/-! ## setReg -/

@[simp] theorem State.setReg_pending (a : Nat) (v : Word) : (s.setReg a v).pending = s.pending := rfl
@[simp] theorem State.setReg_waiting (a : Nat) (v : Word) : (s.setReg a v).waiting = s.waiting := rfl
@[simp] theorem State.setReg_regs (a : Nat) (v : Word) : (s.setReg a v).regs = tabSet regDefault s.regs a v := rfl
@[simp] theorem State.setReg_silo (a : Nat) (v : Word) : (s.setReg a v).silo = s.silo := rfl
@[simp] theorem State.setReg_time (a : Nat) (v : Word) : (s.setReg a v).time = s.time := rfl
@[simp] theorem State.setReg_cells (a : Nat) (v : Word) : (s.setReg a v).cells = s.cells := rfl
@[simp] theorem State.setReg_transit (a : Nat) (v : Word) : (s.setReg a v).transit = s.transit := rfl
@[simp] theorem State.setReg_power (a : Nat) (v : Word) : (s.setReg a v).power = s.power := rfl
@[simp] theorem State.setReg_bed (a : Nat) (v : Word) : (s.setReg a v).bed = s.bed := rfl
@[simp] theorem State.setReg_layer (a : Nat) (v : Word) : (s.setReg a v).layer = s.layer := rfl
@[simp] theorem State.setReg_eng (a : Nat) (v : Word) : (s.setReg a v).eng = s.eng := rfl
@[simp] theorem State.setReg_beam (a : Nat) (v : Word) : (s.setReg a v).beam = s.beam := rfl
@[simp] theorem State.setReg_arb (a : Nat) (v : Word) : (s.setReg a v).arb = s.arb := rfl
@[simp] theorem State.setReg_loops (a : Nat) (v : Word) : (s.setReg a v).loops = s.loops := rfl
@[simp] theorem State.setReg_loopDev (a : Nat) (v : Word) : (s.setReg a v).loopDev = s.loopDev := rfl
@[simp] theorem State.setReg_lanes (a : Nat) (v : Word) : (s.setReg a v).lanes = s.lanes := rfl
@[simp] theorem State.setReg_eye (a : Nat) (v : Word) : (s.setReg a v).eye = s.eye := rfl
@[simp] theorem State.setReg_streams (a : Nat) (v : Word) : (s.setReg a v).streams = s.streams := rfl
@[simp] theorem State.setReg_pipes (a : Nat) (v : Word) : (s.setReg a v).pipes = s.pipes := rfl
@[simp] theorem State.setReg_fabric (a : Nat) (v : Word) : (s.setReg a v).fabric = s.fabric := rfl
@[simp] theorem State.setReg_axes (a : Nat) (v : Word) : (s.setReg a v).axes = s.axes := rfl
@[simp] theorem State.setReg_enc (a : Nat) (v : Word) : (s.setReg a v).enc = s.enc := rfl
@[simp] theorem State.setReg_host (a : Nat) (v : Word) : (s.setReg a v).host = s.host := rfl
@[simp] theorem State.setReg_gran (a : Nat) (v : Word) : (s.setReg a v).gran = s.gran := rfl
@[simp] theorem State.setReg_hk (a : Nat) (v : Word) : (s.setReg a v).hk = s.hk := rfl
@[simp] theorem State.setReg_disp (a : Nat) (v : Word) : (s.setReg a v).disp = s.disp := rfl
@[simp] theorem State.setReg_xk (a : Nat) (v : Word) : (s.setReg a v).xk = s.xk := rfl
@[simp] theorem State.setReg_boot (a : Nat) (v : Word) : (s.setReg a v).boot = s.boot := rfl
@[simp] theorem State.setReg_flash (a : Nat) (v : Word) : (s.setReg a v).flash = s.flash := rfl
@[simp] theorem State.setReg_pins (a : Nat) (v : Word) : (s.setReg a v).pins = s.pins := rfl
@[simp] theorem State.setReg_holds (a : Nat) (v : Word) : (s.setReg a v).holds = s.holds := rfl
@[simp] theorem State.setReg_fired (a : Nat) (v : Word) : (s.setReg a v).fired = s.fired := rfl
@[simp] theorem State.setReg_out (a : Nat) (v : Word) : (s.setReg a v).out = s.out := rfl
@[simp] theorem State.setReg_free (a : Nat) (v : Word) : (s.setReg a v).free = s.free := rfl

/-! ## put -/

@[simp] theorem State.put_pending (f : Fld) (n : Nat) : (s.put f n).pending = s.pending := rfl
@[simp] theorem State.put_waiting (f : Fld) (n : Nat) : (s.put f n).waiting = s.waiting := rfl
@[simp] theorem State.put_silo (f : Fld) (n : Nat) : (s.put f n).silo = s.silo := rfl
@[simp] theorem State.put_time (f : Fld) (n : Nat) : (s.put f n).time = s.time := rfl
@[simp] theorem State.put_cells (f : Fld) (n : Nat) : (s.put f n).cells = s.cells := rfl
@[simp] theorem State.put_transit (f : Fld) (n : Nat) : (s.put f n).transit = s.transit := rfl
@[simp] theorem State.put_power (f : Fld) (n : Nat) : (s.put f n).power = s.power := rfl
@[simp] theorem State.put_bed (f : Fld) (n : Nat) : (s.put f n).bed = s.bed := rfl
@[simp] theorem State.put_layer (f : Fld) (n : Nat) : (s.put f n).layer = s.layer := rfl
@[simp] theorem State.put_eng (f : Fld) (n : Nat) : (s.put f n).eng = s.eng := rfl
@[simp] theorem State.put_beam (f : Fld) (n : Nat) : (s.put f n).beam = s.beam := rfl
@[simp] theorem State.put_arb (f : Fld) (n : Nat) : (s.put f n).arb = s.arb := rfl
@[simp] theorem State.put_loops (f : Fld) (n : Nat) : (s.put f n).loops = s.loops := rfl
@[simp] theorem State.put_loopDev (f : Fld) (n : Nat) : (s.put f n).loopDev = s.loopDev := rfl
@[simp] theorem State.put_lanes (f : Fld) (n : Nat) : (s.put f n).lanes = s.lanes := rfl
@[simp] theorem State.put_eye (f : Fld) (n : Nat) : (s.put f n).eye = s.eye := rfl
@[simp] theorem State.put_streams (f : Fld) (n : Nat) : (s.put f n).streams = s.streams := rfl
@[simp] theorem State.put_pipes (f : Fld) (n : Nat) : (s.put f n).pipes = s.pipes := rfl
@[simp] theorem State.put_fabric (f : Fld) (n : Nat) : (s.put f n).fabric = s.fabric := rfl
@[simp] theorem State.put_axes (f : Fld) (n : Nat) : (s.put f n).axes = s.axes := rfl
@[simp] theorem State.put_enc (f : Fld) (n : Nat) : (s.put f n).enc = s.enc := rfl
@[simp] theorem State.put_host (f : Fld) (n : Nat) : (s.put f n).host = s.host := rfl
@[simp] theorem State.put_gran (f : Fld) (n : Nat) : (s.put f n).gran = s.gran := rfl
@[simp] theorem State.put_hk (f : Fld) (n : Nat) : (s.put f n).hk = s.hk := rfl
@[simp] theorem State.put_disp (f : Fld) (n : Nat) : (s.put f n).disp = s.disp := rfl
@[simp] theorem State.put_xk (f : Fld) (n : Nat) : (s.put f n).xk = s.xk := rfl
@[simp] theorem State.put_boot (f : Fld) (n : Nat) : (s.put f n).boot = s.boot := rfl
@[simp] theorem State.put_flash (f : Fld) (n : Nat) : (s.put f n).flash = s.flash := rfl
@[simp] theorem State.put_pins (f : Fld) (n : Nat) : (s.put f n).pins = s.pins := rfl
@[simp] theorem State.put_holds (f : Fld) (n : Nat) : (s.put f n).holds = s.holds := rfl
@[simp] theorem State.put_fired (f : Fld) (n : Nat) : (s.put f n).fired = s.fired := rfl
@[simp] theorem State.put_out (f : Fld) (n : Nat) : (s.put f n).out = s.out := rfl
@[simp] theorem State.put_free (f : Fld) (n : Nat) : (s.put f n).free = s.free := rfl

/-! ## setFlag -/

@[simp] theorem State.setFlag_pending (f : Fld) (v : Bool) : (s.setFlag f v).pending = s.pending := rfl
@[simp] theorem State.setFlag_waiting (f : Fld) (v : Bool) : (s.setFlag f v).waiting = s.waiting := rfl
@[simp] theorem State.setFlag_silo (f : Fld) (v : Bool) : (s.setFlag f v).silo = s.silo := rfl
@[simp] theorem State.setFlag_time (f : Fld) (v : Bool) : (s.setFlag f v).time = s.time := rfl
@[simp] theorem State.setFlag_cells (f : Fld) (v : Bool) : (s.setFlag f v).cells = s.cells := rfl
@[simp] theorem State.setFlag_transit (f : Fld) (v : Bool) : (s.setFlag f v).transit = s.transit := rfl
@[simp] theorem State.setFlag_power (f : Fld) (v : Bool) : (s.setFlag f v).power = s.power := rfl
@[simp] theorem State.setFlag_bed (f : Fld) (v : Bool) : (s.setFlag f v).bed = s.bed := rfl
@[simp] theorem State.setFlag_layer (f : Fld) (v : Bool) : (s.setFlag f v).layer = s.layer := rfl
@[simp] theorem State.setFlag_eng (f : Fld) (v : Bool) : (s.setFlag f v).eng = s.eng := rfl
@[simp] theorem State.setFlag_beam (f : Fld) (v : Bool) : (s.setFlag f v).beam = s.beam := rfl
@[simp] theorem State.setFlag_arb (f : Fld) (v : Bool) : (s.setFlag f v).arb = s.arb := rfl
@[simp] theorem State.setFlag_loops (f : Fld) (v : Bool) : (s.setFlag f v).loops = s.loops := rfl
@[simp] theorem State.setFlag_loopDev (f : Fld) (v : Bool) : (s.setFlag f v).loopDev = s.loopDev := rfl
@[simp] theorem State.setFlag_lanes (f : Fld) (v : Bool) : (s.setFlag f v).lanes = s.lanes := rfl
@[simp] theorem State.setFlag_eye (f : Fld) (v : Bool) : (s.setFlag f v).eye = s.eye := rfl
@[simp] theorem State.setFlag_streams (f : Fld) (v : Bool) : (s.setFlag f v).streams = s.streams := rfl
@[simp] theorem State.setFlag_pipes (f : Fld) (v : Bool) : (s.setFlag f v).pipes = s.pipes := rfl
@[simp] theorem State.setFlag_fabric (f : Fld) (v : Bool) : (s.setFlag f v).fabric = s.fabric := rfl
@[simp] theorem State.setFlag_axes (f : Fld) (v : Bool) : (s.setFlag f v).axes = s.axes := rfl
@[simp] theorem State.setFlag_enc (f : Fld) (v : Bool) : (s.setFlag f v).enc = s.enc := rfl
@[simp] theorem State.setFlag_host (f : Fld) (v : Bool) : (s.setFlag f v).host = s.host := rfl
@[simp] theorem State.setFlag_gran (f : Fld) (v : Bool) : (s.setFlag f v).gran = s.gran := rfl
@[simp] theorem State.setFlag_hk (f : Fld) (v : Bool) : (s.setFlag f v).hk = s.hk := rfl
@[simp] theorem State.setFlag_disp (f : Fld) (v : Bool) : (s.setFlag f v).disp = s.disp := rfl
@[simp] theorem State.setFlag_xk (f : Fld) (v : Bool) : (s.setFlag f v).xk = s.xk := rfl
@[simp] theorem State.setFlag_boot (f : Fld) (v : Bool) : (s.setFlag f v).boot = s.boot := rfl
@[simp] theorem State.setFlag_flash (f : Fld) (v : Bool) : (s.setFlag f v).flash = s.flash := rfl
@[simp] theorem State.setFlag_pins (f : Fld) (v : Bool) : (s.setFlag f v).pins = s.pins := rfl
@[simp] theorem State.setFlag_holds (f : Fld) (v : Bool) : (s.setFlag f v).holds = s.holds := rfl
@[simp] theorem State.setFlag_fired (f : Fld) (v : Bool) : (s.setFlag f v).fired = s.fired := rfl
@[simp] theorem State.setFlag_out (f : Fld) (v : Bool) : (s.setFlag f v).out = s.out := rfl
@[simp] theorem State.setFlag_free (f : Fld) (v : Bool) : (s.setFlag f v).free = s.free := rfl

/-! ## send -/

@[simp] theorem State.send_pending (o : Out) : (s.send o).pending = s.pending := rfl
@[simp] theorem State.send_waiting (o : Out) : (s.send o).waiting = s.waiting := rfl
@[simp] theorem State.send_regs (o : Out) : (s.send o).regs = s.regs := rfl
@[simp] theorem State.send_silo (o : Out) : (s.send o).silo = s.silo := rfl
@[simp] theorem State.send_time (o : Out) : (s.send o).time = s.time := rfl
@[simp] theorem State.send_cells (o : Out) : (s.send o).cells = s.cells := rfl
@[simp] theorem State.send_transit (o : Out) : (s.send o).transit = s.transit := rfl
@[simp] theorem State.send_power (o : Out) : (s.send o).power = s.power := rfl
@[simp] theorem State.send_bed (o : Out) : (s.send o).bed = s.bed := rfl
@[simp] theorem State.send_layer (o : Out) : (s.send o).layer = s.layer := rfl
@[simp] theorem State.send_eng (o : Out) : (s.send o).eng = s.eng := rfl
@[simp] theorem State.send_beam (o : Out) : (s.send o).beam = s.beam := rfl
@[simp] theorem State.send_arb (o : Out) : (s.send o).arb = s.arb := rfl
@[simp] theorem State.send_loops (o : Out) : (s.send o).loops = s.loops := rfl
@[simp] theorem State.send_loopDev (o : Out) : (s.send o).loopDev = s.loopDev := rfl
@[simp] theorem State.send_lanes (o : Out) : (s.send o).lanes = s.lanes := rfl
@[simp] theorem State.send_eye (o : Out) : (s.send o).eye = s.eye := rfl
@[simp] theorem State.send_streams (o : Out) : (s.send o).streams = s.streams := rfl
@[simp] theorem State.send_pipes (o : Out) : (s.send o).pipes = s.pipes := rfl
@[simp] theorem State.send_fabric (o : Out) : (s.send o).fabric = s.fabric := rfl
@[simp] theorem State.send_axes (o : Out) : (s.send o).axes = s.axes := rfl
@[simp] theorem State.send_enc (o : Out) : (s.send o).enc = s.enc := rfl
@[simp] theorem State.send_host (o : Out) : (s.send o).host = s.host := rfl
@[simp] theorem State.send_gran (o : Out) : (s.send o).gran = s.gran := rfl
@[simp] theorem State.send_hk (o : Out) : (s.send o).hk = s.hk := rfl
@[simp] theorem State.send_disp (o : Out) : (s.send o).disp = s.disp := rfl
@[simp] theorem State.send_xk (o : Out) : (s.send o).xk = s.xk := rfl
@[simp] theorem State.send_boot (o : Out) : (s.send o).boot = s.boot := rfl
@[simp] theorem State.send_flash (o : Out) : (s.send o).flash = s.flash := rfl
@[simp] theorem State.send_pins (o : Out) : (s.send o).pins = s.pins := rfl
@[simp] theorem State.send_holds (o : Out) : (s.send o).holds = s.holds := rfl
@[simp] theorem State.send_fired (o : Out) : (s.send o).fired = s.fired := rfl
@[simp] theorem State.send_out (o : Out) : (s.send o).out = s.out ++ [o] := rfl
@[simp] theorem State.send_free (o : Out) : (s.send o).free = s.free := rfl
@[simp] theorem State.send_reg (o : Out) (k : Nat) : (s.send o).reg k = s.reg k := rfl
@[simp] theorem State.send_get (o : Out) (k : Fld) : (s.send o).get k = s.get k := rfl
@[simp] theorem State.send_flag (o : Out) (k : Fld) : (s.send o).flag k = s.flag k := rfl
@[simp] theorem State.send_now (o : Out) : (s.send o).now = s.now := rfl

/-! ## setSilo32 -/

@[simp] theorem State.setSilo32_pending (a v : Nat) : (s.setSilo32 a v).pending = s.pending := rfl
@[simp] theorem State.setSilo32_waiting (a v : Nat) : (s.setSilo32 a v).waiting = s.waiting := rfl
@[simp] theorem State.setSilo32_regs (a v : Nat) : (s.setSilo32 a v).regs = s.regs := rfl
@[simp] theorem State.setSilo32_silo (a v : Nat) : (s.setSilo32 a v).silo = s.silo.write a 4 v := rfl
@[simp] theorem State.setSilo32_time (a v : Nat) : (s.setSilo32 a v).time = s.time := rfl
@[simp] theorem State.setSilo32_cells (a v : Nat) : (s.setSilo32 a v).cells = s.cells := rfl
@[simp] theorem State.setSilo32_transit (a v : Nat) : (s.setSilo32 a v).transit = s.transit := rfl
@[simp] theorem State.setSilo32_power (a v : Nat) : (s.setSilo32 a v).power = s.power := rfl
@[simp] theorem State.setSilo32_bed (a v : Nat) : (s.setSilo32 a v).bed = s.bed := rfl
@[simp] theorem State.setSilo32_layer (a v : Nat) : (s.setSilo32 a v).layer = s.layer := rfl
@[simp] theorem State.setSilo32_eng (a v : Nat) : (s.setSilo32 a v).eng = s.eng := rfl
@[simp] theorem State.setSilo32_beam (a v : Nat) : (s.setSilo32 a v).beam = s.beam := rfl
@[simp] theorem State.setSilo32_arb (a v : Nat) : (s.setSilo32 a v).arb = s.arb := rfl
@[simp] theorem State.setSilo32_loops (a v : Nat) : (s.setSilo32 a v).loops = s.loops := rfl
@[simp] theorem State.setSilo32_loopDev (a v : Nat) : (s.setSilo32 a v).loopDev = s.loopDev := rfl
@[simp] theorem State.setSilo32_lanes (a v : Nat) : (s.setSilo32 a v).lanes = s.lanes := rfl
@[simp] theorem State.setSilo32_eye (a v : Nat) : (s.setSilo32 a v).eye = s.eye := rfl
@[simp] theorem State.setSilo32_streams (a v : Nat) : (s.setSilo32 a v).streams = s.streams := rfl
@[simp] theorem State.setSilo32_pipes (a v : Nat) : (s.setSilo32 a v).pipes = s.pipes := rfl
@[simp] theorem State.setSilo32_fabric (a v : Nat) : (s.setSilo32 a v).fabric = s.fabric := rfl
@[simp] theorem State.setSilo32_axes (a v : Nat) : (s.setSilo32 a v).axes = s.axes := rfl
@[simp] theorem State.setSilo32_enc (a v : Nat) : (s.setSilo32 a v).enc = s.enc := rfl
@[simp] theorem State.setSilo32_host (a v : Nat) : (s.setSilo32 a v).host = s.host := rfl
@[simp] theorem State.setSilo32_gran (a v : Nat) : (s.setSilo32 a v).gran = s.gran := rfl
@[simp] theorem State.setSilo32_hk (a v : Nat) : (s.setSilo32 a v).hk = s.hk := rfl
@[simp] theorem State.setSilo32_disp (a v : Nat) : (s.setSilo32 a v).disp = s.disp := rfl
@[simp] theorem State.setSilo32_xk (a v : Nat) : (s.setSilo32 a v).xk = s.xk := rfl
@[simp] theorem State.setSilo32_boot (a v : Nat) : (s.setSilo32 a v).boot = s.boot := rfl
@[simp] theorem State.setSilo32_flash (a v : Nat) : (s.setSilo32 a v).flash = s.flash := rfl
@[simp] theorem State.setSilo32_pins (a v : Nat) : (s.setSilo32 a v).pins = s.pins := rfl
@[simp] theorem State.setSilo32_holds (a v : Nat) : (s.setSilo32 a v).holds = s.holds := rfl
@[simp] theorem State.setSilo32_fired (a v : Nat) : (s.setSilo32 a v).fired = s.fired := rfl
@[simp] theorem State.setSilo32_out (a v : Nat) : (s.setSilo32 a v).out = s.out := rfl
@[simp] theorem State.setSilo32_free (a v : Nat) : (s.setSilo32 a v).free = s.free := rfl
@[simp] theorem State.setSilo32_reg (a v : Nat) (k : Nat) : (s.setSilo32 a v).reg k = s.reg k := rfl
@[simp] theorem State.setSilo32_get (a v : Nat) (k : Fld) : (s.setSilo32 a v).get k = s.get k := rfl
@[simp] theorem State.setSilo32_flag (a v : Nat) (k : Fld) : (s.setSilo32 a v).flag k = s.flag k := rfl
@[simp] theorem State.setSilo32_now (a v : Nat) : (s.setSilo32 a v).now = s.now := rfl

/-! ## touch -/

@[simp] theorem State.touch_pending (d : Fin 44) : (s.touch d).pending = s.pending := rfl
@[simp] theorem State.touch_waiting (d : Fin 44) : (s.touch d).waiting = s.waiting := rfl
@[simp] theorem State.touch_regs (d : Fin 44) : (s.touch d).regs = s.regs := rfl
@[simp] theorem State.touch_silo (d : Fin 44) : (s.touch d).silo = s.silo := rfl
@[simp] theorem State.touch_time (d : Fin 44) : (s.touch d).time = s.time := rfl
@[simp] theorem State.touch_cells (d : Fin 44) : (s.touch d).cells = s.cells := rfl
@[simp] theorem State.touch_transit (d : Fin 44) : (s.touch d).transit = s.transit := rfl
@[simp] theorem State.touch_power (d : Fin 44) : (s.touch d).power = vmod s.power d fun _ => ⟨s.now⟩ := rfl
@[simp] theorem State.touch_bed (d : Fin 44) : (s.touch d).bed = s.bed := rfl
@[simp] theorem State.touch_layer (d : Fin 44) : (s.touch d).layer = s.layer := rfl
@[simp] theorem State.touch_eng (d : Fin 44) : (s.touch d).eng = s.eng := rfl
@[simp] theorem State.touch_beam (d : Fin 44) : (s.touch d).beam = s.beam := rfl
@[simp] theorem State.touch_arb (d : Fin 44) : (s.touch d).arb = s.arb := rfl
@[simp] theorem State.touch_loops (d : Fin 44) : (s.touch d).loops = s.loops := rfl
@[simp] theorem State.touch_loopDev (d : Fin 44) : (s.touch d).loopDev = s.loopDev := rfl
@[simp] theorem State.touch_lanes (d : Fin 44) : (s.touch d).lanes = s.lanes := rfl
@[simp] theorem State.touch_eye (d : Fin 44) : (s.touch d).eye = s.eye := rfl
@[simp] theorem State.touch_streams (d : Fin 44) : (s.touch d).streams = s.streams := rfl
@[simp] theorem State.touch_pipes (d : Fin 44) : (s.touch d).pipes = s.pipes := rfl
@[simp] theorem State.touch_fabric (d : Fin 44) : (s.touch d).fabric = s.fabric := rfl
@[simp] theorem State.touch_axes (d : Fin 44) : (s.touch d).axes = s.axes := rfl
@[simp] theorem State.touch_enc (d : Fin 44) : (s.touch d).enc = s.enc := rfl
@[simp] theorem State.touch_host (d : Fin 44) : (s.touch d).host = s.host := rfl
@[simp] theorem State.touch_gran (d : Fin 44) : (s.touch d).gran = s.gran := rfl
@[simp] theorem State.touch_hk (d : Fin 44) : (s.touch d).hk = s.hk := rfl
@[simp] theorem State.touch_disp (d : Fin 44) : (s.touch d).disp = s.disp := rfl
@[simp] theorem State.touch_xk (d : Fin 44) : (s.touch d).xk = s.xk := rfl
@[simp] theorem State.touch_boot (d : Fin 44) : (s.touch d).boot = s.boot := rfl
@[simp] theorem State.touch_flash (d : Fin 44) : (s.touch d).flash = s.flash := rfl
@[simp] theorem State.touch_pins (d : Fin 44) : (s.touch d).pins = s.pins := rfl
@[simp] theorem State.touch_holds (d : Fin 44) : (s.touch d).holds = s.holds := rfl
@[simp] theorem State.touch_fired (d : Fin 44) : (s.touch d).fired = s.fired := rfl
@[simp] theorem State.touch_out (d : Fin 44) : (s.touch d).out = s.out := rfl
@[simp] theorem State.touch_free (d : Fin 44) : (s.touch d).free = s.free := rfl
@[simp] theorem State.touch_reg (d : Fin 44) (k : Nat) : (s.touch d).reg k = s.reg k := rfl
@[simp] theorem State.touch_get (d : Fin 44) (k : Fld) : (s.touch d).get k = s.get k := rfl
@[simp] theorem State.touch_flag (d : Fin 44) (k : Fld) : (s.touch d).flag k = s.flag k := rfl
@[simp] theorem State.touch_now (d : Fin 44) : (s.touch d).now = s.now := rfl

/-! ## modCell -/

@[simp] theorem State.modCell_pending (c : Cell) (f : CellSt → CellSt) : (s.modCell c f).pending = s.pending := rfl
@[simp] theorem State.modCell_waiting (c : Cell) (f : CellSt → CellSt) : (s.modCell c f).waiting = s.waiting := rfl
@[simp] theorem State.modCell_regs (c : Cell) (f : CellSt → CellSt) : (s.modCell c f).regs = s.regs := rfl
@[simp] theorem State.modCell_silo (c : Cell) (f : CellSt → CellSt) : (s.modCell c f).silo = s.silo := rfl
@[simp] theorem State.modCell_time (c : Cell) (f : CellSt → CellSt) : (s.modCell c f).time = s.time := rfl
@[simp] theorem State.modCell_cells (c : Cell) (f : CellSt → CellSt) : (s.modCell c f).cells = vmod s.cells c f := rfl
@[simp] theorem State.modCell_transit (c : Cell) (f : CellSt → CellSt) : (s.modCell c f).transit = s.transit := rfl
@[simp] theorem State.modCell_power (c : Cell) (f : CellSt → CellSt) : (s.modCell c f).power = s.power := rfl
@[simp] theorem State.modCell_bed (c : Cell) (f : CellSt → CellSt) : (s.modCell c f).bed = s.bed := rfl
@[simp] theorem State.modCell_layer (c : Cell) (f : CellSt → CellSt) : (s.modCell c f).layer = s.layer := rfl
@[simp] theorem State.modCell_eng (c : Cell) (f : CellSt → CellSt) : (s.modCell c f).eng = s.eng := rfl
@[simp] theorem State.modCell_beam (c : Cell) (f : CellSt → CellSt) : (s.modCell c f).beam = s.beam := rfl
@[simp] theorem State.modCell_arb (c : Cell) (f : CellSt → CellSt) : (s.modCell c f).arb = s.arb := rfl
@[simp] theorem State.modCell_loops (c : Cell) (f : CellSt → CellSt) : (s.modCell c f).loops = s.loops := rfl
@[simp] theorem State.modCell_loopDev (c : Cell) (f : CellSt → CellSt) : (s.modCell c f).loopDev = s.loopDev := rfl
@[simp] theorem State.modCell_lanes (c : Cell) (f : CellSt → CellSt) : (s.modCell c f).lanes = s.lanes := rfl
@[simp] theorem State.modCell_eye (c : Cell) (f : CellSt → CellSt) : (s.modCell c f).eye = s.eye := rfl
@[simp] theorem State.modCell_streams (c : Cell) (f : CellSt → CellSt) : (s.modCell c f).streams = s.streams := rfl
@[simp] theorem State.modCell_pipes (c : Cell) (f : CellSt → CellSt) : (s.modCell c f).pipes = s.pipes := rfl
@[simp] theorem State.modCell_fabric (c : Cell) (f : CellSt → CellSt) : (s.modCell c f).fabric = s.fabric := rfl
@[simp] theorem State.modCell_axes (c : Cell) (f : CellSt → CellSt) : (s.modCell c f).axes = s.axes := rfl
@[simp] theorem State.modCell_enc (c : Cell) (f : CellSt → CellSt) : (s.modCell c f).enc = s.enc := rfl
@[simp] theorem State.modCell_host (c : Cell) (f : CellSt → CellSt) : (s.modCell c f).host = s.host := rfl
@[simp] theorem State.modCell_gran (c : Cell) (f : CellSt → CellSt) : (s.modCell c f).gran = s.gran := rfl
@[simp] theorem State.modCell_hk (c : Cell) (f : CellSt → CellSt) : (s.modCell c f).hk = s.hk := rfl
@[simp] theorem State.modCell_disp (c : Cell) (f : CellSt → CellSt) : (s.modCell c f).disp = s.disp := rfl
@[simp] theorem State.modCell_xk (c : Cell) (f : CellSt → CellSt) : (s.modCell c f).xk = s.xk := rfl
@[simp] theorem State.modCell_boot (c : Cell) (f : CellSt → CellSt) : (s.modCell c f).boot = s.boot := rfl
@[simp] theorem State.modCell_flash (c : Cell) (f : CellSt → CellSt) : (s.modCell c f).flash = s.flash := rfl
@[simp] theorem State.modCell_pins (c : Cell) (f : CellSt → CellSt) : (s.modCell c f).pins = s.pins := rfl
@[simp] theorem State.modCell_holds (c : Cell) (f : CellSt → CellSt) : (s.modCell c f).holds = s.holds := rfl
@[simp] theorem State.modCell_fired (c : Cell) (f : CellSt → CellSt) : (s.modCell c f).fired = s.fired := rfl
@[simp] theorem State.modCell_out (c : Cell) (f : CellSt → CellSt) : (s.modCell c f).out = s.out := rfl
@[simp] theorem State.modCell_free (c : Cell) (f : CellSt → CellSt) : (s.modCell c f).free = s.free := rfl
@[simp] theorem State.modCell_reg (c : Cell) (f : CellSt → CellSt) (k : Nat) : (s.modCell c f).reg k = s.reg k := rfl
@[simp] theorem State.modCell_get (c : Cell) (f : CellSt → CellSt) (k : Fld) : (s.modCell c f).get k = s.get k := rfl
@[simp] theorem State.modCell_flag (c : Cell) (f : CellSt → CellSt) (k : Fld) : (s.modCell c f).flag k = s.flag k := rfl
@[simp] theorem State.modCell_now (c : Cell) (f : CellSt → CellSt) : (s.modCell c f).now = s.now := rfl

/-! ## modEng -/

@[simp] theorem State.modEng_pending (e : Eng) (f : Engine → Engine) : (s.modEng e f).pending = s.pending := rfl
@[simp] theorem State.modEng_waiting (e : Eng) (f : Engine → Engine) : (s.modEng e f).waiting = s.waiting := rfl
@[simp] theorem State.modEng_regs (e : Eng) (f : Engine → Engine) : (s.modEng e f).regs = s.regs := rfl
@[simp] theorem State.modEng_silo (e : Eng) (f : Engine → Engine) : (s.modEng e f).silo = s.silo := rfl
@[simp] theorem State.modEng_time (e : Eng) (f : Engine → Engine) : (s.modEng e f).time = s.time := rfl
@[simp] theorem State.modEng_cells (e : Eng) (f : Engine → Engine) : (s.modEng e f).cells = s.cells := rfl
@[simp] theorem State.modEng_transit (e : Eng) (f : Engine → Engine) : (s.modEng e f).transit = s.transit := rfl
@[simp] theorem State.modEng_power (e : Eng) (f : Engine → Engine) : (s.modEng e f).power = s.power := rfl
@[simp] theorem State.modEng_bed (e : Eng) (f : Engine → Engine) : (s.modEng e f).bed = s.bed := rfl
@[simp] theorem State.modEng_layer (e : Eng) (f : Engine → Engine) : (s.modEng e f).layer = s.layer := rfl
@[simp] theorem State.modEng_eng (e : Eng) (f : Engine → Engine) : (s.modEng e f).eng = vmod s.eng e f := rfl
@[simp] theorem State.modEng_beam (e : Eng) (f : Engine → Engine) : (s.modEng e f).beam = s.beam := rfl
@[simp] theorem State.modEng_arb (e : Eng) (f : Engine → Engine) : (s.modEng e f).arb = s.arb := rfl
@[simp] theorem State.modEng_loops (e : Eng) (f : Engine → Engine) : (s.modEng e f).loops = s.loops := rfl
@[simp] theorem State.modEng_loopDev (e : Eng) (f : Engine → Engine) : (s.modEng e f).loopDev = s.loopDev := rfl
@[simp] theorem State.modEng_lanes (e : Eng) (f : Engine → Engine) : (s.modEng e f).lanes = s.lanes := rfl
@[simp] theorem State.modEng_eye (e : Eng) (f : Engine → Engine) : (s.modEng e f).eye = s.eye := rfl
@[simp] theorem State.modEng_streams (e : Eng) (f : Engine → Engine) : (s.modEng e f).streams = s.streams := rfl
@[simp] theorem State.modEng_pipes (e : Eng) (f : Engine → Engine) : (s.modEng e f).pipes = s.pipes := rfl
@[simp] theorem State.modEng_fabric (e : Eng) (f : Engine → Engine) : (s.modEng e f).fabric = s.fabric := rfl
@[simp] theorem State.modEng_axes (e : Eng) (f : Engine → Engine) : (s.modEng e f).axes = s.axes := rfl
@[simp] theorem State.modEng_enc (e : Eng) (f : Engine → Engine) : (s.modEng e f).enc = s.enc := rfl
@[simp] theorem State.modEng_host (e : Eng) (f : Engine → Engine) : (s.modEng e f).host = s.host := rfl
@[simp] theorem State.modEng_gran (e : Eng) (f : Engine → Engine) : (s.modEng e f).gran = s.gran := rfl
@[simp] theorem State.modEng_hk (e : Eng) (f : Engine → Engine) : (s.modEng e f).hk = s.hk := rfl
@[simp] theorem State.modEng_disp (e : Eng) (f : Engine → Engine) : (s.modEng e f).disp = s.disp := rfl
@[simp] theorem State.modEng_xk (e : Eng) (f : Engine → Engine) : (s.modEng e f).xk = s.xk := rfl
@[simp] theorem State.modEng_boot (e : Eng) (f : Engine → Engine) : (s.modEng e f).boot = s.boot := rfl
@[simp] theorem State.modEng_flash (e : Eng) (f : Engine → Engine) : (s.modEng e f).flash = s.flash := rfl
@[simp] theorem State.modEng_pins (e : Eng) (f : Engine → Engine) : (s.modEng e f).pins = s.pins := rfl
@[simp] theorem State.modEng_holds (e : Eng) (f : Engine → Engine) : (s.modEng e f).holds = s.holds := rfl
@[simp] theorem State.modEng_fired (e : Eng) (f : Engine → Engine) : (s.modEng e f).fired = s.fired := rfl
@[simp] theorem State.modEng_out (e : Eng) (f : Engine → Engine) : (s.modEng e f).out = s.out := rfl
@[simp] theorem State.modEng_free (e : Eng) (f : Engine → Engine) : (s.modEng e f).free = s.free := rfl
@[simp] theorem State.modEng_reg (e : Eng) (f : Engine → Engine) (k : Nat) : (s.modEng e f).reg k = s.reg k := rfl
@[simp] theorem State.modEng_get (e : Eng) (f : Engine → Engine) (k : Fld) : (s.modEng e f).get k = s.get k := rfl
@[simp] theorem State.modEng_flag (e : Eng) (f : Engine → Engine) (k : Fld) : (s.modEng e f).flag k = s.flag k := rfl
@[simp] theorem State.modEng_now (e : Eng) (f : Engine → Engine) : (s.modEng e f).now = s.now := rfl

/-! ## modBeam -/

@[simp] theorem State.modBeam_pending (b : Sys2Proof.Beam) (f : Beam → Beam) : (s.modBeam b f).pending = s.pending := rfl
@[simp] theorem State.modBeam_waiting (b : Sys2Proof.Beam) (f : Beam → Beam) : (s.modBeam b f).waiting = s.waiting := rfl
@[simp] theorem State.modBeam_regs (b : Sys2Proof.Beam) (f : Beam → Beam) : (s.modBeam b f).regs = s.regs := rfl
@[simp] theorem State.modBeam_silo (b : Sys2Proof.Beam) (f : Beam → Beam) : (s.modBeam b f).silo = s.silo := rfl
@[simp] theorem State.modBeam_time (b : Sys2Proof.Beam) (f : Beam → Beam) : (s.modBeam b f).time = s.time := rfl
@[simp] theorem State.modBeam_cells (b : Sys2Proof.Beam) (f : Beam → Beam) : (s.modBeam b f).cells = s.cells := rfl
@[simp] theorem State.modBeam_transit (b : Sys2Proof.Beam) (f : Beam → Beam) : (s.modBeam b f).transit = s.transit := rfl
@[simp] theorem State.modBeam_power (b : Sys2Proof.Beam) (f : Beam → Beam) : (s.modBeam b f).power = s.power := rfl
@[simp] theorem State.modBeam_bed (b : Sys2Proof.Beam) (f : Beam → Beam) : (s.modBeam b f).bed = s.bed := rfl
@[simp] theorem State.modBeam_layer (b : Sys2Proof.Beam) (f : Beam → Beam) : (s.modBeam b f).layer = s.layer := rfl
@[simp] theorem State.modBeam_eng (b : Sys2Proof.Beam) (f : Beam → Beam) : (s.modBeam b f).eng = s.eng := rfl
@[simp] theorem State.modBeam_beam (b : Sys2Proof.Beam) (f : Beam → Beam) : (s.modBeam b f).beam = vmod s.beam b f := rfl
@[simp] theorem State.modBeam_arb (b : Sys2Proof.Beam) (f : Beam → Beam) : (s.modBeam b f).arb = s.arb := rfl
@[simp] theorem State.modBeam_loops (b : Sys2Proof.Beam) (f : Beam → Beam) : (s.modBeam b f).loops = s.loops := rfl
@[simp] theorem State.modBeam_loopDev (b : Sys2Proof.Beam) (f : Beam → Beam) : (s.modBeam b f).loopDev = s.loopDev := rfl
@[simp] theorem State.modBeam_lanes (b : Sys2Proof.Beam) (f : Beam → Beam) : (s.modBeam b f).lanes = s.lanes := rfl
@[simp] theorem State.modBeam_eye (b : Sys2Proof.Beam) (f : Beam → Beam) : (s.modBeam b f).eye = s.eye := rfl
@[simp] theorem State.modBeam_streams (b : Sys2Proof.Beam) (f : Beam → Beam) : (s.modBeam b f).streams = s.streams := rfl
@[simp] theorem State.modBeam_pipes (b : Sys2Proof.Beam) (f : Beam → Beam) : (s.modBeam b f).pipes = s.pipes := rfl
@[simp] theorem State.modBeam_fabric (b : Sys2Proof.Beam) (f : Beam → Beam) : (s.modBeam b f).fabric = s.fabric := rfl
@[simp] theorem State.modBeam_axes (b : Sys2Proof.Beam) (f : Beam → Beam) : (s.modBeam b f).axes = s.axes := rfl
@[simp] theorem State.modBeam_enc (b : Sys2Proof.Beam) (f : Beam → Beam) : (s.modBeam b f).enc = s.enc := rfl
@[simp] theorem State.modBeam_host (b : Sys2Proof.Beam) (f : Beam → Beam) : (s.modBeam b f).host = s.host := rfl
@[simp] theorem State.modBeam_gran (b : Sys2Proof.Beam) (f : Beam → Beam) : (s.modBeam b f).gran = s.gran := rfl
@[simp] theorem State.modBeam_hk (b : Sys2Proof.Beam) (f : Beam → Beam) : (s.modBeam b f).hk = s.hk := rfl
@[simp] theorem State.modBeam_disp (b : Sys2Proof.Beam) (f : Beam → Beam) : (s.modBeam b f).disp = s.disp := rfl
@[simp] theorem State.modBeam_xk (b : Sys2Proof.Beam) (f : Beam → Beam) : (s.modBeam b f).xk = s.xk := rfl
@[simp] theorem State.modBeam_boot (b : Sys2Proof.Beam) (f : Beam → Beam) : (s.modBeam b f).boot = s.boot := rfl
@[simp] theorem State.modBeam_flash (b : Sys2Proof.Beam) (f : Beam → Beam) : (s.modBeam b f).flash = s.flash := rfl
@[simp] theorem State.modBeam_pins (b : Sys2Proof.Beam) (f : Beam → Beam) : (s.modBeam b f).pins = s.pins := rfl
@[simp] theorem State.modBeam_holds (b : Sys2Proof.Beam) (f : Beam → Beam) : (s.modBeam b f).holds = s.holds := rfl
@[simp] theorem State.modBeam_fired (b : Sys2Proof.Beam) (f : Beam → Beam) : (s.modBeam b f).fired = s.fired := rfl
@[simp] theorem State.modBeam_out (b : Sys2Proof.Beam) (f : Beam → Beam) : (s.modBeam b f).out = s.out := rfl
@[simp] theorem State.modBeam_free (b : Sys2Proof.Beam) (f : Beam → Beam) : (s.modBeam b f).free = s.free := rfl
@[simp] theorem State.modBeam_reg (b : Sys2Proof.Beam) (f : Beam → Beam) (k : Nat) : (s.modBeam b f).reg k = s.reg k := rfl
@[simp] theorem State.modBeam_get (b : Sys2Proof.Beam) (f : Beam → Beam) (k : Fld) : (s.modBeam b f).get k = s.get k := rfl
@[simp] theorem State.modBeam_flag (b : Sys2Proof.Beam) (f : Beam → Beam) (k : Fld) : (s.modBeam b f).flag k = s.flag k := rfl
@[simp] theorem State.modBeam_now (b : Sys2Proof.Beam) (f : Beam → Beam) : (s.modBeam b f).now = s.now := rfl

/-! ## modTraj -/

@[simp] theorem State.modTraj_pending (b : Sys2Proof.Beam) (f : Traj → Traj) : (s.modTraj b f).pending = s.pending := rfl
@[simp] theorem State.modTraj_waiting (b : Sys2Proof.Beam) (f : Traj → Traj) : (s.modTraj b f).waiting = s.waiting := rfl
@[simp] theorem State.modTraj_regs (b : Sys2Proof.Beam) (f : Traj → Traj) : (s.modTraj b f).regs = s.regs := rfl
@[simp] theorem State.modTraj_silo (b : Sys2Proof.Beam) (f : Traj → Traj) : (s.modTraj b f).silo = s.silo := rfl
@[simp] theorem State.modTraj_time (b : Sys2Proof.Beam) (f : Traj → Traj) : (s.modTraj b f).time = s.time := rfl
@[simp] theorem State.modTraj_cells (b : Sys2Proof.Beam) (f : Traj → Traj) : (s.modTraj b f).cells = s.cells := rfl
@[simp] theorem State.modTraj_transit (b : Sys2Proof.Beam) (f : Traj → Traj) : (s.modTraj b f).transit = s.transit := rfl
@[simp] theorem State.modTraj_power (b : Sys2Proof.Beam) (f : Traj → Traj) : (s.modTraj b f).power = s.power := rfl
@[simp] theorem State.modTraj_bed (b : Sys2Proof.Beam) (f : Traj → Traj) : (s.modTraj b f).bed = s.bed := rfl
@[simp] theorem State.modTraj_layer (b : Sys2Proof.Beam) (f : Traj → Traj) : (s.modTraj b f).layer = s.layer := rfl
@[simp] theorem State.modTraj_eng (b : Sys2Proof.Beam) (f : Traj → Traj) : (s.modTraj b f).eng = s.eng := rfl
@[simp] theorem State.modTraj_arb (b : Sys2Proof.Beam) (f : Traj → Traj) : (s.modTraj b f).arb = s.arb := rfl
@[simp] theorem State.modTraj_loops (b : Sys2Proof.Beam) (f : Traj → Traj) : (s.modTraj b f).loops = s.loops := rfl
@[simp] theorem State.modTraj_loopDev (b : Sys2Proof.Beam) (f : Traj → Traj) : (s.modTraj b f).loopDev = s.loopDev := rfl
@[simp] theorem State.modTraj_lanes (b : Sys2Proof.Beam) (f : Traj → Traj) : (s.modTraj b f).lanes = s.lanes := rfl
@[simp] theorem State.modTraj_eye (b : Sys2Proof.Beam) (f : Traj → Traj) : (s.modTraj b f).eye = s.eye := rfl
@[simp] theorem State.modTraj_streams (b : Sys2Proof.Beam) (f : Traj → Traj) : (s.modTraj b f).streams = s.streams := rfl
@[simp] theorem State.modTraj_pipes (b : Sys2Proof.Beam) (f : Traj → Traj) : (s.modTraj b f).pipes = s.pipes := rfl
@[simp] theorem State.modTraj_fabric (b : Sys2Proof.Beam) (f : Traj → Traj) : (s.modTraj b f).fabric = s.fabric := rfl
@[simp] theorem State.modTraj_axes (b : Sys2Proof.Beam) (f : Traj → Traj) : (s.modTraj b f).axes = s.axes := rfl
@[simp] theorem State.modTraj_enc (b : Sys2Proof.Beam) (f : Traj → Traj) : (s.modTraj b f).enc = s.enc := rfl
@[simp] theorem State.modTraj_host (b : Sys2Proof.Beam) (f : Traj → Traj) : (s.modTraj b f).host = s.host := rfl
@[simp] theorem State.modTraj_gran (b : Sys2Proof.Beam) (f : Traj → Traj) : (s.modTraj b f).gran = s.gran := rfl
@[simp] theorem State.modTraj_hk (b : Sys2Proof.Beam) (f : Traj → Traj) : (s.modTraj b f).hk = s.hk := rfl
@[simp] theorem State.modTraj_disp (b : Sys2Proof.Beam) (f : Traj → Traj) : (s.modTraj b f).disp = s.disp := rfl
@[simp] theorem State.modTraj_xk (b : Sys2Proof.Beam) (f : Traj → Traj) : (s.modTraj b f).xk = s.xk := rfl
@[simp] theorem State.modTraj_boot (b : Sys2Proof.Beam) (f : Traj → Traj) : (s.modTraj b f).boot = s.boot := rfl
@[simp] theorem State.modTraj_flash (b : Sys2Proof.Beam) (f : Traj → Traj) : (s.modTraj b f).flash = s.flash := rfl
@[simp] theorem State.modTraj_pins (b : Sys2Proof.Beam) (f : Traj → Traj) : (s.modTraj b f).pins = s.pins := rfl
@[simp] theorem State.modTraj_holds (b : Sys2Proof.Beam) (f : Traj → Traj) : (s.modTraj b f).holds = s.holds := rfl
@[simp] theorem State.modTraj_fired (b : Sys2Proof.Beam) (f : Traj → Traj) : (s.modTraj b f).fired = s.fired := rfl
@[simp] theorem State.modTraj_out (b : Sys2Proof.Beam) (f : Traj → Traj) : (s.modTraj b f).out = s.out := rfl
@[simp] theorem State.modTraj_free (b : Sys2Proof.Beam) (f : Traj → Traj) : (s.modTraj b f).free = s.free := rfl
@[simp] theorem State.modTraj_reg (b : Sys2Proof.Beam) (f : Traj → Traj) (k : Nat) : (s.modTraj b f).reg k = s.reg k := rfl
@[simp] theorem State.modTraj_get (b : Sys2Proof.Beam) (f : Traj → Traj) (k : Fld) : (s.modTraj b f).get k = s.get k := rfl
@[simp] theorem State.modTraj_flag (b : Sys2Proof.Beam) (f : Traj → Traj) (k : Fld) : (s.modTraj b f).flag k = s.flag k := rfl
@[simp] theorem State.modTraj_now (b : Sys2Proof.Beam) (f : Traj → Traj) : (s.modTraj b f).now = s.now := rfl

/-! ## modArb -/

@[simp] theorem State.modArb_pending (b : Sys2Proof.Beam) (f : ArbBeam → ArbBeam) : (s.modArb b f).pending = s.pending := rfl
@[simp] theorem State.modArb_waiting (b : Sys2Proof.Beam) (f : ArbBeam → ArbBeam) : (s.modArb b f).waiting = s.waiting := rfl
@[simp] theorem State.modArb_regs (b : Sys2Proof.Beam) (f : ArbBeam → ArbBeam) : (s.modArb b f).regs = s.regs := rfl
@[simp] theorem State.modArb_silo (b : Sys2Proof.Beam) (f : ArbBeam → ArbBeam) : (s.modArb b f).silo = s.silo := rfl
@[simp] theorem State.modArb_time (b : Sys2Proof.Beam) (f : ArbBeam → ArbBeam) : (s.modArb b f).time = s.time := rfl
@[simp] theorem State.modArb_cells (b : Sys2Proof.Beam) (f : ArbBeam → ArbBeam) : (s.modArb b f).cells = s.cells := rfl
@[simp] theorem State.modArb_transit (b : Sys2Proof.Beam) (f : ArbBeam → ArbBeam) : (s.modArb b f).transit = s.transit := rfl
@[simp] theorem State.modArb_power (b : Sys2Proof.Beam) (f : ArbBeam → ArbBeam) : (s.modArb b f).power = s.power := rfl
@[simp] theorem State.modArb_bed (b : Sys2Proof.Beam) (f : ArbBeam → ArbBeam) : (s.modArb b f).bed = s.bed := rfl
@[simp] theorem State.modArb_layer (b : Sys2Proof.Beam) (f : ArbBeam → ArbBeam) : (s.modArb b f).layer = s.layer := rfl
@[simp] theorem State.modArb_eng (b : Sys2Proof.Beam) (f : ArbBeam → ArbBeam) : (s.modArb b f).eng = s.eng := rfl
@[simp] theorem State.modArb_beam (b : Sys2Proof.Beam) (f : ArbBeam → ArbBeam) : (s.modArb b f).beam = s.beam := rfl
@[simp] theorem State.modArb_loops (b : Sys2Proof.Beam) (f : ArbBeam → ArbBeam) : (s.modArb b f).loops = s.loops := rfl
@[simp] theorem State.modArb_loopDev (b : Sys2Proof.Beam) (f : ArbBeam → ArbBeam) : (s.modArb b f).loopDev = s.loopDev := rfl
@[simp] theorem State.modArb_lanes (b : Sys2Proof.Beam) (f : ArbBeam → ArbBeam) : (s.modArb b f).lanes = s.lanes := rfl
@[simp] theorem State.modArb_eye (b : Sys2Proof.Beam) (f : ArbBeam → ArbBeam) : (s.modArb b f).eye = s.eye := rfl
@[simp] theorem State.modArb_streams (b : Sys2Proof.Beam) (f : ArbBeam → ArbBeam) : (s.modArb b f).streams = s.streams := rfl
@[simp] theorem State.modArb_pipes (b : Sys2Proof.Beam) (f : ArbBeam → ArbBeam) : (s.modArb b f).pipes = s.pipes := rfl
@[simp] theorem State.modArb_fabric (b : Sys2Proof.Beam) (f : ArbBeam → ArbBeam) : (s.modArb b f).fabric = s.fabric := rfl
@[simp] theorem State.modArb_axes (b : Sys2Proof.Beam) (f : ArbBeam → ArbBeam) : (s.modArb b f).axes = s.axes := rfl
@[simp] theorem State.modArb_enc (b : Sys2Proof.Beam) (f : ArbBeam → ArbBeam) : (s.modArb b f).enc = s.enc := rfl
@[simp] theorem State.modArb_host (b : Sys2Proof.Beam) (f : ArbBeam → ArbBeam) : (s.modArb b f).host = s.host := rfl
@[simp] theorem State.modArb_gran (b : Sys2Proof.Beam) (f : ArbBeam → ArbBeam) : (s.modArb b f).gran = s.gran := rfl
@[simp] theorem State.modArb_hk (b : Sys2Proof.Beam) (f : ArbBeam → ArbBeam) : (s.modArb b f).hk = s.hk := rfl
@[simp] theorem State.modArb_disp (b : Sys2Proof.Beam) (f : ArbBeam → ArbBeam) : (s.modArb b f).disp = s.disp := rfl
@[simp] theorem State.modArb_xk (b : Sys2Proof.Beam) (f : ArbBeam → ArbBeam) : (s.modArb b f).xk = s.xk := rfl
@[simp] theorem State.modArb_boot (b : Sys2Proof.Beam) (f : ArbBeam → ArbBeam) : (s.modArb b f).boot = s.boot := rfl
@[simp] theorem State.modArb_flash (b : Sys2Proof.Beam) (f : ArbBeam → ArbBeam) : (s.modArb b f).flash = s.flash := rfl
@[simp] theorem State.modArb_pins (b : Sys2Proof.Beam) (f : ArbBeam → ArbBeam) : (s.modArb b f).pins = s.pins := rfl
@[simp] theorem State.modArb_holds (b : Sys2Proof.Beam) (f : ArbBeam → ArbBeam) : (s.modArb b f).holds = s.holds := rfl
@[simp] theorem State.modArb_fired (b : Sys2Proof.Beam) (f : ArbBeam → ArbBeam) : (s.modArb b f).fired = s.fired := rfl
@[simp] theorem State.modArb_out (b : Sys2Proof.Beam) (f : ArbBeam → ArbBeam) : (s.modArb b f).out = s.out := rfl
@[simp] theorem State.modArb_free (b : Sys2Proof.Beam) (f : ArbBeam → ArbBeam) : (s.modArb b f).free = s.free := rfl
@[simp] theorem State.modArb_reg (b : Sys2Proof.Beam) (f : ArbBeam → ArbBeam) (k : Nat) : (s.modArb b f).reg k = s.reg k := rfl
@[simp] theorem State.modArb_get (b : Sys2Proof.Beam) (f : ArbBeam → ArbBeam) (k : Fld) : (s.modArb b f).get k = s.get k := rfl
@[simp] theorem State.modArb_flag (b : Sys2Proof.Beam) (f : ArbBeam → ArbBeam) (k : Fld) : (s.modArb b f).flag k = s.flag k := rfl
@[simp] theorem State.modArb_now (b : Sys2Proof.Beam) (f : ArbBeam → ArbBeam) : (s.modArb b f).now = s.now := rfl

/-! ## modDom -/

@[simp] theorem State.modDom_pending (d : Dom) (f : DomSt → DomSt) : (s.modDom d f).pending = s.pending := rfl
@[simp] theorem State.modDom_waiting (d : Dom) (f : DomSt → DomSt) : (s.modDom d f).waiting = s.waiting := rfl
@[simp] theorem State.modDom_regs (d : Dom) (f : DomSt → DomSt) : (s.modDom d f).regs = s.regs := rfl
@[simp] theorem State.modDom_silo (d : Dom) (f : DomSt → DomSt) : (s.modDom d f).silo = s.silo := rfl
@[simp] theorem State.modDom_cells (d : Dom) (f : DomSt → DomSt) : (s.modDom d f).cells = s.cells := rfl
@[simp] theorem State.modDom_transit (d : Dom) (f : DomSt → DomSt) : (s.modDom d f).transit = s.transit := rfl
@[simp] theorem State.modDom_power (d : Dom) (f : DomSt → DomSt) : (s.modDom d f).power = s.power := rfl
@[simp] theorem State.modDom_bed (d : Dom) (f : DomSt → DomSt) : (s.modDom d f).bed = s.bed := rfl
@[simp] theorem State.modDom_layer (d : Dom) (f : DomSt → DomSt) : (s.modDom d f).layer = s.layer := rfl
@[simp] theorem State.modDom_eng (d : Dom) (f : DomSt → DomSt) : (s.modDom d f).eng = s.eng := rfl
@[simp] theorem State.modDom_beam (d : Dom) (f : DomSt → DomSt) : (s.modDom d f).beam = s.beam := rfl
@[simp] theorem State.modDom_arb (d : Dom) (f : DomSt → DomSt) : (s.modDom d f).arb = s.arb := rfl
@[simp] theorem State.modDom_loops (d : Dom) (f : DomSt → DomSt) : (s.modDom d f).loops = s.loops := rfl
@[simp] theorem State.modDom_loopDev (d : Dom) (f : DomSt → DomSt) : (s.modDom d f).loopDev = s.loopDev := rfl
@[simp] theorem State.modDom_lanes (d : Dom) (f : DomSt → DomSt) : (s.modDom d f).lanes = s.lanes := rfl
@[simp] theorem State.modDom_eye (d : Dom) (f : DomSt → DomSt) : (s.modDom d f).eye = s.eye := rfl
@[simp] theorem State.modDom_streams (d : Dom) (f : DomSt → DomSt) : (s.modDom d f).streams = s.streams := rfl
@[simp] theorem State.modDom_pipes (d : Dom) (f : DomSt → DomSt) : (s.modDom d f).pipes = s.pipes := rfl
@[simp] theorem State.modDom_fabric (d : Dom) (f : DomSt → DomSt) : (s.modDom d f).fabric = s.fabric := rfl
@[simp] theorem State.modDom_axes (d : Dom) (f : DomSt → DomSt) : (s.modDom d f).axes = s.axes := rfl
@[simp] theorem State.modDom_enc (d : Dom) (f : DomSt → DomSt) : (s.modDom d f).enc = s.enc := rfl
@[simp] theorem State.modDom_host (d : Dom) (f : DomSt → DomSt) : (s.modDom d f).host = s.host := rfl
@[simp] theorem State.modDom_gran (d : Dom) (f : DomSt → DomSt) : (s.modDom d f).gran = s.gran := rfl
@[simp] theorem State.modDom_hk (d : Dom) (f : DomSt → DomSt) : (s.modDom d f).hk = s.hk := rfl
@[simp] theorem State.modDom_disp (d : Dom) (f : DomSt → DomSt) : (s.modDom d f).disp = s.disp := rfl
@[simp] theorem State.modDom_xk (d : Dom) (f : DomSt → DomSt) : (s.modDom d f).xk = s.xk := rfl
@[simp] theorem State.modDom_boot (d : Dom) (f : DomSt → DomSt) : (s.modDom d f).boot = s.boot := rfl
@[simp] theorem State.modDom_flash (d : Dom) (f : DomSt → DomSt) : (s.modDom d f).flash = s.flash := rfl
@[simp] theorem State.modDom_pins (d : Dom) (f : DomSt → DomSt) : (s.modDom d f).pins = s.pins := rfl
@[simp] theorem State.modDom_holds (d : Dom) (f : DomSt → DomSt) : (s.modDom d f).holds = s.holds := rfl
@[simp] theorem State.modDom_fired (d : Dom) (f : DomSt → DomSt) : (s.modDom d f).fired = s.fired := rfl
@[simp] theorem State.modDom_out (d : Dom) (f : DomSt → DomSt) : (s.modDom d f).out = s.out := rfl
@[simp] theorem State.modDom_free (d : Dom) (f : DomSt → DomSt) : (s.modDom d f).free = s.free := rfl
@[simp] theorem State.modDom_reg (d : Dom) (f : DomSt → DomSt) (k : Nat) : (s.modDom d f).reg k = s.reg k := rfl
@[simp] theorem State.modDom_get (d : Dom) (f : DomSt → DomSt) (k : Fld) : (s.modDom d f).get k = s.get k := rfl
@[simp] theorem State.modDom_flag (d : Dom) (f : DomSt → DomSt) (k : Fld) : (s.modDom d f).flag k = s.flag k := rfl

/-! ## modAxis -/

@[simp] theorem State.modAxis_pending (a : Axis) (f : AxisSt → AxisSt) : (s.modAxis a f).pending = s.pending := rfl
@[simp] theorem State.modAxis_waiting (a : Axis) (f : AxisSt → AxisSt) : (s.modAxis a f).waiting = s.waiting := rfl
@[simp] theorem State.modAxis_regs (a : Axis) (f : AxisSt → AxisSt) : (s.modAxis a f).regs = s.regs := rfl
@[simp] theorem State.modAxis_silo (a : Axis) (f : AxisSt → AxisSt) : (s.modAxis a f).silo = s.silo := rfl
@[simp] theorem State.modAxis_time (a : Axis) (f : AxisSt → AxisSt) : (s.modAxis a f).time = s.time := rfl
@[simp] theorem State.modAxis_cells (a : Axis) (f : AxisSt → AxisSt) : (s.modAxis a f).cells = s.cells := rfl
@[simp] theorem State.modAxis_transit (a : Axis) (f : AxisSt → AxisSt) : (s.modAxis a f).transit = s.transit := rfl
@[simp] theorem State.modAxis_power (a : Axis) (f : AxisSt → AxisSt) : (s.modAxis a f).power = s.power := rfl
@[simp] theorem State.modAxis_bed (a : Axis) (f : AxisSt → AxisSt) : (s.modAxis a f).bed = s.bed := rfl
@[simp] theorem State.modAxis_layer (a : Axis) (f : AxisSt → AxisSt) : (s.modAxis a f).layer = s.layer := rfl
@[simp] theorem State.modAxis_eng (a : Axis) (f : AxisSt → AxisSt) : (s.modAxis a f).eng = s.eng := rfl
@[simp] theorem State.modAxis_beam (a : Axis) (f : AxisSt → AxisSt) : (s.modAxis a f).beam = s.beam := rfl
@[simp] theorem State.modAxis_arb (a : Axis) (f : AxisSt → AxisSt) : (s.modAxis a f).arb = s.arb := rfl
@[simp] theorem State.modAxis_loops (a : Axis) (f : AxisSt → AxisSt) : (s.modAxis a f).loops = s.loops := rfl
@[simp] theorem State.modAxis_loopDev (a : Axis) (f : AxisSt → AxisSt) : (s.modAxis a f).loopDev = s.loopDev := rfl
@[simp] theorem State.modAxis_lanes (a : Axis) (f : AxisSt → AxisSt) : (s.modAxis a f).lanes = s.lanes := rfl
@[simp] theorem State.modAxis_eye (a : Axis) (f : AxisSt → AxisSt) : (s.modAxis a f).eye = s.eye := rfl
@[simp] theorem State.modAxis_streams (a : Axis) (f : AxisSt → AxisSt) : (s.modAxis a f).streams = s.streams := rfl
@[simp] theorem State.modAxis_pipes (a : Axis) (f : AxisSt → AxisSt) : (s.modAxis a f).pipes = s.pipes := rfl
@[simp] theorem State.modAxis_fabric (a : Axis) (f : AxisSt → AxisSt) : (s.modAxis a f).fabric = s.fabric := rfl
@[simp] theorem State.modAxis_axes (a : Axis) (f : AxisSt → AxisSt) : (s.modAxis a f).axes = vmod s.axes a f := rfl
@[simp] theorem State.modAxis_enc (a : Axis) (f : AxisSt → AxisSt) : (s.modAxis a f).enc = s.enc := rfl
@[simp] theorem State.modAxis_host (a : Axis) (f : AxisSt → AxisSt) : (s.modAxis a f).host = s.host := rfl
@[simp] theorem State.modAxis_gran (a : Axis) (f : AxisSt → AxisSt) : (s.modAxis a f).gran = s.gran := rfl
@[simp] theorem State.modAxis_hk (a : Axis) (f : AxisSt → AxisSt) : (s.modAxis a f).hk = s.hk := rfl
@[simp] theorem State.modAxis_disp (a : Axis) (f : AxisSt → AxisSt) : (s.modAxis a f).disp = s.disp := rfl
@[simp] theorem State.modAxis_xk (a : Axis) (f : AxisSt → AxisSt) : (s.modAxis a f).xk = s.xk := rfl
@[simp] theorem State.modAxis_boot (a : Axis) (f : AxisSt → AxisSt) : (s.modAxis a f).boot = s.boot := rfl
@[simp] theorem State.modAxis_flash (a : Axis) (f : AxisSt → AxisSt) : (s.modAxis a f).flash = s.flash := rfl
@[simp] theorem State.modAxis_pins (a : Axis) (f : AxisSt → AxisSt) : (s.modAxis a f).pins = s.pins := rfl
@[simp] theorem State.modAxis_holds (a : Axis) (f : AxisSt → AxisSt) : (s.modAxis a f).holds = s.holds := rfl
@[simp] theorem State.modAxis_fired (a : Axis) (f : AxisSt → AxisSt) : (s.modAxis a f).fired = s.fired := rfl
@[simp] theorem State.modAxis_out (a : Axis) (f : AxisSt → AxisSt) : (s.modAxis a f).out = s.out := rfl
@[simp] theorem State.modAxis_free (a : Axis) (f : AxisSt → AxisSt) : (s.modAxis a f).free = s.free := rfl
@[simp] theorem State.modAxis_reg (a : Axis) (f : AxisSt → AxisSt) (k : Nat) : (s.modAxis a f).reg k = s.reg k := rfl
@[simp] theorem State.modAxis_get (a : Axis) (f : AxisSt → AxisSt) (k : Fld) : (s.modAxis a f).get k = s.get k := rfl
@[simp] theorem State.modAxis_flag (a : Axis) (f : AxisSt → AxisSt) (k : Fld) : (s.modAxis a f).flag k = s.flag k := rfl
@[simp] theorem State.modAxis_now (a : Axis) (f : AxisSt → AxisSt) : (s.modAxis a f).now = s.now := rfl

/-! ## modDisp -/

@[simp] theorem State.modDisp_pending (o : DOut) (f : DispOut → DispOut) : (s.modDisp o f).pending = s.pending := rfl
@[simp] theorem State.modDisp_waiting (o : DOut) (f : DispOut → DispOut) : (s.modDisp o f).waiting = s.waiting := rfl
@[simp] theorem State.modDisp_regs (o : DOut) (f : DispOut → DispOut) : (s.modDisp o f).regs = s.regs := rfl
@[simp] theorem State.modDisp_silo (o : DOut) (f : DispOut → DispOut) : (s.modDisp o f).silo = s.silo := rfl
@[simp] theorem State.modDisp_time (o : DOut) (f : DispOut → DispOut) : (s.modDisp o f).time = s.time := rfl
@[simp] theorem State.modDisp_cells (o : DOut) (f : DispOut → DispOut) : (s.modDisp o f).cells = s.cells := rfl
@[simp] theorem State.modDisp_transit (o : DOut) (f : DispOut → DispOut) : (s.modDisp o f).transit = s.transit := rfl
@[simp] theorem State.modDisp_power (o : DOut) (f : DispOut → DispOut) : (s.modDisp o f).power = s.power := rfl
@[simp] theorem State.modDisp_bed (o : DOut) (f : DispOut → DispOut) : (s.modDisp o f).bed = s.bed := rfl
@[simp] theorem State.modDisp_layer (o : DOut) (f : DispOut → DispOut) : (s.modDisp o f).layer = s.layer := rfl
@[simp] theorem State.modDisp_eng (o : DOut) (f : DispOut → DispOut) : (s.modDisp o f).eng = s.eng := rfl
@[simp] theorem State.modDisp_beam (o : DOut) (f : DispOut → DispOut) : (s.modDisp o f).beam = s.beam := rfl
@[simp] theorem State.modDisp_arb (o : DOut) (f : DispOut → DispOut) : (s.modDisp o f).arb = s.arb := rfl
@[simp] theorem State.modDisp_loops (o : DOut) (f : DispOut → DispOut) : (s.modDisp o f).loops = s.loops := rfl
@[simp] theorem State.modDisp_loopDev (o : DOut) (f : DispOut → DispOut) : (s.modDisp o f).loopDev = s.loopDev := rfl
@[simp] theorem State.modDisp_lanes (o : DOut) (f : DispOut → DispOut) : (s.modDisp o f).lanes = s.lanes := rfl
@[simp] theorem State.modDisp_eye (o : DOut) (f : DispOut → DispOut) : (s.modDisp o f).eye = s.eye := rfl
@[simp] theorem State.modDisp_streams (o : DOut) (f : DispOut → DispOut) : (s.modDisp o f).streams = s.streams := rfl
@[simp] theorem State.modDisp_pipes (o : DOut) (f : DispOut → DispOut) : (s.modDisp o f).pipes = s.pipes := rfl
@[simp] theorem State.modDisp_fabric (o : DOut) (f : DispOut → DispOut) : (s.modDisp o f).fabric = s.fabric := rfl
@[simp] theorem State.modDisp_axes (o : DOut) (f : DispOut → DispOut) : (s.modDisp o f).axes = s.axes := rfl
@[simp] theorem State.modDisp_enc (o : DOut) (f : DispOut → DispOut) : (s.modDisp o f).enc = s.enc := rfl
@[simp] theorem State.modDisp_host (o : DOut) (f : DispOut → DispOut) : (s.modDisp o f).host = s.host := rfl
@[simp] theorem State.modDisp_gran (o : DOut) (f : DispOut → DispOut) : (s.modDisp o f).gran = s.gran := rfl
@[simp] theorem State.modDisp_hk (o : DOut) (f : DispOut → DispOut) : (s.modDisp o f).hk = s.hk := rfl
@[simp] theorem State.modDisp_disp (o : DOut) (f : DispOut → DispOut) : (s.modDisp o f).disp = vmod s.disp o f := rfl
@[simp] theorem State.modDisp_xk (o : DOut) (f : DispOut → DispOut) : (s.modDisp o f).xk = s.xk := rfl
@[simp] theorem State.modDisp_boot (o : DOut) (f : DispOut → DispOut) : (s.modDisp o f).boot = s.boot := rfl
@[simp] theorem State.modDisp_flash (o : DOut) (f : DispOut → DispOut) : (s.modDisp o f).flash = s.flash := rfl
@[simp] theorem State.modDisp_pins (o : DOut) (f : DispOut → DispOut) : (s.modDisp o f).pins = s.pins := rfl
@[simp] theorem State.modDisp_holds (o : DOut) (f : DispOut → DispOut) : (s.modDisp o f).holds = s.holds := rfl
@[simp] theorem State.modDisp_fired (o : DOut) (f : DispOut → DispOut) : (s.modDisp o f).fired = s.fired := rfl
@[simp] theorem State.modDisp_out (o : DOut) (f : DispOut → DispOut) : (s.modDisp o f).out = s.out := rfl
@[simp] theorem State.modDisp_free (o : DOut) (f : DispOut → DispOut) : (s.modDisp o f).free = s.free := rfl
@[simp] theorem State.modDisp_reg (o : DOut) (f : DispOut → DispOut) (k : Nat) : (s.modDisp o f).reg k = s.reg k := rfl
@[simp] theorem State.modDisp_get (o : DOut) (f : DispOut → DispOut) (k : Fld) : (s.modDisp o f).get k = s.get k := rfl
@[simp] theorem State.modDisp_flag (o : DOut) (f : DispOut → DispOut) (k : Fld) : (s.modDisp o f).flag k = s.flag k := rfl
@[simp] theorem State.modDisp_now (o : DOut) (f : DispOut → DispOut) : (s.modDisp o f).now = s.now := rfl

/-! ## modFab -/

@[simp] theorem State.modFab_pending (f : FabricSt → FabricSt) : (s.modFab f).pending = s.pending := rfl
@[simp] theorem State.modFab_waiting (f : FabricSt → FabricSt) : (s.modFab f).waiting = s.waiting := rfl
@[simp] theorem State.modFab_regs (f : FabricSt → FabricSt) : (s.modFab f).regs = s.regs := rfl
@[simp] theorem State.modFab_silo (f : FabricSt → FabricSt) : (s.modFab f).silo = s.silo := rfl
@[simp] theorem State.modFab_time (f : FabricSt → FabricSt) : (s.modFab f).time = s.time := rfl
@[simp] theorem State.modFab_cells (f : FabricSt → FabricSt) : (s.modFab f).cells = s.cells := rfl
@[simp] theorem State.modFab_transit (f : FabricSt → FabricSt) : (s.modFab f).transit = s.transit := rfl
@[simp] theorem State.modFab_power (f : FabricSt → FabricSt) : (s.modFab f).power = s.power := rfl
@[simp] theorem State.modFab_bed (f : FabricSt → FabricSt) : (s.modFab f).bed = s.bed := rfl
@[simp] theorem State.modFab_layer (f : FabricSt → FabricSt) : (s.modFab f).layer = s.layer := rfl
@[simp] theorem State.modFab_eng (f : FabricSt → FabricSt) : (s.modFab f).eng = s.eng := rfl
@[simp] theorem State.modFab_beam (f : FabricSt → FabricSt) : (s.modFab f).beam = s.beam := rfl
@[simp] theorem State.modFab_arb (f : FabricSt → FabricSt) : (s.modFab f).arb = s.arb := rfl
@[simp] theorem State.modFab_loops (f : FabricSt → FabricSt) : (s.modFab f).loops = s.loops := rfl
@[simp] theorem State.modFab_loopDev (f : FabricSt → FabricSt) : (s.modFab f).loopDev = s.loopDev := rfl
@[simp] theorem State.modFab_lanes (f : FabricSt → FabricSt) : (s.modFab f).lanes = s.lanes := rfl
@[simp] theorem State.modFab_eye (f : FabricSt → FabricSt) : (s.modFab f).eye = s.eye := rfl
@[simp] theorem State.modFab_streams (f : FabricSt → FabricSt) : (s.modFab f).streams = s.streams := rfl
@[simp] theorem State.modFab_pipes (f : FabricSt → FabricSt) : (s.modFab f).pipes = s.pipes := rfl
@[simp] theorem State.modFab_fabric (f : FabricSt → FabricSt) : (s.modFab f).fabric = f s.fabric := rfl
@[simp] theorem State.modFab_axes (f : FabricSt → FabricSt) : (s.modFab f).axes = s.axes := rfl
@[simp] theorem State.modFab_enc (f : FabricSt → FabricSt) : (s.modFab f).enc = s.enc := rfl
@[simp] theorem State.modFab_host (f : FabricSt → FabricSt) : (s.modFab f).host = s.host := rfl
@[simp] theorem State.modFab_gran (f : FabricSt → FabricSt) : (s.modFab f).gran = s.gran := rfl
@[simp] theorem State.modFab_hk (f : FabricSt → FabricSt) : (s.modFab f).hk = s.hk := rfl
@[simp] theorem State.modFab_disp (f : FabricSt → FabricSt) : (s.modFab f).disp = s.disp := rfl
@[simp] theorem State.modFab_xk (f : FabricSt → FabricSt) : (s.modFab f).xk = s.xk := rfl
@[simp] theorem State.modFab_boot (f : FabricSt → FabricSt) : (s.modFab f).boot = s.boot := rfl
@[simp] theorem State.modFab_flash (f : FabricSt → FabricSt) : (s.modFab f).flash = s.flash := rfl
@[simp] theorem State.modFab_pins (f : FabricSt → FabricSt) : (s.modFab f).pins = s.pins := rfl
@[simp] theorem State.modFab_holds (f : FabricSt → FabricSt) : (s.modFab f).holds = s.holds := rfl
@[simp] theorem State.modFab_fired (f : FabricSt → FabricSt) : (s.modFab f).fired = s.fired := rfl
@[simp] theorem State.modFab_out (f : FabricSt → FabricSt) : (s.modFab f).out = s.out := rfl
@[simp] theorem State.modFab_free (f : FabricSt → FabricSt) : (s.modFab f).free = s.free := rfl
@[simp] theorem State.modFab_reg (f : FabricSt → FabricSt) (k : Nat) : (s.modFab f).reg k = s.reg k := rfl
@[simp] theorem State.modFab_get (f : FabricSt → FabricSt) (k : Fld) : (s.modFab f).get k = s.get k := rfl
@[simp] theorem State.modFab_flag (f : FabricSt → FabricSt) (k : Fld) : (s.modFab f).flag k = s.flag k := rfl
@[simp] theorem State.modFab_now (f : FabricSt → FabricSt) : (s.modFab f).now = s.now := rfl

/-! ## modGran -/

@[simp] theorem State.modGran_pending (f : GranSt → GranSt) : (s.modGran f).pending = s.pending := rfl
@[simp] theorem State.modGran_waiting (f : GranSt → GranSt) : (s.modGran f).waiting = s.waiting := rfl
@[simp] theorem State.modGran_regs (f : GranSt → GranSt) : (s.modGran f).regs = s.regs := rfl
@[simp] theorem State.modGran_silo (f : GranSt → GranSt) : (s.modGran f).silo = s.silo := rfl
@[simp] theorem State.modGran_time (f : GranSt → GranSt) : (s.modGran f).time = s.time := rfl
@[simp] theorem State.modGran_cells (f : GranSt → GranSt) : (s.modGran f).cells = s.cells := rfl
@[simp] theorem State.modGran_transit (f : GranSt → GranSt) : (s.modGran f).transit = s.transit := rfl
@[simp] theorem State.modGran_power (f : GranSt → GranSt) : (s.modGran f).power = s.power := rfl
@[simp] theorem State.modGran_bed (f : GranSt → GranSt) : (s.modGran f).bed = s.bed := rfl
@[simp] theorem State.modGran_layer (f : GranSt → GranSt) : (s.modGran f).layer = s.layer := rfl
@[simp] theorem State.modGran_eng (f : GranSt → GranSt) : (s.modGran f).eng = s.eng := rfl
@[simp] theorem State.modGran_beam (f : GranSt → GranSt) : (s.modGran f).beam = s.beam := rfl
@[simp] theorem State.modGran_arb (f : GranSt → GranSt) : (s.modGran f).arb = s.arb := rfl
@[simp] theorem State.modGran_loops (f : GranSt → GranSt) : (s.modGran f).loops = s.loops := rfl
@[simp] theorem State.modGran_loopDev (f : GranSt → GranSt) : (s.modGran f).loopDev = s.loopDev := rfl
@[simp] theorem State.modGran_lanes (f : GranSt → GranSt) : (s.modGran f).lanes = s.lanes := rfl
@[simp] theorem State.modGran_eye (f : GranSt → GranSt) : (s.modGran f).eye = s.eye := rfl
@[simp] theorem State.modGran_streams (f : GranSt → GranSt) : (s.modGran f).streams = s.streams := rfl
@[simp] theorem State.modGran_pipes (f : GranSt → GranSt) : (s.modGran f).pipes = s.pipes := rfl
@[simp] theorem State.modGran_fabric (f : GranSt → GranSt) : (s.modGran f).fabric = s.fabric := rfl
@[simp] theorem State.modGran_axes (f : GranSt → GranSt) : (s.modGran f).axes = s.axes := rfl
@[simp] theorem State.modGran_enc (f : GranSt → GranSt) : (s.modGran f).enc = s.enc := rfl
@[simp] theorem State.modGran_host (f : GranSt → GranSt) : (s.modGran f).host = s.host := rfl
@[simp] theorem State.modGran_gran (f : GranSt → GranSt) : (s.modGran f).gran = f s.gran := rfl
@[simp] theorem State.modGran_hk (f : GranSt → GranSt) : (s.modGran f).hk = s.hk := rfl
@[simp] theorem State.modGran_disp (f : GranSt → GranSt) : (s.modGran f).disp = s.disp := rfl
@[simp] theorem State.modGran_xk (f : GranSt → GranSt) : (s.modGran f).xk = s.xk := rfl
@[simp] theorem State.modGran_boot (f : GranSt → GranSt) : (s.modGran f).boot = s.boot := rfl
@[simp] theorem State.modGran_flash (f : GranSt → GranSt) : (s.modGran f).flash = s.flash := rfl
@[simp] theorem State.modGran_pins (f : GranSt → GranSt) : (s.modGran f).pins = s.pins := rfl
@[simp] theorem State.modGran_holds (f : GranSt → GranSt) : (s.modGran f).holds = s.holds := rfl
@[simp] theorem State.modGran_fired (f : GranSt → GranSt) : (s.modGran f).fired = s.fired := rfl
@[simp] theorem State.modGran_out (f : GranSt → GranSt) : (s.modGran f).out = s.out := rfl
@[simp] theorem State.modGran_free (f : GranSt → GranSt) : (s.modGran f).free = s.free := rfl
@[simp] theorem State.modGran_reg (f : GranSt → GranSt) (k : Nat) : (s.modGran f).reg k = s.reg k := rfl
@[simp] theorem State.modGran_get (f : GranSt → GranSt) (k : Fld) : (s.modGran f).get k = s.get k := rfl
@[simp] theorem State.modGran_flag (f : GranSt → GranSt) (k : Fld) : (s.modGran f).flag k = s.flag k := rfl
@[simp] theorem State.modGran_now (f : GranSt → GranSt) : (s.modGran f).now = s.now := rfl

/-! ## modHost -/

@[simp] theorem State.modHost_pending (f : HostSt → HostSt) : (s.modHost f).pending = s.pending := rfl
@[simp] theorem State.modHost_waiting (f : HostSt → HostSt) : (s.modHost f).waiting = s.waiting := rfl
@[simp] theorem State.modHost_regs (f : HostSt → HostSt) : (s.modHost f).regs = s.regs := rfl
@[simp] theorem State.modHost_silo (f : HostSt → HostSt) : (s.modHost f).silo = s.silo := rfl
@[simp] theorem State.modHost_time (f : HostSt → HostSt) : (s.modHost f).time = s.time := rfl
@[simp] theorem State.modHost_cells (f : HostSt → HostSt) : (s.modHost f).cells = s.cells := rfl
@[simp] theorem State.modHost_transit (f : HostSt → HostSt) : (s.modHost f).transit = s.transit := rfl
@[simp] theorem State.modHost_power (f : HostSt → HostSt) : (s.modHost f).power = s.power := rfl
@[simp] theorem State.modHost_bed (f : HostSt → HostSt) : (s.modHost f).bed = s.bed := rfl
@[simp] theorem State.modHost_layer (f : HostSt → HostSt) : (s.modHost f).layer = s.layer := rfl
@[simp] theorem State.modHost_eng (f : HostSt → HostSt) : (s.modHost f).eng = s.eng := rfl
@[simp] theorem State.modHost_beam (f : HostSt → HostSt) : (s.modHost f).beam = s.beam := rfl
@[simp] theorem State.modHost_arb (f : HostSt → HostSt) : (s.modHost f).arb = s.arb := rfl
@[simp] theorem State.modHost_loops (f : HostSt → HostSt) : (s.modHost f).loops = s.loops := rfl
@[simp] theorem State.modHost_loopDev (f : HostSt → HostSt) : (s.modHost f).loopDev = s.loopDev := rfl
@[simp] theorem State.modHost_lanes (f : HostSt → HostSt) : (s.modHost f).lanes = s.lanes := rfl
@[simp] theorem State.modHost_eye (f : HostSt → HostSt) : (s.modHost f).eye = s.eye := rfl
@[simp] theorem State.modHost_streams (f : HostSt → HostSt) : (s.modHost f).streams = s.streams := rfl
@[simp] theorem State.modHost_pipes (f : HostSt → HostSt) : (s.modHost f).pipes = s.pipes := rfl
@[simp] theorem State.modHost_fabric (f : HostSt → HostSt) : (s.modHost f).fabric = s.fabric := rfl
@[simp] theorem State.modHost_axes (f : HostSt → HostSt) : (s.modHost f).axes = s.axes := rfl
@[simp] theorem State.modHost_enc (f : HostSt → HostSt) : (s.modHost f).enc = s.enc := rfl
@[simp] theorem State.modHost_host (f : HostSt → HostSt) : (s.modHost f).host = f s.host := rfl
@[simp] theorem State.modHost_gran (f : HostSt → HostSt) : (s.modHost f).gran = s.gran := rfl
@[simp] theorem State.modHost_hk (f : HostSt → HostSt) : (s.modHost f).hk = s.hk := rfl
@[simp] theorem State.modHost_disp (f : HostSt → HostSt) : (s.modHost f).disp = s.disp := rfl
@[simp] theorem State.modHost_xk (f : HostSt → HostSt) : (s.modHost f).xk = s.xk := rfl
@[simp] theorem State.modHost_boot (f : HostSt → HostSt) : (s.modHost f).boot = s.boot := rfl
@[simp] theorem State.modHost_flash (f : HostSt → HostSt) : (s.modHost f).flash = s.flash := rfl
@[simp] theorem State.modHost_pins (f : HostSt → HostSt) : (s.modHost f).pins = s.pins := rfl
@[simp] theorem State.modHost_holds (f : HostSt → HostSt) : (s.modHost f).holds = s.holds := rfl
@[simp] theorem State.modHost_fired (f : HostSt → HostSt) : (s.modHost f).fired = s.fired := rfl
@[simp] theorem State.modHost_out (f : HostSt → HostSt) : (s.modHost f).out = s.out := rfl
@[simp] theorem State.modHost_free (f : HostSt → HostSt) : (s.modHost f).free = s.free := rfl
@[simp] theorem State.modHost_reg (f : HostSt → HostSt) (k : Nat) : (s.modHost f).reg k = s.reg k := rfl
@[simp] theorem State.modHost_get (f : HostSt → HostSt) (k : Fld) : (s.modHost f).get k = s.get k := rfl
@[simp] theorem State.modHost_flag (f : HostSt → HostSt) (k : Fld) : (s.modHost f).flag k = s.flag k := rfl
@[simp] theorem State.modHost_now (f : HostSt → HostSt) : (s.modHost f).now = s.now := rfl

/-! ## modSess -/

@[simp] theorem State.modSess_pending (n : Sess) (f : SessSt → SessSt) : (s.modSess n f).pending = s.pending := rfl
@[simp] theorem State.modSess_waiting (n : Sess) (f : SessSt → SessSt) : (s.modSess n f).waiting = s.waiting := rfl
@[simp] theorem State.modSess_regs (n : Sess) (f : SessSt → SessSt) : (s.modSess n f).regs = s.regs := rfl
@[simp] theorem State.modSess_silo (n : Sess) (f : SessSt → SessSt) : (s.modSess n f).silo = s.silo := rfl
@[simp] theorem State.modSess_time (n : Sess) (f : SessSt → SessSt) : (s.modSess n f).time = s.time := rfl
@[simp] theorem State.modSess_cells (n : Sess) (f : SessSt → SessSt) : (s.modSess n f).cells = s.cells := rfl
@[simp] theorem State.modSess_transit (n : Sess) (f : SessSt → SessSt) : (s.modSess n f).transit = s.transit := rfl
@[simp] theorem State.modSess_power (n : Sess) (f : SessSt → SessSt) : (s.modSess n f).power = s.power := rfl
@[simp] theorem State.modSess_bed (n : Sess) (f : SessSt → SessSt) : (s.modSess n f).bed = s.bed := rfl
@[simp] theorem State.modSess_layer (n : Sess) (f : SessSt → SessSt) : (s.modSess n f).layer = s.layer := rfl
@[simp] theorem State.modSess_eng (n : Sess) (f : SessSt → SessSt) : (s.modSess n f).eng = s.eng := rfl
@[simp] theorem State.modSess_beam (n : Sess) (f : SessSt → SessSt) : (s.modSess n f).beam = s.beam := rfl
@[simp] theorem State.modSess_arb (n : Sess) (f : SessSt → SessSt) : (s.modSess n f).arb = s.arb := rfl
@[simp] theorem State.modSess_loops (n : Sess) (f : SessSt → SessSt) : (s.modSess n f).loops = s.loops := rfl
@[simp] theorem State.modSess_loopDev (n : Sess) (f : SessSt → SessSt) : (s.modSess n f).loopDev = s.loopDev := rfl
@[simp] theorem State.modSess_lanes (n : Sess) (f : SessSt → SessSt) : (s.modSess n f).lanes = s.lanes := rfl
@[simp] theorem State.modSess_eye (n : Sess) (f : SessSt → SessSt) : (s.modSess n f).eye = s.eye := rfl
@[simp] theorem State.modSess_streams (n : Sess) (f : SessSt → SessSt) : (s.modSess n f).streams = s.streams := rfl
@[simp] theorem State.modSess_pipes (n : Sess) (f : SessSt → SessSt) : (s.modSess n f).pipes = s.pipes := rfl
@[simp] theorem State.modSess_fabric (n : Sess) (f : SessSt → SessSt) : (s.modSess n f).fabric = s.fabric := rfl
@[simp] theorem State.modSess_axes (n : Sess) (f : SessSt → SessSt) : (s.modSess n f).axes = s.axes := rfl
@[simp] theorem State.modSess_enc (n : Sess) (f : SessSt → SessSt) : (s.modSess n f).enc = s.enc := rfl
@[simp] theorem State.modSess_gran (n : Sess) (f : SessSt → SessSt) : (s.modSess n f).gran = s.gran := rfl
@[simp] theorem State.modSess_hk (n : Sess) (f : SessSt → SessSt) : (s.modSess n f).hk = s.hk := rfl
@[simp] theorem State.modSess_disp (n : Sess) (f : SessSt → SessSt) : (s.modSess n f).disp = s.disp := rfl
@[simp] theorem State.modSess_xk (n : Sess) (f : SessSt → SessSt) : (s.modSess n f).xk = s.xk := rfl
@[simp] theorem State.modSess_boot (n : Sess) (f : SessSt → SessSt) : (s.modSess n f).boot = s.boot := rfl
@[simp] theorem State.modSess_flash (n : Sess) (f : SessSt → SessSt) : (s.modSess n f).flash = s.flash := rfl
@[simp] theorem State.modSess_pins (n : Sess) (f : SessSt → SessSt) : (s.modSess n f).pins = s.pins := rfl
@[simp] theorem State.modSess_holds (n : Sess) (f : SessSt → SessSt) : (s.modSess n f).holds = s.holds := rfl
@[simp] theorem State.modSess_fired (n : Sess) (f : SessSt → SessSt) : (s.modSess n f).fired = s.fired := rfl
@[simp] theorem State.modSess_out (n : Sess) (f : SessSt → SessSt) : (s.modSess n f).out = s.out := rfl
@[simp] theorem State.modSess_free (n : Sess) (f : SessSt → SessSt) : (s.modSess n f).free = s.free := rfl
@[simp] theorem State.modSess_reg (n : Sess) (f : SessSt → SessSt) (k : Nat) : (s.modSess n f).reg k = s.reg k := rfl
@[simp] theorem State.modSess_get (n : Sess) (f : SessSt → SessSt) (k : Fld) : (s.modSess n f).get k = s.get k := rfl
@[simp] theorem State.modSess_flag (n : Sess) (f : SessSt → SessSt) (k : Fld) : (s.modSess n f).flag k = s.flag k := rfl
@[simp] theorem State.modSess_now (n : Sess) (f : SessSt → SessSt) : (s.modSess n f).now = s.now := rfl

/-! ## modHRing -/

@[simp] theorem State.modHRing_pending (r : Fin 32) (f : HRingSt → HRingSt) : (s.modHRing r f).pending = s.pending := rfl
@[simp] theorem State.modHRing_waiting (r : Fin 32) (f : HRingSt → HRingSt) : (s.modHRing r f).waiting = s.waiting := rfl
@[simp] theorem State.modHRing_regs (r : Fin 32) (f : HRingSt → HRingSt) : (s.modHRing r f).regs = s.regs := rfl
@[simp] theorem State.modHRing_silo (r : Fin 32) (f : HRingSt → HRingSt) : (s.modHRing r f).silo = s.silo := rfl
@[simp] theorem State.modHRing_time (r : Fin 32) (f : HRingSt → HRingSt) : (s.modHRing r f).time = s.time := rfl
@[simp] theorem State.modHRing_cells (r : Fin 32) (f : HRingSt → HRingSt) : (s.modHRing r f).cells = s.cells := rfl
@[simp] theorem State.modHRing_transit (r : Fin 32) (f : HRingSt → HRingSt) : (s.modHRing r f).transit = s.transit := rfl
@[simp] theorem State.modHRing_power (r : Fin 32) (f : HRingSt → HRingSt) : (s.modHRing r f).power = s.power := rfl
@[simp] theorem State.modHRing_bed (r : Fin 32) (f : HRingSt → HRingSt) : (s.modHRing r f).bed = s.bed := rfl
@[simp] theorem State.modHRing_layer (r : Fin 32) (f : HRingSt → HRingSt) : (s.modHRing r f).layer = s.layer := rfl
@[simp] theorem State.modHRing_eng (r : Fin 32) (f : HRingSt → HRingSt) : (s.modHRing r f).eng = s.eng := rfl
@[simp] theorem State.modHRing_beam (r : Fin 32) (f : HRingSt → HRingSt) : (s.modHRing r f).beam = s.beam := rfl
@[simp] theorem State.modHRing_arb (r : Fin 32) (f : HRingSt → HRingSt) : (s.modHRing r f).arb = s.arb := rfl
@[simp] theorem State.modHRing_loops (r : Fin 32) (f : HRingSt → HRingSt) : (s.modHRing r f).loops = s.loops := rfl
@[simp] theorem State.modHRing_loopDev (r : Fin 32) (f : HRingSt → HRingSt) : (s.modHRing r f).loopDev = s.loopDev := rfl
@[simp] theorem State.modHRing_lanes (r : Fin 32) (f : HRingSt → HRingSt) : (s.modHRing r f).lanes = s.lanes := rfl
@[simp] theorem State.modHRing_eye (r : Fin 32) (f : HRingSt → HRingSt) : (s.modHRing r f).eye = s.eye := rfl
@[simp] theorem State.modHRing_streams (r : Fin 32) (f : HRingSt → HRingSt) : (s.modHRing r f).streams = s.streams := rfl
@[simp] theorem State.modHRing_pipes (r : Fin 32) (f : HRingSt → HRingSt) : (s.modHRing r f).pipes = s.pipes := rfl
@[simp] theorem State.modHRing_fabric (r : Fin 32) (f : HRingSt → HRingSt) : (s.modHRing r f).fabric = s.fabric := rfl
@[simp] theorem State.modHRing_axes (r : Fin 32) (f : HRingSt → HRingSt) : (s.modHRing r f).axes = s.axes := rfl
@[simp] theorem State.modHRing_enc (r : Fin 32) (f : HRingSt → HRingSt) : (s.modHRing r f).enc = s.enc := rfl
@[simp] theorem State.modHRing_gran (r : Fin 32) (f : HRingSt → HRingSt) : (s.modHRing r f).gran = s.gran := rfl
@[simp] theorem State.modHRing_hk (r : Fin 32) (f : HRingSt → HRingSt) : (s.modHRing r f).hk = s.hk := rfl
@[simp] theorem State.modHRing_disp (r : Fin 32) (f : HRingSt → HRingSt) : (s.modHRing r f).disp = s.disp := rfl
@[simp] theorem State.modHRing_xk (r : Fin 32) (f : HRingSt → HRingSt) : (s.modHRing r f).xk = s.xk := rfl
@[simp] theorem State.modHRing_boot (r : Fin 32) (f : HRingSt → HRingSt) : (s.modHRing r f).boot = s.boot := rfl
@[simp] theorem State.modHRing_flash (r : Fin 32) (f : HRingSt → HRingSt) : (s.modHRing r f).flash = s.flash := rfl
@[simp] theorem State.modHRing_pins (r : Fin 32) (f : HRingSt → HRingSt) : (s.modHRing r f).pins = s.pins := rfl
@[simp] theorem State.modHRing_holds (r : Fin 32) (f : HRingSt → HRingSt) : (s.modHRing r f).holds = s.holds := rfl
@[simp] theorem State.modHRing_fired (r : Fin 32) (f : HRingSt → HRingSt) : (s.modHRing r f).fired = s.fired := rfl
@[simp] theorem State.modHRing_out (r : Fin 32) (f : HRingSt → HRingSt) : (s.modHRing r f).out = s.out := rfl
@[simp] theorem State.modHRing_free (r : Fin 32) (f : HRingSt → HRingSt) : (s.modHRing r f).free = s.free := rfl
@[simp] theorem State.modHRing_reg (r : Fin 32) (f : HRingSt → HRingSt) (k : Nat) : (s.modHRing r f).reg k = s.reg k := rfl
@[simp] theorem State.modHRing_get (r : Fin 32) (f : HRingSt → HRingSt) (k : Fld) : (s.modHRing r f).get k = s.get k := rfl
@[simp] theorem State.modHRing_flag (r : Fin 32) (f : HRingSt → HRingSt) (k : Fld) : (s.modHRing r f).flag k = s.flag k := rfl
@[simp] theorem State.modHRing_now (r : Fin 32) (f : HRingSt → HRingSt) : (s.modHRing r f).now = s.now := rfl

/-! ## modNet -/

@[simp] theorem State.modNet_pending (p : EPort) (f : NetSt → NetSt) : (s.modNet p f).pending = s.pending := rfl
@[simp] theorem State.modNet_waiting (p : EPort) (f : NetSt → NetSt) : (s.modNet p f).waiting = s.waiting := rfl
@[simp] theorem State.modNet_regs (p : EPort) (f : NetSt → NetSt) : (s.modNet p f).regs = s.regs := rfl
@[simp] theorem State.modNet_silo (p : EPort) (f : NetSt → NetSt) : (s.modNet p f).silo = s.silo := rfl
@[simp] theorem State.modNet_time (p : EPort) (f : NetSt → NetSt) : (s.modNet p f).time = s.time := rfl
@[simp] theorem State.modNet_cells (p : EPort) (f : NetSt → NetSt) : (s.modNet p f).cells = s.cells := rfl
@[simp] theorem State.modNet_transit (p : EPort) (f : NetSt → NetSt) : (s.modNet p f).transit = s.transit := rfl
@[simp] theorem State.modNet_power (p : EPort) (f : NetSt → NetSt) : (s.modNet p f).power = s.power := rfl
@[simp] theorem State.modNet_bed (p : EPort) (f : NetSt → NetSt) : (s.modNet p f).bed = s.bed := rfl
@[simp] theorem State.modNet_layer (p : EPort) (f : NetSt → NetSt) : (s.modNet p f).layer = s.layer := rfl
@[simp] theorem State.modNet_eng (p : EPort) (f : NetSt → NetSt) : (s.modNet p f).eng = s.eng := rfl
@[simp] theorem State.modNet_beam (p : EPort) (f : NetSt → NetSt) : (s.modNet p f).beam = s.beam := rfl
@[simp] theorem State.modNet_arb (p : EPort) (f : NetSt → NetSt) : (s.modNet p f).arb = s.arb := rfl
@[simp] theorem State.modNet_loops (p : EPort) (f : NetSt → NetSt) : (s.modNet p f).loops = s.loops := rfl
@[simp] theorem State.modNet_loopDev (p : EPort) (f : NetSt → NetSt) : (s.modNet p f).loopDev = s.loopDev := rfl
@[simp] theorem State.modNet_lanes (p : EPort) (f : NetSt → NetSt) : (s.modNet p f).lanes = s.lanes := rfl
@[simp] theorem State.modNet_eye (p : EPort) (f : NetSt → NetSt) : (s.modNet p f).eye = s.eye := rfl
@[simp] theorem State.modNet_streams (p : EPort) (f : NetSt → NetSt) : (s.modNet p f).streams = s.streams := rfl
@[simp] theorem State.modNet_pipes (p : EPort) (f : NetSt → NetSt) : (s.modNet p f).pipes = s.pipes := rfl
@[simp] theorem State.modNet_fabric (p : EPort) (f : NetSt → NetSt) : (s.modNet p f).fabric = s.fabric := rfl
@[simp] theorem State.modNet_axes (p : EPort) (f : NetSt → NetSt) : (s.modNet p f).axes = s.axes := rfl
@[simp] theorem State.modNet_enc (p : EPort) (f : NetSt → NetSt) : (s.modNet p f).enc = s.enc := rfl
@[simp] theorem State.modNet_gran (p : EPort) (f : NetSt → NetSt) : (s.modNet p f).gran = s.gran := rfl
@[simp] theorem State.modNet_hk (p : EPort) (f : NetSt → NetSt) : (s.modNet p f).hk = s.hk := rfl
@[simp] theorem State.modNet_disp (p : EPort) (f : NetSt → NetSt) : (s.modNet p f).disp = s.disp := rfl
@[simp] theorem State.modNet_xk (p : EPort) (f : NetSt → NetSt) : (s.modNet p f).xk = s.xk := rfl
@[simp] theorem State.modNet_boot (p : EPort) (f : NetSt → NetSt) : (s.modNet p f).boot = s.boot := rfl
@[simp] theorem State.modNet_flash (p : EPort) (f : NetSt → NetSt) : (s.modNet p f).flash = s.flash := rfl
@[simp] theorem State.modNet_pins (p : EPort) (f : NetSt → NetSt) : (s.modNet p f).pins = s.pins := rfl
@[simp] theorem State.modNet_holds (p : EPort) (f : NetSt → NetSt) : (s.modNet p f).holds = s.holds := rfl
@[simp] theorem State.modNet_fired (p : EPort) (f : NetSt → NetSt) : (s.modNet p f).fired = s.fired := rfl
@[simp] theorem State.modNet_out (p : EPort) (f : NetSt → NetSt) : (s.modNet p f).out = s.out := rfl
@[simp] theorem State.modNet_free (p : EPort) (f : NetSt → NetSt) : (s.modNet p f).free = s.free := rfl
@[simp] theorem State.modNet_reg (p : EPort) (f : NetSt → NetSt) (k : Nat) : (s.modNet p f).reg k = s.reg k := rfl
@[simp] theorem State.modNet_get (p : EPort) (f : NetSt → NetSt) (k : Fld) : (s.modNet p f).get k = s.get k := rfl
@[simp] theorem State.modNet_flag (p : EPort) (f : NetSt → NetSt) (k : Fld) : (s.modNet p f).flag k = s.flag k := rfl
@[simp] theorem State.modNet_now (p : EPort) (f : NetSt → NetSt) : (s.modNet p f).now = s.now := rfl

/-! ## modLb -/

@[simp] theorem State.modLb_pending (f : LbSt → LbSt) : (s.modLb f).pending = s.pending := rfl
@[simp] theorem State.modLb_waiting (f : LbSt → LbSt) : (s.modLb f).waiting = s.waiting := rfl
@[simp] theorem State.modLb_regs (f : LbSt → LbSt) : (s.modLb f).regs = s.regs := rfl
@[simp] theorem State.modLb_silo (f : LbSt → LbSt) : (s.modLb f).silo = s.silo := rfl
@[simp] theorem State.modLb_time (f : LbSt → LbSt) : (s.modLb f).time = s.time := rfl
@[simp] theorem State.modLb_cells (f : LbSt → LbSt) : (s.modLb f).cells = s.cells := rfl
@[simp] theorem State.modLb_transit (f : LbSt → LbSt) : (s.modLb f).transit = s.transit := rfl
@[simp] theorem State.modLb_power (f : LbSt → LbSt) : (s.modLb f).power = s.power := rfl
@[simp] theorem State.modLb_bed (f : LbSt → LbSt) : (s.modLb f).bed = s.bed := rfl
@[simp] theorem State.modLb_layer (f : LbSt → LbSt) : (s.modLb f).layer = s.layer := rfl
@[simp] theorem State.modLb_eng (f : LbSt → LbSt) : (s.modLb f).eng = s.eng := rfl
@[simp] theorem State.modLb_beam (f : LbSt → LbSt) : (s.modLb f).beam = s.beam := rfl
@[simp] theorem State.modLb_arb (f : LbSt → LbSt) : (s.modLb f).arb = s.arb := rfl
@[simp] theorem State.modLb_loops (f : LbSt → LbSt) : (s.modLb f).loops = s.loops := rfl
@[simp] theorem State.modLb_loopDev (f : LbSt → LbSt) : (s.modLb f).loopDev = s.loopDev := rfl
@[simp] theorem State.modLb_lanes (f : LbSt → LbSt) : (s.modLb f).lanes = s.lanes := rfl
@[simp] theorem State.modLb_eye (f : LbSt → LbSt) : (s.modLb f).eye = s.eye := rfl
@[simp] theorem State.modLb_streams (f : LbSt → LbSt) : (s.modLb f).streams = s.streams := rfl
@[simp] theorem State.modLb_pipes (f : LbSt → LbSt) : (s.modLb f).pipes = s.pipes := rfl
@[simp] theorem State.modLb_fabric (f : LbSt → LbSt) : (s.modLb f).fabric = s.fabric := rfl
@[simp] theorem State.modLb_axes (f : LbSt → LbSt) : (s.modLb f).axes = s.axes := rfl
@[simp] theorem State.modLb_enc (f : LbSt → LbSt) : (s.modLb f).enc = s.enc := rfl
@[simp] theorem State.modLb_gran (f : LbSt → LbSt) : (s.modLb f).gran = s.gran := rfl
@[simp] theorem State.modLb_hk (f : LbSt → LbSt) : (s.modLb f).hk = s.hk := rfl
@[simp] theorem State.modLb_disp (f : LbSt → LbSt) : (s.modLb f).disp = s.disp := rfl
@[simp] theorem State.modLb_xk (f : LbSt → LbSt) : (s.modLb f).xk = s.xk := rfl
@[simp] theorem State.modLb_boot (f : LbSt → LbSt) : (s.modLb f).boot = s.boot := rfl
@[simp] theorem State.modLb_flash (f : LbSt → LbSt) : (s.modLb f).flash = s.flash := rfl
@[simp] theorem State.modLb_pins (f : LbSt → LbSt) : (s.modLb f).pins = s.pins := rfl
@[simp] theorem State.modLb_holds (f : LbSt → LbSt) : (s.modLb f).holds = s.holds := rfl
@[simp] theorem State.modLb_fired (f : LbSt → LbSt) : (s.modLb f).fired = s.fired := rfl
@[simp] theorem State.modLb_out (f : LbSt → LbSt) : (s.modLb f).out = s.out := rfl
@[simp] theorem State.modLb_free (f : LbSt → LbSt) : (s.modLb f).free = s.free := rfl
@[simp] theorem State.modLb_reg (f : LbSt → LbSt) (k : Nat) : (s.modLb f).reg k = s.reg k := rfl
@[simp] theorem State.modLb_get (f : LbSt → LbSt) (k : Fld) : (s.modLb f).get k = s.get k := rfl
@[simp] theorem State.modLb_flag (f : LbSt → LbSt) (k : Fld) : (s.modLb f).flag k = s.flag k := rfl
@[simp] theorem State.modLb_now (f : LbSt → LbSt) : (s.modLb f).now = s.now := rfl

/-! ## modHk -/

@[simp] theorem State.modHk_pending (f : HkSt → HkSt) : (s.modHk f).pending = s.pending := rfl
@[simp] theorem State.modHk_waiting (f : HkSt → HkSt) : (s.modHk f).waiting = s.waiting := rfl
@[simp] theorem State.modHk_regs (f : HkSt → HkSt) : (s.modHk f).regs = s.regs := rfl
@[simp] theorem State.modHk_silo (f : HkSt → HkSt) : (s.modHk f).silo = s.silo := rfl
@[simp] theorem State.modHk_time (f : HkSt → HkSt) : (s.modHk f).time = s.time := rfl
@[simp] theorem State.modHk_cells (f : HkSt → HkSt) : (s.modHk f).cells = s.cells := rfl
@[simp] theorem State.modHk_transit (f : HkSt → HkSt) : (s.modHk f).transit = s.transit := rfl
@[simp] theorem State.modHk_power (f : HkSt → HkSt) : (s.modHk f).power = s.power := rfl
@[simp] theorem State.modHk_bed (f : HkSt → HkSt) : (s.modHk f).bed = s.bed := rfl
@[simp] theorem State.modHk_layer (f : HkSt → HkSt) : (s.modHk f).layer = s.layer := rfl
@[simp] theorem State.modHk_eng (f : HkSt → HkSt) : (s.modHk f).eng = s.eng := rfl
@[simp] theorem State.modHk_beam (f : HkSt → HkSt) : (s.modHk f).beam = s.beam := rfl
@[simp] theorem State.modHk_arb (f : HkSt → HkSt) : (s.modHk f).arb = s.arb := rfl
@[simp] theorem State.modHk_loops (f : HkSt → HkSt) : (s.modHk f).loops = s.loops := rfl
@[simp] theorem State.modHk_loopDev (f : HkSt → HkSt) : (s.modHk f).loopDev = s.loopDev := rfl
@[simp] theorem State.modHk_lanes (f : HkSt → HkSt) : (s.modHk f).lanes = s.lanes := rfl
@[simp] theorem State.modHk_eye (f : HkSt → HkSt) : (s.modHk f).eye = s.eye := rfl
@[simp] theorem State.modHk_streams (f : HkSt → HkSt) : (s.modHk f).streams = s.streams := rfl
@[simp] theorem State.modHk_pipes (f : HkSt → HkSt) : (s.modHk f).pipes = s.pipes := rfl
@[simp] theorem State.modHk_fabric (f : HkSt → HkSt) : (s.modHk f).fabric = s.fabric := rfl
@[simp] theorem State.modHk_axes (f : HkSt → HkSt) : (s.modHk f).axes = s.axes := rfl
@[simp] theorem State.modHk_enc (f : HkSt → HkSt) : (s.modHk f).enc = s.enc := rfl
@[simp] theorem State.modHk_host (f : HkSt → HkSt) : (s.modHk f).host = s.host := rfl
@[simp] theorem State.modHk_gran (f : HkSt → HkSt) : (s.modHk f).gran = s.gran := rfl
@[simp] theorem State.modHk_hk (f : HkSt → HkSt) : (s.modHk f).hk = f s.hk := rfl
@[simp] theorem State.modHk_disp (f : HkSt → HkSt) : (s.modHk f).disp = s.disp := rfl
@[simp] theorem State.modHk_xk (f : HkSt → HkSt) : (s.modHk f).xk = s.xk := rfl
@[simp] theorem State.modHk_boot (f : HkSt → HkSt) : (s.modHk f).boot = s.boot := rfl
@[simp] theorem State.modHk_flash (f : HkSt → HkSt) : (s.modHk f).flash = s.flash := rfl
@[simp] theorem State.modHk_pins (f : HkSt → HkSt) : (s.modHk f).pins = s.pins := rfl
@[simp] theorem State.modHk_holds (f : HkSt → HkSt) : (s.modHk f).holds = s.holds := rfl
@[simp] theorem State.modHk_fired (f : HkSt → HkSt) : (s.modHk f).fired = s.fired := rfl
@[simp] theorem State.modHk_out (f : HkSt → HkSt) : (s.modHk f).out = s.out := rfl
@[simp] theorem State.modHk_free (f : HkSt → HkSt) : (s.modHk f).free = s.free := rfl
@[simp] theorem State.modHk_reg (f : HkSt → HkSt) (k : Nat) : (s.modHk f).reg k = s.reg k := rfl
@[simp] theorem State.modHk_get (f : HkSt → HkSt) (k : Fld) : (s.modHk f).get k = s.get k := rfl
@[simp] theorem State.modHk_flag (f : HkSt → HkSt) (k : Fld) : (s.modHk f).flag k = s.flag k := rfl
@[simp] theorem State.modHk_now (f : HkSt → HkSt) : (s.modHk f).now = s.now := rfl

/-! ## modLane -/

@[simp] theorem State.modLane_pending (n : Lane) (f : LaneSt → LaneSt) : (s.modLane n f).pending = s.pending := rfl
@[simp] theorem State.modLane_waiting (n : Lane) (f : LaneSt → LaneSt) : (s.modLane n f).waiting = s.waiting := rfl
@[simp] theorem State.modLane_regs (n : Lane) (f : LaneSt → LaneSt) : (s.modLane n f).regs = s.regs := rfl
@[simp] theorem State.modLane_silo (n : Lane) (f : LaneSt → LaneSt) : (s.modLane n f).silo = s.silo := rfl
@[simp] theorem State.modLane_time (n : Lane) (f : LaneSt → LaneSt) : (s.modLane n f).time = s.time := rfl
@[simp] theorem State.modLane_cells (n : Lane) (f : LaneSt → LaneSt) : (s.modLane n f).cells = s.cells := rfl
@[simp] theorem State.modLane_transit (n : Lane) (f : LaneSt → LaneSt) : (s.modLane n f).transit = s.transit := rfl
@[simp] theorem State.modLane_power (n : Lane) (f : LaneSt → LaneSt) : (s.modLane n f).power = s.power := rfl
@[simp] theorem State.modLane_bed (n : Lane) (f : LaneSt → LaneSt) : (s.modLane n f).bed = s.bed := rfl
@[simp] theorem State.modLane_layer (n : Lane) (f : LaneSt → LaneSt) : (s.modLane n f).layer = s.layer := rfl
@[simp] theorem State.modLane_eng (n : Lane) (f : LaneSt → LaneSt) : (s.modLane n f).eng = s.eng := rfl
@[simp] theorem State.modLane_beam (n : Lane) (f : LaneSt → LaneSt) : (s.modLane n f).beam = s.beam := rfl
@[simp] theorem State.modLane_arb (n : Lane) (f : LaneSt → LaneSt) : (s.modLane n f).arb = s.arb := rfl
@[simp] theorem State.modLane_loops (n : Lane) (f : LaneSt → LaneSt) : (s.modLane n f).loops = s.loops := rfl
@[simp] theorem State.modLane_loopDev (n : Lane) (f : LaneSt → LaneSt) : (s.modLane n f).loopDev = s.loopDev := rfl
@[simp] theorem State.modLane_lanes (n : Lane) (f : LaneSt → LaneSt) : (s.modLane n f).lanes = vmod s.lanes n f := rfl
@[simp] theorem State.modLane_eye (n : Lane) (f : LaneSt → LaneSt) : (s.modLane n f).eye = s.eye := rfl
@[simp] theorem State.modLane_streams (n : Lane) (f : LaneSt → LaneSt) : (s.modLane n f).streams = s.streams := rfl
@[simp] theorem State.modLane_pipes (n : Lane) (f : LaneSt → LaneSt) : (s.modLane n f).pipes = s.pipes := rfl
@[simp] theorem State.modLane_fabric (n : Lane) (f : LaneSt → LaneSt) : (s.modLane n f).fabric = s.fabric := rfl
@[simp] theorem State.modLane_axes (n : Lane) (f : LaneSt → LaneSt) : (s.modLane n f).axes = s.axes := rfl
@[simp] theorem State.modLane_enc (n : Lane) (f : LaneSt → LaneSt) : (s.modLane n f).enc = s.enc := rfl
@[simp] theorem State.modLane_host (n : Lane) (f : LaneSt → LaneSt) : (s.modLane n f).host = s.host := rfl
@[simp] theorem State.modLane_gran (n : Lane) (f : LaneSt → LaneSt) : (s.modLane n f).gran = s.gran := rfl
@[simp] theorem State.modLane_hk (n : Lane) (f : LaneSt → LaneSt) : (s.modLane n f).hk = s.hk := rfl
@[simp] theorem State.modLane_disp (n : Lane) (f : LaneSt → LaneSt) : (s.modLane n f).disp = s.disp := rfl
@[simp] theorem State.modLane_xk (n : Lane) (f : LaneSt → LaneSt) : (s.modLane n f).xk = s.xk := rfl
@[simp] theorem State.modLane_boot (n : Lane) (f : LaneSt → LaneSt) : (s.modLane n f).boot = s.boot := rfl
@[simp] theorem State.modLane_flash (n : Lane) (f : LaneSt → LaneSt) : (s.modLane n f).flash = s.flash := rfl
@[simp] theorem State.modLane_pins (n : Lane) (f : LaneSt → LaneSt) : (s.modLane n f).pins = s.pins := rfl
@[simp] theorem State.modLane_holds (n : Lane) (f : LaneSt → LaneSt) : (s.modLane n f).holds = s.holds := rfl
@[simp] theorem State.modLane_fired (n : Lane) (f : LaneSt → LaneSt) : (s.modLane n f).fired = s.fired := rfl
@[simp] theorem State.modLane_out (n : Lane) (f : LaneSt → LaneSt) : (s.modLane n f).out = s.out := rfl
@[simp] theorem State.modLane_free (n : Lane) (f : LaneSt → LaneSt) : (s.modLane n f).free = s.free := rfl
@[simp] theorem State.modLane_reg (n : Lane) (f : LaneSt → LaneSt) (k : Nat) : (s.modLane n f).reg k = s.reg k := rfl
@[simp] theorem State.modLane_get (n : Lane) (f : LaneSt → LaneSt) (k : Fld) : (s.modLane n f).get k = s.get k := rfl
@[simp] theorem State.modLane_flag (n : Lane) (f : LaneSt → LaneSt) (k : Fld) : (s.modLane n f).flag k = s.flag k := rfl
@[simp] theorem State.modLane_now (n : Lane) (f : LaneSt → LaneSt) : (s.modLane n f).now = s.now := rfl

/-! ## modStream -/

@[simp] theorem State.modStream_pending (n : Stream) (f : StreamSt → StreamSt) : (s.modStream n f).pending = s.pending := rfl
@[simp] theorem State.modStream_waiting (n : Stream) (f : StreamSt → StreamSt) : (s.modStream n f).waiting = s.waiting := rfl
@[simp] theorem State.modStream_regs (n : Stream) (f : StreamSt → StreamSt) : (s.modStream n f).regs = s.regs := rfl
@[simp] theorem State.modStream_silo (n : Stream) (f : StreamSt → StreamSt) : (s.modStream n f).silo = s.silo := rfl
@[simp] theorem State.modStream_time (n : Stream) (f : StreamSt → StreamSt) : (s.modStream n f).time = s.time := rfl
@[simp] theorem State.modStream_cells (n : Stream) (f : StreamSt → StreamSt) : (s.modStream n f).cells = s.cells := rfl
@[simp] theorem State.modStream_transit (n : Stream) (f : StreamSt → StreamSt) : (s.modStream n f).transit = s.transit := rfl
@[simp] theorem State.modStream_power (n : Stream) (f : StreamSt → StreamSt) : (s.modStream n f).power = s.power := rfl
@[simp] theorem State.modStream_bed (n : Stream) (f : StreamSt → StreamSt) : (s.modStream n f).bed = s.bed := rfl
@[simp] theorem State.modStream_layer (n : Stream) (f : StreamSt → StreamSt) : (s.modStream n f).layer = s.layer := rfl
@[simp] theorem State.modStream_eng (n : Stream) (f : StreamSt → StreamSt) : (s.modStream n f).eng = s.eng := rfl
@[simp] theorem State.modStream_beam (n : Stream) (f : StreamSt → StreamSt) : (s.modStream n f).beam = s.beam := rfl
@[simp] theorem State.modStream_arb (n : Stream) (f : StreamSt → StreamSt) : (s.modStream n f).arb = s.arb := rfl
@[simp] theorem State.modStream_loops (n : Stream) (f : StreamSt → StreamSt) : (s.modStream n f).loops = s.loops := rfl
@[simp] theorem State.modStream_loopDev (n : Stream) (f : StreamSt → StreamSt) : (s.modStream n f).loopDev = s.loopDev := rfl
@[simp] theorem State.modStream_lanes (n : Stream) (f : StreamSt → StreamSt) : (s.modStream n f).lanes = s.lanes := rfl
@[simp] theorem State.modStream_eye (n : Stream) (f : StreamSt → StreamSt) : (s.modStream n f).eye = s.eye := rfl
@[simp] theorem State.modStream_streams (n : Stream) (f : StreamSt → StreamSt) : (s.modStream n f).streams = vmod s.streams n f := rfl
@[simp] theorem State.modStream_pipes (n : Stream) (f : StreamSt → StreamSt) : (s.modStream n f).pipes = s.pipes := rfl
@[simp] theorem State.modStream_fabric (n : Stream) (f : StreamSt → StreamSt) : (s.modStream n f).fabric = s.fabric := rfl
@[simp] theorem State.modStream_axes (n : Stream) (f : StreamSt → StreamSt) : (s.modStream n f).axes = s.axes := rfl
@[simp] theorem State.modStream_enc (n : Stream) (f : StreamSt → StreamSt) : (s.modStream n f).enc = s.enc := rfl
@[simp] theorem State.modStream_host (n : Stream) (f : StreamSt → StreamSt) : (s.modStream n f).host = s.host := rfl
@[simp] theorem State.modStream_gran (n : Stream) (f : StreamSt → StreamSt) : (s.modStream n f).gran = s.gran := rfl
@[simp] theorem State.modStream_hk (n : Stream) (f : StreamSt → StreamSt) : (s.modStream n f).hk = s.hk := rfl
@[simp] theorem State.modStream_disp (n : Stream) (f : StreamSt → StreamSt) : (s.modStream n f).disp = s.disp := rfl
@[simp] theorem State.modStream_xk (n : Stream) (f : StreamSt → StreamSt) : (s.modStream n f).xk = s.xk := rfl
@[simp] theorem State.modStream_boot (n : Stream) (f : StreamSt → StreamSt) : (s.modStream n f).boot = s.boot := rfl
@[simp] theorem State.modStream_flash (n : Stream) (f : StreamSt → StreamSt) : (s.modStream n f).flash = s.flash := rfl
@[simp] theorem State.modStream_pins (n : Stream) (f : StreamSt → StreamSt) : (s.modStream n f).pins = s.pins := rfl
@[simp] theorem State.modStream_holds (n : Stream) (f : StreamSt → StreamSt) : (s.modStream n f).holds = s.holds := rfl
@[simp] theorem State.modStream_fired (n : Stream) (f : StreamSt → StreamSt) : (s.modStream n f).fired = s.fired := rfl
@[simp] theorem State.modStream_out (n : Stream) (f : StreamSt → StreamSt) : (s.modStream n f).out = s.out := rfl
@[simp] theorem State.modStream_free (n : Stream) (f : StreamSt → StreamSt) : (s.modStream n f).free = s.free := rfl
@[simp] theorem State.modStream_reg (n : Stream) (f : StreamSt → StreamSt) (k : Nat) : (s.modStream n f).reg k = s.reg k := rfl
@[simp] theorem State.modStream_get (n : Stream) (f : StreamSt → StreamSt) (k : Fld) : (s.modStream n f).get k = s.get k := rfl
@[simp] theorem State.modStream_flag (n : Stream) (f : StreamSt → StreamSt) (k : Fld) : (s.modStream n f).flag k = s.flag k := rfl
@[simp] theorem State.modStream_now (n : Stream) (f : StreamSt → StreamSt) : (s.modStream n f).now = s.now := rfl

/-! ## modPipe -/

@[simp] theorem State.modPipe_pending (p : Fin 4) (f : PipeSt → PipeSt) : (s.modPipe p f).pending = s.pending := rfl
@[simp] theorem State.modPipe_waiting (p : Fin 4) (f : PipeSt → PipeSt) : (s.modPipe p f).waiting = s.waiting := rfl
@[simp] theorem State.modPipe_regs (p : Fin 4) (f : PipeSt → PipeSt) : (s.modPipe p f).regs = s.regs := rfl
@[simp] theorem State.modPipe_silo (p : Fin 4) (f : PipeSt → PipeSt) : (s.modPipe p f).silo = s.silo := rfl
@[simp] theorem State.modPipe_time (p : Fin 4) (f : PipeSt → PipeSt) : (s.modPipe p f).time = s.time := rfl
@[simp] theorem State.modPipe_cells (p : Fin 4) (f : PipeSt → PipeSt) : (s.modPipe p f).cells = s.cells := rfl
@[simp] theorem State.modPipe_transit (p : Fin 4) (f : PipeSt → PipeSt) : (s.modPipe p f).transit = s.transit := rfl
@[simp] theorem State.modPipe_power (p : Fin 4) (f : PipeSt → PipeSt) : (s.modPipe p f).power = s.power := rfl
@[simp] theorem State.modPipe_bed (p : Fin 4) (f : PipeSt → PipeSt) : (s.modPipe p f).bed = s.bed := rfl
@[simp] theorem State.modPipe_layer (p : Fin 4) (f : PipeSt → PipeSt) : (s.modPipe p f).layer = s.layer := rfl
@[simp] theorem State.modPipe_eng (p : Fin 4) (f : PipeSt → PipeSt) : (s.modPipe p f).eng = s.eng := rfl
@[simp] theorem State.modPipe_beam (p : Fin 4) (f : PipeSt → PipeSt) : (s.modPipe p f).beam = s.beam := rfl
@[simp] theorem State.modPipe_arb (p : Fin 4) (f : PipeSt → PipeSt) : (s.modPipe p f).arb = s.arb := rfl
@[simp] theorem State.modPipe_loops (p : Fin 4) (f : PipeSt → PipeSt) : (s.modPipe p f).loops = s.loops := rfl
@[simp] theorem State.modPipe_loopDev (p : Fin 4) (f : PipeSt → PipeSt) : (s.modPipe p f).loopDev = s.loopDev := rfl
@[simp] theorem State.modPipe_lanes (p : Fin 4) (f : PipeSt → PipeSt) : (s.modPipe p f).lanes = s.lanes := rfl
@[simp] theorem State.modPipe_eye (p : Fin 4) (f : PipeSt → PipeSt) : (s.modPipe p f).eye = s.eye := rfl
@[simp] theorem State.modPipe_streams (p : Fin 4) (f : PipeSt → PipeSt) : (s.modPipe p f).streams = s.streams := rfl
@[simp] theorem State.modPipe_pipes (p : Fin 4) (f : PipeSt → PipeSt) : (s.modPipe p f).pipes = vmod s.pipes p f := rfl
@[simp] theorem State.modPipe_fabric (p : Fin 4) (f : PipeSt → PipeSt) : (s.modPipe p f).fabric = s.fabric := rfl
@[simp] theorem State.modPipe_axes (p : Fin 4) (f : PipeSt → PipeSt) : (s.modPipe p f).axes = s.axes := rfl
@[simp] theorem State.modPipe_enc (p : Fin 4) (f : PipeSt → PipeSt) : (s.modPipe p f).enc = s.enc := rfl
@[simp] theorem State.modPipe_host (p : Fin 4) (f : PipeSt → PipeSt) : (s.modPipe p f).host = s.host := rfl
@[simp] theorem State.modPipe_gran (p : Fin 4) (f : PipeSt → PipeSt) : (s.modPipe p f).gran = s.gran := rfl
@[simp] theorem State.modPipe_hk (p : Fin 4) (f : PipeSt → PipeSt) : (s.modPipe p f).hk = s.hk := rfl
@[simp] theorem State.modPipe_disp (p : Fin 4) (f : PipeSt → PipeSt) : (s.modPipe p f).disp = s.disp := rfl
@[simp] theorem State.modPipe_xk (p : Fin 4) (f : PipeSt → PipeSt) : (s.modPipe p f).xk = s.xk := rfl
@[simp] theorem State.modPipe_boot (p : Fin 4) (f : PipeSt → PipeSt) : (s.modPipe p f).boot = s.boot := rfl
@[simp] theorem State.modPipe_flash (p : Fin 4) (f : PipeSt → PipeSt) : (s.modPipe p f).flash = s.flash := rfl
@[simp] theorem State.modPipe_pins (p : Fin 4) (f : PipeSt → PipeSt) : (s.modPipe p f).pins = s.pins := rfl
@[simp] theorem State.modPipe_holds (p : Fin 4) (f : PipeSt → PipeSt) : (s.modPipe p f).holds = s.holds := rfl
@[simp] theorem State.modPipe_fired (p : Fin 4) (f : PipeSt → PipeSt) : (s.modPipe p f).fired = s.fired := rfl
@[simp] theorem State.modPipe_out (p : Fin 4) (f : PipeSt → PipeSt) : (s.modPipe p f).out = s.out := rfl
@[simp] theorem State.modPipe_free (p : Fin 4) (f : PipeSt → PipeSt) : (s.modPipe p f).free = s.free := rfl
@[simp] theorem State.modPipe_reg (p : Fin 4) (f : PipeSt → PipeSt) (k : Nat) : (s.modPipe p f).reg k = s.reg k := rfl
@[simp] theorem State.modPipe_get (p : Fin 4) (f : PipeSt → PipeSt) (k : Fld) : (s.modPipe p f).get k = s.get k := rfl
@[simp] theorem State.modPipe_flag (p : Fin 4) (f : PipeSt → PipeSt) (k : Fld) : (s.modPipe p f).flag k = s.flag k := rfl
@[simp] theorem State.modPipe_now (p : Fin 4) (f : PipeSt → PipeSt) : (s.modPipe p f).now = s.now := rfl

/-! ## modTime -/

@[simp] theorem State.modTime_pending (f : TimeSt → TimeSt) : (s.modTime f).pending = s.pending := rfl
@[simp] theorem State.modTime_waiting (f : TimeSt → TimeSt) : (s.modTime f).waiting = s.waiting := rfl
@[simp] theorem State.modTime_regs (f : TimeSt → TimeSt) : (s.modTime f).regs = s.regs := rfl
@[simp] theorem State.modTime_silo (f : TimeSt → TimeSt) : (s.modTime f).silo = s.silo := rfl
@[simp] theorem State.modTime_time (f : TimeSt → TimeSt) : (s.modTime f).time = f s.time := rfl
@[simp] theorem State.modTime_cells (f : TimeSt → TimeSt) : (s.modTime f).cells = s.cells := rfl
@[simp] theorem State.modTime_transit (f : TimeSt → TimeSt) : (s.modTime f).transit = s.transit := rfl
@[simp] theorem State.modTime_power (f : TimeSt → TimeSt) : (s.modTime f).power = s.power := rfl
@[simp] theorem State.modTime_bed (f : TimeSt → TimeSt) : (s.modTime f).bed = s.bed := rfl
@[simp] theorem State.modTime_layer (f : TimeSt → TimeSt) : (s.modTime f).layer = s.layer := rfl
@[simp] theorem State.modTime_eng (f : TimeSt → TimeSt) : (s.modTime f).eng = s.eng := rfl
@[simp] theorem State.modTime_beam (f : TimeSt → TimeSt) : (s.modTime f).beam = s.beam := rfl
@[simp] theorem State.modTime_arb (f : TimeSt → TimeSt) : (s.modTime f).arb = s.arb := rfl
@[simp] theorem State.modTime_loops (f : TimeSt → TimeSt) : (s.modTime f).loops = s.loops := rfl
@[simp] theorem State.modTime_loopDev (f : TimeSt → TimeSt) : (s.modTime f).loopDev = s.loopDev := rfl
@[simp] theorem State.modTime_lanes (f : TimeSt → TimeSt) : (s.modTime f).lanes = s.lanes := rfl
@[simp] theorem State.modTime_eye (f : TimeSt → TimeSt) : (s.modTime f).eye = s.eye := rfl
@[simp] theorem State.modTime_streams (f : TimeSt → TimeSt) : (s.modTime f).streams = s.streams := rfl
@[simp] theorem State.modTime_pipes (f : TimeSt → TimeSt) : (s.modTime f).pipes = s.pipes := rfl
@[simp] theorem State.modTime_fabric (f : TimeSt → TimeSt) : (s.modTime f).fabric = s.fabric := rfl
@[simp] theorem State.modTime_axes (f : TimeSt → TimeSt) : (s.modTime f).axes = s.axes := rfl
@[simp] theorem State.modTime_enc (f : TimeSt → TimeSt) : (s.modTime f).enc = s.enc := rfl
@[simp] theorem State.modTime_host (f : TimeSt → TimeSt) : (s.modTime f).host = s.host := rfl
@[simp] theorem State.modTime_gran (f : TimeSt → TimeSt) : (s.modTime f).gran = s.gran := rfl
@[simp] theorem State.modTime_hk (f : TimeSt → TimeSt) : (s.modTime f).hk = s.hk := rfl
@[simp] theorem State.modTime_disp (f : TimeSt → TimeSt) : (s.modTime f).disp = s.disp := rfl
@[simp] theorem State.modTime_xk (f : TimeSt → TimeSt) : (s.modTime f).xk = s.xk := rfl
@[simp] theorem State.modTime_boot (f : TimeSt → TimeSt) : (s.modTime f).boot = s.boot := rfl
@[simp] theorem State.modTime_flash (f : TimeSt → TimeSt) : (s.modTime f).flash = s.flash := rfl
@[simp] theorem State.modTime_pins (f : TimeSt → TimeSt) : (s.modTime f).pins = s.pins := rfl
@[simp] theorem State.modTime_holds (f : TimeSt → TimeSt) : (s.modTime f).holds = s.holds := rfl
@[simp] theorem State.modTime_fired (f : TimeSt → TimeSt) : (s.modTime f).fired = s.fired := rfl
@[simp] theorem State.modTime_out (f : TimeSt → TimeSt) : (s.modTime f).out = s.out := rfl
@[simp] theorem State.modTime_free (f : TimeSt → TimeSt) : (s.modTime f).free = s.free := rfl
@[simp] theorem State.modTime_reg (f : TimeSt → TimeSt) (k : Nat) : (s.modTime f).reg k = s.reg k := rfl
@[simp] theorem State.modTime_get (f : TimeSt → TimeSt) (k : Fld) : (s.modTime f).get k = s.get k := rfl
@[simp] theorem State.modTime_flag (f : TimeSt → TimeSt) (k : Fld) : (s.modTime f).flag k = s.flag k := rfl

/-! ## modFl -/

@[simp] theorem State.modFl_pending (f : FlTimeSt → FlTimeSt) : (s.modFl f).pending = s.pending := rfl
@[simp] theorem State.modFl_waiting (f : FlTimeSt → FlTimeSt) : (s.modFl f).waiting = s.waiting := rfl
@[simp] theorem State.modFl_regs (f : FlTimeSt → FlTimeSt) : (s.modFl f).regs = s.regs := rfl
@[simp] theorem State.modFl_silo (f : FlTimeSt → FlTimeSt) : (s.modFl f).silo = s.silo := rfl
@[simp] theorem State.modFl_cells (f : FlTimeSt → FlTimeSt) : (s.modFl f).cells = s.cells := rfl
@[simp] theorem State.modFl_transit (f : FlTimeSt → FlTimeSt) : (s.modFl f).transit = s.transit := rfl
@[simp] theorem State.modFl_power (f : FlTimeSt → FlTimeSt) : (s.modFl f).power = s.power := rfl
@[simp] theorem State.modFl_bed (f : FlTimeSt → FlTimeSt) : (s.modFl f).bed = s.bed := rfl
@[simp] theorem State.modFl_layer (f : FlTimeSt → FlTimeSt) : (s.modFl f).layer = s.layer := rfl
@[simp] theorem State.modFl_eng (f : FlTimeSt → FlTimeSt) : (s.modFl f).eng = s.eng := rfl
@[simp] theorem State.modFl_beam (f : FlTimeSt → FlTimeSt) : (s.modFl f).beam = s.beam := rfl
@[simp] theorem State.modFl_arb (f : FlTimeSt → FlTimeSt) : (s.modFl f).arb = s.arb := rfl
@[simp] theorem State.modFl_loops (f : FlTimeSt → FlTimeSt) : (s.modFl f).loops = s.loops := rfl
@[simp] theorem State.modFl_loopDev (f : FlTimeSt → FlTimeSt) : (s.modFl f).loopDev = s.loopDev := rfl
@[simp] theorem State.modFl_lanes (f : FlTimeSt → FlTimeSt) : (s.modFl f).lanes = s.lanes := rfl
@[simp] theorem State.modFl_eye (f : FlTimeSt → FlTimeSt) : (s.modFl f).eye = s.eye := rfl
@[simp] theorem State.modFl_streams (f : FlTimeSt → FlTimeSt) : (s.modFl f).streams = s.streams := rfl
@[simp] theorem State.modFl_pipes (f : FlTimeSt → FlTimeSt) : (s.modFl f).pipes = s.pipes := rfl
@[simp] theorem State.modFl_fabric (f : FlTimeSt → FlTimeSt) : (s.modFl f).fabric = s.fabric := rfl
@[simp] theorem State.modFl_axes (f : FlTimeSt → FlTimeSt) : (s.modFl f).axes = s.axes := rfl
@[simp] theorem State.modFl_enc (f : FlTimeSt → FlTimeSt) : (s.modFl f).enc = s.enc := rfl
@[simp] theorem State.modFl_host (f : FlTimeSt → FlTimeSt) : (s.modFl f).host = s.host := rfl
@[simp] theorem State.modFl_gran (f : FlTimeSt → FlTimeSt) : (s.modFl f).gran = s.gran := rfl
@[simp] theorem State.modFl_hk (f : FlTimeSt → FlTimeSt) : (s.modFl f).hk = s.hk := rfl
@[simp] theorem State.modFl_disp (f : FlTimeSt → FlTimeSt) : (s.modFl f).disp = s.disp := rfl
@[simp] theorem State.modFl_xk (f : FlTimeSt → FlTimeSt) : (s.modFl f).xk = s.xk := rfl
@[simp] theorem State.modFl_boot (f : FlTimeSt → FlTimeSt) : (s.modFl f).boot = s.boot := rfl
@[simp] theorem State.modFl_flash (f : FlTimeSt → FlTimeSt) : (s.modFl f).flash = s.flash := rfl
@[simp] theorem State.modFl_pins (f : FlTimeSt → FlTimeSt) : (s.modFl f).pins = s.pins := rfl
@[simp] theorem State.modFl_holds (f : FlTimeSt → FlTimeSt) : (s.modFl f).holds = s.holds := rfl
@[simp] theorem State.modFl_fired (f : FlTimeSt → FlTimeSt) : (s.modFl f).fired = s.fired := rfl
@[simp] theorem State.modFl_out (f : FlTimeSt → FlTimeSt) : (s.modFl f).out = s.out := rfl
@[simp] theorem State.modFl_free (f : FlTimeSt → FlTimeSt) : (s.modFl f).free = s.free := rfl
@[simp] theorem State.modFl_reg (f : FlTimeSt → FlTimeSt) (k : Nat) : (s.modFl f).reg k = s.reg k := rfl
@[simp] theorem State.modFl_get (f : FlTimeSt → FlTimeSt) (k : Fld) : (s.modFl f).get k = s.get k := rfl
@[simp] theorem State.modFl_flag (f : FlTimeSt → FlTimeSt) (k : Fld) : (s.modFl f).flag k = s.flag k := rfl

/-! ## modLoop -/

@[simp] theorem State.modLoop_pending (b : Sys2Proof.Beam) (f : LoopSt → LoopSt) : (s.modLoop b f).pending = s.pending := rfl
@[simp] theorem State.modLoop_waiting (b : Sys2Proof.Beam) (f : LoopSt → LoopSt) : (s.modLoop b f).waiting = s.waiting := rfl
@[simp] theorem State.modLoop_regs (b : Sys2Proof.Beam) (f : LoopSt → LoopSt) : (s.modLoop b f).regs = s.regs := rfl
@[simp] theorem State.modLoop_silo (b : Sys2Proof.Beam) (f : LoopSt → LoopSt) : (s.modLoop b f).silo = s.silo := rfl
@[simp] theorem State.modLoop_time (b : Sys2Proof.Beam) (f : LoopSt → LoopSt) : (s.modLoop b f).time = s.time := rfl
@[simp] theorem State.modLoop_cells (b : Sys2Proof.Beam) (f : LoopSt → LoopSt) : (s.modLoop b f).cells = s.cells := rfl
@[simp] theorem State.modLoop_transit (b : Sys2Proof.Beam) (f : LoopSt → LoopSt) : (s.modLoop b f).transit = s.transit := rfl
@[simp] theorem State.modLoop_power (b : Sys2Proof.Beam) (f : LoopSt → LoopSt) : (s.modLoop b f).power = s.power := rfl
@[simp] theorem State.modLoop_bed (b : Sys2Proof.Beam) (f : LoopSt → LoopSt) : (s.modLoop b f).bed = s.bed := rfl
@[simp] theorem State.modLoop_layer (b : Sys2Proof.Beam) (f : LoopSt → LoopSt) : (s.modLoop b f).layer = s.layer := rfl
@[simp] theorem State.modLoop_eng (b : Sys2Proof.Beam) (f : LoopSt → LoopSt) : (s.modLoop b f).eng = s.eng := rfl
@[simp] theorem State.modLoop_beam (b : Sys2Proof.Beam) (f : LoopSt → LoopSt) : (s.modLoop b f).beam = s.beam := rfl
@[simp] theorem State.modLoop_arb (b : Sys2Proof.Beam) (f : LoopSt → LoopSt) : (s.modLoop b f).arb = s.arb := rfl
@[simp] theorem State.modLoop_loops (b : Sys2Proof.Beam) (f : LoopSt → LoopSt) : (s.modLoop b f).loops = vmod s.loops b f := rfl
@[simp] theorem State.modLoop_loopDev (b : Sys2Proof.Beam) (f : LoopSt → LoopSt) : (s.modLoop b f).loopDev = s.loopDev := rfl
@[simp] theorem State.modLoop_lanes (b : Sys2Proof.Beam) (f : LoopSt → LoopSt) : (s.modLoop b f).lanes = s.lanes := rfl
@[simp] theorem State.modLoop_eye (b : Sys2Proof.Beam) (f : LoopSt → LoopSt) : (s.modLoop b f).eye = s.eye := rfl
@[simp] theorem State.modLoop_streams (b : Sys2Proof.Beam) (f : LoopSt → LoopSt) : (s.modLoop b f).streams = s.streams := rfl
@[simp] theorem State.modLoop_pipes (b : Sys2Proof.Beam) (f : LoopSt → LoopSt) : (s.modLoop b f).pipes = s.pipes := rfl
@[simp] theorem State.modLoop_fabric (b : Sys2Proof.Beam) (f : LoopSt → LoopSt) : (s.modLoop b f).fabric = s.fabric := rfl
@[simp] theorem State.modLoop_axes (b : Sys2Proof.Beam) (f : LoopSt → LoopSt) : (s.modLoop b f).axes = s.axes := rfl
@[simp] theorem State.modLoop_enc (b : Sys2Proof.Beam) (f : LoopSt → LoopSt) : (s.modLoop b f).enc = s.enc := rfl
@[simp] theorem State.modLoop_host (b : Sys2Proof.Beam) (f : LoopSt → LoopSt) : (s.modLoop b f).host = s.host := rfl
@[simp] theorem State.modLoop_gran (b : Sys2Proof.Beam) (f : LoopSt → LoopSt) : (s.modLoop b f).gran = s.gran := rfl
@[simp] theorem State.modLoop_hk (b : Sys2Proof.Beam) (f : LoopSt → LoopSt) : (s.modLoop b f).hk = s.hk := rfl
@[simp] theorem State.modLoop_disp (b : Sys2Proof.Beam) (f : LoopSt → LoopSt) : (s.modLoop b f).disp = s.disp := rfl
@[simp] theorem State.modLoop_xk (b : Sys2Proof.Beam) (f : LoopSt → LoopSt) : (s.modLoop b f).xk = s.xk := rfl
@[simp] theorem State.modLoop_boot (b : Sys2Proof.Beam) (f : LoopSt → LoopSt) : (s.modLoop b f).boot = s.boot := rfl
@[simp] theorem State.modLoop_flash (b : Sys2Proof.Beam) (f : LoopSt → LoopSt) : (s.modLoop b f).flash = s.flash := rfl
@[simp] theorem State.modLoop_pins (b : Sys2Proof.Beam) (f : LoopSt → LoopSt) : (s.modLoop b f).pins = s.pins := rfl
@[simp] theorem State.modLoop_holds (b : Sys2Proof.Beam) (f : LoopSt → LoopSt) : (s.modLoop b f).holds = s.holds := rfl
@[simp] theorem State.modLoop_fired (b : Sys2Proof.Beam) (f : LoopSt → LoopSt) : (s.modLoop b f).fired = s.fired := rfl
@[simp] theorem State.modLoop_out (b : Sys2Proof.Beam) (f : LoopSt → LoopSt) : (s.modLoop b f).out = s.out := rfl
@[simp] theorem State.modLoop_free (b : Sys2Proof.Beam) (f : LoopSt → LoopSt) : (s.modLoop b f).free = s.free := rfl
@[simp] theorem State.modLoop_reg (b : Sys2Proof.Beam) (f : LoopSt → LoopSt) (k : Nat) : (s.modLoop b f).reg k = s.reg k := rfl
@[simp] theorem State.modLoop_get (b : Sys2Proof.Beam) (f : LoopSt → LoopSt) (k : Fld) : (s.modLoop b f).get k = s.get k := rfl
@[simp] theorem State.modLoop_flag (b : Sys2Proof.Beam) (f : LoopSt → LoopSt) (k : Fld) : (s.modLoop b f).flag k = s.flag k := rfl
@[simp] theorem State.modLoop_now (b : Sys2Proof.Beam) (f : LoopSt → LoopSt) : (s.modLoop b f).now = s.now := rfl

/-! ## modChan -/

@[simp] theorem State.modChan_pending (h : Chan) (f : XkChan → XkChan) : (s.modChan h f).pending = s.pending := rfl
@[simp] theorem State.modChan_waiting (h : Chan) (f : XkChan → XkChan) : (s.modChan h f).waiting = s.waiting := rfl
@[simp] theorem State.modChan_regs (h : Chan) (f : XkChan → XkChan) : (s.modChan h f).regs = s.regs := rfl
@[simp] theorem State.modChan_silo (h : Chan) (f : XkChan → XkChan) : (s.modChan h f).silo = s.silo := rfl
@[simp] theorem State.modChan_time (h : Chan) (f : XkChan → XkChan) : (s.modChan h f).time = s.time := rfl
@[simp] theorem State.modChan_cells (h : Chan) (f : XkChan → XkChan) : (s.modChan h f).cells = s.cells := rfl
@[simp] theorem State.modChan_transit (h : Chan) (f : XkChan → XkChan) : (s.modChan h f).transit = s.transit := rfl
@[simp] theorem State.modChan_power (h : Chan) (f : XkChan → XkChan) : (s.modChan h f).power = s.power := rfl
@[simp] theorem State.modChan_bed (h : Chan) (f : XkChan → XkChan) : (s.modChan h f).bed = s.bed := rfl
@[simp] theorem State.modChan_layer (h : Chan) (f : XkChan → XkChan) : (s.modChan h f).layer = s.layer := rfl
@[simp] theorem State.modChan_eng (h : Chan) (f : XkChan → XkChan) : (s.modChan h f).eng = s.eng := rfl
@[simp] theorem State.modChan_beam (h : Chan) (f : XkChan → XkChan) : (s.modChan h f).beam = s.beam := rfl
@[simp] theorem State.modChan_arb (h : Chan) (f : XkChan → XkChan) : (s.modChan h f).arb = s.arb := rfl
@[simp] theorem State.modChan_loops (h : Chan) (f : XkChan → XkChan) : (s.modChan h f).loops = s.loops := rfl
@[simp] theorem State.modChan_loopDev (h : Chan) (f : XkChan → XkChan) : (s.modChan h f).loopDev = s.loopDev := rfl
@[simp] theorem State.modChan_lanes (h : Chan) (f : XkChan → XkChan) : (s.modChan h f).lanes = s.lanes := rfl
@[simp] theorem State.modChan_eye (h : Chan) (f : XkChan → XkChan) : (s.modChan h f).eye = s.eye := rfl
@[simp] theorem State.modChan_streams (h : Chan) (f : XkChan → XkChan) : (s.modChan h f).streams = s.streams := rfl
@[simp] theorem State.modChan_pipes (h : Chan) (f : XkChan → XkChan) : (s.modChan h f).pipes = s.pipes := rfl
@[simp] theorem State.modChan_fabric (h : Chan) (f : XkChan → XkChan) : (s.modChan h f).fabric = s.fabric := rfl
@[simp] theorem State.modChan_axes (h : Chan) (f : XkChan → XkChan) : (s.modChan h f).axes = s.axes := rfl
@[simp] theorem State.modChan_enc (h : Chan) (f : XkChan → XkChan) : (s.modChan h f).enc = s.enc := rfl
@[simp] theorem State.modChan_host (h : Chan) (f : XkChan → XkChan) : (s.modChan h f).host = s.host := rfl
@[simp] theorem State.modChan_gran (h : Chan) (f : XkChan → XkChan) : (s.modChan h f).gran = s.gran := rfl
@[simp] theorem State.modChan_hk (h : Chan) (f : XkChan → XkChan) : (s.modChan h f).hk = s.hk := rfl
@[simp] theorem State.modChan_disp (h : Chan) (f : XkChan → XkChan) : (s.modChan h f).disp = s.disp := rfl
@[simp] theorem State.modChan_boot (h : Chan) (f : XkChan → XkChan) : (s.modChan h f).boot = s.boot := rfl
@[simp] theorem State.modChan_flash (h : Chan) (f : XkChan → XkChan) : (s.modChan h f).flash = s.flash := rfl
@[simp] theorem State.modChan_pins (h : Chan) (f : XkChan → XkChan) : (s.modChan h f).pins = s.pins := rfl
@[simp] theorem State.modChan_holds (h : Chan) (f : XkChan → XkChan) : (s.modChan h f).holds = s.holds := rfl
@[simp] theorem State.modChan_fired (h : Chan) (f : XkChan → XkChan) : (s.modChan h f).fired = s.fired := rfl
@[simp] theorem State.modChan_out (h : Chan) (f : XkChan → XkChan) : (s.modChan h f).out = s.out := rfl
@[simp] theorem State.modChan_free (h : Chan) (f : XkChan → XkChan) : (s.modChan h f).free = s.free := rfl
@[simp] theorem State.modChan_reg (h : Chan) (f : XkChan → XkChan) (k : Nat) : (s.modChan h f).reg k = s.reg k := rfl
@[simp] theorem State.modChan_get (h : Chan) (f : XkChan → XkChan) (k : Fld) : (s.modChan h f).get k = s.get k := rfl
@[simp] theorem State.modChan_flag (h : Chan) (f : XkChan → XkChan) (k : Fld) : (s.modChan h f).flag k = s.flag k := rfl
@[simp] theorem State.modChan_now (h : Chan) (f : XkChan → XkChan) : (s.modChan h f).now = s.now := rfl

/-! ## Counters and events -/

@[simp] theorem State.count_pending (f : Fld) : (s.count f).pending = s.pending := by unfold State.count; split <;> rfl
@[simp] theorem State.count_waiting (f : Fld) : (s.count f).waiting = s.waiting := by unfold State.count; split <;> rfl
@[simp] theorem State.count_silo (f : Fld) : (s.count f).silo = s.silo := by unfold State.count; split <;> rfl
@[simp] theorem State.count_time (f : Fld) : (s.count f).time = s.time := by unfold State.count; split <;> rfl
@[simp] theorem State.count_cells (f : Fld) : (s.count f).cells = s.cells := by unfold State.count; split <;> rfl
@[simp] theorem State.count_transit (f : Fld) : (s.count f).transit = s.transit := by unfold State.count; split <;> rfl
@[simp] theorem State.count_power (f : Fld) : (s.count f).power = s.power := by unfold State.count; split <;> rfl
@[simp] theorem State.count_bed (f : Fld) : (s.count f).bed = s.bed := by unfold State.count; split <;> rfl
@[simp] theorem State.count_layer (f : Fld) : (s.count f).layer = s.layer := by unfold State.count; split <;> rfl
@[simp] theorem State.count_eng (f : Fld) : (s.count f).eng = s.eng := by unfold State.count; split <;> rfl
@[simp] theorem State.count_beam (f : Fld) : (s.count f).beam = s.beam := by unfold State.count; split <;> rfl
@[simp] theorem State.count_arb (f : Fld) : (s.count f).arb = s.arb := by unfold State.count; split <;> rfl
@[simp] theorem State.count_loops (f : Fld) : (s.count f).loops = s.loops := by unfold State.count; split <;> rfl
@[simp] theorem State.count_loopDev (f : Fld) : (s.count f).loopDev = s.loopDev := by unfold State.count; split <;> rfl
@[simp] theorem State.count_lanes (f : Fld) : (s.count f).lanes = s.lanes := by unfold State.count; split <;> rfl
@[simp] theorem State.count_eye (f : Fld) : (s.count f).eye = s.eye := by unfold State.count; split <;> rfl
@[simp] theorem State.count_streams (f : Fld) : (s.count f).streams = s.streams := by unfold State.count; split <;> rfl
@[simp] theorem State.count_pipes (f : Fld) : (s.count f).pipes = s.pipes := by unfold State.count; split <;> rfl
@[simp] theorem State.count_fabric (f : Fld) : (s.count f).fabric = s.fabric := by unfold State.count; split <;> rfl
@[simp] theorem State.count_axes (f : Fld) : (s.count f).axes = s.axes := by unfold State.count; split <;> rfl
@[simp] theorem State.count_enc (f : Fld) : (s.count f).enc = s.enc := by unfold State.count; split <;> rfl
@[simp] theorem State.count_host (f : Fld) : (s.count f).host = s.host := by unfold State.count; split <;> rfl
@[simp] theorem State.count_gran (f : Fld) : (s.count f).gran = s.gran := by unfold State.count; split <;> rfl
@[simp] theorem State.count_hk (f : Fld) : (s.count f).hk = s.hk := by unfold State.count; split <;> rfl
@[simp] theorem State.count_disp (f : Fld) : (s.count f).disp = s.disp := by unfold State.count; split <;> rfl
@[simp] theorem State.count_xk (f : Fld) : (s.count f).xk = s.xk := by unfold State.count; split <;> rfl
@[simp] theorem State.count_boot (f : Fld) : (s.count f).boot = s.boot := by unfold State.count; split <;> rfl
@[simp] theorem State.count_flash (f : Fld) : (s.count f).flash = s.flash := by unfold State.count; split <;> rfl
@[simp] theorem State.count_pins (f : Fld) : (s.count f).pins = s.pins := by unfold State.count; split <;> rfl
@[simp] theorem State.count_holds (f : Fld) : (s.count f).holds = s.holds := by unfold State.count; split <;> rfl
@[simp] theorem State.count_fired (f : Fld) : (s.count f).fired = s.fired := by unfold State.count; split <;> rfl
@[simp] theorem State.count_out (f : Fld) : (s.count f).out = s.out := by unfold State.count; split <;> rfl
@[simp] theorem State.count_free (f : Fld) : (s.count f).free = s.free := by unfold State.count; split <;> rfl
@[simp] theorem State.raise_pending (a d : Nat) : (s.raise a d).pending = s.pending := by unfold State.raise; dsimp only; split; rfl; split <;> rfl
@[simp] theorem State.raise_waiting (a d : Nat) : (s.raise a d).waiting = s.waiting := by unfold State.raise; dsimp only; split; rfl; split <;> rfl
@[simp] theorem State.raise_silo (a d : Nat) : (s.raise a d).silo = s.silo := by unfold State.raise; dsimp only; split; rfl; split <;> rfl
@[simp] theorem State.raise_time (a d : Nat) : (s.raise a d).time = s.time := by unfold State.raise; dsimp only; split; rfl; split <;> rfl
@[simp] theorem State.raise_cells (a d : Nat) : (s.raise a d).cells = s.cells := by unfold State.raise; dsimp only; split; rfl; split <;> rfl
@[simp] theorem State.raise_transit (a d : Nat) : (s.raise a d).transit = s.transit := by unfold State.raise; dsimp only; split; rfl; split <;> rfl
@[simp] theorem State.raise_power (a d : Nat) : (s.raise a d).power = s.power := by unfold State.raise; dsimp only; split; rfl; split <;> rfl
@[simp] theorem State.raise_bed (a d : Nat) : (s.raise a d).bed = s.bed := by unfold State.raise; dsimp only; split; rfl; split <;> rfl
@[simp] theorem State.raise_layer (a d : Nat) : (s.raise a d).layer = s.layer := by unfold State.raise; dsimp only; split; rfl; split <;> rfl
@[simp] theorem State.raise_eng (a d : Nat) : (s.raise a d).eng = s.eng := by unfold State.raise; dsimp only; split; rfl; split <;> rfl
@[simp] theorem State.raise_beam (a d : Nat) : (s.raise a d).beam = s.beam := by unfold State.raise; dsimp only; split; rfl; split <;> rfl
@[simp] theorem State.raise_arb (a d : Nat) : (s.raise a d).arb = s.arb := by unfold State.raise; dsimp only; split; rfl; split <;> rfl
@[simp] theorem State.raise_loops (a d : Nat) : (s.raise a d).loops = s.loops := by unfold State.raise; dsimp only; split; rfl; split <;> rfl
@[simp] theorem State.raise_loopDev (a d : Nat) : (s.raise a d).loopDev = s.loopDev := by unfold State.raise; dsimp only; split; rfl; split <;> rfl
@[simp] theorem State.raise_lanes (a d : Nat) : (s.raise a d).lanes = s.lanes := by unfold State.raise; dsimp only; split; rfl; split <;> rfl
@[simp] theorem State.raise_eye (a d : Nat) : (s.raise a d).eye = s.eye := by unfold State.raise; dsimp only; split; rfl; split <;> rfl
@[simp] theorem State.raise_streams (a d : Nat) : (s.raise a d).streams = s.streams := by unfold State.raise; dsimp only; split; rfl; split <;> rfl
@[simp] theorem State.raise_pipes (a d : Nat) : (s.raise a d).pipes = s.pipes := by unfold State.raise; dsimp only; split; rfl; split <;> rfl
@[simp] theorem State.raise_fabric (a d : Nat) : (s.raise a d).fabric = s.fabric := by unfold State.raise; dsimp only; split; rfl; split <;> rfl
@[simp] theorem State.raise_axes (a d : Nat) : (s.raise a d).axes = s.axes := by unfold State.raise; dsimp only; split; rfl; split <;> rfl
@[simp] theorem State.raise_enc (a d : Nat) : (s.raise a d).enc = s.enc := by unfold State.raise; dsimp only; split; rfl; split <;> rfl
@[simp] theorem State.raise_host (a d : Nat) : (s.raise a d).host = s.host := by unfold State.raise; dsimp only; split; rfl; split <;> rfl
@[simp] theorem State.raise_gran (a d : Nat) : (s.raise a d).gran = s.gran := by unfold State.raise; dsimp only; split; rfl; split <;> rfl
@[simp] theorem State.raise_hk (a d : Nat) : (s.raise a d).hk = s.hk := by unfold State.raise; dsimp only; split; rfl; split <;> rfl
@[simp] theorem State.raise_disp (a d : Nat) : (s.raise a d).disp = s.disp := by unfold State.raise; dsimp only; split; rfl; split <;> rfl
@[simp] theorem State.raise_xk (a d : Nat) : (s.raise a d).xk = s.xk := by unfold State.raise; dsimp only; split; rfl; split <;> rfl
@[simp] theorem State.raise_boot (a d : Nat) : (s.raise a d).boot = s.boot := by unfold State.raise; dsimp only; split; rfl; split <;> rfl
@[simp] theorem State.raise_flash (a d : Nat) : (s.raise a d).flash = s.flash := by unfold State.raise; dsimp only; split; rfl; split <;> rfl
@[simp] theorem State.raise_pins (a d : Nat) : (s.raise a d).pins = s.pins := by unfold State.raise; dsimp only; split; rfl; split <;> rfl
@[simp] theorem State.raise_holds (a d : Nat) : (s.raise a d).holds = s.holds := by unfold State.raise; dsimp only; split; rfl; split <;> rfl
@[simp] theorem State.raise_out (a d : Nat) : (s.raise a d).out = s.out := by unfold State.raise; dsimp only; split; rfl; split <;> rfl
@[simp] theorem State.raise_free (a d : Nat) : (s.raise a d).free = s.free := by unfold State.raise; dsimp only; split; rfl; split <;> rfl

/-- Raising an event appends its firing. -/
@[simp] theorem State.raise_fired (a d : Nat) : (s.raise a d).fired = s.fired ++ [⟨a, BitVec.ofNat 32 d, s.now⟩] := by
  unfold State.raise
  dsimp only
  split
  · rfl
  · split <;> rfl

end Sys2Proof.Machine
end

