-- ==== Sys2Proof/Laws/Engines.lean ====
section
/-! SUPPORT. What one instruction of an engine that is ready does: its body, with the domains awake. -/

namespace Sys2Proof.Machine

variable {s : State} {e : Eng} {i : Instr} {len : Nat}

theorem forEach_touch {l : List (Fin 44)} : ∀ {s : State}, ∃ p, (forEach l s fun s d => s.touch d) = { s with power := p } := by
  induction l with
  | nil => exact fun {s} => ⟨s.power, rfl⟩
  | cons d l ih =>
    intro s
    obtain ⟨p, h⟩ := ih (s := s.touch d)
    exact ⟨p, h⟩

/-- Only the domains' idle times differ. -/
theorem State.awake_eq (s : State) (e : Eng) : ∃ p, s.awake e = { s with power := p } := forEach_touch

@[simp] theorem State.awake_eng : (s.awake e).eng = s.eng := by obtain ⟨p, h⟩ := s.awake_eq e; rw [h]
@[simp] theorem State.awake_regs : (s.awake e).regs = s.regs := by obtain ⟨p, h⟩ := s.awake_eq e; rw [h]
@[simp] theorem State.awake_silo : (s.awake e).silo = s.silo := by obtain ⟨p, h⟩ := s.awake_eq e; rw [h]
@[simp] theorem State.awake_beam : (s.awake e).beam = s.beam := by obtain ⟨p, h⟩ := s.awake_eq e; rw [h]
@[simp] theorem State.awake_time : (s.awake e).time = s.time := by obtain ⟨p, h⟩ := s.awake_eq e; rw [h]
@[simp] theorem State.awake_bed : (s.awake e).bed = s.bed := by obtain ⟨p, h⟩ := s.awake_eq e; rw [h]
@[simp] theorem State.awake_fired : (s.awake e).fired = s.fired := by obtain ⟨p, h⟩ := s.awake_eq e; rw [h]
@[simp] theorem State.awake_get {f : Fld} : (s.awake e).get f = s.get f := by obtain ⟨p, h⟩ := s.awake_eq e; rw [h]; rfl
@[simp] theorem State.awake_flag {f : Fld} : (s.awake e).flag f = s.flag f := by obtain ⟨p, h⟩ := s.awake_eq e; rw [h]; rfl
@[simp] theorem State.awake_now : (s.awake e).now = s.now := by obtain ⟨p, h⟩ := s.awake_eq e; rw [h]; rfl
@[simp] theorem State.awake_domainOn {d : Fin 44} : (s.awake e).domainOn d = s.domainOn d := by
  obtain ⟨p, h⟩ := s.awake_eq e; rw [h]; rfl
@[simp] theorem State.awake_atProgramEnd : (s.awake e).atProgramEnd e = s.atProgramEnd e := by
  obtain ⟨p, h⟩ := s.awake_eq e; rw [h]; rfl
@[simp] theorem State.awake_fetchExc : (s.awake e).fetchExc e = s.fetchExc e := by
  obtain ⟨p, h⟩ := s.awake_eq e; rw [h]; rfl

@[simp] theorem State.awake_fetchMarked : (s.awake e).fetchMarked e = s.fetchMarked e := by
  obtain ⟨p, h⟩ := s.awake_eq e; rw [h]; rfl

/-- Away from its program's end and with its word fetched without an error, an engine runs the body. -/
theorem State.runBody_fetched {ill : Option Nat} {body : State → Eff} (hp : s.atProgramEnd e = false) (hf : s.fetchExc e = none)
    (hm : s.fetchMarked e = false) :
    s.runBody e i len ill body = match ill with
      | some d => s.syncExc e 1 d
      | none => match body s with
        | .done t => t.modEng e fun x => { x with pc := s.eng[e].pc + BitVec.ofNat 32 len }
        | .jump t pc => t.modEng e fun x => { x with pc := pc }
        | .exc c d => s.syncExc e c d
        | .hold t => t
        | .stall d => (s.wakeDomain d).modEng e fun x => { x with wait := some (.stalled i) } := by
  have hx : s.fetchFix e = s := by unfold State.fetchFix; rw [hm, if_neg (by simp)]
  unfold State.runBody
  rw [hp, if_neg (by simp), hf, hx]
  all_goals (cases ill <;> rfl)

/-- The instruction of a ready engine is its body, or the exception of its encoding. -/
theorem State.runEng_ready {ill : Option Nat} {body : State → Eff} (h : s.Ready e) :
    s.runEng e i len ill body = match ill with
      | some d => (s.awake e).syncExc e 1 d
      | none => match body (s.awake e) with
        | .done t => t.modEng e fun x => { x with pc := s.eng[e].pc + BitVec.ofNat 32 len }
        | .jump t pc => t.modEng e fun x => { x with pc := pc }
        | .exc c d => (s.awake e).syncExc e c d
        | .hold t => t
        | .stall d => ((s.awake e).wakeDomain d).modEng e fun x => { x with wait := some (.stalled i) } := by
  obtain ⟨hx, hl, hw, hd, hp, hf, hm⟩ := h
  have hd' : (s.engDomains e).find? (fun d => !s.domainOn d) = none := by
    rw [List.find?_eq_none]
    intro d hm
    simp [hd d hm]
  have hb := State.runBody_fetched (i := i) (len := len) (ill := ill) (body := body) ((s.awake_atProgramEnd (e := e)).trans hp)
    ((s.awake_fetchExc (e := e)).trans hf) ((s.awake_fetchMarked (e := e)).trans hm)
  rw [State.awake_eng] at hb
  rw [← hb]
  unfold State.runEng
  rw [if_pos hx, hl, if_neg (by simp), hw, if_neg (by simp), hd']
  rfl

/-- An instruction of a ready engine that changes its own engine only. -/
theorem State.runLocal_ready {f : Engine → Engine} (h : s.Ready e) :
    s.runLocal e i len none f = ((s.awake e).modEng e f).modEng e fun x => { x with pc := s.eng[e].pc + BitVec.ofNat 32 len } := by
  unfold State.runLocal
  rw [State.runEng_ready h]

/-- Its other engines and fields are as before. -/
theorem State.OnlyEngine.of_modEng {t : State} {f : Engine → Engine} (h : s.OnlyEngine t e) : s.OnlyEngine (t.modEng e f) e := by
  refine ⟨?_, fun g hg => ?_⟩
  · conv_lhs => rw [h.1]
    rfl
  · rw [State.modEng_eng, vmod_other _ _ hg]
    exact h.2 g hg

theorem State.OnlyEngine.awake : s.OnlyEngine (s.awake e) e := by
  obtain ⟨p, h⟩ := s.awake_eq e
  rw [h]
  exact ⟨rfl, fun _ _ => rfl⟩

end Sys2Proof.Machine
end

