-- ==== Sys2Proof/Laws/Fields.lean ====
section
/-! SUPPORT. Fields of register words: a field written reads back, and every other field reads as before. -/

namespace Sys2Proof.Machine

/-- The bits of a field lie in a word. -/
def Fld.ok (f : Fld) : Prop := f.lo ≤ f.hi ∧ f.hi < 32

/-- Two fields that share no bit. -/
def Fld.apart (f g : Fld) : Prop := f.addr ≠ g.addr ∨ f.hi < g.lo ∨ g.hi < f.lo

theorem putBits_toNat {w : Word} {hi lo n : Nat} (hl : lo ≤ hi) (hh : hi < 32) :
    (putBits w hi lo n).toNat = w.toNat / 2 ^ (hi + 1) * 2 ^ (hi + 1) + n % 2 ^ (hi + 1 - lo) * 2 ^ lo + w.toNat % 2 ^ lo := by
  have hp : (2 : Nat) ^ (hi + 1) = 2 ^ lo * 2 ^ (hi + 1 - lo) := by rw [← pow_add]; congr 1; omega
  have hq : (2 : Nat) ^ 32 = 2 ^ (hi + 1) * 2 ^ (31 - hi) := by rw [← pow_add]; congr 1; omega
  have hw := w.isLt
  have hd1 := Nat.div_add_mod w.toNat (2 ^ lo)
  have hd2 := Nat.div_add_mod (w.toNat / 2 ^ lo) (2 ^ (hi + 1 - lo))
  rw [Nat.div_div_eq_div_mul, ← hp] at hd2
  have hn : n % 2 ^ (hi + 1 - lo) < 2 ^ (hi + 1 - lo) := Nat.mod_lt _ (by positivity)
  have hm : w.toNat % 2 ^ lo < 2 ^ lo := Nat.mod_lt _ (by positivity)
  have hb : w.toNat - bitsOf w hi lo * 2 ^ lo = w.toNat / 2 ^ (hi + 1) * 2 ^ (hi + 1) + w.toNat % 2 ^ lo := by
    unfold bitsOf
    have e : w.toNat = (w.toNat / 2 ^ (hi + 1) * 2 ^ (hi + 1) + w.toNat % 2 ^ lo) +
        w.toNat / 2 ^ lo % 2 ^ (hi + 1 - lo) * 2 ^ lo := by
      conv_lhs => rw [← hd1, ← hd2]
      rw [hp]
      ring
    omega
  have hq2 : w.toNat / 2 ^ (hi + 1) < 2 ^ (31 - hi) := by
    apply Nat.div_lt_of_lt_mul
    rw [← hq]
    exact hw
  unfold putBits
  rw [BitVec.toNat_ofNat, hb, Nat.mod_eq_of_lt]
  · ring
  · have h1 : n % 2 ^ (hi + 1 - lo) * 2 ^ lo + 2 ^ lo ≤ 2 ^ (hi + 1) := by
      rw [hp, mul_comm (2 ^ lo)]
      calc _ = (n % 2 ^ (hi + 1 - lo) + 1) * 2 ^ lo := by ring
        _ ≤ _ := Nat.mul_le_mul_right _ hn
    have h2 : (w.toNat / 2 ^ (hi + 1) + 1) * 2 ^ (hi + 1) ≤ 2 ^ 32 := by
      rw [hq, mul_comm (2 ^ (hi + 1))]
      exact Nat.mul_le_mul_right _ hq2
    calc _ = w.toNat / 2 ^ (hi + 1) * 2 ^ (hi + 1) + (n % 2 ^ (hi + 1 - lo) * 2 ^ lo + w.toNat % 2 ^ lo) := by ring
      _ < w.toNat / 2 ^ (hi + 1) * 2 ^ (hi + 1) + 2 ^ (hi + 1) := by omega
      _ = (w.toNat / 2 ^ (hi + 1) + 1) * 2 ^ (hi + 1) := by ring
      _ ≤ _ := h2

/-- The bits written read back. -/
theorem bitsOf_putBits_same {w : Word} {hi lo n : Nat} (hl : lo ≤ hi) (hh : hi < 32) :
    bitsOf (putBits w hi lo n) hi lo = n % 2 ^ (hi + 1 - lo) := by
  have hp : (2 : Nat) ^ (hi + 1) = 2 ^ (hi + 1 - lo) * 2 ^ lo := by rw [← pow_add]; congr 1; omega
  have hm : w.toNat % 2 ^ lo < 2 ^ lo := Nat.mod_lt _ (by positivity)
  unfold bitsOf
  rw [putBits_toNat hl hh]
  have e : w.toNat / 2 ^ (hi + 1) * 2 ^ (hi + 1) + n % 2 ^ (hi + 1 - lo) * 2 ^ lo + w.toNat % 2 ^ lo =
      w.toNat % 2 ^ lo + (n % 2 ^ (hi + 1 - lo) + 2 ^ (hi + 1 - lo) * (w.toNat / 2 ^ (hi + 1))) * 2 ^ lo := by rw [hp]; ring
  rw [e, Nat.add_mul_div_right _ _ (by positivity), Nat.div_eq_of_lt hm, Nat.zero_add, Nat.add_mul_mod_self_left, Nat.mod_mod]

/-- Bits above or below those written read as before. -/
theorem bitsOf_putBits_apart {w : Word} {hi lo n hi' lo' : Nat} (hl : lo ≤ hi) (hh : hi < 32) (hl' : lo' ≤ hi')
    (h : hi < lo' ∨ hi' < lo) : bitsOf (putBits w hi lo n) hi' lo' = bitsOf w hi' lo' := by
  have hp : (2 : Nat) ^ (hi + 1) = 2 ^ (hi + 1 - lo) * 2 ^ lo := by rw [← pow_add]; congr 1; omega
  have hm : w.toNat % 2 ^ lo < 2 ^ lo := Nat.mod_lt _ (by positivity)
  have hn : n % 2 ^ (hi + 1 - lo) < 2 ^ (hi + 1 - lo) := Nat.mod_lt _ (by positivity)
  unfold bitsOf
  rw [putBits_toNat hl hh]
  rcases h with h | h
  · have hs : n % 2 ^ (hi + 1 - lo) * 2 ^ lo + w.toNat % 2 ^ lo < 2 ^ (hi + 1) := by
      rw [hp]
      calc _ < n % 2 ^ (hi + 1 - lo) * 2 ^ lo + 2 ^ lo := by omega
        _ = (n % 2 ^ (hi + 1 - lo) + 1) * 2 ^ lo := by ring
        _ ≤ _ := Nat.mul_le_mul_right _ hn
    have e2 : (2 : Nat) ^ lo' = 2 ^ (hi + 1) * 2 ^ (lo' - (hi + 1)) := by rw [← pow_add]; congr 1; omega
    congr 1
    rw [e2, ← Nat.div_div_eq_div_mul, ← Nat.div_div_eq_div_mul, Nat.add_assoc, Nat.add_comm, Nat.add_mul_div_right _ _ (by positivity),
      Nat.div_eq_of_lt hs, Nat.zero_add]
  · have e : w.toNat / 2 ^ (hi + 1) * 2 ^ (hi + 1) + n % 2 ^ (hi + 1 - lo) * 2 ^ lo + w.toNat % 2 ^ lo =
        w.toNat % 2 ^ lo + 2 ^ lo * (w.toNat / 2 ^ (hi + 1) * 2 ^ (hi + 1 - lo) + n % 2 ^ (hi + 1 - lo)) := by rw [hp]; ring
    have low : ∀ x : Nat, x / 2 ^ lo' % 2 ^ (hi' + 1 - lo') = x % 2 ^ lo / 2 ^ lo' % 2 ^ (hi' + 1 - lo') := by
      intro x
      have e3 : (2 : Nat) ^ lo = 2 ^ lo' * 2 ^ (lo - lo') := by rw [← pow_add]; congr 1; omega
      rw [e3, Nat.mod_mul_right_div_self, Nat.mod_mod_of_dvd]
      exact pow_dvd_pow 2 (by omega)
    rw [low, low w.toNat, e, Nat.add_mul_mod_self_left, Nat.mod_mod]

/-- A field written reads back, cut to its width. -/
theorem State.get_put_same {s : State} {f : Fld} {n : Nat} (hf : f.ok) (h : tabWf regDefault s.regs = true) :
    (s.put f n).get f = n % 2 ^ (f.hi + 1 - f.lo) := by
  unfold State.get State.put
  rw [State.reg_setReg_same h]
  exact bitsOf_putBits_same hf.1 hf.2

/-- A field apart from the one written reads as before. -/
theorem State.get_put_apart {s : State} {f g : Fld} {n : Nat} (hf : f.ok) (hg : g.ok) (ha : f.apart g)
    (h : tabWf regDefault s.regs = true) : (s.put f n).get g = s.get g := by
  unfold State.get State.put
  by_cases e : g.addr = f.addr
  · rw [e, State.reg_setReg_same h]
    refine bitsOf_putBits_apart hf.1 hf.2 hg.1 ?_
    rcases ha with ha | ha | ha
    · exact absurd e.symm ha
    · exact .inl ha
    · exact .inr ha
  · rw [State.reg_setReg_other h e]

/-- A one-bit field set reads back. -/
theorem State.flag_setFlag_same {s : State} {f : Fld} {v : Bool} (hf : f.ok) (hw : f.hi = f.lo) (h : tabWf regDefault s.regs = true) :
    (s.setFlag f v).flag f = v := by
  unfold State.flag State.setFlag
  rw [State.get_put_same hf h, hw, show f.lo + 1 - f.lo = 1 by omega]
  cases v <;> rfl

/-- A flag apart from the field written reads as before. -/
theorem State.flag_put_apart {s : State} {f g : Fld} {n : Nat} (hf : f.ok) (hg : g.ok) (ha : f.apart g)
    (h : tabWf regDefault s.regs = true) : (s.put f n).flag g = s.flag g := by
  unfold State.flag
  rw [State.get_put_apart hf hg ha h]

/-- The register file stays canonical. -/
theorem State.put_wf {s : State} {f : Fld} {n : Nat} (h : tabWf regDefault s.regs = true) : tabWf regDefault (s.put f n).regs = true :=
  tabWf_tabSet h

end Sys2Proof.Machine
end

