-- ==== Sys2Proof/Laws/Kept.lean ====
section
/-! SUPPORT. What keeps the queue and the canonical stores: the steps that proofs about every command take. -/

namespace Sys2Proof.Machine

variable {q : List Instr} {s t : State}

/-- A state that differs in other fields only. -/
theorem State.Kept.upd (h : s.Kept q) {wt a b c d e f i j k l m n o p r u v w x y z aa bb cc dd ee ff gg hh} :
    State.Kept q ⟨s.pending, wt, s.regs, s.silo, a, b, c, d, e, f, s.eng, i, j, k, l, m, n, o, p, r, u, v, w, x, y, z, aa, bb, cc, dd, ee, ff, gg, hh⟩ :=
  h

theorem State.Kept.ite {c : Prop} [Decidable c] {x y : State} (hx : x.Kept q) (hy : y.Kept q) : (if c then x else y).Kept q := by
  split <;> assumption

/-- A choice between two answers with a state. -/
theorem Kept_snd_ite {α : Type} {c : Prop} [Decidable c] {x y : α × State} (hx : x.2.Kept q) (hy : y.2.Kept q) :
    State.Kept q (if c then x else y).2 := by
  split <;> assumption

theorem State.Kept.dite {c : Prop} [Decidable c] {x : c → State} {y : ¬c → State} (hx : ∀ h, (x h).Kept q) (hy : ∀ h, (y h).Kept q) :
    (dite c x y).Kept q := by
  split
  · exact hx _
  · exact hy _

theorem State.Kept.forEach {α : Type} {f : State → α → State} (hf : ∀ s x, s.Kept q → (f s x).Kept q) :
    ∀ {l : List α} {s : State}, s.Kept q → (forEach l s f).Kept q
  | [], _, h => h
  | x :: l, s, h => State.Kept.forEach (l := l) hf (hf s x h)

theorem State.Kept.foldl {α : Type} {f : State → α → State} (hf : ∀ s x, s.Kept q → (f s x).Kept q) :
    ∀ {l : List α} {s : State}, s.Kept q → (l.foldl f s).Kept q
  | [], _, h => h
  | x :: l, s, h => State.Kept.foldl (l := l) hf (hf s x h)

/-- A state carried beside a value through a list. -/
theorem Kept_snd_foldl {α β : Type} {f : β × State → α → β × State} (hf : ∀ p x, p.2.Kept q → (f p x).2.Kept q) :
    ∀ {l : List α} {p : β × State}, p.2.Kept q → (l.foldl f p).2.Kept q
  | [], _, h => h
  | x :: l, p, h => Kept_snd_foldl (l := l) hf (hf p x h)

theorem State.Kept.setReg {a : Nat} {v : Word} (h : s.Kept q) : (s.setReg a v).Kept q :=
  ⟨h.1, tabWf_tabSet h.2.1, h.2.2⟩

/-- A state whose Silo is changed to a canonical one, and other fields. -/
theorem State.Kept.silo {m : MemR} (h : s.Kept q) (hm : Mem.wf m.cells = true)
    {wt a b c d e f i j k l n o p r u v w x y z aa bb cc dd ee ff gg hh ii} :
    State.Kept q ⟨s.pending, wt, s.regs, m, a, b, c, d, e, f, s.eng, i, j, k, l, n, o, p, r, u, v, w, x, y, z, aa, bb, cc, dd, ee, ff, gg, hh, ii⟩ :=
  ⟨h.1, h.2.1, hm, h.2.2.2⟩

/-- A state whose register file loses entries, and other fields. -/
theorem State.Kept.regs {g' : Nat × Word → Bool} (h : s.Kept q)
    {wt a b c d e f i j k l n o p r u v w x y z aa bb cc dd ee ff gg hh ii} :
    State.Kept q ⟨s.pending, wt, s.regs.filter g', s.silo, a, b, c, d, e, f, s.eng, i, j, k, l, n, o, p, r, u, v, w, x, y, z, aa, bb, cc, dd, ee,
      ff, gg, hh, ii⟩ :=
  ⟨h.1, tabWf_filter h.2.1, h.2.2⟩

/-- A state with the register file of another one, less some entries. -/
theorem State.Kept.regsOf {g' : Nat × Word → Bool} (h : s.Kept q) (ht : t.Kept q) : State.Kept q { t with regs := s.regs.filter g' } :=
  ⟨ht.1, tabWf_filter h.2.1, ht.2.2⟩

theorem State.Kept.siloWf (h : s.Kept q) : Mem.wf s.silo.cells = true := h.2.2.1

theorem State.Kept.engOk (h : s.Kept q) (e : Eng) : s.eng[e].Ok := h.2.2.2 e

/-- A state whose engines hold canonical memories, with some registers dropped, and other fields. -/
theorem State.Kept.engs {v : Vector Engine 21} {g' : Nat × Word → Bool} (h : s.Kept q) (hv : ∀ e : Eng, v[e].Ok)
    {wt a b c d e f i j k l n o p r u w x y z aa bb cc dd ee ff gg hh ii jj} :
    State.Kept q ⟨s.pending, wt, s.regs.filter g', s.silo, a, b, c, d, e, f, v, i, j, k, l, n, o, p, r, u, w, x, y, z, aa, bb, cc, dd, ee,
      ff, gg, hh, ii, jj⟩ :=
  ⟨h.1, tabWf_filter h.2.1, h.2.2.1, hv⟩

/-! ## Engines whose local memory stays canonical -/

variable {x : Engine}

/-- Only other parts of the engine differ. -/
theorem Engine.Ok.upd (h : x.Ok) {a b c d e f g i j k l m} : Engine.Ok ⟨a, b, c, d, e, f, g, x.mem, i, j, k, l, m⟩ := h

theorem Engine.Ok.wf (h : x.Ok) : Mem.wf x.mem.cells = true := h

/-- The memory is another canonical one. -/
theorem Engine.Ok.mem {m : MemR} (h : Mem.wf m.cells = true) {a b c d e f g i j k l n} : Engine.Ok ⟨a, b, c, d, e, f, g, m, i, j, k, l, n⟩ := h

theorem Engine.setG_ok {d : GReg} {v : Word} (h : x.Ok) : (x.setG d v).Ok := by
  unfold Engine.setG
  split <;> exact h

theorem Engine.alu_ok {d : GReg} {S : Bool} {o : AluOut} (h : x.Ok) : (x.alu d S o).Ok := Engine.Ok.upd (Engine.setG_ok h)

theorem Engine.gather_ok {v : Bool} (h : x.Ok) : (x.gather v).Ok := h

theorem Engine.setAcc_ok {n : Fin 8} {i : Int} (h : x.Ok) : (x.setAcc n i).Ok := h

theorem Engine.setQ_ok {d : GReg} {y : Int × Bool} (h : x.Ok) : (x.setQ d y).Ok := Engine.gather_ok (Engine.setG_ok h)

theorem Engine.restoreFlags_ok (h : x.Ok) : x.restoreFlags.Ok := h

theorem Engine.fresh_ok (h : x.Ok) : x.fresh.Ok := h

theorem Engine.takeEvent_ok {d : GReg} {c v : Bool} (h : x.Ok) : (x.takeEvent d c v).Ok := by
  unfold Engine.takeEvent
  split
  · exact Engine.Ok.upd (Engine.setG_ok (Engine.Ok.upd h))
  · exact Engine.Ok.upd (Engine.setG_ok h)

theorem Engine.complete_ok {f : Engine → Engine} (h : x.Ok) (hf : ∀ y, y.Ok → (f y).Ok) : (x.complete f).Ok := hf _ h

/-- What a wait that completes does to its engine. -/
theorem State.waitMet_ok {s : State} {e : Eng} {f : Engine → Engine} (h : s.waitMet e = some f) (hx : x.Ok) : (f x).Ok := by
  unfold State.waitMet at h
  repeat' split at h
  all_goals
    cases h
    try first
      | exact Engine.takeEvent_ok hx
      | exact Engine.Ok.upd hx

theorem Engine.ite_ok {c : Prop} [Decidable c] {y z : Engine} (hy : y.Ok) (hz : z.Ok) : (if c then y else z).Ok := by
  split <;> assumption

/-- An engine changed keeps its memory canonical. -/
theorem State.modEng_kept {s : State} {e : Eng} {f : Engine → Engine} (h : s.Kept q) (hf : ∀ y, y.Ok → (f y).Ok) : (s.modEng e f).Kept q := by
  refine ⟨h.1, h.2.1, h.2.2.1, fun g => ?_⟩
  show ((vmod s.eng e f)[g]).Ok
  by_cases hg : g = e
  · subst hg
    rw [show (vmod s.eng g f)[g] = f s.eng[g] by simp [vmod]]
    exact hf _ (h.engOk g)
  · have hne : e.val ≠ g.val := fun k => hg (Fin.ext k.symm)
    rw [show (vmod s.eng e f)[g] = s.eng[g] by simp [vmod, hne]]
    exact h.engOk g

theorem State.Kept.some {u : State} (h : s.Kept q) (e : some s = some u) : u.Kept q := by cases e; exact h

theorem State.Kept.pair {α : Type} {w : α} (h : s.Kept q) : State.Kept q (w, s).2 := h

theorem OutKept.next (h : t.Kept q) : OutKept q (.next t) := by
  intro u e
  cases e
  exact h

theorem OutKept.ite {c : Prop} [Decidable c] {x y : Host.Outcome State Fault Refusal} (hx : OutKept q x) (hy : OutKept q y) :
    OutKept q (if c then x else y) := by
  split <;> assumption

theorem OutKept.of_eq {o : Host.Outcome State Fault Refusal} (e : o = .next t) (h : OutKept q o) : t.Kept q := h t e

theorem Eff.Kept.done (h : s.Kept q) : Eff.Kept q (.done s) := h
theorem Eff.Kept.jump {pc : Word} (h : s.Kept q) : Eff.Kept q (.jump s pc) := h
theorem Eff.Kept.hold (h : s.Kept q) : Eff.Kept q (.hold s) := h
theorem Eff.Kept.exc {c d : Nat} : Eff.Kept q (.exc c d) := trivial
theorem Eff.Kept.stall {d : Fin 44} : Eff.Kept q (.stall d) := trivial

theorem Eff.Kept.ite {c : Prop} [Decidable c] {x y : Eff} (hx : Eff.Kept q x) (hy : Eff.Kept q y) : Eff.Kept q (if c then x else y) := by
  split <;> assumption

theorem Eff.Kept.of_done {x : Eff} (e : x = .done t) (h : Eff.Kept q x) : t.Kept q := by subst e; exact h
theorem Eff.Kept.of_jump {x : Eff} {pc : Word} (e : x = .jump t pc) (h : Eff.Kept q x) : t.Kept q := by subst e; exact h
theorem Eff.Kept.of_hold {x : Eff} (e : x = .hold t) (h : Eff.Kept q x) : t.Kept q := by subst e; exact h

theorem ringAddrExc_kept {p : Nat} {x : Eff} (e : ringAddrExc p = some x) : Eff.Kept q x := by
  unfold ringAddrExc at e
  split at e
  · cases e; trivial
  · split at e
    · cases e
    · cases e; trivial

end Sys2Proof.Machine
end

