-- ==== Sys2Proof/Laws/Kept1.lean ====
section
/-! SUPPORT. Each operation and command leaves the queue alone and the stores canonical, part 1 of 5: callees before
their callers. -/

namespace Sys2Proof.Machine

theorem State.modBeam_kept {q s a1 a2} (hs : State.Kept q s) : State.Kept q (State.modBeam s a1 a2) := by
  unfold State.modBeam
  try dsimp only
  with_reducible repeat' first | assumption | apply State.Kept.ite | (refine State.Kept.upd ?_; first | assumption)

theorem State.modTraj_kept {q s a1 a2} (hs : State.Kept q s) : State.Kept q (State.modTraj s a1 a2) := by
  unfold State.modTraj
  try dsimp only
  with_reducible repeat' first | assumption | apply State.modBeam_kept

theorem pumpGo_kept {q} {a1 : Nat} : ∀ {a0 s}, State.Kept q s → State.Kept q (pumpGo a0 a1 s) := by
  induction a1 with
  | zero =>
    intro a0 s hs
    unfold pumpGo
    try dsimp only
    with_reducible repeat' first | assumption
  | succ n ih =>
    intro a0 s hs
    unfold pumpGo
    try dsimp only
    with_reducible repeat' first
        | assumption | apply State.modTraj_kept | apply ih | apply State.Kept.ite
        | (refine State.Kept.upd ?_; first | assumption | apply State.modTraj_kept | apply ih | apply State.Kept.ite | split)

theorem State.pump_kept {q s a1} (hs : State.Kept q s) : State.Kept q (State.pump s a1) := by
  unfold State.pump
  try dsimp only
  with_reducible repeat' first | assumption | apply pumpGo_kept | apply State.modTraj_kept

theorem State.enqueue_kept {q s a1 a2 a3} (hs : State.Kept q s) : State.Kept q (State.enqueue s a1 a2 a3) := by
  unfold State.enqueue
  try dsimp only
  with_reducible repeat' first | assumption | apply State.modTraj_kept | apply State.pump_kept

theorem State.put_kept {q s a1 a2} (hs : State.Kept q s) : State.Kept q (State.put s a1 a2) := by
  unfold State.put
  try dsimp only
  with_reducible repeat' first | assumption | apply State.Kept.ite | apply State.Kept.setReg

theorem State.xkInt_kept {q s a1} (hs : State.Kept q s) : State.Kept q (State.xkInt s a1) := by
  unfold State.xkInt
  try dsimp only
  with_reducible repeat' first | assumption | apply State.put_kept

theorem State.raise_kept {q s a1 a2} (hs : State.Kept q s) : State.Kept q (State.raise s a1 a2) := by
  unfold State.raise
  try dsimp only
  with_reducible repeat' first
      | assumption | apply State.xkInt_kept | apply State.Kept.ite
      | (refine State.Kept.upd ?_; first | assumption | apply State.xkInt_kept | apply State.Kept.ite | split)

theorem State.setFlag_kept {q s a1 a2} (hs : State.Kept q s) : State.Kept q (State.setFlag s a1 a2) := by
  unfold State.setFlag
  try dsimp only
  with_reducible repeat' first | assumption | apply State.put_kept

theorem State.breakBarrier_kept {q s a1} (hs : State.Kept q s) : State.Kept q (State.breakBarrier s a1) := by
  unfold State.breakBarrier
  try dsimp only
  with_reducible repeat' first
      | assumption | (apply State.Kept.forEach; intro _ _ _) | (refine State.modEng_kept ?_ fun x hx => ?_) | apply State.put_kept
      | apply State.Kept.ite | (refine State.Kept.upd ?_; first | assumption) | intro _ | split | exact hx
      | (refine Engine.complete_ok ?_ fun x hx => ?_) | apply Engine.Ok.upd

theorem State.withdraw_kept {q s a1} (hs : State.Kept q s) : State.Kept q (State.withdraw s a1) := by
  unfold State.withdraw
  try dsimp only
  with_reducible repeat' first | assumption | apply State.breakBarrier_kept | apply State.Kept.ite | intro _ | split

theorem State.modCell_kept {q s a1 a2} (hs : State.Kept q s) : State.Kept q (State.modCell s a1 a2) := by
  unfold State.modCell
  try dsimp only
  with_reducible repeat' first | assumption | apply State.Kept.ite | (refine State.Kept.upd ?_; first | assumption)

theorem State.gateRise_kept {q s a1 a2} (hs : State.Kept q s) : State.Kept q (State.gateRise s a1 a2) := by
  unfold State.gateRise
  try dsimp only
  with_reducible repeat' first | assumption | apply State.modTraj_kept | apply State.modCell_kept | apply State.Kept.ite

theorem State.modSwath_kept {q s a1 a2 a3} (hs : State.Kept q s) : State.Kept q (State.modSwath s a1 a2 a3) := by
  unfold State.modSwath
  try dsimp only
  with_reducible repeat' first | assumption | apply State.modBeam_kept

theorem State.addMark_kept {q s a1 a2 a3} (hs : State.Kept q s) : State.Kept q (State.addMark s a1 a2 a3) := by
  unfold State.addMark
  try dsimp only
  with_reducible repeat' first | assumption | apply State.modSwath_kept | apply State.Kept.ite | intro _ | split

theorem State.gateFall_kept {q s a1 a2} (hs : State.Kept q s) : State.Kept q (State.gateFall s a1 a2) := by
  unfold State.gateFall
  try dsimp only
  with_reducible repeat' first
      | assumption | apply State.gateRise_kept | apply State.addMark_kept | apply State.modTraj_kept | apply State.modCell_kept
      | apply State.Kept.ite

theorem State.stopCell_kept {q s a1 a2 a3} (hs : State.Kept q s) : State.Kept q (State.stopCell s a1 a2 a3) := by
  unfold State.stopCell
  try dsimp only
  with_reducible repeat' first
      | assumption | apply State.modCell_kept | apply State.Kept.ite | (refine State.Kept.upd ?_; first | assumption | apply State.modCell_kept)

theorem State.stopCells_kept {q s a1} (hs : State.Kept q s) : State.Kept q (State.stopCells s a1) := by
  unfold State.stopCells
  try dsimp only
  with_reducible repeat' first
      | assumption | apply State.gateFall_kept | apply State.stopCell_kept | apply State.modCell_kept | apply State.modTraj_kept

theorem State.modArb_kept {q s a1 a2} (hs : State.Kept q s) : State.Kept q (State.modArb s a1 a2) := by
  unfold State.modArb
  try dsimp only
  with_reducible repeat' first | assumption | apply State.Kept.ite | (refine State.Kept.upd ?_; first | assumption)

theorem State.dropTent_kept {q s a1} (hs : State.Kept q s) : State.Kept q (State.dropTent s a1) := by
  unfold State.dropTent
  try dsimp only
  with_reducible repeat' first
      | assumption | apply State.addMark_kept | apply State.modArb_kept | apply State.Kept.ite
      | (refine State.Kept.upd ?_; first | assumption | apply State.addMark_kept | apply State.modArb_kept | apply State.Kept.ite | split)

theorem State.giveUpLease_kept {q s a1 a2} (hs : State.Kept q s) : State.Kept q (State.giveUpLease s a1 a2) := by
  unfold State.giveUpLease
  try dsimp only
  with_reducible repeat' first | assumption | apply State.modBeam_kept | apply State.modArb_kept

theorem State.stopBeam_kept {q s a1} (hs : State.Kept q s) : State.Kept q (State.stopBeam s a1) := by
  unfold State.stopBeam
  try dsimp only
  with_reducible repeat' first
      | assumption | apply State.withdraw_kept | apply State.stopCells_kept | apply State.dropTent_kept | apply State.giveUpLease_kept
      | apply State.modArb_kept | apply State.modBeam_kept

theorem State.modChan_kept {q s a1 a2} (hs : State.Kept q s) : State.Kept q (State.modChan s a1 a2) := by
  unfold State.modChan
  try dsimp only
  with_reducible repeat' first | assumption | apply State.Kept.ite | (refine State.Kept.upd ?_; first | assumption)

theorem State.chCut_kept {q s a1} (hs : State.Kept q s) : State.Kept q (State.chCut s a1) := by
  unfold State.chCut
  try dsimp only
  with_reducible repeat' first | assumption | apply State.stopBeam_kept | apply State.gateFall_kept | apply State.modChan_kept

theorem State.stampDone_kept {q s a1} (hs : State.Kept q s) : State.Kept q (State.stampDone s a1) := by
  unfold State.stampDone
  try dsimp only
  with_reducible repeat' first
      | assumption | apply State.Kept.ite | (refine State.Kept.silo ?_ ?_; first | assumption) | intro _ | split | exact True.intro
      | apply MemR.wf_setBytes | apply MemR.wf_setByte | apply MemR.wf_write | rw [MemR.renew_cells] | rw [MemR.correct_cells]
      | refine State.Kept.siloWf (q := q) ?_

theorem State.setSilo32_kept {q s a1 a2} (hs : State.Kept q s) : State.Kept q (State.setSilo32 s a1 a2) := by
  unfold State.setSilo32
  try dsimp only
  with_reducible repeat' first
      | assumption | apply State.Kept.ite | (refine State.Kept.silo ?_ ?_; first | assumption) | intro _ | split | exact True.intro
      | apply MemR.wf_setBytes | apply MemR.wf_setByte | apply MemR.wf_write | rw [MemR.renew_cells] | rw [MemR.correct_cells]
      | refine State.Kept.siloWf (q := q) ?_

theorem State.setDesc_kept {q s a1 a2 a3 a4} (hs : State.Kept q s) : State.Kept q (State.setDesc s a1 a2 a3 a4) := by
  unfold State.setDesc
  try dsimp only
  with_reducible repeat' first | assumption | apply State.setSilo32_kept

theorem State.setStatus_kept {q s a1 a2} (hs : State.Kept q s) : State.Kept q (State.setStatus s a1 a2) := by
  unfold State.setStatus
  try dsimp only
  with_reducible repeat' first | assumption | apply State.setDesc_kept

theorem State.incSheafFailed_kept {q s a1} (hs : State.Kept q s) : State.Kept q (State.incSheafFailed s a1) := by
  unfold State.incSheafFailed
  try dsimp only
  with_reducible repeat' first
      | assumption | apply State.Kept.ite | (refine State.Kept.silo ?_ ?_; first | assumption) | intro _ | split | exact True.intro
      | apply MemR.wf_setBytes | apply MemR.wf_setByte | apply MemR.wf_write | rw [MemR.renew_cells] | rw [MemR.correct_cells]
      | refine State.Kept.siloWf (q := q) ?_

theorem State.setHead_kept {q s a1 a2} (hs : State.Kept q s) : State.Kept q (State.setHead s a1 a2) := by
  unfold State.setHead
  try dsimp only
  with_reducible repeat' first | assumption | apply State.put_kept

theorem State.passFinal_kept {q} {a2 : Nat} : ∀ {s a1}, State.Kept q s → State.Kept q (State.passFinal s a1 a2) := by
  induction a2 with
  | zero =>
    intro s a1 hs
    unfold State.passFinal
    try dsimp only
    with_reducible repeat' first | assumption
  | succ n ih =>
    intro s a1 hs
    unfold State.passFinal
    try dsimp only
    with_reducible repeat' first | assumption | apply State.setHead_kept | apply ih | apply State.Kept.ite

theorem State.finish_kept {q s a1 a2 a3} (hs : State.Kept q s) : State.Kept q (State.finish s a1 a2 a3) := by
  unfold State.finish
  try dsimp only
  with_reducible repeat' first
      | assumption | apply State.stampDone_kept | apply State.setStatus_kept | apply State.incSheafFailed_kept | apply State.passFinal_kept
      | apply State.Kept.ite

theorem State.swathDone_kept {q s a1 a2} (hs : State.Kept q s) : State.Kept q (State.swathDone s a1 a2) := by
  unfold State.swathDone
  try dsimp only
  with_reducible repeat' first | assumption | apply State.raise_kept

theorem State.unblock_kept {q s} (hs : State.Kept q s) : State.Kept q (State.unblock s) := by
  unfold State.unblock
  try dsimp only
  with_reducible repeat' first | assumption | (apply State.Kept.forEach; intro _ _ _) | apply State.modArb_kept

theorem State.swathOver_kept {q s a1} (hs : State.Kept q s) : State.Kept q (State.swathOver s a1) := by
  unfold State.swathOver
  try dsimp only
  with_reducible repeat' first
      | assumption | apply State.addMark_kept | apply State.modArb_kept | apply State.put_kept | apply State.unblock_kept | apply State.Kept.ite

theorem State.endSwath_kept {q s a1 a2 a3} (hs : State.Kept q s) : State.Kept q (State.endSwath s a1 a2 a3) := by
  unfold State.endSwath
  try dsimp only
  with_reducible repeat' first
      | assumption | apply State.finish_kept | apply State.swathDone_kept | apply State.swathOver_kept | apply State.modBeam_kept

theorem State.oneOutcome_kept {q s a1 a2 a3 a4 a5} (hs : State.Kept q s) : State.Kept q (State.oneOutcome s a1 a2 a3 a4 a5) := by
  unfold State.oneOutcome
  try dsimp only
  with_reducible repeat' first | assumption | apply State.endSwath_kept | apply State.modSwath_kept | apply State.Kept.ite

theorem State.wdogSync_kept {q s a1} (hs : State.Kept q s) : State.Kept q (State.wdogSync s a1) := by
  unfold State.wdogSync
  try dsimp only
  with_reducible repeat' first
      | assumption | (refine State.modEng_kept ?_ fun x hx => ?_) | apply State.Kept.ite | intro _ | split | exact hx | apply Engine.Ok.upd

theorem State.owesSearch_kept {q s a1} (hs : State.Kept q s) : State.Kept q (State.owesSearch s a1) := by
  unfold State.owesSearch
  try dsimp only
  with_reducible repeat' first | assumption | apply State.modArb_kept

theorem State.heldOff_kept {q s a1 a2} (hs : State.Kept q s) : State.Kept q (State.heldOff s a1 a2) := by
  unfold State.heldOff
  try dsimp only
  with_reducible repeat' first
      | assumption | apply State.wdogSync_kept | (refine State.modEng_kept ?_ fun x hx => ?_) | apply State.modBeam_kept
      | apply State.owesSearch_kept | apply State.Kept.ite | intro _ | split | exact hx | apply Engine.Ok.upd

theorem State.outcomes_kept {q s a1 a2 a3 a4} (hs : State.Kept q s) : State.Kept q (State.outcomes s a1 a2 a3 a4) := by
  unfold State.outcomes
  try dsimp only
  with_reducible repeat' first
      | assumption | apply State.addMark_kept | (apply State.Kept.forEach; intro _ _ _) | apply State.oneOutcome_kept | apply State.modBeam_kept
      | apply State.heldOff_kept | apply State.Kept.ite | intro _ | split

theorem State.stopWith_kept {q s a1 a2 a3 a4} (hs : State.Kept q s) : State.Kept q (State.stopWith s a1 a2 a3 a4) := by
  unfold State.stopWith
  try dsimp only
  with_reducible repeat' first | assumption | apply State.outcomes_kept | apply State.stopBeam_kept

theorem State.suspendBeam_kept {q s a1} (hs : State.Kept q s) : State.Kept q (State.suspendBeam s a1) := by
  unfold State.suspendBeam
  try dsimp only
  with_reducible repeat' first | assumption | apply State.stopWith_kept

theorem State.suspendAll_kept {q s} (hs : State.Kept q s) : State.Kept q (State.suspendAll s) := by
  unfold State.suspendAll
  try dsimp only
  with_reducible repeat' first
      | assumption | (apply State.Kept.forEach; intro _ _ _) | apply State.chCut_kept | apply State.suspendBeam_kept | apply State.Kept.ite

theorem State.modTime_kept {q s a1} (hs : State.Kept q s) : State.Kept q (State.modTime s a1) := by
  unfold State.modTime
  try dsimp only
  with_reducible repeat' first | assumption | apply State.Kept.ite | (refine State.Kept.upd ?_; first | assumption)

theorem execRefclkLoss_kept {q s} (hs : State.Kept q s) : OutKept q (execRefclkLoss s) := by
  unfold execRefclkLoss
  try dsimp only
  with_reducible repeat' first
      | assumption | apply OutKept.next | apply State.raise_kept | apply State.setFlag_kept | apply State.suspendAll_kept | apply State.modTime_kept
      | apply State.Kept.ite

theorem State.modAxis_kept {q s a1 a2} (hs : State.Kept q s) : State.Kept q (State.modAxis s a1 a2) := by
  unfold State.modAxis
  try dsimp only
  with_reducible repeat' first | assumption | apply State.Kept.ite | (refine State.Kept.upd ?_; first | assumption)

theorem State.setAxPos_kept {q s a1 a2} (hs : State.Kept q s) : State.Kept q (State.setAxPos s a1 a2) := by
  unfold State.setAxPos
  try dsimp only
  with_reducible repeat' first | assumption | apply State.put_kept

theorem State.axPlace_kept {q s a1 a2} (hs : State.Kept q s) : State.Kept q (State.axPlace s a1 a2) := by
  unfold State.axPlace
  try dsimp only
  with_reducible repeat' first | assumption | apply State.modAxis_kept | apply State.setAxPos_kept

theorem State.axAdopt_kept {q s a1 a2 a3 a4 a5 a6} (hs : State.Kept q s) : State.Kept q (State.axAdopt s a1 a2 a3 a4 a5 a6) := by
  unfold State.axAdopt
  try dsimp only
  with_reducible repeat' first | assumption | apply State.modAxis_kept | apply State.axPlace_kept | apply State.setFlag_kept | apply State.put_kept

theorem State.adoptAxes_kept {q s} (hs : State.Kept q s) : State.Kept q (State.adoptAxes s) := by
  unfold State.adoptAxes
  try dsimp only
  with_reducible repeat' first
      | assumption | (apply State.Kept.forEach; intro _ _ _) | apply State.axAdopt_kept | apply State.Kept.ite | intro _ | split

theorem State.xkAt_kept {q s a1} (hs : State.Kept q s) : State.Kept q (State.xkAt s a1) := by
  unfold State.xkAt
  try dsimp only
  with_reducible repeat' first | assumption | apply State.modTraj_kept

theorem State.xkGo_kept {q s a1 a2} (hs : State.Kept q s) : State.Kept q (State.xkGo s a1 a2) := by
  unfold State.xkGo
  try dsimp only
  with_reducible repeat' first | assumption | apply State.put_kept

theorem State.chStop_kept {q s a1} (hs : State.Kept q s) : State.Kept q (State.chStop s a1) := by
  unfold State.chStop
  try dsimp only
  with_reducible repeat' first | assumption | apply State.modChan_kept | apply State.chCut_kept

theorem State.chHalt_kept {q s a1 a2} (hs : State.Kept q s) : State.Kept q (State.chHalt s a1 a2) := by
  unfold State.chHalt
  try dsimp only
  with_reducible repeat' first
      | assumption | apply State.put_kept | apply State.chStop_kept | apply State.raise_kept | apply State.xkInt_kept | apply State.Kept.ite

theorem State.prunePath_kept {q s a1} (hs : State.Kept q s) : State.Kept q (State.prunePath s a1) := by
  unfold State.prunePath
  try dsimp only
  with_reducible repeat' first | assumption | apply State.modTraj_kept

theorem State.xkCmd_kept {q s a1 a2 a3 a4} (hs : State.Kept q s) (hf : ∀ s, State.Kept q s → State.Kept q (a4 s)) : State.Kept q (State.xkCmd s a1 a2 a3 a4) := by
  unfold State.xkCmd
  try dsimp only
  with_reducible repeat' first
      | assumption | apply State.xkAt_kept | apply State.modChan_kept | apply State.xkGo_kept | apply State.chHalt_kept | apply State.pump_kept
      | apply State.prunePath_kept | apply hf | apply State.Kept.ite

theorem State.xkTo_kept {q s a1} (hs : State.Kept q s) : State.Kept q (State.xkTo s a1) := by
  unfold State.xkTo
  try dsimp only
  with_reducible repeat' first | assumption | apply State.modChan_kept

theorem State.addSeg_kept {q s a1 a2 a3 a4 a5 a6 a7 a8 a9} (hs : State.Kept q s) : State.Kept q (State.addSeg s a1 a2 a3 a4 a5 a6 a7 a8 a9) := by
  unfold State.addSeg
  try dsimp only
  with_reducible repeat' first | assumption | apply pumpGo_kept | apply State.modTraj_kept

theorem State.addPause_kept {q s a1 a2 a3} (hs : State.Kept q s) : State.Kept q (State.addPause s a1 a2 a3) := by
  unfold State.addPause
  try dsimp only
  with_reducible repeat' first | assumption | apply State.addSeg_kept

theorem State.motionTo_kept {q s a1} (hs : State.Kept q s) : State.Kept q (State.motionTo s a1) := by
  unfold State.motionTo
  try dsimp only
  with_reducible repeat' first
      | assumption | apply pumpGo_kept | apply State.modSwath_kept | apply State.modArb_kept | apply State.Kept.ite | intro _ | split

theorem State.count_kept {q s a1} (hs : State.Kept q s) : State.Kept q (State.count s a1) := by
  unfold State.count
  try dsimp only
  with_reducible repeat' first | assumption | apply State.put_kept | apply State.Kept.ite

theorem State.addFly_kept {q s a1 a2 a3 a4 a5 a6} (hs : State.Kept q s) : State.Kept q (State.addFly s a1 a2 a3 a4 a5 a6) := by
  unfold State.addFly
  try dsimp only
  with_reducible repeat' first | assumption | apply State.addSeg_kept

theorem State.addTail_kept {q s a1 a2} (hs : State.Kept q s) : State.Kept q (State.addTail s a1 a2) := by
  unfold State.addTail
  try dsimp only
  with_reducible repeat' first
      | assumption | apply State.count_kept | apply State.addFly_kept | apply State.addPause_kept | apply State.addSeg_kept | apply State.Kept.ite
      | intro _ | split

theorem State.leaveMark_kept {q s a1 a2 a3} (hs : State.Kept q s) : State.Kept q (State.leaveMark s a1 a2 a3) := by
  unfold State.leaveMark
  try dsimp only
  with_reducible repeat' first | assumption | apply State.addTail_kept | apply State.addPause_kept | apply State.Kept.ite

theorem State.modEdges_kept {q s a1 a2 a3} (hs : State.Kept q s) : State.Kept q (State.modEdges s a1 a2 a3) := by
  unfold State.modEdges
  try dsimp only
  with_reducible repeat' first
      | assumption | apply State.modCell_kept | apply State.modTraj_kept | apply State.Kept.ite | (refine State.Kept.upd ?_; first | assumption)

theorem State.placeEdge_kept {q s a1 a2 a3} (hs : State.Kept q s) : State.Kept q (State.placeEdge s a1 a2 a3) := by
  unfold State.placeEdge
  try dsimp only
  with_reducible repeat' first | assumption | apply State.modTraj_kept

theorem State.gateTime_kept {q s a1 a2} (hs : State.Kept q s) : State.Kept q (State.gateTime s a1 a2).2 := by
  unfold State.gateTime
  try dsimp only
  with_reducible repeat' first | assumption | apply State.count_kept | apply State.Kept.ite | intro _ | split

theorem State.gateTime_kept_eq {q s a1 a2 w t} (e : State.gateTime s a1 a2 = (w, t)) (hs : State.Kept q s) : State.Kept q t := by
  have h : State.Kept q (State.gateTime s a1 a2).2 := State.gateTime_kept hs
  rw [e] at h
  exact h

theorem State.lightEnds_kept {q s a1 a2} (hs : State.Kept q s) : State.Kept q (State.lightEnds s a1 a2) := by
  unfold State.lightEnds
  try dsimp only
  with_reducible repeat' first
      | assumption | apply State.modSwath_kept | apply State.gateTime_kept | (refine State.gateTime_kept_eq (by assumption) ?_)
      | apply State.modArb_kept | apply State.Kept.ite | intro _ | split

theorem State.sequenceFall_kept {q s a1 a2} (hs : State.Kept q s) : State.Kept q (State.sequenceFall s a1 a2) := by
  unfold State.sequenceFall
  try dsimp only
  with_reducible repeat' first
      | assumption | apply State.modTraj_kept | apply State.modEdges_kept | apply State.placeEdge_kept | apply State.lightEnds_kept
      | apply State.count_kept | apply State.Kept.ite

theorem State.endSequence_kept {q s a1} (hs : State.Kept q s) : State.Kept q (State.endSequence s a1) := by
  unfold State.endSequence
  try dsimp only
  with_reducible repeat' first
      | assumption | apply State.pump_kept | apply State.motionTo_kept | apply State.leaveMark_kept | apply State.sequenceFall_kept
      | apply State.Kept.ite | intro _ | split

theorem State.xkEndSeq_kept {q s a1} (hs : State.Kept q s) : State.Kept q (State.xkEndSeq s a1) := by
  unfold State.xkEndSeq
  try dsimp only
  with_reducible repeat' first
      | assumption | apply State.xkTo_kept | apply State.xkAt_kept | apply State.addPause_kept | apply State.modTraj_kept
      | apply State.endSequence_kept | apply State.Kept.ite | intro _ | split

theorem State.xkStart_kept {q s a1} (hs : State.Kept q s) : State.Kept q (State.xkStart s a1) := by
  unfold State.xkStart
  try dsimp only
  with_reducible repeat' first | assumption | apply State.xkAt_kept | apply State.xkTo_kept | apply State.modChan_kept

theorem State.modChange_kept {q s a1 a2 a3 a4} (hs : State.Kept q s) : State.Kept q (State.modChange s a1 a2 a3 a4) := by
  unfold State.modChange
  try dsimp only
  with_reducible repeat' first | assumption | apply State.modTraj_kept | apply State.modEdges_kept | apply State.placeEdge_kept | apply State.Kept.ite

theorem State.syncChange_kept {q s a1 a2 a3} (hs : State.Kept q s) : State.Kept q (State.syncChange s a1 a2 a3) := by
  unfold State.syncChange
  try dsimp only
  with_reducible repeat' first | assumption | apply State.modTraj_kept | apply State.placeEdge_kept | apply State.modEdges_kept | apply State.Kept.ite

theorem State.xkPower_kept {q s a1 a2} (hs : State.Kept q s) : State.Kept q (State.xkPower s a1 a2) := by
  unfold State.xkPower
  try dsimp only
  with_reducible repeat' first | assumption | apply State.xkTo_kept | apply State.modChan_kept

theorem State.placeRise_kept {q s a1 a2 a3} (hs : State.Kept q s) : State.Kept q (State.placeRise s a1 a2 a3).2 := by
  unfold State.placeRise
  try dsimp only
  with_reducible repeat' first
      | assumption | apply State.gateTime_kept | (refine State.gateTime_kept_eq (by assumption) ?_) | apply State.placeEdge_kept
      | apply State.modTraj_kept

theorem State.placeRise_kept_eq {q s a1 a2 a3 w t} (e : State.placeRise s a1 a2 a3 = (w, t)) (hs : State.Kept q s) : State.Kept q t := by
  have h : State.Kept q (State.placeRise s a1 a2 a3).2 := State.placeRise_kept hs
  rw [e] at h
  exact h

theorem State.xkLit_kept {q s a1 a2 a3 a4 a5} (hs : State.Kept q s) : State.Kept q (State.xkLit s a1 a2 a3 a4 a5) := by
  unfold State.xkLit
  try dsimp only
  with_reducible repeat' first
      | assumption | apply State.xkTo_kept | apply State.xkAt_kept | apply State.xkEndSeq_kept | apply State.xkStart_kept | apply State.addPause_kept
      | apply State.modChange_kept | apply State.syncChange_kept | apply State.xkPower_kept | apply State.addSeg_kept | apply State.modTraj_kept
      | apply State.placeRise_kept | (refine State.placeRise_kept_eq (by assumption) ?_) | apply State.modChan_kept | apply State.Kept.ite | intro _
      | split

theorem State.xkTravel_kept {q s a1 a2 a3} (hs : State.Kept q s) : State.Kept q (State.xkTravel s a1 a2 a3) := by
  unfold State.xkTravel
  try dsimp only
  with_reducible repeat' first
      | assumption | apply State.xkStart_kept | apply State.xkEndSeq_kept | apply State.xkAt_kept | apply State.xkTo_kept
      | apply State.syncChange_kept | apply State.xkPower_kept | apply State.addSeg_kept | apply State.addPause_kept | apply State.modChan_kept

theorem State.xkStroke_kept {q s a1 a2 a3 a4 a5} (hs : State.Kept q s) : State.Kept q (State.xkStroke s a1 a2 a3 a4 a5) := by
  unfold State.xkStroke
  try dsimp only
  with_reducible repeat' first
      | assumption | apply State.xkCmd_kept | apply State.xkAt_kept | apply State.xkLit_kept | apply State.modChan_kept | apply State.xkGo_kept
      | apply State.xkEndSeq_kept | apply State.xkTravel_kept | apply State.Kept.ite | intro _

theorem State.inputAgain_kept {q s a1} (hs : State.Kept q s) : State.Kept q (State.inputAgain s a1) := by
  unfold State.inputAgain
  try dsimp only
  with_reducible repeat' first | assumption | apply State.setFlag_kept | apply State.modTraj_kept | apply State.Kept.ite

theorem State.inputsAgain_kept {q s} (hs : State.Kept q s) : State.Kept q (State.inputsAgain s) := by
  unfold State.inputsAgain
  try dsimp only
  with_reducible repeat' first | assumption | (apply State.Kept.forEach; intro _ _ _) | apply State.inputAgain_kept

theorem State.inReset_kept {q s a1} (hs : State.Kept q s) : State.Kept q (State.inReset s a1) := by
  unfold State.inReset
  refine State.inputsAgain_kept (State.Kept.engs hs fun e => ?_)
  rw [Fin.getElem_fin, Vector.getElem_ofFn]
  exact hs.engOk e

theorem State.layerResult_kept {q s a1} (hs : State.Kept q s) : State.Kept q (State.layerResult s a1) := by
  unfold State.layerResult
  try dsimp only
  with_reducible repeat' first | assumption | apply State.put_kept

theorem State.searchAgain_kept {q s} (hs : State.Kept q s) : State.Kept q (State.searchAgain s) := by
  unfold State.searchAgain
  try dsimp only
  with_reducible repeat' first | assumption | (apply State.Kept.forEach; intro _ _ _) | apply State.modArb_kept

theorem State.incSheafDone_kept {q s a1} (hs : State.Kept q s) : State.Kept q (State.incSheafDone s a1) := by
  unfold State.incSheafDone
  try dsimp only
  with_reducible repeat' first
      | assumption | apply State.Kept.ite | (refine State.Kept.silo ?_ ?_; first | assumption) | intro _ | split | exact True.intro
      | apply MemR.wf_setBytes | apply MemR.wf_setByte | apply MemR.wf_write | rw [MemR.renew_cells] | rw [MemR.correct_cells]
      | refine State.Kept.siloWf (q := q) ?_

theorem State.setDone_kept {q s a1} (hs : State.Kept q s) : State.Kept q (State.setDone s a1) := by
  unfold State.setDone
  try dsimp only
  with_reducible repeat' first
      | assumption | apply State.incSheafDone_kept | apply State.Kept.ite | (refine State.Kept.silo ?_ ?_; first | assumption) | intro _ | split
      | exact True.intro | apply MemR.wf_setBytes | apply MemR.wf_setByte | apply MemR.wf_write | rw [MemR.renew_cells] | rw [MemR.correct_cells]
      | refine State.Kept.siloWf (q := q) ?_

theorem execWaive_kept {q a0 s} (hs : State.Kept q s) : OutKept q (execWaive a0 s) := by
  unfold execWaive
  try dsimp only
  with_reducible repeat' first
      | assumption | apply OutKept.next | apply State.layerResult_kept | apply State.searchAgain_kept | apply State.setDone_kept
      | apply State.Kept.ite

theorem State.axResult_kept {q s a1 a2} (hs : State.Kept q s) : State.Kept q (State.axResult s a1 a2) := by
  unfold State.axResult
  try dsimp only
  with_reducible repeat' first | assumption | apply State.put_kept

theorem State.setAxState_kept {q s a1 a2} (hs : State.Kept q s) : State.Kept q (State.setAxState s a1 a2) := by
  unfold State.setAxState
  try dsimp only
  with_reducible repeat' first | assumption | apply State.put_kept

theorem State.axRun_kept {q s a1 a2 a3 a4} (hs : State.Kept q s) : State.Kept q (State.axRun s a1 a2 a3 a4) := by
  unfold State.axRun
  try dsimp only
  with_reducible repeat' first | assumption | apply State.modAxis_kept

theorem State.axFallOne_kept {q s a1} (hs : State.Kept q s) : State.Kept q (State.axFallOne s a1) := by
  unfold State.axFallOne
  try dsimp only
  with_reducible repeat' first
      | assumption | apply State.axRun_kept | apply State.modAxis_kept | apply State.Kept.ite
      | (refine State.Kept.upd ?_; first | assumption | apply State.axRun_kept | apply State.modAxis_kept | apply State.Kept.ite | split)

theorem State.axEvent_kept {q s a1 a2} (hs : State.Kept q s) : State.Kept q (State.axEvent s a1 a2) := by
  unfold State.axEvent
  try dsimp only
  with_reducible repeat' first | assumption | apply State.raise_kept

theorem State.axHalt_kept {q s a1} (hs : State.Kept q s) : State.Kept q (State.axHalt s a1) := by
  unfold State.axHalt
  try dsimp only
  with_reducible repeat' first
      | assumption | apply State.modCell_kept | apply State.modAxis_kept | apply State.axPlace_kept | apply State.Kept.ite
      | (refine State.Kept.upd ?_; first | assumption)

theorem State.axEndNow_kept {q s a1} (hs : State.Kept q s) : State.Kept q (State.axEndNow s a1) := by
  unfold State.axEndNow
  try dsimp only
  with_reducible repeat' first
      | assumption | apply State.modAxis_kept | apply State.setFlag_kept | apply State.setAxState_kept | apply State.axHalt_kept

theorem State.homeFail_kept {q s a1} (hs : State.Kept q s) : State.Kept q (State.homeFail s a1) := by
  unfold State.homeFail
  try dsimp only
  with_reducible repeat' first | assumption | apply State.axEvent_kept | apply State.setFlag_kept

theorem State.limitHit_kept {q s a1} (hs : State.Kept q s) : State.Kept q (State.limitHit s a1) := by
  unfold State.limitHit
  try dsimp only
  with_reducible repeat' first
      | assumption | apply State.axEvent_kept | apply State.setFlag_kept | apply State.axEndNow_kept | apply State.homeFail_kept
      | apply State.Kept.ite

theorem kept_of_ite_some {q} {c : Prop} [Decidable c] {x u : State} (e : (if c then none else some x) = some u) (h : State.Kept q x) :
    State.Kept q u := by
  split at e
  · cases e
  · exact h.some e

theorem State.axStepOne_kept {q s a1 u} (e : State.axStepOne s a1 = some u) (hs : State.Kept q s) : State.Kept q u := by
  unfold State.axStepOne at e
  dsimp only at e
  split at e
  · cases e
  · split at e
    · cases e
    · refine kept_of_ite_some e ?_
      with_reducible repeat' first
          | assumption | apply State.modAxis_kept | apply State.count_kept | apply State.put_kept | apply State.Kept.ite
          | (refine State.Kept.upd ?_; first | assumption | apply State.count_kept | apply State.put_kept | apply State.Kept.ite)

theorem axPumpGo_kept {q} {a1 : Nat} : ∀ {a0 s}, State.Kept q s → State.Kept q (axPumpGo a0 a1 s) := by
  induction a1 with
  | zero =>
    intro a0 s hs
    unfold axPumpGo
    try dsimp only
    with_reducible repeat' first | assumption
  | succ n ih =>
    intro a0 s hs
    unfold axPumpGo
    try dsimp only
    with_reducible repeat' first
        | assumption | (refine State.axStepOne_kept (by assumption) ?_) | apply State.axFallOne_kept | apply ih | apply State.Kept.ite | intro _
        | split

theorem State.axPump_kept {q s a1} (hs : State.Kept q s) : State.Kept q (State.axPump s a1) := by
  unfold State.axPump
  try dsimp only
  with_reducible repeat' first | assumption | apply State.axFallOne_kept | apply State.limitHit_kept | apply axPumpGo_kept | apply State.Kept.ite

theorem State.showCap_kept {q s a1 a2} (hs : State.Kept q s) : State.Kept q (State.showCap s a1 a2) := by
  unfold State.showCap
  try dsimp only
  with_reducible repeat' first | assumption | apply State.setFlag_kept

theorem State.axMove_kept {q s a1 a2 a3} (hs : State.Kept q s) : State.Kept q (State.axMove s a1 a2 a3) := by
  unfold State.axMove
  try dsimp only
  with_reducible repeat' first
      | assumption | apply State.showCap_kept | apply State.setAxState_kept | apply State.modAxis_kept | apply State.axRun_kept

theorem State.axStopAt_kept {q s a1 a2} (hs : State.Kept q s) : State.Kept q (State.axStopAt s a1 a2) := by
  unfold State.axStopAt
  try dsimp only
  with_reducible repeat' first | assumption | apply State.axMove_kept | apply State.axRun_kept

theorem State.axStopFrom_kept {q s a1 a2} (hs : State.Kept q s) : State.Kept q (State.axStopFrom s a1 a2) := by
  unfold State.axStopFrom
  try dsimp only
  with_reducible repeat' first
      | assumption | apply State.modAxis_kept | apply State.setAxState_kept | apply State.axStopAt_kept | apply State.Kept.ite

theorem State.axStop_kept {q s a1} (hs : State.Kept q s) : State.Kept q (State.axStop s a1) := by
  unfold State.axStop
  try dsimp only
  with_reducible repeat' first | assumption | apply State.axStopFrom_kept

theorem State.encSync_kept {q s a1} (hs : State.Kept q s) : State.Kept q (State.encSync s a1) := by
  unfold State.encSync
  try dsimp only
  with_reducible repeat' first | assumption | apply State.modAxis_kept

theorem State.axSetPos_kept {q s a1 a2} (hs : State.Kept q s) : State.Kept q (State.axSetPos s a1 a2) := by
  unfold State.axSetPos
  try dsimp only
  with_reducible repeat' first | assumption | apply State.encSync_kept | apply State.setFlag_kept | apply State.axPlace_kept

theorem State.axNewAcc_kept {q s a1} (hs : State.Kept q s) : State.Kept q (State.axNewAcc s a1) := by
  unfold State.axNewAcc
  try dsimp only
  with_reducible repeat' first | assumption | apply State.modAxis_kept

theorem State.axVel_kept {q s a1 a2 a3} (hs : State.Kept q s) : State.Kept q (State.axVel s a1 a2 a3) := by
  unfold State.axVel
  try dsimp only
  with_reducible repeat' first
      | assumption | apply State.axMove_kept | apply State.showCap_kept | apply State.setAxState_kept | apply State.modAxis_kept
      | apply State.axRun_kept

theorem State.axHomeRun_kept {q s a1 a2 a3 a4 a5 a6} (hs : State.Kept q s) : State.Kept q (State.axHomeRun s a1 a2 a3 a4 a5 a6) := by
  unfold State.axHomeRun
  try dsimp only
  with_reducible repeat' first | assumption | apply State.axMove_kept | apply State.showCap_kept | apply State.modAxis_kept | apply State.axRun_kept

theorem State.axHomeAway_kept {q s a1 a2} (hs : State.Kept q s) : State.Kept q (State.axHomeAway s a1 a2) := by
  unfold State.axHomeAway
  try dsimp only
  with_reducible repeat' first | assumption | apply State.axHomeRun_kept

theorem State.axHome_kept {q s a1 a2} (hs : State.Kept q s) : State.Kept q (State.axHome s a1 a2) := by
  unfold State.axHome
  try dsimp only
  with_reducible repeat' first
      | assumption | apply State.setAxState_kept | apply State.axHomeAway_kept | apply State.axHomeRun_kept | apply State.Kept.ite

theorem State.axBegin_kept {q s a1 a2 a3} (hs : State.Kept q s) : State.Kept q (State.axBegin s a1 a2 a3) := by
  unfold State.axBegin
  try dsimp only
  with_reducible repeat' first
      | assumption | apply State.axNewAcc_kept | apply State.axResult_kept | apply State.axMove_kept | apply State.axVel_kept
      | apply State.axHome_kept | apply State.axSetPos_kept | apply State.Kept.ite | intro _ | split

theorem State.axStart_kept {q s a1 a2 a3} (hs : State.Kept q s) : State.Kept q (State.axStart s a1 a2 a3) := by
  unfold State.axStart
  try dsimp only
  with_reducible repeat' first | assumption | apply State.axBegin_kept | apply State.axStopFrom_kept | apply State.Kept.ite

theorem State.axPend_kept {q s a1 a2} (hs : State.Kept q s) : State.Kept q (State.axPend s a1 a2) := by
  unfold State.axPend
  try dsimp only
  with_reducible repeat' first | assumption | apply State.setFlag_kept | apply State.axResult_kept | apply State.modAxis_kept | apply State.Kept.ite

theorem State.axAct_kept {q s a1 a2} (hs : State.Kept q s) : State.Kept q (State.axAct s a1 a2) := by
  unfold State.axAct
  try dsimp only
  with_reducible repeat' first
      | assumption | apply State.modAxis_kept | apply State.setFlag_kept | apply State.axResult_kept | apply State.axStop_kept
      | apply State.setAxState_kept | apply State.axSetPos_kept | apply State.axStart_kept | apply State.axNewAcc_kept | apply State.axVel_kept
      | apply State.axMove_kept | apply State.axPend_kept | apply State.Kept.ite | intro _ | split

theorem State.axGive_kept {q s a1 a2 a3 a4} (hs : State.Kept q s) : State.Kept q (State.axGive s a1 a2 a3 a4) := by
  unfold State.axGive
  try dsimp only
  with_reducible repeat' first
      | assumption | apply State.axResult_kept | apply State.setAxState_kept | apply State.modAxis_kept | apply State.axPump_kept
      | apply State.axAct_kept | apply State.Kept.ite

theorem State.freeVal_kept {q s a1 a2} (hs : State.Kept q s) : State.Kept q (State.freeVal s a1 a2).2 := by
  unfold State.freeVal
  try dsimp only
  with_reducible repeat' first | assumption | apply State.Kept.ite | (refine State.Kept.upd ?_; first | assumption)

theorem State.freeVal_kept_eq {q s a1 a2 w t} (e : State.freeVal s a1 a2 = (w, t)) (hs : State.Kept q s) : State.Kept q t := by
  have h : State.Kept q (State.freeVal s a1 a2).2 := State.freeVal_kept hs
  rw [e] at h
  exact h

theorem State.xkAxGive_kept {q s a1 a2 a3 a4} (hs : State.Kept q s) : State.Kept q (State.xkAxGive s a1 a2 a3 a4) := by
  unfold State.xkAxGive
  try dsimp only
  with_reducible repeat' first
      | assumption | apply State.axGive_kept | apply State.freeVal_kept | (refine State.freeVal_kept_eq (by assumption) ?_) | apply State.chHalt_kept
      | apply State.axEvent_kept | apply State.xkInt_kept | apply State.Kept.ite

theorem State.xkAxStop_kept {q s a1 a2} (hs : State.Kept q s) : State.Kept q (State.xkAxStop s a1 a2) := by
  unfold State.xkAxStop
  try dsimp only
  with_reducible repeat' first | assumption | apply State.xkCmd_kept | apply State.xkAxGive_kept | apply State.Kept.ite | intro _

theorem execXkAxStop_kept {q a0 a1 s} (hs : State.Kept q s) : OutKept q (execXkAxStop a0 a1 s) := by
  unfold execXkAxStop
  try dsimp only
  with_reducible repeat' first | assumption | apply OutKept.next | apply State.xkAxStop_kept

theorem State.send_kept {q s a1} (hs : State.Kept q s) : State.Kept q (State.send s a1) := by
  unfold State.send
  try dsimp only
  with_reducible repeat' first | assumption | apply State.Kept.ite | (refine State.Kept.upd ?_; first | assumption)

theorem State.xy2Out_kept {q s a1 a2} (hs : State.Kept q s) : State.Kept q (State.xy2Out s a1 a2) := by
  unfold State.xy2Out
  try dsimp only
  with_reducible repeat' first | assumption | apply State.send_kept

theorem State.noteFixes_kept {q s a1} (hs : State.Kept q s) : State.Kept q (State.noteFixes s a1) := by
  unfold State.noteFixes
  try dsimp only
  with_reducible repeat' first | assumption | apply State.Kept.ite | (refine State.Kept.upd ?_; first | assumption)

theorem State.siloFix_kept {q s a1 a2} (hs : State.Kept q s) : State.Kept q (State.siloFix s a1 a2) := by
  unfold State.siloFix
  try dsimp only
  with_reducible repeat' first
      | assumption | apply State.noteFixes_kept | apply State.Kept.ite | (refine State.Kept.silo ?_ ?_; first | assumption) | intro _ | split
      | exact True.intro | apply MemR.wf_setBytes | apply MemR.wf_setByte | apply MemR.wf_write | rw [MemR.renew_cells] | rw [MemR.correct_cells]
      | refine State.Kept.siloWf (q := q) ?_

theorem State.devRead_kept {q s a1 a2} (hs : State.Kept q s) : State.Kept q (State.devRead s a1 a2).2 := by
  unfold State.devRead
  try dsimp only
  with_reducible repeat' first
      | assumption | apply State.freeVal_kept | (refine State.freeVal_kept_eq (by assumption) ?_) | apply State.siloFix_kept | apply State.Kept.ite
      | intro _ | split

theorem State.devRead_kept_eq {q s a1 a2 w t} (e : State.devRead s a1 a2 = (w, t)) (hs : State.Kept q s) : State.Kept q t := by
  have h : State.Kept q (State.devRead s a1 a2).2 := State.devRead_kept hs
  rw [e] at h
  exact h

theorem State.listWord_kept {q s a1} (hs : State.Kept q s) : State.Kept q (State.listWord s a1).2 :=
  Kept_snd_ite (State.devRead_kept hs) (State.freeVal_kept hs)

theorem State.gridWord_kept {q s a1 a2} (hs : State.Kept q s) : State.Kept q (State.gridWord s a1 a2).2 :=
  Kept_snd_ite (State.devRead_kept hs) (State.freeVal_kept hs)

theorem State.viewXk_kept {q s a1 a2 a3} (hs : State.Kept q s) : State.Kept q (State.viewXk s a1 a2 a3).2 := by
  refine Kept_snd_ite hs (Kept_snd_ite hs (Kept_snd_ite hs (Kept_snd_ite hs (Kept_snd_ite hs (Kept_snd_ite hs (Kept_snd_ite hs
   (Kept_snd_ite hs (Kept_snd_ite hs (Kept_snd_ite hs (Kept_snd_ite ?_ (Kept_snd_ite (Kept_snd_ite ?_ hs) hs)))))))))))
  · exact State.Kept.pair (State.listWord_kept hs)
  · exact State.Kept.pair (State.gridWord_kept hs)

theorem State.viewWord_kept {q s a1 a2} (hs : State.Kept q s) : State.Kept q (State.viewWord s a1 a2).2 := by
  unfold State.viewWord
  generalize (a2 - regBase) / 0x10000 = n
  generalize a2 % 0x10000 = m
  generalize a2 % 0x800 / 4 = m'
  split <;> try exact hs
  refine Kept_snd_ite hs (Kept_snd_ite ?_ hs)
  exact State.viewXk_kept hs

theorem State.latchNow_kept {q s a1} (hs : State.Kept q s) : State.Kept q (State.latchNow s a1) := by
  unfold State.latchNow
  try dsimp only
  with_reducible repeat' first | assumption | apply State.Kept.ite | (refine State.Kept.upd ?_; first | assumption)

theorem State.modGran_kept {q s a1} (hs : State.Kept q s) : State.Kept q (State.modGran s a1) := by
  unfold State.modGran
  try dsimp only
  with_reducible repeat' first | assumption | apply State.Kept.ite | (refine State.Kept.upd ?_; first | assumption)

theorem State.latchOp_kept {q s a1} (hs : State.Kept q s) : State.Kept q (State.latchOp s a1) := by
  unfold State.latchOp
  try dsimp only
  with_reducible repeat' first | assumption | apply State.modGran_kept

theorem State.latchOfs_kept {q s a1} (hs : State.Kept q s) : State.Kept q (State.latchOfs s a1) := by
  unfold State.latchOfs
  try dsimp only
  with_reducible repeat' first | assumption | apply State.put_kept

theorem State.capPop_kept {q s a1} (hs : State.Kept q s) : State.Kept q (State.capPop s a1) := by
  unfold State.capPop
  try dsimp only
  with_reducible repeat' first | assumption | apply State.modCell_kept | apply State.Kept.ite

theorem State.latchTick_kept {q s a1} (hs : State.Kept q s) : State.Kept q (State.latchTick s a1) := by
  unfold State.latchTick
  try dsimp only
  with_reducible repeat' first | assumption | apply State.Kept.ite | (refine State.Kept.upd ?_; first | assumption)

theorem State.latchXpos_kept {q s a1 a2} (hs : State.Kept q s) : State.Kept q (State.latchXpos s a1 a2) := by
  unfold State.latchXpos
  try dsimp only
  with_reducible repeat' first | assumption | apply State.Kept.ite | (refine State.Kept.upd ?_; first | assumption)

theorem State.listStep_kept {q s} (hs : State.Kept q s) : State.Kept q (State.listStep s) := by
  unfold State.listStep
  try dsimp only
  with_reducible repeat' first | assumption | apply State.put_kept

theorem State.corrStep_kept {q s} (hs : State.Kept q s) : State.Kept q (State.corrStep s) := by
  unfold State.corrStep
  try dsimp only
  with_reducible repeat' first | assumption | apply State.put_kept

theorem State.xkWordSeen_kept {q s a1 a2} (hs : State.Kept q s) : State.Kept q (State.xkWordSeen s a1 a2) := by
  unfold State.xkWordSeen
  try dsimp only
  with_reducible repeat' first
      | assumption | apply State.latchTick_kept | apply State.latchXpos_kept | apply State.listStep_kept | apply State.corrStep_kept
      | apply State.Kept.ite

theorem State.seen_kept {q s a1 a2} (hs : State.Kept q s) : State.Kept q (State.seen s a1 a2) := by
  unfold State.seen
  try dsimp only
  with_reducible repeat' first
      | assumption | apply State.latchNow_kept | apply State.latchOp_kept | apply State.latchOfs_kept | apply State.capPop_kept
      | apply State.xkWordSeen_kept | apply State.Kept.ite
      | (refine State.Kept.upd ?_; first | assumption | apply State.latchNow_kept | apply State.latchOp_kept | apply State.latchOfs_kept | apply State.capPop_kept | apply State.xkWordSeen_kept | apply State.Kept.ite | split)

theorem State.regRead_kept {q s a1 a2 w u} (e : State.regRead s a1 a2 = some (w, u)) (hs : State.Kept q s) : State.Kept q u := by
  unfold State.regRead at e
  dsimp only at e
  split at e
  · cases e
  · split at e
    · cases e; exact hs
    · have h := State.viewWord_kept (a1 := a1) (a2 := a2) hs
      revert e h
      generalize State.viewWord s a1 a2 = p
      intro e h
      cases e
      exact State.seen_kept h

theorem execEvtLastDataRead_kept {q a0 a1 s} (hs : State.Kept q s) : OutKept q (execEvtLastDataRead a0 a1 s) := by
  unfold execEvtLastDataRead
  try dsimp only
  with_reducible repeat' first
      | assumption | apply OutKept.next | (refine State.regRead_kept (by assumption) ?_) | apply State.Kept.ite | intro _ | split

theorem State.setLy_kept {q s a1} (hs : State.Kept q s) : State.Kept q (State.setLy s a1) := by
  unfold State.setLy
  try dsimp only
  with_reducible repeat' first | assumption | apply State.put_kept

theorem State.enterLy_kept {q s a1} (hs : State.Kept q s) : State.Kept q (State.enterLy s a1) := by
  unfold State.enterLy
  try dsimp only
  with_reducible repeat' first
      | assumption | apply State.setLy_kept | apply State.setFlag_kept | apply State.Kept.ite
      | (refine State.Kept.upd ?_; first | assumption | apply State.setLy_kept | apply State.setFlag_kept)

theorem State.xkCall_kept {q s a1 a2} (hs : State.Kept q s) : State.Kept q (State.xkCall s a1 a2) := by
  unfold State.xkCall
  try dsimp only
  with_reducible repeat' first
      | assumption | apply State.xkCmd_kept | apply State.xkAt_kept | apply State.chHalt_kept | apply State.xkGo_kept | apply State.modChan_kept
      | apply State.Kept.ite | intro _

theorem State.xkStop_kept {q s a1} (hs : State.Kept q s) : State.Kept q (State.xkStop s a1) := by
  unfold State.xkStop
  try dsimp only
  with_reducible repeat' first | assumption | apply State.modChan_kept | apply State.Kept.ite

theorem State.xkStopAll_kept {q s} (hs : State.Kept q s) : State.Kept q (State.xkStopAll s) := by
  unfold State.xkStopAll
  try dsimp only
  with_reducible repeat' first | assumption | (apply State.Kept.forEach; intro _ _ _) | apply State.xkStop_kept

theorem execXkStopAll_kept {q a0 s} (hs : State.Kept q s) : OutKept q (execXkStopAll a0 s) := by
  unfold execXkStopAll
  try dsimp only
  with_reducible repeat' first | assumption | apply OutKept.next | apply State.xkStopAll_kept

theorem State.showLeff_kept {q s} (hs : State.Kept q s) : State.Kept q (State.showLeff s) := by
  unfold State.showLeff
  try dsimp only
  with_reducible repeat' first | assumption | apply State.put_kept

theorem State.axBandStop_kept {q s} (hs : State.Kept q s) : State.Kept q (State.axBandStop s) := by
  unfold State.axBandStop
  try dsimp only
  with_reducible repeat' first | assumption | (apply State.Kept.forEach; intro _ _ _) | apply State.axPump_kept | apply State.axStop_kept

theorem State.pauseB4_kept {q s} (hs : State.Kept q s) : State.Kept q (State.pauseB4 s) := by
  unfold State.pauseB4
  try dsimp only
  with_reducible repeat' first
      | assumption | (apply State.Kept.forEach; intro _ _ _) | apply State.chHalt_kept | apply State.axBandStop_kept | apply State.suspendAll_kept
      | apply State.Kept.ite

theorem State.resumeBeam_kept {q s a1} (hs : State.Kept q s) : State.Kept q (State.resumeBeam s a1) := by
  unfold State.resumeBeam
  try dsimp only
  with_reducible repeat' first | assumption | apply State.modSwath_kept | apply State.Kept.ite | intro _ | split

theorem State.resumeAll_kept {q s} (hs : State.Kept q s) : State.Kept q (State.resumeAll s) := by
  unfold State.resumeAll
  try dsimp only
  with_reducible repeat' first | assumption | (apply State.Kept.forEach; intro _ _ _) | apply State.resumeBeam_kept

theorem State.setBand_kept {q s a1} (hs : State.Kept q s) : State.Kept q (State.setBand s a1) := by
  unfold State.setBand
  try dsimp only
  with_reducible repeat' first
      | assumption | apply State.count_kept | apply State.setFlag_kept | apply State.put_kept | apply State.raise_kept | apply State.showLeff_kept
      | apply State.pauseB4_kept | apply State.searchAgain_kept | apply State.resumeAll_kept | apply State.Kept.ite

theorem State.enterRecoat_kept {q s} (hs : State.Kept q s) : State.Kept q (State.enterRecoat s) := by
  unfold State.enterRecoat
  try dsimp only
  with_reducible repeat' first | assumption | apply State.raise_kept | apply State.enterLy_kept

theorem State.barrierDone_kept {q s} (hs : State.Kept q s) : State.Kept q (State.barrierDone s) := by
  unfold State.barrierDone
  try dsimp only
  with_reducible repeat' first
      | assumption | apply State.enterRecoat_kept | apply State.Kept.ite
      | (refine State.Kept.upd ?_; first | assumption | apply State.enterRecoat_kept)

theorem execLayerLocalEnd_kept {q s} (hs : State.Kept q s) : OutKept q (execLayerLocalEnd s) := by
  unfold execLayerLocalEnd
  try dsimp only
  with_reducible repeat' first
      | assumption | apply OutKept.next | apply State.raise_kept | apply State.enterLy_kept | apply State.enterRecoat_kept
      | apply State.barrierDone_kept | apply State.Kept.ite

theorem State.touch_kept {q s a1} (hs : State.Kept q s) : State.Kept q (State.touch s a1) := by
  unfold State.touch
  try dsimp only
  with_reducible repeat' first | assumption | apply State.Kept.ite | (refine State.Kept.upd ?_; first | assumption)

theorem State.joinWindow_kept {q s a1} (hs : State.Kept q s) : State.Kept q (State.joinWindow s a1) := by
  unfold State.joinWindow
  try dsimp only
  with_reducible repeat' first
      | assumption | apply State.touch_kept | apply State.Kept.ite | (refine State.Kept.upd ?_; first | assumption | apply State.touch_kept)

theorem execReservationLapse_kept {q a0 s} (hs : State.Kept q s) : OutKept q (execReservationLapse a0 s) := by
  unfold execReservationLapse
  try dsimp only
  with_reducible repeat' first
      | assumption | apply OutKept.next | apply State.unblock_kept | apply State.modArb_kept | apply State.Kept.ite | intro _ | split

theorem State.modFab_kept {q s a1} (hs : State.Kept q s) : State.Kept q (State.modFab s a1) := by
  unfold State.modFab
  try dsimp only
  with_reducible repeat' first | assumption | apply State.Kept.ite | (refine State.Kept.upd ?_; first | assumption)

theorem State.showRoute_kept {q s a1} (hs : State.Kept q s) : State.Kept q (State.showRoute s a1) := by
  unfold State.showRoute
  try dsimp only
  with_reducible repeat' first | assumption | apply State.Kept.ite | apply State.Kept.setReg

theorem State.modLane_kept {q s a1 a2} (hs : State.Kept q s) : State.Kept q (State.modLane s a1 a2) := by
  unfold State.modLane
  try dsimp only
  with_reducible repeat' first | assumption | apply State.Kept.ite | (refine State.Kept.upd ?_; first | assumption)

theorem State.linkSend_kept {q s a1 a2 a3 a4 a5} (hs : State.Kept q s) : State.Kept q (State.linkSend s a1 a2 a3 a4 a5) := by
  unfold State.linkSend
  try dsimp only
  with_reducible repeat' first | assumption | apply State.modLane_kept

theorem State.portSend_kept {q s a1 a2 a3 a4} (hs : State.Kept q s) : State.Kept q (State.portSend s a1 a2 a3 a4) := by
  unfold State.portSend
  try dsimp only
  with_reducible repeat' first | assumption | apply State.linkSend_kept | apply State.Kept.ite | intro _ | split

theorem State.sendOn_kept {q s a1 a2 a3 a4 a5 a6 a7} (hs : State.Kept q s) : State.Kept q (State.sendOn s a1 a2 a3 a4 a5 a6 a7) := by
  unfold State.sendOn
  try dsimp only
  with_reducible repeat' first | assumption | apply State.portSend_kept | apply State.Kept.ite | intro _ | split

theorem State.flSend_kept {q s a1 a2 a3 a4 a5} (hs : State.Kept q s) : State.Kept q (State.flSend s a1 a2 a3 a4 a5) := by
  unfold State.flSend
  try dsimp only
  with_reducible repeat' first | assumption | apply State.sendOn_kept | apply State.Kept.ite

theorem State.flManage_kept {q s a1 a2 a3 a4 a5} (hs : State.Kept q s) : State.Kept q (State.flManage s a1 a2 a3 a4 a5) := by
  unfold State.flManage
  try dsimp only
  with_reducible repeat' first | assumption | apply State.flSend_kept

theorem State.sendLease_kept {q s a1 a2 a3 a4 a5 a6} (hs : State.Kept q s) : State.Kept q (State.sendLease s a1 a2 a3 a4 a5 a6) := by
  unfold State.sendLease
  try dsimp only
  with_reducible repeat' first | assumption | apply State.flSend_kept

theorem State.sendPeer_kept {q s a1 a2 a3 a4 a5 a6} (hs : State.Kept q s) : State.Kept q (State.sendPeer s a1 a2 a3 a4 a5 a6) := by
  unfold State.sendPeer
  try dsimp only
  with_reducible repeat' first | assumption | apply State.sendLease_kept

theorem State.sendGeom_kept {q s a1} (hs : State.Kept q s) : State.Kept q (State.sendGeom s a1) := by
  unfold State.sendGeom
  try dsimp only
  with_reducible repeat' first | assumption | apply State.sendPeer_kept

theorem State.peersFollow_kept {q s} (hs : State.Kept q s) : State.Kept q (State.peersFollow s) := by
  unfold State.peersFollow
  try dsimp only
  with_reducible repeat' first
      | assumption | (apply State.Kept.forEach; intro _ _ _) | apply State.sendGeom_kept | apply State.put_kept | apply State.Kept.ite
      | (refine State.Kept.upd ?_; first | assumption)

theorem State.setPaths_kept {q s a1} (hs : State.Kept q s) : State.Kept q (State.setPaths s a1) := by
  unfold State.setPaths
  try dsimp only
  with_reducible repeat' first
      | assumption | apply State.modFab_kept | (apply State.Kept.forEach; intro _ _ _) | apply State.showRoute_kept | apply State.put_kept
      | apply State.raise_kept | apply State.peersFollow_kept | apply State.Kept.ite

theorem State.lnEvent_kept {q s a1 a2 a3} (hs : State.Kept q s) : State.Kept q (State.lnEvent s a1 a2 a3) := by
  unfold State.lnEvent
  try dsimp only
  with_reducible repeat' first | assumption | apply State.raise_kept

theorem State.headEvent_kept {q s a1 a2 a3 a4} (hs : State.Kept q s) : State.Kept q (State.headEvent s a1 a2 a3 a4) := by
  unfold State.headEvent
  try dsimp only
  with_reducible repeat' first | assumption | apply State.raise_kept | apply State.Kept.ite

theorem State.camEvent_kept {q s a1 a2 a3} (hs : State.Kept q s) : State.Kept q (State.camEvent s a1 a2 a3) := by
  unfold State.camEvent
  try dsimp only
  with_reducible repeat' first | assumption | apply State.raise_kept

theorem State.showFill_kept {q s a1} (hs : State.Kept q s) : State.Kept q (State.showFill s a1) := by
  unfold State.showFill
  try dsimp only
  with_reducible repeat' first | assumption | apply State.put_kept

theorem State.modStream_kept {q s a1 a2} (hs : State.Kept q s) : State.Kept q (State.modStream s a1 a2) := by
  unfold State.modStream
  try dsimp only
  with_reducible repeat' first | assumption | apply State.Kept.ite | (refine State.Kept.upd ?_; first | assumption)

theorem State.freeSlot_kept {q s a1 a2} (hs : State.Kept q s) : State.Kept q (State.freeSlot s a1 a2) := by
  unfold State.freeSlot
  try dsimp only
  with_reducible repeat' first | assumption | apply State.showFill_kept | apply State.modStream_kept

theorem State.modPipe_kept {q s a1 a2} (hs : State.Kept q s) : State.Kept q (State.modPipe s a1 a2) := by
  unfold State.modPipe
  try dsimp only
  with_reducible repeat' first | assumption | apply State.Kept.ite | (refine State.Kept.upd ?_; first | assumption)

theorem State.killUnit_kept {q s a1 a2} (hs : State.Kept q s) : State.Kept q (State.killUnit s a1 a2) := by
  unfold State.killUnit
  try dsimp only
  with_reducible repeat' first | assumption | (apply State.Kept.forEach; intro _ _ _) | apply State.modPipe_kept

theorem State.dropLanding_kept {q s a1 a2} (hs : State.Kept q s) : State.Kept q (State.dropLanding s a1 a2) := by
  unfold State.dropLanding
  try dsimp only
  with_reducible repeat' first
      | assumption | apply State.showFill_kept | apply State.freeSlot_kept | apply State.killUnit_kept | apply State.modStream_kept
      | apply State.camEvent_kept | apply State.count_kept | apply State.Kept.ite | intro _ | split

theorem State.camLaneDown_kept {q s a1} (hs : State.Kept q s) : State.Kept q (State.camLaneDown s a1) := by
  unfold State.camLaneDown
  try dsimp only
  with_reducible repeat' first
      | assumption | apply State.camEvent_kept | apply State.setFlag_kept | apply State.dropLanding_kept | apply State.Kept.ite | intro _ | split

theorem State.retire_kept {q s a1 a2} (hs : State.Kept q s) : State.Kept q (State.retire s a1 a2) := by
  unfold State.retire
  try dsimp only
  with_reducible repeat' first
      | assumption | apply State.addMark_kept | apply State.modArb_kept | apply State.stopWith_kept | apply State.withdraw_kept
      | apply State.Kept.ite

theorem State.wakeDomain_kept {q s a1} (hs : State.Kept q s) : State.Kept q (State.wakeDomain s a1) := by
  unfold State.wakeDomain
  try dsimp only
  with_reducible repeat' first | assumption | apply State.touch_kept | apply State.put_kept | apply State.Kept.ite

theorem State.sendHello_kept {q s a1} (hs : State.Kept q s) : State.Kept q (State.sendHello s a1) := by
  unfold State.sendHello
  try dsimp only
  with_reducible repeat' first | assumption | apply State.modFab_kept | apply State.portSend_kept | apply State.wakeDomain_kept

theorem State.setAdj_kept {q s a1 a2} (hs : State.Kept q s) : State.Kept q (State.setAdj s a1 a2) := by
  unfold State.setAdj
  try dsimp only
  with_reducible repeat' first | assumption | apply State.sendHello_kept | apply State.modFab_kept | apply State.Kept.ite

theorem State.portWentDown_kept {q s a1} (hs : State.Kept q s) : State.Kept q (State.portWentDown s a1) := by
  unfold State.portWentDown
  try dsimp only
  with_reducible repeat' first | assumption | apply State.setAdj_kept

theorem State.leftUp_kept {q s a1 a2} (hs : State.Kept q s) : State.Kept q (State.leftUp s a1 a2) := by
  unfold State.leftUp
  try dsimp only
  with_reducible repeat' first
      | assumption | apply State.lnEvent_kept | apply State.setFlag_kept | apply State.headEvent_kept | apply State.put_kept
      | apply State.modTraj_kept | apply State.camLaneDown_kept | apply State.retire_kept | apply State.suspendBeam_kept
      | apply State.portWentDown_kept | apply State.Kept.ite
      | (refine State.Kept.upd ?_; first | assumption | apply State.lnEvent_kept | apply State.setFlag_kept | apply State.headEvent_kept | apply State.put_kept | apply State.modTraj_kept | apply State.camLaneDown_kept | apply State.retire_kept | apply State.suspendBeam_kept | apply State.portWentDown_kept | apply State.Kept.ite | split)

theorem State.enterLane_kept {q s a1 a2} (hs : State.Kept q s) : State.Kept q (State.enterLane s a1 a2) := by
  unfold State.enterLane
  try dsimp only
  with_reducible repeat' first | assumption | apply State.modLane_kept | apply State.put_kept | apply State.leftUp_kept | apply State.Kept.ite

theorem State.enterSeek_kept {q s a1} (hs : State.Kept q s) : State.Kept q (State.enterSeek s a1) := by
  unfold State.enterSeek
  try dsimp only
  with_reducible repeat' first
      | assumption | apply State.freeVal_kept | (refine State.freeVal_kept_eq (by assumption) ?_) | apply State.enterLane_kept
      | apply State.modLane_kept

theorem State.enterOff_kept {q s a1} (hs : State.Kept q s) : State.Kept q (State.enterOff s a1) := by
  unfold State.enterOff
  try dsimp only
  with_reducible repeat' first | assumption | apply State.modLane_kept | apply State.enterLane_kept

theorem State.lnUnretire_kept {q s a1} (hs : State.Kept q s) : State.Kept q (State.lnUnretire s a1) := by
  unfold State.lnUnretire
  try dsimp only
  with_reducible repeat' first | assumption | apply State.enterSeek_kept | apply State.modLane_kept | apply State.enterOff_kept | apply State.Kept.ite

theorem State.xkLightLag_kept {q s a1 a2} (hs : State.Kept q s) : State.Kept q (State.xkLightLag s a1 a2) := by
  unfold State.xkLightLag
  try dsimp only
  with_reducible repeat' first | assumption | apply State.xkCmd_kept | apply State.modChan_kept | apply State.Kept.ite | intro _

theorem State.gcellDir_kept {q s a1 a2} (hs : State.Kept q s) : State.Kept q (State.gcellDir s a1 a2) := by
  unfold State.gcellDir
  try dsimp only
  with_reducible repeat' first | assumption | apply State.modCell_kept | apply State.Kept.ite | (refine State.Kept.upd ?_; first | assumption)

theorem State.plainWrite_kept {q s a1 a2 a3} (hs : State.Kept q s) : State.Kept q (State.plainWrite s a1 a2 a3) := by
  unfold State.plainWrite
  try dsimp only
  with_reducible repeat' first | assumption | apply State.Kept.ite | apply State.Kept.setReg

theorem State.gcellCfgWrite_kept {q s a1 a2 a3} (hs : State.Kept q s) : State.Kept q (State.gcellCfgWrite s a1 a2 a3) := by
  unfold State.gcellCfgWrite
  try dsimp only
  with_reducible repeat' first | assumption | apply State.gcellDir_kept | apply State.plainWrite_kept

theorem State.beamFault_kept {q s a1 a2 a3} (hs : State.Kept q s) : State.Kept q (State.beamFault s a1 a2 a3) := by
  unfold State.beamFault
  try dsimp only
  with_reducible repeat' first | assumption | apply State.outcomes_kept | apply State.addMark_kept | apply State.raise_kept | apply State.Kept.ite

theorem State.engFault_kept {q s a1 a2 a3} (hs : State.Kept q s) : State.Kept q (State.engFault s a1 a2 a3) := by
  unfold State.engFault
  try dsimp only
  with_reducible repeat' first
      | assumption | apply State.setFlag_kept | apply State.put_kept | apply State.wdogSync_kept | (refine State.modEng_kept ?_ fun x hx => ?_)
      | apply State.retire_kept | apply State.beamFault_kept | apply State.stopBeam_kept | apply State.raise_kept | apply State.Kept.ite
      | (refine State.Kept.upd ?_; first | assumption | apply State.setFlag_kept | apply State.put_kept | apply State.wdogSync_kept | (refine State.modEng_kept ?_ fun x hx => ?_) | apply State.retire_kept | apply State.beamFault_kept | apply State.stopBeam_kept | apply State.raise_kept | apply State.Kept.ite | split)
      | intro _ | split | exact hx | apply Engine.Ok.upd

theorem State.enterException_kept {q s a1 a2 a3 a4} (hs : State.Kept q s) : State.Kept q (State.enterException s a1 a2 a3 a4) := by
  unfold State.enterException
  try dsimp only
  with_reducible repeat' first
      | assumption | (refine State.modEng_kept ?_ fun x hx => ?_) | apply State.engFault_kept | apply State.Kept.ite | intro _ | split | exact hx
      | apply Engine.Ok.upd

theorem State.wdogReload_kept {q s a1} (hs : State.Kept q s) : State.Kept q (State.wdogReload s a1) := by
  unfold State.wdogReload
  try dsimp only
  with_reducible repeat' first
      | assumption | (refine State.modEng_kept ?_ fun x hx => ?_) | apply State.Kept.ite | intro _ | split | exact hx | apply Engine.Ok.upd

theorem State.wdogTaken_kept {q s a1} (hs : State.Kept q s) : State.Kept q (State.wdogTaken s a1) := by
  unfold State.wdogTaken
  try dsimp only
  with_reducible repeat' first
      | assumption | (refine State.modEng_kept ?_ fun x hx => ?_) | apply State.engFault_kept | apply State.wdogReload_kept
      | apply State.enterException_kept | apply State.Kept.ite | intro _ | split | exact hx | apply Engine.Ok.upd

theorem State.takeException_kept {q s a1 a2 a3 a4} (hs : State.Kept q s) : State.Kept q (State.takeException s a1 a2 a3 a4) := by
  unfold State.takeException
  try dsimp only
  with_reducible repeat' first
      | assumption | apply State.engFault_kept | apply State.gateFall_kept | apply State.stopWith_kept | apply State.enterException_kept
      | apply State.Kept.ite | intro _ | split

theorem State.syncExc_kept {q s a1 a2 a3} (hs : State.Kept q s) : State.Kept q (State.syncExc s a1 a2 a3) := by
  unfold State.syncExc
  try dsimp only
  with_reducible repeat' first | assumption | apply State.takeException_kept

theorem State.leaseViolation_kept {q s a1} (hs : State.Kept q s) : State.Kept q (State.leaseViolation s a1) := by
  unfold State.leaseViolation
  try dsimp only
  with_reducible repeat' first
      | assumption | apply State.modBeam_kept | apply State.enterException_kept | apply State.gateFall_kept | apply State.syncExc_kept
      | apply State.Kept.ite

theorem State.starve_kept {q s a1} (hs : State.Kept q s) : State.Kept q (State.starve s a1) := by
  unfold State.starve
  try dsimp only
  with_reducible repeat' first | assumption | apply State.endSequence_kept | apply State.count_kept

theorem State.toDispatch_kept {q s a1} (hs : State.Kept q s) : State.Kept q (State.toDispatch s a1) := by
  unfold State.toDispatch
  try dsimp only
  with_reducible repeat' first
      | assumption | (refine State.modEng_kept ?_ fun x hx => ?_) | apply State.modBeam_kept | apply State.owesSearch_kept
      | apply State.wdogSync_kept | apply State.Kept.ite | intro _ | split | exact hx | apply Engine.Ok.upd

theorem State.normalEnd_kept {q s a1} (hs : State.Kept q s) : State.Kept q (State.normalEnd s a1) := by
  unfold State.normalEnd
  try dsimp only
  with_reducible repeat' first
      | assumption | apply State.starve_kept | apply State.endSequence_kept | apply State.giveUpLease_kept | apply State.swathOver_kept
      | apply State.pump_kept | apply State.modSwath_kept | apply State.toDispatch_kept | apply State.Kept.ite | intro _ | split

theorem State.localFix_kept {q s a1 a2 a3} (hs : State.Kept q s) : State.Kept q (State.localFix s a1 a2 a3) := by
  unfold State.localFix
  dsimp only
  refine State.Kept.upd (State.modEng_kept hs fun x _ => ?_)
  exact Engine.Ok.mem (m := s.eng[a1].mem.correct a2 a3) (hs.engOk a1).wf

theorem State.fetchFix_kept {q s a1} (hs : State.Kept q s) : State.Kept q (State.fetchFix s a1) := by
  unfold State.fetchFix
  try dsimp only
  with_reducible repeat' first | assumption | apply State.localFix_kept | apply State.siloFix_kept | apply State.Kept.ite

theorem State.runBody_kept {q s a1 a2 a3 a4 a5} (hs : State.Kept q s) (hf : ∀ s, State.Kept q s → Eff.Kept q (a5 s)) : State.Kept q (State.runBody s a1 a2 a3 a4 a5) := by
  unfold State.runBody
  try dsimp only
  with_reducible repeat' first
      | assumption | apply State.leaseViolation_kept | apply State.normalEnd_kept | apply State.syncExc_kept | apply State.fetchFix_kept
      | (refine State.modEng_kept ?_ fun x hx => ?_) | apply State.wakeDomain_kept | (refine Eff.Kept.of_done (by assumption) ?_)
      | (refine Eff.Kept.of_jump (by assumption) ?_) | (refine Eff.Kept.of_hold (by assumption) ?_) | apply hf | apply State.Kept.ite | intro _
      | split | exact hx | apply Engine.Ok.upd

theorem State.runEng_kept {q s a1 a2 a3 a4 a5} (hs : State.Kept q s) (hf : ∀ s, State.Kept q s → Eff.Kept q (a5 s)) : State.Kept q (State.runEng s a1 a2 a3 a4 a5) := by
  unfold State.runEng
  try dsimp only
  with_reducible repeat' first
      | assumption | apply State.enterException_kept | (refine State.modEng_kept ?_ fun x hx => ?_) | apply State.wdogTaken_kept
      | apply State.wakeDomain_kept | apply State.runBody_kept | (apply State.Kept.forEach; intro _ _ _) | apply State.touch_kept | apply hf
      | apply State.Kept.ite | apply Eff.Kept.done | intro _ | split | exact hx | apply Engine.Ok.upd

theorem State.runBeam_kept {q s a1 a2 a3 a4 a5 a6} (hs : State.Kept q s) (hf : ∀ b s, State.Kept q s → Eff.Kept q (a5 b s)) : State.Kept q (State.runBeam s a1 a2 a3 a4 a5 a6) := by
  unfold State.runBeam
  try dsimp only
  with_reducible repeat' first
      | assumption | apply State.runEng_kept | apply State.leaseViolation_kept | apply hf | apply State.Kept.ite | apply Eff.Kept.done
      | apply Eff.Kept.jump | apply Eff.Kept.hold | apply Eff.Kept.exc | apply Eff.Kept.stall | apply Eff.Kept.ite
      | (refine State.Kept.upd ?_; first | assumption | apply State.runEng_kept | apply State.leaseViolation_kept | apply hf | apply State.Kept.ite | apply Eff.Kept.done | apply Eff.Kept.jump | apply Eff.Kept.hold | apply Eff.Kept.exc | apply Eff.Kept.stall | apply Eff.Kept.ite | split)
      | intro _ | split

theorem State.setV_kept {q s a1 a2} (hs : State.Kept q s) : State.Kept q (State.setV s a1 a2) := by
  unfold State.setV
  try dsimp only
  with_reducible repeat' first
      | assumption | (refine State.modEng_kept ?_ fun x hx => ?_) | apply State.Kept.ite | intro _ | split | exact hx | apply Engine.Ok.upd

theorem execLoopsel_kept {q a0 a1 a2 a3 a4 s} (hs : State.Kept q s) : OutKept q (execLoopsel a0 a1 a2 a3 a4 s) := by
  unfold execLoopsel
  try dsimp only
  with_reducible repeat' first
      | assumption | apply OutKept.next | apply State.runBeam_kept | apply State.setV_kept | apply State.modBeam_kept | apply State.Kept.ite
      | apply Eff.Kept.done | intro _

theorem State.setWait_kept {q s a1 a2} (hs : State.Kept q s) : State.Kept q (State.setWait s a1 a2) := by
  unfold State.setWait
  try dsimp only
  with_reducible repeat' first
      | assumption | (refine State.modEng_kept ?_ fun x hx => ?_) | apply State.Kept.ite | intro _ | split | exact hx | apply Engine.Ok.upd

theorem State.waitFlags_kept {q s a1 a2 a3} (hs : State.Kept q s) : State.Kept q (State.waitFlags s a1 a2 a3) := by
  unfold State.waitFlags
  try dsimp only
  with_reducible repeat' first
      | assumption | (refine State.modEng_kept ?_ fun x hx => ?_) | apply State.Kept.ite | intro _ | split | exact hx | apply Engine.Ok.upd

theorem State.waitUntil_kept {q s a1 a2 a3} (hs : State.Kept q s) : Eff.Kept q (State.waitUntil s a1 a2 a3) := by
  unfold State.waitUntil
  try dsimp only
  with_reducible repeat' first
      | assumption | apply State.waitFlags_kept | apply State.setWait_kept | apply State.Kept.ite | apply Eff.Kept.done | apply Eff.Kept.jump
      | apply Eff.Kept.hold | apply Eff.Kept.exc | apply Eff.Kept.stall | apply Eff.Kept.ite

theorem execWaitt_kept {q a0 a1 a2 a3 s} (hs : State.Kept q s) : OutKept q (execWaitt a0 a1 a2 a3 s) := by
  unfold execWaitt
  try dsimp only
  with_reducible repeat' first
      | assumption | apply OutKept.next | apply State.runEng_kept | apply State.waitUntil_kept | apply State.Kept.ite | apply Eff.Kept.done | intro _

theorem State.bmFlag_kept {q s a1 a2} (hs : State.Kept q s) : State.Kept q (State.bmFlag s a1 a2) := by
  unfold State.bmFlag
  try dsimp only
  with_reducible repeat' first
      | assumption | (refine State.modEng_kept ?_ fun x hx => ?_) | apply State.Kept.ite | intro _ | split | exact hx | apply Engine.Ok.upd

theorem execBmidx_kept {q a0 a1 a2 a3 s} (hs : State.Kept q s) : OutKept q (execBmidx a0 a1 a2 a3 s) := by
  unfold execBmidx
  try dsimp only
  with_reducible repeat' first
      | assumption | apply OutKept.next | apply State.runEng_kept | apply State.setWait_kept | apply execWaitt_kept | apply State.bmFlag_kept
      | (refine State.modEng_kept ?_ fun x hx => ?_) | apply State.Kept.ite | apply Eff.Kept.done | apply Eff.Kept.jump | apply Eff.Kept.hold
      | apply Eff.Kept.exc | apply Eff.Kept.stall | apply Eff.Kept.ite | intro _ | split | exact hx | apply Engine.setG_ok

theorem State.modHost_kept {q s a1} (hs : State.Kept q s) : State.Kept q (State.modHost s a1) := by
  unfold State.modHost
  try dsimp only
  with_reducible repeat' first | assumption | apply State.Kept.ite | (refine State.Kept.upd ?_; first | assumption)

theorem State.extCheck_kept {q s} (hs : State.Kept q s) : State.Kept q (State.extCheck s) := by
  unfold State.extCheck
  try dsimp only
  with_reducible repeat' first | assumption | apply State.setFlag_kept

theorem State.modNet_kept {q s a1 a2} (hs : State.Kept q s) : State.Kept q (State.modNet s a1 a2) := by
  unfold State.modNet
  try dsimp only
  with_reducible repeat' first | assumption | apply State.modHost_kept

theorem State.sendPort_kept {q s a1 a2} (hs : State.Kept q s) : State.Kept q (State.sendPort s a1 a2) := by
  unfold State.sendPort
  try dsimp only
  with_reducible repeat' first | assumption | apply State.modNet_kept | apply State.send_kept | apply State.Kept.ite

theorem State.modLb_kept {q s a1} (hs : State.Kept q s) : State.Kept q (State.modLb s a1) := by
  unfold State.modLb
  try dsimp only
  with_reducible repeat' first | assumption | apply State.modHost_kept

theorem State.vmpOut_kept {q s a1 a2} (hs : State.Kept q s) : State.Kept q (State.vmpOut s a1 a2) := by
  unfold State.vmpOut
  try dsimp only
  with_reducible repeat' first
      | assumption | apply State.sendPort_kept | apply State.modLb_kept | apply State.flSend_kept | apply State.Kept.ite | intro _ | split

theorem State.modSess_kept {q s a1 a2} (hs : State.Kept q s) : State.Kept q (State.modSess s a1 a2) := by
  unfold State.modSess
  try dsimp only
  with_reducible repeat' first | assumption | apply State.modHost_kept

theorem State.vmpDevice_kept {q s a1 a2 a3 a4} (hs : State.Kept q s) : State.Kept q (State.vmpDevice s a1 a2 a3 a4) := by
  unfold State.vmpDevice
  try dsimp only
  with_reducible repeat' first
      | assumption | apply State.freeVal_kept | (refine State.freeVal_kept_eq (by assumption) ?_) | apply State.vmpOut_kept
      | apply State.modSess_kept | apply State.Kept.ite | intro _ | split

theorem State.endLong_kept {q s a1} (hs : State.Kept q s) : State.Kept q (State.endLong s a1) := by
  unfold State.endLong
  try dsimp only
  with_reducible repeat' first
      | assumption | apply State.modTime_kept | apply State.modHost_kept | apply State.put_kept | apply State.extCheck_kept | apply State.raise_kept
      | apply State.vmpDevice_kept | apply State.Kept.ite | intro _ | split

theorem State.modDisp_kept {q s a1 a2} (hs : State.Kept q s) : State.Kept q (State.modDisp s a1 a2) := by
  unfold State.modDisp
  try dsimp only
  with_reducible repeat' first | assumption | apply State.Kept.ite | (refine State.Kept.upd ?_; first | assumption)

theorem State.dispCommit_kept {q s a1} (hs : State.Kept q s) : State.Kept q (State.dispCommit s a1) := by
  unfold State.dispCommit
  try dsimp only
  with_reducible repeat' first | assumption | apply State.modDisp_kept | apply State.setFlag_kept | apply State.Kept.ite

theorem State.programSlot_kept {q s a1 a2 a3} (hs : State.Kept q s) : State.Kept q (State.programSlot s a1 a2 a3) := by
  unfold State.programSlot
  try dsimp only
  with_reducible repeat' first | assumption | apply State.Kept.ite | (refine State.Kept.upd ?_; first | assumption)

theorem execTrainingTimeout_kept {q a0 s} (hs : State.Kept q s) : OutKept q (execTrainingTimeout a0 s) := by
  unfold execTrainingTimeout
  try dsimp only
  with_reducible repeat' first | assumption | apply OutKept.next | apply State.enterSeek_kept | apply State.Kept.ite

theorem State.sendTs_kept {q s a1 a2} (hs : State.Kept q s) : State.Kept q (State.sendTs s a1 a2) := by
  unfold State.sendTs
  try dsimp only
  with_reducible repeat' first | assumption | apply State.send_kept

theorem State.enterAlign_kept {q s a1} (hs : State.Kept q s) : State.Kept q (State.enterAlign s a1) := by
  unfold State.enterAlign
  try dsimp only
  with_reducible repeat' first | assumption | apply State.sendTs_kept | apply State.wakeDomain_kept | apply State.enterLane_kept

theorem State.trigger_kept {q s a1 a2} (hs : State.Kept q s) : State.Kept q (State.trigger s a1 a2) := by
  unfold State.trigger
  try dsimp only
  with_reducible repeat' first
      | assumption | apply State.put_kept | apply State.lnEvent_kept | apply State.enterAlign_kept | apply State.modLane_kept
      | apply State.enterLane_kept | apply State.retire_kept | apply State.Kept.ite

theorem State.burst_kept {q s a1} (hs : State.Kept q s) : State.Kept q (State.burst s a1) := by
  unfold State.burst
  try dsimp only
  with_reducible repeat' first | assumption | apply State.trigger_kept | apply State.Kept.ite

theorem State.noteErr_kept {q s a1} (hs : State.Kept q s) : State.Kept q (State.noteErr s a1) := by
  unfold State.noteErr
  try dsimp only
  with_reducible repeat' first | assumption | apply State.modLane_kept

theorem State.codeError_kept {q s a1} (hs : State.Kept q s) : State.Kept q (State.codeError s a1) := by
  unfold State.codeError
  try dsimp only
  with_reducible repeat' first | assumption | apply State.burst_kept | apply State.noteErr_kept | apply State.count_kept

theorem State.siloPut_kept {q s a1 a2} (hs : State.Kept q s) : State.Kept q (State.siloPut s a1 a2) := by
  unfold State.siloPut
  try dsimp only
  with_reducible repeat' first
      | assumption | apply State.Kept.ite | (refine State.Kept.silo ?_ ?_; first | assumption) | intro _ | split | exact True.intro
      | apply MemR.wf_setBytes | apply MemR.wf_setByte | apply MemR.wf_write | rw [MemR.renew_cells] | rw [MemR.correct_cells]
      | refine State.Kept.siloWf (q := q) ?_

theorem State.lateSet_kept {q s a1 a2} (hs : State.Kept q s) : State.Kept q (State.lateSet s a1 a2) := by
  unfold State.lateSet
  try dsimp only
  with_reducible repeat' first
      | assumption | apply State.showFill_kept | apply State.modStream_kept | apply State.camEvent_kept | apply State.setFlag_kept
      | apply State.Kept.ite

theorem State.modSlot_kept {q s a1 a2 a3} (hs : State.Kept q s) : State.Kept q (State.modSlot s a1 a2 a3) := by
  unfold State.modSlot
  try dsimp only
  with_reducible repeat' first | assumption | apply State.modStream_kept

theorem State.askSoon_kept {q s a1 a2} (hs : State.Kept q s) (hf : ∀ s, State.Kept q s → State.Kept q (a2 s)) : State.Kept q (State.askSoon s a1 a2) := by
  unfold State.askSoon
  try dsimp only
  with_reducible repeat' first
      | assumption | (apply State.Kept.forEach; intro _ _ _) | apply State.touch_kept | apply State.wakeDomain_kept | apply hf | apply State.Kept.ite

theorem State.devReads_kept {q n k} : ∀ {s a}, State.Kept q s → State.Kept q (State.devReads s a n k).2 := by
  induction k with
  | zero => exact fun hs => hs
  | succ k ih =>
    intro s a hs
    exact ih (State.devRead_kept hs)

theorem State.devReads_kept_eq {q s a1 a2 a3 w t} (e : State.devReads s a1 a2 a3 = (w, t)) (hs : State.Kept q s) : State.Kept q t := by
  have h : State.Kept q (State.devReads s a1 a2 a3).2 := State.devReads_kept hs
  rw [e] at h
  exact h

theorem State.ctxBlock_kept {q s a1 w u} (e : State.ctxBlock s a1 = some (w, u)) (hs : State.Kept q s) : State.Kept q u := by
  unfold State.ctxBlock at e
  dsimp only at e
  split at e
  · generalize hp : State.devReads _ _ _ _ = p at e
    cases e
    exact State.devReads_kept_eq hp hs
  · cases e

theorem State.pipeEvent_kept {q s a1 a2 a3} (hs : State.Kept q s) : State.Kept q (State.pipeEvent s a1 a2 a3) := by
  unfold State.pipeEvent
  try dsimp only
  with_reducible repeat' first | assumption | apply State.raise_kept

theorem State.startUnit_kept {q} {a2 : Nat} : ∀ {s a1}, State.Kept q s → State.Kept q (State.startUnit s a1 a2) := by
  induction a2 with
  | zero =>
    intro s a1 hs
    unfold State.startUnit
    try dsimp only
    with_reducible repeat' first | assumption
  | succ n ih =>
    intro s a1 hs
    unfold State.startUnit
    try dsimp only
    with_reducible repeat' first
        | assumption | apply State.showFill_kept | apply State.put_kept | (refine State.askSoon_kept ?_ fun _ _ => ?_) | apply State.modPipe_kept
        | apply State.modSlot_kept | apply State.setFlag_kept | (refine State.ctxBlock_kept (by assumption) ?_) | apply State.modStream_kept
        | apply State.pipeEvent_kept | apply State.freeSlot_kept | apply ih | apply State.Kept.ite | intro _ | split

end Sys2Proof.Machine
end

