-- ==== Sys2Proof/Laws/Kept2.lean ====
section
/-! SUPPORT. Each operation and command leaves the queue alone and the stores canonical, part 2 of 5: callees before
their callers. -/

namespace Sys2Proof.Machine

theorem State.pipeKick_kept {q s a1} (hs : State.Kept q s) : State.Kept q (State.pipeKick s a1) := by
  unfold State.pipeKick
  try dsimp only
  with_reducible repeat' first | assumption | apply State.startUnit_kept

theorem execFrameEnd_kept {q a0 a1 a2 a3 s} (hs : State.Kept q s) : OutKept q (execFrameEnd a0 a1 a2 a3 s) := by
  unfold execFrameEnd
  try dsimp only
  with_reducible repeat' first
      | assumption | apply OutKept.next | apply State.dropLanding_kept | apply State.showFill_kept | apply State.siloPut_kept
      | apply State.setFlag_kept | apply State.put_kept | apply State.modStream_kept | apply State.lateSet_kept | apply State.freeSlot_kept
      | apply State.modSlot_kept | apply State.pipeKick_kept | apply State.Kept.ite | intro _ | split

theorem State.sendCamSet_kept {q s a1} (hs : State.Kept q s) : State.Kept q (State.sendCamSet s a1) := by
  unfold State.sendCamSet
  try dsimp only
  with_reducible repeat' first
      | assumption | apply State.modStream_kept | apply State.linkSend_kept | apply execFrameEnd_kept | apply State.showFill_kept
      | apply State.Kept.ite | intro _ | split

theorem State.camLaneUp_kept {q s a1} (hs : State.Kept q s) : State.Kept q (State.camLaneUp s a1) := by
  unfold State.camLaneUp
  try dsimp only
  with_reducible repeat' first | assumption | apply State.camLaneDown_kept | apply State.sendCamSet_kept | apply State.Kept.ite | intro _ | split

theorem State.portCameUp_kept {q s a1} (hs : State.Kept q s) : State.Kept q (State.portCameUp s a1) := by
  unfold State.portCameUp
  try dsimp only
  with_reducible repeat' first | assumption | apply State.sendHello_kept | apply State.Kept.ite

theorem State.enterUp_kept {q s a1} (hs : State.Kept q s) : State.Kept q (State.enterUp s a1) := by
  unfold State.enterUp
  try dsimp only
  with_reducible repeat' first
      | assumption | apply State.setFlag_kept | apply State.put_kept | apply State.modLane_kept | apply State.lnEvent_kept | apply State.touch_kept
      | apply State.leftUp_kept | apply State.camLaneUp_kept | apply State.resumeBeam_kept | apply State.headEvent_kept | apply State.portCameUp_kept
      | apply State.Kept.ite | intro _ | split

theorem execCreditReceive_kept {q a0 a1 a2 a3 s} (hs : State.Kept q s) : OutKept q (execCreditReceive a0 a1 a2 a3 s) := by
  unfold execCreditReceive
  try dsimp only
  with_reducible repeat' first
      | assumption | apply OutKept.next | apply State.codeError_kept | apply State.modLane_kept | apply State.enterUp_kept | apply State.Kept.ite

theorem State.xkBranch_kept {q s a1 a2} (hs : State.Kept q s) : State.Kept q (State.xkBranch s a1 a2) := by
  unfold State.xkBranch
  try dsimp only
  with_reducible repeat' first | assumption | apply State.xkCmd_kept | apply State.xkGo_kept | apply State.Kept.ite | intro _

theorem execXkBranch_kept {q a0 a1 s} (hs : State.Kept q s) : OutKept q (execXkBranch a0 a1 s) := by
  unfold execXkBranch
  try dsimp only
  with_reducible repeat' first | assumption | apply OutKept.next | apply State.xkBranch_kept

theorem execLiveScanCycle_kept {q a0 a1 a2 s} (hs : State.Kept q s) : OutKept q (execLiveScanCycle a0 a1 a2 s) := by
  unfold execLiveScanCycle
  try dsimp only
  with_reducible repeat' first
      | assumption | apply OutKept.next | apply State.count_kept | apply State.put_kept | apply State.modLane_kept | apply State.setFlag_kept
      | apply State.trigger_kept | apply State.Kept.ite

theorem State.modHk_kept {q s a1} (hs : State.Kept q s) : State.Kept q (State.modHk s a1) := by
  unfold State.modHk
  try dsimp only
  with_reducible repeat' first | assumption | apply State.Kept.ite | (refine State.Kept.upd ?_; first | assumption)

theorem State.bandNext_kept {q s a1} (hs : State.Kept q s) : State.Kept q (State.bandNext s a1) := by
  unfold State.bandNext
  try dsimp only
  with_reducible repeat' first
      | assumption | apply State.setBand_kept | apply State.modHk_kept | apply State.put_kept | apply State.Kept.ite | intro _ | split

theorem State.xkFinish_kept {q s a1 a2} (hs : State.Kept q s) : State.Kept q (State.xkFinish s a1 a2) := by
  unfold State.xkFinish
  try dsimp only
  with_reducible repeat' first
      | assumption | apply State.xkCmd_kept | apply State.raise_kept | apply State.xkInt_kept | apply State.put_kept | apply State.xkEndSeq_kept
      | apply State.Kept.ite | intro _

theorem execXkFinish_kept {q a0 a1 s} (hs : State.Kept q s) : OutKept q (execXkFinish a0 a1 s) := by
  unfold execXkFinish
  try dsimp only
  with_reducible repeat' first | assumption | apply OutKept.next | apply State.xkFinish_kept

theorem State.limPol_kept {q s t a2} (_hs : State.Kept q s) (ht : State.Kept q t) : State.Kept q (State.limPol s t a2) := by
  unfold State.limPol
  try dsimp only
  with_reducible repeat' first | assumption | apply State.setFlag_kept | apply State.Kept.ite

theorem State.axCfgWrite_kept {q s a1 a2 a3} (hs : State.Kept q s) : State.Kept q (State.axCfgWrite s a1 a2 a3) := by
  unfold State.axCfgWrite
  try dsimp only
  with_reducible repeat' first
      | assumption | apply State.setFlag_kept | apply State.setAxState_kept | apply State.put_kept | apply State.limPol_kept | apply State.Kept.ite
      | apply State.Kept.setReg

theorem State.barrierCheck_kept {q s a1} (hs : State.Kept q s) : State.Kept q (State.barrierCheck s a1) := by
  unfold State.barrierCheck
  try dsimp only
  with_reducible repeat' first
      | assumption | (apply State.Kept.forEach; intro _ _ _) | (refine State.modEng_kept ?_ fun x hx => ?_) | apply State.modBeam_kept
      | apply State.Kept.ite | (refine State.Kept.upd ?_; first | assumption) | intro _ | split | exact hx
      | (refine Engine.complete_ok ?_ fun x hx => ?_) | apply Engine.Ok.upd

theorem execBarrierWithdraw_kept {q a0 s} (hs : State.Kept q s) : OutKept q (execBarrierWithdraw a0 s) := by
  unfold execBarrierWithdraw
  try dsimp only
  with_reducible repeat' first
      | assumption | apply OutKept.next | apply State.barrierCheck_kept | apply State.breakBarrier_kept | apply State.Kept.ite | intro _ | split

theorem State.refuseFrame_kept {q s a1 a2 a3} (hs : State.Kept q s) : State.Kept q (State.refuseFrame s a1 a2 a3) := by
  unfold State.refuseFrame
  try dsimp only
  with_reducible repeat' first | assumption | apply State.camEvent_kept | apply State.count_kept | apply State.modStream_kept

theorem State.landFrame_kept {q s a1 a2 a3} (hs : State.Kept q s) : State.Kept q (State.landFrame s a1 a2 a3) := by
  unfold State.landFrame
  try dsimp only
  with_reducible repeat' first
      | assumption | apply State.showFill_kept | apply State.modSlot_kept | apply State.modStream_kept | apply State.siloPut_kept

theorem State.frameStart_kept {q s a1 a2 a3} (hs : State.Kept q s) : State.Kept q (State.frameStart s a1 a2 a3) := by
  unfold State.frameStart
  try dsimp only
  with_reducible repeat' first
      | assumption | apply State.dropLanding_kept | apply State.wakeDomain_kept | apply State.refuseFrame_kept | apply State.landFrame_kept
      | apply State.Kept.ite

theorem State.runLocal_kept {q s a1 a2 a3 a4 a5} (hs : State.Kept q s) (hf : ∀ x, x.Ok → (a5 x).Ok) : State.Kept q (State.runLocal s a1 a2 a3 a4 a5) := by
  unfold State.runLocal
  try dsimp only
  with_reducible repeat' first
      | assumption | apply State.runEng_kept | (refine State.modEng_kept ?_ fun x hx => ?_) | apply hf | apply State.Kept.ite | apply Eff.Kept.done
      | intro _

theorem execMacq_kept {q a0 a1 a2 a3 s} (hs : State.Kept q s) : OutKept q (execMacq a0 a1 a2 a3 s) := by
  unfold execMacq
  try dsimp only
  with_reducible repeat' first
      | assumption | apply OutKept.next | (refine State.runLocal_kept ?_ fun x hx => ?_) | apply State.Kept.ite | intro _ | split | exact hx
      | apply Engine.setAcc_ok

theorem execMsuq_kept {q a0 a1 a2 a3 s} (hs : State.Kept q s) : OutKept q (execMsuq a0 a1 a2 a3 s) := by
  unfold execMsuq
  try dsimp only
  with_reducible repeat' first
      | assumption | apply OutKept.next | (refine State.runLocal_kept ?_ fun x hx => ?_) | apply execMacq_kept | apply State.Kept.ite | intro _
      | split | exact hx | apply Engine.setAcc_ok

theorem State.setV16_kept {q s a1 a2} (hs : State.Kept q s) : State.Kept q (State.setV16 s a1 a2) := by
  unfold State.setV16
  try dsimp only
  with_reducible repeat' first | assumption | apply State.put_kept

theorem State.xkVadd_kept {q s a1 a2} (hs : State.Kept q s) : State.Kept q (State.xkVadd s a1 a2) := by
  unfold State.xkVadd
  try dsimp only
  with_reducible repeat' first | assumption | apply State.xkCmd_kept | apply State.setV16_kept | apply State.Kept.ite | intro _

theorem execXkVadd_kept {q a0 a1 s} (hs : State.Kept q s) : OutKept q (execXkVadd a0 a1 s) := by
  unfold execXkVadd
  try dsimp only
  with_reducible repeat' first | assumption | apply OutKept.next | apply State.xkVadd_kept

theorem State.immRow_kept {q s a1 a2 a3 a4 a5 a6 a7} (hs : State.Kept q s) : State.Kept q (State.immRow s a1 a2 a3 a4 a5 a6 a7) := by
  unfold State.immRow
  try dsimp only
  with_reducible repeat' first
      | assumption | (refine State.runLocal_kept ?_ fun x hx => ?_) | apply State.Kept.ite | intro _ | split | exact hx | apply Engine.setG_ok

theorem execLui_kept {q a0 a1 a2 a3 s} (hs : State.Kept q s) : OutKept q (execLui a0 a1 a2 a3 s) := by
  unfold execLui
  try dsimp only
  with_reducible repeat' first | assumption | apply OutKept.next | apply State.immRow_kept

theorem execTsti_kept {q a0 a1 a2 a3 s} (hs : State.Kept q s) : OutKept q (execTsti a0 a1 a2 a3 s) := by
  unfold execTsti
  try dsimp only
  with_reducible repeat' first
      | assumption | apply OutKept.next | (refine State.runLocal_kept ?_ fun x hx => ?_) | apply execLui_kept | apply State.Kept.ite | intro _
      | split | exact hx | apply Engine.Ok.upd

theorem State.xkBendSettle_kept {q s a1 a2} (hs : State.Kept q s) : State.Kept q (State.xkBendSettle s a1 a2) := by
  unfold State.xkBendSettle
  try dsimp only
  with_reducible repeat' first | assumption | apply State.xkCmd_kept | apply State.modChan_kept | apply State.Kept.ite | intro _

theorem State.locked_kept {q s} (hs : State.Kept q s) : State.Kept q (State.locked s) := by
  unfold State.locked
  try dsimp only
  with_reducible repeat' first | assumption | apply State.modTime_kept | apply State.setFlag_kept

theorem execPllLock_kept {q s} (hs : State.Kept q s) : OutKept q (execPllLock s) := by
  unfold execPllLock
  try dsimp only
  with_reducible repeat' first
      | assumption | apply OutKept.next | apply State.locked_kept | apply State.setFlag_kept | apply State.modTime_kept | apply State.Kept.ite

theorem execSltiu_kept {q a0 a1 a2 a3 s} (hs : State.Kept q s) : OutKept q (execSltiu a0 a1 a2 a3 s) := by
  unfold execSltiu
  try dsimp only
  with_reducible repeat' first | assumption | apply OutKept.next | apply State.immRow_kept

theorem State.aluRow_kept {q s a1 a2 a3 a4 a5 a6 a7} (hs : State.Kept q s) : State.Kept q (State.aluRow s a1 a2 a3 a4 a5 a6 a7) := by
  unfold State.aluRow
  try dsimp only
  with_reducible repeat' first
      | assumption | (refine State.runLocal_kept ?_ fun x hx => ?_) | apply State.Kept.ite | intro _ | split | exact hx | apply Engine.alu_ok

theorem execSub_kept {q a0 a1 a2 a3 a4 s} (hs : State.Kept q s) : OutKept q (execSub a0 a1 a2 a3 a4 s) := by
  unfold execSub
  try dsimp only
  with_reducible repeat' first | assumption | apply OutKept.next | apply State.aluRow_kept

theorem State.dumpNow_kept {q s} (hs : State.Kept q s) : State.Kept q (State.dumpNow s) := by
  unfold State.dumpNow
  try dsimp only
  with_reducible repeat' first | assumption | apply State.modGran_kept

theorem State.tsNext_kept {q s a1 a2 a3} (hs : State.Kept q s) : State.Kept q (State.tsNext s a1 a2 a3).1 := by
  unfold State.tsNext
  try dsimp only
  with_reducible repeat' first | assumption | apply State.put_kept | apply State.setFlag_kept | apply State.Kept.ite | intro _ | split

theorem State.tsNext_kept_eq {q s a1 a2 a3 w t} (e : State.tsNext s a1 a2 a3 = (t, w)) (hs : State.Kept q s) : State.Kept q t := by
  have h : State.Kept q (State.tsNext s a1 a2 a3).1 := State.tsNext_kept hs
  rw [e] at h
  exact h

theorem State.tempEvent_kept {q s a1 a2 a3} (hs : State.Kept q s) : State.Kept q (State.tempEvent s a1 a2 a3) := by
  unfold State.tempEvent
  try dsimp only
  with_reducible repeat' first | assumption | apply State.raise_kept

theorem State.riseCrit_kept {q s a1 a2} (hs : State.Kept q s) : State.Kept q (State.riseCrit s a1 a2) := by
  unfold State.riseCrit
  try dsimp only
  with_reducible repeat' first
      | assumption | apply State.tsNext_kept | (refine State.tsNext_kept_eq (by assumption) ?_) | apply State.tempEvent_kept
      | apply State.setFlag_kept | apply State.modHk_kept | apply State.Kept.ite

theorem State.siloImage_kept {q s a1 a2} (hs : State.Kept q s) : State.Kept q (State.siloImage s a1 a2).2 := by
  unfold State.siloImage
  try dsimp only
  with_reducible repeat' first
      | assumption | apply State.siloFix_kept | apply State.freeVal_kept | (refine State.freeVal_kept_eq (by assumption) ?_) | apply State.Kept.ite
      | intro _ | split

theorem State.siloImage_kept_eq {q s a1 a2 w t} (e : State.siloImage s a1 a2 = (w, t)) (hs : State.Kept q s) : State.Kept q t := by
  have h : State.Kept q (State.siloImage s a1 a2).2 := State.siloImage_kept hs
  rw [e] at h
  exact h

theorem State.longAtOnce_kept {q s a1 a2} (hs : State.Kept q s) : State.Kept q (State.longAtOnce s a1 a2).2 := by
  unfold State.longAtOnce
  try dsimp only
  with_reducible repeat' first
      | assumption | apply State.siloImage_kept | (refine State.siloImage_kept_eq (by assumption) ?_) | apply State.Kept.ite
      | (refine State.Kept.upd ?_; first | assumption | apply State.siloImage_kept | (refine State.siloImage_kept_eq (by assumption) ?_) | apply State.Kept.ite | split)

theorem State.longAtOnce_kept_eq {q s a1 a2 w t} (e : State.longAtOnce s a1 a2 = (w, t)) (hs : State.Kept q s) : State.Kept q t := by
  have h : State.Kept q (State.longAtOnce s a1 a2).2 := State.longAtOnce_kept hs
  rw [e] at h
  exact h

theorem State.sealBegin_kept {q s a1} (hs : State.Kept q s) : State.Kept q (State.sealBegin s a1) := by
  unfold State.sealBegin
  try dsimp only
  with_reducible repeat' first | assumption | apply State.put_kept | apply State.modGran_kept

theorem State.imageErase_kept {q s a1} (hs : State.Kept q s) : State.Kept q (State.imageErase s a1) := by
  unfold State.imageErase
  try dsimp only
  with_reducible repeat' first | assumption | apply State.Kept.ite | (refine State.Kept.upd ?_; first | assumption)

theorem State.longSteps_kept {q s a1} (hs : State.Kept q s) : State.Kept q (State.longSteps s a1) := by
  unfold State.longSteps
  try dsimp only
  with_reducible repeat' first
      | assumption | apply State.sealBegin_kept | apply State.imageErase_kept | apply State.extCheck_kept | apply State.modTime_kept
      | apply State.modGran_kept | apply State.Kept.ite | intro _ | split

theorem State.longFirst_kept {q s t} (_hs : State.Kept q s) (ht : State.Kept q t) : State.Kept q (State.longFirst s t) := by
  unfold State.longFirst
  try dsimp only
  with_reducible repeat' first
      | assumption | apply State.longAtOnce_kept | (refine State.longAtOnce_kept_eq (by assumption) ?_) | apply State.endLong_kept
      | apply State.longSteps_kept | apply State.Kept.ite
      | (refine State.Kept.upd ?_; first | assumption | apply State.longAtOnce_kept | (refine State.longAtOnce_kept_eq (by assumption) ?_) | apply State.endLong_kept | apply State.longSteps_kept | apply State.Kept.ite | split)

theorem State.vmpAnswer_kept {q s a1 a2 a3 a4} (hs : State.Kept q s) : State.Kept q (State.vmpAnswer s a1 a2 a3 a4) := by
  unfold State.vmpAnswer
  try dsimp only
  with_reducible repeat' first | assumption | apply State.vmpOut_kept

theorem State.vmpBad_kept {q s a1 a2} (hs : State.Kept q s) : State.Kept q (State.vmpBad s a1 a2) := by
  unfold State.vmpBad
  try dsimp only
  with_reducible repeat' first | assumption | apply State.vmpAnswer_kept | apply State.count_kept

theorem State.relayOn_kept {q s a1 a2} (hs : State.Kept q s) : State.Kept q (State.relayOn s a1 a2) := by
  unfold State.relayOn
  try dsimp only
  with_reducible repeat' first
      | assumption | apply State.vmpBad_kept | apply State.vmpAnswer_kept | apply State.raise_kept | apply State.flSend_kept | apply State.Kept.ite

theorem State.vmpBusy_kept {q s a1 a2} (hs : State.Kept q s) : State.Kept q (State.vmpBusy s a1 a2) := by
  unfold State.vmpBusy
  try dsimp only
  with_reducible repeat' first
      | assumption | apply State.freeVal_kept | (refine State.freeVal_kept_eq (by assumption) ?_) | apply State.vmpAnswer_kept
      | apply State.count_kept | apply State.Kept.ite | intro _ | split

theorem State.vmpMeet_kept {q s a1 a2 a3 a4} (hs : State.Kept q s) (hf : ∀ s, State.Kept q s → State.Kept q (a4 s)) : State.Kept q (State.vmpMeet s a1 a2 a3 a4) := by
  unfold State.vmpMeet
  try dsimp only
  with_reducible repeat' first
      | assumption | apply State.relayOn_kept | apply State.vmpBad_kept | apply State.vmpBusy_kept | apply hf | apply State.Kept.ite

theorem State.modHRing_kept {q s a1 a2} (hs : State.Kept q s) : State.Kept q (State.modHRing s a1 a2) := by
  unfold State.modHRing
  try dsimp only
  with_reducible repeat' first | assumption | apply State.modHost_kept

theorem State.ringsFresh_kept {q s a1} (hs : State.Kept q s) : State.Kept q (State.ringsFresh s a1) := by
  unfold State.ringsFresh
  try dsimp only
  with_reducible repeat' first | assumption | (apply State.Kept.forEach; intro _ _ _) | apply State.modHRing_kept

theorem State.forgetReads_kept {q s a1} (hs : State.Kept q s) : State.Kept q (State.forgetReads s a1) := by
  unfold State.forgetReads
  try dsimp only
  with_reducible repeat' first | assumption | apply State.Kept.ite | (refine State.Kept.upd ?_; first | assumption)

theorem State.freeSession_kept {q s a1} (hs : State.Kept q s) : State.Kept q (State.freeSession s a1) := by
  unfold State.freeSession
  try dsimp only
  with_reducible repeat' first
      | assumption | apply State.ringsFresh_kept | apply State.forgetReads_kept | apply State.modSess_kept | apply State.put_kept

theorem State.closeSession_kept {q s a1 a2} (hs : State.Kept q s) : State.Kept q (State.closeSession s a1 a2) := by
  unfold State.closeSession
  try dsimp only
  with_reducible repeat' first | assumption | apply State.raise_kept | apply State.freeSession_kept | apply State.Kept.ite

theorem State.badTag_kept {q s a1} (hs : State.Kept q s) : State.Kept q (State.badTag s a1) := by
  unfold State.badTag
  try dsimp only
  with_reducible repeat' first
      | assumption | apply State.modSess_kept | apply State.raise_kept | apply State.count_kept | apply State.closeSession_kept
      | apply State.Kept.ite

theorem State.park_kept {q s a1} (hs : State.Kept q s) : State.Kept q (State.park s a1) := by
  unfold State.park
  try dsimp only
  with_reducible repeat' first | assumption | apply State.Kept.ite | (refine State.Kept.upd ?_; first | assumption)

theorem State.vmpPark_kept {q s a1 a2} (hs : State.Kept q s) : State.Kept q (State.vmpPark s a1 a2) := by
  unfold State.vmpPark
  try dsimp only
  with_reducible repeat' first | assumption | apply State.park_kept | (apply State.Kept.forEach; intro _ _ _) | apply State.wakeDomain_kept

theorem State.wakeRings_kept {q s a1} (hs : State.Kept q s) : State.Kept q (State.wakeRings s a1) := by
  unfold State.wakeRings
  try dsimp only
  with_reducible repeat' first | assumption | (apply State.Kept.forEach; intro _ _ _) | apply State.modHRing_kept | apply State.Kept.ite

theorem State.vmpAccept_kept {q s a1 a2 a3} (hs : State.Kept q s) : State.Kept q (State.vmpAccept s a1 a2 a3) := by
  unfold State.vmpAccept
  try dsimp only
  with_reducible repeat' first | assumption | apply State.wakeRings_kept | apply State.modSess_kept

theorem State.wrote_kept {q s a1 a2} (hs : State.Kept q s) : State.Kept q (State.wrote s a1 a2) := by
  unfold State.wrote
  try dsimp only
  with_reducible repeat' first | assumption | apply State.put_kept

theorem State.spoilSlot_kept {q s a1} (hs : State.Kept q s) : State.Kept q (State.spoilSlot s a1) := by
  unfold State.spoilSlot
  try dsimp only
  with_reducible repeat' first
      | assumption | (apply State.Kept.forEach; intro _ _ _) | apply State.freeVal_kept | (refine State.freeVal_kept_eq (by assumption) ?_)
      | apply State.modGran_kept

theorem State.writeDone_kept {q s a1} (hs : State.Kept q s) : State.Kept q (State.writeDone s a1) := by
  unfold State.writeDone
  try dsimp only
  with_reducible repeat' first
      | assumption | apply State.modGran_kept | apply State.wrote_kept | apply State.setFlag_kept | apply State.spoilSlot_kept | apply State.put_kept
      | apply State.raise_kept | apply State.Kept.ite | intro _ | split

theorem State.stageRecord_kept {q s a1} (hs : State.Kept q s) : State.Kept q (State.stageRecord s a1) := by
  unfold State.stageRecord
  try dsimp only
  with_reducible repeat' first | assumption | apply State.modGran_kept | apply State.wakeDomain_kept

theorem State.failRecord_kept {q s a1} (hs : State.Kept q s) : State.Kept q (State.failRecord s a1) := by
  unfold State.failRecord
  try dsimp only
  with_reducible repeat' first | assumption | apply State.stageRecord_kept | apply State.Kept.ite

theorem State.fullReset_kept {q s a1} (hs : State.Kept q s) : State.Kept q (State.fullReset s a1) := by
  unfold State.fullReset
  try dsimp only
  with_reducible repeat' first
      | assumption | apply State.inReset_kept | apply State.dumpNow_kept | apply State.writeDone_kept | apply State.failRecord_kept

theorem State.coreReset_kept {q s} (hs : State.Kept q s) : State.Kept q (State.coreReset s) := by
  unfold State.coreReset
  refine State.setFlag_kept (State.inputsAgain_kept (State.put_kept (State.setFlag_kept ?_)))
  dsimp only
  generalize hr : forEach (List.finRange 8) _ _ = r
  have h : State.Kept q r := by
    rw [← hr]
    refine State.Kept.forEach (fun t a ht => State.modCell_kept (State.modCell_kept (State.axEndNow_kept ht)))
      (State.Kept.forEach (fun t b ht => State.modCell_kept (State.Kept.upd (State.stopBeam_kept ht))) hs)
  refine State.Kept.engs h fun e => ?_
  rw [Fin.getElem_fin, Vector.getElem_ofFn]
  exact Engine.ite_ok (h.engOk 20) (h.engOk e)

theorem State.payReset_kept {q s} (hs : State.Kept q s) : State.Kept q (State.payReset s) := by
  unfold State.payReset
  try dsimp only
  with_reducible repeat' first
      | assumption | apply State.fullReset_kept | apply State.coreReset_kept | apply State.modHost_kept | apply State.Kept.ite | intro _ | split

theorem State.closePort_kept {q s a1} (hs : State.Kept q s) : State.Kept q (State.closePort s a1) := by
  unfold State.closePort
  try dsimp only
  with_reducible repeat' first | assumption | (apply State.Kept.forEach; intro _ _ _) | apply State.closeSession_kept | apply State.Kept.ite

theorem State.payPorts_kept {q s} (hs : State.Kept q s) : State.Kept q (State.payPorts s) := by
  unfold State.payPorts
  try dsimp only
  with_reducible repeat' first
      | assumption | (apply State.Kept.forEach; intro _ _ _) | apply State.closePort_kept | apply State.modNet_kept | apply State.Kept.ite

theorem State.vmpDone_kept {q s t a2 a3 a4 a5 a6} (hs : State.Kept q s) (_ht : State.Kept q t) : State.Kept q (State.vmpDone s t a2 a3 a4 a5 a6) := by
  unfold State.vmpDone
  try dsimp only
  with_reducible repeat' first
      | assumption | apply State.modSess_kept | apply State.payReset_kept | apply State.payPorts_kept | apply State.vmpOut_kept
      | apply State.Kept.ite

theorem State.vmpSeq_kept {q s a1 a2 a3 a4} (hs : State.Kept q s) (hf : ∀ s n m, State.Kept q s → State.Kept q (a4 s n m).1) : State.Kept q (State.vmpSeq s a1 a2 a3 a4) := by
  unfold State.vmpSeq
  try dsimp only
  with_reducible repeat' first
      | assumption | apply State.badTag_kept | apply State.vmpPark_kept | apply State.vmpAccept_kept | (apply State.Kept.forEach; intro _ _ _)
      | apply State.touch_kept | apply State.vmpDone_kept | apply State.vmpOut_kept | apply State.count_kept | apply hf | apply State.Kept.ite
      | (refine State.Kept.upd ?_; first | assumption | apply State.badTag_kept | apply State.vmpPark_kept | apply State.vmpAccept_kept | apply State.touch_kept | apply State.vmpDone_kept | apply State.vmpOut_kept | apply State.count_kept | apply hf | apply State.Kept.ite | split)

theorem State.vmpRun_kept {q s a1 a2 a3} (hs : State.Kept q s) (hf : ∀ s n m, State.Kept q s → State.Kept q (a3 s n m).1) : State.Kept q (State.vmpRun s a1 a2 a3) := by
  unfold State.vmpRun
  try dsimp only
  with_reducible repeat' first
      | assumption | apply State.vmpMeet_kept | apply State.vmpAnswer_kept | apply State.badTag_kept | apply State.vmpSeq_kept
      | apply State.vmpBad_kept | apply hf | apply State.Kept.ite | intro _ | split

theorem vmpNo_kept {q s a1} (hs : State.Kept q s) : State.Kept q (vmpNo s a1).1 := by
  unfold vmpNo
  try dsimp only
  with_reducible repeat' first | assumption

theorem vmpNo_kept_eq {q s a1 w t} (e : vmpNo s a1 = (t, w)) (hs : State.Kept q s) : State.Kept q t := by
  have h : State.Kept q (vmpNo s a1).1 := vmpNo_kept hs
  rw [e] at h
  exact h

theorem onRing0_kept {q a0 s a2 a3} (hs : State.Kept q s) (hf : ∀ s n m, State.Kept q s → State.Kept q (a0 s n m).1) : State.Kept q (onRing0 a0 s a2 a3).1 := by
  unfold onRing0
  try dsimp only
  with_reducible repeat' first
      | assumption | apply vmpNo_kept | (refine vmpNo_kept_eq (by assumption) ?_) | apply hf | apply State.Kept.ite
      | (refine State.Kept.upd ?_; first | assumption | apply vmpNo_kept | (refine vmpNo_kept_eq (by assumption) ?_) | apply hf | apply State.Kept.ite | split)

theorem onRing0_kept_eq {q a0 s a2 a3 w t} (e : onRing0 a0 s a2 a3 = (t, w)) (hs : State.Kept q s) (hf : ∀ s n m, State.Kept q s → State.Kept q (a0 s n m).1) : State.Kept q t := by
  have h : State.Kept q (onRing0 a0 s a2 a3).1 := onRing0_kept hs hf
  rw [e] at h
  exact h

theorem vmpBody_kept {q s} (hs : State.Kept q s) : State.Kept q (vmpBody s).1 := by
  unfold vmpBody
  try dsimp only
  with_reducible repeat' first | assumption | apply State.count_kept

theorem vmpBody_kept_eq {q s w t} (e : vmpBody s = (t, w)) (hs : State.Kept q s) : State.Kept q t := by
  have h : State.Kept q (vmpBody s).1 := vmpBody_kept hs
  rw [e] at h
  exact h

theorem State.longBegin_kept {q s a1 a2 a3} (hs : State.Kept q s) : State.Kept q (State.longBegin s a1 a2 a3) := by
  unfold State.longBegin
  try dsimp only
  with_reducible repeat' first | assumption | apply State.modHost_kept | apply State.put_kept | apply State.raise_kept

theorem longOp_kept {q a0 s a2 a3} (hs : State.Kept q s) : State.Kept q (longOp a0 s a2 a3).1 := by
  unfold longOp
  try dsimp only
  with_reducible repeat' first
      | assumption | apply onRing0_kept | (refine onRing0_kept_eq (by assumption) ?_) | apply vmpNo_kept | (refine vmpNo_kept_eq (by assumption) ?_)
      | apply vmpBody_kept | (refine vmpBody_kept_eq (by assumption) ?_) | apply State.longBegin_kept | apply State.Kept.ite | intro _ | split

theorem State.longReq_kept {q s a1 a2 a3} (hs : State.Kept q s) : State.Kept q (State.longReq s a1 a2 a3) := by
  unfold State.longReq
  try dsimp only
  with_reducible repeat' first | assumption | apply State.longFirst_kept | apply State.vmpRun_kept | apply longOp_kept

theorem execImageWrite_kept {q a0 a1 s} (hs : State.Kept q s) : OutKept q (execImageWrite a0 a1 s) := by
  unfold execImageWrite
  try dsimp only
  with_reducible repeat' first | assumption | apply OutKept.next | apply State.longReq_kept

theorem State.slew_kept {q s a1} (hs : State.Kept q s) : State.Kept q (State.slew s a1) := by
  unfold State.slew
  try dsimp only
  with_reducible repeat' first | assumption | apply State.latchOfs_kept | apply State.setFlag_kept | apply State.modTime_kept | apply State.Kept.ite

theorem State.follow_kept {q s a1} (hs : State.Kept q s) : State.Kept q (State.follow s a1) := by
  unfold State.follow
  try dsimp only
  with_reducible repeat' first | assumption | apply State.setFlag_kept | apply State.put_kept

theorem State.switchDom_kept {q s a1} (hs : State.Kept q s) : State.Kept q (State.switchDom s a1) := by
  unfold State.switchDom
  try dsimp only
  with_reducible repeat' first | assumption | apply State.slew_kept | apply State.raise_kept | apply State.setFlag_kept | apply State.follow_kept

theorem execDomainRevert_kept {q s} (hs : State.Kept q s) : OutKept q (execDomainRevert s) := by
  unfold execDomainRevert
  try dsimp only
  with_reducible repeat' first | assumption | apply OutKept.next | apply State.switchDom_kept | apply State.Kept.ite

theorem execTimeDomOfsLoRead_kept {q a0 a1 s} (hs : State.Kept q s) : OutKept q (execTimeDomOfsLoRead a0 a1 s) := by
  unfold execTimeDomOfsLoRead
  try dsimp only
  with_reducible repeat' first | assumption | apply OutKept.next | apply State.latchOfs_kept

theorem execSltu_kept {q a0 a1 a2 a3 a4 s} (hs : State.Kept q s) : OutKept q (execSltu a0 a1 a2 a3 a4 s) := by
  unfold execSltu
  try dsimp only
  with_reducible repeat' first | assumption | apply OutKept.next | apply State.aluRow_kept

theorem State.camSetHeard_kept {q s a1 a2} (hs : State.Kept q s) : State.Kept q (State.camSetHeard s a1 a2) := by
  unfold State.camSetHeard
  try dsimp only
  with_reducible repeat' first | assumption | apply State.setFlag_kept | apply State.Kept.ite

theorem State.axKeyLost_kept {q s} (hs : State.Kept q s) : State.Kept q (State.axKeyLost s) := by
  unfold State.axKeyLost
  try dsimp only
  with_reducible repeat' first
      | assumption | (apply State.Kept.forEach; intro _ _ _) | apply State.setFlag_kept | apply State.modAxis_kept | apply State.axEndNow_kept
      | apply State.modCell_kept | apply State.axEvent_kept | apply State.setAxState_kept

theorem State.expireIn_kept {q s a1} (hs : State.Kept q s) : State.Kept q (State.expireIn s a1) := by
  unfold State.expireIn
  try dsimp only
  with_reducible repeat' first | assumption | apply State.modFab_kept

theorem State.setRole_kept {q s a1} (hs : State.Kept q s) : State.Kept q (State.setRole s a1) := by
  unfold State.setRole
  try dsimp only
  with_reducible repeat' first | assumption | apply State.put_kept

theorem State.leaveHolder_kept {q s} (hs : State.Kept q s) : State.Kept q (State.leaveHolder s) := by
  unfold State.leaveHolder
  try dsimp only
  with_reducible repeat' first
      | assumption | apply State.axKeyLost_kept | apply State.modFab_kept | apply State.expireIn_kept | apply State.setRole_kept
      | apply State.Kept.ite
      | (refine State.Kept.upd ?_; first | assumption | apply State.axKeyLost_kept | apply State.modFab_kept | apply State.expireIn_kept | apply State.setRole_kept | apply State.Kept.ite)

theorem State.toAll_kept {q s a1 a2 a3} (hs : State.Kept q s) : State.Kept q (State.toAll s a1 a2 a3) := by
  unfold State.toAll
  try dsimp only
  with_reducible repeat' first | assumption | (apply State.Kept.forEach; intro _ _ _) | apply State.flManage_kept

theorem State.releaseKey_kept {q s} (hs : State.Kept q s) : State.Kept q (State.releaseKey s) := by
  unfold State.releaseKey
  try dsimp only
  with_reducible repeat' first | assumption | apply State.leaveHolder_kept | apply State.raise_kept | apply State.modFab_kept | apply State.toAll_kept

theorem execLockstepMismatch_kept {q s} (hs : State.Kept q s) : OutKept q (execLockstepMismatch s) := by
  unfold execLockstepMismatch
  try dsimp only
  with_reducible repeat' first
      | assumption | apply OutKept.next | apply State.count_kept | apply State.extCheck_kept | apply State.modTime_kept | apply State.setFlag_kept
      | apply State.releaseKey_kept | apply State.endLong_kept | apply State.suspendAll_kept | apply State.axKeyLost_kept | apply State.Kept.ite
      | apply Eff.Kept.done | apply Eff.Kept.jump | apply Eff.Kept.hold | apply Eff.Kept.exc | apply Eff.Kept.stall | apply Eff.Kept.ite
      | (refine State.Kept.upd ?_; first | assumption | apply OutKept.next | apply State.count_kept | apply State.extCheck_kept | apply State.modTime_kept | apply State.setFlag_kept | apply State.releaseKey_kept | apply State.endLong_kept)

theorem State.loadData_kept {q s a1 a2 a3 a4} (hs : State.Kept q s) (hf : ∀ v x, x.Ok → (a4 v x).Ok) : Eff.Kept q (State.loadData s a1 a2 a3 a4) := by
  unfold State.loadData
  try dsimp only
  with_reducible repeat' first
      | assumption | (refine State.modEng_kept ?_ fun x hx => ?_) | apply State.localFix_kept | apply State.siloFix_kept | apply State.touch_kept
      | (refine State.regRead_kept (by assumption) ?_) | apply hf | apply State.Kept.ite | apply Eff.Kept.done | apply Eff.Kept.jump
      | apply Eff.Kept.hold | apply Eff.Kept.exc | apply Eff.Kept.stall | apply Eff.Kept.ite | intro _ | split

theorem State.atom_kept {q s a1 a2 a3 a4 a5 a6} (hs : State.Kept q s) (hf : ∀ x w, x.Ok → (a6 x w).Ok) : State.Kept q (State.atom s a1 a2 a3 a4 a5 a6) := by
  unfold State.atom
  try dsimp only
  with_reducible repeat' first
      | assumption | apply State.runEng_kept | (refine State.loadData_kept ?_ fun _ x hx => ?_) | apply State.siloFix_kept | apply State.touch_kept
      | apply State.setSilo32_kept | (refine State.modEng_kept ?_ fun x hx => ?_) | apply hf | apply State.Kept.ite | apply Eff.Kept.done
      | apply Eff.Kept.jump | apply Eff.Kept.hold | apply Eff.Kept.exc | apply Eff.Kept.stall | apply Eff.Kept.ite
      | (refine State.Kept.upd ?_; first | assumption | apply State.runEng_kept | (refine State.loadData_kept ?_ fun _ x hx => ?_) | apply State.siloFix_kept | apply State.touch_kept | apply State.setSilo32_kept | (refine State.modEng_kept ?_ fun x hx => ?_) | apply hf | apply State.Kept.ite | apply Eff.Kept.done | apply Eff.Kept.jump | apply Eff.Kept.hold | apply Eff.Kept.exc | apply Eff.Kept.stall | apply Eff.Kept.ite | split)
      | intro _ | split | exact hx | apply Engine.setG_ok

theorem State.setPlot_kept {q s a1 a2} (hs : State.Kept q s) : State.Kept q (State.setPlot s a1 a2) := by
  unfold State.setPlot
  try dsimp only
  with_reducible repeat' first | assumption | apply State.Kept.ite | (refine State.Kept.upd ?_; first | assumption)

theorem State.modPlot_kept {q s a1 a2} (hs : State.Kept q s) : State.Kept q (State.modPlot s a1 a2) := by
  unfold State.modPlot
  try dsimp only
  with_reducible repeat' first | assumption | apply State.setPlot_kept

theorem State.freePlots_kept {q s a1 a2 a3} (hs : State.Kept q s) : State.Kept q (State.freePlots s a1 a2 a3) := by
  unfold State.freePlots
  try dsimp only
  with_reducible repeat' first | assumption | (apply State.Kept.forEach; intro _ _ _) | apply State.modPlot_kept | apply State.Kept.ite

theorem State.freeLease_kept {q s a1 a2} (hs : State.Kept q s) : State.Kept q (State.freeLease s a1 a2) := by
  unfold State.freeLease
  try dsimp only
  with_reducible repeat' first
      | assumption | apply State.modArb_kept | apply State.freePlots_kept | (apply State.Kept.forEach; intro _ _ _) | apply State.sendPeer_kept
      | apply State.unblock_kept

theorem State.setTail_kept {q s a1 a2} (hs : State.Kept q s) : State.Kept q (State.setTail s a1 a2) := by
  unfold State.setTail
  try dsimp only
  with_reducible repeat' first | assumption | apply State.put_kept

theorem State.coverBox_kept {q s a1} (hs : State.Kept q s) : State.Kept q (State.coverBox s a1) := by
  unfold State.coverBox
  try dsimp only
  with_reducible repeat' first | assumption | (apply State.Kept.forEach; intro _ _ _) | apply State.modPlot_kept

theorem State.orphan_kept {q s a1} (hs : State.Kept q s) : State.Kept q (State.orphan s a1) := by
  unfold State.orphan
  try dsimp only
  with_reducible repeat' first
      | assumption | apply State.incSheafFailed_kept | apply State.stampDone_kept | apply State.setStatus_kept | apply State.coverBox_kept
      | apply State.raise_kept | apply State.Kept.ite

theorem State.tailPassed_kept {q s a1 a2} (hs : State.Kept q s) : State.Kept q (State.tailPassed s a1 a2) := by
  unfold State.tailPassed
  try dsimp only
  with_reducible repeat' first | assumption | apply State.orphan_kept | apply State.Kept.ite | intro _ | split

theorem State.advanceTail_kept {q} {a2 : Nat} : ∀ {s a1}, State.Kept q s → State.Kept q (State.advanceTail s a1 a2) := by
  induction a2 with
  | zero =>
    intro s a1 hs
    unfold State.advanceTail
    try dsimp only
    with_reducible repeat' first | assumption
  | succ n ih =>
    intro s a1 hs
    unfold State.advanceTail
    try dsimp only
    with_reducible repeat' first
        | assumption | apply State.passFinal_kept | apply State.setTail_kept | apply State.tailPassed_kept | apply ih | apply State.Kept.ite
        | (refine State.Kept.upd ?_; first | assumption | apply State.passFinal_kept | apply State.setTail_kept)

theorem State.putDesc_kept {q s a1 a2} (hs : State.Kept q s) : State.Kept q (State.putDesc s a1 a2) := by
  unfold State.putDesc
  try dsimp only
  with_reducible repeat' first
      | assumption | apply State.setSilo32_kept | apply State.advanceTail_kept | apply State.Kept.ite
      | (refine State.Kept.silo ?_ ?_; first | assumption | apply State.setSilo32_kept) | intro _ | split | exact True.intro | apply MemR.wf_setBytes
      | apply MemR.wf_setByte | apply MemR.wf_write | rw [MemR.renew_cells] | rw [MemR.correct_cells] | refine State.Kept.siloWf (q := q) ?_

theorem State.moveDesc_kept {q s a1 a2} (hs : State.Kept q s) : State.Kept q (State.moveDesc s a1 a2) := by
  unfold State.moveDesc
  try dsimp only
  with_reducible repeat' first | assumption | apply State.searchAgain_kept | apply State.putDesc_kept | apply State.finish_kept

theorem State.dispose_kept {q s a1 a2} (hs : State.Kept q s) : State.Kept q (State.dispose s a1 a2) := by
  unfold State.dispose
  try dsimp only
  with_reducible repeat' first
      | assumption | apply State.setFlag_kept | apply State.raise_kept | apply State.moveDesc_kept | apply State.passFinal_kept
      | apply State.orphan_kept | apply State.Kept.ite
      | (refine State.Kept.upd ?_; first | assumption | apply State.setFlag_kept | apply State.raise_kept | apply State.moveDesc_kept | apply State.passFinal_kept | apply State.orphan_kept | apply State.Kept.ite)

theorem State.orphanGleans_kept {q s} (hs : State.Kept q s) : State.Kept q (State.orphanGleans s) := by
  unfold State.orphanGleans
  try dsimp only
  with_reducible repeat' first
      | assumption | (apply State.Kept.forEach; intro _ _ _) | apply State.orphan_kept | apply State.passFinal_kept | apply State.Kept.ite

theorem State.retireEnd_kept {q s a1 a2} (hs : State.Kept q s) : State.Kept q (State.retireEnd s a1 a2) := by
  unfold State.retireEnd
  try dsimp only
  with_reducible repeat' first
      | assumption | apply State.modArb_kept | apply State.put_kept | apply State.raise_kept | apply State.searchAgain_kept
      | apply State.setFlag_kept | (apply State.Kept.forEach; intro _ _ _) | apply State.dispose_kept | apply State.orphanGleans_kept
      | apply State.Kept.ite

theorem State.retireStep_kept {q s a1} (hs : State.Kept q s) : State.Kept q (State.retireStep s a1) := by
  unfold State.retireStep
  try dsimp only
  with_reducible repeat' first
      | assumption | (apply State.Kept.forEach; intro _ _ _) | apply State.freeLease_kept | apply State.retireEnd_kept | apply State.Kept.ite
      | intro _ | split

theorem State.modFl_kept {q s a1} (hs : State.Kept q s) : State.Kept q (State.modFl s a1) := by
  unfold State.modFl
  try dsimp only
  with_reducible repeat' first | assumption | apply State.modTime_kept

theorem State.modDom_kept {q s a1 a2} (hs : State.Kept q s) : State.Kept q (State.modDom s a1 a2) := by
  unfold State.modDom
  try dsimp only
  with_reducible repeat' first | assumption | apply State.Kept.ite | (refine State.Kept.upd ?_; first | assumption)

theorem State.degradeCheck_kept {q s a1} (hs : State.Kept q s) : State.Kept q (State.degradeCheck s a1) := by
  unfold State.degradeCheck
  try dsimp only
  with_reducible repeat' first | assumption | apply State.setFlag_kept

theorem State.enterFree_kept {q s} (hs : State.Kept q s) : State.Kept q (State.enterFree s) := by
  unfold State.enterFree
  try dsimp only
  with_reducible repeat' first
      | assumption | apply State.setFlag_kept | apply State.put_kept | apply State.modTime_kept | apply State.raise_kept | apply State.Kept.ite

theorem State.leaveFree_kept {q s a1} (hs : State.Kept q s) : State.Kept q (State.leaveFree s a1) := by
  unfold State.leaveFree
  try dsimp only
  with_reducible repeat' first
      | assumption | apply State.setFlag_kept | apply State.follow_kept | apply State.modTime_kept | apply State.latchOfs_kept
      | apply State.slew_kept | apply State.Kept.ite

theorem State.chooseDomain_kept {q s} (hs : State.Kept q s) : State.Kept q (State.chooseDomain s) := by
  unfold State.chooseDomain
  try dsimp only
  with_reducible repeat' first
      | assumption | apply State.enterFree_kept | apply State.leaveFree_kept | apply State.switchDom_kept | apply State.Kept.ite

theorem State.domChanged_kept {q s a1} (hs : State.Kept q s) : State.Kept q (State.domChanged s a1) := by
  unfold State.domChanged
  try dsimp only
  with_reducible repeat' first | assumption | apply State.chooseDomain_kept | apply State.modDom_kept

theorem State.steer_kept {q s a1} (hs : State.Kept q s) : State.Kept q (State.steer s a1) := by
  unfold State.steer
  try dsimp only
  with_reducible repeat' first
      | assumption | apply State.freeVal_kept | (refine State.freeVal_kept_eq (by assumption) ?_) | apply State.put_kept | apply State.slew_kept
      | apply State.Kept.ite

theorem State.measured_kept {q s a1 a2} (hs : State.Kept q s) : State.Kept q (State.measured s a1 a2) := by
  unfold State.measured
  try dsimp only
  with_reducible repeat' first
      | assumption | apply State.modDom_kept | apply State.put_kept | apply State.degradeCheck_kept | apply State.setFlag_kept
      | apply State.domChanged_kept | apply State.steer_kept | apply State.Kept.ite

theorem State.syncDomain_kept {q s a1 a2 a3 a4} (hs : State.Kept q s) : State.Kept q (State.syncDomain s a1 a2 a3 a4) := by
  unfold State.syncDomain
  try dsimp only
  with_reducible repeat' first | assumption | apply State.modDom_kept | apply State.measured_kept | apply State.put_kept | apply State.Kept.ite

theorem State.transmitAt_kept {q s a1 a2 a3 a4} (hs : State.Kept q s) : State.Kept q (State.transmitAt s a1 a2 a3 a4) := by
  unfold State.transmitAt
  try dsimp only
  with_reducible repeat' first | assumption | apply State.send_kept | apply State.modLane_kept

theorem State.flTimeSend_kept {q s a1 a2 a3} (hs : State.Kept q s) : State.Kept q (State.flTimeSend s a1 a2 a3) := by
  unfold State.flTimeSend
  try dsimp only
  with_reducible repeat' first | assumption | apply State.transmitAt_kept | apply State.Kept.ite | intro _ | split

theorem execFlSyncReceive_kept {q a0 a1 s} (hs : State.Kept q s) : OutKept q (execFlSyncReceive a0 a1 s) := by
  unfold execFlSyncReceive
  try dsimp only
  with_reducible repeat' first
      | assumption | apply OutKept.next | apply State.modFl_kept | (apply State.Kept.forEach; intro _ _ _) | apply State.syncDomain_kept
      | apply State.flTimeSend_kept | apply State.Kept.ite | intro _ | split

theorem State.freeCredit_kept {q s a1 a2} (hs : State.Kept q s) : State.Kept q (State.freeCredit s a1 a2) := by
  unfold State.freeCredit
  try dsimp only
  with_reducible repeat' first | assumption | apply State.modLane_kept

theorem State.ask_kept {q s a1 a2 a3} (hs : State.Kept q s) (hf : ∀ s, State.Kept q s → State.Kept q (a3 s)) : State.Kept q (State.ask s a1 a2 a3) := by
  unfold State.ask
  try dsimp only
  with_reducible repeat' first
      | assumption | apply State.touch_kept | apply State.park_kept | apply State.wakeDomain_kept | apply hf | apply State.Kept.ite

theorem State.freeRemote_kept {q s a1 a2} (hs : State.Kept q s) : State.Kept q (State.freeRemote s a1 a2) := by
  unfold State.freeRemote
  try dsimp only
  with_reducible repeat' first
      | assumption | apply State.unblock_kept | apply State.freePlots_kept | apply State.Kept.ite
      | (refine State.Kept.upd ?_; first | assumption | apply State.unblock_kept | apply State.freePlots_kept | apply State.Kept.ite | split)

theorem execPeerReleaseReceive_kept {q a0 a1 s} (hs : State.Kept q s) : OutKept q (execPeerReleaseReceive a0 a1 s) := by
  unfold execPeerReleaseReceive
  try dsimp only
  with_reducible repeat' first | assumption | apply OutKept.next | (refine State.ask_kept ?_ fun _ _ => ?_) | apply State.freeRemote_kept

theorem State.xkNop_kept {q s a1 a2} (hs : State.Kept q s) : State.Kept q (State.xkNop s a1 a2) := by
  unfold State.xkNop
  try dsimp only
  with_reducible repeat' first | assumption | apply State.xkCmd_kept | apply State.Kept.ite | intro _

theorem State.xkReturn_kept {q s a1 a2} (hs : State.Kept q s) : State.Kept q (State.xkReturn s a1 a2) := by
  unfold State.xkReturn
  try dsimp only
  with_reducible repeat' first
      | assumption | apply State.xkCmd_kept | apply State.xkAt_kept | apply State.chHalt_kept | apply State.xkGo_kept | apply State.modChan_kept
      | apply State.Kept.ite | intro _ | split

theorem State.xkLoop_kept {q s a1 a2} (hs : State.Kept q s) : State.Kept q (State.xkLoop s a1 a2) := by
  unfold State.xkLoop
  try dsimp only
  with_reducible repeat' first
      | assumption | apply State.xkCmd_kept | apply State.xkAt_kept | apply State.chHalt_kept | apply State.modChan_kept | apply State.Kept.ite
      | intro _

theorem State.xkAgain_kept {q s a1 a2} (hs : State.Kept q s) : State.Kept q (State.xkAgain s a1 a2) := by
  unfold State.xkAgain
  try dsimp only
  with_reducible repeat' first
      | assumption | apply State.xkCmd_kept | apply State.xkAt_kept | apply State.chHalt_kept | apply State.modChan_kept | apply State.xkGo_kept
      | apply State.Kept.ite | intro _ | split

theorem State.xkWaits_kept {q s a1 a2} (hs : State.Kept q s) : State.Kept q (State.xkWaits s a1 a2) := by
  unfold State.xkWaits
  try dsimp only
  with_reducible repeat' first | assumption | apply State.modChan_kept | apply State.put_kept

theorem State.xkRest_kept {q s a1 a2 a3} (hs : State.Kept q s) : State.Kept q (State.xkRest s a1 a2 a3) := by
  unfold State.xkRest
  try dsimp only
  with_reducible repeat' first
      | assumption | apply State.xkStart_kept | apply State.xkEndSeq_kept | apply State.xkTo_kept | apply State.xkAt_kept | apply State.xkPower_kept
      | apply State.xkLit_kept | apply State.placeRise_kept | (refine State.placeRise_kept_eq (by assumption) ?_) | apply State.gateTime_kept
      | (refine State.gateTime_kept_eq (by assumption) ?_) | apply State.placeEdge_kept | apply State.modTraj_kept | apply State.addPause_kept
      | apply State.Kept.ite

theorem State.xkIdleT_kept {q s a1 a2} (hs : State.Kept q s) : State.Kept q (State.xkIdleT s a1 a2) := by
  unfold State.xkIdleT
  try dsimp only
  with_reducible repeat' first
      | assumption | apply State.xkCmd_kept | apply State.xkWaits_kept | apply State.xkRest_kept | apply State.Kept.ite | intro _

theorem State.xkResume_kept {q s a1 a2} (hs : State.Kept q s) : State.Kept q (State.xkResume s a1 a2) := by
  unfold State.xkResume
  try dsimp only
  with_reducible repeat' first | assumption | apply State.xkAt_kept | apply State.modChan_kept | apply State.put_kept

theorem State.xkSync_kept {q s a1} (hs : State.Kept q s) : State.Kept q (State.xkSync s a1) := by
  unfold State.xkSync
  try dsimp only
  with_reducible repeat' first
      | assumption | apply State.xkAt_kept | (apply State.Kept.forEach; intro _ _ _) | apply State.xkResume_kept | apply State.modChan_kept
      | apply State.Kept.ite

theorem State.xkSyncCmd_kept {q s a1 a2} (hs : State.Kept q s) : State.Kept q (State.xkSyncCmd s a1 a2) := by
  unfold State.xkSyncCmd
  try dsimp only
  with_reducible repeat' first
      | assumption | apply State.xkCmd_kept | apply State.xkSync_kept | apply State.xkWaits_kept | apply State.xkEndSeq_kept | apply State.Kept.ite
      | intro _

theorem State.xkPause_kept {q s a1 a2} (hs : State.Kept q s) : State.Kept q (State.xkPause s a1 a2) := by
  unfold State.xkPause
  try dsimp only
  with_reducible repeat' first
      | assumption | apply State.xkCmd_kept | apply State.xkWaits_kept | apply State.xkEndSeq_kept | apply State.Kept.ite | intro _

theorem State.xkIrq_kept {q s a1 a2} (hs : State.Kept q s) : State.Kept q (State.xkIrq s a1 a2) := by
  unfold State.xkIrq
  try dsimp only
  with_reducible repeat' first
      | assumption | apply State.xkCmd_kept | apply State.raise_kept | apply State.xkInt_kept | apply State.Kept.ite | intro _

theorem State.xkWaitAx_kept {q s a1 a2} (hs : State.Kept q s) : State.Kept q (State.xkWaitAx s a1 a2) := by
  unfold State.xkWaitAx
  try dsimp only
  with_reducible repeat' first
      | assumption | apply State.xkCmd_kept | apply State.xkWaits_kept | apply State.xkEndSeq_kept | apply State.Kept.ite | intro _

theorem State.xkWaitV_kept {q s a1 a2} (hs : State.Kept q s) : State.Kept q (State.xkWaitV s a1 a2) := by
  unfold State.xkWaitV
  try dsimp only
  with_reducible repeat' first
      | assumption | apply State.xkCmd_kept | apply State.xkWaits_kept | apply State.xkEndSeq_kept | apply State.Kept.ite | intro _

theorem State.xkSwapNow_kept {q s a1} (hs : State.Kept q s) : State.Kept q (State.xkSwapNow s a1) := by
  unfold State.xkSwapNow
  try dsimp only
  with_reducible repeat' first
      | assumption | apply State.xkGo_kept | apply State.setFlag_kept | apply State.xkResume_kept | apply State.raise_kept | apply State.xkInt_kept
      | apply State.Kept.ite

theorem State.xkSwap_kept {q s a1 a2} (hs : State.Kept q s) : State.Kept q (State.xkSwap s a1 a2) := by
  unfold State.xkSwap
  try dsimp only
  with_reducible repeat' first
      | assumption | apply State.xkCmd_kept | apply State.xkSwapNow_kept | apply State.xkWaits_kept | apply State.xkEndSeq_kept
      | apply State.Kept.ite | intro _

theorem State.xkCurve_kept {q s a1 a2 a3 a4} (hs : State.Kept q s) : State.Kept q (State.xkCurve s a1 a2 a3 a4) := by
  unfold State.xkCurve
  try dsimp only
  with_reducible repeat' first | assumption | apply State.xkCmd_kept | apply State.xkAt_kept | apply State.xkLit_kept | apply State.Kept.ite | intro _

theorem State.xkFocus_kept {q s a1 a2} (hs : State.Kept q s) : State.Kept q (State.xkFocus s a1 a2) := by
  unfold State.xkFocus
  try dsimp only
  with_reducible repeat' first | assumption | apply State.xkCmd_kept | apply State.modChan_kept | apply State.Kept.ite | intro _

theorem State.xkDwell_kept {q s a1 a2} (hs : State.Kept q s) : State.Kept q (State.xkDwell s a1 a2) := by
  unfold State.xkDwell
  try dsimp only
  with_reducible repeat' first | assumption | apply State.xkCmd_kept | apply State.xkRest_kept | apply State.Kept.ite | intro _

theorem State.xkLightOn_kept {q s a1 a2} (hs : State.Kept q s) : State.Kept q (State.xkLightOn s a1 a2) := by
  unfold State.xkLightOn
  try dsimp only
  with_reducible repeat' first
      | assumption | apply State.xkCmd_kept | apply State.xkAt_kept | apply State.xkTo_kept | apply State.placeRise_kept
      | (refine State.placeRise_kept_eq (by assumption) ?_) | apply State.xkPower_kept | apply State.modChan_kept | apply State.Kept.ite | intro _

theorem State.xkLightOff_kept {q s a1 a2} (hs : State.Kept q s) : State.Kept q (State.xkLightOff s a1 a2) := by
  unfold State.xkLightOff
  try dsimp only
  with_reducible repeat' first
      | assumption | apply State.xkCmd_kept | apply State.xkLit_kept | apply State.gateTime_kept | (refine State.gateTime_kept_eq (by assumption) ?_)
      | apply State.xkAt_kept | apply State.placeEdge_kept | apply State.modChan_kept | apply State.modTraj_kept | apply State.Kept.ite | intro _

theorem State.xkTravelRate_kept {q s a1 a2} (hs : State.Kept q s) : State.Kept q (State.xkTravelRate s a1 a2) := by
  unfold State.xkTravelRate
  try dsimp only
  with_reducible repeat' first | assumption | apply State.xkCmd_kept | apply State.modChan_kept | apply State.Kept.ite | intro _

theorem State.xkStrokeRate_kept {q s a1 a2} (hs : State.Kept q s) : State.Kept q (State.xkStrokeRate s a1 a2) := by
  unfold State.xkStrokeRate
  try dsimp only
  with_reducible repeat' first | assumption | apply State.xkCmd_kept | apply State.modChan_kept | apply State.Kept.ite | intro _

theorem State.xkLightLead_kept {q s a1 a2} (hs : State.Kept q s) : State.Kept q (State.xkLightLead s a1 a2) := by
  unfold State.xkLightLead
  try dsimp only
  with_reducible repeat' first | assumption | apply State.xkCmd_kept | apply State.modChan_kept | apply State.Kept.ite | intro _

theorem State.xkTravelSettle_kept {q s a1 a2} (hs : State.Kept q s) : State.Kept q (State.xkTravelSettle s a1 a2) := by
  unfold State.xkTravelSettle
  try dsimp only
  with_reducible repeat' first | assumption | apply State.xkCmd_kept | apply State.modChan_kept | apply State.Kept.ite | intro _

theorem State.xkStrokeSettle_kept {q s a1 a2} (hs : State.Kept q s) : State.Kept q (State.xkStrokeSettle s a1 a2) := by
  unfold State.xkStrokeSettle
  try dsimp only
  with_reducible repeat' first | assumption | apply State.xkCmd_kept | apply State.modChan_kept | apply State.Kept.ite | intro _

theorem State.xkPowerCmd_kept {q s a1 a2} (hs : State.Kept q s) : State.Kept q (State.xkPowerCmd s a1 a2) := by
  unfold State.xkPowerCmd
  try dsimp only
  with_reducible repeat' first
      | assumption | apply State.xkCmd_kept | apply State.xkPower_kept | apply State.modBeam_kept | apply State.xkAt_kept | apply State.Kept.ite
      | intro _

theorem State.xkPulse_kept {q s a1 a2 a3} (hs : State.Kept q s) : State.Kept q (State.xkPulse s a1 a2 a3) := by
  unfold State.xkPulse
  try dsimp only
  with_reducible repeat' first | assumption | apply State.xkCmd_kept | apply State.modBeam_kept | apply State.Kept.ite | intro _

theorem State.xkAxAbs_kept {q s a1 a2 a3} (hs : State.Kept q s) : State.Kept q (State.xkAxAbs s a1 a2 a3) := by
  unfold State.xkAxAbs
  try dsimp only
  with_reducible repeat' first | assumption | apply State.xkCmd_kept | apply State.xkAxGive_kept | apply State.Kept.ite | intro _

theorem State.xkAxRel_kept {q s a1 a2 a3} (hs : State.Kept q s) : State.Kept q (State.xkAxRel s a1 a2 a3) := by
  unfold State.xkAxRel
  try dsimp only
  with_reducible repeat' first | assumption | apply State.xkCmd_kept | apply State.xkAxGive_kept | apply State.Kept.ite | intro _

theorem State.axSpeedWrite_kept {q s a1 a2} (hs : State.Kept q s) : State.Kept q (State.axSpeedWrite s a1 a2) := by
  unfold State.axSpeedWrite
  try dsimp only
  with_reducible repeat' first
      | assumption | apply State.plainWrite_kept | apply State.axMove_kept | apply State.showCap_kept | apply State.axPump_kept
      | apply State.axRun_kept | apply State.axVel_kept | apply State.Kept.ite

theorem State.xkSpeed_kept {q s a1 a2} (hs : State.Kept q s) : State.Kept q (State.xkSpeed s a1 a2) := by
  unfold State.xkSpeed
  try dsimp only
  with_reducible repeat' first | assumption | apply State.axSpeedWrite_kept

theorem State.xkAxSpeed_kept {q s a1 a2} (hs : State.Kept q s) : State.Kept q (State.xkAxSpeed s a1 a2) := by
  unfold State.xkAxSpeed
  try dsimp only
  with_reducible repeat' first | assumption | apply State.xkCmd_kept | apply State.xkSpeed_kept | apply State.Kept.ite | intro _

theorem State.axAccel_kept {q s a1} (hs : State.Kept q s) : State.Kept q (State.axAccel s a1) := by
  unfold State.axAccel
  try dsimp only
  with_reducible repeat' first
      | assumption | apply State.axMove_kept | apply State.axPump_kept | apply State.axRun_kept | apply State.modAxis_kept | apply State.axEvent_kept
      | apply State.setFlag_kept | apply State.axVel_kept | apply State.Kept.ite | intro _ | split

theorem State.axAccelWrite_kept {q s a1 a2} (hs : State.Kept q s) : State.Kept q (State.axAccelWrite s a1 a2) := by
  unfold State.axAccelWrite
  try dsimp only
  with_reducible repeat' first | assumption | apply State.axAccel_kept | apply State.plainWrite_kept

theorem State.xkAccel_kept {q s a1 a2} (hs : State.Kept q s) : State.Kept q (State.xkAccel s a1 a2) := by
  unfold State.xkAccel
  try dsimp only
  with_reducible repeat' first | assumption | apply State.axAccelWrite_kept

theorem State.xkAxAccel_kept {q s a1 a2} (hs : State.Kept q s) : State.Kept q (State.xkAxAccel s a1 a2) := by
  unfold State.xkAxAccel
  try dsimp only
  with_reducible repeat' first | assumption | apply State.xkCmd_kept | apply State.xkAccel_kept | apply State.Kept.ite | intro _

theorem State.xkAxHome_kept {q s a1 a2} (hs : State.Kept q s) : State.Kept q (State.xkAxHome s a1 a2) := by
  unfold State.xkAxHome
  try dsimp only
  with_reducible repeat' first | assumption | apply State.xkCmd_kept | apply State.xkAxGive_kept | apply State.Kept.ite | intro _

theorem State.xkVset_kept {q s a1 a2} (hs : State.Kept q s) : State.Kept q (State.xkVset s a1 a2) := by
  unfold State.xkVset
  try dsimp only
  with_reducible repeat' first | assumption | apply State.xkCmd_kept | apply State.setV16_kept | apply State.Kept.ite | intro _

theorem State.xkJump_kept {q s a1 a2 a3} (hs : State.Kept q s) : State.Kept q (State.xkJump s a1 a2 a3) := by
  unfold State.xkJump
  try dsimp only
  with_reducible repeat' first | assumption | apply State.xkGo_kept | apply State.Kept.ite

theorem State.xkJz_kept {q s a1 a2} (hs : State.Kept q s) : State.Kept q (State.xkJz s a1 a2) := by
  unfold State.xkJz
  try dsimp only
  with_reducible repeat' first | assumption | apply State.xkCmd_kept | apply State.xkJump_kept | apply State.Kept.ite | intro _

theorem State.xkJnz_kept {q s a1 a2} (hs : State.Kept q s) : State.Kept q (State.xkJnz s a1 a2) := by
  unfold State.xkJnz
  try dsimp only
  with_reducible repeat' first | assumption | apply State.xkCmd_kept | apply State.xkJump_kept | apply State.Kept.ite | intro _

theorem State.xkDjnz_kept {q s a1 a2} (hs : State.Kept q s) : State.Kept q (State.xkDjnz s a1 a2) := by
  unfold State.xkDjnz
  try dsimp only
  with_reducible repeat' first
      | assumption | apply State.xkCmd_kept | apply State.xkJump_kept | apply State.setV16_kept | apply State.Kept.ite | intro _

theorem State.xkTstamp_kept {q s a1 a2} (hs : State.Kept q s) : State.Kept q (State.xkTstamp s a1 a2) := by
  unfold State.xkTstamp
  try dsimp only
  with_reducible repeat' first
      | assumption | apply State.xkCmd_kept | apply State.xkAt_kept | apply State.setV16_kept | apply State.Kept.ite | intro _

theorem State.xkExec_kept {q s a1 a2 a3} (hs : State.Kept q s) : State.Kept q (State.xkExec s a1 a2 a3) := by
  unfold State.xkExec
  try dsimp only
  with_reducible repeat' first
      | assumption | apply State.xkNop_kept | apply State.xkFinish_kept | apply State.xkBranch_kept | apply State.xkCall_kept
      | apply State.xkReturn_kept | apply State.xkLoop_kept | apply State.xkAgain_kept | apply State.xkIdleT_kept | apply State.xkSyncCmd_kept
      | apply State.xkPause_kept | apply State.xkIrq_kept | apply State.xkWaitAx_kept | apply State.xkWaitV_kept | apply State.xkSwap_kept
      | apply State.xkStroke_kept | apply State.xkCurve_kept | apply State.xkFocus_kept | apply State.xkDwell_kept | apply State.xkLightOn_kept
      | apply State.xkLightOff_kept | apply State.xkTravelRate_kept | apply State.xkStrokeRate_kept | apply State.xkLightLead_kept
      | apply State.xkLightLag_kept | apply State.xkTravelSettle_kept | apply State.xkStrokeSettle_kept | apply State.xkBendSettle_kept
      | apply State.xkPowerCmd_kept | apply State.xkPulse_kept | apply State.xkAxAbs_kept | apply State.xkAxRel_kept | apply State.xkAxSpeed_kept
      | apply State.xkAxAccel_kept | apply State.xkAxStop_kept | apply State.xkAxHome_kept | apply State.xkVset_kept | apply State.xkVadd_kept
      | apply State.xkJz_kept | apply State.xkJnz_kept | apply State.xkDjnz_kept | apply State.xkTstamp_kept | apply State.xkCmd_kept
      | apply State.Kept.ite | intro _ | split

theorem State.xkNext_kept {q s a1} (hs : State.Kept q s) : State.Kept q (State.xkNext s a1) := by
  have h := State.listWord_kept (a1 := s.chFetch a1) hs
  exact State.Kept.ite (State.chHalt_kept h) (State.Kept.ite (State.xkExec_kept (State.listWord_kept h)) (State.xkExec_kept h))

theorem xkTickGo_kept {q} {a2 : Nat} : ∀ {a0 a1 s}, State.Kept q s → State.Kept q (xkTickGo a0 a1 a2 s) := by
  induction a2 with
  | zero =>
    intro a0 a1 s hs
    unfold xkTickGo
    try dsimp only
    with_reducible repeat' first | assumption | apply State.modChan_kept
  | succ n ih =>
    intro a0 a1 s hs
    unfold xkTickGo
    try dsimp only
    with_reducible repeat' first
        | assumption | apply State.modChan_kept | apply State.xkAt_kept | apply State.xkNext_kept | apply ih | apply State.Kept.ite

theorem State.via_kept {q s a1} (hs : State.Kept q s) (hf : ∀ s, State.Kept q s → OutKept q (a1 s)) : State.Kept q (State.via s a1) := by
  unfold State.via
  try dsimp only
  with_reducible repeat' first | assumption | (refine OutKept.of_eq (by assumption) ?_) | apply hf | apply State.Kept.ite | intro _ | split

theorem execAdd_kept {q a0 a1 a2 a3 a4 s} (hs : State.Kept q s) : OutKept q (execAdd a0 a1 a2 a3 a4 s) := by
  unfold execAdd
  try dsimp only
  with_reducible repeat' first | assumption | apply OutKept.next | apply State.aluRow_kept

theorem execAnd_kept {q a0 a1 a2 a3 a4 s} (hs : State.Kept q s) : OutKept q (execAnd a0 a1 a2 a3 a4 s) := by
  unfold execAnd
  try dsimp only
  with_reducible repeat' first | assumption | apply OutKept.next | apply State.aluRow_kept

theorem execOr_kept {q a0 a1 a2 a3 a4 s} (hs : State.Kept q s) : OutKept q (execOr a0 a1 a2 a3 a4 s) := by
  unfold execOr
  try dsimp only
  with_reducible repeat' first | assumption | apply OutKept.next | apply State.aluRow_kept

theorem execXor_kept {q a0 a1 a2 a3 a4 s} (hs : State.Kept q s) : OutKept q (execXor a0 a1 a2 a3 a4 s) := by
  unfold execXor
  try dsimp only
  with_reducible repeat' first | assumption | apply OutKept.next | apply State.aluRow_kept

theorem execSlt_kept {q a0 a1 a2 a3 a4 s} (hs : State.Kept q s) : OutKept q (execSlt a0 a1 a2 a3 a4 s) := by
  unfold execSlt
  try dsimp only
  with_reducible repeat' first | assumption | apply OutKept.next | apply State.aluRow_kept

theorem execMin_kept {q a0 a1 a2 a3 a4 s} (hs : State.Kept q s) : OutKept q (execMin a0 a1 a2 a3 a4 s) := by
  unfold execMin
  try dsimp only
  with_reducible repeat' first | assumption | apply OutKept.next | apply State.aluRow_kept

theorem execMax_kept {q a0 a1 a2 a3 a4 s} (hs : State.Kept q s) : OutKept q (execMax a0 a1 a2 a3 a4 s) := by
  unfold execMax
  try dsimp only
  with_reducible repeat' first | assumption | apply OutKept.next | apply State.aluRow_kept

theorem execMinu_kept {q a0 a1 a2 a3 a4 s} (hs : State.Kept q s) : OutKept q (execMinu a0 a1 a2 a3 a4 s) := by
  unfold execMinu
  try dsimp only
  with_reducible repeat' first | assumption | apply OutKept.next | apply State.aluRow_kept

theorem execMaxu_kept {q a0 a1 a2 a3 a4 s} (hs : State.Kept q s) : OutKept q (execMaxu a0 a1 a2 a3 a4 s) := by
  unfold execMaxu
  try dsimp only
  with_reducible repeat' first | assumption | apply OutKept.next | apply State.aluRow_kept

theorem execAddc_kept {q a0 a1 a2 a3 a4 s} (hs : State.Kept q s) : OutKept q (execAddc a0 a1 a2 a3 a4 s) := by
  unfold execAddc
  try dsimp only
  with_reducible repeat' first | assumption | apply OutKept.next | apply State.aluRow_kept

theorem execSubb_kept {q a0 a1 a2 a3 a4 s} (hs : State.Kept q s) : OutKept q (execSubb a0 a1 a2 a3 a4 s) := by
  unfold execSubb
  try dsimp only
  with_reducible repeat' first | assumption | apply OutKept.next | apply State.aluRow_kept

theorem execMul_kept {q a0 a1 a2 a3 a4 s} (hs : State.Kept q s) : OutKept q (execMul a0 a1 a2 a3 a4 s) := by
  unfold execMul
  try dsimp only
  with_reducible repeat' first | assumption | apply OutKept.next | apply State.aluRow_kept

theorem execMulh_kept {q a0 a1 a2 a3 a4 s} (hs : State.Kept q s) : OutKept q (execMulh a0 a1 a2 a3 a4 s) := by
  unfold execMulh
  try dsimp only
  with_reducible repeat' first | assumption | apply OutKept.next | apply State.aluRow_kept

theorem execMulhu_kept {q a0 a1 a2 a3 a4 s} (hs : State.Kept q s) : OutKept q (execMulhu a0 a1 a2 a3 a4 s) := by
  unfold execMulhu
  try dsimp only
  with_reducible repeat' first | assumption | apply OutKept.next | apply State.aluRow_kept

theorem State.divRow_kept {q s a1 a2 a3 a4 a5 a6 a7} (hs : State.Kept q s) : State.Kept q (State.divRow s a1 a2 a3 a4 a5 a6 a7) := by
  unfold State.divRow
  try dsimp only
  with_reducible repeat' first
      | assumption | (refine State.runLocal_kept ?_ fun x hx => ?_) | apply State.Kept.ite | intro _ | split | exact hx | apply Engine.alu_ok
      | apply Engine.Ok.upd

theorem execDiv_kept {q a0 a1 a2 a3 a4 s} (hs : State.Kept q s) : OutKept q (execDiv a0 a1 a2 a3 a4 s) := by
  unfold execDiv
  try dsimp only
  with_reducible repeat' first | assumption | apply OutKept.next | apply State.divRow_kept

theorem execDivu_kept {q a0 a1 a2 a3 a4 s} (hs : State.Kept q s) : OutKept q (execDivu a0 a1 a2 a3 a4 s) := by
  unfold execDivu
  try dsimp only
  with_reducible repeat' first | assumption | apply OutKept.next | apply State.divRow_kept

theorem execRem_kept {q a0 a1 a2 a3 a4 s} (hs : State.Kept q s) : OutKept q (execRem a0 a1 a2 a3 a4 s) := by
  unfold execRem
  try dsimp only
  with_reducible repeat' first | assumption | apply OutKept.next | apply State.divRow_kept

theorem execRemu_kept {q a0 a1 a2 a3 a4 s} (hs : State.Kept q s) : OutKept q (execRemu a0 a1 a2 a3 a4 s) := by
  unfold execRemu
  try dsimp only
  with_reducible repeat' first | assumption | apply OutKept.next | apply State.divRow_kept

theorem State.shiftRow_kept {q s a1 a2 a3 a4 a5 a6 a7} (hs : State.Kept q s) : State.Kept q (State.shiftRow s a1 a2 a3 a4 a5 a6 a7) := by
  unfold State.shiftRow
  try dsimp only
  with_reducible repeat' first
      | assumption | (refine State.runLocal_kept ?_ fun x hx => ?_) | apply State.Kept.ite | intro _ | split | exact hx | apply Engine.alu_ok

theorem execSll_kept {q a0 a1 a2 a3 a4 s} (hs : State.Kept q s) : OutKept q (execSll a0 a1 a2 a3 a4 s) := by
  unfold execSll
  try dsimp only
  with_reducible repeat' first | assumption | apply OutKept.next | apply State.shiftRow_kept

theorem execSrl_kept {q a0 a1 a2 a3 a4 s} (hs : State.Kept q s) : OutKept q (execSrl a0 a1 a2 a3 a4 s) := by
  unfold execSrl
  try dsimp only
  with_reducible repeat' first | assumption | apply OutKept.next | apply State.shiftRow_kept

theorem execSra_kept {q a0 a1 a2 a3 a4 s} (hs : State.Kept q s) : OutKept q (execSra a0 a1 a2 a3 a4 s) := by
  unfold execSra
  try dsimp only
  with_reducible repeat' first | assumption | apply OutKept.next | apply State.shiftRow_kept

theorem execRor_kept {q a0 a1 a2 a3 a4 s} (hs : State.Kept q s) : OutKept q (execRor a0 a1 a2 a3 a4 s) := by
  unfold execRor
  try dsimp only
  with_reducible repeat' first | assumption | apply OutKept.next | apply State.shiftRow_kept

theorem execAddi_kept {q a0 a1 a2 a3 s} (hs : State.Kept q s) : OutKept q (execAddi a0 a1 a2 a3 s) := by
  unfold execAddi
  try dsimp only
  with_reducible repeat' first | assumption | apply OutKept.next | apply State.immRow_kept

theorem execAndi_kept {q a0 a1 a2 a3 s} (hs : State.Kept q s) : OutKept q (execAndi a0 a1 a2 a3 s) := by
  unfold execAndi
  try dsimp only
  with_reducible repeat' first | assumption | apply OutKept.next | apply State.immRow_kept

theorem execOri_kept {q a0 a1 a2 a3 s} (hs : State.Kept q s) : OutKept q (execOri a0 a1 a2 a3 s) := by
  unfold execOri
  try dsimp only
  with_reducible repeat' first | assumption | apply OutKept.next | apply State.immRow_kept

theorem execXori_kept {q a0 a1 a2 a3 s} (hs : State.Kept q s) : OutKept q (execXori a0 a1 a2 a3 s) := by
  unfold execXori
  try dsimp only
  with_reducible repeat' first | assumption | apply OutKept.next | apply State.immRow_kept

theorem execSlti_kept {q a0 a1 a2 a3 s} (hs : State.Kept q s) : OutKept q (execSlti a0 a1 a2 a3 s) := by
  unfold execSlti
  try dsimp only
  with_reducible repeat' first | assumption | apply OutKept.next | apply State.immRow_kept

theorem execCmpi_kept {q a0 a1 a2 a3 s} (hs : State.Kept q s) : OutKept q (execCmpi a0 a1 a2 a3 s) := by
  unfold execCmpi
  try dsimp only
  with_reducible repeat' first
      | assumption | apply OutKept.next | (refine State.runLocal_kept ?_ fun x hx => ?_) | apply execLui_kept | apply State.Kept.ite | intro _
      | split | exact hx | apply Engine.Ok.upd

theorem execMulqa_kept {q a0 a1 a2 a3 s} (hs : State.Kept q s) : OutKept q (execMulqa a0 a1 a2 a3 s) := by
  unfold execMulqa
  try dsimp only
  with_reducible repeat' first
      | assumption | apply OutKept.next | (refine State.runLocal_kept ?_ fun x hx => ?_) | apply State.Kept.ite | intro _ | split | exact hx
      | apply Engine.setAcc_ok

theorem execClra_kept {q a0 a1 a2 a3 s} (hs : State.Kept q s) : OutKept q (execClra a0 a1 a2 a3 s) := by
  unfold execClra
  try dsimp only
  with_reducible repeat' first
      | assumption | apply OutKept.next | (refine State.runLocal_kept ?_ fun x hx => ?_) | apply execLui_kept | apply State.Kept.ite | intro _
      | split | exact hx | apply Engine.setAcc_ok

theorem execRndq_kept {q a0 a1 a2 a3 s} (hs : State.Kept q s) : OutKept q (execRndq a0 a1 a2 a3 s) := by
  unfold execRndq
  try dsimp only
  with_reducible repeat' first
      | assumption | apply OutKept.next | (refine State.runLocal_kept ?_ fun x hx => ?_) | apply execLui_kept | apply execMacq_kept
      | apply State.Kept.ite | intro _ | split | exact hx | apply Engine.setQ_ok

theorem execAddq_kept {q a0 a1 a2 a3 s} (hs : State.Kept q s) : OutKept q (execAddq a0 a1 a2 a3 s) := by
  unfold execAddq
  try dsimp only
  with_reducible repeat' first
      | assumption | apply OutKept.next | (refine State.runLocal_kept ?_ fun x hx => ?_) | apply State.Kept.ite | intro _ | split | exact hx
      | apply Engine.setQ_ok

theorem execSubq_kept {q a0 a1 a2 a3 s} (hs : State.Kept q s) : OutKept q (execSubq a0 a1 a2 a3 s) := by
  unfold execSubq
  try dsimp only
  with_reducible repeat' first
      | assumption | apply OutKept.next | (refine State.runLocal_kept ?_ fun x hx => ?_) | apply State.Kept.ite | intro _ | split | exact hx
      | apply Engine.setQ_ok

theorem execMulq_kept {q a0 a1 a2 a3 s} (hs : State.Kept q s) : OutKept q (execMulq a0 a1 a2 a3 s) := by
  unfold execMulq
  try dsimp only
  with_reducible repeat' first
      | assumption | apply OutKept.next | (refine State.runLocal_kept ?_ fun x hx => ?_) | apply State.Kept.ite | intro _ | split | exact hx
      | apply Engine.setQ_ok

theorem execAdda_kept {q a0 a1 a2 a3 s} (hs : State.Kept q s) : OutKept q (execAdda a0 a1 a2 a3 s) := by
  unfold execAdda
  try dsimp only
  with_reducible repeat' first
      | assumption | apply OutKept.next | (refine State.runLocal_kept ?_ fun x hx => ?_) | apply execLui_kept | apply execMacq_kept
      | apply State.Kept.ite | intro _ | split | exact hx | apply Engine.setAcc_ok

theorem execAsha_kept {q a0 a1 a2 a3 s} (hs : State.Kept q s) : OutKept q (execAsha a0 a1 a2 a3 s) := by
  unfold execAsha
  try dsimp only
  with_reducible repeat' first
      | assumption | apply OutKept.next | (refine State.runLocal_kept ?_ fun x hx => ?_) | apply execLui_kept | apply execMacq_kept
      | apply State.Kept.ite | intro _ | split | exact hx | apply Engine.setAcc_ok

theorem execRdal_kept {q a0 a1 a2 a3 s} (hs : State.Kept q s) : OutKept q (execRdal a0 a1 a2 a3 s) := by
  unfold execRdal
  try dsimp only
  with_reducible repeat' first
      | assumption | apply OutKept.next | (refine State.runLocal_kept ?_ fun x hx => ?_) | apply execLui_kept | apply execMacq_kept
      | apply State.Kept.ite | intro _ | split | exact hx | apply Engine.setG_ok

theorem execRdah_kept {q a0 a1 a2 a3 s} (hs : State.Kept q s) : OutKept q (execRdah a0 a1 a2 a3 s) := by
  unfold execRdah
  try dsimp only
  with_reducible repeat' first
      | assumption | apply OutKept.next | (refine State.runLocal_kept ?_ fun x hx => ?_) | apply execLui_kept | apply execMacq_kept
      | apply State.Kept.ite | intro _ | split | exact hx | apply Engine.setG_ok

theorem execWra_kept {q a0 a1 a2 a3 s} (hs : State.Kept q s) : OutKept q (execWra a0 a1 a2 a3 s) := by
  unfold execWra
  try dsimp only
  with_reducible repeat' first
      | assumption | apply OutKept.next | (refine State.runLocal_kept ?_ fun x hx => ?_) | apply execMacq_kept | apply State.Kept.ite | intro _
      | split | exact hx | apply Engine.Ok.upd

theorem execMovqa_kept {q a0 a1 a2 a3 s} (hs : State.Kept q s) : OutKept q (execMovqa a0 a1 a2 a3 s) := by
  unfold execMovqa
  try dsimp only
  with_reducible repeat' first
      | assumption | apply OutKept.next | (refine State.runLocal_kept ?_ fun x hx => ?_) | apply execLui_kept | apply execMacq_kept
      | apply State.Kept.ite | intro _ | split | exact hx | apply Engine.Ok.upd

theorem State.load_kept {q s a1 a2 a3 a4 a5 a6 a7} (hs : State.Kept q s) : State.Kept q (State.load s a1 a2 a3 a4 a5 a6 a7) := by
  unfold State.load
  try dsimp only
  with_reducible repeat' first
      | assumption | apply State.runEng_kept | (refine State.loadData_kept ?_ fun _ x hx => ?_) | apply State.Kept.ite | apply Eff.Kept.done
      | intro _ | split | exact hx | apply Engine.setG_ok

theorem execLw_kept {q a0 a1 a2 a3 s} (hs : State.Kept q s) : OutKept q (execLw a0 a1 a2 a3 s) := by
  unfold execLw
  try dsimp only
  with_reducible repeat' first | assumption | apply OutKept.next | apply State.load_kept

theorem execLh_kept {q a0 a1 a2 a3 s} (hs : State.Kept q s) : OutKept q (execLh a0 a1 a2 a3 s) := by
  unfold execLh
  try dsimp only
  with_reducible repeat' first | assumption | apply OutKept.next | apply State.load_kept

theorem execLhu_kept {q a0 a1 a2 a3 s} (hs : State.Kept q s) : OutKept q (execLhu a0 a1 a2 a3 s) := by
  unfold execLhu
  try dsimp only
  with_reducible repeat' first | assumption | apply OutKept.next | apply State.load_kept

theorem execLb_kept {q a0 a1 a2 a3 s} (hs : State.Kept q s) : OutKept q (execLb a0 a1 a2 a3 s) := by
  unfold execLb
  try dsimp only
  with_reducible repeat' first | assumption | apply OutKept.next | apply State.load_kept

theorem execLbu_kept {q a0 a1 a2 a3 s} (hs : State.Kept q s) : OutKept q (execLbu a0 a1 a2 a3 s) := by
  unfold execLbu
  try dsimp only
  with_reducible repeat' first | assumption | apply OutKept.next | apply State.load_kept

theorem State.resetWrite_kept {q s a1 a2 a3} (hs : State.Kept q s) : State.Kept q (State.resetWrite s a1 a2 a3) := by
  unfold State.resetWrite
  try dsimp only
  with_reducible repeat' first
      | assumption | apply State.fullReset_kept | apply State.coreReset_kept | apply State.modHost_kept | apply State.Kept.ite | intro _ | split

theorem State.bootHostWrite_kept {q s a1} (hs : State.Kept q s) : State.Kept q (State.bootHostWrite s a1) := by
  unfold State.bootHostWrite
  try dsimp only
  with_reducible repeat' first
      | assumption | apply State.plainWrite_kept | apply State.siloImage_kept | (refine State.siloImage_kept_eq (by assumption) ?_)
      | apply State.put_kept | apply State.setFlag_kept | apply State.Kept.ite
      | (refine State.Kept.upd ?_; first | assumption | apply State.plainWrite_kept | apply State.siloImage_kept | (refine State.siloImage_kept_eq (by assumption) ?_) | apply State.put_kept)

theorem State.policyWrite_kept {q s a1 a2 a3} (hs : State.Kept q s) : State.Kept q (State.policyWrite s a1 a2 a3) := by
  unfold State.policyWrite
  try dsimp only
  with_reducible repeat' first | assumption | apply State.plainWrite_kept | apply State.wakeDomain_kept | apply State.Kept.ite

theorem State.w1cWrite_kept {q s a1 a2 a3} (hs : State.Kept q s) : State.Kept q (State.w1cWrite s a1 a2 a3) := by
  unfold State.w1cWrite
  try dsimp only
  with_reducible repeat' first | assumption | apply State.Kept.ite | apply State.Kept.setReg

theorem State.leaveWaits_kept {q s a1} (hs : State.Kept q s) : State.Kept q (State.leaveWaits s a1) := by
  unfold State.leaveWaits
  try dsimp only
  with_reducible repeat' first
      | assumption | apply State.modArb_kept | apply State.dropTent_kept | apply State.withdraw_kept | apply State.Kept.ite | intro _ | split

theorem State.haltBeam_kept {q s a1} (hs : State.Kept q s) : State.Kept q (State.haltBeam s a1) := by
  unfold State.haltBeam
  try dsimp only
  with_reducible repeat' first
      | assumption | apply State.stopBeam_kept | (apply State.Kept.forEach; intro _ _ _) | apply State.endSwath_kept | apply State.Kept.ite | intro _
      | split

theorem State.engReset_kept {q s a1} (hs : State.Kept q s) : State.Kept q (State.engReset s a1) := by
  unfold State.engReset
  try dsimp only
  with_reducible repeat' first
      | assumption | apply State.leaveWaits_kept | apply State.haltBeam_kept | apply State.setFlag_kept
      | (refine State.modEng_kept ?_ fun x hx => ?_) | apply State.modBeam_kept | apply State.Kept.ite | intro _ | split | exact hx
      | apply Engine.fresh_ok

theorem State.engStart_kept {q s a1} (hs : State.Kept q s) : State.Kept q (State.engStart s a1) := by
  unfold State.engStart
  try dsimp only
  with_reducible repeat' first
      | assumption | (refine State.modEng_kept ?_ fun x hx => ?_) | apply State.setFlag_kept | apply State.engFault_kept | apply State.modBeam_kept
      | apply State.enterException_kept | apply State.wdogReload_kept | apply State.Kept.ite | intro _ | split | exact hx | apply Engine.Ok.upd

theorem State.engRun_kept {q s a1} (hs : State.Kept q s) : State.Kept q (State.engRun s a1) := by
  unfold State.engRun
  try dsimp only
  with_reducible repeat' first | assumption | apply State.engStart_kept | apply State.setFlag_kept | apply State.Kept.ite

theorem State.engStop_kept {q s a1} (hs : State.Kept q s) : State.Kept q (State.engStop s a1) := by
  unfold State.engStop
  try dsimp only
  with_reducible repeat' first
      | assumption | apply State.leaveWaits_kept | apply State.haltBeam_kept | (refine State.modEng_kept ?_ fun x hx => ?_)
      | apply State.setFlag_kept | apply State.wdogSync_kept | apply State.Kept.ite | intro _ | split | exact hx | apply Engine.Ok.upd

theorem State.engCtrlWrite_kept {q s a1 a2 a3} (hs : State.Kept q s) : State.Kept q (State.engCtrlWrite s a1 a2 a3) := by
  unfold State.engCtrlWrite
  try dsimp only
  with_reducible repeat' first
      | assumption | apply State.w1cWrite_kept | apply State.engReset_kept | apply State.engRun_kept | apply State.engStop_kept
      | apply State.Kept.ite

theorem State.engWdogWrite_kept {q s a1 a2 a3} (hs : State.Kept q s) : State.Kept q (State.engWdogWrite s a1 a2 a3) := by
  unfold State.engWdogWrite
  try dsimp only
  with_reducible repeat' first | assumption | apply State.wdogReload_kept | apply State.plainWrite_kept | apply State.Kept.ite

theorem State.writeSys_kept {q s a1 a2 a3 a4} (hs : State.Kept q s) : State.Kept q (State.writeSys s a1 a2 a3 a4) := by
  unfold State.writeSys
  try dsimp only
  with_reducible repeat' first
      | assumption | apply State.showLeff_kept | apply State.plainWrite_kept | apply State.resetWrite_kept | apply State.bootHostWrite_kept
      | apply State.policyWrite_kept | apply State.engCtrlWrite_kept | apply State.engWdogWrite_kept | apply State.Kept.ite | intro _ | split

end Sys2Proof.Machine
end

