-- ==== Sys2Proof/Laws/Kept3.lean ====
section
/-! SUPPORT. Each operation and command leaves the queue alone and the stores canonical, part 3 of 5: callees before
their callers. -/

namespace Sys2Proof.Machine

theorem State.stepRequest_kept {q s} (hs : State.Kept q s) : State.Kept q (State.stepRequest s) := by
  unfold State.stepRequest
  try dsimp only
  with_reducible repeat' first | assumption | apply State.modTime_kept | apply State.setFlag_kept | apply State.Kept.ite

theorem State.loseDomain_kept {q s a1} (hs : State.Kept q s) : State.Kept q (State.loseDomain s a1) := by
  unfold State.loseDomain
  try dsimp only
  with_reducible repeat' first | assumption | apply State.setFlag_kept | apply State.domChanged_kept | apply State.raise_kept | apply State.Kept.ite

theorem State.domCfgWrite_kept {q s a1 a2 a3} (hs : State.Kept q s) : State.Kept q (State.domCfgWrite s a1 a2 a3) := by
  unfold State.domCfgWrite
  try dsimp only
  with_reducible repeat' first
      | assumption | apply State.plainWrite_kept | apply State.latchOfs_kept | apply State.modDom_kept | apply State.put_kept
      | apply State.loseDomain_kept | apply State.setFlag_kept | apply State.Kept.ite

theorem State.writeTime_kept {q s a1 a2 a3} (hs : State.Kept q s) : State.Kept q (State.writeTime s a1 a2 a3) := by
  unfold State.writeTime
  try dsimp only
  with_reducible repeat' first
      | assumption | apply State.plainWrite_kept | apply State.stepRequest_kept | apply State.writeSys_kept | apply State.domCfgWrite_kept
      | apply State.gcellCfgWrite_kept | apply State.Kept.ite | intro _ | split

theorem State.condWrite_kept {q s a1 a2 a3 a4 a5} (hs : State.Kept q s) : State.Kept q (State.condWrite s a1 a2 a3 a4 a5).1 := by
  unfold State.condWrite
  try dsimp only
  with_reducible repeat' first
      | assumption | apply State.plainWrite_kept | apply State.setFlag_kept | apply State.w1cWrite_kept | apply State.Kept.ite | intro _ | split

theorem State.condWrite_kept_eq {q s a1 a2 a3 a4 a5 w t} (e : State.condWrite s a1 a2 a3 a4 a5 = (t, w)) (hs : State.Kept q s) : State.Kept q t := by
  have h : State.Kept q (State.condWrite s a1 a2 a3 a4 a5).1 := State.condWrite_kept hs
  rw [e] at h
  exact h

theorem State.showSpDiv_kept {q s a1} (hs : State.Kept q s) : State.Kept q (State.showSpDiv s a1) := by
  unfold State.showSpDiv
  try dsimp only
  with_reducible repeat' first | assumption | apply State.put_kept

theorem State.corrBaseWrite_kept {q s a1 a2 a3} (hs : State.Kept q s) : State.Kept q (State.corrBaseWrite s a1 a2 a3) := by
  unfold State.corrBaseWrite
  try dsimp only
  with_reducible repeat' first | assumption | apply State.setFlag_kept | apply State.plainWrite_kept | apply State.Kept.ite

theorem State.alarmAgain_kept {q s a1} (hs : State.Kept q s) : State.Kept q (State.alarmAgain s a1) := by
  unfold State.alarmAgain
  try dsimp only
  with_reducible repeat' first | assumption | apply State.modTraj_kept | apply State.setFlag_kept | apply State.Kept.ite

theorem State.permitResume_kept {q s a1} (hs : State.Kept q s) : State.Kept q (State.permitResume s a1) := by
  unfold State.permitResume
  try dsimp only
  with_reducible repeat' first | assumption | apply State.resumeBeam_kept | apply State.setFlag_kept

theorem State.laserResume_kept {q s a1} (hs : State.Kept q s) : State.Kept q (State.laserResume s a1) := by
  unfold State.laserResume
  try dsimp only
  with_reducible repeat' first | assumption | apply State.permitResume_kept | apply State.Kept.ite

theorem State.laserCfgWrite_kept {q s a1 a2 a3} (hs : State.Kept q s) : State.Kept q (State.laserCfgWrite s a1 a2 a3) := by
  unfold State.laserCfgWrite
  try dsimp only
  with_reducible repeat' first
      | assumption | apply State.plainWrite_kept | apply State.alarmAgain_kept | apply State.setFlag_kept | apply State.laserResume_kept
      | apply State.Kept.ite

theorem State.writeBeam_kept {q s a1 a2 a3 a4 a5} (hs : State.Kept q s) : State.Kept q (State.writeBeam s a1 a2 a3 a4 a5) := by
  unfold State.writeBeam
  try dsimp only
  with_reducible repeat' first
      | assumption | apply State.condWrite_kept | (refine State.condWrite_kept_eq (by assumption) ?_) | apply State.showSpDiv_kept
      | apply State.corrBaseWrite_kept | apply State.laserCfgWrite_kept | apply State.plainWrite_kept | apply State.Kept.ite

theorem State.retireWrite_kept {q s a1} (hs : State.Kept q s) : State.Kept q (State.retireWrite s a1) := by
  unfold State.retireWrite
  try dsimp only
  with_reducible repeat' first | assumption | (apply State.Kept.forEach; intro _ _ _) | apply State.retire_kept

theorem State.unretire_kept {q s a1} (hs : State.Kept q s) : State.Kept q (State.unretire s a1) := by
  unfold State.unretire
  try dsimp only
  with_reducible repeat' first | assumption | apply State.modArb_kept | apply State.put_kept | apply State.setFlag_kept | apply State.Kept.ite

theorem State.retireClear_kept {q s a1} (hs : State.Kept q s) : State.Kept q (State.retireClear s a1) := by
  unfold State.retireClear
  try dsimp only
  with_reducible repeat' first | assumption | (apply State.Kept.forEach; intro _ _ _) | apply State.unretire_kept

theorem State.writeArb_kept {q s a1 a2 a3} (hs : State.Kept q s) : State.Kept q (State.writeArb s a1 a2 a3) := by
  unfold State.writeArb
  try dsimp only
  with_reducible repeat' first
      | assumption | apply State.retireWrite_kept | apply State.retireClear_kept | apply State.condWrite_kept
      | (refine State.condWrite_kept_eq (by assumption) ?_) | apply State.writeSys_kept | apply State.peersFollow_kept | apply State.put_kept
      | apply State.Kept.ite | intro _ | split

theorem State.writeBed_kept {q s a1 a2 a3} (hs : State.Kept q s) : State.Kept q (State.writeBed s a1 a2 a3) := by
  unfold State.writeBed
  try dsimp only
  with_reducible repeat' first
      | assumption | apply State.condWrite_kept | (refine State.condWrite_kept_eq (by assumption) ?_) | apply State.setFlag_kept
      | apply State.Kept.ite
      | (refine State.Kept.upd ?_; first | assumption | apply State.condWrite_kept | (refine State.condWrite_kept_eq (by assumption) ?_) | apply State.setFlag_kept)

theorem State.modLoop_kept {q s a1 a2} (hs : State.Kept q s) : State.Kept q (State.modLoop s a1 a2) := by
  unfold State.modLoop
  try dsimp only
  with_reducible repeat' first | assumption | apply State.Kept.ite | (refine State.Kept.upd ?_; first | assumption)

theorem State.decideRates_kept {q s} (hs : State.Kept q s) : State.Kept q (State.decideRates s) := by
  unfold State.decideRates
  try dsimp only
  with_reducible repeat' first | assumption | (apply State.Kept.forEach; intro _ _ _) | apply State.modLoop_kept

theorem State.loopAdmit_kept {q s a1 a2} (hs : State.Kept q s) : State.Kept q (State.loopAdmit s a1 a2) := by
  unfold State.loopAdmit
  try dsimp only
  with_reducible repeat' first
      | assumption | apply State.put_kept | apply State.setFlag_kept | apply State.decideRates_kept | apply State.Kept.ite | apply State.Kept.setReg
      | intro _ | split

theorem State.loopCfgWrite_kept {q s a1 a2 a3} (hs : State.Kept q s) : State.Kept q (State.loopCfgWrite s a1 a2 a3) := by
  unfold State.loopCfgWrite
  try dsimp only
  with_reducible repeat' first | assumption | apply State.w1cWrite_kept | apply State.loopAdmit_kept | apply State.setFlag_kept | apply State.Kept.ite

theorem State.capStop_kept {q s} (hs : State.Kept q s) : State.Kept q (State.capStop s) := by
  unfold State.capStop
  try dsimp only
  with_reducible repeat' first
      | assumption | apply State.setFlag_kept | (apply State.Kept.forEach; intro _ _ _) | apply State.modLoop_kept | apply State.Kept.ite
      | (refine State.Kept.upd ?_; first | assumption | apply State.setFlag_kept)

theorem State.capArm_kept {q s a1} (hs : State.Kept q s) : State.Kept q (State.capArm s a1) := by
  unfold State.capArm
  try dsimp only
  with_reducible repeat' first
      | assumption | apply State.plainWrite_kept | apply State.setFlag_kept | apply State.put_kept | apply State.Kept.ite
      | (refine State.Kept.upd ?_; first | assumption | apply State.plainWrite_kept | apply State.setFlag_kept)

theorem State.capCfgWrite_kept {q s a1} (hs : State.Kept q s) : State.Kept q (State.capCfgWrite s a1) := by
  unfold State.capCfgWrite
  try dsimp only
  with_reducible repeat' first
      | assumption | apply State.setFlag_kept | apply State.capStop_kept | apply State.capArm_kept | apply State.plainWrite_kept
      | apply State.Kept.ite

theorem State.injWrite_kept {q s a1 a2} (hs : State.Kept q s) : State.Kept q (State.injWrite s a1 a2) := by
  unfold State.injWrite
  try dsimp only
  with_reducible repeat' first
      | assumption | apply State.plainWrite_kept | apply State.setFlag_kept | apply State.Kept.ite
      | (refine State.Kept.upd ?_; first | assumption | apply State.plainWrite_kept)

theorem State.loopGo_kept {q s a1} (hs : State.Kept q s) : State.Kept q (State.loopGo s a1) := by
  unfold State.loopGo
  try dsimp only
  with_reducible repeat' first | assumption | apply State.put_kept | apply State.setFlag_kept

theorem State.writeLoop_kept {q s a1 a2 a3} (hs : State.Kept q s) : State.Kept q (State.writeLoop s a1 a2 a3) := by
  unfold State.writeLoop
  try dsimp only
  with_reducible repeat' first
      | assumption | apply State.loopCfgWrite_kept | apply State.capCfgWrite_kept | apply State.condWrite_kept
      | (refine State.condWrite_kept_eq (by assumption) ?_) | apply State.injWrite_kept | apply State.writeTime_kept | apply State.plainWrite_kept
      | apply State.loopGo_kept | apply State.Kept.ite

theorem State.imgErr_kept {q s a1} (hs : State.Kept q s) : State.Kept q (State.imgErr s a1) := by
  unfold State.imgErr
  try dsimp only
  with_reducible repeat' first | assumption | apply State.put_kept | apply State.setFlag_kept

theorem State.cutUnit_kept {q s a1} (hs : State.Kept q s) : State.Kept q (State.cutUnit s a1) := by
  unfold State.cutUnit
  try dsimp only
  with_reducible repeat' first | assumption | (apply State.Kept.forEach; intro _ _ _) | apply State.modPipe_kept

theorem State.showPipeLoad_kept {q s} (hs : State.Kept q s) : State.Kept q (State.showPipeLoad s) := by
  unfold State.showPipeLoad
  try dsimp only
  with_reducible repeat' first | assumption | (apply State.Kept.forEach; intro _ _ _) | apply State.put_kept

theorem State.camCfgWrite_kept {q s a1 a2 a3} (hs : State.Kept q s) : State.Kept q (State.camCfgWrite s a1 a2 a3) := by
  unfold State.camCfgWrite
  try dsimp only
  with_reducible repeat' first
      | assumption | apply State.plainWrite_kept | apply State.setFlag_kept | apply State.imgErr_kept | apply State.dropLanding_kept
      | apply State.cutUnit_kept | (apply State.Kept.forEach; intro _ _ _) | apply State.freeSlot_kept | apply State.showPipeLoad_kept
      | apply State.put_kept | apply State.Kept.ite

theorem State.camCtxWrite_kept {q s a1 a2 a3} (hs : State.Kept q s) : State.Kept q (State.camCtxWrite s a1 a2 a3) := by
  unfold State.camCtxWrite
  try dsimp only
  with_reducible repeat' first | assumption | apply State.setFlag_kept | apply State.plainWrite_kept | apply State.Kept.ite

theorem execCamSetCommit_kept {q a0 a1 s} (hs : State.Kept q s) : OutKept q (execCamSetCommit a0 a1 s) := by
  unfold execCamSetCommit
  try dsimp only
  with_reducible repeat' first
      | assumption | apply OutKept.next | apply State.put_kept | apply State.setFlag_kept | apply State.sendCamSet_kept | apply State.modStream_kept

theorem State.writeImg_kept {q s a1 a2 a3} (hs : State.Kept q s) : State.Kept q (State.writeImg s a1 a2 a3) := by
  unfold State.writeImg
  try dsimp only
  with_reducible repeat' first
      | assumption | apply State.camCfgWrite_kept | apply State.condWrite_kept | (refine State.condWrite_kept_eq (by assumption) ?_)
      | apply State.imgErr_kept | apply State.showPipeLoad_kept | apply State.plainWrite_kept | apply State.camCtxWrite_kept | apply State.via_kept
      | apply execCamSetCommit_kept | apply State.Kept.ite

theorem State.axGo_kept {q s a1} (hs : State.Kept q s) : State.Kept q (State.axGo s a1) := by
  unfold State.axGo
  try dsimp only
  with_reducible repeat' first
      | assumption | apply State.axPump_kept | apply State.axStart_kept | apply State.modAxis_kept | apply State.setAxState_kept
      | apply State.Kept.ite | intro _ | split

theorem execAxGo_kept {q a0 s} (hs : State.Kept q s) : OutKept q (execAxGo a0 s) := by
  unfold execAxGo
  try dsimp only
  with_reducible repeat' first | assumption | apply OutKept.next | (apply State.Kept.forEach; intro _ _ _) | apply State.axGo_kept

theorem State.axCommand_kept {q s a1 a2 a3} (hs : State.Kept q s) : State.Kept q (State.axCommand s a1 a2 a3) := by
  unfold State.axCommand
  try dsimp only
  with_reducible repeat' first | assumption | apply State.axGive_kept

theorem State.axBrWrite_kept {q s a1 a2 a3} (hs : State.Kept q s) : State.Kept q (State.axBrWrite s a1 a2 a3) := by
  unfold State.axBrWrite
  try dsimp only
  with_reducible repeat' first | assumption | apply State.setFlag_kept | apply State.Kept.ite | apply State.Kept.setReg

theorem State.writeAxes_kept {q s a1 a2 a3} (hs : State.Kept q s) : State.Kept q (State.writeAxes s a1 a2 a3) := by
  unfold State.writeAxes
  try dsimp only
  with_reducible repeat' first
      | assumption | apply State.via_kept | apply execAxGo_kept | apply State.axCfgWrite_kept | apply State.axSpeedWrite_kept
      | apply State.axAccelWrite_kept | apply State.axCommand_kept | apply State.condWrite_kept | (refine State.condWrite_kept_eq (by assumption) ?_)
      | apply State.axBrWrite_kept | apply State.plainWrite_kept | apply State.Kept.ite

theorem State.refWrite_kept {q s a1 a2} (hs : State.Kept q s) : State.Kept q (State.refWrite s a1 a2) := by
  unfold State.refWrite
  try dsimp only
  with_reducible repeat' first
      | assumption | apply State.plainWrite_kept | (apply State.Kept.forEach; intro _ _ _) | apply State.setFlag_kept | apply State.Kept.ite

theorem State.eyeCmdWrite_kept {q s a1 a2} (hs : State.Kept q s) : State.Kept q (State.eyeCmdWrite s a1 a2) := by
  unfold State.eyeCmdWrite
  try dsimp only
  with_reducible repeat' first
      | assumption | apply State.plainWrite_kept | apply State.setFlag_kept | apply State.Kept.ite
      | (refine State.Kept.upd ?_; first | assumption | apply State.plainWrite_kept | apply State.setFlag_kept)

theorem State.quadWrite_kept {q s a1 a2 a3} (hs : State.Kept q s) : State.Kept q (State.quadWrite s a1 a2 a3) := by
  unfold State.quadWrite
  try dsimp only
  with_reducible repeat' first
      | assumption | apply State.condWrite_kept | (refine State.condWrite_kept_eq (by assumption) ?_) | apply State.setFlag_kept
      | apply State.Kept.ite

theorem State.leaveOff_kept {q s a1} (hs : State.Kept q s) : State.Kept q (State.leaveOff s a1) := by
  unfold State.leaveOff
  try dsimp only
  with_reducible repeat' first | assumption | apply State.enterLane_kept | apply State.enterSeek_kept | apply State.Kept.ite

theorem State.lnCfgWrite_kept {q s a1 a2 a3} (hs : State.Kept q s) : State.Kept q (State.lnCfgWrite s a1 a2 a3) := by
  unfold State.lnCfgWrite
  try dsimp only
  with_reducible repeat' first
      | assumption | apply State.condWrite_kept | (refine State.condWrite_kept_eq (by assumption) ?_) | apply State.enterOff_kept
      | apply State.leaveOff_kept | apply State.Kept.ite | apply State.Kept.setReg

theorem State.lnClrRefused_kept {q s a1} (hs : State.Kept q s) : State.Kept q (State.lnClrRefused s a1) := by
  unfold State.lnClrRefused
  try dsimp only
  with_reducible repeat' first | assumption | apply State.setFlag_kept

theorem State.lnRetrain_kept {q s a1} (hs : State.Kept q s) : State.Kept q (State.lnRetrain s a1) := by
  unfold State.lnRetrain
  try dsimp only
  with_reducible repeat' first | assumption | apply State.trigger_kept | apply State.Kept.ite

theorem State.lnCtrlWrite_kept {q s a1 a2 a3} (hs : State.Kept q s) : State.Kept q (State.lnCtrlWrite s a1 a2 a3) := by
  unfold State.lnCtrlWrite
  try dsimp only
  with_reducible repeat' first
      | assumption | apply State.lnClrRefused_kept | apply State.lnUnretire_kept | apply State.lnRetrain_kept | apply State.Kept.ite

theorem State.writeLanes_kept {q s a1 a2 a3} (hs : State.Kept q s) : State.Kept q (State.writeLanes s a1 a2 a3) := by
  unfold State.writeLanes
  try dsimp only
  with_reducible repeat' first
      | assumption | apply State.refWrite_kept | apply State.eyeCmdWrite_kept | apply State.quadWrite_kept | apply State.lnCfgWrite_kept
      | apply State.lnCtrlWrite_kept | apply State.plainWrite_kept | apply State.Kept.ite | intro _ | split

theorem State.clearPaths_kept {q s} (hs : State.Kept q s) : State.Kept q (State.clearPaths s) := by
  unfold State.clearPaths
  try dsimp only
  with_reducible repeat' first
      | assumption | apply State.modFab_kept | (apply State.Kept.forEach; intro _ _ _) | apply State.showRoute_kept | apply State.peersFollow_kept
      | apply State.put_kept

theorem State.axKeyBack_kept {q s} (hs : State.Kept q s) : State.Kept q (State.axKeyBack s) := by
  unfold State.axKeyBack
  try dsimp only
  with_reducible repeat' first | assumption | (apply State.Kept.forEach; intro _ _ _) | apply State.setFlag_kept | apply State.setAxState_kept

theorem State.leaveFabric_kept {q s} (hs : State.Kept q s) : State.Kept q (State.leaveFabric s) := by
  unfold State.leaveFabric
  try dsimp only
  with_reducible repeat' first
      | assumption | apply State.setRole_kept | apply State.clearPaths_kept | apply State.setFlag_kept | apply State.axKeyBack_kept
      | apply State.Kept.ite

theorem State.joinFabric_kept {q s} (hs : State.Kept q s) : State.Kept q (State.joinFabric s) := by
  unfold State.joinFabric
  try dsimp only
  with_reducible repeat' first
      | assumption | apply State.axKeyLost_kept | apply State.clearPaths_kept | (apply State.Kept.forEach; intro _ _ _) | apply State.setFlag_kept
      | apply State.expireIn_kept | apply State.setRole_kept | apply State.Kept.ite
      | (refine State.Kept.upd ?_; first | assumption | apply State.axKeyLost_kept | apply State.clearPaths_kept)

theorem State.fabricCfgWrite_kept {q s a1 a2} (hs : State.Kept q s) : State.Kept q (State.fabricCfgWrite s a1 a2) := by
  unfold State.fabricCfgWrite
  try dsimp only
  with_reducible repeat' first
      | assumption | apply State.releaseKey_kept | apply State.leaveFabric_kept | apply State.condWrite_kept
      | (refine State.condWrite_kept_eq (by assumption) ?_) | apply State.joinFabric_kept | apply State.Kept.ite

theorem State.writeFabric_kept {q s a1 a2 a3} (hs : State.Kept q s) : State.Kept q (State.writeFabric s a1 a2 a3) := by
  unfold State.writeFabric
  try dsimp only
  with_reducible repeat' first
      | assumption | apply State.fabricCfgWrite_kept | apply State.condWrite_kept | (refine State.condWrite_kept_eq (by assumption) ?_)
      | apply State.put_kept | apply State.plainWrite_kept | apply State.Kept.ite

theorem State.computeStencil_kept {q s} (hs : State.Kept q s) : State.Kept q (State.computeStencil s) := by
  unfold State.computeStencil
  try dsimp only
  with_reducible repeat' first | assumption | apply State.setFlag_kept | apply State.Kept.ite | (refine State.Kept.upd ?_; first | assumption)

theorem State.startArming_kept {q s} (hs : State.Kept q s) : State.Kept q (State.startArming s) := by
  unfold State.startArming
  try dsimp only
  with_reducible repeat' first
      | assumption | apply State.setFlag_kept | apply State.computeStencil_kept | apply State.enterLy_kept | apply State.put_kept
      | (apply State.Kept.forEach; intro _ _ _) | apply State.modArb_kept | apply State.Kept.ite
      | (refine State.Kept.upd ?_; first | assumption | apply State.setFlag_kept | apply State.computeStencil_kept | apply State.enterLy_kept | apply State.put_kept)

theorem State.scheduleNow_kept {q s} (hs : State.Kept q s) : State.Kept q (State.scheduleNow s).2 := by
  unfold State.scheduleNow
  try dsimp only
  with_reducible repeat' first | assumption | apply State.startArming_kept | apply State.Kept.ite | intro _ | split

theorem State.scheduleNow_kept_eq {q s w t} (e : State.scheduleNow s = (w, t)) (hs : State.Kept q s) : State.Kept q t := by
  have h : State.Kept q (State.scheduleNow s).2 := State.scheduleNow_kept hs
  rw [e] at h
  exact h

theorem execSchedule_kept {q s} (hs : State.Kept q s) : OutKept q (execSchedule s) := by
  unfold execSchedule
  try dsimp only
  with_reducible repeat' first
      | assumption | apply OutKept.next | apply State.layerResult_kept | apply State.scheduleNow_kept
      | (refine State.scheduleNow_kept_eq (by assumption) ?_) | apply State.Kept.ite | apply Eff.Kept.done | apply Eff.Kept.jump
      | apply Eff.Kept.hold | apply Eff.Kept.exc | apply Eff.Kept.stall | apply Eff.Kept.ite
      | (refine State.Kept.upd ?_; first | assumption | apply OutKept.next | apply State.layerResult_kept | apply State.scheduleNow_kept)

theorem execClose_kept {q s} (hs : State.Kept q s) : OutKept q (execClose s) := by
  unfold execClose
  try dsimp only
  with_reducible repeat' first | assumption | apply OutKept.next | apply State.layerResult_kept | apply State.setFlag_kept | apply State.Kept.ite

theorem State.abortNow_kept {q s} (hs : State.Kept q s) : State.Kept q (State.abortNow s) := by
  unfold State.abortNow
  try dsimp only
  with_reducible repeat' first
      | assumption | (apply State.Kept.forEach; intro _ _ _) | apply State.stopBeam_kept | apply State.endSwath_kept | apply State.toDispatch_kept
      | apply State.stampDone_kept | apply State.setStatus_kept | apply State.passFinal_kept | apply State.enterLy_kept | apply State.setFlag_kept
      | apply State.Kept.ite | (refine State.Kept.upd ?_; first | assumption | (apply State.Kept.forEach; intro _ _ _))

theorem State.doAbort_kept {q s} (hs : State.Kept q s) : State.Kept q (State.doAbort s) := by
  unfold State.doAbort
  try dsimp only
  with_reducible repeat' first
      | assumption | apply State.enterLy_kept | apply State.abortNow_kept | apply State.Kept.ite
      | (refine State.Kept.upd ?_; first | assumption | apply State.enterLy_kept | apply State.abortNow_kept | apply State.Kept.ite)

theorem execAbort_kept {q s} (hs : State.Kept q s) : OutKept q (execAbort s) := by
  unfold execAbort
  try dsimp only
  with_reducible repeat' first | assumption | apply OutKept.next | apply State.layerResult_kept | apply State.doAbort_kept | apply State.Kept.ite

theorem execRecoatDone_kept {q s} (hs : State.Kept q s) : OutKept q (execRecoatDone s) := by
  unfold execRecoatDone
  try dsimp only
  with_reducible repeat' first
      | assumption | apply OutKept.next | apply State.layerResult_kept | apply State.enterLy_kept | apply State.Kept.ite | apply Eff.Kept.done
      | apply Eff.Kept.jump | apply Eff.Kept.hold | apply Eff.Kept.exc | apply Eff.Kept.stall | apply Eff.Kept.ite
      | (refine State.Kept.upd ?_; first | assumption | apply OutKept.next | apply State.layerResult_kept)

theorem execCancel_kept {q a0 s} (hs : State.Kept q s) : OutKept q (execCancel a0 s) := by
  unfold execCancel
  try dsimp only
  with_reducible repeat' first
      | assumption | apply OutKept.next | apply State.layerResult_kept | apply State.searchAgain_kept | apply State.finish_kept
      | apply State.Kept.ite

theorem State.layerCmdWrite_kept {q s a1} (hs : State.Kept q s) : State.Kept q (State.layerCmdWrite s a1) := by
  unfold State.layerCmdWrite
  try dsimp only
  with_reducible repeat' first
      | assumption | apply State.via_kept | apply execSchedule_kept | apply execClose_kept | apply execAbort_kept | apply execRecoatDone_kept
      | apply execWaive_kept | apply execCancel_kept | apply State.layerResult_kept | apply State.Kept.ite | intro _ | split

theorem State.ringCfgWrite_kept {q s a1 a2 a3} (hs : State.Kept q s) : State.Kept q (State.ringCfgWrite s a1 a2 a3) := by
  unfold State.ringCfgWrite
  try dsimp only
  with_reducible repeat' first
      | assumption | apply State.condWrite_kept | (refine State.condWrite_kept_eq (by assumption) ?_) | apply State.modHRing_kept
      | apply State.writeLanes_kept | apply State.searchAgain_kept | apply State.passFinal_kept | apply State.Kept.ite

theorem State.tailWrite_kept {q s a1 a2 a3} (hs : State.Kept q s) : State.Kept q (State.tailWrite s a1 a2 a3) := by
  unfold State.tailWrite
  try dsimp only
  with_reducible repeat' first
      | assumption | apply State.advanceTail_kept | apply State.searchAgain_kept | apply State.setFlag_kept | apply State.Kept.ite

theorem State.ringTailWrite_kept {q s a1 a2 a3} (hs : State.Kept q s) : State.Kept q (State.ringTailWrite s a1 a2 a3) := by
  unfold State.ringTailWrite
  try dsimp only
  with_reducible repeat' first | assumption | apply State.w1cWrite_kept | apply State.setFlag_kept | apply State.tailWrite_kept | apply State.Kept.ite

theorem State.killSession_kept {q s a1} (hs : State.Kept q s) : State.Kept q (State.killSession s a1) := by
  unfold State.killSession
  try dsimp only
  with_reducible repeat' first | assumption | apply State.closeSession_kept

theorem State.hostNetWrite_kept {q s a1 a2 a3 a4} (hs : State.Kept q s) : State.Kept q (State.hostNetWrite s a1 a2 a3 a4) := by
  unfold State.hostNetWrite
  try dsimp only
  with_reducible repeat' first
      | assumption | apply State.plainWrite_kept | apply State.closePort_kept | apply State.modNet_kept | apply State.Kept.ite | intro _ | split

theorem State.writeHost_kept {q s a1 a2 a3 a4} (hs : State.Kept q s) : State.Kept q (State.writeHost s a1 a2 a3 a4) := by
  unfold State.writeHost
  try dsimp only
  with_reducible repeat' first
      | assumption | apply State.layerCmdWrite_kept | apply State.condWrite_kept | (refine State.condWrite_kept_eq (by assumption) ?_)
      | apply State.ringCfgWrite_kept | apply State.ringTailWrite_kept | apply State.writeLanes_kept | apply State.killSession_kept
      | apply State.hostNetWrite_kept | apply State.plainWrite_kept | apply State.Kept.ite | intro _ | split

theorem State.copyStart_kept {q s} (hs : State.Kept q s) : State.Kept q (State.copyStart s) := by
  unfold State.copyStart
  try dsimp only
  with_reducible repeat' first | assumption | apply State.setFlag_kept | apply State.modGran_kept | apply State.Kept.ite

theorem State.writeGran_kept {q s a1 a2 a3} (hs : State.Kept q s) : State.Kept q (State.writeGran s a1 a2 a3) := by
  unfold State.writeGran
  try dsimp only
  with_reducible repeat' first
      | assumption | apply State.condWrite_kept | (refine State.condWrite_kept_eq (by assumption) ?_) | apply State.plainWrite_kept
      | apply State.copyStart_kept | apply State.Kept.ite

theorem State.beaconClear_kept {q s} (hs : State.Kept q s) : State.Kept q (State.beaconClear s) := by
  unfold State.beaconClear
  try dsimp only
  with_reducible repeat' first
      | assumption | (apply State.Kept.forEach; intro _ _ _) | apply State.put_kept | apply State.setFlag_kept | apply State.modHk_kept
      | apply State.Kept.ite

theorem State.inhibit_kept {q s} (hs : State.Kept q s) : State.Kept q (State.inhibit s) := by
  unfold State.inhibit
  try dsimp only
  with_reducible repeat' first
      | assumption | (apply State.Kept.forEach; intro _ _ _) | apply State.setFlag_kept | apply State.chCut_kept | apply State.stopCells_kept
      | apply State.suspendBeam_kept | apply State.Kept.ite

theorem State.beaconWrite_kept {q s a1 a2} (hs : State.Kept q s) : State.Kept q (State.beaconWrite s a1 a2) := by
  unfold State.beaconWrite
  try dsimp only
  with_reducible repeat' first
      | assumption | apply State.plainWrite_kept | apply State.beaconClear_kept | apply State.inhibit_kept | apply State.modHk_kept
      | apply State.Kept.ite

theorem State.writeHk_kept {q s a1 a2 a3} (hs : State.Kept q s) : State.Kept q (State.writeHk s a1 a2 a3) := by
  unfold State.writeHk
  try dsimp only
  with_reducible repeat' first
      | assumption | apply State.condWrite_kept | (refine State.condWrite_kept_eq (by assumption) ?_) | apply State.beaconWrite_kept
      | apply State.plainWrite_kept | apply State.Kept.ite

theorem State.dispEvent_kept {q s a1 a2} (hs : State.Kept q s) : State.Kept q (State.dispEvent s a1 a2) := by
  unfold State.dispEvent
  try dsimp only
  with_reducible repeat' first | assumption | apply State.raise_kept

theorem State.dropCommit_kept {q s a1} (hs : State.Kept q s) : State.Kept q (State.dropCommit s a1) := by
  unfold State.dropCommit
  try dsimp only
  with_reducible repeat' first | assumption | apply State.modDisp_kept | apply State.dispEvent_kept | apply State.setFlag_kept | apply State.Kept.ite

theorem State.blankOut_kept {q s a1} (hs : State.Kept q s) : State.Kept q (State.blankOut s a1) := by
  unfold State.blankOut
  try dsimp only
  with_reducible repeat' first | assumption | apply State.dropCommit_kept | apply State.put_kept | apply State.Kept.ite

theorem State.blankDue_kept {q s} (hs : State.Kept q s) : State.Kept q (State.blankDue s) := by
  unfold State.blankDue
  try dsimp only
  with_reducible repeat' first | assumption | (apply State.Kept.forEach; intro _ _ _) | apply State.blankOut_kept | apply State.Kept.ite

theorem State.timingCommit_kept {q s} (hs : State.Kept q s) : State.Kept q (State.timingCommit s) := by
  unfold State.timingCommit
  try dsimp only
  with_reducible repeat' first
      | assumption | apply State.setFlag_kept | apply State.blankDue_kept | (apply State.Kept.forEach; intro _ _ _) | apply State.blankOut_kept
      | apply State.Kept.ite

theorem State.cmdqWrite_kept {q s a1 a2} (hs : State.Kept q s) : State.Kept q (State.cmdqWrite s a1 a2) := by
  unfold State.cmdqWrite
  try dsimp only
  with_reducible repeat' first | assumption | apply State.setFlag_kept | apply State.modDisp_kept | apply State.Kept.ite

theorem State.commitLineWrite_kept {q s a1 a2} (hs : State.Kept q s) : State.Kept q (State.commitLineWrite s a1 a2) := by
  unfold State.commitLineWrite
  try dsimp only
  with_reducible repeat' first | assumption | apply State.plainWrite_kept | apply State.put_kept | apply State.Kept.ite

theorem State.shadowWrite_kept {q s a1 a2 a3 a4} (hs : State.Kept q s) : State.Kept q (State.shadowWrite s a1 a2 a3 a4) := by
  unfold State.shadowWrite
  try dsimp only
  with_reducible repeat' first | assumption | apply State.condWrite_kept

theorem State.dispWrite_kept {q s a1 a2 a3} (hs : State.Kept q s) : State.Kept q (State.dispWrite s a1 a2 a3) := by
  unfold State.dispWrite
  try dsimp only
  with_reducible repeat' first
      | assumption | apply State.plainWrite_kept | apply State.timingCommit_kept | apply State.dispCommit_kept | apply State.cmdqWrite_kept
      | apply State.commitLineWrite_kept | apply State.shadowWrite_kept | apply State.Kept.ite

theorem State.xkContinue_kept {q s} (hs : State.Kept q s) : State.Kept q (State.xkContinue s) := by
  unfold State.xkContinue
  try dsimp only
  with_reducible repeat' first | assumption | (apply State.Kept.forEach; intro _ _ _) | apply State.xkResume_kept | apply State.Kept.ite

theorem State.xkBegin_kept {q s a1} (hs : State.Kept q s) : State.Kept q (State.xkBegin s a1) := by
  unfold State.xkBegin
  try dsimp only
  with_reducible repeat' first | assumption | apply State.xkGo_kept | apply State.put_kept | apply State.modChan_kept | apply State.Kept.ite

theorem State.listLoWrite_kept {q s a1} (hs : State.Kept q s) : State.Kept q (State.listLoWrite s a1) := by
  unfold State.listLoWrite
  try dsimp only
  with_reducible repeat' first | assumption | apply State.Kept.ite | (refine State.Kept.upd ?_; first | assumption)

theorem State.listHiWrite_kept {q s a1} (hs : State.Kept q s) : State.Kept q (State.listHiWrite s a1) := by
  unfold State.listHiWrite
  try dsimp only
  with_reducible repeat' first | assumption | apply State.listStep_kept | apply State.setSilo32_kept | apply State.Kept.ite

theorem State.corrWrite_kept {q s a1} (hs : State.Kept q s) : State.Kept q (State.corrWrite s a1) := by
  unfold State.corrWrite
  try dsimp only
  with_reducible repeat' first
      | assumption | apply State.corrStep_kept | apply State.Kept.ite | (refine State.Kept.silo ?_ ?_; first | assumption) | intro _ | split
      | exact True.intro | apply MemR.wf_setBytes | apply MemR.wf_setByte | apply MemR.wf_write | rw [MemR.renew_cells] | rw [MemR.correct_cells]
      | refine State.Kept.siloWf (q := q) ?_

theorem State.xkWordWrite_kept {q s a1 a2} (hs : State.Kept q s) : State.Kept q (State.xkWordWrite s a1 a2) := by
  unfold State.xkWordWrite
  try dsimp only
  with_reducible repeat' first
      | assumption | apply State.plainWrite_kept | apply State.xkContinue_kept | apply State.xkStopAll_kept | apply State.xkBegin_kept
      | apply State.xkStop_kept | apply State.alarmAgain_kept | apply State.setFlag_kept | apply State.xkSpeed_kept | apply State.xkAccel_kept
      | apply State.listLoWrite_kept | apply State.listHiWrite_kept | apply State.corrWrite_kept | apply State.Kept.ite

theorem State.writeXk_kept {q s a1 a2 a3} (hs : State.Kept q s) : State.Kept q (State.writeXk s a1 a2 a3) := by
  unfold State.writeXk
  try dsimp only
  with_reducible repeat' first
      | assumption | apply State.xkWordWrite_kept | apply State.alarmAgain_kept | apply State.condWrite_kept
      | (refine State.condWrite_kept_eq (by assumption) ?_) | apply State.plainWrite_kept | apply State.Kept.ite

theorem State.hostRaise_kept {q s a1} (hs : State.Kept q s) : State.Kept q (State.hostRaise s a1) := by
  unfold State.hostRaise
  try dsimp only
  with_reducible repeat' first | assumption | apply State.raise_kept

theorem State.writeEvt_kept {q s a1 a2 a3} (hs : State.Kept q s) : State.Kept q (State.writeEvt s a1 a2 a3) := by
  unfold State.writeEvt
  try dsimp only
  with_reducible repeat' first | assumption | apply State.hostRaise_kept | apply State.plainWrite_kept | apply State.Kept.ite

theorem State.regEffect_kept {q s a1 a2 a3 a4} (hs : State.Kept q s) : State.Kept q (State.regEffect s a1 a2 a3 a4) := by
  unfold State.regEffect
  try dsimp only
  with_reducible repeat' first
      | assumption | apply State.writeSys_kept | apply State.writeTime_kept | apply State.writeBeam_kept | apply State.writeArb_kept
      | apply State.writeBed_kept | apply State.writeLoop_kept | apply State.writeImg_kept | apply State.writeAxes_kept | apply State.writeLanes_kept
      | apply State.writeFabric_kept | apply State.writeHost_kept | apply State.writeGran_kept | apply State.writeHk_kept
      | apply State.dispWrite_kept | apply State.writeXk_kept | apply State.writeEvt_kept | apply State.Kept.ite | intro _ | split

theorem State.regWrite_kept {q s a1 a2 a3 u} (e : State.regWrite s a1 a2 a3 = some u) (hs : State.Kept q s) : State.Kept q u := by
  unfold State.regWrite at e
  dsimp only at e
  split at e
  · cases e
  · split at e
    · exact hs.some e
    · exact (State.regEffect_kept hs).some e

theorem State.storeReg_kept {q s a1 a2 a3 a4} (hs : State.Kept q s) : Eff.Kept q (State.storeReg s a1 a2 a3 a4) := by
  unfold State.storeReg
  try dsimp only
  with_reducible repeat' first
      | assumption | (refine State.regWrite_kept (by assumption) ?_) | (refine State.modEng_kept ?_ fun x hx => ?_) | apply State.Kept.ite
      | apply Eff.Kept.done | apply Eff.Kept.jump | apply Eff.Kept.hold | apply Eff.Kept.exc | apply Eff.Kept.stall | apply Eff.Kept.ite | intro _
      | split | exact hx | apply Engine.Ok.upd

theorem State.storeAt_kept {q s a1 a2 a3 a4 a5} (hs : State.Kept q s) : Eff.Kept q (State.storeAt s a1 a2 a3 a4 a5) := by
  unfold State.storeAt
  try dsimp only
  with_reducible repeat' first
      | assumption | (refine State.loadData_kept ?_ fun _ x hx => ?_) | apply State.localFix_kept | (refine State.modEng_kept ?_ fun x hx => ?_)
      | apply State.touch_kept | apply State.siloFix_kept | apply State.storeReg_kept | apply State.Kept.ite | apply Eff.Kept.done
      | apply Eff.Kept.jump | apply Eff.Kept.hold | apply Eff.Kept.exc | apply Eff.Kept.stall | apply Eff.Kept.ite
      | (refine State.Kept.silo ?_ ?_; first | assumption | (refine State.loadData_kept ?_ fun _ x hx => ?_) | apply State.localFix_kept | (refine State.modEng_kept ?_ fun x hx => ?_) | apply State.touch_kept | apply State.siloFix_kept | apply State.storeReg_kept | apply State.Kept.ite)
      | intro _ | split | exact hx | apply Engine.Ok.upd | apply Engine.ite_ok | dsimp only
      | (refine Engine.Ok.mem ?_; rw [MemR.renew_cells]; exact MemR.wf_write hx.wf) | exact True.intro | apply MemR.wf_setBytes
      | apply MemR.wf_setByte | apply MemR.wf_write | rw [MemR.renew_cells] | rw [MemR.correct_cells] | refine State.Kept.siloWf (q := q) ?_

theorem State.store_kept {q s a1 a2 a3 a4 a5 a6} (hs : State.Kept q s) : State.Kept q (State.store s a1 a2 a3 a4 a5 a6) := by
  unfold State.store
  try dsimp only
  with_reducible repeat' first
      | assumption | apply State.runEng_kept | apply State.storeAt_kept | (refine State.loadData_kept ?_ fun _ x hx => ?_) | apply State.Kept.ite
      | apply Eff.Kept.done | intro _

theorem execSw_kept {q a0 a1 a2 a3 s} (hs : State.Kept q s) : OutKept q (execSw a0 a1 a2 a3 s) := by
  unfold execSw
  try dsimp only
  with_reducible repeat' first | assumption | apply OutKept.next | apply State.store_kept

theorem execSh_kept {q a0 a1 a2 a3 s} (hs : State.Kept q s) : OutKept q (execSh a0 a1 a2 a3 s) := by
  unfold execSh
  try dsimp only
  with_reducible repeat' first | assumption | apply OutKept.next | apply State.store_kept

theorem execSb_kept {q a0 a1 a2 a3 s} (hs : State.Kept q s) : OutKept q (execSb a0 a1 a2 a3 s) := by
  unfold execSb
  try dsimp only
  with_reducible repeat' first | assumption | apply OutKept.next | apply State.store_kept

theorem execLd_kept {q a0 a1 a2 a3 s} (hs : State.Kept q s) : OutKept q (execLd a0 a1 a2 a3 s) := by
  unfold execLd
  try dsimp only
  with_reducible repeat' first
      | assumption | apply OutKept.next | apply State.runEng_kept | (refine State.loadData_kept ?_ fun _ x hx => ?_) | apply State.Kept.ite
      | apply Eff.Kept.done | intro _ | split | exact hx | apply Engine.setG_ok

theorem execSd_kept {q a0 a1 a2 a3 s} (hs : State.Kept q s) : OutKept q (execSd a0 a1 a2 a3 s) := by
  unfold execSd
  try dsimp only
  with_reducible repeat' first
      | assumption | apply OutKept.next | apply State.runEng_kept | (refine State.loadData_kept ?_ fun _ x hx => ?_) | apply State.storeAt_kept
      | apply State.Kept.ite | apply Eff.Kept.done | intro _

theorem execAtomSwap_kept {q a0 a1 a2 a3 s} (hs : State.Kept q s) : OutKept q (execAtomSwap a0 a1 a2 a3 s) := by
  unfold execAtomSwap
  try dsimp only
  with_reducible repeat' first | assumption | apply OutKept.next | (refine State.atom_kept ?_ fun x _ hx => ?_)

theorem execAtomAdd_kept {q a0 a1 a2 a3 s} (hs : State.Kept q s) : OutKept q (execAtomAdd a0 a1 a2 a3 s) := by
  unfold execAtomAdd
  try dsimp only
  with_reducible repeat' first | assumption | apply OutKept.next | (refine State.atom_kept ?_ fun x _ hx => ?_)

theorem execAtomCas_kept {q a0 a1 a2 a3 s} (hs : State.Kept q s) : OutKept q (execAtomCas a0 a1 a2 a3 s) := by
  unfold execAtomCas
  try dsimp only
  with_reducible repeat' first
      | assumption | apply OutKept.next | (refine State.atom_kept ?_ fun x _ hx => ?_) | apply State.Kept.ite | intro _ | split | exact hx
      | apply Engine.Ok.upd

theorem execAtomOr_kept {q a0 a1 a2 a3 s} (hs : State.Kept q s) : OutKept q (execAtomOr a0 a1 a2 a3 s) := by
  unfold execAtomOr
  try dsimp only
  with_reducible repeat' first | assumption | apply OutKept.next | (refine State.atom_kept ?_ fun x _ hx => ?_)

theorem execAtomAnd_kept {q a0 a1 a2 a3 s} (hs : State.Kept q s) : OutKept q (execAtomAnd a0 a1 a2 a3 s) := by
  unfold execAtomAnd
  try dsimp only
  with_reducible repeat' first | assumption | apply OutKept.next | (refine State.atom_kept ?_ fun x _ hx => ?_)

theorem execFence_kept {q a0 s} (hs : State.Kept q s) : OutKept q (execFence a0 s) := by
  unfold execFence
  try dsimp only
  with_reducible repeat' first | assumption | apply OutKept.next | (refine State.runLocal_kept ?_ fun x hx => ?_)

theorem execB_kept {q a0 a1 a2 s} (hs : State.Kept q s) : OutKept q (execB a0 a1 a2 s) := by
  unfold execB
  try dsimp only
  with_reducible repeat' first
      | assumption | apply OutKept.next | apply State.runEng_kept | apply State.Kept.ite | apply Eff.Kept.done | apply Eff.Kept.jump
      | apply Eff.Kept.hold | apply Eff.Kept.exc | apply Eff.Kept.stall | apply Eff.Kept.ite | intro _

theorem execCall_kept {q a0 a1 a2 s} (hs : State.Kept q s) : OutKept q (execCall a0 a1 a2 s) := by
  unfold execCall
  try dsimp only
  with_reducible repeat' first
      | assumption | apply OutKept.next | apply State.runEng_kept | apply execB_kept | (refine State.modEng_kept ?_ fun x hx => ?_)
      | apply execLui_kept | apply State.Kept.ite | apply Eff.Kept.done | apply Eff.Kept.jump | apply Eff.Kept.hold | apply Eff.Kept.exc
      | apply Eff.Kept.stall | apply Eff.Kept.ite | intro _ | split | exact hx | apply Engine.setG_ok

theorem execJr_kept {q a0 a1 s} (hs : State.Kept q s) : OutKept q (execJr a0 a1 s) := by
  unfold execJr
  try dsimp only
  with_reducible repeat' first
      | assumption | apply OutKept.next | apply State.runEng_kept | apply execB_kept | apply State.Kept.ite | apply Eff.Kept.done
      | apply Eff.Kept.jump | apply Eff.Kept.hold | apply Eff.Kept.exc | apply Eff.Kept.stall | apply Eff.Kept.ite | intro _

theorem execJalr_kept {q a0 a1 a2 s} (hs : State.Kept q s) : OutKept q (execJalr a0 a1 a2 s) := by
  unfold execJalr
  try dsimp only
  with_reducible repeat' first
      | assumption | apply OutKept.next | apply State.runEng_kept | apply execB_kept | (refine State.modEng_kept ?_ fun x hx => ?_)
      | apply State.Kept.ite | apply Eff.Kept.done | apply Eff.Kept.jump | apply Eff.Kept.hold | apply Eff.Kept.exc | apply Eff.Kept.stall
      | apply Eff.Kept.ite | intro _ | split | exact hx | apply Engine.setG_ok

theorem State.handlerDone_kept {q s a1} (hs : State.Kept q s) : State.Kept q (State.handlerDone s a1) := by
  unfold State.handlerDone
  try dsimp only
  with_reducible repeat' first | assumption | apply State.toDispatch_kept | apply State.modBeam_kept

theorem execEret_kept {q a0 a1 a2 a3 a4 s} (hs : State.Kept q s) : OutKept q (execEret a0 a1 a2 a3 a4 s) := by
  unfold execEret
  try dsimp only
  with_reducible repeat' first
      | assumption | apply OutKept.next | apply State.runEng_kept | apply execLui_kept | (refine State.modEng_kept ?_ fun x hx => ?_)
      | apply State.handlerDone_kept | apply execB_kept | apply State.Kept.ite | apply Eff.Kept.done | apply Eff.Kept.jump | apply Eff.Kept.hold
      | apply Eff.Kept.exc | apply Eff.Kept.stall | apply Eff.Kept.ite | intro _ | split | exact hx | apply Engine.restoreFlags_ok

theorem execMfs_kept {q a0 a1 a2 a3 a4 s} (hs : State.Kept q s) : OutKept q (execMfs a0 a1 a2 a3 a4 s) := by
  unfold execMfs
  try dsimp only
  with_reducible repeat' first
      | assumption | apply OutKept.next | apply State.runEng_kept | apply execLui_kept | apply execB_kept | apply State.latchNow_kept
      | (refine State.modEng_kept ?_ fun x hx => ?_) | apply State.Kept.ite | apply Eff.Kept.done | intro _ | split | exact hx | apply Engine.setG_ok

theorem execMts_kept {q a0 a1 a2 a3 a4 s} (hs : State.Kept q s) : OutKept q (execMts a0 a1 a2 a3 a4 s) := by
  unfold execMts
  try dsimp only
  with_reducible repeat' first
      | assumption | apply OutKept.next | (refine State.runLocal_kept ?_ fun x hx => ?_) | apply execLui_kept | apply State.Kept.ite | intro _
      | split | exact hx | apply Engine.Ok.upd

theorem execWaitr_kept {q a0 a1 a2 a3 s} (hs : State.Kept q s) : OutKept q (execWaitr a0 a1 a2 a3 s) := by
  unfold execWaitr
  try dsimp only
  with_reducible repeat' first
      | assumption | apply OutKept.next | apply State.runEng_kept | apply State.waitUntil_kept | apply execWaitt_kept | apply State.Kept.ite
      | apply Eff.Kept.done | intro _

theorem State.sched_kept {q s a1 a2 a3 a4 a5} (hs : State.Kept q s) : Eff.Kept q (State.sched s a1 a2 a3 a4 a5) := by
  unfold State.sched
  try dsimp only
  with_reducible repeat' first
      | assumption | apply execWaitt_kept | (refine State.modEng_kept ?_ fun x hx => ?_) | apply State.setWait_kept | apply State.Kept.ite
      | apply Eff.Kept.done | apply Eff.Kept.jump | apply Eff.Kept.hold | apply Eff.Kept.exc | apply Eff.Kept.stall | apply Eff.Kept.ite
      | (refine State.Kept.upd ?_; first | assumption) | intro _ | split | exact hx | apply Engine.Ok.upd

theorem execSched_kept {q a0 a1 a2 a3 a4 s} (hs : State.Kept q s) : OutKept q (execSched a0 a1 a2 a3 a4 s) := by
  unfold execSched
  try dsimp only
  with_reducible repeat' first
      | assumption | apply OutKept.next | apply State.runEng_kept | apply State.waitUntil_kept | apply State.sched_kept | apply State.Kept.ite
      | apply Eff.Kept.done | intro _

theorem State.putHost_kept {q s a1 a2} (hs : State.Kept q s) : State.Kept q (State.putHost s a1 a2) := by
  unfold State.putHost
  try dsimp only
  with_reducible repeat' first
      | assumption | apply State.setTail_kept | apply State.Kept.ite | (refine State.Kept.silo ?_ ?_; first | assumption) | intro _ | split
      | exact True.intro | apply MemR.wf_setBytes | apply MemR.wf_setByte | apply MemR.wf_write | rw [MemR.renew_cells] | rw [MemR.correct_cells]
      | refine State.Kept.siloWf (q := q) ?_

theorem State.rput_kept {q s a1 a2} (hs : State.Kept q s) : State.Kept q (State.rput s a1 a2) := by
  unfold State.rput
  try dsimp only
  with_reducible repeat' first
      | assumption | apply State.putHost_kept | apply State.putDesc_kept | apply State.searchAgain_kept | apply State.Kept.ite

theorem execRput_kept {q a0 a1 a2 a3 s} (hs : State.Kept q s) : OutKept q (execRput a0 a1 a2 a3 s) := by
  unfold execRput
  try dsimp only
  with_reducible repeat' first
      | assumption | apply OutKept.next | apply State.runEng_kept | apply execWaitt_kept | (refine State.modEng_kept ?_ fun x hx => ?_)
      | apply State.rput_kept | apply State.siloFix_kept | exact ringAddrExc_kept (by assumption) | apply State.Kept.ite | apply Eff.Kept.done
      | apply Eff.Kept.jump | apply Eff.Kept.hold | apply Eff.Kept.exc | apply Eff.Kept.stall | apply Eff.Kept.ite | intro _ | split | exact hx
      | apply Engine.setG_ok

theorem execRget_kept {q a0 a1 a2 a3 s} (hs : State.Kept q s) : OutKept q (execRget a0 a1 a2 a3 s) := by
  unfold execRget
  try dsimp only
  with_reducible repeat' first
      | assumption | apply OutKept.next | apply State.runEng_kept | apply execWaitt_kept | apply execRput_kept
      | (refine State.modEng_kept ?_ fun x hx => ?_) | apply State.siloFix_kept | apply State.setHead_kept | exact ringAddrExc_kept (by assumption)
      | apply State.Kept.ite | apply Eff.Kept.done | apply Eff.Kept.jump | apply Eff.Kept.hold | apply Eff.Kept.exc | apply Eff.Kept.stall
      | apply Eff.Kept.ite
      | (refine State.Kept.silo ?_ ?_; first | assumption | apply OutKept.next | apply State.runEng_kept | apply execWaitt_kept | apply execRput_kept | (refine State.modEng_kept ?_ fun x hx => ?_) | apply State.siloFix_kept)
      | intro _ | split | exact hx | apply Engine.setG_ok | apply Engine.Ok.upd | apply Engine.ite_ok | dsimp only | exact True.intro
      | apply MemR.wf_setBytes | apply MemR.wf_setByte | apply MemR.wf_write | rw [MemR.renew_cells] | rw [MemR.correct_cells]
      | refine State.Kept.siloWf (q := q) ?_

theorem execRcount_kept {q a0 a1 a2 a3 s} (hs : State.Kept q s) : OutKept q (execRcount a0 a1 a2 a3 s) := by
  unfold execRcount
  try dsimp only
  with_reducible repeat' first
      | assumption | apply OutKept.next | apply State.runEng_kept | apply execWaitt_kept | (refine State.modEng_kept ?_ fun x hx => ?_)
      | apply State.Kept.ite | apply Eff.Kept.done | intro _ | split | exact hx | apply Engine.setG_ok

theorem execEvsig_kept {q a0 a1 a2 a3 a4 s} (hs : State.Kept q s) : OutKept q (execEvsig a0 a1 a2 a3 a4 s) := by
  unfold execEvsig
  try dsimp only
  with_reducible repeat' first
      | assumption | apply OutKept.next | apply State.runEng_kept | apply State.waitUntil_kept | apply State.raise_kept | apply execWaitt_kept
      | apply State.Kept.ite | apply Eff.Kept.done | intro _

theorem execWaite_kept {q a0 a1 a2 a3 a4 s} (hs : State.Kept q s) : OutKept q (execWaite a0 a1 a2 a3 a4 s) := by
  unfold execWaite
  try dsimp only
  with_reducible repeat' first
      | assumption | apply OutKept.next | apply State.runEng_kept | apply execWaitt_kept | apply State.setWait_kept
      | (refine State.modEng_kept ?_ fun x hx => ?_) | apply State.Kept.ite | apply Eff.Kept.done | apply Eff.Kept.jump | apply Eff.Kept.hold
      | apply Eff.Kept.exc | apply Eff.Kept.stall | apply Eff.Kept.ite | intro _ | split | exact hx | apply Engine.takeEvent_ok

theorem execEvpoll_kept {q a0 a1 a2 a3 a4 s} (hs : State.Kept q s) : OutKept q (execEvpoll a0 a1 a2 a3 a4 s) := by
  unfold execEvpoll
  try dsimp only
  with_reducible repeat' first
      | assumption | apply OutKept.next | (refine State.runLocal_kept ?_ fun x hx => ?_) | apply State.waitUntil_kept | apply State.Kept.ite
      | intro _ | split | exact hx | apply Engine.takeEvent_ok

theorem State.bmGate_kept {q s a1 a2 a3} (hs : State.Kept q s) (hf : ∀ s, State.Kept q s → Eff.Kept q (a3 s)) : Eff.Kept q (State.bmGate s a1 a2 a3) := by
  unfold State.bmGate
  try dsimp only
  with_reducible repeat' first
      | assumption | apply State.setWait_kept | apply State.touch_kept | apply hf | apply State.Kept.ite | apply Eff.Kept.done | apply Eff.Kept.jump
      | apply Eff.Kept.hold | apply Eff.Kept.exc | apply Eff.Kept.stall | apply Eff.Kept.ite

theorem State.bedEcc_kept {q s a1} (hs : State.Kept q s) : Eff.Kept q (State.bedEcc s a1) := by
  unfold State.bedEcc
  try dsimp only
  with_reducible repeat' first
      | assumption | apply State.freeVal_kept | (refine State.freeVal_kept_eq (by assumption) ?_) | apply State.syncExc_kept | apply State.Kept.ite
      | apply Eff.Kept.done | apply Eff.Kept.jump | apply Eff.Kept.hold

theorem State.bedFix_kept {q s a1} (hs : State.Kept q s) : State.Kept q (State.bedFix s a1) := by
  unfold State.bedFix
  try dsimp only
  with_reducible repeat' first | assumption | apply State.noteFixes_kept | apply State.Kept.ite | (refine State.Kept.upd ?_; first | assumption)

theorem execBmrd_kept {q a0 a1 a2 a3 s} (hs : State.Kept q s) : OutKept q (execBmrd a0 a1 a2 a3 s) := by
  unfold execBmrd
  try dsimp only
  with_reducible repeat' first
      | assumption | apply OutKept.next | apply State.runEng_kept | apply State.waitUntil_kept | apply State.bmGate_kept | apply execWaitt_kept
      | apply State.bmFlag_kept | apply State.bedEcc_kept | apply State.bedFix_kept | (refine State.modEng_kept ?_ fun x hx => ?_)
      | apply State.Kept.ite | apply Eff.Kept.done | intro _ | split | exact hx | apply Engine.setG_ok

theorem State.bmWrite_kept {q s a1 a2 a3 a4 a5} (hs : State.Kept q s) : Eff.Kept q (State.bmWrite s a1 a2 a3 a4 a5) := by
  unfold State.bmWrite
  try dsimp only
  with_reducible repeat' first
      | assumption | apply State.bmGate_kept | apply execWaitt_kept | apply State.bmFlag_kept | (refine State.modEng_kept ?_ fun x hx => ?_)
      | apply State.bedEcc_kept | apply State.bedFix_kept | apply State.modPlot_kept | apply State.Kept.ite | apply Eff.Kept.done | intro _ | split
      | exact hx | apply Engine.setG_ok

theorem execBmsete_kept {q a0 a1 a2 a3 s} (hs : State.Kept q s) : OutKept q (execBmsete a0 a1 a2 a3 s) := by
  unfold execBmsete
  try dsimp only
  with_reducible repeat' first
      | assumption | apply OutKept.next | apply State.runEng_kept | apply State.bmWrite_kept | apply execWaitt_kept | apply State.Kept.ite
      | apply Eff.Kept.done | intro _

theorem execBmwt_kept {q a0 a1 a2 a3 s} (hs : State.Kept q s) : OutKept q (execBmwt a0 a1 a2 a3 s) := by
  unfold execBmwt
  try dsimp only
  with_reducible repeat' first
      | assumption | apply OutKept.next | apply State.runEng_kept | apply State.bmWrite_kept | apply execWaitt_kept | apply State.Kept.ite
      | apply Eff.Kept.done | intro _

theorem execBmflag_kept {q a0 a1 a2 a3 s} (hs : State.Kept q s) : OutKept q (execBmflag a0 a1 a2 a3 s) := by
  unfold execBmflag
  try dsimp only
  with_reducible repeat' first
      | assumption | apply OutKept.next | apply State.runEng_kept | apply State.bmWrite_kept | apply execWaitt_kept | apply State.Kept.ite
      | apply Eff.Kept.done | intro _

theorem execHalt_kept {q a0 a1 a2 a3 s} (hs : State.Kept q s) : OutKept q (execHalt a0 a1 a2 a3 s) := by
  unfold execHalt
  try dsimp only
  with_reducible repeat' first
      | assumption | apply OutKept.next | apply State.runEng_kept | apply execLui_kept | apply State.haltBeam_kept | apply State.wdogSync_kept
      | apply State.setFlag_kept | apply State.Kept.ite | apply Eff.Kept.done | apply Eff.Kept.jump | apply Eff.Kept.hold | apply Eff.Kept.exc
      | apply Eff.Kept.stall | apply Eff.Kept.ite
      | (refine State.Kept.upd ?_; first | assumption | apply OutKept.next | apply State.runEng_kept | apply execLui_kept | apply State.haltBeam_kept)
      | intro _

theorem execWdog_kept {q a0 a1 a2 a3 s} (hs : State.Kept q s) : OutKept q (execWdog a0 a1 a2 a3 s) := by
  unfold execWdog
  try dsimp only
  with_reducible repeat' first
      | assumption | apply OutKept.next | apply State.runEng_kept | apply execLui_kept | apply State.wdogReload_kept | apply State.Kept.ite
      | apply Eff.Kept.done | intro _

theorem State.moveTo_kept {q s a1 a2 a3 a4} (hs : State.Kept q s) : State.Kept q (State.moveTo s a1 a2 a3 a4) := by
  unfold State.moveTo
  try dsimp only
  with_reducible repeat' first | assumption | apply State.modBeam_kept

theorem State.renew_kept {q s a1} (hs : State.Kept q s) : State.Kept q (State.renew s a1) := by
  unfold State.renew
  try dsimp only
  with_reducible repeat' first | assumption | apply State.modArb_kept

theorem State.loopPrepare_kept {q s a1 a2} (hs : State.Kept q s) : State.Kept q (State.loopPrepare s a1 a2) := by
  unfold State.loopPrepare
  try dsimp only
  with_reducible repeat' first | assumption | apply State.modLoop_kept

theorem State.startStream_kept {q s a1} (hs : State.Kept q s) : State.Kept q (State.startStream s a1) := by
  unfold State.startStream
  try dsimp only
  with_reducible repeat' first | assumption | apply State.modBeam_kept | apply State.modTraj_kept

theorem State.handedOver_kept {q s a1} (hs : State.Kept q s) : State.Kept q (State.handedOver s a1) := by
  unfold State.handedOver
  try dsimp only
  with_reducible repeat' first
      | assumption | apply State.modTraj_kept | apply State.motionTo_kept | apply pumpGo_kept | apply State.modSwath_kept | apply State.pump_kept
      | apply State.prunePath_kept | apply State.Kept.ite | intro _ | split

theorem State.handJump_kept {q s a1 a2 a3 a4 a5} (hs : State.Kept q s) : State.Kept q (State.handJump s a1 a2 a3 a4 a5) := by
  unfold State.handJump
  try dsimp only
  with_reducible repeat' first
      | assumption | apply State.enqueue_kept | apply State.starve_kept | apply State.endSequence_kept | apply State.startStream_kept
      | apply State.syncChange_kept | apply State.addSeg_kept | apply State.addPause_kept | apply State.modTraj_kept | apply State.handedOver_kept
      | apply State.Kept.ite

theorem State.retarget_kept {q s a1 a2 a3 a4} (hs : State.Kept q s) : State.Kept q (State.retarget s a1 a2 a3 a4) := by
  unfold State.retarget
  try dsimp only
  with_reducible repeat' first | assumption | apply State.modTraj_kept | apply State.addSeg_kept | apply State.addPause_kept | apply State.Kept.ite

theorem State.addLead_kept {q s a1 a2 a3} (hs : State.Kept q s) : State.Kept q (State.addLead s a1 a2 a3) := by
  unfold State.addLead
  try dsimp only
  with_reducible repeat' first
      | assumption | apply State.addTail_kept | apply State.count_kept | apply State.retarget_kept | apply State.addFly_kept | apply State.Kept.ite
      | intro _ | split

theorem State.openSequence_kept {q s a1 a2} (hs : State.Kept q s) : State.Kept q (State.openSequence s a1 a2) := by
  unfold State.openSequence
  try dsimp only
  with_reducible repeat' first
      | assumption | apply State.placeRise_kept | (refine State.placeRise_kept_eq (by assumption) ?_) | apply State.addPause_kept
      | apply State.addSeg_kept | apply State.modTraj_kept | apply State.Kept.ite

theorem State.handMark_kept {q s a1 a2 a3} (hs : State.Kept q s) : State.Kept q (State.handMark s a1 a2 a3) := by
  unfold State.handMark
  try dsimp only
  with_reducible repeat' first
      | assumption | apply State.enqueue_kept | apply State.starve_kept | apply State.endSequence_kept | apply State.startStream_kept
      | apply State.addLead_kept | apply State.syncChange_kept | apply State.openSequence_kept | apply State.leaveMark_kept
      | apply State.sequenceFall_kept | apply State.addPause_kept | apply State.modChange_kept | apply State.addSeg_kept | apply State.modTraj_kept
      | apply State.modArb_kept | apply State.handedOver_kept | apply State.Kept.ite | intro _ | split

theorem State.reenter_kept {q s a1 a2 a3 a4} (hs : State.Kept q s) : State.Kept q (State.reenter s a1 a2 a3 a4) := by
  unfold State.reenter
  try dsimp only
  with_reducible repeat' first
      | assumption | apply State.loopPrepare_kept | apply State.runBeam_kept | apply State.handJump_kept | apply State.handMark_kept
      | apply State.count_kept | apply State.addFly_kept | apply State.Kept.ite | apply Eff.Kept.done | intro _ | split

theorem State.lit_kept {q s a1 a2 a3 a4 a5 a6 a7} (hs : State.Kept q s) : Eff.Kept q (State.lit s a1 a2 a3 a4 a5 a6 a7) := by
  unfold State.lit
  try dsimp only
  with_reducible repeat' first
      | assumption | apply State.setV_kept | apply State.moveTo_kept | apply State.modSwath_kept | apply State.setWait_kept | apply State.renew_kept
      | apply State.reenter_kept | apply State.handMark_kept | apply State.Kept.ite | apply Eff.Kept.done | apply Eff.Kept.jump | apply Eff.Kept.hold
      | apply Eff.Kept.exc | apply Eff.Kept.stall | apply Eff.Kept.ite | intro _ | split

theorem execMark_kept {q a0 a1 a2 a3 a4 s} (hs : State.Kept q s) : OutKept q (execMark a0 a1 a2 a3 a4 s) := by
  unfold execMark
  try dsimp only
  with_reducible repeat' first
      | assumption | apply OutKept.next | apply State.runBeam_kept | apply State.setV_kept | apply State.lit_kept | apply State.Kept.ite
      | apply Eff.Kept.done | intro _ | split

theorem execJump_kept {q a0 a1 a2 a3 a4 s} (hs : State.Kept q s) : OutKept q (execJump a0 a1 a2 a3 a4 s) := by
  unfold execJump
  try dsimp only
  with_reducible repeat' first
      | assumption | apply OutKept.next | apply State.runBeam_kept | apply State.setV_kept | apply State.lit_kept | apply State.moveTo_kept
      | apply State.setWait_kept | apply State.renew_kept | apply State.handJump_kept | apply State.Kept.ite | apply Eff.Kept.done
      | apply Eff.Kept.jump | apply Eff.Kept.hold | apply Eff.Kept.exc | apply Eff.Kept.stall | apply Eff.Kept.ite | intro _ | split

theorem State.setting_kept {q s a1 a2 a3 a4 a5 a6} (hs : State.Kept q s) : State.Kept q (State.setting s a1 a2 a3 a4 a5 a6) := by
  unfold State.setting
  try dsimp only
  with_reducible repeat' first
      | assumption | apply State.runBeam_kept | apply State.setV_kept | apply State.modBeam_kept | apply State.Kept.ite | apply Eff.Kept.done
      | intro _

theorem execArc_kept {q a0 a1 a2 a3 a4 s} (hs : State.Kept q s) : OutKept q (execArc a0 a1 a2 a3 a4 s) := by
  unfold execArc
  try dsimp only
  with_reducible repeat' first
      | assumption | apply OutKept.next | apply State.runBeam_kept | apply State.setting_kept | apply State.setV_kept | apply State.lit_kept
      | apply State.Kept.ite | apply Eff.Kept.done | intro _ | split

theorem execSpeed_kept {q a0 a1 a2 a3 s} (hs : State.Kept q s) : OutKept q (execSpeed a0 a1 a2 a3 s) := by
  unfold execSpeed
  try dsimp only
  with_reducible repeat' first | assumption | apply OutKept.next | apply State.setting_kept

theorem execPower_kept {q a0 a1 a2 a3 s} (hs : State.Kept q s) : OutKept q (execPower a0 a1 a2 a3 s) := by
  unfold execPower
  try dsimp only
  with_reducible repeat' first | assumption | apply OutKept.next | apply State.setting_kept

theorem execDelay_kept {q a0 a1 a2 a3 s} (hs : State.Kept q s) : OutKept q (execDelay a0 a1 a2 a3 s) := by
  unfold execDelay
  try dsimp only
  with_reducible repeat' first | assumption | apply OutKept.next | apply State.setting_kept

theorem execFly_kept {q a0 a1 a2 a3 s} (hs : State.Kept q s) : OutKept q (execFly a0 a1 a2 a3 s) := by
  unfold execFly
  try dsimp only
  with_reducible repeat' first | assumption | apply OutKept.next | apply State.setting_kept

theorem execPulse_kept {q a0 a1 a2 a3 s} (hs : State.Kept q s) : OutKept q (execPulse a0 a1 a2 a3 s) := by
  unfold execPulse
  try dsimp only
  with_reducible repeat' first | assumption | apply OutKept.next | apply State.setting_kept

theorem State.leaseRead_kept {q s a1 a2} (hs : State.Kept q s) : State.Kept q (State.leaseRead s a1 a2) := by
  unfold State.leaseRead
  try dsimp only
  with_reducible repeat' first
      | assumption | apply State.setting_kept | apply execLoopsel_kept | apply State.localFix_kept | apply State.siloFix_kept
      | (apply State.Kept.forEach; intro _ _ _) | apply State.touch_kept | apply State.Kept.ite

theorem State.request_kept {q s a1 a2 a3 a4 a5} (hs : State.Kept q s) : State.Kept q (State.request s a1 a2 a3 a4 a5) := by
  unfold State.request
  try dsimp only
  with_reducible repeat' first | assumption | apply State.joinWindow_kept | apply State.modArb_kept

theorem execLease_kept {q a0 a1 a2 a3 a4 s} (hs : State.Kept q s) : OutKept q (execLease a0 a1 a2 a3 a4 s) := by
  unfold execLease
  try dsimp only
  with_reducible repeat' first
      | assumption | apply OutKept.next | apply State.runBeam_kept | apply execLoopsel_kept | apply State.leaseRead_kept
      | (refine State.modEng_kept ?_ fun x hx => ?_) | apply State.request_kept | apply State.setWait_kept | apply State.touch_kept
      | apply State.Kept.ite | apply Eff.Kept.done | apply Eff.Kept.jump | apply Eff.Kept.hold | apply Eff.Kept.exc | apply Eff.Kept.stall
      | apply Eff.Kept.ite | intro _ | split | exact hx | apply Engine.setG_ok | apply Engine.Ok.upd

theorem execRelease_kept {q a0 a1 a2 a3 a4 s} (hs : State.Kept q s) : OutKept q (execRelease a0 a1 a2 a3 a4 s) := by
  unfold execRelease
  try dsimp only
  with_reducible repeat' first
      | assumption | apply OutKept.next | apply State.runBeam_kept | apply execLoopsel_kept | apply State.setV_kept | apply State.giveUpLease_kept
      | apply State.Kept.ite | apply Eff.Kept.done | intro _ | split

theorem execSync_kept {q a0 a1 a2 a3 a4 s} (hs : State.Kept q s) : OutKept q (execSync a0 a1 a2 a3 a4 s) := by
  unfold execSync
  try dsimp only
  with_reducible repeat' first
      | assumption | apply OutKept.next | apply State.runBeam_kept | apply execLoopsel_kept | apply State.setV_kept | apply State.starve_kept
      | apply State.endSequence_kept | apply State.setWait_kept | apply State.setting_kept | apply State.barrierCheck_kept | apply State.Kept.ite
      | apply Eff.Kept.done | apply Eff.Kept.jump | apply Eff.Kept.hold | apply Eff.Kept.exc | apply Eff.Kept.stall | apply Eff.Kept.ite
      | (refine State.Kept.upd ?_; first | assumption | apply OutKept.next | apply State.runBeam_kept | apply execLoopsel_kept | apply State.setV_kept | apply State.starve_kept | apply State.endSequence_kept | apply State.setWait_kept)
      | intro _

theorem execTstamp_kept {q a0 a1 a2 a3 a4 s} (hs : State.Kept q s) : OutKept q (execTstamp a0 a1 a2 a3 a4 s) := by
  unfold execTstamp
  try dsimp only
  with_reducible repeat' first
      | assumption | apply OutKept.next | apply State.runBeam_kept | apply execLoopsel_kept | (refine State.modEng_kept ?_ fun x hx => ?_)
      | apply State.Kept.ite | apply Eff.Kept.done | intro _ | split | exact hx | apply Engine.setG_ok

theorem execSwend_kept {q a0 a1 a2 a3 a4 s} (hs : State.Kept q s) : OutKept q (execSwend a0 a1 a2 a3 a4 s) := by
  unfold execSwend
  try dsimp only
  with_reducible repeat' first
      | assumption | apply OutKept.next | apply State.runBeam_kept | apply execLoopsel_kept | apply State.handlerDone_kept
      | apply State.normalEnd_kept | apply State.Kept.ite | apply Eff.Kept.done | apply Eff.Kept.jump | apply Eff.Kept.hold | apply Eff.Kept.exc
      | apply Eff.Kept.stall | apply Eff.Kept.ite | intro _

theorem execSafe_kept {q a0 a1 a2 a3 s} (hs : State.Kept q s) : OutKept q (execSafe a0 a1 a2 a3 s) := by
  unfold execSafe
  try dsimp only
  with_reducible repeat' first
      | assumption | apply OutKept.next | apply State.runBeam_kept | apply execLoopsel_kept | apply State.renew_kept | apply execLease_kept
      | apply State.setV_kept | apply State.setting_kept | apply State.setWait_kept | apply State.modSwath_kept | apply State.Kept.ite
      | apply Eff.Kept.done | apply Eff.Kept.jump | apply Eff.Kept.hold | apply Eff.Kept.exc | apply Eff.Kept.stall | apply Eff.Kept.ite | intro _
      | split

theorem State.runAgain_kept {q s a1} (hs : State.Kept q s) : State.Kept q (State.runAgain s a1) := by
  unfold State.runAgain
  split
  · exact State.via_kept hs fun _ h => execAdd_kept h
  · exact State.via_kept hs fun _ h => execSub_kept h
  · exact State.via_kept hs fun _ h => execAnd_kept h
  · exact State.via_kept hs fun _ h => execOr_kept h
  · exact State.via_kept hs fun _ h => execXor_kept h
  · exact State.via_kept hs fun _ h => execSlt_kept h
  · exact State.via_kept hs fun _ h => execSltu_kept h
  · exact State.via_kept hs fun _ h => execMin_kept h
  · exact State.via_kept hs fun _ h => execMax_kept h
  · exact State.via_kept hs fun _ h => execMinu_kept h
  · exact State.via_kept hs fun _ h => execMaxu_kept h
  · exact State.via_kept hs fun _ h => execAddc_kept h
  · exact State.via_kept hs fun _ h => execSubb_kept h
  · exact State.via_kept hs fun _ h => execMul_kept h
  · exact State.via_kept hs fun _ h => execMulh_kept h
  · exact State.via_kept hs fun _ h => execMulhu_kept h
  · exact State.via_kept hs fun _ h => execDiv_kept h
  · exact State.via_kept hs fun _ h => execDivu_kept h
  · exact State.via_kept hs fun _ h => execRem_kept h
  · exact State.via_kept hs fun _ h => execRemu_kept h
  · exact State.via_kept hs fun _ h => execSll_kept h
  · exact State.via_kept hs fun _ h => execSrl_kept h
  · exact State.via_kept hs fun _ h => execSra_kept h
  · exact State.via_kept hs fun _ h => execRor_kept h
  · exact State.via_kept hs fun _ h => execAddi_kept h
  · exact State.via_kept hs fun _ h => execAndi_kept h
  · exact State.via_kept hs fun _ h => execOri_kept h
  · exact State.via_kept hs fun _ h => execXori_kept h
  · exact State.via_kept hs fun _ h => execLui_kept h
  · exact State.via_kept hs fun _ h => execSlti_kept h
  · exact State.via_kept hs fun _ h => execSltiu_kept h
  · exact State.via_kept hs fun _ h => execCmpi_kept h
  · exact State.via_kept hs fun _ h => execTsti_kept h
  · exact State.via_kept hs fun _ h => execMacq_kept h
  · exact State.via_kept hs fun _ h => execMsuq_kept h
  · exact State.via_kept hs fun _ h => execMulqa_kept h
  · exact State.via_kept hs fun _ h => execClra_kept h
  · exact State.via_kept hs fun _ h => execRndq_kept h
  · exact State.via_kept hs fun _ h => execAddq_kept h
  · exact State.via_kept hs fun _ h => execSubq_kept h
  · exact State.via_kept hs fun _ h => execMulq_kept h
  · exact State.via_kept hs fun _ h => execAdda_kept h
  · exact State.via_kept hs fun _ h => execAsha_kept h
  · exact State.via_kept hs fun _ h => execRdal_kept h
  · exact State.via_kept hs fun _ h => execRdah_kept h
  · exact State.via_kept hs fun _ h => execWra_kept h
  · exact State.via_kept hs fun _ h => execMovqa_kept h
  · exact State.via_kept hs fun _ h => execLw_kept h
  · exact State.via_kept hs fun _ h => execLh_kept h
  · exact State.via_kept hs fun _ h => execLhu_kept h
  · exact State.via_kept hs fun _ h => execLb_kept h
  · exact State.via_kept hs fun _ h => execLbu_kept h
  · exact State.via_kept hs fun _ h => execSw_kept h
  · exact State.via_kept hs fun _ h => execSh_kept h
  · exact State.via_kept hs fun _ h => execSb_kept h
  · exact State.via_kept hs fun _ h => execLd_kept h
  · exact State.via_kept hs fun _ h => execSd_kept h
  · exact State.via_kept hs fun _ h => execAtomSwap_kept h
  · exact State.via_kept hs fun _ h => execAtomAdd_kept h
  · exact State.via_kept hs fun _ h => execAtomCas_kept h
  · exact State.via_kept hs fun _ h => execAtomOr_kept h
  · exact State.via_kept hs fun _ h => execAtomAnd_kept h
  · exact State.via_kept hs fun _ h => execFence_kept h
  · exact State.via_kept hs fun _ h => execB_kept h
  · exact State.via_kept hs fun _ h => execCall_kept h
  · exact State.via_kept hs fun _ h => execJr_kept h
  · exact State.via_kept hs fun _ h => execJalr_kept h
  · exact State.via_kept hs fun _ h => execEret_kept h
  · exact State.via_kept hs fun _ h => execMfs_kept h
  · exact State.via_kept hs fun _ h => execMts_kept h
  · exact State.via_kept hs fun _ h => execWaitt_kept h
  · exact State.via_kept hs fun _ h => execWaitr_kept h
  · exact State.via_kept hs fun _ h => execSched_kept h
  · exact State.via_kept hs fun _ h => execRput_kept h
  · exact State.via_kept hs fun _ h => execRget_kept h
  · exact State.via_kept hs fun _ h => execRcount_kept h
  · exact State.via_kept hs fun _ h => execEvsig_kept h
  · exact State.via_kept hs fun _ h => execWaite_kept h
  · exact State.via_kept hs fun _ h => execEvpoll_kept h
  · exact State.via_kept hs fun _ h => execBmrd_kept h
  · exact State.via_kept hs fun _ h => execBmsete_kept h
  · exact State.via_kept hs fun _ h => execBmwt_kept h
  · exact State.via_kept hs fun _ h => execBmflag_kept h
  · exact State.via_kept hs fun _ h => execBmidx_kept h
  · exact State.via_kept hs fun _ h => execHalt_kept h
  · exact State.via_kept hs fun _ h => execWdog_kept h
  · exact State.via_kept hs fun _ h => execMark_kept h
  · exact State.via_kept hs fun _ h => execJump_kept h
  · exact State.via_kept hs fun _ h => execArc_kept h
  · exact State.via_kept hs fun _ h => execSpeed_kept h
  · exact State.via_kept hs fun _ h => execPower_kept h
  · exact State.via_kept hs fun _ h => execDelay_kept h
  · exact State.via_kept hs fun _ h => execFly_kept h
  · exact State.via_kept hs fun _ h => execPulse_kept h
  · exact State.via_kept hs fun _ h => execLoopsel_kept h
  · exact State.via_kept hs fun _ h => execLease_kept h
  · exact State.via_kept hs fun _ h => execRelease_kept h
  · exact State.via_kept hs fun _ h => execSync_kept h
  · exact State.via_kept hs fun _ h => execTstamp_kept h
  · exact State.via_kept hs fun _ h => execSwend_kept h
  · exact State.via_kept hs fun _ h => execSafe_kept h
  · exact hs

theorem State.retryStall_kept {q s a1} (hs : State.Kept q s) : State.Kept q (State.retryStall s a1) := by
  unfold State.retryStall
  try dsimp only
  with_reducible repeat' first
      | assumption | apply State.runAgain_kept | (refine State.modEng_kept ?_ fun x hx => ?_) | apply State.Kept.ite | intro _ | split | exact hx
      | apply Engine.Ok.upd

theorem State.producerGo_kept {q s a1} (hs : State.Kept q s) : State.Kept q (State.producerGo s a1) := by
  unfold State.producerGo
  try dsimp only
  with_reducible repeat' first
      | assumption | apply State.retryStall_kept | apply State.pump_kept | apply State.axPump_kept | apply State.Kept.ite | intro _ | split

theorem execQueueRoomResume_kept {q a0 s} (hs : State.Kept q s) : OutKept q (execQueueRoomResume a0 s) := by
  unfold execQueueRoomResume
  try dsimp only
  with_reducible repeat' first | assumption | apply OutKept.next | apply State.producerGo_kept

theorem execRouteCompute_kept {q s} (hs : State.Kept q s) : OutKept q (execRouteCompute s) := by
  unfold execRouteCompute
  try dsimp only
  with_reducible repeat' first | assumption | apply OutKept.next | apply State.setPaths_kept | apply State.Kept.ite

theorem execCamSetRepeat_kept {q a0 s} (hs : State.Kept q s) : OutKept q (execCamSetRepeat a0 s) := by
  unfold execCamSetRepeat
  try dsimp only
  with_reducible repeat' first | assumption | apply OutKept.next | apply State.showFill_kept | apply State.sendCamSet_kept | apply State.Kept.ite

theorem State.granaryPut_kept {q s a1} (hs : State.Kept q s) : State.Kept q (State.granaryPut s a1) := by
  unfold State.granaryPut
  try dsimp only
  with_reducible repeat' first | assumption | apply State.wrote_kept | apply State.modGran_kept

theorem State.sealEnd_kept {q s a1 a2} (hs : State.Kept q s) : State.Kept q (State.sealEnd s a1 a2).1 := by
  unfold State.sealEnd
  try dsimp only
  with_reducible repeat' first
      | assumption | apply State.modGran_kept | (apply State.Kept.forEach; intro _ _ _) | apply State.spoilSlot_kept | apply State.put_kept
      | apply State.granaryPut_kept | apply State.raise_kept | apply State.Kept.ite | intro _ | split

theorem State.sealEnd_kept_eq {q s a1 a2 w t} (e : State.sealEnd s a1 a2 = (t, w)) (hs : State.Kept q s) : State.Kept q t := by
  have h : State.Kept q (State.sealEnd s a1 a2).1 := State.sealEnd_kept hs
  rw [e] at h
  exact h

theorem State.loseRecord_kept {q s a1} (hs : State.Kept q s) : State.Kept q (State.loseRecord s a1) := by
  unfold State.loseRecord
  try dsimp only
  with_reducible repeat' first | assumption | apply State.count_kept | apply State.modGran_kept | apply State.raise_kept | apply State.Kept.ite

theorem State.granaryEvent_kept {q s a1 a2 a3 a4} (hs : State.Kept q s) : State.Kept q (State.granaryEvent s a1 a2 a3 a4) := by
  unfold State.granaryEvent
  try dsimp only
  with_reducible repeat' first
      | assumption | apply State.modGran_kept | apply State.count_kept | apply State.loseRecord_kept | apply State.stageRecord_kept
      | apply State.Kept.ite

theorem execLayerReportDeadline_kept {q s} (hs : State.Kept q s) : OutKept q (execLayerReportDeadline s) := by
  unfold execLayerReportDeadline
  try dsimp only
  with_reducible repeat' first | assumption | apply OutKept.next | apply State.doAbort_kept | apply State.Kept.ite

theorem State.putRecord_kept {q s a1} (hs : State.Kept q s) : State.Kept q (State.putRecord s a1) := by
  unfold State.putRecord
  refine State.Kept.ite ?_ hs
  dsimp only
  refine State.Kept.ite (State.Kept.upd ?_) ?_
  all_goals with_reducible repeat' first | assumption | apply State.put_kept | apply State.setFlag_kept | apply State.Kept.ite
  all_goals
    refine State.Kept.silo hs ?_
    split
    · exact MemR.wf_write hs.siloWf
    · exact hs.siloWf

theorem execLaserResume_kept {q a0 a1 s} (hs : State.Kept q s) : OutKept q (execLaserResume a0 a1 s) := by
  unfold execLaserResume
  try dsimp only
  with_reducible repeat' first
      | assumption | apply OutKept.next | (refine State.ask_kept ?_ fun _ _ => ?_) | apply State.laserResume_kept | apply State.Kept.ite

theorem execListLoWrite_kept {q a0 a1 s} (hs : State.Kept q s) : OutKept q (execListLoWrite a0 a1 s) := by
  unfold execListLoWrite
  try dsimp only
  with_reducible repeat' first | assumption | apply OutKept.next | apply State.listLoWrite_kept | apply State.Kept.ite

theorem execOptimeCheckpoint_kept {q s} (hs : State.Kept q s) : OutKept q (execOptimeCheckpoint s) := by
  unfold execOptimeCheckpoint
  try dsimp only
  with_reducible repeat' first | assumption | apply OutKept.next | apply State.modGran_kept | apply State.Kept.ite

theorem execXkPause_kept {q a0 a1 s} (hs : State.Kept q s) : OutKept q (execXkPause a0 a1 s) := by
  unfold execXkPause
  try dsimp only
  with_reducible repeat' first | assumption | apply OutKept.next | apply State.xkPause_kept

theorem execXkWaitV_kept {q a0 a1 s} (hs : State.Kept q s) : OutKept q (execXkWaitV a0 a1 s) := by
  unfold execXkWaitV
  try dsimp only
  with_reducible repeat' first | assumption | apply OutKept.next | apply State.xkWaitV_kept

theorem State.gridBlend_kept {q s a1 a2 a3 a4} (hs : State.Kept q s) : State.Kept q (State.gridBlend s a1 a2 a3 a4).2 := 
  State.Kept.pair (State.gridWord_kept (State.gridWord_kept (State.gridWord_kept (State.gridWord_kept hs))))

theorem State.xkSetpoint_kept {q s a1 a2} (hs : State.Kept q s) : State.Kept q (State.xkSetpoint s a1 a2).2 :=
  Kept_snd_ite (State.Kept.pair (State.gridBlend_kept (State.gridBlend_kept hs))) hs

theorem State.transmit_kept {q s a1 a2 a3} (hs : State.Kept q s) : State.Kept q (State.transmit s a1 a2 a3) := by
  unfold State.transmit
  try dsimp only
  with_reducible repeat' first | assumption | apply State.transmitAt_kept

theorem State.startFrame_kept {q s a1 a2} (hs : State.Kept q s) : State.Kept q (State.startFrame s a1 a2) := by
  unfold State.startFrame
  try dsimp only
  with_reducible repeat' first | assumption | apply State.modLane_kept | apply State.transmit_kept

theorem State.sendNak_kept {q s a1} (hs : State.Kept q s) : State.Kept q (State.sendNak s a1) := by
  unfold State.sendNak
  try dsimp only
  with_reducible repeat' first | assumption | apply State.modLane_kept | apply State.transmit_kept | apply State.Kept.ite

theorem State.linkBad_kept {q s a1 a2 a3} (hs : State.Kept q s) : State.Kept q (State.linkBad s a1 a2 a3) := by
  unfold State.linkBad
  try dsimp only
  with_reducible repeat' first
      | assumption | apply State.count_kept | apply State.noteErr_kept | apply State.sendNak_kept | apply State.freeCredit_kept
      | apply State.burst_kept | apply State.Kept.ite | intro _ | split

theorem execFrameTransmit_kept {q a0 s} (hs : State.Kept q s) : OutKept q (execFrameTransmit a0 s) := by
  unfold execFrameTransmit
  try dsimp only
  with_reducible repeat' first
      | assumption | apply OutKept.next | apply State.startFrame_kept | apply State.modLane_kept | apply State.linkBad_kept | apply State.Kept.ite
      | intro _ | split

theorem State.expose_kept {q s a1 a2 a3} (hs : State.Kept q s) : State.Kept q (State.expose s a1 a2 a3) := by
  unfold State.expose
  try dsimp only
  with_reducible repeat' first | assumption | apply State.modPlot_kept | apply State.bedFix_kept

theorem State.depositPart_kept {q s a1 a2 a3} (hs : State.Kept q s) : State.Kept q (State.depositPart s a1 a2 a3) := by
  unfold State.depositPart
  try dsimp only
  with_reducible repeat' first
      | assumption | apply State.abortNow_kept | apply State.expose_kept | (apply State.Kept.forEach; intro _ _ _) | apply State.sendPeer_kept
      | apply State.Kept.ite

theorem State.exposeParts_kept {q} {a2 : Nat} : ∀ {s a1}, State.Kept q s → State.Kept q (State.exposeParts s a1 a2) := by
  induction a2 with
  | zero =>
    intro s a1 hs
    unfold State.exposeParts
    try dsimp only
    with_reducible repeat' first | assumption
  | succ n ih =>
    intro s a1 hs
    unfold State.exposeParts
    try dsimp only
    with_reducible repeat' first
        | assumption | apply State.modTraj_kept | apply State.depositPart_kept | apply ih | apply State.Kept.ite | intro _ | split

theorem execExposureUpdate_kept {q a0 s} (hs : State.Kept q s) : OutKept q (execExposureUpdate a0 s) := by
  unfold execExposureUpdate
  try dsimp only
  with_reducible repeat' first
      | assumption | apply OutKept.next | (refine State.askSoon_kept ?_ fun _ _ => ?_) | apply State.prunePath_kept | apply State.exposeParts_kept

end Sys2Proof.Machine
end

