-- ==== Sys2Proof/Laws/Kept4.lean ====
section
/-! SUPPORT. Each operation and command leaves the queue alone and the stores canonical, part 4 of 5: callees before
their callers. -/

namespace Sys2Proof.Machine

theorem execKeyProv_kept {q a0 a1 s} (hs : State.Kept q s) : OutKept q (execKeyProv a0 a1 s) := by
  unfold execKeyProv
  try dsimp only
  with_reducible repeat' first | assumption | apply OutKept.next | apply State.longReq_kept

theorem State.zeroiseEnd_kept {q s} (hs : State.Kept q s) : State.Kept q (State.zeroiseEnd s) :=
  State.Kept.ite (State.modGran_kept (State.Kept.silo hs rfl)) hs

theorem execSupervisorRestartDone_kept {q a0 s} (hs : State.Kept q s) : OutKept q (execSupervisorRestartDone a0 s) := by
  unfold execSupervisorRestartDone
  try dsimp only
  with_reducible repeat' first
      | assumption | apply OutKept.next | (refine State.modEng_kept ?_ fun x hx => ?_) | apply State.setFlag_kept | apply State.coreReset_kept
      | apply State.modTime_kept | apply State.zeroiseEnd_kept | apply State.extCheck_kept | apply State.sealEnd_kept
      | (refine State.sealEnd_kept_eq (by assumption) ?_) | apply State.Kept.ite | apply Eff.Kept.done | apply Eff.Kept.jump | apply Eff.Kept.hold
      | apply Eff.Kept.exc | apply Eff.Kept.stall | apply Eff.Kept.ite
      | (refine State.Kept.upd ?_; first | assumption | apply OutKept.next | (refine State.modEng_kept ?_ fun x hx => ?_)) | intro _ | split
      | exact hx | apply Engine.fresh_ok

theorem State.stale_kept {q s a1} (hs : State.Kept q s) : State.Kept q (State.stale s a1) := by
  unfold State.stale
  try dsimp only
  with_reducible repeat' first | assumption | apply State.flManage_kept | apply State.count_kept | apply State.Kept.ite

theorem State.touchReg_kept {q s a1} (hs : State.Kept q s) : State.Kept q (State.touchReg s a1) := by
  unfold State.touchReg
  try dsimp only
  with_reducible repeat' first | assumption | apply State.touch_kept | apply State.Kept.ite | intro _ | split

theorem State.wakeReg_kept {q s a1} (hs : State.Kept q s) : State.Kept q (State.wakeReg s a1) := by
  unfold State.wakeReg
  try dsimp only
  with_reducible repeat' first | assumption | apply State.touchReg_kept | apply State.wakeDomain_kept | apply State.Kept.ite | intro _ | split

theorem State.askReg_kept {q s a1 a2 a3} (hs : State.Kept q s) (hf : ∀ s, State.Kept q s → State.Kept q (a3 s)) : State.Kept q (State.askReg s a1 a2 a3) := by
  unfold State.askReg
  try dsimp only
  with_reducible repeat' first
      | assumption | apply State.touchReg_kept | apply State.park_kept | apply State.wakeReg_kept | apply hf | apply State.Kept.ite

theorem execStreamDisable_kept {q a0 a1 a2 s} (hs : State.Kept q s) : OutKept q (execStreamDisable a0 a1 a2 s) := by
  unfold execStreamDisable
  try dsimp only
  with_reducible repeat' first | assumption | apply OutKept.next | (refine State.askReg_kept ?_ fun _ _ => ?_) | apply State.camCfgWrite_kept

theorem State.acceptGen_kept {q s a1 a2} (hs : State.Kept q s) : State.Kept q (State.acceptGen s a1 a2) := by
  unfold State.acceptGen
  try dsimp only
  with_reducible repeat' first
      | assumption | apply State.raise_kept | apply State.leaveHolder_kept | apply State.put_kept | apply State.setFlag_kept | apply State.Kept.ite

theorem State.makeEffective_kept {q s a1} (hs : State.Kept q s) : State.Kept q (State.makeEffective s a1) := by
  unfold State.makeEffective
  try dsimp only
  with_reducible repeat' first | assumption | apply State.modFab_kept | apply State.axKeyBack_kept | apply State.adoptAxes_kept | apply State.Kept.ite

theorem State.checkQuorum_kept {q s a1} (hs : State.Kept q s) : State.Kept q (State.checkQuorum s a1) := by
  unfold State.checkQuorum
  try dsimp only
  with_reducible repeat' first | assumption | apply State.makeEffective_kept | apply State.Kept.ite | intro _ | split

theorem State.sendRenew_kept {q s} (hs : State.Kept q s) : State.Kept q (State.sendRenew s) := by
  unfold State.sendRenew
  try dsimp only
  with_reducible repeat' first
      | assumption | apply State.modFab_kept | apply State.put_kept | apply State.toAll_kept | apply State.checkQuorum_kept | apply State.Kept.ite
      | intro _ | split

theorem State.rootDomains_kept {q s} (hs : State.Kept q s) : State.Kept q (State.rootDomains s) := by
  unfold State.rootDomains
  try dsimp only
  with_reducible repeat' first | assumption | (apply State.Kept.forEach; intro _ _ _) | apply State.loseDomain_kept | apply State.Kept.ite

theorem State.takeKey_kept {q s a1} (hs : State.Kept q s) : State.Kept q (State.takeKey s a1) := by
  unfold State.takeKey
  try dsimp only
  with_reducible repeat' first
      | assumption | apply State.setFlag_kept | apply State.acceptGen_kept | apply State.setRole_kept | apply State.modFab_kept
      | apply State.sendRenew_kept | apply State.rootDomains_kept | apply State.raise_kept | apply State.Kept.ite
      | (refine State.Kept.upd ?_; first | assumption | apply State.setFlag_kept | apply State.acceptGen_kept | apply State.setRole_kept | apply State.modFab_kept)

theorem execXkVset_kept {q a0 a1 s} (hs : State.Kept q s) : OutKept q (execXkVset a0 a1 s) := by
  unfold execXkVset
  try dsimp only
  with_reducible repeat' first | assumption | apply OutKept.next | apply State.xkVset_kept

theorem State.ethLink_kept {q s a1 a2} (hs : State.Kept q s) : State.Kept q (State.ethLink s a1 a2) := by
  unfold State.ethLink
  try dsimp only
  with_reducible repeat' first | assumption | apply State.enterUp_kept | apply State.enterLane_kept | apply State.Kept.ite

theorem execSgmiiConfigReceive_kept {q a0 a1 s} (hs : State.Kept q s) : OutKept q (execSgmiiConfigReceive a0 a1 s) := by
  unfold execSgmiiConfigReceive
  try dsimp only
  with_reducible repeat' first
      | assumption | apply OutKept.next | apply State.setFlag_kept | apply State.put_kept | apply State.send_kept | apply State.modLane_kept
      | apply State.ethLink_kept | apply State.Kept.ite

theorem State.denied_kept {q s a1} (hs : State.Kept q s) : State.Kept q (State.denied s a1) := by
  unfold State.denied
  try dsimp only
  with_reducible repeat' first | assumption | apply State.syncExc_kept | apply State.Kept.ite | intro _ | split

theorem State.writeAt_kept {q s a1 a2 a3} (hs : State.Kept q s) : State.Kept q (State.writeAt s a1 a2 a3) := by
  unfold State.writeAt
  try dsimp only
  with_reducible repeat' first
      | assumption | (refine State.askReg_kept ?_ fun _ _ => ?_) | (refine State.regWrite_kept (by assumption) ?_) | apply State.payReset_kept
      | apply State.payPorts_kept | apply State.denied_kept | apply State.Kept.ite | intro _ | split

theorem execLoopInjCfgWrite_kept {q a0 a1 s} (hs : State.Kept q s) : OutKept q (execLoopInjCfgWrite a0 a1 s) := by
  unfold execLoopInjCfgWrite
  try dsimp only
  with_reducible repeat' first | assumption | apply OutKept.next | apply State.writeAt_kept

theorem execLockRestored_kept {q s} (hs : State.Kept q s) : OutKept q (execLockRestored s) := by
  unfold execLockRestored
  try dsimp only
  with_reducible repeat' first
      | assumption | apply OutKept.next | apply State.resumeAll_kept | apply State.modTime_kept | apply State.Kept.ite | intro _ | split

theorem execRingDataSend_kept {q a0 s} (hs : State.Kept q s) : OutKept q (execRingDataSend a0 s) := by
  unfold execRingDataSend
  try dsimp only
  with_reducible repeat' first
      | assumption | apply OutKept.next | apply State.wakeRings_kept | apply State.vmpRun_kept | (refine State.askSoon_kept ?_ fun _ _ => ?_)
      | apply State.devReads_kept | (refine State.devReads_kept_eq (by assumption) ?_) | apply State.siloFix_kept | apply State.modHRing_kept
      | apply State.vmpDevice_kept | apply State.Kept.ite | apply Eff.Kept.done | apply Eff.Kept.jump | apply Eff.Kept.hold | apply Eff.Kept.exc
      | apply Eff.Kept.stall | apply Eff.Kept.ite
      | (refine State.Kept.upd ?_; first | assumption | apply OutKept.next | apply State.wakeRings_kept | apply State.vmpRun_kept | (refine State.askSoon_kept ?_ fun _ _ => ?_) | apply State.devReads_kept | (refine State.devReads_kept_eq (by assumption) ?_) | apply State.siloFix_kept | apply State.modHRing_kept | apply State.vmpDevice_kept | apply State.Kept.ite | apply Eff.Kept.done | apply Eff.Kept.jump | apply Eff.Kept.hold | apply Eff.Kept.exc | apply Eff.Kept.stall | apply Eff.Kept.ite | split)

theorem State.ptpDrop_kept {q s} (hs : State.Kept q s) : State.Kept q (State.ptpDrop s) := by
  unfold State.ptpDrop
  try dsimp only
  with_reducible repeat' first | assumption | apply State.modTime_kept

theorem State.vmpReads_kept {q} {a1 : Nat} : ∀ {a0 a2 a3 a4 s}, State.Kept q s → State.Kept q (State.vmpReads a0 a1 a2 a3 a4 s).1 := by
  induction a1 with
  | zero =>
    intro a0 a2 a3 a4 s hs
    unfold State.vmpReads
    try dsimp only
    with_reducible repeat' first | assumption
  | succ n ih =>
    intro a0 a2 a3 a4 s hs
    unfold State.vmpReads
    try dsimp only
    with_reducible repeat' first
        | assumption | (refine State.regRead_kept (by assumption) ?_) | apply State.touchReg_kept | apply ih | apply State.Kept.ite | intro _ | split

theorem State.vmpReads_kept_eq {q a0 a1 a2 a3 a4 s w t} (e : State.vmpReads a0 a1 a2 a3 a4 s = (t, w)) (hs : State.Kept q s) : State.Kept q t := by
  have h : State.Kept q (State.vmpReads a0 a1 a2 a3 a4 s).1 := State.vmpReads_kept hs
  rw [e] at h
  exact h

theorem execRegRead_kept {q a0 a1 s} (hs : State.Kept q s) : OutKept q (execRegRead a0 a1 s) := by
  unfold execRegRead
  try dsimp only
  with_reducible repeat' first
      | assumption | apply OutKept.next | apply State.vmpRun_kept | apply onRing0_kept | (refine onRing0_kept_eq (by assumption) ?_)
      | apply vmpBody_kept | (refine vmpBody_kept_eq (by assumption) ?_) | apply State.vmpReads_kept
      | (refine State.vmpReads_kept_eq (by assumption) ?_) | apply State.Kept.ite | intro _ | split

theorem State.toPin_kept {q s a1} (hs : State.Kept q s) : State.Kept q (State.toPin s a1) := by
  unfold State.toPin
  try dsimp only
  with_reducible repeat' first | assumption | apply State.setFlag_kept | apply State.Kept.ite | (refine State.Kept.upd ?_; first | assumption)

theorem execBedmapConfigWrite_kept {q a0 a1 a2 s} (hs : State.Kept q s) : OutKept q (execBedmapConfigWrite a0 a1 a2 s) := by
  unfold execBedmapConfigWrite
  try dsimp only
  with_reducible repeat' first | assumption | apply OutKept.next | apply State.writeAt_kept

theorem State.leaseResult_kept {q s a1 a2 a3} (hs : State.Kept q s) : State.Kept q (State.leaseResult s a1 a2 a3) := by
  unfold State.leaseResult
  try dsimp only
  with_reducible repeat' first
      | assumption | (refine State.modEng_kept ?_ fun x hx => ?_) | apply State.Kept.ite | intro _ | split | exact hx | apply Engine.setG_ok
      | (refine Engine.complete_ok ?_ fun x hx => ?_) | apply Engine.Ok.upd

theorem State.denyLease_kept {q s a1 a2 a3 a4 a5 a6} (hs : State.Kept q s) : State.Kept q (State.denyLease s a1 a2 a3 a4 a5 a6) := by
  unfold State.denyLease
  try dsimp only
  with_reducible repeat' first
      | assumption | apply State.put_kept | apply State.count_kept | apply State.modArb_kept | apply State.raise_kept | apply State.leaseResult_kept
      | apply State.Kept.ite
      | (refine State.Kept.upd ?_; first | assumption | apply State.put_kept | apply State.count_kept | apply State.modArb_kept | apply State.raise_kept | apply State.leaseResult_kept | apply State.Kept.ite)

theorem State.failPeers_kept {q s a1 a2 a3 a4} (hs : State.Kept q s) : State.Kept q (State.failPeers s a1 a2 a3 a4) := by
  unfold State.failPeers
  try dsimp only
  with_reducible repeat' first
      | assumption | apply State.dropTent_kept | apply State.modArb_kept | apply State.denyLease_kept | (apply State.Kept.forEach; intro _ _ _)
      | apply State.sendPeer_kept

theorem execXkCall_kept {q a0 a1 s} (hs : State.Kept q s) : OutKept q (execXkCall a0 a1 s) := by
  unfold execXkCall
  try dsimp only
  with_reducible repeat' first | assumption | apply OutKept.next | apply State.xkCall_kept

theorem State.captureEntered_kept {q s a1} (hs : State.Kept q s) : State.Kept q (State.captureEntered s a1) := by
  unfold State.captureEntered
  try dsimp only
  with_reducible repeat' first | assumption | apply State.Kept.ite | (refine State.Kept.upd ?_; first | assumption)

theorem execGranarySeal_kept {q a0 a1 s} (hs : State.Kept q s) : OutKept q (execGranarySeal a0 a1 s) := by
  unfold execGranarySeal
  try dsimp only
  with_reducible repeat' first | assumption | apply OutKept.next | apply State.longReq_kept

theorem State.blockLost_kept {q s a1} (hs : State.Kept q s) : State.Kept q (State.blockLost s a1) := by
  have he : ∀ (y : Engine), y.Ok → Engine.Ok { y.fresh with mem := {} } := fun _ _ => rfl
  unfold State.blockLost
  refine State.Kept.dite (fun _ => State.Kept.ite (State.modBeam_kept (State.modEng_kept hs he)) (State.modEng_kept hs he)) fun _ => ?_
  with_reducible repeat' first | assumption | apply State.Kept.ite | apply State.modHost_kept | (refine State.Kept.upd ?_; assumption)

theorem State.rescore_kept {q s} (hs : State.Kept q s) : State.Kept q (State.rescore s) := by
  unfold State.rescore
  try dsimp only
  with_reducible repeat' first | assumption | apply State.modFab_kept | apply State.put_kept

theorem execKeyRenewSend_kept {q s} (hs : State.Kept q s) : OutKept q (execKeyRenewSend s) := by
  unfold execKeyRenewSend
  try dsimp only
  with_reducible repeat' first
      | assumption | apply OutKept.next | apply State.rescore_kept | apply State.releaseKey_kept | apply State.sendRenew_kept | apply State.Kept.ite

theorem State.gridNodes_kept {q s a1 a2 a3} (hs : State.Kept q s) : State.Kept q (State.gridNodes s a1 a2 a3).2 := by
  unfold State.gridNodes
  refine Kept_snd_foldl (p := ([], s)) (fun p n h => ?_) hs
  exact State.devReads_kept h

theorem State.gridAt_kept {q s a1 a2 a3} (hs : State.Kept q s) : State.Kept q (State.gridAt s a1 a2 a3).2 := by
  unfold State.gridAt
  try dsimp only
  with_reducible repeat' first | assumption | apply State.gridNodes_kept

theorem State.setpointAt_kept {q s a1 a2} (hs : State.Kept q s) : State.Kept q (State.setpointAt s a1 a2).2.2 := by
  unfold State.setpointAt
  dsimp only
  split
  · exact State.gridAt_kept hs
  · exact hs

theorem execExtWrite_kept {q a0 s} (hs : State.Kept q s) : OutKept q (execExtWrite a0 s) := by
  unfold execExtWrite
  try dsimp only
  with_reducible repeat' first
      | assumption | apply OutKept.next | apply State.extCheck_kept | apply State.setFlag_kept | apply State.modTime_kept | apply State.Kept.ite

theorem State.ptpSend_kept {q s a1 a2} (hs : State.Kept q s) : State.Kept q (State.ptpSend s a1 a2) := by
  unfold State.ptpSend
  try dsimp only
  with_reducible repeat' first | assumption | apply State.sendPort_kept

theorem execAuthTimeout_kept {q a0 s} (hs : State.Kept q s) : OutKept q (execAuthTimeout a0 s) := by
  unfold execAuthTimeout
  try dsimp only
  with_reducible repeat' first | assumption | apply OutKept.next | apply State.freeSession_kept | apply State.Kept.ite

theorem State.countLate_kept {q s a1} (hs : State.Kept q s) : State.Kept q (State.countLate s a1) := by
  unfold State.countLate
  try dsimp only
  with_reducible repeat' first | assumption | apply State.raise_kept | apply State.put_kept | apply State.count_kept

theorem State.applyEdge_kept {q s a1 a2 a3} (hs : State.Kept q s) : State.Kept q (State.applyEdge s a1 a2 a3) := by
  unfold State.applyEdge
  try dsimp only
  with_reducible repeat' first
      | assumption | apply State.modCell_kept | apply State.gateRise_kept | apply State.gateFall_kept | apply State.Kept.ite | intro _ | split

theorem State.applyNow_kept {q s a1 a2} (hs : State.Kept q s) : State.Kept q (State.applyNow s a1 a2) := by
  unfold State.applyNow
  try dsimp only
  with_reducible repeat' first | assumption | apply State.modCell_kept | apply State.applyEdge_kept | apply State.Kept.ite

theorem State.setL_kept {q s a1} (hs : State.Kept q s) : State.Kept q (State.setL s a1) := by
  unfold State.setL
  try dsimp only
  with_reducible repeat' first
      | assumption | (refine State.modEng_kept ?_ fun x hx => ?_) | apply State.Kept.ite | intro _ | split | exact hx | apply Engine.Ok.upd

theorem State.lateBeam_kept {q s a1 a2} (hs : State.Kept q s) : State.Kept q (State.lateBeam s a1 a2) := by
  unfold State.lateBeam
  try dsimp only
  with_reducible repeat' first
      | assumption | apply State.chHalt_kept | apply State.beamFault_kept | apply State.setL_kept | apply State.gateFall_kept
      | apply State.takeException_kept | (refine State.modEng_kept ?_ fun x hx => ?_) | apply State.stopWith_kept | apply State.Kept.ite | intro _
      | split | exact hx | apply Engine.Ok.upd

theorem State.lateEdge_kept {q s a1 a2 a3} (hs : State.Kept q s) : State.Kept q (State.lateEdge s a1 a2 a3) := by
  unfold State.lateEdge
  try dsimp only
  with_reducible repeat' first
      | assumption | apply State.countLate_kept | apply State.modCell_kept | apply State.applyNow_kept | apply State.lateBeam_kept
      | apply State.setL_kept | apply State.Kept.ite | intro _ | split

theorem State.releaseHead_kept {q s a1} (hs : State.Kept q s) : State.Kept q (State.releaseHead s a1) := by
  unfold State.releaseHead
  try dsimp only
  with_reducible repeat' first
      | assumption | apply State.lateEdge_kept | apply State.modCell_kept | apply State.count_kept | apply State.applyEdge_kept
      | apply State.Kept.ite | intro _ | split

theorem execEngineReset_kept {q a0 a1 s} (hs : State.Kept q s) : OutKept q (execEngineReset a0 a1 s) := by
  unfold execEngineReset
  try dsimp only
  with_reducible repeat' first | assumption | apply OutKept.next | apply State.engReset_kept | apply State.Kept.ite

theorem execInputEdgeCapture_kept {q a0 a1 a2 s} (hs : State.Kept q s) : OutKept q (execInputEdgeCapture a0 a1 a2 s) := by
  unfold execInputEdgeCapture
  try dsimp only
  with_reducible repeat' first
      | assumption | apply OutKept.next | apply State.modCell_kept | apply State.modTraj_kept | apply State.alarmAgain_kept
      | apply State.setFlag_kept | apply State.Kept.ite | intro _ | split

theorem execPermitWithdrawn_kept {q a0 s} (hs : State.Kept q s) : OutKept q (execPermitWithdrawn a0 s) := by
  unfold execPermitWithdrawn
  try dsimp only
  with_reducible repeat' first
      | assumption | apply OutKept.next | apply State.raise_kept | apply State.xkInt_kept | (apply State.Kept.forEach; intro _ _ _)
      | apply State.setFlag_kept | apply State.suspendBeam_kept | apply State.gateFall_kept | apply State.Kept.ite | apply Eff.Kept.done
      | apply Eff.Kept.jump | apply Eff.Kept.hold | apply Eff.Kept.exc | apply Eff.Kept.stall | apply Eff.Kept.ite
      | (refine State.Kept.upd ?_; first | assumption)

theorem State.countVotes_kept {q s a1} (hs : State.Kept q s) : State.Kept q (State.countVotes s a1) := by
  unfold State.countVotes
  try dsimp only
  with_reducible repeat' first | assumption | apply State.takeKey_kept | apply State.Kept.ite

theorem State.addVote_kept {q s a1 a2} (hs : State.Kept q s) : State.Kept q (State.addVote s a1 a2) := by
  unfold State.addVote
  try dsimp only
  with_reducible repeat' first | assumption | apply State.countVotes_kept | apply State.modFab_kept

theorem State.voteRound_kept {q s a1} (hs : State.Kept q s) : State.Kept q (State.voteRound s a1) := by
  unfold State.voteRound
  try dsimp only
  with_reducible repeat' first
      | assumption | apply State.modFab_kept | apply State.addVote_kept | apply State.flManage_kept | apply State.Kept.ite | intro _ | split

theorem execElectionStart_kept {q s} (hs : State.Kept q s) : OutKept q (execElectionStart s) := by
  unfold execElectionStart
  try dsimp only
  with_reducible repeat' first | assumption | apply OutKept.next | apply State.voteRound_kept | apply State.setFlag_kept | apply State.Kept.ite

theorem State.pfailFall_kept {q s} (hs : State.Kept q s) : State.Kept q (State.pfailFall s) := by
  unfold State.pfailFall
  try dsimp only
  with_reducible repeat' first | assumption | apply State.modGran_kept | apply State.failRecord_kept | apply State.Kept.ite

theorem execPermitGiven_kept {q a0 s} (hs : State.Kept q s) : OutKept q (execPermitGiven a0 s) := by
  unfold execPermitGiven
  try dsimp only
  with_reducible repeat' first
      | assumption | apply OutKept.next | apply execPermitWithdrawn_kept | (apply State.Kept.forEach; intro _ _ _) | apply State.setFlag_kept
      | apply State.Kept.ite | apply Eff.Kept.done | apply Eff.Kept.jump | apply Eff.Kept.hold | apply Eff.Kept.exc | apply Eff.Kept.stall
      | apply Eff.Kept.ite | (refine State.Kept.upd ?_; first | assumption)

theorem execRateEffChange_kept {q a0 s} (hs : State.Kept q s) : OutKept q (execRateEffChange a0 s) := by
  unfold execRateEffChange
  try dsimp only
  with_reducible repeat' first
      | assumption | apply OutKept.next | apply State.decideRates_kept | apply State.modLoop_kept | apply State.put_kept | apply State.setFlag_kept
      | apply State.Kept.ite | intro _ | split

theorem execXkModPeriod_kept {q a0 a1 s} (hs : State.Kept q s) : OutKept q (execXkModPeriod a0 a1 s) := by
  unfold execXkModPeriod
  try dsimp only
  with_reducible repeat' first | assumption | apply OutKept.next | apply State.xkPulse_kept

theorem State.netPump_kept {q s a1} (hs : State.Kept q s) : State.Kept q (State.netPump s a1) :=
  State.Kept.ite hs (State.Kept.foldl (fun _ _ h => State.send_kept h) (State.modNet_kept hs))

theorem State.pauseFor_kept {q s a1 a2} (hs : State.Kept q s) : State.Kept q (State.pauseFor s a1 a2) := by
  unfold State.pauseFor
  try dsimp only
  with_reducible repeat' first | assumption | apply State.netPump_kept | apply State.modNet_kept

theorem State.setOpTime_kept {q s a1} (hs : State.Kept q s) : State.Kept q (State.setOpTime s a1) := by
  unfold State.setOpTime
  try dsimp only
  with_reducible repeat' first | assumption | apply State.put_kept

theorem State.opTick_kept {q s} (hs : State.Kept q s) : State.Kept q (State.opTick s) := by
  unfold State.opTick
  try dsimp only
  with_reducible repeat' first | assumption | apply State.modGran_kept | apply State.setOpTime_kept | apply State.Kept.ite

theorem State.axPumpAll_kept {q s} (hs : State.Kept q s) : State.Kept q (State.axPumpAll s) := by
  unfold State.axPumpAll
  try dsimp only
  with_reducible repeat' first | assumption | (apply State.Kept.forEach; intro _ _ _) | apply State.axPump_kept

theorem State.stepOver_kept {q s} (hs : State.Kept q s) : State.Kept q (State.stepOver s) := by
  unfold State.stepOver
  try dsimp only
  with_reducible repeat' first | assumption | apply State.extCheck_kept | apply State.modTime_kept | apply State.Kept.ite

theorem State.clockTick_kept {q s} (hs : State.Kept q s) : State.Kept q (State.clockTick s) := by
  unfold State.clockTick
  try dsimp only
  with_reducible repeat' first | assumption | apply State.stepOver_kept | apply State.modTime_kept | apply State.setFlag_kept | apply State.Kept.ite

theorem State.loopCommit_kept {q s a1 a2} (hs : State.Kept q s) : State.Kept q (State.loopCommit s a1 a2) := by
  unfold State.loopCommit
  try dsimp only
  with_reducible repeat' first
      | assumption | apply State.decideRates_kept | apply State.modLoop_kept | apply State.put_kept | apply State.putRecord_kept
      | apply State.Kept.ite | apply State.Kept.setReg | intro _ | split

theorem State.lightStep_kept {q s} (hs : State.Kept q s) : State.Kept q (State.lightStep s) := by
  unfold State.lightStep
  try dsimp only
  with_reducible repeat' first | assumption | (apply State.Kept.forEach; intro _ _ _) | apply State.modHk_kept | apply State.Kept.ite

theorem State.eqStep_kept {q s} (hs : State.Kept q s) : State.Kept q (State.eqStep s) := by
  unfold State.eqStep
  try dsimp only
  with_reducible repeat' first | assumption | (apply State.Kept.forEach; intro _ _ _) | apply State.modLane_kept

theorem State.tick_kept {q s} (hs : State.Kept q s) : State.Kept q (State.tick s) := by
  unfold State.tick
  try dsimp only
  with_reducible repeat' first
      | assumption | apply State.opTick_kept | apply State.axPumpAll_kept | (apply State.Kept.forEach; intro _ _ _) | apply State.clockTick_kept
      | apply State.barrierCheck_kept | apply State.retireStep_kept | apply State.loopCommit_kept | apply State.netPump_kept
      | apply State.lightStep_kept | apply State.eqStep_kept | apply State.Kept.ite

theorem State.tell_kept {q s a1 a2} (hs : State.Kept q s) : State.Kept q (State.tell s a1 a2) := by
  unfold State.tell
  try dsimp only
  with_reducible repeat' first | assumption | apply State.modFab_kept | apply State.flManage_kept

theorem execSessionTimeout_kept {q a0 s} (hs : State.Kept q s) : OutKept q (execSessionTimeout a0 s) := by
  unfold execSessionTimeout
  try dsimp only
  with_reducible repeat' first | assumption | apply OutKept.next | apply State.closeSession_kept | apply State.Kept.ite

theorem execQuadPllLock_kept {q a0 a1 s} (hs : State.Kept q s) : OutKept q (execQuadPllLock a0 a1 s) := by
  unfold execQuadPllLock
  try dsimp only
  with_reducible repeat' first
      | assumption | apply OutKept.next | apply State.setFlag_kept | (apply State.Kept.forEach; intro _ _ _) | apply State.leaveOff_kept
      | apply State.Kept.ite

theorem State.clearBed_kept {q s} (hs : State.Kept q s) : State.Kept q (State.clearBed s) := by
  unfold State.clearBed
  try dsimp only
  with_reducible repeat' first | assumption | apply State.Kept.ite | (refine State.Kept.upd ?_; first | assumption)

theorem execBedmapClearDone_kept {q s} (hs : State.Kept q s) : OutKept q (execBedmapClearDone s) := by
  unfold execBedmapClearDone
  try dsimp only
  with_reducible repeat' first
      | assumption | apply OutKept.next | apply State.setFlag_kept | apply State.clearBed_kept | apply State.Kept.ite | apply Eff.Kept.done
      | apply Eff.Kept.jump | apply Eff.Kept.hold | apply Eff.Kept.exc | apply Eff.Kept.stall | apply Eff.Kept.ite
      | (refine State.Kept.upd ?_; first | assumption)

theorem execSysResetn_kept {q a0 s} (hs : State.Kept q s) : OutKept q (execSysResetn a0 s) := by
  unfold execSysResetn
  try dsimp only
  with_reducible repeat' first | assumption | apply OutKept.next | apply State.fullReset_kept | apply State.Kept.ite

theorem execXkCurve_kept {q a0 a1 a2 a3 s} (hs : State.Kept q s) : OutKept q (execXkCurve a0 a1 a2 a3 s) := by
  unfold execXkCurve
  try dsimp only
  with_reducible repeat' first | assumption | apply OutKept.next | apply State.xkCurve_kept

theorem execXkNop_kept {q a0 a1 s} (hs : State.Kept q s) : OutKept q (execXkNop a0 a1 s) := by
  unfold execXkNop
  try dsimp only
  with_reducible repeat' first | assumption | apply OutKept.next | apply State.xkNop_kept

theorem State.replay_kept {q s} (hs : State.Kept q s) : State.Kept q (State.replay s) := by
  unfold State.replay
  try dsimp only
  with_reducible repeat' first
      | assumption | apply State.dumpNow_kept | apply State.raise_kept | apply State.setFlag_kept | apply State.modGran_kept
      | (apply State.Kept.forEach; intro _ _ _) | apply State.granaryPut_kept | apply State.Kept.ite | intro _ | split

theorem State.granaryUp_kept {q s a1} (hs : State.Kept q s) : State.Kept q (State.granaryUp s a1) := by
  unfold State.granaryUp
  try dsimp only
  with_reducible repeat' first
      | assumption | apply State.sealEnd_kept | (refine State.sealEnd_kept_eq (by assumption) ?_) | apply State.setOpTime_kept
      | apply State.count_kept | apply State.modGran_kept | apply State.replay_kept | apply State.Kept.ite

theorem execGranaryPowerUp_kept {q a0 s} (hs : State.Kept q s) : OutKept q (execGranaryPowerUp a0 s) := by
  unfold execGranaryPowerUp
  try dsimp only
  with_reducible repeat' first | assumption | apply OutKept.next | apply State.granaryUp_kept | apply State.Kept.ite

theorem State.latchEvent_kept {q s a1 a2} (hs : State.Kept q s) : State.Kept q (State.latchEvent s a1 a2) := by
  unfold State.latchEvent
  try dsimp only
  with_reducible repeat' first
      | assumption | apply State.count_kept | (refine State.modEng_kept ?_ fun x hx => ?_) | apply State.Kept.ite | intro _ | split | exact hx
      | apply Engine.Ok.upd

theorem execXkTravelSettle_kept {q a0 a1 s} (hs : State.Kept q s) : OutKept q (execXkTravelSettle a0 a1 s) := by
  unfold execXkTravelSettle
  try dsimp only
  with_reducible repeat' first | assumption | apply OutKept.next | apply State.xkTravelSettle_kept

theorem State.wdogFault_kept {q s a1} (hs : State.Kept q s) : State.Kept q (State.wdogFault s a1) := by
  unfold State.wdogFault
  try dsimp only
  with_reducible repeat' first | assumption | apply State.beamFault_kept | apply State.Kept.ite | intro _ | split

theorem execWatchdogExpiry_kept {q a0 s} (hs : State.Kept q s) : OutKept q (execWatchdogExpiry a0 s) := by
  unfold execWatchdogExpiry
  try dsimp only
  with_reducible repeat' first
      | assumption | apply OutKept.next | apply State.setFlag_kept | apply State.wdogReload_kept | apply State.engFault_kept
      | apply State.wdogFault_kept | apply State.stopWith_kept | (refine State.modEng_kept ?_ fun x hx => ?_) | apply State.takeException_kept
      | apply State.Kept.ite | intro _ | split | exact hx | apply Engine.Ok.upd

theorem execChStart_kept {q a0 a1 s} (hs : State.Kept q s) : OutKept q (execChStart a0 a1 s) := by
  unfold execChStart
  try dsimp only
  with_reducible repeat' first | assumption | apply OutKept.next | apply State.xkBegin_kept

theorem xkFreeGo_kept {q} {a1 : Nat} : ∀ {a0 s}, State.Kept q s → State.Kept q (xkFreeGo a0 a1 s) := by
  induction a1 with
  | zero =>
    intro a0 s hs
    unfold xkFreeGo
    try dsimp only
    with_reducible repeat' first | assumption
  | succ n ih =>
    intro a0 s hs
    unfold xkFreeGo
    try dsimp only
    with_reducible repeat' first
        | assumption | apply xkTickGo_kept | apply State.xkAt_kept | apply State.xkTo_kept | apply State.xkNext_kept | apply ih
        | apply State.Kept.ite

theorem State.vmpWrites_kept {q} {a1 : Nat} : ∀ {a0 a2 a3 s}, State.Kept q s → State.Kept q (State.vmpWrites a0 a1 a2 a3 s).1 := by
  induction a1 with
  | zero =>
    intro a0 a2 a3 s hs
    unfold State.vmpWrites
    try dsimp only
    with_reducible repeat' first | assumption
  | succ n ih =>
    intro a0 a2 a3 s hs
    unfold State.vmpWrites
    try dsimp only
    with_reducible repeat' first
        | assumption | (refine State.regWrite_kept (by assumption) ?_) | apply State.touchReg_kept | apply ih | apply State.Kept.ite | intro _
        | split

theorem State.vmpWrites_kept_eq {q a0 a1 a2 a3 s w t} (e : State.vmpWrites a0 a1 a2 a3 s = (t, w)) (hs : State.Kept q s) : State.Kept q t := by
  have h : State.Kept q (State.vmpWrites a0 a1 a2 a3 s).1 := State.vmpWrites_kept hs
  rw [e] at h
  exact h

theorem execXkIdleT_kept {q a0 a1 s} (hs : State.Kept q s) : OutKept q (execXkIdleT a0 a1 s) := by
  unfold execXkIdleT
  try dsimp only
  with_reducible repeat' first | assumption | apply OutKept.next | apply State.xkIdleT_kept

theorem execDomainLoss_kept {q a0 s} (hs : State.Kept q s) : OutKept q (execDomainLoss a0 s) := by
  unfold execDomainLoss
  try dsimp only
  with_reducible repeat' first | assumption | apply OutKept.next | apply State.latchOfs_kept | apply State.loseDomain_kept | apply State.Kept.ite

theorem State.loseOnRing_kept {q s a1} (hs : State.Kept q s) : State.Kept q (State.loseOnRing s a1) := by
  unfold State.loseOnRing
  try dsimp only
  with_reducible repeat' first | assumption | apply State.modHRing_kept | apply State.count_kept | apply State.raise_kept | apply State.Kept.ite

theorem State.loadSettings_kept {q s a1 a2} (hs : State.Kept q s) : State.Kept q (State.loadSettings s a1 a2).2 := by
  unfold State.loadSettings
  try dsimp only
  with_reducible repeat' first | assumption | apply State.devReads_kept

theorem State.loadSettings_kept_eq {q s a1 a2 w t} (e : State.loadSettings s a1 a2 = (w, t)) (hs : State.Kept q s) : State.Kept q t := by
  have h : State.Kept q (State.loadSettings s a1 a2).2 := State.loadSettings_kept hs
  rw [e] at h
  exact h

theorem execExtLost_kept {q s} (hs : State.Kept q s) : OutKept q (execExtLost s) := by
  unfold execExtLost
  try dsimp only
  with_reducible repeat' first
      | assumption | apply OutKept.next | apply State.raise_kept | apply State.setFlag_kept | apply State.extCheck_kept | apply State.modTime_kept
      | apply State.Kept.ite

theorem execHelloReceive_kept {q a0 a1 a2 s} (hs : State.Kept q s) : OutKept q (execHelloReceive a0 a1 a2 s) := by
  unfold execHelloReceive
  try dsimp only
  with_reducible repeat' first | assumption | apply OutKept.next | apply State.setAdj_kept | apply State.Kept.ite

theorem execSafeCommit_kept {q a0 s} (hs : State.Kept q s) : OutKept q (execSafeCommit a0 s) := by
  unfold execSafeCommit
  try dsimp only
  with_reducible repeat' first
      | assumption | apply OutKept.next | apply execLease_kept | apply State.runBeam_kept | apply State.modTraj_kept | apply State.modSwath_kept
      | apply State.Kept.ite | apply Eff.Kept.done | intro _ | split

theorem State.axHomeFound_kept {q s a1 a2} (hs : State.Kept q s) : State.Kept q (State.axHomeFound s a1 a2) := by
  unfold State.axHomeFound
  try dsimp only
  with_reducible repeat' first | assumption | apply State.setAxPos_kept | apply State.modAxis_kept | apply State.axStopAt_kept

theorem State.setPfail_kept {q s a1} (hs : State.Kept q s) : State.Kept q (State.setPfail s a1) := by
  unfold State.setPfail
  try dsimp only
  with_reducible repeat' first | assumption | apply State.Kept.ite | (refine State.Kept.upd ?_; first | assumption)

theorem execVel_kept {q a0 a1 s} (hs : State.Kept q s) : OutKept q (execVel a0 a1 s) := by
  unfold execVel
  try dsimp only
  with_reducible repeat' first | assumption | apply OutKept.next | apply State.axCommand_kept

theorem State.lanesReset_kept {q s a1} (hs : State.Kept q s) : State.Kept q (State.lanesReset s a1) := by
  unfold State.lanesReset
  try dsimp only
  with_reducible repeat' first | assumption | (apply State.Kept.forEach; intro _ _ _) | apply State.setFlag_kept

theorem State.domainOff_kept {q s a1} (hs : State.Kept q s) : State.Kept q (State.domainOff s a1) := by
  unfold State.domainOff
  have h : State.Kept q { s.blockLost a1 with regs := s.regs.filter fun x => !s.lostWith a1 x.1 } := State.Kept.regsOf hs (State.blockLost_kept hs)
  with_reducible repeat' first
      | assumption | apply State.put_kept | apply State.Kept.ite | apply State.setFlag_kept | apply State.inputAgain_kept
      | apply State.lanesReset_kept

theorem execXkTickLoRead_kept {q a0 s} (hs : State.Kept q s) : OutKept q (execXkTickLoRead a0 s) := by
  unfold execXkTickLoRead
  try dsimp only
  with_reducible repeat' first | assumption | apply OutKept.next | apply State.latchTick_kept | apply State.Kept.ite

theorem execXkSync_kept {q a0 a1 s} (hs : State.Kept q s) : OutKept q (execXkSync a0 a1 s) := by
  unfold execXkSync
  try dsimp only
  with_reducible repeat' first | assumption | apply OutKept.next | apply State.xkSyncCmd_kept

theorem State.answer_kept {q s a1 a2 a3 a4 a5} (hs : State.Kept q s) : State.Kept q (State.answer s a1 a2 a3 a4 a5) := by
  unfold State.answer
  try dsimp only
  with_reducible repeat' first | assumption | apply State.sendLease_kept

theorem execHelloSend_kept {q a0 s} (hs : State.Kept q s) : OutKept q (execHelloSend a0 s) := by
  unfold execHelloSend
  try dsimp only
  with_reducible repeat' first | assumption | apply OutKept.next | apply State.sendHello_kept | apply State.Kept.ite

theorem State.beginWrite_kept {q s a1} (hs : State.Kept q s) : State.Kept q (State.beginWrite s a1) := by
  unfold State.beginWrite
  try dsimp only
  with_reducible repeat' first | assumption | apply State.modGran_kept

theorem State.vmpUnknown_kept {q s a1 a2} (hs : State.Kept q s) : State.Kept q (State.vmpUnknown s a1 a2) := by
  unfold State.vmpUnknown
  try dsimp only
  with_reducible repeat' first
      | assumption | apply State.vmpRun_kept | apply onRing0_kept | (refine onRing0_kept_eq (by assumption) ?_) | apply vmpBody_kept
      | (refine vmpBody_kept_eq (by assumption) ?_) | apply vmpNo_kept | (refine vmpNo_kept_eq (by assumption) ?_) | apply State.vmpMeet_kept
      | apply State.vmpAnswer_kept | apply State.Kept.ite | intro _ | split

theorem State.lbSend_kept {q s} (hs : State.Kept q s) : State.Kept q (State.lbSend s) := by
  unfold State.lbSend
  try dsimp only
  with_reducible repeat' first
      | assumption | apply State.modLb_kept | apply State.send_kept | apply State.vmpUnknown_kept | apply State.Kept.ite | intro _ | split

theorem State.lbCtrl_kept {q s a1} (hs : State.Kept q s) : State.Kept q (State.lbCtrl s a1) := by
  unfold State.lbCtrl
  try dsimp only
  with_reducible repeat' first | assumption | apply State.modLb_kept | apply State.lbSend_kept | apply State.Kept.ite

theorem execTxSend_kept {q a0 a1 s} (hs : State.Kept q s) : OutKept q (execTxSend a0 a1 s) := by
  unfold execTxSend
  try dsimp only
  with_reducible repeat' first | assumption | apply OutKept.next | apply State.lbCtrl_kept | apply State.modLb_kept | apply State.Kept.ite

theorem State.releaseEffect_kept {q s a1} (hs : State.Kept q s) : State.Kept q (State.releaseEffect s a1) := by
  unfold State.releaseEffect
  try dsimp only
  with_reducible repeat' first | assumption | apply State.freeLease_kept | apply State.Kept.ite | intro _ | split

theorem State.bedFixRect_kept {q s a1} (hs : State.Kept q s) : State.Kept q (State.bedFixRect s a1) := by
  unfold State.bedFixRect
  try dsimp only
  with_reducible repeat' first | assumption | apply State.bedFix_kept

theorem State.trialFix_kept {q s a1} (hs : State.Kept q s) : State.Kept q (State.trialFix s a1) := by
  unfold State.trialFix
  try dsimp only
  with_reducible repeat' first | assumption | (apply State.Kept.forEach; intro _ _ _) | apply State.bedFixRect_kept

theorem execXkTstamp_kept {q a0 a1 s} (hs : State.Kept q s) : OutKept q (execXkTstamp a0 a1 s) := by
  unfold execXkTstamp
  try dsimp only
  with_reducible repeat' first | assumption | apply OutKept.next | apply State.xkTstamp_kept

theorem State.readGain_kept {q s a1 a2 a3} (hs : State.Kept q s) : State.Kept q (State.readGain s a1 a2 a3).2 := by
  unfold State.readGain
  try dsimp only
  with_reducible repeat' first | assumption | apply State.devReads_kept

theorem State.readGain_kept_eq {q s a1 a2 a3 w t} (e : State.readGain s a1 a2 a3 = (w, t)) (hs : State.Kept q s) : State.Kept q t := by
  have h : State.Kept q (State.readGain s a1 a2 a3).2 := State.readGain_kept hs
  rw [e] at h
  exact h

theorem State.xkCheck_kept {q s a1} (hs : State.Kept q s) : State.Kept q (State.xkCheck s a1) := by
  unfold State.xkCheck
  try dsimp only
  with_reducible repeat' first
      | assumption | apply State.xkAt_kept | apply State.xkSync_kept | apply State.xkSwapNow_kept | apply State.xkResume_kept | apply State.Kept.ite
      | intro _ | split

theorem xkRunGo_kept {q} {a0 : Nat} : ∀ {s}, State.Kept q s → State.Kept q (xkRunGo a0 s) := by
  induction a0 with
  | zero =>
    intro s hs
    unfold xkRunGo
    try dsimp only
    with_reducible repeat' first | assumption
  | succ n ih =>
    intro s hs
    unfold xkRunGo
    try dsimp only
    with_reducible repeat' first
        | assumption | apply xkTickGo_kept | (apply State.Kept.forEach; intro _ _ _) | apply State.xkCheck_kept | apply State.xkAt_kept
        | apply State.modChan_kept | apply ih | apply State.Kept.ite | intro _ | split

theorem execHealthSend_kept {q s} (hs : State.Kept q s) : OutKept q (execHealthSend s) := by
  unfold execHealthSend
  try dsimp only
  with_reducible repeat' first
      | assumption | apply OutKept.next | apply State.rescore_kept | (apply State.Kept.forEach; intro _ _ _) | apply State.flManage_kept
      | apply State.modFab_kept | apply State.Kept.ite

theorem State.passOn_kept {q s a1 a2} (hs : State.Kept q s) : State.Kept q (State.passOn s a1 a2) := by
  unfold State.passOn
  try dsimp only
  with_reducible repeat' first | assumption | apply State.send_kept | apply State.count_kept | apply State.Kept.ite

theorem State.linkGood_kept {q s a1 a2} (hs : State.Kept q s) : State.Kept q (State.linkGood s a1 a2) := by
  unfold State.linkGood
  try dsimp only
  with_reducible repeat' first
      | assumption | apply State.freeCredit_kept | apply State.passOn_kept | apply State.modLane_kept | apply State.sendNak_kept
      | apply State.Kept.ite

theorem execLossRecordStage_kept {q s} (hs : State.Kept q s) : OutKept q (execLossRecordStage s) := by
  unfold execLossRecordStage
  try dsimp only
  with_reducible repeat' first
      | assumption | apply OutKept.next | (apply State.Kept.forEach; intro _ _ _) | apply State.modGran_kept | apply State.stageRecord_kept
      | apply State.Kept.ite

theorem State.ptpTake_kept {q s a1 a2 a3 a4 a5} (hs : State.Kept q s) (hf : ∀ d, State.Kept q (a5 d)) : State.Kept q (State.ptpTake s a1 a2 a3 a4 a5) := by
  unfold State.ptpTake
  try dsimp only
  with_reducible repeat' first | assumption | apply State.ptpDrop_kept | apply hf | apply State.Kept.ite | intro _ | split

theorem execPtpSyncReceive_kept {q a0 a1 s} (hs : State.Kept q s) : OutKept q (execPtpSyncReceive a0 a1 s) := by
  unfold execPtpSyncReceive
  try dsimp only
  with_reducible repeat' first
      | assumption | apply OutKept.next | apply State.ptpTake_kept | apply State.ptpDrop_kept | apply State.modDom_kept | apply State.Kept.ite
      | intro _

theorem execListHiWrite_kept {q a0 a1 s} (hs : State.Kept q s) : OutKept q (execListHiWrite a0 a1 s) := by
  unfold execListHiWrite
  try dsimp only
  with_reducible repeat' first | assumption | apply OutKept.next | apply State.listHiWrite_kept | apply State.Kept.ite

theorem State.winnowItem_kept {q s a1 a2} (hs : State.Kept q s) : State.Kept q (State.winnowItem s a1 a2) := by
  unfold State.winnowItem
  try dsimp only
  with_reducible repeat' first | assumption | apply State.modFab_kept | apply State.raise_kept | apply State.put_kept | apply State.Kept.ite

theorem State.winnowEng_kept {q s a1 a2} (hs : State.Kept q s) : State.Kept q (State.winnowEng s a1 a2) :=
  State.winnowItem_kept (State.noteFixes_kept (State.modEng_kept hs fun _ h => h))

theorem State.winnowSilo_kept {q s a1} (hs : State.Kept q s) : State.Kept q (State.winnowSilo s a1) := by
  have h : State.Kept q { s with silo := s.silo.scrub } := State.Kept.silo hs hs.siloWf
  exact State.Kept.forEach (fun _ _ h => State.winnowItem_kept h) (State.noteFixes_kept h)

theorem State.winnowBed_kept {q s a1} (hs : State.Kept q s) : State.Kept q (State.winnowBed s a1) := by
  unfold State.winnowBed
  try dsimp only
  with_reducible repeat' first | assumption | apply State.winnowItem_kept | apply State.bedFix_kept

theorem State.winnowGranary_kept {q s a1} (hs : State.Kept q s) : State.Kept q (State.winnowGranary s a1) := by
  unfold State.winnowGranary
  try dsimp only
  with_reducible repeat' first | assumption | apply State.winnowItem_kept

theorem execWinnowCycle_kept {q a0 s} (hs : State.Kept q s) : OutKept q (execWinnowCycle a0 s) := by
  unfold execWinnowCycle
  dsimp only
  with_reducible repeat' first
      | assumption | apply OutKept.next | (apply State.Kept.forEach; intro _ _ _) | apply State.winnowEng_kept | apply State.winnowSilo_kept
      | apply State.winnowBed_kept | apply State.winnowGranary_kept | apply State.modFab_kept | apply State.Kept.ite

theorem State.movesLeft_kept {q s a1} (hs : State.Kept q s) : State.Kept q (State.movesLeft s a1) := by
  unfold State.movesLeft
  try dsimp only
  with_reducible repeat' first | assumption | apply State.setFlag_kept | apply State.Kept.ite | (refine State.Kept.upd ?_; first | assumption)

theorem execMoveComplete_kept {q s} (hs : State.Kept q s) : OutKept q (execMoveComplete s) := by
  unfold execMoveComplete
  try dsimp only
  with_reducible repeat' first
      | assumption | apply OutKept.next | apply State.movesLeft_kept | apply State.moveDesc_kept | apply State.Kept.ite | apply Eff.Kept.done
      | apply Eff.Kept.jump | apply Eff.Kept.hold | apply Eff.Kept.exc | apply Eff.Kept.stall | apply Eff.Kept.ite
      | (refine State.Kept.upd ?_; first | assumption | apply OutKept.next | apply State.movesLeft_kept | apply State.moveDesc_kept | apply State.Kept.ite | apply Eff.Kept.done | apply Eff.Kept.jump | apply Eff.Kept.hold | apply Eff.Kept.exc | apply Eff.Kept.stall | apply Eff.Kept.ite | split)

theorem execPendingExceptionTaken_kept {q a0 s} (hs : State.Kept q s) : OutKept q (execPendingExceptionTaken a0 s) := by
  unfold execPendingExceptionTaken
  try dsimp only
  with_reducible repeat' first
      | assumption | apply OutKept.next | apply execWaitt_kept | apply State.enterException_kept | (refine State.modEng_kept ?_ fun x hx => ?_)
      | apply State.wdogTaken_kept | apply State.Kept.ite | intro _ | split | exact hx | apply Engine.Ok.upd

theorem execXkLightLead_kept {q a0 a1 s} (hs : State.Kept q s) : OutKept q (execXkLightLead a0 a1 s) := by
  unfold execXkLightLead
  try dsimp only
  with_reducible repeat' first | assumption | apply OutKept.next | apply State.xkLightLead_kept

theorem execBootBegin_kept {q s} (hs : State.Kept q s) : OutKept q (execBootBegin s) := by
  unfold execBootBegin
  try dsimp only
  with_reducible repeat' first
      | assumption | apply OutKept.next | apply State.put_kept | apply State.setFlag_kept | apply State.Kept.ite | apply Eff.Kept.done
      | apply Eff.Kept.jump | apply Eff.Kept.hold | apply Eff.Kept.exc | apply Eff.Kept.stall | apply Eff.Kept.ite
      | (refine State.Kept.upd ?_; first | assumption | apply OutKept.next | apply State.put_kept | apply State.setFlag_kept)

theorem execAnComplete_kept {q a0 a1 s} (hs : State.Kept q s) : OutKept q (execAnComplete a0 a1 s) := by
  unfold execAnComplete
  try dsimp only
  with_reducible repeat' first
      | assumption | apply OutKept.next | apply State.modLane_kept | apply State.setFlag_kept | apply State.put_kept | apply State.ethLink_kept
      | apply State.Kept.ite

theorem execSetpointFrame_kept {q a0 s} (hs : State.Kept q s) : OutKept q (execSetpointFrame a0 s) := by
  unfold execSetpointFrame
  refine OutKept.next (State.Kept.ite hs ?_)
  dsimp only
  generalize hx : ite (decide (_ = 0) = true) (State.setpointAt _ _ _) _ = x
  have h : State.Kept q x.2.2 := by
    rw [← hx]
    split
    · exact State.setpointAt_kept hs
    · exact hs
  with_reducible repeat' first
      | assumption | apply State.Kept.ite | apply State.lateBeam_kept | apply State.countLate_kept | apply State.modTraj_kept
      | apply State.transmitAt_kept | apply State.count_kept | split

theorem execXkLightOff_kept {q a0 a1 s} (hs : State.Kept q s) : OutKept q (execXkLightOff a0 a1 s) := by
  unfold execXkLightOff
  try dsimp only
  with_reducible repeat' first | assumption | apply OutKept.next | apply State.xkLightOff_kept

theorem execXaxPosLoRead_kept {q a0 a1 s} (hs : State.Kept q s) : OutKept q (execXaxPosLoRead a0 a1 s) := by
  unfold execXaxPosLoRead
  try dsimp only
  with_reducible repeat' first | assumption | apply OutKept.next | apply State.latchXpos_kept | apply State.Kept.ite

theorem State.feTrip_kept {q s a1 a2 a3} (hs : State.Kept q s) : State.Kept q (State.feTrip s a1 a2 a3) := by
  unfold State.feTrip
  try dsimp only
  with_reducible repeat' first
      | assumption | apply State.count_kept | apply State.gateFall_kept | apply State.modTraj_kept | apply State.beamFault_kept
      | apply State.decideRates_kept | apply State.retire_kept | apply State.stopWith_kept | apply State.Kept.ite

theorem execPositionTimeout_kept {q a0 s} (hs : State.Kept q s) : OutKept q (execPositionTimeout a0 s) := by
  unfold execPositionTimeout
  try dsimp only
  with_reducible repeat' first
      | assumption | apply OutKept.next | apply State.resumeBeam_kept | apply execSetpointFrame_kept | apply State.headEvent_kept
      | apply State.modTraj_kept | apply State.feTrip_kept | apply State.Kept.ite

theorem execSwathDone_kept {q a0 s} (hs : State.Kept q s) : OutKept q (execSwathDone a0 s) := by
  unfold execSwathDone
  try dsimp only
  with_reducible repeat' first
      | assumption | apply OutKept.next | apply State.abortNow_kept | apply State.searchAgain_kept | apply State.setDone_kept
      | apply State.finish_kept | apply State.swathDone_kept | apply State.modBeam_kept | apply State.Kept.ite | intro _ | split

theorem execXkJz_kept {q a0 a1 s} (hs : State.Kept q s) : OutKept q (execXkJz a0 a1 s) := by
  unfold execXkJz
  try dsimp only
  with_reducible repeat' first | assumption | apply OutKept.next | apply State.xkJz_kept

theorem execPeerEnergyReceive_kept {q a0 a1 a2 a3 a4 s} (hs : State.Kept q s) : OutKept q (execPeerEnergyReceive a0 a1 a2 a3 a4 s) := by
  unfold execPeerEnergyReceive
  try dsimp only
  with_reducible repeat' first
      | assumption | apply OutKept.next | (refine State.ask_kept ?_ fun _ _ => ?_) | apply State.expose_kept | apply State.Kept.ite

theorem execPeerCancelReceive_kept {q a0 a1 s} (hs : State.Kept q s) : OutKept q (execPeerCancelReceive a0 a1 s) := by
  unfold execPeerCancelReceive
  try dsimp only
  with_reducible repeat' first | assumption | apply OutKept.next | (refine State.ask_kept ?_ fun _ _ => ?_) | apply State.freeRemote_kept

theorem State.frameSet_kept {q s a1 a2} (hs : State.Kept q s) : State.Kept q (State.frameSet s a1 a2) := by
  unfold State.frameSet
  try dsimp only
  with_reducible repeat' first | assumption | apply State.modDisp_kept

theorem State.takeTiming_kept {q s a1} (hs : State.Kept q s) : State.Kept q (State.takeTiming s a1) := by
  unfold State.takeTiming
  try dsimp only
  with_reducible repeat' first | assumption | apply State.put_kept | apply State.modDisp_kept | apply State.frameSet_kept | apply State.Kept.ite

theorem execTimingApplied_kept {q s} (hs : State.Kept q s) : OutKept q (execTimingApplied s) := by
  unfold execTimingApplied
  try dsimp only
  with_reducible repeat' first
      | assumption | apply OutKept.next | apply State.blankDue_kept | apply State.takeTiming_kept | apply State.modDisp_kept
      | apply State.setFlag_kept | apply State.dispEvent_kept | apply State.Kept.ite

theorem State.sessOpened_kept {q s a1} (hs : State.Kept q s) : State.Kept q (State.sessOpened s a1) := by
  unfold State.sessOpened
  try dsimp only
  with_reducible repeat' first | assumption | apply State.raise_kept | apply State.ringsFresh_kept | apply State.put_kept

theorem execAuth_kept {q a0 a1 s} (hs : State.Kept q s) : OutKept q (execAuth a0 a1 s) := by
  unfold execAuth
  try dsimp only
  with_reducible repeat' first
      | assumption | apply OutKept.next | apply State.vmpMeet_kept | apply State.vmpRun_kept | apply State.vmpAnswer_kept | apply State.vmpSeq_kept
      | apply onRing0_kept | (refine onRing0_kept_eq (by assumption) ?_) | apply State.sessOpened_kept | apply vmpBody_kept
      | (refine vmpBody_kept_eq (by assumption) ?_) | apply State.badTag_kept | apply vmpNo_kept | (refine vmpNo_kept_eq (by assumption) ?_)
      | apply State.Kept.ite | intro _ | split

theorem execVmpClose_kept {q a0 a1 s} (hs : State.Kept q s) : OutKept q (execVmpClose a0 a1 s) := by
  unfold execVmpClose
  try dsimp only
  with_reducible repeat' first
      | assumption | apply OutKept.next | apply State.vmpRun_kept | apply onRing0_kept | (refine onRing0_kept_eq (by assumption) ?_)
      | apply State.closeSession_kept | apply vmpBody_kept | (refine vmpBody_kept_eq (by assumption) ?_) | apply State.Kept.ite | intro _ | split

theorem execKeepalive_kept {q a0 a1 s} (hs : State.Kept q s) : OutKept q (execKeepalive a0 a1 s) := by
  unfold execKeepalive
  try dsimp only
  with_reducible repeat' first
      | assumption | apply OutKept.next | apply State.vmpRun_kept | apply onRing0_kept | (refine onRing0_kept_eq (by assumption) ?_)
      | apply vmpBody_kept | (refine vmpBody_kept_eq (by assumption) ?_) | apply State.Kept.ite | intro _ | split

theorem execRegWrite_kept {q a0 a1 s} (hs : State.Kept q s) : OutKept q (execRegWrite a0 a1 s) := by
  unfold execRegWrite
  try dsimp only
  with_reducible repeat' first
      | assumption | apply OutKept.next | apply State.vmpRun_kept | apply onRing0_kept | (refine onRing0_kept_eq (by assumption) ?_)
      | apply vmpBody_kept | (refine vmpBody_kept_eq (by assumption) ?_) | apply State.vmpWrites_kept
      | (refine State.vmpWrites_kept_eq (by assumption) ?_) | apply State.Kept.ite | intro _ | split

theorem execSiloWrite_kept {q a0 a1 s} (hs : State.Kept q s) : OutKept q (execSiloWrite a0 a1 s) := by
  unfold execSiloWrite
  try dsimp only
  with_reducible repeat' first
      | assumption | apply OutKept.next | apply State.vmpRun_kept | apply onRing0_kept | (refine onRing0_kept_eq (by assumption) ?_)
      | apply vmpBody_kept | (refine vmpBody_kept_eq (by assumption) ?_) | apply vmpNo_kept | (refine vmpNo_kept_eq (by assumption) ?_)
      | apply State.siloPut_kept | apply State.Kept.ite | intro _ | split

theorem execSiloRead_kept {q a0 a1 s} (hs : State.Kept q s) : OutKept q (execSiloRead a0 a1 s) := by
  unfold execSiloRead
  try dsimp only
  with_reducible repeat' first
      | assumption | apply OutKept.next | apply State.vmpRun_kept | apply onRing0_kept | (refine onRing0_kept_eq (by assumption) ?_)
      | apply vmpBody_kept | (refine vmpBody_kept_eq (by assumption) ?_) | apply vmpNo_kept | (refine vmpNo_kept_eq (by assumption) ?_)
      | apply State.siloFix_kept | apply State.Kept.ite | intro _ | split

theorem State.placeDescs_kept {q} {a1 : Nat} : ∀ {a0 a2 a3 s}, State.Kept q s → State.Kept q (State.placeDescs a0 a1 a2 a3 s).1 := by
  induction a1 with
  | zero =>
    intro a0 a2 a3 s hs
    unfold State.placeDescs
    try dsimp only
    with_reducible repeat' first | assumption
  | succ n ih =>
    intro a0 a2 a3 s hs
    unfold State.placeDescs
    try dsimp only
    with_reducible repeat' first
        | assumption | apply State.vmpWrites_kept | (refine State.vmpWrites_kept_eq (by assumption) ?_) | apply State.siloPut_kept
        | apply State.setTail_kept | apply ih | apply State.Kept.ite | intro _ | split

theorem State.placeDescs_kept_eq {q a0 a1 a2 a3 s w t} (e : State.placeDescs a0 a1 a2 a3 s = (t, w)) (hs : State.Kept q s) : State.Kept q t := by
  have h : State.Kept q (State.placeDescs a0 a1 a2 a3 s).1 := State.placeDescs_kept hs
  rw [e] at h
  exact h

theorem execRingPut_kept {q a0 a1 s} (hs : State.Kept q s) : OutKept q (execRingPut a0 a1 s) := by
  unfold execRingPut
  try dsimp only
  with_reducible repeat' first
      | assumption | apply OutKept.next | apply State.vmpRun_kept | apply vmpBody_kept | (refine vmpBody_kept_eq (by assumption) ?_)
      | apply vmpNo_kept | (refine vmpNo_kept_eq (by assumption) ?_) | apply State.placeDescs_kept
      | (refine State.placeDescs_kept_eq (by assumption) ?_) | apply State.Kept.ite | intro _ | split

theorem execRingAck_kept {q a0 a1 s} (hs : State.Kept q s) : OutKept q (execRingAck a0 a1 s) := by
  unfold execRingAck
  try dsimp only
  with_reducible repeat' first
      | assumption | apply OutKept.next | apply State.vmpRun_kept | apply vmpBody_kept | (refine vmpBody_kept_eq (by assumption) ?_)
      | apply vmpNo_kept | (refine vmpNo_kept_eq (by assumption) ?_) | apply State.modHRing_kept | apply State.setHead_kept | apply State.Kept.ite
      | intro _ | split

theorem execWinnowFull_kept {q a0 a1 s} (hs : State.Kept q s) : OutKept q (execWinnowFull a0 a1 s) := by
  unfold execWinnowFull
  try dsimp only
  with_reducible repeat' first | assumption | apply OutKept.next | apply State.longReq_kept

theorem execSiloZeroise_kept {q a0 a1 s} (hs : State.Kept q s) : OutKept q (execSiloZeroise a0 a1 s) := by
  unfold execSiloZeroise
  try dsimp only
  with_reducible repeat' first | assumption | apply OutKept.next | apply State.longReq_kept

theorem State.vmpAgain_kept {q s a1 a2} (hs : State.Kept q s) : State.Kept q (State.vmpAgain s a1 a2) := by
  unfold State.vmpAgain
  try dsimp only
  with_reducible repeat' first
      | assumption | apply State.via_kept | apply execAuth_kept | apply execVmpClose_kept | apply execKeepalive_kept | apply execRegRead_kept
      | apply execRegWrite_kept | apply execSiloWrite_kept | apply execSiloRead_kept | apply execRingPut_kept | apply execRingAck_kept
      | apply execGranarySeal_kept | apply execImageWrite_kept | apply execWinnowFull_kept | apply execSiloZeroise_kept | apply execKeyProv_kept
      | apply State.Kept.ite | intro _ | split

theorem execUnretire_kept {q a0 a1 s} (hs : State.Kept q s) : OutKept q (execUnretire a0 a1 s) := by
  unfold execUnretire
  try dsimp only
  with_reducible repeat' first
      | assumption | apply OutKept.next | (refine State.ask_kept ?_ fun _ _ => ?_) | apply State.lnUnretire_kept | apply State.Kept.ite

theorem State.takeRestart_kept {q s a1 a2} (hs : State.Kept q s) : State.Kept q (State.takeRestart s a1 a2) := by
  unfold State.takeRestart
  try dsimp only
  with_reducible repeat' first
      | assumption | apply State.setDesc_kept | apply State.wdogReload_kept | apply State.modBeam_kept | apply State.modSwath_kept

theorem State.xkStops_kept {q s} (hs : State.Kept q s) : State.Kept q (State.xkStops s) := by
  unfold State.xkStops
  try dsimp only
  with_reducible repeat' first
      | assumption | (apply State.Kept.forEach; intro _ _ _) | apply State.xkContinue_kept | apply State.put_kept | apply State.chStop_kept
      | apply State.Kept.ite

theorem State.xkRun_kept {q s} (hs : State.Kept q s) : State.Kept q (State.xkRun s) := by
  unfold State.xkRun
  try dsimp only
  with_reducible repeat' first
      | assumption | apply State.xkStops_kept | (apply State.Kept.forEach; intro _ _ _) | apply State.chHalt_kept | apply State.modChan_kept
      | apply State.xkCheck_kept | apply xkRunGo_kept | apply xkFreeGo_kept | apply State.Kept.ite

theorem State.inject_kept {q s a1 a2 a3} (hs : State.Kept q s) : State.Kept q (State.inject s a1 a2 a3).2 := by
  unfold State.inject
  try dsimp only
  with_reducible repeat' first
      | assumption | apply State.devRead_kept | (refine State.devRead_kept_eq (by assumption) ?_) | apply State.setFlag_kept | apply State.Kept.ite
      | (refine State.Kept.upd ?_; first | assumption | apply State.devRead_kept | (refine State.devRead_kept_eq (by assumption) ?_) | apply State.setFlag_kept | apply State.Kept.ite | split)

theorem State.inject_kept_eq {q s a1 a2 a3 w t} (e : State.inject s a1 a2 a3 = (w, t)) (hs : State.Kept q s) : State.Kept q t := by
  have h : State.Kept q (State.inject s a1 a2 a3).2 := State.inject_kept hs
  rw [e] at h
  exact h

theorem State.captureAt_kept {q s a1 a2 a3} (hs : State.Kept q s) : State.Kept q (State.captureAt s a1 a2 a3).2 := by
  unfold State.captureAt
  try dsimp only
  with_reducible repeat' first
      | assumption | apply State.put_kept | apply State.Kept.ite
      | (refine State.Kept.upd ?_; first | assumption | apply State.put_kept | apply State.Kept.ite | split)

theorem State.captureAt_kept_eq {q s a1 a2 a3 w t} (e : State.captureAt s a1 a2 a3 = (w, t)) (hs : State.Kept q s) : State.Kept q t := by
  have h : State.Kept q (State.captureAt s a1 a2 a3).2 := State.captureAt_kept hs
  rw [e] at h
  exact h

theorem State.followCheck_kept {q s a1} (hs : State.Kept q s) : State.Kept q (State.followCheck s a1) := by
  unfold State.followCheck
  try dsimp only
  with_reducible repeat' first
      | assumption | apply State.decideRates_kept | apply State.modTraj_kept | apply State.put_kept | apply State.feTrip_kept | apply State.Kept.ite
      | intro _ | split

theorem State.loopSample_kept {q s a1 a2 a3} (hs : State.Kept q s) : State.Kept q (State.loopSample s a1 a2 a3) := by
  unfold State.loopSample
  try dsimp only
  with_reducible repeat' first
      | assumption | apply State.loopCommit_kept | apply State.decideRates_kept | apply State.readGain_kept
      | (refine State.readGain_kept_eq (by assumption) ?_) | apply State.inject_kept | (refine State.inject_kept_eq (by assumption) ?_)
      | apply State.captureAt_kept | (refine State.captureAt_kept_eq (by assumption) ?_) | apply State.modLoop_kept | apply State.put_kept
      | apply State.followCheck_kept | apply State.Kept.ite | intro _ | split

theorem execLoopSample_kept {q a0 s} (hs : State.Kept q s) : OutKept q (execLoopSample a0 s) := by
  unfold execLoopSample
  try dsimp only
  with_reducible repeat' first
      | assumption | apply OutKept.next | apply State.decideRates_kept | (refine State.askSoon_kept ?_ fun _ _ => ?_) | apply State.loopSample_kept
      | apply State.Kept.ite | intro _ | split

theorem execKeyRenewReceive_kept {q a0 s} (hs : State.Kept q s) : OutKept q (execKeyRenewReceive a0 s) := by
  unfold execKeyRenewReceive
  try dsimp only
  with_reducible repeat' first
      | assumption | apply OutKept.next | apply State.acceptGen_kept | apply State.raise_kept | apply State.expireIn_kept | apply State.setFlag_kept
      | apply State.modFab_kept | apply State.flManage_kept | apply State.stale_kept | apply State.Kept.ite

theorem execStopAll_kept {q a0 a1 s} (hs : State.Kept q s) : OutKept q (execStopAll a0 a1 s) := by
  unfold execStopAll
  try dsimp only
  with_reducible repeat' first | assumption | apply OutKept.next | apply State.axCommand_kept

theorem State.toGranary_kept {q s a1} (hs : State.Kept q s) : State.Kept q (State.toGranary s a1) := by
  unfold State.toGranary
  try dsimp only
  with_reducible repeat' first | assumption | apply State.granaryEvent_kept | apply State.Kept.ite

theorem State.putOnRing_kept {q s a1 a2} (hs : State.Kept q s) : State.Kept q (State.putOnRing s a1 a2) := by
  unfold State.putOnRing
  try dsimp only
  with_reducible repeat' first
      | assumption | apply State.loseOnRing_kept | apply State.siloPut_kept | apply State.modHRing_kept | apply State.setTail_kept

theorem State.toRing_kept {q s a1} (hs : State.Kept q s) : State.Kept q (State.toRing s a1) := by
  unfold State.toRing
  try dsimp only
  with_reducible repeat' first | assumption | apply State.loseOnRing_kept | apply State.putOnRing_kept | apply State.Kept.ite

theorem State.toEngines_kept {q s a1} (hs : State.Kept q s) : State.Kept q (State.toEngines s a1) := by
  unfold State.toEngines
  try dsimp only
  with_reducible repeat' first | assumption | (apply State.Kept.forEach; intro _ _ _) | apply State.latchEvent_kept

theorem State.keepLast_kept {q s a1} (hs : State.Kept q s) : State.Kept q (State.keepLast s a1) := by
  unfold State.keepLast
  try dsimp only
  with_reducible repeat' first | assumption | apply State.count_kept | apply State.Kept.ite | apply State.Kept.setReg

theorem State.deliverFired_kept {q s a1} (hs : State.Kept q s) : State.Kept q (State.deliverFired s a1) := by
  unfold State.deliverFired
  try dsimp only
  with_reducible repeat' first
      | assumption | apply State.toGranary_kept | apply State.toRing_kept | apply State.toPin_kept | apply State.toEngines_kept
      | apply State.keepLast_kept

theorem execEventDelivery_kept {q s} (hs : State.Kept q s) : OutKept q (execEventDelivery s) := by
  unfold execEventDelivery
  try dsimp only
  with_reducible repeat' first
      | assumption | apply OutKept.next | apply State.deliverFired_kept | apply State.Kept.ite | apply Eff.Kept.done | apply Eff.Kept.jump
      | apply Eff.Kept.hold | apply Eff.Kept.exc | apply Eff.Kept.stall | apply Eff.Kept.ite
      | (refine State.Kept.upd ?_; first | assumption | apply OutKept.next | apply State.deliverFired_kept | apply State.Kept.ite | apply Eff.Kept.done | apply Eff.Kept.jump | apply Eff.Kept.hold | apply Eff.Kept.exc | apply Eff.Kept.stall | apply Eff.Kept.ite | split)

theorem execPeerRenewSend_kept {q a0 a1 s} (hs : State.Kept q s) : OutKept q (execPeerRenewSend a0 a1 s) := by
  unfold execPeerRenewSend
  try dsimp only
  with_reducible repeat' first
      | assumption | apply OutKept.next | (apply State.Kept.forEach; intro _ _ _) | apply State.sendPeer_kept | apply State.modArb_kept

theorem State.relayBack_kept {q s a1 a2} (hs : State.Kept q s) : State.Kept q (State.relayBack s a1 a2) := by
  unfold State.relayBack
  try dsimp only
  with_reducible repeat' first
      | assumption | apply State.freeVal_kept | (refine State.freeVal_kept_eq (by assumption) ?_) | apply State.vmpOut_kept | apply State.Kept.ite
      | intro _ | split

theorem State.deliver_kept {q s a1 a2 a3 a4} (hs : State.Kept q s) : State.Kept q (State.deliver s a1 a2 a3 a4) := by
  unfold State.deliver
  try dsimp only
  with_reducible repeat' first
      | assumption | apply State.count_kept | apply State.modFab_kept | apply State.send_kept | apply State.relayBack_kept | apply State.Kept.ite

theorem execRegisterWrite_kept {q a0 a1 a2 s} (hs : State.Kept q s) : OutKept q (execRegisterWrite a0 a1 a2 s) := by
  unfold execRegisterWrite
  try dsimp only
  with_reducible repeat' first | assumption | apply OutKept.next | apply State.writeAt_kept

theorem execProducerStallRelease_kept {q a0 s} (hs : State.Kept q s) : OutKept q (execProducerStallRelease a0 s) := by
  unfold execProducerStallRelease
  try dsimp only
  with_reducible repeat' first | assumption | apply OutKept.next | apply State.producerGo_kept

theorem State.axReleased_kept {q s a1 a2} (hs : State.Kept q s) : State.Kept q (State.axReleased s a1 a2) := by
  unfold State.axReleased
  try dsimp only
  with_reducible repeat' first
      | assumption | apply State.axHalt_kept | apply State.setAxPos_kept | apply State.modAxis_kept | apply State.axPump_kept | apply State.put_kept
      | apply State.Kept.ite | intro _ | split

theorem State.axNote_kept {q s t a2} (_hs : State.Kept q s) (ht : State.Kept q t) : State.Kept q (State.axNote s t a2) := by
  unfold State.axNote
  try dsimp only
  with_reducible repeat' first | assumption | apply State.axReleased_kept | apply State.Kept.ite | intro _ | split

theorem State.enterCell_kept {q s a1 a2} (hs : State.Kept q s) : State.Kept q (State.enterCell s a1 a2) := by
  unfold State.enterCell
  try dsimp only
  with_reducible repeat' first
      | assumption | apply State.modCell_kept | apply State.applyNow_kept | apply State.lateEdge_kept | apply State.Kept.ite | intro _ | split

theorem State.nextEntry_kept {q s a1} (hs : State.Kept q s) : State.Kept q (State.nextEntry s a1) := by
  unfold State.nextEntry
  try dsimp only
  with_reducible repeat' first
      | assumption | apply State.enterCell_kept | apply State.Kept.ite
      | (refine State.Kept.upd ?_; first | assumption | apply State.enterCell_kept | apply State.Kept.ite | split)

theorem execCellQueueEntry_kept {q a0 s} (hs : State.Kept q s) : OutKept q (execCellQueueEntry a0 s) := by
  unfold execCellQueueEntry
  try dsimp only
  with_reducible repeat' first | assumption | apply OutKept.next | apply State.axNote_kept | apply State.nextEntry_kept | apply State.Kept.ite

theorem execEdgeRelease_kept {q a0 s} (hs : State.Kept q s) : OutKept q (execEdgeRelease a0 s) := by
  unfold execEdgeRelease
  try dsimp only
  with_reducible repeat' first | assumption | apply OutKept.next | apply State.axNote_kept | apply State.releaseHead_kept

theorem execPowerIdleTimeout_kept {q a0 s} (hs : State.Kept q s) : OutKept q (execPowerIdleTimeout a0 s) := by
  unfold execPowerIdleTimeout
  try dsimp only
  with_reducible repeat' first | assumption | apply OutKept.next | apply State.domainOff_kept | apply State.put_kept | apply State.Kept.ite

theorem execLoopResume_kept {q a0 a1 s} (hs : State.Kept q s) : OutKept q (execLoopResume a0 a1 s) := by
  unfold execLoopResume
  try dsimp only
  with_reducible repeat' first
      | assumption | apply OutKept.next | (refine State.ask_kept ?_ fun _ _ => ?_) | apply State.loopGo_kept | apply State.Kept.ite

theorem execStreamEnable_kept {q a0 a1 a2 s} (hs : State.Kept q s) : OutKept q (execStreamEnable a0 a1 a2 s) := by
  unfold execStreamEnable
  try dsimp only
  with_reducible repeat' first | assumption | apply OutKept.next | (refine State.askReg_kept ?_ fun _ _ => ?_) | apply State.camCfgWrite_kept

theorem execImgCamCtxWrite_kept {q a0 a1 a2 s} (hs : State.Kept q s) : OutKept q (execImgCamCtxWrite a0 a1 a2 s) := by
  unfold execImgCamCtxWrite
  try dsimp only
  with_reducible repeat' first | assumption | apply OutKept.next | (refine State.askReg_kept ?_ fun _ _ => ?_) | apply State.camCtxWrite_kept

theorem execLnCfgWrite_kept {q a0 a1 a2 s} (hs : State.Kept q s) : OutKept q (execLnCfgWrite a0 a1 a2 s) := by
  unfold execLnCfgWrite
  try dsimp only
  with_reducible repeat' first | assumption | apply OutKept.next | (refine State.ask_kept ?_ fun _ _ => ?_) | apply State.lnCfgWrite_kept

theorem execRetrain_kept {q a0 a1 s} (hs : State.Kept q s) : OutKept q (execRetrain a0 a1 s) := by
  unfold execRetrain
  try dsimp only
  with_reducible repeat' first
      | assumption | apply OutKept.next | (refine State.ask_kept ?_ fun _ _ => ?_) | apply State.lnRetrain_kept | apply State.Kept.ite

theorem execClrRefused_kept {q a0 a1 s} (hs : State.Kept q s) : OutKept q (execClrRefused a0 a1 s) := by
  unfold execClrRefused
  try dsimp only
  with_reducible repeat' first
      | assumption | apply OutKept.next | (refine State.ask_kept ?_ fun _ _ => ?_) | apply State.lnClrRefused_kept | apply State.Kept.ite

theorem execFabricEnableWrite_kept {q a0 a1 s} (hs : State.Kept q s) : OutKept q (execFabricEnableWrite a0 a1 s) := by
  unfold execFabricEnableWrite
  try dsimp only
  with_reducible repeat' first
      | assumption | apply OutKept.next | (refine State.ask_kept ?_ fun _ _ => ?_) | apply State.sendHello_kept | apply State.fabricCfgWrite_kept

theorem execRoutedFrame_kept {q a0 a1 a2 a3 s} (hs : State.Kept q s) : OutKept q (execRoutedFrame a0 a1 a2 a3 s) := by
  unfold execRoutedFrame
  try dsimp only
  with_reducible repeat' first
      | assumption | apply OutKept.next | (refine State.ask_kept ?_ fun _ _ => ?_) | apply State.sendHello_kept | apply State.deliver_kept
      | apply State.count_kept | apply execHelloReceive_kept | apply State.portSend_kept | apply State.Kept.ite | intro _ | split

theorem execSessionKill_kept {q a0 a1 s} (hs : State.Kept q s) : OutKept q (execSessionKill a0 a1 s) := by
  unfold execSessionKill
  try dsimp only
  with_reducible repeat' first
      | assumption | apply OutKept.next | (refine State.ask_kept ?_ fun _ _ => ?_) | apply State.killSession_kept | apply State.Kept.ite

theorem execHostNetIpWrite_kept {q a0 a1 a2 a3 s} (hs : State.Kept q s) : OutKept q (execHostNetIpWrite a0 a1 a2 a3 s) := by
  unfold execHostNetIpWrite
  try dsimp only
  with_reducible repeat' first
      | assumption | apply OutKept.next | (refine State.ask_kept ?_ fun _ _ => ?_) | apply execSessionKill_kept | apply State.payPorts_kept
      | apply State.hostNetWrite_kept

theorem execGranaryOptimeLoRead_kept {q a0 s} (hs : State.Kept q s) : OutKept q (execGranaryOptimeLoRead a0 s) := by
  unfold execGranaryOptimeLoRead
  try dsimp only
  with_reducible repeat' first
      | assumption | apply OutKept.next | (refine State.ask_kept ?_ fun _ _ => ?_) | apply State.stageRecord_kept | apply State.latchOp_kept

theorem execGranaryCopyStart_kept {q a0 s} (hs : State.Kept q s) : OutKept q (execGranaryCopyStart a0 s) := by
  unfold execGranaryCopyStart
  try dsimp only
  with_reducible repeat' first
      | assumption | apply OutKept.next | (refine State.ask_kept ?_ fun _ _ => ?_) | apply State.stageRecord_kept | apply State.copyStart_kept

theorem execLtFaultClear_kept {q a0 a1 a2 s} (hs : State.Kept q s) : OutKept q (execLtFaultClear a0 a1 a2 s) := by
  unfold execLtFaultClear
  try dsimp only
  with_reducible repeat' first | assumption | apply OutKept.next | (refine State.askReg_kept ?_ fun _ _ => ?_) | apply State.plainWrite_kept

theorem execCommit_kept {q a0 a1 s} (hs : State.Kept q s) : OutKept q (execCommit a0 a1 s) := by
  unfold execCommit
  try dsimp only
  with_reducible repeat' first | assumption | apply OutKept.next | (refine State.ask_kept ?_ fun _ _ => ?_) | apply State.dispCommit_kept

theorem execDispCmdqWrite_kept {q a0 a1 a2 s} (hs : State.Kept q s) : OutKept q (execDispCmdqWrite a0 a1 a2 s) := by
  unfold execDispCmdqWrite
  try dsimp only
  with_reducible repeat' first
      | assumption | apply OutKept.next | (refine State.ask_kept ?_ fun _ _ => ?_) | apply execCommit_kept | apply State.cmdqWrite_kept

theorem execTcommit_kept {q a0 s} (hs : State.Kept q s) : OutKept q (execTcommit a0 s) := by
  unfold execTcommit
  try dsimp only
  with_reducible repeat' first
      | assumption | apply OutKept.next | (refine State.ask_kept ?_ fun _ _ => ?_) | apply execCommit_kept | apply State.timingCommit_kept
      | apply State.Kept.ite

theorem execPeerReqReceive_kept {q a0 a1 s} (hs : State.Kept q s) : OutKept q (execPeerReqReceive a0 a1 s) := by
  unfold execPeerReqReceive
  try dsimp only
  with_reducible repeat' first | assumption | apply OutKept.next | (refine State.ask_kept ?_ fun _ _ => ?_) | apply State.joinWindow_kept

theorem State.grantLease_kept {q s a1 a2 a3 a4 a5 a6} (hs : State.Kept q s) : State.Kept q (State.grantLease s a1 a2 a3 a4 a5 a6) := by
  unfold State.grantLease
  try dsimp only
  with_reducible repeat' first
      | assumption | (apply State.Kept.forEach; intro _ _ _) | apply State.modPlot_kept | apply State.modArb_kept | apply State.put_kept
      | apply State.modBeam_kept | apply State.wdogReload_kept | apply State.modSwath_kept | apply State.leaseResult_kept | apply State.unblock_kept
      | apply State.Kept.ite | intro _ | split

theorem State.lateAnswer_kept {q s a1 a2 a3} (hs : State.Kept q s) : State.Kept q (State.lateAnswer s a1 a2 a3) := by
  unfold State.lateAnswer
  try dsimp only
  with_reducible repeat' first
      | assumption | apply State.sendPeer_kept | apply State.Kept.ite
      | (refine State.Kept.upd ?_; first | assumption | apply State.sendPeer_kept | apply State.Kept.ite | split)

theorem execPeerGrantReceive_kept {q a0 a1 a2 a3 s} (hs : State.Kept q s) : OutKept q (execPeerGrantReceive a0 a1 a2 a3 s) := by
  unfold execPeerGrantReceive
  try dsimp only
  with_reducible repeat' first
      | assumption | apply OutKept.next | (refine State.ask_kept ?_ fun _ _ => ?_) | apply State.failPeers_kept | apply State.grantLease_kept
      | apply State.modArb_kept | apply State.lateAnswer_kept | apply State.Kept.ite | intro _ | split

theorem execPeerRenewReceive_kept {q a0 a1 s} (hs : State.Kept q s) : OutKept q (execPeerRenewReceive a0 a1 s) := by
  unfold execPeerRenewReceive
  try dsimp only
  with_reducible repeat' first
      | assumption | apply OutKept.next | (refine State.ask_kept ?_ fun _ _ => ?_) | apply State.freeRemote_kept | apply State.answer_kept
      | apply State.Kept.ite | apply Eff.Kept.done | apply Eff.Kept.jump | apply Eff.Kept.hold | apply Eff.Kept.exc | apply Eff.Kept.stall
      | apply Eff.Kept.ite
      | (refine State.Kept.upd ?_; first | assumption | apply OutKept.next | (refine State.ask_kept ?_ fun _ _ => ?_) | apply State.freeRemote_kept | apply State.answer_kept | apply State.Kept.ite | apply Eff.Kept.done | apply Eff.Kept.jump | apply Eff.Kept.hold | apply Eff.Kept.exc | apply Eff.Kept.stall | apply Eff.Kept.ite | split)

theorem execPeerRenewAckReceive_kept {q a0 a1 s} (hs : State.Kept q s) : OutKept q (execPeerRenewAckReceive a0 a1 s) := by
  unfold execPeerRenewAckReceive
  try dsimp only
  with_reducible repeat' first
      | assumption | apply OutKept.next | (refine State.ask_kept ?_ fun _ _ => ?_) | (apply State.Kept.forEach; intro _ _ _)
      | apply State.modArb_kept | apply State.Kept.ite | intro _ | split

theorem execPeerGeomReceive_kept {q a0 a1 a2 a3 s} (hs : State.Kept q s) : OutKept q (execPeerGeomReceive a0 a1 a2 a3 s) := by
  unfold execPeerGeomReceive
  try dsimp only
  with_reducible repeat' first
      | assumption | apply OutKept.next | (refine State.ask_kept ?_ fun _ _ => ?_) | apply execPeerRenewAckReceive_kept | apply State.raise_kept
      | apply State.setFlag_kept | apply State.Kept.ite | intro _ | split

theorem execEthFrameReceive_kept {q a0 a1 s} (hs : State.Kept q s) : OutKept q (execEthFrameReceive a0 a1 s) := by
  unfold execEthFrameReceive
  try dsimp only
  with_reducible repeat' first
      | assumption | apply OutKept.next | apply State.pauseFor_kept | (refine State.ask_kept ?_ fun _ _ => ?_) | apply State.count_kept
      | apply State.send_kept | apply State.vmpUnknown_kept | apply State.ptpDrop_kept | apply State.Kept.ite | intro _ | split

theorem State.askAgain_kept {q s a1} (hs : State.Kept q s) : State.Kept q (State.askAgain s a1) := by
  unfold State.askAgain
  try dsimp only
  with_reducible repeat' first
      | assumption | apply State.via_kept | apply execLaserResume_kept | apply execLoopResume_kept | apply execStreamEnable_kept
      | apply execStreamDisable_kept | apply execImgCamCtxWrite_kept | apply execLnCfgWrite_kept | apply execRetrain_kept | apply execUnretire_kept
      | apply execClrRefused_kept | apply execFabricEnableWrite_kept | apply execRoutedFrame_kept | apply execSessionKill_kept
      | apply execHostNetIpWrite_kept | apply execGranaryOptimeLoRead_kept | apply execGranaryCopyStart_kept | apply execLtFaultClear_kept
      | apply execCommit_kept | apply execDispCmdqWrite_kept | apply execTcommit_kept | apply execPeerReqReceive_kept
      | apply execPeerGrantReceive_kept | apply execPeerCancelReceive_kept | apply execPeerReleaseReceive_kept | apply execPeerRenewReceive_kept
      | apply execPeerRenewAckReceive_kept | apply execPeerEnergyReceive_kept | apply execPeerGeomReceive_kept | apply execEthFrameReceive_kept
      | apply execRegisterWrite_kept | apply State.vmpAgain_kept | apply State.Kept.ite | intro _ | split

theorem State.domainUp_kept {q s a1} (hs : State.Kept q s) : State.Kept q (State.domainUp s a1) := by
  unfold State.domainUp
  try dsimp only
  with_reducible repeat' first
      | assumption | apply State.touch_kept | apply State.put_kept | apply State.pipeKick_kept | (apply State.Kept.forEach; intro _ _ _)
      | apply State.retryStall_kept | apply State.askAgain_kept | apply State.Kept.ite
      | (refine State.Kept.upd ?_; first | assumption | apply State.touch_kept | apply State.put_kept | apply State.pipeKick_kept | (apply State.Kept.forEach; intro _ _ _))

theorem execDomainWakeDone_kept {q a0 s} (hs : State.Kept q s) : OutKept q (execDomainWakeDone a0 s) := by
  unfold execDomainWakeDone
  try dsimp only
  with_reducible repeat' first | assumption | apply OutKept.next | apply State.domainUp_kept | apply State.Kept.ite

theorem execSysPwrPolicyWrite_kept {q a0 a1 a2 s} (hs : State.Kept q s) : OutKept q (execSysPwrPolicyWrite a0 a1 a2 s) := by
  unfold execSysPwrPolicyWrite
  try dsimp only
  with_reducible repeat' first | assumption | apply OutKept.next | apply State.writeAt_kept

theorem execLayerTimeSaturate_kept {q s} (hs : State.Kept q s) : OutKept q (execLayerTimeSaturate s) := by
  unfold execLayerTimeSaturate
  try dsimp only
  with_reducible repeat' first
      | assumption | apply OutKept.next | apply State.raise_kept | apply State.Kept.ite | apply Eff.Kept.done | apply Eff.Kept.jump
      | apply Eff.Kept.hold | apply Eff.Kept.exc | apply Eff.Kept.stall | apply Eff.Kept.ite | (refine State.Kept.upd ?_; first | assumption)

theorem execRingTailWrite_kept {q a0 a1 a2 s} (hs : State.Kept q s) : OutKept q (execRingTailWrite a0 a1 a2 s) := by
  unfold execRingTailWrite
  try dsimp only
  with_reducible repeat' first | assumption | apply OutKept.next | apply State.writeAt_kept

end Sys2Proof.Machine
end

