-- ==== Sys2Proof/Laws/Kept5.lean ====
section
/-! SUPPORT. Each operation and command leaves the queue alone and the stores canonical, part 5 of 5: callees before
their callers. -/

namespace Sys2Proof.Machine

theorem State.recordClaim_kept {q s a1 a2} (hs : State.Kept q s) : State.Kept q (State.recordClaim s a1 a2) := by
  unfold State.recordClaim
  try dsimp only
  with_reducible repeat' first
      | assumption | apply State.setSilo32_kept | apply State.put_kept | apply State.setFlag_kept | apply State.modArb_kept | apply State.Kept.ite
      | (refine State.Kept.upd ?_; first | assumption | apply State.setSilo32_kept | apply State.put_kept | apply State.setFlag_kept | apply State.modArb_kept | apply State.Kept.ite)

theorem State.enterSwath_kept {q s a1 a2 a3} (hs : State.Kept q s) : State.Kept q (State.enterSwath s a1 a2 a3) := by
  unfold State.enterSwath
  try dsimp only
  with_reducible repeat' first
      | assumption | apply State.setDesc_kept | apply State.loadSettings_kept | (refine State.loadSettings_kept_eq (by assumption) ?_)
      | apply State.setFlag_kept | apply State.put_kept | (refine State.modEng_kept ?_ fun x hx => ?_) | apply State.modBeam_kept
      | apply State.modTraj_kept | apply State.wdogReload_kept | apply State.captureEntered_kept | apply State.loopPrepare_kept
      | apply State.Kept.ite | (refine State.Kept.silo ?_ ?_; first | assumption | apply State.setDesc_kept) | intro _ | split | exact hx
      | apply Engine.setG_ok | apply Engine.Ok.upd | apply Engine.ite_ok | dsimp only | exact True.intro | apply MemR.wf_setBytes
      | apply MemR.wf_setByte | apply MemR.wf_write | rw [MemR.renew_cells] | rw [MemR.correct_cells] | refine State.Kept.siloWf (q := q) ?_

theorem State.claim_kept {q s a1 a2 a3} (hs : State.Kept q s) : State.Kept q (State.claim s a1 a2 a3) := by
  unfold State.claim
  try dsimp only
  with_reducible repeat' first
      | assumption | apply State.recordClaim_kept | apply State.swathDone_kept | apply State.finish_kept | apply State.enterSwath_kept
      | apply State.siloFix_kept | apply State.Kept.ite

theorem State.claimNext_kept {q s a1} (hs : State.Kept q s) : State.Kept q (State.claimNext s a1) := by
  unfold State.claimNext
  try dsimp only
  with_reducible repeat' first
      | assumption | apply State.trialFix_kept | apply State.modArb_kept | apply State.claim_kept | apply State.Kept.ite | intro _ | split

theorem execDispatchClaim_kept {q a0 s} (hs : State.Kept q s) : OutKept q (execDispatchClaim a0 s) := by
  unfold execDispatchClaim
  try dsimp only
  with_reducible repeat' first
      | assumption | apply OutKept.next | apply State.takeRestart_kept | (refine State.askSoon_kept ?_ fun _ _ => ?_) | apply State.claimNext_kept
      | apply State.Kept.ite | intro _ | split

theorem execLeaseReleaseEffect_kept {q a0 s} (hs : State.Kept q s) : OutKept q (execLeaseReleaseEffect a0 s) := by
  unfold execLeaseReleaseEffect
  try dsimp only
  with_reducible repeat' first | assumption | apply OutKept.next | apply State.releaseEffect_kept

theorem State.foldBed_kept {q s} (hs : State.Kept q s) : State.Kept q (State.foldBed s) := by
  unfold State.foldBed
  try dsimp only
  with_reducible repeat' first
      | assumption | apply State.bedFix_kept | apply State.Kept.ite | (refine State.Kept.upd ?_; first | assumption | apply State.bedFix_kept)

theorem State.clearLayerMap_kept {q s} (hs : State.Kept q s) : State.Kept q (State.clearLayerMap s) := by
  unfold State.clearLayerMap
  refine State.Kept.silo hs ?_
  exact tabWf_filter hs.siloWf

theorem execArmingDone_kept {q s} (hs : State.Kept q s) : OutKept q (execArmingDone s) := by
  unfold execArmingDone
  try dsimp only
  with_reducible repeat' first
      | assumption | apply OutKept.next | apply State.foldBed_kept | apply State.clearLayerMap_kept | apply State.setFlag_kept
      | apply State.abortNow_kept | apply State.enterLy_kept | apply State.Kept.ite | apply Eff.Kept.done | apply Eff.Kept.jump | apply Eff.Kept.hold
      | apply Eff.Kept.exc | apply Eff.Kept.stall | apply Eff.Kept.ite
      | (refine State.Kept.upd ?_; first | assumption | apply OutKept.next | apply State.foldBed_kept | apply State.clearLayerMap_kept | apply State.setFlag_kept)

theorem execLayerBegin_kept {q s} (hs : State.Kept q s) : OutKept q (execLayerBegin s) := by
  unfold execLayerBegin
  try dsimp only
  with_reducible repeat' first
      | assumption | apply OutKept.next | apply State.raise_kept | apply State.searchAgain_kept | apply State.enterLy_kept | apply State.Kept.ite
      | apply Eff.Kept.done | apply Eff.Kept.jump | apply Eff.Kept.hold | apply Eff.Kept.exc | apply Eff.Kept.stall | apply Eff.Kept.ite
      | (refine State.Kept.upd ?_; first | assumption)

theorem execAbortComplete_kept {q s} (hs : State.Kept q s) : OutKept q (execAbortComplete s) := by
  unfold execAbortComplete
  try dsimp only
  with_reducible repeat' first | assumption | apply OutKept.next | apply State.raise_kept | apply State.enterLy_kept | apply State.Kept.ite

theorem execTs32Wrap_kept {q s} (hs : State.Kept q s) : OutKept q (execTs32Wrap s) := by
  unfold execTs32Wrap
  try dsimp only
  with_reducible repeat' first | assumption | apply OutKept.next | apply State.clockTick_kept | apply State.Kept.ite

theorem execTimeNowLoRead_kept {q a0 s} (hs : State.Kept q s) : OutKept q (execTimeNowLoRead a0 s) := by
  unfold execTimeNowLoRead
  try dsimp only
  with_reducible repeat' first | assumption | apply OutKept.next | apply State.latchNow_kept

theorem execTimeDomCfgWrite_kept {q a0 a1 a2 s} (hs : State.Kept q s) : OutKept q (execTimeDomCfgWrite a0 a1 a2 s) := by
  unfold execTimeDomCfgWrite
  try dsimp only
  with_reducible repeat' first | assumption | apply OutKept.next | apply State.domCfgWrite_kept

theorem execTimeGcellCfgWrite_kept {q a0 a1 a2 s} (hs : State.Kept q s) : OutKept q (execTimeGcellCfgWrite a0 a1 a2 s) := by
  unfold execTimeGcellCfgWrite
  try dsimp only
  with_reducible repeat' first | assumption | apply OutKept.next | apply State.gcellCfgWrite_kept

theorem execTimeGcellCapHiRead_kept {q a0 a1 s} (hs : State.Kept q s) : OutKept q (execTimeGcellCapHiRead a0 a1 s) := by
  unfold execTimeGcellCapHiRead
  try dsimp only
  with_reducible repeat' first | assumption | apply OutKept.next | apply State.capPop_kept

theorem execTimeStepRequest_kept {q a0 s} (hs : State.Kept q s) : OutKept q (execTimeStepRequest a0 s) := by
  unfold execTimeStepRequest
  try dsimp only
  with_reducible repeat' first | assumption | apply OutKept.next | apply State.stepRequest_kept | apply State.Kept.ite

theorem State.endWaits_kept {q s} (hs : State.Kept q s) : State.Kept q (State.endWaits s) := by
  unfold State.endWaits
  try dsimp only
  with_reducible repeat' first
      | assumption | (apply State.Kept.forEach; intro _ _ _) | (refine State.modEng_kept ?_ fun x hx => ?_) | apply State.Kept.ite | intro _ | split
      | exact hx | (refine Engine.complete_ok ?_ fun x hx => ?_) | apply Engine.Ok.upd

theorem execTs64Step_kept {q s} (hs : State.Kept q s) : OutKept q (execTs64Step s) := by
  unfold execTs64Step
  try dsimp only
  with_reducible repeat' first
      | assumption | apply OutKept.next | apply State.modTime_kept | apply State.setFlag_kept | (apply State.Kept.forEach; intro _ _ _)
      | apply State.modDom_kept | apply State.endWaits_kept | apply State.raise_kept | apply State.extCheck_kept | apply State.Kept.ite
      | apply Eff.Kept.done | apply Eff.Kept.jump | apply Eff.Kept.hold | apply Eff.Kept.exc | apply Eff.Kept.stall | apply Eff.Kept.ite
      | (refine State.Kept.upd ?_; first | assumption | apply OutKept.next | apply State.modTime_kept)

theorem execPtpFollowUpReceive_kept {q a0 a1 s} (hs : State.Kept q s) : OutKept q (execPtpFollowUpReceive a0 a1 s) := by
  unfold execPtpFollowUpReceive
  try dsimp only
  with_reducible repeat' first
      | assumption | apply OutKept.next | apply State.ptpTake_kept | apply State.degradeCheck_kept | apply State.modDom_kept
      | apply State.measured_kept | apply State.Kept.ite | intro _ | split

theorem State.ptpEnter_kept {q s a1 a2 a3} (hs : State.Kept q s) : State.Kept q (State.ptpEnter s a1 a2 a3) := by
  unfold State.ptpEnter
  try dsimp only
  with_reducible repeat' first
      | assumption | apply State.degradeCheck_kept | apply State.modDom_kept | apply State.loseDomain_kept | apply State.Kept.ite

theorem State.bmca_kept {q s a1 a2} (hs : State.Kept q s) : State.Kept q (State.bmca s a1 a2) := by
  unfold State.bmca
  try dsimp only
  with_reducible repeat' first | assumption | apply State.degradeCheck_kept | apply State.ptpEnter_kept | apply State.Kept.ite | intro _ | split

theorem execPtpAnnounceReceive_kept {q a0 a1 s} (hs : State.Kept q s) : OutKept q (execPtpAnnounceReceive a0 a1 s) := by
  unfold execPtpAnnounceReceive
  try dsimp only
  with_reducible repeat' first
      | assumption | apply OutKept.next | apply State.ptpTake_kept | apply State.degradeCheck_kept | apply State.modDom_kept | apply State.put_kept
      | apply State.domChanged_kept | apply State.bmca_kept | apply State.Kept.ite | intro _

theorem execPtpDelayReqReceive_kept {q a0 a1 s} (hs : State.Kept q s) : OutKept q (execPtpDelayReqReceive a0 a1 s) := by
  unfold execPtpDelayReqReceive
  try dsimp only
  with_reducible repeat' first
      | assumption | apply OutKept.next | apply State.ptpTake_kept | apply State.degradeCheck_kept | apply State.ptpSend_kept | apply State.Kept.ite
      | intro _

theorem execPtpDelayRespReceive_kept {q a0 a1 a2 s} (hs : State.Kept q s) : OutKept q (execPtpDelayRespReceive a0 a1 a2 s) := by
  unfold execPtpDelayRespReceive
  try dsimp only
  with_reducible repeat' first
      | assumption | apply OutKept.next | apply State.ptpTake_kept | apply State.degradeCheck_kept | apply State.modDom_kept | apply State.Kept.ite
      | intro _ | split

theorem execPtpSyncSend_kept {q a0 s} (hs : State.Kept q s) : OutKept q (execPtpSyncSend a0 s) := by
  unfold execPtpSyncSend
  try dsimp only
  with_reducible repeat' first
      | assumption | apply OutKept.next | apply State.degradeCheck_kept | apply State.modDom_kept | apply State.ptpSend_kept | apply State.Kept.ite

theorem execPtpAnnounceSend_kept {q a0 s} (hs : State.Kept q s) : OutKept q (execPtpAnnounceSend a0 s) := by
  unfold execPtpAnnounceSend
  try dsimp only
  with_reducible repeat' first
      | assumption | apply OutKept.next | apply State.degradeCheck_kept | apply State.ptpSend_kept | apply State.modDom_kept | apply State.Kept.ite

theorem execPtpDelayReqSend_kept {q a0 s} (hs : State.Kept q s) : OutKept q (execPtpDelayReqSend a0 s) := by
  unfold execPtpDelayReqSend
  try dsimp only
  with_reducible repeat' first
      | assumption | apply OutKept.next | apply State.degradeCheck_kept | apply State.ptpSend_kept | apply State.modDom_kept | apply State.Kept.ite

theorem execFlSyncSend_kept {q s} (hs : State.Kept q s) : OutKept q (execFlSyncSend s) := by
  unfold execFlSyncSend
  try dsimp only
  with_reducible repeat' first
      | assumption | apply OutKept.next | apply State.modFl_kept | (apply State.Kept.forEach; intro _ _ _) | apply State.flTimeSend_kept
      | apply State.Kept.ite

theorem execFlDelayReqSend_kept {q a0 s} (hs : State.Kept q s) : OutKept q (execFlDelayReqSend a0 s) := by
  unfold execFlDelayReqSend
  try dsimp only
  with_reducible repeat' first
      | assumption | apply OutKept.next | apply execFlSyncReceive_kept | apply State.modFl_kept | apply State.flTimeSend_kept | apply State.Kept.ite

theorem execFlDelayReqReceive_kept {q a0 a1 s} (hs : State.Kept q s) : OutKept q (execFlDelayReqReceive a0 a1 s) := by
  unfold execFlDelayReqReceive
  try dsimp only
  with_reducible repeat' first
      | assumption | apply OutKept.next | apply execFlSyncReceive_kept | apply State.flTimeSend_kept | apply State.Kept.ite | intro _ | split

theorem execFlDelayRespReceive_kept {q a0 a1 s} (hs : State.Kept q s) : OutKept q (execFlDelayRespReceive a0 a1 s) := by
  unfold execFlDelayRespReceive
  try dsimp only
  with_reducible repeat' first
      | assumption | apply OutKept.next | apply execFlSyncReceive_kept | apply State.modFl_kept | apply State.Kept.ite | intro _ | split

theorem execWaitResume_kept {q a0 s} (hs : State.Kept q s) : OutKept q (execWaitResume a0 s) := by
  unfold execWaitResume
  refine OutKept.next (State.Kept.ite ?_ hs)
  split
  · next f hf =>
    split
    · exact State.wakeDomain_kept hs
    · exact State.modEng_kept (State.Kept.forEach (fun _ _ h => State.touch_kept h) hs) fun x hx =>
        Engine.complete_ok hx fun y hy => State.waitMet_ok hf hy
  · exact hs

theorem execEngineRun_kept {q a0 a1 s} (hs : State.Kept q s) : OutKept q (execEngineRun a0 a1 s) := by
  unfold execEngineRun
  try dsimp only
  with_reducible repeat' first | assumption | apply OutKept.next | apply State.engRun_kept | apply State.Kept.ite

theorem execEngineStop_kept {q a0 a1 s} (hs : State.Kept q s) : OutKept q (execEngineStop a0 a1 s) := by
  unfold execEngineStop
  try dsimp only
  with_reducible repeat' first | assumption | apply OutKept.next | apply State.engStop_kept | apply State.Kept.ite

theorem execSysEngWdogWrite_kept {q a0 a1 a2 s} (hs : State.Kept q s) : OutKept q (execSysEngWdogWrite a0 a1 a2 s) := by
  unfold execSysEngWdogWrite
  try dsimp only
  with_reducible repeat' first | assumption | apply OutKept.next | apply State.writeAt_kept

theorem execLeaseRetry_kept {q a0 s} (hs : State.Kept q s) : OutKept q (execLeaseRetry a0 s) := by
  unfold execLeaseRetry
  try dsimp only
  with_reducible repeat' first
      | assumption | apply OutKept.next | (refine State.askSoon_kept ?_ fun _ _ => ?_) | apply State.joinWindow_kept | apply State.modArb_kept
      | apply State.Kept.ite | intro _ | split

theorem execSwathRestart_kept {q a0 s} (hs : State.Kept q s) : OutKept q (execSwathRestart a0 s) := by
  unfold execSwathRestart
  try dsimp only
  with_reducible repeat' first
      | assumption | apply OutKept.next | apply execLease_kept | apply State.runBeam_kept | (refine State.askSoon_kept ?_ fun _ _ => ?_)
      | (refine State.modEng_kept ?_ fun x hx => ?_) | apply execLoopsel_kept | apply State.modBeam_kept | apply State.request_kept
      | apply State.modSwath_kept | apply State.wdogReload_kept | apply State.Kept.ite | apply Eff.Kept.done | intro _ | split | exact hx
      | apply Engine.setG_ok | apply Engine.Ok.upd

theorem execSequenceStarve_kept {q a0 s} (hs : State.Kept q s) : OutKept q (execSequenceStarve a0 s) := by
  unfold execSequenceStarve
  try dsimp only
  with_reducible repeat' first | assumption | apply OutKept.next | apply State.starve_kept | apply State.Kept.ite

theorem State.takePosition_kept {q s a1 a2} (hs : State.Kept q s) : State.Kept q (State.takePosition s a1 a2) := by
  unfold State.takePosition
  try dsimp only
  with_reducible repeat' first
      | assumption | apply State.resumeBeam_kept | apply State.modTraj_kept | apply State.modLoop_kept | apply State.headEvent_kept
      | apply State.feTrip_kept | apply State.Kept.ite

theorem execPositionPayload_kept {q a0 a1 s} (hs : State.Kept q s) : OutKept q (execPositionPayload a0 a1 s) := by
  unfold execPositionPayload
  try dsimp only
  with_reducible repeat' first | assumption | apply OutKept.next | apply State.takePosition_kept | apply State.Kept.ite | intro _ | split

theorem execLpwrSlot_kept {q a0 s} (hs : State.Kept q s) : OutKept q (execLpwrSlot a0 s) := by
  unfold execLpwrSlot
  try dsimp only
  with_reducible repeat' first
      | assumption | apply OutKept.next | apply State.resumeBeam_kept | apply State.modTraj_kept | apply State.send_kept | apply State.Kept.ite

theorem execLaserAlarm_kept {q a0 s} (hs : State.Kept q s) : OutKept q (execLaserAlarm a0 s) := by
  unfold execLaserAlarm
  try dsimp only
  with_reducible repeat' first
      | assumption | apply OutKept.next | apply State.resumeBeam_kept | apply State.chHalt_kept | apply State.setFlag_kept | apply State.put_kept
      | apply State.beamFault_kept | apply State.gateFall_kept | apply State.retire_kept | apply State.Kept.ite | intro _ | split

theorem execPermitRestored_kept {q a0 s} (hs : State.Kept q s) : OutKept q (execPermitRestored a0 s) := by
  unfold execPermitRestored
  try dsimp only
  with_reducible repeat' first
      | assumption | apply OutKept.next | (apply State.Kept.forEach; intro _ _ _) | apply State.permitResume_kept | apply State.Kept.ite

theorem execBeamCorrBaseWrite_kept {q a0 a1 a2 s} (hs : State.Kept q s) : OutKept q (execBeamCorrBaseWrite a0 a1 a2 s) := by
  unfold execBeamCorrBaseWrite
  try dsimp only
  with_reducible repeat' first | assumption | apply OutKept.next | apply State.writeAt_kept

theorem State.reqRadius_kept {q s} (hs : State.Kept q s) : State.Kept q (State.reqRadius s).2 := by
  unfold State.reqRadius
  try dsimp only
  with_reducible repeat' first
      | assumption | apply State.freeVal_kept | (refine State.freeVal_kept_eq (by assumption) ?_) | apply State.Kept.ite | intro _ | split

theorem State.reqRadius_kept_eq {q s w t} (e : State.reqRadius s = (w, t)) (hs : State.Kept q s) : State.Kept q t := by
  have h : State.Kept q (State.reqRadius s).2 := State.reqRadius_kept hs
  rw [e] at h
  exact h

theorem State.proceed_kept {q s a1 a2 a3 a4} (hs : State.Kept q s) : State.Kept q (State.proceed s a1 a2 a3 a4) := by
  unfold State.proceed
  try dsimp only
  with_reducible repeat' first
      | assumption | apply State.grantLease_kept | apply State.denyLease_kept | apply State.modArb_kept | apply State.reqRadius_kept
      | (refine State.reqRadius_kept_eq (by assumption) ?_) | (apply State.Kept.forEach; intro _ _ _) | apply State.sendPeer_kept
      | apply State.Kept.ite | (refine State.Kept.upd ?_; first | assumption)

theorem State.decideBeam_kept {q s a1} (hs : State.Kept q s) : State.Kept q (State.decideBeam s a1) := by
  unfold State.decideBeam
  try dsimp only
  with_reducible repeat' first
      | assumption | apply State.bedFixRect_kept | apply State.proceed_kept | apply State.denyLease_kept | apply State.Kept.ite | intro _ | split

theorem State.decideSound_kept {q s a1 a2 a3} (hs : State.Kept q s) : State.Kept q (State.decideSound s a1 a2 a3) := by
  unfold State.decideSound
  try dsimp only
  with_reducible repeat' first
      | assumption | apply State.answer_kept | apply State.bedFixRect_kept | apply State.modPlot_kept | apply State.Kept.ite
      | (refine State.Kept.upd ?_; first | assumption | apply State.answer_kept | apply State.bedFixRect_kept | (apply State.Kept.forEach; intro _ _ _) | apply State.modPlot_kept | apply State.Kept.ite | split)

theorem State.decideRemote_kept {q s a1 a2 a3} (hs : State.Kept q s) : State.Kept q (State.decideRemote s a1 a2 a3) := by
  unfold State.decideRemote
  try dsimp only
  with_reducible repeat' first
      | assumption | apply State.proceed_kept | apply State.freeVal_kept | (refine State.freeVal_kept_eq (by assumption) ?_)
      | apply State.answer_kept | apply State.decideSound_kept | apply State.Kept.ite | intro _ | split

theorem execArbWindowClose_kept {q s} (hs : State.Kept q s) : OutKept q (execArbWindowClose s) := by
  unfold execArbWindowClose
  try dsimp only
  with_reducible repeat' first
      | assumption | apply OutKept.next | (refine State.askSoon_kept ?_ fun _ _ => ?_) | (apply State.Kept.forEach; intro _ _ _)
      | apply State.decideBeam_kept | apply State.decideRemote_kept | apply State.Kept.ite | apply Eff.Kept.done | apply Eff.Kept.jump
      | apply Eff.Kept.hold | apply Eff.Kept.exc | apply Eff.Kept.stall | apply Eff.Kept.ite
      | (refine State.Kept.upd ?_; first | assumption | apply OutKept.next | (refine State.askSoon_kept ?_ fun _ _ => ?_) | apply State.decideBeam_kept | apply State.decideRemote_kept | apply State.Kept.ite | apply Eff.Kept.done | apply Eff.Kept.jump | apply Eff.Kept.hold | apply Eff.Kept.exc | apply Eff.Kept.stall | apply Eff.Kept.ite | split)

theorem execLeaseExpiry_kept {q a0 s} (hs : State.Kept q s) : OutKept q (execLeaseExpiry a0 s) := by
  unfold execLeaseExpiry
  try dsimp only
  with_reducible repeat' first
      | assumption | apply OutKept.next | apply State.stopBeam_kept | apply State.modArb_kept | apply State.outcomes_kept
      | apply State.leaseResult_kept | apply State.raise_kept | apply State.modBeam_kept | apply State.Kept.ite

theorem execReplayStall_kept {q s} (hs : State.Kept q s) : OutKept q (execReplayStall s) := by
  unfold execReplayStall
  try dsimp only
  with_reducible repeat' first
      | assumption | apply OutKept.next | apply State.raise_kept | apply State.Kept.ite | apply Eff.Kept.done | apply Eff.Kept.jump
      | apply Eff.Kept.hold | apply Eff.Kept.exc | apply Eff.Kept.stall | apply Eff.Kept.ite | (refine State.Kept.upd ?_; first | assumption)

theorem execPeerTimeout_kept {q a0 s} (hs : State.Kept q s) : OutKept q (execPeerTimeout a0 s) := by
  unfold execPeerTimeout
  try dsimp only
  with_reducible repeat' first | assumption | apply OutKept.next | apply State.failPeers_kept | apply State.Kept.ite | intro _ | split

theorem execRemoteEntryExpiry_kept {q a0 a1 s} (hs : State.Kept q s) : OutKept q (execRemoteEntryExpiry a0 a1 s) := by
  unfold execRemoteEntryExpiry
  try dsimp only
  with_reducible repeat' first | assumption | apply OutKept.next | apply State.freeRemote_kept | apply State.Kept.ite | intro _ | split

theorem execPeerLost_kept {q a0 s} (hs : State.Kept q s) : OutKept q (execPeerLost a0 s) := by
  unfold execPeerLost
  try dsimp only
  with_reducible repeat' first
      | assumption | apply OutKept.next | apply State.raise_kept | apply State.put_kept | apply State.Kept.ite | intro _ | split

theorem execRetireWrite_kept {q a0 a1 s} (hs : State.Kept q s) : OutKept q (execRetireWrite a0 a1 s) := by
  unfold execRetireWrite
  try dsimp only
  with_reducible repeat' first | assumption | apply OutKept.next | apply State.writeAt_kept

theorem execRetireClear_kept {q a0 a1 s} (hs : State.Kept q s) : OutKept q (execRetireClear a0 a1 s) := by
  unfold execRetireClear
  try dsimp only
  with_reducible repeat' first | assumption | apply OutKept.next | apply State.writeAt_kept

theorem State.loopEvent_kept {q s a1 a2} (hs : State.Kept q s) : State.Kept q (State.loopEvent s a1 a2) := by
  unfold State.loopEvent
  try dsimp only
  with_reducible repeat' first | assumption | apply State.raise_kept

theorem execLoopOverrun_kept {q a0 s} (hs : State.Kept q s) : OutKept q (execLoopOverrun a0 s) := by
  unfold execLoopOverrun
  try dsimp only
  with_reducible repeat' first
      | assumption | apply OutKept.next | apply State.loopCommit_kept | apply State.decideRates_kept | apply State.modLoop_kept
      | apply State.putRecord_kept | apply State.loopEvent_kept | apply State.count_kept | apply State.setFlag_kept | apply State.Kept.ite | intro _
      | split

theorem execBedERead_kept {q a0 s} (hs : State.Kept q s) : OutKept q (execBedERead a0 s) := by
  unfold execBedERead
  try dsimp only
  with_reducible repeat' first
      | assumption | apply OutKept.next | apply State.decideRates_kept | (refine State.askSoon_kept ?_ fun _ _ => ?_) | apply State.modLoop_kept
      | apply State.Kept.ite

theorem execLoopConfigWrite_kept {q a0 a1 a2 s} (hs : State.Kept q s) : OutKept q (execLoopConfigWrite a0 a1 a2 s) := by
  unfold execLoopConfigWrite
  try dsimp only
  with_reducible repeat' first | assumption | apply OutKept.next | apply State.writeAt_kept

theorem execCaptureArm_kept {q a0 a1 s} (hs : State.Kept q s) : OutKept q (execCaptureArm a0 a1 s) := by
  unfold execCaptureArm
  try dsimp only
  with_reducible repeat' first | assumption | apply OutKept.next | apply State.writeAt_kept

theorem execCaptureStop_kept {q a0 s} (hs : State.Kept q s) : OutKept q (execCaptureStop a0 s) := by
  unfold execCaptureStop
  try dsimp only
  with_reducible repeat' first | assumption | apply OutKept.next | apply State.writeAt_kept

theorem execFrameStart_kept {q a0 a1 a2 s} (hs : State.Kept q s) : OutKept q (execFrameStart a0 a1 a2 s) := by
  unfold execFrameStart
  try dsimp only
  with_reducible repeat' first | assumption | apply OutKept.next | apply State.camSetHeard_kept | apply State.frameStart_kept | apply State.Kept.ite

theorem execLine_kept {q a0 a1 a2 a3 a4 s} (hs : State.Kept q s) : OutKept q (execLine a0 a1 a2 a3 a4 s) := by
  unfold execLine
  try dsimp only
  with_reducible repeat' first
      | assumption | apply OutKept.next | apply State.dropLanding_kept | apply State.showFill_kept | apply State.siloPut_kept
      | apply State.modSlot_kept | apply State.pipeKick_kept | apply State.Kept.ite | intro _ | split

theorem execProvisionalChoice_kept {q a0 s} (hs : State.Kept q s) : OutKept q (execProvisionalChoice a0 s) := by
  unfold execProvisionalChoice
  try dsimp only
  with_reducible repeat' first | assumption | apply OutKept.next | apply State.showFill_kept | apply State.modPipe_kept | apply State.Kept.ite

theorem State.writeOutput_kept {q s a1 a2 a3 a4 a5} (hs : State.Kept q s) : State.Kept q (State.writeOutput s a1 a2 a3 a4 a5) := by
  unfold State.writeOutput
  try dsimp only
  with_reducible repeat' first
      | assumption | apply State.showFill_kept | apply State.pipeEvent_kept | (apply State.Kept.forEach; intro _ _ _) | apply State.siloPut_kept
      | apply State.modStream_kept | apply State.put_kept | apply State.Kept.ite

theorem State.writeStats_kept {q s a1 a2 a3} (hs : State.Kept q s) : State.Kept q (State.writeStats s a1 a2 a3) := by
  unfold State.writeStats
  try dsimp only
  with_reducible repeat' first
      | assumption | apply State.showFill_kept | apply State.siloPut_kept | (apply State.Kept.forEach; intro _ _ _) | apply State.Kept.ite
      | (refine State.Kept.upd ?_; first | assumption | apply State.showFill_kept | apply State.siloPut_kept)

theorem execUnitComplete_kept {q a0 s} (hs : State.Kept q s) : OutKept q (execUnitComplete a0 s) := by
  unfold execUnitComplete
  try dsimp only
  with_reducible repeat' first
      | assumption | apply OutKept.next | apply State.showFill_kept | apply State.modPipe_kept | apply State.freeSlot_kept
      | apply State.pipeEvent_kept | apply State.count_kept | apply State.siloFix_kept | (apply State.Kept.forEach; intro _ _ _)
      | apply State.writeOutput_kept | apply State.writeStats_kept | apply State.modStream_kept | apply State.modSlot_kept
      | apply State.pipeKick_kept | apply State.Kept.ite | apply Eff.Kept.done | apply Eff.Kept.jump | apply Eff.Kept.hold | apply Eff.Kept.exc
      | apply Eff.Kept.stall | apply Eff.Kept.ite
      | (refine State.Kept.upd ?_; first | assumption | apply OutKept.next | apply State.showFill_kept | apply State.modPipe_kept | apply State.freeSlot_kept | apply State.pipeEvent_kept | apply State.count_kept | apply State.siloFix_kept | apply State.writeOutput_kept | apply State.writeStats_kept | apply State.modStream_kept | apply State.modSlot_kept | apply State.pipeKick_kept | apply State.Kept.ite | apply Eff.Kept.done | apply Eff.Kept.jump | apply Eff.Kept.hold | apply Eff.Kept.exc | apply Eff.Kept.stall | apply Eff.Kept.ite | split)

theorem execMoveAbs_kept {q a0 a1 s} (hs : State.Kept q s) : OutKept q (execMoveAbs a0 a1 s) := by
  unfold execMoveAbs
  try dsimp only
  with_reducible repeat' first | assumption | apply OutKept.next | apply State.axCommand_kept

theorem execMoveRel_kept {q a0 a1 s} (hs : State.Kept q s) : OutKept q (execMoveRel a0 a1 s) := by
  unfold execMoveRel
  try dsimp only
  with_reducible repeat' first | assumption | apply OutKept.next | apply State.axCommand_kept

theorem execStop_kept {q a0 a1 s} (hs : State.Kept q s) : OutKept q (execStop a0 a1 s) := by
  unfold execStop
  try dsimp only
  with_reducible repeat' first | assumption | apply OutKept.next | apply State.axCommand_kept

theorem execHome_kept {q a0 a1 s} (hs : State.Kept q s) : OutKept q (execHome a0 a1 s) := by
  unfold execHome
  try dsimp only
  with_reducible repeat' first | assumption | apply OutKept.next | apply State.axCommand_kept

theorem execSetPos_kept {q a0 a1 s} (hs : State.Kept q s) : OutKept q (execSetPos a0 a1 s) := by
  unfold execSetPos
  try dsimp only
  with_reducible repeat' first | assumption | apply OutKept.next | apply State.axCommand_kept

theorem execAxMaxSpeedWrite_kept {q a0 a1 s} (hs : State.Kept q s) : OutKept q (execAxMaxSpeedWrite a0 a1 s) := by
  unfold execAxMaxSpeedWrite
  try dsimp only
  with_reducible repeat' first | assumption | apply OutKept.next | apply State.axSpeedWrite_kept

theorem execAxAccelWrite_kept {q a0 a1 s} (hs : State.Kept q s) : OutKept q (execAxAccelWrite a0 a1 s) := by
  unfold execAxAccelWrite
  try dsimp only
  with_reducible repeat' first | assumption | apply OutKept.next | apply State.axAccelWrite_kept

theorem State.axFinish_kept {q s a1} (hs : State.Kept q s) : State.Kept q (State.axFinish s a1) := by
  unfold State.axFinish
  try dsimp only
  with_reducible repeat' first
      | assumption | apply State.axEvent_kept | apply State.encSync_kept | apply State.setFlag_kept | apply State.homeFail_kept
      | apply State.Kept.ite | intro _ | split

theorem execMoveEnd_kept {q a0 s} (hs : State.Kept q s) : OutKept q (execMoveEnd a0 s) := by
  unfold execMoveEnd
  try dsimp only
  with_reducible repeat' first
      | assumption | apply OutKept.next | apply State.setFlag_kept | apply State.setAxState_kept | apply State.axFinish_kept
      | apply State.modAxis_kept | apply State.axGo_kept | apply State.axPump_kept | apply State.axStart_kept | apply State.Kept.ite | intro _
      | split

theorem State.axSwitch_kept {q s a1 a2 a3} (hs : State.Kept q s) : State.Kept q (State.axSwitch s a1 a2 a3) := by
  unfold State.axSwitch
  try dsimp only
  with_reducible repeat' first
      | assumption | apply State.axPump_kept | apply State.axHomeAway_kept | apply State.setAxState_kept | apply State.axHalt_kept
      | apply State.axHomeRun_kept | apply State.axHomeFound_kept | apply State.Kept.ite

theorem execLimitInput_kept {q a0 a1 a2 s} (hs : State.Kept q s) : OutKept q (execLimitInput a0 a1 a2 s) := by
  unfold execLimitInput
  try dsimp only
  with_reducible repeat' first
      | assumption | apply OutKept.next | apply State.setFlag_kept | apply State.axFinish_kept | apply State.axSwitch_kept | apply State.axPump_kept
      | apply State.Kept.ite | intro _ | split

theorem execEncoderEdge_kept {q a0 a1 a2 a3 s} (hs : State.Kept q s) : OutKept q (execEncoderEdge a0 a1 a2 a3 s) := by
  unfold execEncoderEdge
  try dsimp only
  with_reducible repeat' first
      | assumption | apply OutKept.next | apply State.put_kept | apply State.count_kept | (apply State.Kept.forEach; intro _ _ _)
      | apply State.axFinish_kept | apply State.axPump_kept | apply State.axHomeFound_kept | apply State.Kept.ite | apply Eff.Kept.done
      | apply Eff.Kept.jump | apply Eff.Kept.hold | apply Eff.Kept.exc | apply Eff.Kept.stall | apply Eff.Kept.ite
      | (refine State.Kept.upd ?_; first | assumption | apply OutKept.next | apply State.put_kept | apply State.count_kept | apply State.axFinish_kept | apply State.axPump_kept | apply State.axHomeFound_kept | apply State.Kept.ite | apply Eff.Kept.done | apply Eff.Kept.jump | apply Eff.Kept.hold | apply Eff.Kept.exc | apply Eff.Kept.stall | apply Eff.Kept.ite | split)

theorem execEncoderCheck_kept {q a0 s} (hs : State.Kept q s) : OutKept q (execEncoderCheck a0 s) := by
  unfold execEncoderCheck
  try dsimp only
  with_reducible repeat' first
      | assumption | apply OutKept.next | apply State.modAxis_kept | apply State.axEvent_kept | apply State.setFlag_kept | apply State.axEndNow_kept
      | apply State.Kept.ite

theorem execBridgeFrame_kept {q a0 s} (hs : State.Kept q s) : OutKept q (execBridgeFrame a0 s) := by
  unfold execBridgeFrame
  try dsimp only
  with_reducible repeat' first
      | assumption | apply OutKept.next | apply State.modAxis_kept | apply State.setAxPos_kept | apply State.send_kept | apply State.Kept.ite

theorem execHoldScaleTimeout_kept {q a0 s} (hs : State.Kept q s) : OutKept q (execHoldScaleTimeout a0 s) := by
  unfold execHoldScaleTimeout
  try dsimp only
  with_reducible repeat' first | assumption | apply OutKept.next | apply State.modAxis_kept | apply State.Kept.ite

theorem execKeyLost_kept {q s} (hs : State.Kept q s) : OutKept q (execKeyLost s) := by
  unfold execKeyLost
  try dsimp only
  with_reducible repeat' first | assumption | apply OutKept.next | apply State.axKeyLost_kept | apply State.Kept.ite

theorem execSeekBurst_kept {q a0 s} (hs : State.Kept q s) : OutKept q (execSeekBurst a0 s) := by
  unfold execSeekBurst
  try dsimp only
  with_reducible repeat' first | assumption | apply OutKept.next | apply State.modLane_kept | apply State.sendTs_kept | apply State.Kept.ite

theorem execSeekTimeout_kept {q a0 s} (hs : State.Kept q s) : OutKept q (execSeekTimeout a0 s) := by
  unfold execSeekTimeout
  try dsimp only
  with_reducible repeat' first | assumption | apply OutKept.next | apply State.lnEvent_kept | apply State.setFlag_kept | apply State.Kept.ite

theorem execSignalDetect_kept {q a0 s} (hs : State.Kept q s) : OutKept q (execSignalDetect a0 s) := by
  unfold execSignalDetect
  try dsimp only
  with_reducible repeat' first | assumption | apply OutKept.next | apply State.enterAlign_kept | apply State.Kept.ite

theorem execPartnerLoss_kept {q a0 s} (hs : State.Kept q s) : OutKept q (execPartnerLoss a0 s) := by
  unfold execPartnerLoss
  try dsimp only
  with_reducible repeat' first | assumption | apply OutKept.next | apply State.enterSeek_kept | apply State.Kept.ite

theorem State.refuse_kept {q s a1 a2} (hs : State.Kept q s) : State.Kept q (State.refuse s a1 a2) := by
  unfold State.refuse
  try dsimp only
  with_reducible repeat' first
      | assumption | apply State.enterSeek_kept | apply State.put_kept | apply State.setFlag_kept | apply State.lnEvent_kept | apply State.Kept.ite

theorem State.tsTake_kept {q s a1 a2} (hs : State.Kept q s) : State.Kept q (State.tsTake s a1 a2) := by
  unfold State.tsTake
  try dsimp only
  with_reducible repeat' first
      | assumption | apply State.modLane_kept | apply State.enterLane_kept | apply State.sendTs_kept | apply State.refuse_kept | apply State.Kept.ite

theorem execTsReceive_kept {q a0 a1 s} (hs : State.Kept q s) : OutKept q (execTsReceive a0 a1 s) := by
  unfold execTsReceive
  try dsimp only
  with_reducible repeat' first
      | assumption | apply OutKept.next | apply State.codeError_kept | apply State.enterUp_kept | apply State.tsTake_kept | apply State.modLane_kept
      | apply State.Kept.ite | intro _ | split

theorem execCheckComplete_kept {q a0 a1 a2 s} (hs : State.Kept q s) : OutKept q (execCheckComplete a0 a1 a2 s) := by
  unfold execCheckComplete
  try dsimp only
  with_reducible repeat' first | assumption | apply OutKept.next | apply State.enterUp_kept | apply State.trigger_kept | apply State.Kept.ite

theorem execEyeScanStart_kept {q a0 a1 s} (hs : State.Kept q s) : OutKept q (execEyeScanStart a0 a1 s) := by
  unfold execEyeScanStart
  try dsimp only
  with_reducible repeat' first | assumption | apply OutKept.next | apply State.eyeCmdWrite_kept

theorem execEyeScanDone_kept {q a0 s} (hs : State.Kept q s) : OutKept q (execEyeScanDone a0 s) := by
  unfold execEyeScanDone
  try dsimp only
  with_reducible repeat' first
      | assumption | apply OutKept.next | apply State.siloPut_kept | apply State.setFlag_kept | apply State.Kept.ite | apply Eff.Kept.done
      | apply Eff.Kept.jump | apply Eff.Kept.hold | apply Eff.Kept.exc | apply Eff.Kept.stall | apply Eff.Kept.ite
      | (refine State.Kept.upd ?_; first | assumption | apply OutKept.next | apply State.siloPut_kept | apply State.setFlag_kept | apply State.Kept.ite | apply Eff.Kept.done | apply Eff.Kept.jump | apply Eff.Kept.hold | apply Eff.Kept.exc | apply Eff.Kept.stall | apply Eff.Kept.ite | split)

theorem execLinkFrameReceive_kept {q a0 a1 s} (hs : State.Kept q s) : OutKept q (execLinkFrameReceive a0 a1 s) := by
  unfold execLinkFrameReceive
  try dsimp only
  with_reducible repeat' first
      | assumption | apply OutKept.next | apply State.linkGood_kept | apply State.linkBad_kept | apply State.Kept.ite | intro _ | split

theorem execAckSend_kept {q a0 s} (hs : State.Kept q s) : OutKept q (execAckSend a0 s) := by
  unfold execAckSend
  try dsimp only
  with_reducible repeat' first | assumption | apply OutKept.next | apply State.transmit_kept | apply State.modLane_kept | apply State.Kept.ite

theorem execAckNakReceive_kept {q a0 a1 a2 a3 s} (hs : State.Kept q s) : OutKept q (execAckNakReceive a0 a1 a2 a3 s) := by
  unfold execAckNakReceive
  try dsimp only
  with_reducible repeat' first | assumption | apply OutKept.next | apply State.codeError_kept | apply State.modLane_kept | apply State.Kept.ite

theorem execReplayTimeout_kept {q a0 s} (hs : State.Kept q s) : OutKept q (execReplayTimeout a0 s) := by
  unfold execReplayTimeout
  try dsimp only
  with_reducible repeat' first
      | assumption | apply OutKept.next | apply State.modLane_kept | apply State.count_kept | apply State.trigger_kept | apply State.Kept.ite

theorem execCreditSend_kept {q a0 s} (hs : State.Kept q s) : OutKept q (execCreditSend a0 s) := by
  unfold execCreditSend
  try dsimp only
  with_reducible repeat' first
      | assumption | apply OutKept.next | (apply State.Kept.forEach; intro _ _ _) | apply State.transmit_kept | apply State.Kept.ite

theorem execEthSyncLoss_kept {q a0 s} (hs : State.Kept q s) : OutKept q (execEthSyncLoss a0 s) := by
  unfold execEthSyncLoss
  try dsimp only
  with_reducible repeat' first
      | assumption | apply OutKept.next | apply State.modLane_kept | apply State.setFlag_kept | apply State.enterLane_kept | apply State.Kept.ite

theorem State.flood_kept {q s a1 a2} (hs : State.Kept q s) : State.Kept q (State.flood s a1 a2) := by
  unfold State.flood
  try dsimp only
  with_reducible repeat' first | assumption | (apply State.Kept.forEach; intro _ _ _) | apply State.sendHello_kept | apply State.portSend_kept

theorem State.keepLsa_kept {q s a1} (hs : State.Kept q s) : State.Kept q (State.keepLsa s a1) := by
  unfold State.keepLsa
  try dsimp only
  with_reducible repeat' first | assumption | apply State.modFab_kept

theorem execLsaIssue_kept {q s} (hs : State.Kept q s) : OutKept q (execLsaIssue s) := by
  unfold execLsaIssue
  try dsimp only
  with_reducible repeat' first
      | assumption | apply OutKept.next | apply State.modFab_kept | apply State.flood_kept | apply State.keepLsa_kept | apply State.Kept.ite

theorem execLsaReceive_kept {q a0 a1 s} (hs : State.Kept q s) : OutKept q (execLsaReceive a0 a1 s) := by
  unfold execLsaReceive
  try dsimp only
  with_reducible repeat' first
      | assumption | apply OutKept.next | apply State.raise_kept | apply State.setFlag_kept | apply State.flood_kept | apply State.keepLsa_kept
      | apply State.Kept.ite

theorem execLsaExpiry_kept {q a0 s} (hs : State.Kept q s) : OutKept q (execLsaExpiry a0 s) := by
  unfold execLsaExpiry
  try dsimp only
  with_reducible repeat' first
      | assumption | apply OutKept.next | apply execLsaReceive_kept | apply State.modFab_kept | apply State.Kept.ite | intro _ | split

theorem execKeyRenewAckReceive_kept {q a0 a1 s} (hs : State.Kept q s) : OutKept q (execKeyRenewAckReceive a0 a1 s) := by
  unfold execKeyRenewAckReceive
  try dsimp only
  with_reducible repeat' first | assumption | apply OutKept.next | apply State.modFab_kept | apply State.checkQuorum_kept | apply State.Kept.ite

theorem execKeyExpiry_kept {q s} (hs : State.Kept q s) : OutKept q (execKeyExpiry s) := by
  unfold execKeyExpiry
  try dsimp only
  with_reducible repeat' first
      | assumption | apply OutKept.next | apply State.raise_kept | apply State.leaveHolder_kept | apply State.Kept.ite | intro _ | split

theorem execKeyRelease_kept {q s} (hs : State.Kept q s) : OutKept q (execKeyRelease s) := by
  unfold execKeyRelease
  try dsimp only
  with_reducible repeat' first | assumption | apply OutKept.next | apply State.rescore_kept | apply State.releaseKey_kept | apply State.Kept.ite

theorem execKeyReleaseReceive_kept {q a0 a1 s} (hs : State.Kept q s) : OutKept q (execKeyReleaseReceive a0 a1 s) := by
  unfold execKeyReleaseReceive
  try dsimp only
  with_reducible repeat' first | assumption | apply OutKept.next | apply State.modFab_kept | apply State.expireIn_kept | apply State.Kept.ite

theorem execElectionRoundTimeout_kept {q s} (hs : State.Kept q s) : OutKept q (execElectionRoundTimeout s) := by
  unfold execElectionRoundTimeout
  try dsimp only
  with_reducible repeat' first | assumption | apply OutKept.next | apply State.voteRound_kept | apply State.Kept.ite | intro _ | split

theorem execVoteReceive_kept {q a0 a1 a2 s} (hs : State.Kept q s) : OutKept q (execVoteReceive a0 a1 a2 s) := by
  unfold execVoteReceive
  try dsimp only
  with_reducible repeat' first | assumption | apply OutKept.next | apply State.addVote_kept | apply State.Kept.ite

theorem execStaleReceive_kept {q a0 a1 s} (hs : State.Kept q s) : OutKept q (execStaleReceive a0 a1 s) := by
  unfold execStaleReceive
  try dsimp only
  with_reducible repeat' first | assumption | apply OutKept.next | apply State.modFab_kept | apply State.leaveHolder_kept | apply State.Kept.ite

theorem execHealthReceive_kept {q a0 a1 a2 s} (hs : State.Kept q s) : OutKept q (execHealthReceive a0 a1 a2 s) := by
  unfold execHealthReceive
  try dsimp only
  with_reducible repeat' first | assumption | apply OutKept.next | apply State.modFab_kept | apply State.Kept.ite

theorem execLayerSchedSend_kept {q a0 s} (hs : State.Kept q s) : OutKept q (execLayerSchedSend a0 s) := by
  unfold execLayerSchedSend
  try dsimp only
  with_reducible repeat' first | assumption | apply OutKept.next | apply State.tell_kept | apply State.Kept.ite

theorem execLayerSchedReceive_kept {q a0 a1 a2 s} (hs : State.Kept q s) : OutKept q (execLayerSchedReceive a0 a1 a2 s) := by
  unfold execLayerSchedReceive
  try dsimp only
  with_reducible repeat' first
      | assumption | apply OutKept.next | apply State.acceptGen_kept | apply State.put_kept | apply State.scheduleNow_kept
      | (refine State.scheduleNow_kept_eq (by assumption) ?_) | apply State.stale_kept | apply State.Kept.ite | apply Eff.Kept.done
      | apply Eff.Kept.jump | apply Eff.Kept.hold | apply Eff.Kept.exc | apply Eff.Kept.stall | apply Eff.Kept.ite
      | (refine State.Kept.upd ?_; first | assumption | apply OutKept.next | apply State.acceptGen_kept | apply State.put_kept | apply State.scheduleNow_kept)

theorem execLayerStateSend_kept {q s} (hs : State.Kept q s) : OutKept q (execLayerStateSend s) := by
  unfold execLayerStateSend
  try dsimp only
  with_reducible repeat' first
      | assumption | apply OutKept.next | apply State.flManage_kept | apply State.Kept.ite | apply Eff.Kept.done | apply Eff.Kept.jump
      | apply Eff.Kept.hold | apply Eff.Kept.exc | apply Eff.Kept.stall | apply Eff.Kept.ite
      | (refine State.Kept.upd ?_; first | assumption | apply OutKept.next | apply State.flManage_kept)

theorem execLayerStateReceive_kept {q a0 a1 a2 a3 s} (hs : State.Kept q s) : OutKept q (execLayerStateReceive a0 a1 a2 a3 s) := by
  unfold execLayerStateReceive
  try dsimp only
  with_reducible repeat' first
      | assumption | apply OutKept.next | apply State.tell_kept | apply State.doAbort_kept | apply State.barrierDone_kept | apply State.Kept.ite
      | apply Eff.Kept.done | apply Eff.Kept.jump | apply Eff.Kept.hold | apply Eff.Kept.exc | apply Eff.Kept.stall | apply Eff.Kept.ite
      | (refine State.Kept.upd ?_; first | assumption)

theorem execLayerGoSend_kept {q a0 s} (hs : State.Kept q s) : OutKept q (execLayerGoSend a0 s) := by
  unfold execLayerGoSend
  try dsimp only
  with_reducible repeat' first | assumption | apply OutKept.next | apply State.tell_kept | apply State.Kept.ite | intro _ | split

theorem execLayerGoReceive_kept {q a0 a1 a2 s} (hs : State.Kept q s) : OutKept q (execLayerGoReceive a0 a1 a2 s) := by
  unfold execLayerGoReceive
  try dsimp only
  with_reducible repeat' first
      | assumption | apply OutKept.next | apply State.acceptGen_kept | apply State.enterRecoat_kept | apply State.stale_kept | apply State.Kept.ite

theorem execLayerIdleReceive_kept {q a0 a1 a2 s} (hs : State.Kept q s) : OutKept q (execLayerIdleReceive a0 a1 a2 s) := by
  unfold execLayerIdleReceive
  try dsimp only
  with_reducible repeat' first
      | assumption | apply OutKept.next | apply State.acceptGen_kept | apply State.enterLy_kept | apply State.stale_kept | apply State.Kept.ite

theorem execLayerAbortReceive_kept {q a0 a1 a2 s} (hs : State.Kept q s) : OutKept q (execLayerAbortReceive a0 a1 a2 s) := by
  unfold execLayerAbortReceive
  try dsimp only
  with_reducible repeat' first
      | assumption | apply OutKept.next | apply State.acceptGen_kept | apply State.doAbort_kept | apply State.stale_kept | apply State.Kept.ite

theorem execParticipantRemoval_kept {q a0 s} (hs : State.Kept q s) : OutKept q (execParticipantRemoval a0 s) := by
  unfold execParticipantRemoval
  try dsimp only
  with_reducible repeat' first
      | assumption | apply OutKept.next | apply State.barrierDone_kept | apply State.raise_kept | apply State.Kept.ite | apply Eff.Kept.done
      | apply Eff.Kept.jump | apply Eff.Kept.hold | apply Eff.Kept.exc | apply Eff.Kept.stall | apply Eff.Kept.ite
      | (refine State.Kept.upd ?_; first | assumption)

theorem execArpRequest_kept {q a0 a1 a2 a3 s} (hs : State.Kept q s) : OutKept q (execArpRequest a0 a1 a2 a3 s) := by
  unfold execArpRequest
  try dsimp only
  with_reducible repeat' first | assumption | apply OutKept.next | apply State.sendPort_kept | apply State.Kept.ite

theorem execGratuitousArp_kept {q a0 s} (hs : State.Kept q s) : OutKept q (execGratuitousArp a0 s) := by
  unfold execGratuitousArp
  try dsimp only
  with_reducible repeat' first
      | assumption | apply OutKept.next | apply State.modNet_kept | apply State.sendPort_kept | apply State.Kept.ite | intro _ | split

theorem execIcmpEcho_kept {q a0 a1 a2 a3 a4 a5 s} (hs : State.Kept q s) : OutKept q (execIcmpEcho a0 a1 a2 a3 a4 a5 s) := by
  unfold execIcmpEcho
  try dsimp only
  with_reducible repeat' first
      | assumption | apply OutKept.next | apply State.count_kept | apply execGratuitousArp_kept | apply State.modNet_kept | apply State.sendPort_kept
      | apply State.Kept.ite

theorem execDiscover_kept {q a0 a1 s} (hs : State.Kept q s) : OutKept q (execDiscover a0 a1 s) := by
  unfold execDiscover
  try dsimp only
  with_reducible repeat' first
      | assumption | apply OutKept.next | apply State.vmpMeet_kept | apply State.vmpAnswer_kept | apply State.vmpBad_kept | apply State.Kept.ite
      | intro _

theorem State.bindSession_kept {q s a1 a2 a3 a4} (hs : State.Kept q s) : State.Kept q (State.bindSession s a1 a2 a3 a4) := by
  unfold State.bindSession
  try dsimp only
  with_reducible repeat' first | assumption | apply State.put_kept | apply State.setFlag_kept

theorem State.openNow_kept {q s a1 a2 a3 a4 a5} (hs : State.Kept q s) : State.Kept q (State.openNow s a1 a2 a3 a4 a5) := by
  unfold State.openNow
  try dsimp only
  with_reducible repeat' first
      | assumption | apply State.vmpBusy_kept | apply State.freeVal_kept | (refine State.freeVal_kept_eq (by assumption) ?_)
      | apply State.closeSession_kept | apply State.bindSession_kept | apply State.modSess_kept | apply State.sessOpened_kept
      | apply State.vmpOut_kept | apply State.Kept.ite | intro _ | split

theorem execOpenReq_kept {q a0 a1 s} (hs : State.Kept q s) : OutKept q (execOpenReq a0 a1 s) := by
  unfold execOpenReq
  try dsimp only
  with_reducible repeat' first
      | assumption | apply OutKept.next | apply State.vmpMeet_kept | apply State.vmpAnswer_kept | apply State.vmpBad_kept | apply State.vmpSeq_kept
      | apply State.vmpOut_kept | apply State.vmpRun_kept | apply State.openNow_kept | apply State.Kept.ite | intro _ | split

theorem execRingResend_kept {q a0 s} (hs : State.Kept q s) : OutKept q (execRingResend a0 s) := by
  unfold execRingResend
  try dsimp only
  with_reducible repeat' first
      | assumption | apply OutKept.next | apply State.wakeRings_kept | apply State.raise_kept | apply State.modHRing_kept | apply State.Kept.ite
      | intro _ | split

theorem State.imageDone_kept {q s a1 a2} (hs : State.Kept q s) : State.Kept q (State.imageDone s a1 a2).1 := by
  unfold State.imageDone
  try dsimp only
  with_reducible repeat' first | assumption | apply State.programSlot_kept | apply State.Kept.ite | intro _ | split

theorem State.imageDone_kept_eq {q s a1 a2 w t} (e : State.imageDone s a1 a2 = (t, w)) (hs : State.Kept q s) : State.Kept q t := by
  have h : State.Kept q (State.imageDone s a1 a2).1 := State.imageDone_kept hs
  rw [e] at h
  exact h

theorem State.winnowDone_kept {q s a1} (hs : State.Kept q s) : State.Kept q (State.winnowDone s a1).1 := by
  unfold State.winnowDone
  try dsimp only
  with_reducible repeat' first
      | assumption | (apply State.Kept.forEach; intro _ _ _) | apply State.winnowEng_kept | apply State.winnowGranary_kept
      | apply State.winnowBed_kept | apply State.winnowSilo_kept | apply State.longAtOnce_kept | (refine State.longAtOnce_kept_eq (by assumption) ?_)
      | apply State.freeVal_kept | (refine State.freeVal_kept_eq (by assumption) ?_) | apply State.Kept.ite | intro _ | split

theorem State.winnowDone_kept_eq {q s a1 w t} (e : State.winnowDone s a1 = (t, w)) (hs : State.Kept q s) : State.Kept q t := by
  have h : State.Kept q (State.winnowDone s a1).1 := State.winnowDone_kept hs
  rw [e] at h
  exact h

theorem State.longEffect_kept {q s a1 a2} (hs : State.Kept q s) : State.Kept q (State.longEffect s a1 a2).1 := by
  unfold State.longEffect
  try dsimp only
  with_reducible repeat' first
      | assumption | apply State.longSteps_kept | apply State.sealEnd_kept | (refine State.sealEnd_kept_eq (by assumption) ?_)
      | apply State.imageDone_kept | (refine State.imageDone_kept_eq (by assumption) ?_) | apply State.winnowDone_kept
      | (refine State.winnowDone_kept_eq (by assumption) ?_) | apply State.zeroiseEnd_kept | apply State.modGran_kept | apply State.Kept.ite
      | intro _ | split

theorem State.longEffect_kept_eq {q s a1 a2 w t} (e : State.longEffect s a1 a2 = (t, w)) (hs : State.Kept q s) : State.Kept q t := by
  have h : State.Kept q (State.longEffect s a1 a2).1 := State.longEffect_kept hs
  rw [e] at h
  exact h

theorem State.closeSups_kept {q s} (hs : State.Kept q s) : State.Kept q (State.closeSups s) := by
  unfold State.closeSups
  try dsimp only
  with_reducible repeat' first | assumption | (apply State.Kept.forEach; intro _ _ _) | apply State.closeSession_kept | apply State.Kept.ite

theorem execLongDone_kept {q a0 s} (hs : State.Kept q s) : OutKept q (execLongDone a0 s) := by
  unfold execLongDone
  try dsimp only
  with_reducible repeat' first
      | assumption | apply OutKept.next | apply State.longEffect_kept | (refine State.longEffect_kept_eq (by assumption) ?_)
      | apply State.endLong_kept | apply State.closeSups_kept | apply State.Kept.ite | intro _ | split

theorem execEvtHostRaise_kept {q a0 a1 s} (hs : State.Kept q s) : OutKept q (execEvtHostRaise a0 a1 s) := by
  unfold execEvtHostRaise
  try dsimp only
  with_reducible repeat' first | assumption | apply OutKept.next | apply State.writeAt_kept

theorem execEvtOutPulseEnd_kept {q a0 s} (hs : State.Kept q s) : OutKept q (execEvtOutPulseEnd a0 s) := by
  unfold execEvtOutPulseEnd
  try dsimp only
  with_reducible repeat' first
      | assumption | apply OutKept.next | apply State.Kept.ite | apply Eff.Kept.done | apply Eff.Kept.jump | apply Eff.Kept.hold | apply Eff.Kept.exc
      | apply Eff.Kept.stall | apply Eff.Kept.ite
      | (refine State.Kept.upd ?_; first | assumption | apply OutKept.next | apply State.Kept.ite | apply Eff.Kept.done | apply Eff.Kept.jump | apply Eff.Kept.hold | apply Eff.Kept.exc | apply Eff.Kept.stall | apply Eff.Kept.ite | split)

theorem execRxDone_kept {q a0 s} (hs : State.Kept q s) : OutKept q (execRxDone a0 s) := by
  unfold execRxDone
  try dsimp only
  with_reducible repeat' first | assumption | apply OutKept.next | apply State.lbCtrl_kept | apply State.Kept.ite

theorem execTxReset_kept {q a0 s} (hs : State.Kept q s) : OutKept q (execTxReset a0 s) := by
  unfold execTxReset
  try dsimp only
  with_reducible repeat' first | assumption | apply OutKept.next | apply State.lbCtrl_kept | apply State.Kept.ite

theorem execLbTxDataWrite_kept {q a0 s} (hs : State.Kept q s) : OutKept q (execLbTxDataWrite a0 s) := by
  unfold execLbTxDataWrite
  try dsimp only
  with_reducible repeat' first | assumption | apply OutKept.next | apply State.modLb_kept | apply State.Kept.ite

theorem execLbRxDataRead_kept {q s} (hs : State.Kept q s) : OutKept q (execLbRxDataRead s) := by
  unfold execLbRxDataRead
  try dsimp only
  with_reducible repeat' first | assumption | apply OutKept.next | apply State.modLb_kept | apply State.Kept.ite

theorem execGranaryWriteStart_kept {q s} (hs : State.Kept q s) : OutKept q (execGranaryWriteStart s) := by
  unfold execGranaryWriteStart
  try dsimp only
  with_reducible repeat' first
      | assumption | apply OutKept.next | apply State.beginWrite_kept | apply State.modGran_kept | apply State.Kept.ite | intro _ | split

theorem execGranaryWriteDone_kept {q a0 s} (hs : State.Kept q s) : OutKept q (execGranaryWriteDone a0 s) := by
  unfold execGranaryWriteDone
  try dsimp only
  with_reducible repeat' first | assumption | apply OutKept.next | apply State.writeDone_kept

theorem execPowerFail_kept {q s} (hs : State.Kept q s) : OutKept q (execPowerFail s) := by
  unfold execPowerFail
  try dsimp only
  with_reducible repeat' first | assumption | apply OutKept.next | apply State.setPfail_kept | apply State.pfailFall_kept | apply State.Kept.ite

theorem execDumpStagingClose_kept {q s} (hs : State.Kept q s) : OutKept q (execDumpStagingClose s) := by
  unfold execDumpStagingClose
  try dsimp only
  with_reducible repeat' first | assumption | apply OutKept.next | apply State.modGran_kept | apply State.Kept.ite | intro _ | split

theorem State.failOver_kept {q s} (hs : State.Kept q s) : State.Kept q (State.failOver s) := by
  unfold State.failOver
  try dsimp only
  with_reducible repeat' first | assumption | apply State.modGran_kept | apply State.replay_kept

theorem execDumpComplete_kept {q s} (hs : State.Kept q s) : OutKept q (execDumpComplete s) := by
  unfold execDumpComplete
  try dsimp only
  with_reducible repeat' first | assumption | apply OutKept.next | apply State.dumpNow_kept | apply State.failOver_kept | apply State.Kept.ite

theorem execPfailRise_kept {q s} (hs : State.Kept q s) : OutKept q (execPfailRise s) := by
  unfold execPfailRise
  try dsimp only
  with_reducible repeat' first
      | assumption | apply OutKept.next | apply State.setPfail_kept | apply State.modGran_kept | apply State.failOver_kept | apply State.Kept.ite

theorem execGranaryCopyDone_kept {q s} (hs : State.Kept q s) : OutKept q (execGranaryCopyDone s) := by
  unfold execGranaryCopyDone
  try dsimp only
  with_reducible repeat' first
      | assumption | apply OutKept.next | (apply State.Kept.forEach; intro _ _ _) | apply State.siloPut_kept | apply State.modGran_kept
      | apply State.setFlag_kept | apply State.Kept.ite | intro _ | split

theorem State.shutDown_kept {q s a1} (hs : State.Kept q s) : State.Kept q (State.shutDown s a1) := by
  unfold State.shutDown
  try dsimp only
  with_reducible repeat' first
      | assumption | (apply State.Kept.forEach; intro _ _ _) | apply State.stopBeam_kept | apply State.granaryEvent_kept | apply State.fullReset_kept
      | apply State.Kept.ite | (refine State.Kept.upd ?_; first | assumption | apply State.stopBeam_kept | apply State.granaryEvent_kept)

theorem State.tThr_kept {q s} (hs : State.Kept q s) : State.Kept q (State.tThr s).1 := by
  unfold State.tThr
  try dsimp only
  with_reducible repeat' first | assumption | apply State.put_kept | apply State.Kept.ite | intro _ | split

theorem State.tThr_kept_eq {q s w t} (e : State.tThr s = (t, w)) (hs : State.Kept q s) : State.Kept q t := by
  have h : State.Kept q (State.tThr s).1 := State.tThr_kept hs
  rw [e] at h
  exact h

theorem State.loopCut_kept {q s} (hs : State.Kept q s) : State.Kept q (State.loopCut s) := by
  unfold State.loopCut
  try dsimp only
  with_reducible repeat' first
      | assumption | apply State.put_kept | (apply State.Kept.forEach; intro _ _ _) | apply State.setFlag_kept | apply State.loopEvent_kept
      | apply State.decideRates_kept | apply State.Kept.ite

theorem State.setStage_kept {q s a1} (hs : State.Kept q s) : State.Kept q (State.setStage s a1) := by
  unfold State.setStage
  try dsimp only
  with_reducible repeat' first
      | assumption | apply State.raise_kept | apply State.put_kept | apply State.decideRates_kept | apply State.searchAgain_kept
      | apply State.Kept.ite

theorem State.stageNext_kept {q s a1} (hs : State.Kept q s) : State.Kept q (State.stageNext s a1) := by
  unfold State.stageNext
  try dsimp only
  with_reducible repeat' first | assumption | apply State.setFlag_kept | apply State.setStage_kept | apply State.Kept.ite

theorem State.tempDecide_kept {q s a1} (hs : State.Kept q s) : State.Kept q (State.tempDecide s a1) := by
  unfold State.tempDecide
  try dsimp only
  with_reducible repeat' first
      | assumption | apply State.tThr_kept | (refine State.tThr_kept_eq (by assumption) ?_) | (apply State.Kept.forEach; intro _ _ _)
      | apply State.tempEvent_kept | apply State.modHk_kept | apply State.riseCrit_kept | apply State.loopCut_kept | apply State.stageNext_kept
      | apply State.bandNext_kept | apply State.Kept.ite

theorem State.supply_kept {q s a1 a2} (hs : State.Kept q s) : State.Kept q (State.supply s a1 a2) := by
  unfold State.supply
  try dsimp only
  with_reducible repeat' first | assumption | apply State.setFlag_kept | apply State.put_kept | apply State.raise_kept | apply State.Kept.ite

theorem State.supplies_kept {q s a1} (hs : State.Kept q s) : State.Kept q (State.supplies s a1) := by
  unfold State.supplies
  try dsimp only
  with_reducible repeat' first
      | assumption | (apply State.Kept.forEach; intro _ _ _) | apply State.supply_kept | apply State.modHk_kept | apply State.searchAgain_kept
      | apply State.resumeAll_kept | apply State.suspendAll_kept | apply State.Kept.ite
      | (refine State.Kept.upd ?_; first | assumption | apply State.supply_kept | apply State.modHk_kept)

theorem State.lightFault_kept {q s a1 a2} (hs : State.Kept q s) : State.Kept q (State.lightFault s a1 a2) := by
  unfold State.lightFault
  try dsimp only
  with_reducible repeat' first
      | assumption | apply State.modHk_kept | apply State.put_kept | apply State.raise_kept | apply State.setFlag_kept | apply State.inhibit_kept
      | apply State.Kept.ite

theorem State.lightCheck_kept {q s a1 a2} (hs : State.Kept q s) : State.Kept q (State.lightCheck s a1 a2) := by
  unfold State.lightCheck
  try dsimp only
  with_reducible repeat' first | assumption | apply State.lightFault_kept | apply State.put_kept | apply State.modHk_kept | apply State.Kept.ite

theorem State.lightNext_kept {q s a1} (hs : State.Kept q s) : State.Kept q (State.lightNext s a1) := by
  unfold State.lightNext
  try dsimp only
  with_reducible repeat' first
      | assumption | apply State.lightFault_kept | apply State.raise_kept | apply State.modHk_kept | apply State.lightCheck_kept
      | apply State.setFlag_kept | apply State.put_kept | apply State.Kept.ite

theorem State.lighting_kept {q s a1} (hs : State.Kept q s) : State.Kept q (State.lighting s a1) := by
  unfold State.lighting
  try dsimp only
  with_reducible repeat' first | assumption | (apply State.Kept.forEach; intro _ _ _) | apply State.lightCheck_kept | apply State.lightNext_kept

theorem State.ainNext_kept {q s a1 a2} (hs : State.Kept q s) : State.Kept q (State.ainNext s a1 a2) := by
  unfold State.ainNext
  try dsimp only
  with_reducible repeat' first
      | assumption | apply State.setFlag_kept | apply State.put_kept | apply State.raise_kept | apply State.Kept.ite | intro _ | split

theorem State.tsAll_kept {q r} : ∀ {l : List (Sensor × Bool)} {a : State × List (Nat × Sensor)}, State.Kept q a.1 →
    State.Kept q (l.foldl (fun a x =>
        let n := a.1.tsNext r x.2 x.1
        (n.1, if n.2 = 0 then a.2 else a.2 ++ [(n.2, x.1)])) a).1
  | [], _, h => h
  | x :: l, a, h => by
    rw [List.foldl_cons]
    exact State.tsAll_kept (l := l) (State.tsNext_kept h)

theorem execHkRoundEnd_kept {q a0 s} (hs : State.Kept q s) : OutKept q (execHkRoundEnd a0 s) := by
  unfold execHkRoundEnd
  apply OutKept.next
  refine State.Kept.ite ?_ hs
  dsimp only
  split
  · exact State.shutDown_kept (State.tsAll_kept hs)
  · exact State.lighting_kept (State.Kept.forEach (fun _ _ h => State.ainNext_kept h) (State.supplies_kept (State.tempDecide_kept (State.tsAll_kept hs))))

theorem execBeaconClr_kept {q a0 s} (hs : State.Kept q s) : OutKept q (execBeaconClr a0 s) := by
  unfold execBeaconClr
  try dsimp only
  with_reducible repeat' first | assumption | apply OutKept.next | apply State.beaconClear_kept | apply State.Kept.ite

theorem State.planesFix_kept {q s a1} (hs : State.Kept q s) : State.Kept q (State.planesFix s a1) := by
  unfold State.planesFix
  try dsimp only
  with_reducible repeat' first | assumption | (apply State.Kept.forEach; intro _ _ _) | apply State.siloFix_kept | apply State.Kept.ite

theorem State.frameBegin_kept {q s a1 a2} (hs : State.Kept q s) : State.Kept q (State.frameBegin s a1 a2) := by
  unfold State.frameBegin
  try dsimp only
  with_reducible repeat' first
      | assumption | apply State.put_kept | apply State.frameSet_kept | apply State.planesFix_kept | apply State.setFlag_kept
      | apply State.modDisp_kept | apply State.dispEvent_kept | apply State.Kept.ite | intro _ | split

theorem execDisplayFrameStart_kept {q a0 s} (hs : State.Kept q s) : OutKept q (execDisplayFrameStart a0 s) := by
  unfold execDisplayFrameStart
  try dsimp only
  with_reducible repeat' first
      | assumption | apply OutKept.next | apply State.blankDue_kept | apply State.frameBegin_kept | apply State.Kept.ite | intro _ | split

theorem execCommitLatch_kept {q a0 s} (hs : State.Kept q s) : OutKept q (execCommitLatch a0 s) := by
  unfold execCommitLatch
  try dsimp only
  with_reducible repeat' first
      | assumption | apply OutKept.next | apply State.modDisp_kept | apply State.dispEvent_kept | apply State.setFlag_kept | apply State.Kept.ite

theorem execLineUnderrun_kept {q a0 s} (hs : State.Kept q s) : OutKept q (execLineUnderrun a0 s) := by
  unfold execLineUnderrun
  try dsimp only
  with_reducible repeat' first
      | assumption | apply OutKept.next | apply State.modDisp_kept | apply State.count_kept | apply State.dispEvent_kept | apply State.Kept.ite

theorem State.pushBegin_kept {q s a1} (hs : State.Kept q s) : State.Kept q (State.pushBegin s a1) := by
  unfold State.pushBegin
  try dsimp only
  with_reducible repeat' first | assumption | apply State.planesFix_kept | apply State.modDisp_kept | apply State.send_kept | apply State.put_kept

theorem execTeEdge_kept {q a0 s} (hs : State.Kept q s) : OutKept q (execTeEdge a0 s) := by
  unfold execTeEdge
  try dsimp only
  with_reducible repeat' first | assumption | apply OutKept.next | apply State.modDisp_kept | apply State.pushBegin_kept | apply State.Kept.ite

theorem execTeMiss_kept {q a0 s} (hs : State.Kept q s) : OutKept q (execTeMiss a0 s) := by
  unfold execTeMiss
  try dsimp only
  with_reducible repeat' first
      | assumption | apply OutKept.next | apply State.modDisp_kept | apply State.dispEvent_kept | apply State.setFlag_kept
      | apply State.pushBegin_kept | apply State.Kept.ite

theorem execPushStart_kept {q a0 s} (hs : State.Kept q s) : OutKept q (execPushStart a0 s) := by
  unfold execPushStart
  try dsimp only
  with_reducible repeat' first | assumption | apply OutKept.next | apply State.pushBegin_kept | apply State.Kept.ite

theorem execPushComplete_kept {q a0 s} (hs : State.Kept q s) : OutKept q (execPushComplete a0 s) := by
  unfold execPushComplete
  try dsimp only
  with_reducible repeat' first
      | assumption | apply OutKept.next | apply State.setFlag_kept | apply State.put_kept | apply State.blankDue_kept | apply State.modDisp_kept
      | apply State.Kept.ite

theorem execCmdqSend_kept {q a0 s} (hs : State.Kept q s) : OutKept q (execCmdqSend a0 s) := by
  unfold execCmdqSend
  try dsimp only
  with_reducible repeat' first | assumption | apply OutKept.next | apply State.send_kept | apply State.modDisp_kept | apply State.Kept.ite

theorem execChStop_kept {q a0 a1 s} (hs : State.Kept q s) : OutKept q (execChStop a0 a1 s) := by
  unfold execChStop
  try dsimp only
  with_reducible repeat' first | assumption | apply OutKept.next | apply State.xkStop_kept

theorem execXkContinue_kept {q a0 s} (hs : State.Kept q s) : OutKept q (execXkContinue a0 s) := by
  unfold execXkContinue
  try dsimp only
  with_reducible repeat' first | assumption | apply OutKept.next | apply State.xkContinue_kept | apply State.Kept.ite

theorem execXkTick_kept {q s} (hs : State.Kept q s) : OutKept q (execXkTick s) := by
  unfold execXkTick
  try dsimp only
  with_reducible repeat' first
      | assumption | apply OutKept.next | apply State.xkRun_kept | apply State.Kept.ite | apply Eff.Kept.done | apply Eff.Kept.jump
      | apply Eff.Kept.hold | apply Eff.Kept.exc | apply Eff.Kept.stall | apply Eff.Kept.ite | (refine State.Kept.upd ?_; first | assumption)

theorem execXkWaitResume_kept {q a0 s} (hs : State.Kept q s) : OutKept q (execXkWaitResume a0 s) := by
  unfold execXkWaitResume
  try dsimp only
  with_reducible repeat' first | assumption | apply OutKept.next | apply State.xkCheck_kept

theorem execXkReturn_kept {q a0 a1 s} (hs : State.Kept q s) : OutKept q (execXkReturn a0 a1 s) := by
  unfold execXkReturn
  try dsimp only
  with_reducible repeat' first | assumption | apply OutKept.next | apply State.xkReturn_kept

theorem execXkLoop_kept {q a0 a1 s} (hs : State.Kept q s) : OutKept q (execXkLoop a0 a1 s) := by
  unfold execXkLoop
  try dsimp only
  with_reducible repeat' first | assumption | apply OutKept.next | apply State.xkLoop_kept

theorem execXkAgain_kept {q a0 a1 s} (hs : State.Kept q s) : OutKept q (execXkAgain a0 a1 s) := by
  unfold execXkAgain
  try dsimp only
  with_reducible repeat' first | assumption | apply OutKept.next | apply State.xkAgain_kept

theorem execXkIrq_kept {q a0 a1 s} (hs : State.Kept q s) : OutKept q (execXkIrq a0 a1 s) := by
  unfold execXkIrq
  try dsimp only
  with_reducible repeat' first | assumption | apply OutKept.next | apply State.xkIrq_kept

theorem execXkWaitAx_kept {q a0 a1 s} (hs : State.Kept q s) : OutKept q (execXkWaitAx a0 a1 s) := by
  unfold execXkWaitAx
  try dsimp only
  with_reducible repeat' first | assumption | apply OutKept.next | apply State.xkWaitAx_kept

theorem execXkSwap_kept {q a0 a1 s} (hs : State.Kept q s) : OutKept q (execXkSwap a0 a1 s) := by
  unfold execXkSwap
  try dsimp only
  with_reducible repeat' first | assumption | apply OutKept.next | apply State.xkSwap_kept

theorem execXkStroke_kept {q a0 a1 a2 a3 a4 s} (hs : State.Kept q s) : OutKept q (execXkStroke a0 a1 a2 a3 a4 s) := by
  unfold execXkStroke
  try dsimp only
  with_reducible repeat' first | assumption | apply OutKept.next | apply State.xkStroke_kept

theorem execXkFocus_kept {q a0 a1 s} (hs : State.Kept q s) : OutKept q (execXkFocus a0 a1 s) := by
  unfold execXkFocus
  try dsimp only
  with_reducible repeat' first | assumption | apply OutKept.next | apply State.xkFocus_kept

theorem execXkDwell_kept {q a0 a1 s} (hs : State.Kept q s) : OutKept q (execXkDwell a0 a1 s) := by
  unfold execXkDwell
  try dsimp only
  with_reducible repeat' first | assumption | apply OutKept.next | apply State.xkDwell_kept

theorem execXkLightOn_kept {q a0 a1 s} (hs : State.Kept q s) : OutKept q (execXkLightOn a0 a1 s) := by
  unfold execXkLightOn
  try dsimp only
  with_reducible repeat' first | assumption | apply OutKept.next | apply State.xkLightOn_kept

theorem execXkTravelRate_kept {q a0 a1 s} (hs : State.Kept q s) : OutKept q (execXkTravelRate a0 a1 s) := by
  unfold execXkTravelRate
  try dsimp only
  with_reducible repeat' first | assumption | apply OutKept.next | apply State.xkTravelRate_kept

theorem execXkStrokeRate_kept {q a0 a1 s} (hs : State.Kept q s) : OutKept q (execXkStrokeRate a0 a1 s) := by
  unfold execXkStrokeRate
  try dsimp only
  with_reducible repeat' first | assumption | apply OutKept.next | apply State.xkStrokeRate_kept

theorem execXkLightLag_kept {q a0 a1 s} (hs : State.Kept q s) : OutKept q (execXkLightLag a0 a1 s) := by
  unfold execXkLightLag
  try dsimp only
  with_reducible repeat' first | assumption | apply OutKept.next | apply State.xkLightLag_kept

theorem execXkStrokeSettle_kept {q a0 a1 s} (hs : State.Kept q s) : OutKept q (execXkStrokeSettle a0 a1 s) := by
  unfold execXkStrokeSettle
  try dsimp only
  with_reducible repeat' first | assumption | apply OutKept.next | apply State.xkStrokeSettle_kept

theorem execXkBendSettle_kept {q a0 a1 s} (hs : State.Kept q s) : OutKept q (execXkBendSettle a0 a1 s) := by
  unfold execXkBendSettle
  try dsimp only
  with_reducible repeat' first | assumption | apply OutKept.next | apply State.xkBendSettle_kept

theorem execXkPower_kept {q a0 a1 s} (hs : State.Kept q s) : OutKept q (execXkPower a0 a1 s) := by
  unfold execXkPower
  try dsimp only
  with_reducible repeat' first | assumption | apply OutKept.next | apply State.xkPowerCmd_kept

theorem execXkModWidth_kept {q a0 a1 s} (hs : State.Kept q s) : OutKept q (execXkModWidth a0 a1 s) := by
  unfold execXkModWidth
  try dsimp only
  with_reducible repeat' first | assumption | apply OutKept.next | apply State.xkPulse_kept

theorem execXkSyncPeriod_kept {q a0 a1 s} (hs : State.Kept q s) : OutKept q (execXkSyncPeriod a0 a1 s) := by
  unfold execXkSyncPeriod
  try dsimp only
  with_reducible repeat' first | assumption | apply OutKept.next | apply State.xkPulse_kept

theorem execXkSyncWidth_kept {q a0 a1 s} (hs : State.Kept q s) : OutKept q (execXkSyncWidth a0 a1 s) := by
  unfold execXkSyncWidth
  try dsimp only
  with_reducible repeat' first | assumption | apply OutKept.next | apply State.xkPulse_kept

theorem execXkAxAbs_kept {q a0 a1 a2 s} (hs : State.Kept q s) : OutKept q (execXkAxAbs a0 a1 a2 s) := by
  unfold execXkAxAbs
  try dsimp only
  with_reducible repeat' first | assumption | apply OutKept.next | apply State.xkAxAbs_kept

theorem execXkAxRel_kept {q a0 a1 a2 s} (hs : State.Kept q s) : OutKept q (execXkAxRel a0 a1 a2 s) := by
  unfold execXkAxRel
  try dsimp only
  with_reducible repeat' first | assumption | apply OutKept.next | apply State.xkAxRel_kept

theorem execXkAxSpeed_kept {q a0 a1 s} (hs : State.Kept q s) : OutKept q (execXkAxSpeed a0 a1 s) := by
  unfold execXkAxSpeed
  try dsimp only
  with_reducible repeat' first | assumption | apply OutKept.next | apply State.xkAxSpeed_kept

theorem execXkAxAccel_kept {q a0 a1 s} (hs : State.Kept q s) : OutKept q (execXkAxAccel a0 a1 s) := by
  unfold execXkAxAccel
  try dsimp only
  with_reducible repeat' first | assumption | apply OutKept.next | apply State.xkAxAccel_kept

theorem execXkAxHome_kept {q a0 a1 s} (hs : State.Kept q s) : OutKept q (execXkAxHome a0 a1 s) := by
  unfold execXkAxHome
  try dsimp only
  with_reducible repeat' first | assumption | apply OutKept.next | apply State.xkAxHome_kept

theorem execXkJnz_kept {q a0 a1 s} (hs : State.Kept q s) : OutKept q (execXkJnz a0 a1 s) := by
  unfold execXkJnz
  try dsimp only
  with_reducible repeat' first | assumption | apply OutKept.next | apply State.xkJnz_kept

theorem execXkDjnz_kept {q a0 a1 s} (hs : State.Kept q s) : OutKept q (execXkDjnz a0 a1 s) := by
  unfold execXkDjnz
  try dsimp only
  with_reducible repeat' first | assumption | apply OutKept.next | apply State.xkDjnz_kept

theorem State.xy2Send_kept {q s a1 a2} (hs : State.Kept q s) : State.Kept q (State.xy2Send s a1 a2) := by
  unfold State.xy2Send
  try dsimp only
  with_reducible repeat' first
      | assumption | apply State.xkSetpoint_kept | apply State.chHalt_kept
      | apply State.raise_kept | apply State.xy2Out_kept | apply State.put_kept | apply State.Kept.ite

theorem execXy2Frame_kept {q s} (hs : State.Kept q s) : OutKept q (execXy2Frame s) := by
  rw [execXy2Frame]
  apply OutKept.next
  generalize State.lastTickNs s = o
  cases o with
  | none => exact hs
  | some st => exact State.Kept.ite (State.Kept.forEach (fun _ _ h => State.xy2Send_kept h) (State.Kept.upd hs)) hs

theorem execListHiRead_kept {q a0 s} (hs : State.Kept q s) : OutKept q (execListHiRead a0 s) := by
  unfold execListHiRead
  try dsimp only
  with_reducible repeat' first | assumption | apply OutKept.next | apply State.listStep_kept | apply State.Kept.ite

theorem execCorrDataWrite_kept {q a0 a1 s} (hs : State.Kept q s) : OutKept q (execCorrDataWrite a0 a1 s) := by
  unfold execCorrDataWrite
  try dsimp only
  with_reducible repeat' first | assumption | apply OutKept.next | apply State.corrWrite_kept | apply State.Kept.ite

theorem execCorrDataRead_kept {q a0 s} (hs : State.Kept q s) : OutKept q (execCorrDataRead a0 s) := by
  unfold execCorrDataRead
  try dsimp only
  with_reducible repeat' first | assumption | apply OutKept.next | apply State.corrStep_kept | apply State.Kept.ite

theorem execXaxSpeedWrite_kept {q a0 a1 a2 s} (hs : State.Kept q s) : OutKept q (execXaxSpeedWrite a0 a1 a2 s) := by
  unfold execXaxSpeedWrite
  try dsimp only
  with_reducible repeat' first | assumption | apply OutKept.next | apply State.xkSpeed_kept | apply State.Kept.ite

theorem execXaxAccelWrite_kept {q a0 a1 a2 s} (hs : State.Kept q s) : OutKept q (execXaxAccelWrite a0 a1 a2 s) := by
  unfold execXaxAccelWrite
  try dsimp only
  with_reducible repeat' first | assumption | apply OutKept.next | apply State.xkAccel_kept | apply State.Kept.ite

theorem execPowerOn_kept {q s} (hs : State.Kept q s) : OutKept q (execPowerOn s) := by
  unfold execPowerOn
  refine OutKept.next (State.Kept.setReg (State.inReset_kept ?_))
  refine ⟨hs.1, hs.2.1, rfl, fun e => ?_⟩
  show ((Vector.replicate 21 ({} : Engine))[e]).Ok
  rw [Fin.getElem_fin, Vector.getElem_replicate]
  rfl

theorem execDeviceReset_kept {q a0 s} (hs : State.Kept q s) : OutKept q (execDeviceReset a0 s) := by
  unfold execDeviceReset
  try dsimp only
  with_reducible repeat' first | assumption | apply OutKept.next | apply State.fullReset_kept | apply State.denied_kept | apply State.Kept.ite

theorem execCoreReset_kept {q a0 s} (hs : State.Kept q s) : OutKept q (execCoreReset a0 s) := by
  unfold execCoreReset
  try dsimp only
  with_reducible repeat' first | assumption | apply OutKept.next | apply State.coreReset_kept | apply State.denied_kept | apply State.Kept.ite

theorem execResetEnd_kept {q a0 a1 s} (hs : State.Kept q s) : OutKept q (execResetEnd a0 a1 s) := by
  unfold execResetEnd
  try dsimp only
  with_reducible repeat' first
      | assumption | apply OutKept.next | apply State.put_kept | apply State.lanesReset_kept | apply State.setFlag_kept | apply State.zeroiseEnd_kept
      | apply State.modTime_kept | apply State.axKeyBack_kept | apply State.pfailFall_kept | apply State.Kept.ite | apply Eff.Kept.done
      | apply Eff.Kept.jump | apply Eff.Kept.hold | apply Eff.Kept.exc | apply Eff.Kept.stall | apply Eff.Kept.ite | apply State.Kept.setReg
      | (refine State.Kept.upd ?_; first | assumption | apply OutKept.next | apply State.put_kept | apply State.lanesReset_kept | apply State.setFlag_kept | apply State.zeroiseEnd_kept | apply State.modTime_kept | apply State.axKeyBack_kept | apply State.pfailFall_kept | apply State.Kept.ite | apply Eff.Kept.done | apply Eff.Kept.jump | apply Eff.Kept.hold | apply Eff.Kept.exc | apply Eff.Kept.stall | apply Eff.Kept.ite | apply State.Kept.setReg)

theorem State.bootPair_kept {q s a1 a2 a3 a4} (hs : State.Kept q s) : State.Kept q (State.bootPair s a1 a2 a3 a4) := by
  unfold State.bootPair
  refine State.Kept.ite ?_ hs
  generalize h : State.regWrite _ _ _ _ = o
  cases o with
  | none => exact hs
  | some t => exact State.regWrite_kept h (State.wakeReg_kept hs)

theorem State.bootSection_kept {q s a1 a2 a3} (hs : State.Kept q s) : State.Kept q (State.bootSection s a1 a2 a3) := by
  unfold State.bootSection
  try dsimp only
  with_reducible repeat' first
      | assumption | (refine State.modEng_kept ?_ fun x hx => ?_) | apply State.siloPut_kept | (apply State.Kept.forEach; intro _ _ _)
      | apply State.bootPair_kept | apply State.Kept.ite | intro _ | split | exact hx | apply Engine.Ok.upd | apply Engine.ite_ok | dsimp only
      | (refine Engine.Ok.mem ?_; rw [MemR.renew_cells]; exact MemR.wf_setBytes hx.wf)

theorem State.bootApply_kept {q s a1 a2} (hs : State.Kept q s) : State.Kept q (State.bootApply s a1 a2) := by
  unfold State.bootApply
  try dsimp only
  with_reducible repeat' first
      | assumption | apply State.siloFix_kept | (apply State.Kept.forEach; intro _ _ _) | apply State.bootSection_kept | apply State.engRun_kept
      | apply State.put_kept | apply State.setFlag_kept | apply State.Kept.ite
      | (refine State.Kept.upd ?_; first | assumption | apply State.siloFix_kept | apply State.bootSection_kept | apply State.engRun_kept | apply State.put_kept)

theorem execBootEnd_kept {q s} (hs : State.Kept q s) : OutKept q (execBootEnd s) := by
  unfold execBootEnd
  try dsimp only
  with_reducible repeat' first | assumption | apply OutKept.next | apply State.bootApply_kept | apply State.Kept.ite | intro _ | split

theorem execSysBootHostStart_kept {q a0 a1 s} (hs : State.Kept q s) : OutKept q (execSysBootHostStart a0 a1 s) := by
  unfold execSysBootHostStart
  try dsimp only
  with_reducible repeat' first | assumption | apply OutKept.next | apply State.bootHostWrite_kept | apply State.denied_kept | apply State.Kept.ite

theorem execRefclkRelock_kept {q s} (hs : State.Kept q s) : OutKept q (execRefclkRelock s) := by
  unfold execRefclkRelock
  try dsimp only
  with_reducible repeat' first | assumption | apply OutKept.next | apply State.locked_kept | apply State.Kept.ite

theorem execLossOfSync_kept {q a0 s} (hs : State.Kept q s) : OutKept q (execLossOfSync a0 s) := by
  unfold execLossOfSync
  try dsimp only
  with_reducible repeat' first | assumption | apply OutKept.next | apply State.trigger_kept | apply State.put_kept | apply State.Kept.ite

theorem execPcsSyncAcquired_kept {q a0 s} (hs : State.Kept q s) : OutKept q (execPcsSyncAcquired a0 s) := by
  unfold execPcsSyncAcquired
  try dsimp only
  with_reducible repeat' first
      | assumption | apply OutKept.next | apply State.modLane_kept | apply State.enterLane_kept | apply State.send_kept | apply State.enterUp_kept
      | apply State.Kept.ite

theorem execAnnounceReceiptTimeout_kept {q a0 s} (hs : State.Kept q s) : OutKept q (execAnnounceReceiptTimeout a0 s) := by
  unfold execAnnounceReceiptTimeout
  try dsimp only
  with_reducible repeat' first
      | assumption | apply OutKept.next | apply State.degradeCheck_kept | apply State.modDom_kept | apply State.domChanged_kept
      | apply State.bmca_kept | apply State.Kept.ite

end Sys2Proof.Machine
end

