-- ==== Sys2Proof/Laws/Memory.lean ====
section
/-! SUPPORT. Where an access of an engine falls, and what a load or store does there. -/

namespace Sys2Proof.Machine

variable {s : State} {e : Eng} {a n : Nat}

theorem localSize_le (e : Eng) : localSize e ≤ 0x80000 := by unfold localSize; split <;> decide

theorem placeOf_misaligned (h : a % n ≠ 0) : placeOf e a n = .none 0 := by unfold placeOf; rw [if_pos h]

theorem placeOf_local (h : a % n = 0) (hl : a < localSize e) : placeOf e a n = .loc a := by
  unfold placeOf
  rw [if_neg (by simp [h]), if_pos hl]

theorem placeOf_silo (h : a % n = 0) (h1 : 0x10000000 ≤ a) (h2 : a < 0x10000000 + siloSize) : placeOf e a n = .silo (a - 0x10000000) := by
  have := localSize_le e
  unfold placeOf
  rw [if_neg (by simp [h]), if_neg (by omega), if_pos ⟨h1, h2⟩]

theorem placeOf_reg (h : a % n = 0) (h1 : 0xF0000000 ≤ a) (h2 : a < 0xF0100000) :
    placeOf e a n = if n = 4 then .reg a else .none 2 := by
  have := localSize_le e
  have hs : siloSize = 0x6000000 := rfl
  unfold placeOf
  rw [if_neg (by simp [h]), if_neg (by omega), if_neg (by omega), if_pos ⟨h1, h2⟩]

theorem placeOf_unmapped (h : a % n = 0) (hl : localSize e ≤ a) (h1 : a < 0x10000000 ∨ 0x10000000 + siloSize ≤ a)
    (h2 : ¬ (0xF0000000 ≤ a ∧ a < 0xF0100000)) : placeOf e a n = .none 1 := by
  have hs : siloSize = 0x6000000 := rfl
  unfold placeOf
  rw [if_neg (by simp [h]), if_neg (by omega), if_neg (by omega), if_neg (show ¬ (regBase ≤ a ∧ a < 0xF0100000) from h2)]

/-! ## Loads -/

variable {k : Nat → Engine → Engine}

theorem State.loadData_none {d : Nat} (h : placeOf e a n = .none d) : s.loadData e a n k = .exc 3 d := by
  unfold State.loadData; rw [h]

theorem State.loadData_local {o : Nat} (h : placeOf e a n = .loc o) (hb : s.eng[e].mem.badIn o n = false) :
    s.loadData e a n k = .done ((s.localFix e o n).modEng e (k (s.eng[e].mem.read o n))) := by
  unfold State.loadData; rw [h]; simp only [hb]; rfl

theorem State.loadData_localBad {o : Nat} (h : placeOf e a n = .loc o) (hb : s.eng[e].mem.badIn o n = true) :
    s.loadData e a n k = .exc 4 0 := by
  unfold State.loadData; rw [h]; simp only [hb]; rfl

theorem State.loadData_silo {o : Nat} (h : placeOf e a n = .silo o) (hd : s.domainOn (domainOfSilo o) = true)
    (hb : s.silo.badIn o n = false) :
    s.loadData e a n k = .done (((s.touch (domainOfSilo o)).siloFix o n).modEng e (k (s.silo.read o n))) := by
  unfold State.loadData; rw [h]; simp only [hd, hb]; rfl

theorem State.loadData_siloBad {o : Nat} (h : placeOf e a n = .silo o) (hd : s.domainOn (domainOfSilo o) = true)
    (hb : s.silo.badIn o n = true) : s.loadData e a n k = .exc 4 2 := by
  unfold State.loadData; rw [h]; simp only [hd, hb]; rfl

/-! ## Stores -/

variable {len v : Nat}

theorem State.storeAt_none {d : Nat} (h : placeOf e a n = .none d) : s.storeAt e len a n v = .exc 3 d := by
  unfold State.storeAt; rw [h]

theorem State.storeAt_local {o : Nat} (h : placeOf e a n = .loc o) (hb : n = 8 ∨ s.eng[e].mem.badIn o n = false) :
    s.storeAt e len a n v =
      .done ((if n < 8 then s.localFix e o n else s).modEng e fun x => { x with mem := (x.mem.write o n v).renew o n }) := by
  unfold State.storeAt
  rw [h]
  dsimp only
  rw [if_neg]
  rintro ⟨h8, h9⟩
  rcases hb with hb | hb
  · omega
  · rw [hb] at h9; cases h9

theorem State.storeAt_silo {o : Nat} (h : placeOf e a n = .silo o) (hd : s.domainOn (domainOfSilo o) = true)
    (hb : n = 8 ∨ s.silo.badIn o n = false) :
    ∃ t, s.storeAt e len a n v = .done { t with silo := (t.silo.write o n v).renew o n } ∧
      t = if n < 8 then (s.touch (domainOfSilo o)).siloFix o n else s.touch (domainOfSilo o) := by
  unfold State.storeAt
  rw [h]
  dsimp only
  rw [if_neg (by simp [hd]), if_neg]
  · exact ⟨_, rfl, rfl⟩
  · rintro ⟨h8, h9⟩
    rcases hb with hb | hb
    · omega
    · rw [hb] at h9; cases h9

/-! ## Exceptions and completion of one instruction -/

variable {i : Instr} {body : State → Eff}

theorem State.Traps.of_exc {c d : Nat} (h : s.Ready e) (hb : body (s.awake e) = .exc c d) (hx : exec i s = .next (s.runEng e i len none body)) :
    s.Traps e i c d := by
  unfold State.Traps
  rw [hx, State.runEng_ready h]
  simp only [hb]

theorem State.Traps.of_field {c : Nat} {ill : Option Nat} (h : s.Ready e) (hi : ill = some c)
    (hx : exec i s = .next (s.runEng e i len ill body)) : s.Traps e i 1 c := by
  subst hi
  unfold State.Traps
  rw [hx, State.runEng_ready h]

theorem exec_done {t : State} (h : s.Ready e) (hb : body (s.awake e) = .done t) (hx : exec i s = .next (s.runEng e i len none body)) :
    exec i s = .next (t.modEng e fun x => { x with pc := s.eng[e].pc + BitVec.ofNat 32 len }) := by
  rw [hx, State.runEng_ready h]
  simp only [hb]

theorem exec_jump {t : State} {pc : Word} (h : s.Ready e) (hb : body (s.awake e) = .jump t pc)
    (hx : exec i s = .next (s.runEng e i len none body)) : exec i s = .next (t.modEng e fun x => { x with pc := pc }) := by
  rw [hx, State.runEng_ready h]
  simp only [hb]

theorem exec_hold {t : State} (h : s.Ready e) (hb : body (s.awake e) = .hold t) (hx : exec i s = .next (s.runEng e i len none body)) :
    exec i s = .next t := by
  rw [hx, State.runEng_ready h]
  simp only [hb]

/-- An instruction that changes its own engine only completes. -/
theorem State.Completes.of_runLocal {j : Instr} {f : Engine → Engine} {x : Engine} {ill : Option Nat} (h : s.Ready e)
    (he : exec i s = .next (s.runLocal e j n ill f)) (hi : ill = none)
    (hx : ({ f s.eng[e] with pc := s.eng[e].pc + BitVec.ofNat 32 n } : Engine) = { x with pc := s.eng[e].pc + BitVec.ofNat 32 n }) :
    s.Completes e i n x := by
  subst hi
  refine ⟨_, he.trans (congrArg _ (State.runLocal_ready h)), (State.OnlyEngine.awake.of_modEng).of_modEng, ?_⟩
  rw [State.modEng_eng, vmod_same, State.modEng_eng, vmod_same, State.awake_eng]
  exact hx

/-- One whose field is not zero, or names no register, traps. -/
theorem State.Traps.of_runLocal {j : Instr} {c : Nat} {f : Engine → Engine} {ill : Option Nat} (h : s.Ready e)
    (he : exec i s = .next (s.runLocal e j n ill f)) (hi : ill = some c) : s.Traps e i 1 c := by
  subst hi
  unfold State.Traps
  rw [he]
  unfold State.runLocal
  rw [State.runEng_ready h]

end Sys2Proof.Machine
end

