-- ==== Sys2Proof/Tests/Slice0.lean ====
section
/-! SUPPORT. Tests: ill-formed commands are refused, words of the spec decode to what they stand for, the spec's worked examples
come out as it prints them, and concrete states meet the hypotheses of the statements. -/

namespace Sys2Proof.Tests

set_option Elab.async false

open Sys2Proof Sys2Proof.Machine

/-! ## Well-formed commands: an ill-formed term for each check -/

/-- A PTP message of version 2 at the ends of its ranges. -/
def ptp : PtpMsg := ⟨0, 1, 0, 0, 0, 999999999, -(2 ^ 63), 0, true, 2, 0⟩

theorem test_wf_ptp : Instr.wf (.ptpSyncReceive 0 ptp) = true ∧ Instr.wf (.ptpSyncReceive 0 { ptp with version := 16 }) = false ∧
    Instr.wf (.ptpFollowUpReceive 0 { ptp with nsec := 1000000000 }) = false ∧
    Instr.wf (.ptpDelayReqReceive 0 { ptp with corr := -(2 ^ 63) - 1 }) = false ∧
    Instr.wf (.ptpDelayRespReceive 0 { ptp with version := 16 } 0) = false := by decide

theorem test_wf_announce : Instr.wf (.ptpAnnounceReceive 0 ⟨0, 0, 0, 0, 0, 0, 0, 0, 0, 0, 0, 16, 0⟩) = false ∧
    Instr.wf (.ptpAnnounceReceive 0 ⟨0, 0, 0, 0, 0, 0, 0, 0, 0, 0, 0, 15, 0⟩) = true := by decide

set_option maxRecDepth 10000 in
theorem test_wf_line : Instr.wf (.line 0 0 0 0 (List.replicate 265 0)) = false ∧ Instr.wf (.line 0 0 0 0 (List.replicate 264 0)) = true := by
  decide

theorem test_wf_eye : Instr.wf (.eyeScanDone [0]) = false := by decide

/-- A message of the fabric manager of a type and a length, its other octets of one value. -/
def fabMsg (type : Octet) (len : Nat) (v : Octet) : List Octet := type :: List.replicate (len - 1) v

set_option maxRecDepth 10000 in
theorem test_wf_payloads : Instr.wf (.positionPayload 0 (List.replicate 265 0)) = false ∧
    Instr.wf (.flSyncReceive 0 ⟨List.replicate 265 0, 0⟩) = false ∧ Instr.wf (.flDelayReqReceive 0 ⟨List.replicate 265 0, 0⟩) = false ∧
    Instr.wf (.flDelayRespReceive 0 ⟨List.replicate 265 0, 0⟩) = false ∧ Instr.wf (.flSyncReceive 0 ⟨List.replicate 264 0, 0⟩) = true := by
  decide

theorem test_wf_ordered_sets : Instr.wf (.tsReceive 0 ⟨List.replicate 14 0, false⟩) = false ∧
    Instr.wf (.tsReceive 0 ⟨List.replicate 15 0, false⟩) = true := by decide

set_option maxRecDepth 10000 in
theorem test_wf_fabric : Instr.wf (.lsaReceive 0 (fabMsg 0x41 64 9)) = false ∧ Instr.wf (.lsaReceive 0 (fabMsg 0x41 64 8)) = true ∧
    Instr.wf (.lsaReceive 0 (fabMsg 0x41 63 8)) = false ∧ Instr.wf (.helloReceive 0 (fabMsg 0x41 16 0) (List.replicate 16 0)) = false ∧
    Instr.wf (.keyRenewReceive ⟨1, fabMsg 0x42 95 0⟩) = false ∧ Instr.wf (.keyRenewAckReceive 1 (fabMsg 0x43 23 0)) = false ∧
    Instr.wf (.keyReleaseReceive 1 (fabMsg 0x44 17 0)) = false ∧ Instr.wf (.voteReceive 1 (fabMsg 0x46 16 0) (List.replicate 8 0)) = false ∧
    Instr.wf (.staleReceive 1 (fabMsg 0x46 24 0)) = false ∧ Instr.wf (.healthReceive 1 (fabMsg 0x47 16 0) (List.replicate 15 0)) = false ∧
    Instr.wf (.layerSchedReceive 1 (fabMsg 0x48 16 0) (List.replicate 16 0)) = false ∧ Instr.wf (.layerStateReceive 1 (fabMsg 0x49 16 0) 0 []) = false ∧
    Instr.wf (.layerGoReceive 1 (fabMsg 0x4B 16 0) (List.replicate 8 0)) = false ∧ Instr.wf (.layerIdleReceive 1 (fabMsg 0x4A 16 0) (List.replicate 8 0)) = false ∧
    Instr.wf (.layerAbortReceive 1 (fabMsg 0x4C 16 0) (List.replicate 9 0)) = false ∧ Instr.wf (.layerAbortReceive 1 (fabMsg 0x4C 16 0) (List.replicate 8 0)) = true := by decide

set_option maxRecDepth 10000 in
theorem test_wf_routed : Instr.wf (.routedFrame 0 0 0 (List.replicate 257 0)) = false ∧
    Instr.wf (.routedFrame 0 0 0 (List.replicate 256 0)) = true := by decide

/-- A sender on network port 0. -/
def host0 : VmpFrom := ⟨0, 0, 0, 0x0A000001#32, 5000, 0⟩
/-- A request of a type, with a body. -/
def req (type : Octet) (body : List Octet) : VmpMsg :=
  { type := type, flags := 0, session := 2, ring := 0, status := 0, seq := 5, xid := 0x100, len := BitVec.ofNat 16 body.length
    relay := 0, body := body, tag := [] }

theorem test_wf_vmp : Instr.wf (.keepalive host0 (req 5 [])) = true ∧
    Instr.wf (.vmpClose host0 { req 4 [] with tag := [0] }) = false ∧ Instr.wf (.discover host0 { req 1 [] with tag := [0] }) = false ∧
    Instr.wf (.openReq host0 { req 2 [] with tag := [0] }) = false ∧ Instr.wf (.auth host0 { req 3 [] with tag := [0] }) = false ∧
    Instr.wf (.keepalive host0 { req 5 [] with tag := [0] }) = false ∧ Instr.wf (.regRead host0 { req 0x10 [] with tag := [0] }) = false ∧
    Instr.wf (.regWrite host0 { req 0x11 [] with tag := [0] }) = false ∧
    Instr.wf (.siloWrite host0 { req 0x20 [] with tag := [0] }) = false ∧
    Instr.wf (.siloRead host0 { req 0x21 [] with tag := [0] }) = false ∧ Instr.wf (.ringPut host0 { req 0x30 [] with tag := [0] }) = false ∧
    Instr.wf (.ringAck host0 { req 0x32 [] with tag := [0] }) = false ∧
    Instr.wf (.granarySeal host0 { req 0x40 [] with tag := [0] }) = false ∧
    Instr.wf (.imageWrite host0 { req 0x40 [] with tag := [0] }) = false ∧
    Instr.wf (.winnowFull host0 { req 0x40 [] with tag := [0] }) = false ∧
    Instr.wf (.siloZeroise host0 { req 0x40 [] with tag := [0] }) = false ∧
    Instr.wf (.keyProv host0 { req 0x40 [] with tag := [0] }) = false := by decide

/-! ## Decoding: words written out from the encodings of R148-R199 and R621 -/

/-- A field core. -/
def fc : Eng := 16

/-- The program of the worked example of 04_engine_isa.md ("a pulse across the TS32 wrap"). -/
theorem test_decode_pulse_program :
    decodeEngine fc 0x10E01388 0 = .ok (.ori fc 7 0 (.imm 5000)) ∧ decodeEngine fc 0x00C43C00 0 = .ok (.add fc 6 4 7 true) ∧
    decodeEngine fc 0x0105000B 0 = .ok (.addc fc 8 5 0 false) ∧ decodeEngine fc 0x9C042813 0 = .ok (.sched fc 0 4 5 0x013#11) ∧
    decodeEngine fc 0x9C064003 0 = .ok (.sched fc 0 6 8 0x003#11) ∧ decodeEngine fc 0x98064000 0 = .ok (.waitt fc 0 6 8) ∧
    decodeEngine fc 0xA4000002 0 = .ok (.evsig fc 0 0 0 2#8) ∧ decodeEngine fc 0xAC000000 0 = .ok (.halt fc 0 0 0) := by decide

/-- The program of the worked example of 05_beam_instructions.md ("a two-line swath and its restart"). -/
theorem test_decode_swath_program :
    decodeEngine 0 0xFC801000 0x00989680 = .ok (.ori 0 4 0 (.lit 10000000#32)) ∧
    decodeEngine 0 0xFCE01000 0x0132B3A0 = .ok (.ori 0 7 0 (.lit 20100000#32)) ∧
    decodeEngine 0 0xE4400001 0 = .ok (.lease 0 2 0 0 1#11) ∧ decodeEngine 0 0xCC0003E8 0 = .ok (.speed 0 0 0 (.imm 1000)) ∧
    decodeEngine 0 0xD0008000 0 = .ok (.power 0 0 0 (.imm 0x8000)) ∧ decodeEngine 0 0xC4042800 0 = .ok (.jump 0 0 4 5 0#11) ∧
    decodeEngine 0 0xC0062800 0 = .ok (.mark 0 0 6 5 0#11) ∧ decodeEngine 0 0xF8000000 0 = .ok (.safe 0 0 0 0) ∧
    decodeEngine 0 0xF4000000 0 = .ok (.swend 0 0 0 0 0) := by decide

/-- Integer arithmetic (R155-R158): opcode, d, a, b, S and operation at their places. -/
theorem test_decode_integer :
    decodeEngine fc (0x00 * 2 ^ 26 + 1 * 2 ^ 21 + 2 * 2 ^ 16 + 3 * 2 ^ 11 + 12) 0 = .ok (.subb fc 1 2 3 false) ∧
    decodeEngine fc (0x00 * 2 ^ 26 + 31 * 2 ^ 21 + 30 * 2 ^ 16 + 29 * 2 ^ 11 + 0x400 + 23) 0 = .ok (.remu fc 31 30 29 true) ∧
    decodeEngine fc (0x01 * 2 ^ 26 + 4 * 2 ^ 21 + 5 * 2 ^ 16 + 6 * 2 ^ 11 + 2) 0 = .ok (.sra fc 4 5 (.reg 6) false) ∧
    decodeEngine fc (0x09 * 2 ^ 26 + 4 * 2 ^ 21 + 5 * 2 ^ 16 + 31 * 2 ^ 11 + 0x400 + 3) 0 = .ok (.ror fc 4 5 (.imm 31) true) ∧
    decodeEngine fc (0x06 * 2 ^ 26 + 9 * 2 ^ 21 + 0x8000) 0 = .ok (.lui fc 9 0 (.imm 0x8000)) ∧
    decodeEngine fc (0x3F * 2 ^ 26 + 9 * 2 ^ 21 + 1 * 2 ^ 16 + 0x07 * 2 ^ 10) 0xFFFFFFFF = .ok (.slti fc 9 1 (.lit 0xFFFFFFFF#32)) ∧
    decodeEngine fc (0x0A * 2 ^ 26 + 3 * 2 ^ 16 + 0xFFFF) 0 = .ok (.cmpi fc 0 3 (.imm 0xFFFF)) ∧
    decodeEngine fc 13 0 = .error 0 := by decide

/-- Q15, memory and atomic words (R159-R166). -/
theorem test_decode_q15_and_memory :
    decodeEngine fc (0x0C * 2 ^ 26 + 7 * 2 ^ 21 + 1 * 2 ^ 16 + 2 * 2 ^ 11) 0 = .ok (.macq fc 7 1 2) ∧
    decodeEngine fc (0x0C * 2 ^ 26 + 7 * 2 ^ 21 + 0 * 2 ^ 16 + 4) 0 = .ok (.rndq fc 7 0 0) ∧
    decodeEngine fc (0x0D * 2 ^ 26 + 3 * 2 ^ 21 + 4 * 2 ^ 16 + 5 * 2 ^ 11 + 2) 0 = .ok (.wra fc 3 4 5) ∧
    decodeEngine fc (0x10 * 2 ^ 26 + 3 * 2 ^ 21 + 4 * 2 ^ 16 + 0xFFFC) 0 = .ok (.lw fc 3 4 (.imm 0xFFFC)) ∧
    decodeEngine fc (0x19 * 2 ^ 26 + 2 * 2 ^ 21 + 4 * 2 ^ 16 + 8) 0 = .ok (.sd fc 2 4 (.imm 8)) ∧
    decodeEngine fc (0x1A * 2 ^ 26 + 2 * 2 ^ 21 + 4 * 2 ^ 16 + 5 * 2 ^ 11 + 2) 0 = .ok (.atomCas fc 2 4 5) ∧
    decodeEngine fc (0x1B * 2 ^ 26) 0 = .ok (.fence fc) ∧ decodeEngine fc (0x22 * 2 ^ 26 + 2) 0 = .error 0 := by decide

/-- Control flow, special registers, waits and events (R167-R175, R183). -/
theorem test_decode_control :
    decodeEngine fc (0x20 * 2 ^ 26 + 14 * 2 ^ 22 + 0x3FFFFF) 0 = .ok (.b fc 14 0x3FFFFF#22) ∧
    decodeEngine fc (0x21 * 2 ^ 26 + 1 * 2 ^ 22 + 2) 0 = .ok (.call fc 1 2#22) ∧
    decodeEngine fc (0x22 * 2 ^ 26 + 31 * 2 ^ 16) 0 = .ok (.jr fc 31) ∧
    decodeEngine fc (0x22 * 2 ^ 26 + 5 * 2 ^ 21 + 31 * 2 ^ 16 + 1) 0 = .ok (.jalr fc 5 31) ∧
    decodeEngine fc (0x23 * 2 ^ 26) 0 = .ok (.eret fc 0 0 0 0) ∧ decodeEngine fc (0x24 * 2 ^ 26 + 6 * 2 ^ 21 + 4 * 2 ^ 16) 0 = .ok (.mfs fc 6 4 0 0) ∧
    decodeEngine fc (0x25 * 2 ^ 26 + 1 * 2 ^ 21 + 4 * 2 ^ 16) 0 = .ok (.mts fc 1 4 0 0) ∧
    decodeEngine fc (0x29 * 2 ^ 26 + 3 * 2 ^ 21 + 4 * 2 ^ 16 + 5 * 2 ^ 11 + 0x101) 0 = .ok (.waite fc 3 4 5 1#8) ∧
    decodeEngine fc (0x2B * 2 ^ 26 + 1) 0 = .ok (.wdog fc 0 0 0) := by decide

/-- Rings, the bed map, beam instructions (R173, R176, R198, R199), and the reserved opcodes of R154. -/
theorem test_decode_rings_and_beam :
    decodeEngine fc (0x28 * 2 ^ 26 + 3 * 2 ^ 21 + 4 * 2 ^ 16 + 5 * 2 ^ 11 + 1) 0 = .ok (.rget fc 3 4 5) ∧
    decodeEngine fc (0x2A * 2 ^ 26 + 3 * 2 ^ 21 + 4 * 2 ^ 16 + 5 * 2 ^ 11 + 4) 0 = .ok (.bmidx fc 3 4 5) ∧
    decodeEngine 15 (0x32 * 2 ^ 26 + 3 * 2 ^ 21 + 4 * 2 ^ 16 + 5 * 2 ^ 11 + 1) 0 = .ok (.arc 15 3 4 5 1#11) ∧
    decodeEngine 15 (0x3F * 2 ^ 26 + 2 * 2 ^ 21 + 4 * 2 ^ 16 + 0x35 * 2 ^ 10) 7 = .ok (.delay 15 2 4 (.lit 7)) ∧
    decodeEngine fc (0x0E * 2 ^ 26) 0 = .error 0 ∧ decodeEngine fc (0x2F * 2 ^ 26) 0 = .error 0 := by decide

/-- XK words (R621): those of the worked example of 17_xk_personality.md, and words of each kind. -/
theorem test_decode_xk :
    decodeXk 0 0x21019000#32 0 = some (.xkStrokeRate 0 102400#24) ∧ decodeXk 0 0x22000019#32 0 = some (.xkLightLead 0 25#24) ∧
    decodeXk 0 0x23000023#32 0 = some (.xkLightLag 0 35#24) ∧ decodeXk 0 0x25000005#32 0 = some (.xkStrokeSettle 0 5#24) ∧
    decodeXk 0 0x12008BB8#32 0x8FA0#32 = some (.xkStroke 0 true false 0x8BB8#24 0x8FA0#32) ∧
    decodeXk 3 0x15000001#32 7 = some (.xkCurve 3 true 1#24 7) ∧ decodeXk 3 0x30000001#32 9 = some (.xkAxAbs 3 1#24 9) ∧
    decodeXk 3 0x3C050010#32 0 = some (.xkDjnz 3 0x50010#24) ∧ decodeXk 3 0xFF000000#32 0 = none := by decide

/-! ## The worked examples of the spec -/

/-- The engine that a command leaves, or none where it does not answer a next state. -/
def engAfter (i : Instr) (s : State) (e : Eng) : Option Engine := match exec i s with
  | .next t => some t.eng[e]
  | _ => none

/-- Field core 16 runs, from state s, with its registers as f makes them. -/
def onCore (f : Engine → Engine) : State :=
  ((State.reset.setFlag (F.SYS_ENG_CTRL_RUN 16) true).setFlag (F.SYS_ENG_CTRL_HALTED 16) false).modEng 16 f

/-- 02_bed_and_swaths.md, "locating a plot". -/
theorem test_plot_example : State.reset.plotX 12345600 = 268 ∧ State.reset.plotY (-500000) = 255 ∧ State.reset.plotIdx 268 255 = 130828 := by
  decide

/-- 02_bed_and_swaths.md, "decay by look-up". -/
theorem test_decay_example : decayed 2000 40000 10000 13000 = 14143 := by decide +kernel

/-- 03_time.md, "a read across the wrap". -/
theorem test_wrap_example :
    (match exec .ts32Wrap { State.reset with time := { State.reset.time with running := true, ts32 := 0xFFFFFFFF#32, ext := 0x11#32 } } with
      | .next t => some (t.nowHi, t.flag F.TIME_STATUS_PEND_WRAP)
      | _ => none) = some (0x12#32, true) := by decide

/-- 04_engine_isa.md, "a pulse across the TS32 wrap": add.s and addc. -/
theorem test_adds_example :
    (engAfter (.add 16 6 4 7 true) (onCore fun x => (x.setG 4 0xFFFFF000#32).setG 7 0x1388#32) 16).map (fun x => (x.rd 6, x.flags.c)) =
      some (0x388#32, true) ∧
    (engAfter (.addc 16 8 5 0 false) (onCore fun x => { x.setG 5 0x12#32 with flags := { x.flags with c := true } }) 16).map (·.rd 8) =
      some 0x13#32 := by decide

/-- 04_engine_isa.md, "a three-term sum in Q15": its last product and both roundings, and the saturation of RNDQ. -/
theorem test_q15_example :
    let acc (v : BitVec 40) : State := onCore fun x => { (x.setG 5 128).setG 6 128 with acc := x.acc.set 0 v }
    (engAfter (.macq 16 0 5 6) (acc 0x0010000000#40) 16).map (fun x => x.acc[(0 : Fin 8)]) = some 0x0010004000#40 ∧
    (engAfter (.rndq 16 7 0 0) (acc 0x0010004000#40) 16).map (fun x => (x.rd 7, x.flags.v)) = some (0x2000#32, false) ∧
    (engAfter (.rndq 16 7 0 0) (acc 0x001000C000#40) 16).map (fun x => (x.rd 7, x.flags.v)) = some (0x2002#32, false) ∧
    (engAfter (.rndq 16 7 0 0) (acc 0x0040000000#40) 16).map (fun x => (x.rd 7, x.flags.v)) = some (0x7FFF#32, true) := by decide

/-- 04_engine_isa.md R156, R157: the corners of division, and shifts by 0 and by 31. -/
theorem test_division_and_shifts :
    let two (p q : Word) : State := onCore fun x => (x.setG 1 p).setG 2 q
    (engAfter (.div 16 3 1 2 false) (two 0x80000000#32 0xFFFFFFFF#32) 16).map (fun x => (x.rd 3, x.flags.v)) = some (0x80000000#32, true) ∧
    (engAfter (.rem 16 3 1 2 true) (two 7 0) 16).map (fun x => (x.rd 3, x.flags.v)) = some (7#32, true) ∧
    (engAfter (.rem 16 3 1 2 false) (two 0xFFFFFFF9#32 2) 16).map (fun x => (x.rd 3, x.flags.v)) = some (0xFFFFFFFF#32, false) ∧
    (engAfter (.sll 16 3 1 (.imm 0) true) (two 0x80000000#32 0) 16).map (fun x => (x.rd 3, x.flags.c)) = some (0x80000000#32, false) ∧
    (engAfter (.srl 16 3 1 (.reg 2) true) (two 0xC0000000#32 63) 16).map (fun x => (x.rd 3, x.flags.c)) = some (1#32, true) := by decide

/-- R163, R150: LD of an odd register is an illegal instruction with DETAIL 2, and an engine without a vector faults. -/
theorem test_ld_odd : (match exec (.ld 16 3 0 (.imm 0)) (onCore id) with
    | .next t => some (t.flag (F.SYS_ENG_CTRL_FAULT 16), t.get (F.SYS_ENG_CTRL_FCAUSE 16), t.eng[(16 : Eng)].ecause)
    | _ => none) = some (true, 1, 0x00020011#32) := by decide

/-! ### 06_trajectory_heads.md, "a corner laid out in time" -/

/-- The settings of the example. -/
def cornerSet : Settings := { markSpeed := 1000 * 65536, jumpSpeed := 5000 * 65536, onDelay := 60000, offDelay := 90000
                              jumpDelay := 50000, markDelay := 100000, polyDelay := 20000, power := 0x4000 }
/-- Beam 6 before its first element, its stream at layer time 2,000 µs, 500 µs ahead. -/
def corner0 : State :=
  let s := ({ State.reset with time := { State.reset.time with ts32 := 1500000, running := true } }).setFlag F.TIME_STATUS_EXT_VALID true
  let s := (s.put (F.BEAM_XFORM_A11_A11 6) 0x06666666).put (F.BEAM_XFORM_A22_A22 6) 0x06666666
  (s.modBeam 6 fun x => { x with set := cornerSet }).modTraj 6 fun j => { j with stream := 16000000, handed := true }
/-- A mark of beam 6 handed over. -/
def cornerMark (s : State) (x y : Int) : State :=
  (s.handMark 6 (s.markSeg 6 .mark x y 0 none) false).modBeam 6 fun p => { p with x := x, y := y }
/-- A jump of beam 6 handed over. -/
def cornerJump (s : State) (x y : Int) : State :=
  (s.handJump 6 (x * fxOne) (y * fxOne) 0 cornerSet).modBeam 6 fun p => { p with x := x, y := y }
/-- The whole program. -/
def corner : State := cornerJump (cornerMark (cornerMark (cornerJump corner0 1000000 0) 1500000 0) 1500000 200000) 0 0

set_option maxRecDepth 1000000 in
/-- Ends of the elements in µs × 8000, and the stream time S at the end. -/
theorem test_corner_path : corner.beam[(6 : Fin 16)].traj.path.map (fun g => (g.t0, g.t1)) =
    [(16000000, 17600000), (17600000, 18000000), (18000000, 22000000), (22000000, 22160000), (22160000, 23760000),
      (23760000, 24560000), (24560000, 26981240), (26981240, 27381240)] ∧ corner.beam[(6 : Fin 16)].traj.stream = 27381240 := by
  decide +kernel

set_option maxRecDepth 1000000 in
/-- GATE rises at 2,310 µs and falls at 3,060 µs; the set-point of 2,310 µs is 26,500. -/
theorem test_corner_gate_and_setpoint :
    (corner.beam[(6 : Fin 16)].traj.pend.filter fun x => decide (x.1 = cellGate 6)).map (fun x => (x.2.et, x.2.what)) =
      [(18480000, .level true), (24480000, .level false)] ∧ (corner.setpointAt 6 18480000).1 = (26500, 0, 0) := by
  decide +kernel

/-! ### 07, 08, 10, 15, 17 -/

/-- 07_field_arbiter.md, "one window, two requests": the stencil's widest rows, and the sets of requests A and B. -/
theorem test_stencil_example :
    let s := ((State.reset.put F.ARB_PLUME_CFG_HALF 0x1555).put F.ARB_PLUME_CFG_REACH 5000).put F.ARB_SEP_RADIUS_RADIUS 1500
    ((List.range 7).map fun dx => (List.range 7).filter fun dy => s.inStencil dx dy) = [[], [0], [0, 1], [0, 1], [0, 1, 2], [0], []] ∧
    s.plotsOf ⟨20000000, 1000000, 23000000, 3000000⟩ = ⟨276, 257, 279, 259⟩ ∧
    s.dilate ⟨276, 257, 279, 259⟩ s.sepR = ⟨274, 255, 281, 261⟩ ∧ s.plotsOf ⟨18000000, 2000000, 18900000, 2900000⟩ = ⟨274, 258, 274, 258⟩ := by
  decide +kernel

/-- 08_loop_engine.md, "one sample in Q15": C0, T0 and C2 of the program. -/
theorem test_loop_example :
    let g : GainEnt := ⟨0, 0, [0x3000, 0, 0x6000, 0x4000, 0, 0, 0, 0, 0x2000, 0x0400, 0x0000, 0x7FFF, 0, 0, 0, 0]⟩
    let r : Vector Int 32 := ((((Vector.replicate 32 0).set 8 0x3000).set 10 0x6000).set 11 0x4000).set 3 0x4E20
    let x := LoopRun.run { r := r.set 0 0x2C00, st := (Vector.replicate 16 0).set 0 0x0020000000#40 } g (Vector.replicate 8 true) 5
      (fun _ _ => none) 0 [0x51840008#32, 0x15058C03#32, 0x25A54001#32]
    x.get 24 = 0x4100 ∧ x.get 16 = 0x2710 ∧ x.get 26 = 0x38F0 := by decide +kernel

/-- 10_motion_axes.md, "a new acceleration in mid-deceleration": the first plan, and the plan after the new ACCEL. -/
theorem test_axis_example :
    let s : Int := axSec
    (planMove 0 0 0 (2000 * 256 * axUnit) (axSpeed 0x0FA00000) (8000 * 256)).map (fun p => (p.t0, p.t1)) =
      [(0, some (s / 2)), (s / 2, some s)] ∧
    (planLate (7 * s / 10) (1640 * 256 * axUnit) (2400 * 256 * axUnit) (2000 * 256 * axUnit) (10000 * 256)).map (fun p => (p.t0, p.t1)) =
      [(7 * s / 10, some (73 * s / 100)), (73 * s / 100, some (97 * s / 100))] := by decide +kernel

/-- 15_housekeeping_lighting.md, "compensation meets the knee": L_eff and the mode of both levels. -/
theorem test_light_example :
    let s (level : Nat) : State := ((((((State.reset.put (F.LT_COMP_COEF 2) 0x148).put (F.LT_CFG_KNEE 2) 40).put (F.LT_CFG_SPAN 2) 40).put
      (F.LT_CFG_COMP_EN 2) 1).put (F.LT_CFG_DER_EN 2) 1).put (F.HK_AIN_TEMP (State.reset.get (F.LT_CFG_AIN 2))) (45 * 256)).put
        (F.LT_LEVEL_LEVEL 2) level
    ((s 2048).lightNext 2).get (F.LT_STAT_L_EFF 2) = 1971 ∧ ((s 2048).lightNext 2).flag (F.LT_STAT_PULSED 2) = false ∧
    ((s 400).lightNext 2).get (F.LT_STAT_L_EFF 2) = 385 ∧ ((s 400).lightNext 2).flag (F.LT_STAT_PULSED 2) = true := by decide +kernel

/-- 17_xk_personality.md, "one mark in both modes": gate edges and the next element, from the tick at which the mark begins. -/
theorem test_xk_example :
    let s (emu : Bool) : State := ((({ State.reset with time := { State.reset.time with ts32 := 0, running := true } }).setFlag
      F.TIME_STATUS_EXT_VALID true).put F.XK_CFG_PERS 1).setFlag F.XK_CTRL_TICK_EMU emu
    let t (emu : Bool) : State := (((s emu).modChan 0 fun c => { c with
      outT := 80000000, strokeRate := 102400, lead := 25, lag := 35, strokeSettle := 5 }).xkLit 0 0x8BB8 0x8FA0 5000 none).xkEndSeq 0
    let gate (emu : Bool) := ((t emu).beam[(0 : Fin 16)].traj.pend.filter fun x => decide (x.1 = cellGate 0)).map (fun x => (x.2.et - 80000000) / 8000)
    gate true = [30, 170] ∧ (t true).xk.chan[(0 : Fin 4)].outT = 80000000 + 180 * 8000 ∧
    gate false = [25, 160] ∧ (t false).xk.chan[(0 : Fin 4)].outT = 80000000 + 175 * 8000 := by decide +kernel

/-! ## Witnesses: states and operands that meet the hypotheses of the statements, clause by clause -/

/-- Engine e runs in s. -/
def runs (e : Fin 20) (s : State) : State := (s.setFlag (F.SYS_ENG_CTRL_RUN e.val) true).setFlag (F.SYS_ENG_CTRL_HALTED e.val) false
/-- Out of reset: the supervisor pair runs. -/
def up : State := { State.reset with time := { State.reset.time with supDown := false, running := true }, boot := { State.reset.boot with cause := 0 } }
/-- The same with a valid time of some milliseconds. -/
def timed : State :=
  (({ up with time := { up.time with ts32 := 5000000, extWritten := true, lockedSince := some 0, resumeOwed := false } }).setFlag F.TIME_STATUS_EXT_VALID
    true).setFlag F.TIME_STATUS_LOCKED true
/-- Field core 16 with g1 = v. -/
def core1 (v : Nat) : State := (runs 16 timed).modEng 16 fun x => x.setG 1 (BitVec.ofNat 32 v)

theorem witness_register_zero : (1 : GReg) ≠ 0 ∧ (2 : GReg) ≠ 1 := by decide

/-- A field core, a beam engine and the supervisor pair execute (every statement with `Ready`). -/
theorem witness_ready : (core1 0).Ready 16 ∧ (runs 0 timed).Ready 0 ∧ up.Ready 20 ∧ (runs 15 timed).BeamReady 15 15 := by
  unfold State.BeamReady State.Ready; decide

theorem canon_of (s : State) (h : tabWf regDefault s.regs = true ∧ Mem.wf s.silo.cells = true ∧
    (∀ e : Eng, Mem.wf s.eng[e].mem.cells = true)) : s.Canon := h

theorem witness_canon : (core1 0).Canon ∧ up.Canon ∧ timed.Canon := by
  refine ⟨canon_of _ ?_, canon_of _ ?_, canon_of _ ?_⟩ <;> decide

/-- LoadsComplete, StoresComplete: the last local word and the last Silo word, a misaligned address, uncorrectable words. -/
theorem witness_memory :
    (∀ n ∈ [1, 2, 4, 8], let p := localSize 16 - n
      ((core1 p).eng[(16 : Eng)].rd 1).toNat = p ∧ p % n = 0 ∧ p < localSize 16 ∧ (core1 p).eng[(16 : Eng)].mem.badIn p n = false) ∧
    (∀ n ∈ [1, 2, 4, 8], let p := 0x10000000 + siloSize - n
      p % n = 0 ∧ 0x10000000 ≤ p ∧ p < 0x10000000 + siloSize ∧ (core1 p).domainOn (domainOfSilo (p - 0x10000000)) = true ∧
        (core1 p).silo.badIn (p - 0x10000000) n = false) ∧
    (∀ n ∈ [2, 4, 8], 1 % n ≠ 0) ∧
    (let s := (core1 8).modEng 16 fun x => { x with mem := { x.mem with bad := [1] } }
     s.eng[(16 : Eng)].mem.badIn 8 4 = true) ∧
    (let s := { core1 0x10000000 with silo := { bad := [0] } }
     s.silo.badIn 0 4 = true ∧ s.domainOn (domainOfSilo 0) = true) := by decide +kernel

/-- RegisterAccessByEngine: a register that the view may access, one that it may not, and an address of no memory. -/
theorem witness_register_access :
    (let p := R.SYS_DEVICE_ID
     0xF0000000 ≤ p ∧ p < 0xF0100000 ∧ p % 4 = 0 ∧ regDenied p ((core1 p).engPriv 16) = false ∧ (core1 p).regReady p = true) ∧
    (let p := R.ARB_RETIRED
     0xF0000000 ≤ p ∧ p < 0xF0100000 ∧ p % 4 = 0 ∧ regDenied p true = false ∧ (core1 p).domainOfReg p = some domArb ∧
       (core1 p).regReady p = true) ∧
    (let p := R.SYS_RESET
     0xF0000000 ≤ p ∧ p < 0xF0100000 ∧ p % 4 = 0 ∧ regDenied p ((core1 p).engPriv 16) = true) ∧
    (let p := localSize 16
     localSize 16 ≤ p ∧ p < 0x10000000 ∧ p % 4 = 0) ∧ localSize 16 ≤ 0x10000000 + siloSize ∧ (0x10000000 + siloSize) % 4 = 0 := by
  decide +kernel

/-- BranchAndCallComplete, RegisterJumpsComplete, EretCompletes: a condition that holds and one that does not, targets, and a
handler of a swath that awaits restart. -/
theorem witness_control :
    (core1 0).eng[(16 : Eng)].flags.holds 14 = true ∧ (core1 0).eng[(16 : Eng)].flags.holds 0 = false ∧
    ((core1 4).eng[(16 : Eng)].rd 1).toNat % 4 = 0 ∧ ((core1 2).eng[(16 : Eng)].rd 1).toNat % 4 ≠ 0 ∧ (core1 0).eretEnds 16 = none ∧
    (State.eretEnds ((runs 0 timed).modBeam 0 fun x => { x with eretEnds := true }) 0) = some 0 := by decide +kernel

/-- TimedWaitsComplete, EventAndSchedInstructionsComplete: a refused time, one just reached and one just ahead; latched events;
an input cell and an output cell, an edge within and beyond L_eff. -/
theorem witness_times :
    up.timeRefused 2147483648 = true ∧ up.timeRefused 2147483647 = false ∧ timed.timeRefused (2 ^ 63) = false ∧
    timed.reached timed.now = true ∧ timed.reached (timed.now + 1 : Nat) = false ∧
    (let s := timed.setFlag (F.TIME_GCELL_CFG_DIR 3) true
     s.cellOut (schedCell 0x013#11) = false) ∧ timed.cellOut (schedCell 0x013#11) = true ∧ timed.cellRoom (schedCell 0x013#11) = true ∧
    timed.flag F.TIME_STATUS_EXT_VALID = true ∧
    (let et (T frac : Nat) : Int := timed.nowEt + sgn 64 (wrap 64 (8 * (T : Int) + frac - timed.nowEt))
     let far (T frac : Nat) : Prop := ((timed.leff * 8000 : Nat) : Int) < sgn 67 (wrap 67 (et T frac - timed.nowEt))
     ¬far (timed.now + timed.leff * 1000) 0 ∧ far (timed.now + timed.leff * 1000) 1) := by decide +kernel

/-- TimedWaitsComplete: a wait of a running engine whose instant is reached, with and without an event. -/
theorem witness_wait_resume :
    let s := (runs 16 timed).modEng 16 fun x => { x with wait := some (.until 5000000#64 false false 0) }
    let t := (runs 16 timed).modEng 16 fun x => { x with wait := some (.until 5000001#64 true false 3), latch := [170] }
    let u := (runs 16 timed).modEng 16 fun x => { x with wait := some (.event 3), latch := [170, 20] }
    s.engLive 16 = true ∧ s.engHeld 16 = false ∧ (∀ d, domainOfEng 16 = some d → s.domainOn d = true) ∧ s.reached 5000000 = true ∧
    t.engLive 16 = true ∧ t.engHeld 16 = false ∧ t.eng[(16 : Eng)].latch ≠ [] ∧ u.eng[(16 : Eng)].latch.min? = some 20 := by decide +kernel

/-- RingAndBedMapInstructionsComplete: host rings that take and give a descriptor or refuse, and plots. -/
theorem witness_rings_and_bed :
    let put := (((core1 0x10000000).put (F.HOST_HRING_CFG_KIND 0) 1).setFlag (F.HOST_RING_CFG_ENABLE 0) true).put (F.HOST_RING_BASE_BASE 0) 8
    let get := ((((core1 0x10000000).put (F.HOST_HRING_CFG_KIND 0) 0).setFlag (F.HOST_RING_CFG_ENABLE 0) true).put (F.HOST_RING_BASE_BASE 0) 8).put (F.HOST_RING_TAIL_SLOT 0) 1
    0x10000000 % 32 = 0 ∧ put.rputStatus 0 = 0 ∧ (core1 0).rputStatus 0 = 4 ∧ put.domainOn (domainOfSilo 0) = true ∧
    put.silo.badIn 0 32 = false ∧ get.rgetStatus 0 = 0 ∧ put.rgetStatus 0 = 4 ∧ (core1 0).rputStatus 52 = 5 ∧
    put.domainOn (domainOfSilo (put.slotAddr 0 (put.get (F.HOST_RING_TAIL_SLOT 0)))) = true ∧
    get.domainOn (domainOfSilo (get.slotAddr 0 (get.get (F.HOST_RING_HEAD_SLOT 0)))) = true ∧ get.domainOn (domainOfSilo 0) = true ∧
    get.silo.badIn (get.slotAddr 0 (get.get (F.HOST_RING_HEAD_SLOT 0))) 32 = false ∧ get.domainOn domArb = true ∧ get.bedBusy = false ∧
    get.nx * get.ny = 262144 ∧ get.bed.bad.contains 262143 = false ∧ (get.plot 262143).owner = 31 ∧
    ((get.setPlot 5 { get.plot 5 with owner := 3 }).plot 5).owner ≠ 31 ∧ get.onMap (get.plotX 0) (get.plotY 0) = true ∧
    get.onMap (get.plotX 256000000) (get.plotY 0) = false := by decide +kernel

/-- A header of a swath of one program word, with its box. -/
def hdr0 : Hdr := ⟨0, 0, 1, 7, false, none, none, ⟨0, 0, 1000000, 1000000⟩, 0x20000, 17, 0x30000, 1, none⟩
/-- A shadow without history. -/
def shadow0 : Shadow := ⟨0xFFFF, 0x10020000#32, 0, Vector.replicate 32 0, Vector.replicate 8 0, {}, {}, 0, 0, 0, none⟩
/-- The swath of that header in a state. -/
def swath0 (st : SwState) : Swath := ⟨32, 0, 0, hdr0, 1, st, none, none, none, shadow0, [], 0, 0, true, true, 0, 0⟩
/-- Beam 0 with a field of 4 mm. -/
def withField (s : State) : State :=
  (((s.setReg 0xF0020040 0).setReg 0xF0020044 0).setReg 0xF0020048 4000000#32).setReg 0xF002004C 4000000#32
/-- Beam 0 runs a swath, with a lease on its box. -/
def beam0 (st : SwState) (f : Machine.Beam → Machine.Beam) : State :=
  ((withField (runs 0 timed)).modEng 0 fun x => { x with pc := 0x10020034#32 }).modBeam 0 fun x => f { x with swaths := [swath0 st] }

/-- SettingsComplete, MotionComplete: a beam engine in RUN; targets to move to and none, in and out of the field and the lease. -/
theorem witness_motion :
    let box : Box := ⟨0, 0, 1000000, 1000000⟩
    let s := beam0 .run fun x => { x with lease := some (box, 0) }
    let far := ((s.field 0).x1 + 1)
    s.suppressing 0 = none ∧ (s.awake 0).handStalls 0 = false ∧ s.beam[(0 : Fin 16)].expired = false ∧
    s.motionCheck 0 true 1000000 0 none = none ∧ s.motionCheck 0 false (s.field 0).x1 0 none = none ∧
    s.motionCheck 0 true far 0 none = some 3 ∧ s.motionCheck 0 true 1000001 0 none = some 0 ∧
    (beam0 .run id).motionCheck 0 true 0 0 none = some 1 ∧
    s.motionCheck 0 true 0 0 (some (500000, 0, 0x10000000)) = none ∧ 1000000 ≤ (0 - 500000 : Int) ^ 2 ∧ ((0 : Int) - 999) ^ 2 < 1000000 := by
  decide +kernel

theorem witness_beam_ready : (beam0 .run id).BeamReady 0 0 := by unfold State.BeamReady State.Ready; decide +kernel

/-- Beam 0's head has its lane UP, its group's permit has settled, and no exposure is held. -/
def unheld (s : State) : State :=
  let s := ((s.put (F.LN_CFG_ROLE 0) 1).put (F.LN_CFG_ARG 0) 0).put (F.LN_STAT_STATE 0) 5
  let s : State := { s with time := { s.time with ts32 := 10000000 }, pins := { s.pins with permit := s.pins.permit.set 0 (some 0) } }
  (s.setFlag (F.BEAM_LASER_CFG_PERMIT 0) true).setFlag (F.BEAM_LASER_CFG_PERMIT_WAIT 0) false

/-- LeaseBarrierAndProgramEventsComplete: no lease and one, a box inside and outside the header's, a misaligned box, a part of a
barrier and none, a swath in SUPPRESS, safe points, shadows, stops, arrivals, requests. -/
theorem witness_lease_and_program :
    let s := beam0 .run id
    let held := beam0 .run fun x => { x with lease := some (hdr0.box, 0) }
    (match (s.modEng 0 fun x => x.setG 1 1).leaseBox 0 0 1 with
      | .error q => some q
      | .ok _ => none) = some (3, 0) ∧
    (match s.leaseBox 0 0 0 with
      | .ok b => some (b.empty, b.inside hdr0.box)
      | .error _ => none) = some (false, true) ∧
    (∀ k ∈ s.leaseBanks 0 0, s.domainOn k = true) ∧ s.domainOn domArb = true ∧
    (⟨0, 0, 1000001, 0⟩ : Box).inside hdr0.box = false ∧ held.beam[(0 : Fin 16)].lease.isSome = true ∧ s.beam[(0 : Fin 16)].lease = none ∧
    s.beam[(0 : Fin 16)].present = some (swath0 .run) ∧ (runs 0 timed).beam[(0 : Fin 16)].present = none ∧
    ((beam0 .suppress id).suppressing 0).isSome = true ∧ s.partOf 0 7 = false ∧ (s.put (F.BEAM_SYNC_PART 0) 0x80).partOf 0 7 = true ∧
    s.beam[(0 : Fin 16)].eretEnds = false ∧ s.safeValid (swath0 .run) 0x10020034 0 = false ∧
    (s.setSilo32 0x30000 13).safeValid (swath0 .run) 0x10020034 0 = true ∧
    (s.beam[(0 : Fin 16)].swaths.flatMap (·.pending)).length < 4 ∧
    (let t := beam0 .run fun x => { x with swaths := [{ swath0 .run with pending := [shadow0] }] }
     (t.beam[(0 : Fin 16)].swaths.find? fun v => !v.pending.isEmpty).isSome = true ∧ t.reachedEt shadow0.at_ = true) ∧
    (let t := unheld (beam0 .stopping id)
     t.beam[(0 : Fin 16)].present = some (swath0 .stopping) ∧ (swath0 .stopping).state = .stopping ∧ t.exposureHeld 0 = false ∧
       t.stopDone 0 = true ∧ t.arb.beams[(0 : Fin 16)].cur = none ∧ t.arb.beams[(0 : Fin 16)].old = [] ∧ t.domainOn domArb = true) ∧
    (let a : Arrival := ⟨0, 0, 1000000, 4000⟩
     let t := s.modEng 0 fun x => { x with wait := some (.barrier 7) }
     let u := { t with arb := { t.arb with barriers := t.arb.barriers.set 7 [a] } }
     u.arb.barriers[(7 : Fin 8)].filter (fun v => decide (v.beam = 0)) = [a] ∧ a.timeout ≠ 0 ∧ u.elapsed a.at_ (1000 * a.timeout) = true ∧
       u.eng[(0 : Eng)].wait = some (.barrier 7)) ∧
    (let r : Request := ⟨hdr0.box, 0, true, false, 0, 0, true, none, false⟩
     let t := s.modArb 0 fun a => { a with req := some r }
     t.arb.beams[(0 : Fin 16)].req = some r ∧ r.waiting = true ∧ r.dead = false ∧ r.retry ≠ 0xFFFFFFFE#32 ∧ r.retry.toNat ≤ t.layerTime ∧
       t.domainOn domArb = true) ∧
    (let r : Request := ⟨hdr0.box, 0, true, false, 0xFFFFFFFE, 0, true, some 0, false⟩
     let t := s.modArb 0 fun a => { a with req := some r }
     r.unblocked.isSome = true ∧ r.trev ≤ t.layerTime) := by
  decide +kernel

/-- ExceptionEntry: a valid vector entry, an invalid one, and an exception within a handler. -/
theorem witness_exceptions :
    let s := core1 0
    let v := s.modEng 16 fun x => { x with mem := x.mem.write 60 4 0x40 }
    v.vector 16 15 = some 0x40#32 ∧ s.vector 16 15 = none ∧ v.eng[(16 : Eng)].ecause.getLsbD 4 = false ∧
    v.eng[(16 : Eng)].mem.badIn 60 4 = false ∧ v.eng[(16 : Eng)].mem.read 60 4 % 4 = 0 ∧
    (v.modEng 16 fun x => { x with ecause := 0x10#32 }).eng[(16 : Eng)].ecause.getLsbD 4 = true := by decide +kernel

/-- FaultsWatchdogAndPendingComplete: watchdogs that are due, in a handler, of a held beam and otherwise, and pending exceptions. -/
theorem witness_watchdog :
    let s := ((runs 16 timed).put (F.SYS_ENG_WDOG_TIMEOUT 16) 3).modEng 16 fun x => { x with wdogAcc := 3000 }
    let b := ((beam0 .suspended id).put (F.SYS_ENG_WDOG_TIMEOUT 0) 3).modEng 0 fun x => { x with wdogAcc := 3000 }
    (s.wdogCounts 16 = true ∧ 1000 * s.get (F.SYS_ENG_WDOG_TIMEOUT 16) ≤ s.wdogRun 16 ∧ s.eng[(16 : Eng)].active = false ∧ s.engHeld 16 = false) ∧
    (s.modEng 16 fun x => { x with ecause := 0x10#32 }).eng[(16 : Eng)].active = true ∧
    (b.wdogCounts 0 = true ∧ 1000 * b.get (F.SYS_ENG_WDOG_TIMEOUT 0) ≤ b.wdogRun 0 ∧ b.eng[(0 : Eng)].active = false ∧ b.engHeld 0 = true ∧
      beamOfEng 0 = some 0) ∧
    ((runs 16 timed).modEng 16 fun x => { x with late := some 3 }).engExecutes 16 = true ∧
    ((runs 16 timed).modEng 16 fun x => { x with wdogDue := true }).engExecutes 16 = true := by decide +kernel

/-- EngineControlComplete: an engine that does not run, with and without a vector for its start, and one that runs. -/
theorem witness_engine_control :
    let v := up.modEng 16 fun x => { x with mem := x.mem.write 0 4 0x40 }
    up.supView (.engine 20) = true ∧ up.engTaken 16 = false ∧ up.flag (F.SYS_ENG_CTRL_RUN 16) = false ∧
    up.flag (F.SYS_ENG_CTRL_FAULT 16) = false ∧ up.vector 16 0 = none ∧ v.vector 16 0 = some 0x40#32 ∧
    (runs 16 up).flag (F.SYS_ENG_CTRL_RUN 16) = true ∧ (runs 16 up).flag (F.SYS_ENG_CTRL_FAULT 16) = false ∧ beamOfEng 15 = some 15 := by
  decide +kernel

/-- PowerDomainsComplete, DomainWakeDoneCompletes: idle domains that may and may not go off, one that nothing makes idle, and one that
wakes with nothing waiting, beside one that is ON. -/
theorem witness_power :
    (let s (d : Fin 44) (off : Bool) := ((timed.put (F.SYS_PWR_POLICY_IDLE_DELAY d.val) 1).setFlag (F.SYS_PWR_POLICY_OFF_EN d.val) off).setFlag
       (F.SYS_PWR_POLICY_FORCE_ON d.val) false
     (∀ d ∈ [(16 : Fin 44), 42, 43], ∀ off : Bool, (s d off).domainOn d = true ∧ (s d off).get (F.SYS_PWR_POLICY_IDLE_DELAY d.val) ≠ 0 ∧
        (s d off).flag (F.SYS_PWR_POLICY_FORCE_ON d.val) = false ∧ (s d off).past ((s d off).power[d].lastUse + 1000) = true ∧
        (s d off).domainHeld d = false ∧ (s d off).flag (F.SYS_PWR_POLICY_OFF_EN d.val) = off) ∧
     neverOff 16 = false ∧ neverOff 43 = false ∧ neverOff 42 = true) ∧
    (timed.put (F.SYS_PWR_POLICY_IDLE_DELAY 43) 0).get (F.SYS_PWR_POLICY_IDLE_DELAY 43) = 0 ∧
    (let w := timed.put (F.SYS_PWR_POLICY_STATE 43) 3
     w.get (F.SYS_PWR_POLICY_STATE 43) = 3 ∧ w.waiting = [] ∧ (∀ e : Eng, w.eng[e].wait = none) ∧ tabWf regDefault w.regs = true) ∧
    timed.get (F.SYS_PWR_POLICY_STATE 43) ≠ 3 := by decide +kernel

/-- RegisterWriteComplete, RegisterRowsComplete: a register, an address of none, one that a view may not write, a loop register. -/
theorem witness_register_writes :
    regWindow R.SYS_DEVICE_ID = true ∧ regDenied R.SYS_DEVICE_ID true = false ∧ (regFind R.SYS_DEVICE_ID).isSome = true ∧
    regWindow 0xF0000FFC = true ∧ regFind 0xF0000FFC = none ∧ regWindow R.SYS_RESET = true ∧
    regDenied R.SYS_RESET (up.supView (.session 0)) = true ∧ up.regReady R.SYS_RESET = true ∧ regWindow 0xEFFFFFFC = false ∧
    (let z := timed.put (F.SYS_PWR_POLICY_STATE 41) 1
     z.regReady (R.HOST_NET_VLAN 0) = false ∧ regWindow (R.HOST_NET_VLAN 0) = true) ∧
    (∀ a ∈ [R.SYS_ENG_WDOG 19, R.SYS_PWR_POLICY 43, bedRegAddr .pitch, R.HOST_RING_TAIL 51, R.BEAM_CORR_BASE 15, R.ARB_RETIRED, R.ARB_RETIRE_CLR,
       R.LOOP_CAP_CFG, R.LOOP_INJ_CFG, R.LOOP_CTRL], timed.regReady a = true) ∧ timed.domainOn 15 = true ∧ timed.domainOn 20 = true ∧
    up.supView (.engine 20) = true ∧ R.LOOP_CTRL % 4 = 0 ∧ (regFind R.LOOP_CTRL).isSome = true ∧ regDenied R.LOOP_CTRL true = false ∧
    (let t := { timed with pins := { timed.pins with permit := timed.pins.permit.set 3 (some 0) } }
     t.permitSettled 3 = decide (10000000 ≤ t.now)) := by decide +kernel

/-- A lane of a role, in a state of R426. -/
def laneIn (n : Lane) (role arg st : Nat) (s : State) : State :=
  ((s.put (F.LN_CFG_ROLE n.val) role).put (F.LN_CFG_ARG n.val) arg).put (F.LN_STAT_STATE n.val) st
/-- Beam 0 has its head's lane UP. -/
def headed : State := laneIn 0 1 0 5 timed

/-- HeadsComplete: the earliest and the latest frame, payloads, a silent head, an LPWR slot, a sequence that starves. -/
theorem witness_heads :
    let at_ (sp : Nat) : State := headed.modTraj 0 fun j => { j with lastFrame := some (sp - 500) }
    let lat := headed.get (F.BEAM_HEAD_CFG_HEAD_LAT 0)
    (∀ sp ∈ [headed.now + 540 + lat, headed.now + 40 + lat], (at_ sp).headUp 0 = true ∧ (at_ sp).nextFrame 0 = sp ∧
      sp ≤ headed.now + 540 + lat ∧ headed.now + 40 + lat ≤ sp) ∧
    (headed.setFlag (F.BEAM_FE_CFG_FE_EN 0) false).flag (F.BEAM_FE_CFG_FE_EN 0) = false ∧ headed.beam[(0 : Fin 16)].traj.headSilent = false ∧ headed.beam[(0 : Fin 16)].swaths = [] ∧
    (∀ m, headed.headLane 0 = some m →
      headed.past (max (max (headed.beam[(0 : Fin 16)].traj.validAt.getD 0) (headed.beam[(0 : Fin 16)].traj.missAt.getD 0)) headed.lanes[m].since + 8000) = true) ∧
    (posPayloadOf (List.replicate 20 0)).isSome = true ∧ (posPayloadOf (List.replicate 20 0)).all (fun p => !p.status.getLsbD 1) = true ∧
    (List.replicate 19 (0 : Octet)).length ≠ 20 ∧
    (let s := headed.put (F.BEAM_HEAD_CFG_POWER_PATH 0) 1
     s.xkOwns 0 = false ∧ 250 * (0 % 4) ≤ s.now ∧ s.get (F.BEAM_HEAD_CFG_POWER_PATH 0) = 1 ∧ s.beam[(0 : Fin 16)].traj.lastLpwr = none) ∧
    (let s := headed.modTraj 0 fun j => { j with seq := some ⟨0, 0, none, {}, none⟩ }
     s.starved 0 = true ∧ s.xkOwns 0 = false) := by decide +kernel

/-- LasersComplete: alarms of a beam and of an XK channel, filtered just long enough, permits given and restored. -/
theorem witness_lasers :
    let s := timed.modTraj 0 fun j => { j with alarmAct := some (8 * timed.now - 8 * timed.get (F.BEAM_LASER_CFG_ALARM_FILTER 0)) }
    (s.beam[(0 : Fin 16)].traj.alarmAct.isSome = true ∧
      s.reachedEt ((8 * timed.now - 8 * timed.get (F.BEAM_LASER_CFG_ALARM_FILTER 0) : Nat) + 8 * (s.get (F.BEAM_LASER_CFG_ALARM_FILTER 0) : Nat)) = true ∧
      s.xkOwns 0 = false ∧ s.flag (F.BEAM_LASER_CFG_ALARM_LEVEL 0) = false ∧ s.flag (F.BEAM_LASER_CFG_ALARM_LATCH 0) = false) ∧
    (s.setFlag (F.BEAM_LASER_CFG_ALARM_LATCH 0) true).flag (F.BEAM_LASER_CFG_ALARM_LATCH 0) = true ∧
    ((s.put F.XK_CFG_PERS 1).xkOwns 0 = true ∧ s.flag (F.LS_CTRL_ALARM_LEVEL 0) = false) ∧ s.pins.permit[(0 : Fin 4)] = none ∧
    (let t := { timed with time := { timed.time with ts32 := 10000000 }
                           pins := { timed.pins with permit := timed.pins.permit.set 0 (some 0) } }
     t.permitSettled 0 = true ∧ (0 : Fin 16) ∈ groupBeams 0 ∧
       (t.setFlag (F.BEAM_LASER_CFG_AUTO_RESUME 0) true).flag (F.BEAM_LASER_CFG_AUTO_RESUME 0) = true) := by decide +kernel

/-- A layer that runs, from its begin on. -/
def active : State := timed.put F.HOST_LAYER_STATE_STATE 3

/-- LeaseDecision: a request in each of its ranges, and one that is granted. -/
theorem witness_lease_decision :
    let one : Box := ⟨0, 0, 0, 0⟩
    timed.lyState ≠ 3 ∧ active.lyState = 3 ∧ active.layerTime ≠ 0xFFFFFFFF ∧
    State.layerTime { active with layer := { active.layer with saturated := true } } = 0xFFFFFFFF ∧
    (⟨1, 0, 0, 0⟩ : Box).empty = true ∧ one.empty = false ∧ active.boxOnMap one = true ∧
    (active.plotsOf ⟨0, 0, 63999999, 63999999⟩).size = 4096 ∧ 4096 < (active.plotsOf ⟨0, 0, 64000000, 63999999⟩).size ∧
    active.decideLocal 0 one 0 = .grant := by decide +kernel

/-- ArbiterComplete: a window that closes now, a lease past its deadline, a reservation, a replay that stalls, a release whose
effect is due, a pending move, a restart, a claim and none. -/
theorem witness_arbiter :
    let lease : Lease := { box := ⟨0, 0, 0, 0⟩, p := ⟨256, 256, 256, 256⟩, d := ⟨256, 256, 256, 256⟩, renewed := 0, layerTime := 0 }
    let work := (((headed.setFlag (F.HOST_RING_CFG_ENABLE 32) true).put (F.HOST_RING_TAIL_SLOT 32) 1).put (F.HOST_RING_BASE_BASE 32) 64).put
      F.HOST_LAYER_STATE_STATE 3
    let disp := (({ work with time := { work.time with ts32 := 10000000 }
                              pins := { work.pins with permit := work.pins.permit.set 0 (some 0) } } : State).modBeam 0 fun x => { x with disp := true })
    let disp := (runs 0 disp).setFlag (F.BEAM_LASER_CFG_PERMIT_WAIT 0) false
    (let s := { active with arb := { active.arb with window := some active.now } }
     s.arb.window = some s.now ∧ s.reached s.now = true ∧ s.domainOn domArb = true) ∧
    ((active.modArb 0 fun a => { a with cur := some lease }).leaseDue 0 = decide (1000 * active.get F.ARB_LEASE_TTL_TTL ≤ active.now)) ∧
    (let s := (active.put F.ARB_LEASE_TTL_TTL 1).modArb 0 fun a => { a with cur := some lease }
     s.leaseDue 0 = true) ∧
    (let s := active.modArb 0 fun a => { a with reserve := some (⟨0, 0, 0, 0⟩, some active.now) }
     s.arb.beams[(0 : Fin 16)].reserve = some (⟨0, 0, 0, 0⟩, some active.now) ∧ s.reached active.now = true) ∧
    (let s := work.put F.ARB_CTRL_MODE 2
     s.arbMode = 2 ∧ s.past (s.arb.lastClaim + 1000000) = true ∧ s.queuedLeft = true ∧ s.beamsFree = true) ∧
    (let l := { lease with releasedAt := some 0, lastOff := some 0 }
     let s := active.modArb 0 fun a => { a with old := [l] }
     (s.arb.beams[(0 : Fin 16)].old.find? fun l => match l.effectAt with
        | some t => s.reachedEt t
        | none => false) = some l) ∧
    (let s := { work with arb := { work.arb with movePend := [(0, 0)] } }
     s.arb.movePend.find? s.moveDue = some (0, 0)) ∧ work.arb.movePend.find? work.moveDue = none ∧
    (let s := disp.modBeam 0 fun x => { x with swaths := [swath0 .pend] }
     s.beam[(0 : Fin 16)].present = some (swath0 .pend) ∧ s.mayRestart 0 = true) ∧
    (disp.beam[(0 : Fin 16)].present = none ∧ disp.mayClaim 0 = true ∧ disp.searches 0 = false ∧ disp.choice 0 = some ((32, 0), false)) ∧
    (let s := disp.setFlag (F.HOST_RING_CFG_ENABLE 32) false
     s.beam[(0 : Fin 16)].present = none ∧ s.mayClaim 0 = true ∧ s.searches 0 = true ∧ s.searchAfter 0 = false ∧ s.domainOn domArb = true ∧
       ((s.touch domArb).trialFix 0).choice 0 = none) := by decide +kernel

/-- PeersComplete: a tentative grant with one and with two peers, entries of other nodes, an expiry, geometries, a lost route. -/
theorem witness_peers :
    let r : Request := ⟨⟨0, 0, 0, 0⟩, 0, true, false, 0, 0, false, none, false⟩
    let t : Tentative := ⟨r, ⟨0, 0, 0, 0⟩, ⟨0, 0, 0, 0⟩, 9, [0], [], 0⟩
    let s := (((active.setFlag (F.ARB_PEER_CFG_PEER_EN 0) true).put (F.ARB_PEER_CFG_NODE 0) 5).modArb 0 fun a => { a with tent := some t })
    s.domainOn domArb = true ∧ (s.put (F.SYS_PWR_POLICY_STATE 25) 1).domainOn domArb = false ∧ s.layerTime ≠ 0xFFFFFFFF ∧
    State.layerTime { s with layer := { s.layer with saturated := true } } = 0xFFFFFFFF ∧
    (let u := { timed with arb := { timed.arb with dropped := [(9, 0, 0)] } }.setFlag (F.ARB_PEER_CFG_PEER_EN 0) true
     let u := u.put (F.ARB_PEER_CFG_NODE 0) 5
     u.tentOf 9 = none ∧ u.peerOf 5 = some 0 ∧ u.arb.dropped.find? (fun x => decide (x.1 = 9 ∧ x.2.2 = 0)) = some (9, 0, 0)) ∧
    s.tentOf 9 = some (0, t) ∧ s.peerOf 5 = some 0 ∧ (0 : Peer) ∈ t.asked ∧ (0 : Peer) ∉ t.granted ∧
    (∀ k, k ∈ t.asked → k ∈ t.granted ++ [0]) ∧ ¬(∀ k, k ∈ [(0 : Peer), 1] → k ∈ t.granted ++ [0]) ∧ s.past (t.sent + 100000) = true ∧
    (let e : Remote := ⟨5, 0, 9, ⟨0, 0, 0, 0⟩, ⟨0, 0, 0, 0⟩, active.now⟩
     let u := { s with arb := { s.arb with remotes := [e] } }
     u.arb.remotes.find? (fun r => decide (r.node = 5 ∧ r.reqId = 9)) = some e ∧ u.reached e.deadline = true) ∧
    s.onMap (s.plotX 0) (s.plotY 0) = true ∧ s.get F.BEDMAP_PITCH_PITCH = 1000 ∧ ((0 : Int) - s.bedX0).fmod s.pitchNm = 0 ∧
    (let u := { s with arb := { s.arb with peerNoRoute := s.arb.peerNoRoute.set 0 (some (active.now - 1000000)) } }
     u.arb.peerNoRoute[(0 : Peer)] = some (active.now - 1000000) ∧ u.flag (F.ARB_PEER_CFG_PEER_EN 0) = true ∧
       u.past (active.now - 1000000 + 1000000) = true ∧ u.get (F.ARB_PEER_CFG_STATE 0) ≠ 2) := by decide +kernel

/-- LayerComplete: a state for each accepted command, and the refusals. -/
theorem witness_layer :
    let in_ (n : Nat) := timed.put F.HOST_LAYER_STATE_STATE n
    let sched := ((in_ 0).put F.HOST_LAYER_BEGIN_LO_T_B_LO (timed.now + 2000000))
    (sched.lyState = 0 ∧ sched.longRuns = false ∧ sched.holds.supDead = false ∧ sched.role < 2 ∧ sched.scheduleCheck = 0) ∧
    (sched.put F.HOST_LAYER_BEGIN_LO_T_B_LO (timed.now + 1999999)).scheduleCheck ≠ 0 ∧
    (let s := { in_ 1 with bed := { timed.bed with foldOwed := true } }
     s.lyState = 1 ∧ s.bed.foldOwed = true ∧ s.bed.clearOwed = false ∧ s.layer.abortOwed = false) ∧
    (let s := { in_ 6 with bed := { timed.bed with foldOwed := true }, layer := { timed.layer with abortOwed := true } }
     s.lyState = 6 ∧ s.bed.foldOwed = true ∧ s.bed.clearOwed = false ∧ s.layer.abortOwed = true) ∧
    (State.bed { timed with bed := { timed.bed with clearOwed := true } }).clearOwed = true ∧
    ((in_ 2).lyState = 2 ∧ (in_ 2).reached (in_ 2).tB = true) ∧
    (let s := (in_ 3).setFlag F.HOST_LAYER_STATE_CLOSED true
     s.lyState = 3 ∧ s.layer.saturated = false ∧ s.flag F.HOST_LAYER_STATE_CLOSED = true ∧ s.ringsEmpty = true ∧ s.laserQuiet = true ∧ s.beamsFree = true ∧ s.role = 0) ∧
    ((in_ 4).lyState = 4 ∧ (in_ 5).lyState = 5 ∧ (in_ 6).lyState = 6 ∧ (in_ 6).layer.abortOwed = false ∧ (in_ 6).bed.foldOwed = false ∧
      ∀ b, (in_ 6).stopDone b = true) ∧
    (in_ 3).doneBit 7 = false ∧ State.doneBit { in_ 3 with silo := (in_ 3).silo.write (in_ 3).mapBase 1 0x80 } 7 = true ∧
    (let s := (((in_ 3).setFlag (F.HOST_RING_CFG_ENABLE 51) true).put (F.HOST_RING_TAIL_SLOT 51) 1).put (F.HOST_RING_BASE_BASE 51) 64
     0 ∈ s.heldSlots 51 ∧ s.dStatus (s.slotAddr 51 0) = 0) ∧ 0 ∉ (in_ 3).heldSlots 32 := by decide +kernel

/-- BedAndSwathsComplete: a clear under way, a layer time that saturates, a swath held, one that is done. -/
theorem witness_bed_and_swaths :
    let s : State := { active with bed := { active.bed with clearOwed := true } }
    let late : State := { active with time := { active.time with ext := 0x1000#32 } }
    s.Canon ∧ s.bed.clearOwed = true ∧ late.layerRuns = true ∧ late.layer.saturated = false ∧ late.layerTime = 0xFFFFFFFF ∧
    s.domainOn domArb = true ∧ (beam0 .run id).beam[(0 : Fin 16)].swaths ≠ [] ∧ (beam0 .run id).domainOn domArb = true ∧ (swath0 .run).doneAt = none ∧
    (let w := { swath0 .run with ended := some 0, motionEnd := some 0 }
     w.doneAt = some 0 ∧ timed.reachedEt 0 = true) ∧ 10 + 16 * 5 ≤ 90 := by
  refine ⟨canon_of _ ?_, ?_⟩ <;> decide +kernel

/-- CellsComplete: an edge just late enough to queue, a queue's head that is due, inputs that capture, a stalled engine. -/
theorem witness_cells :
    let x : Edge := { et := timed.nowEt + 320, what := .level true }
    (let s := { timed with transit := [(83, x)] }
     s.time.running = true ∧ s.cellOut 83 = true ∧ s.transit.find? (fun x => decide (x.1 = 83)) = some (83, x) ∧ x.exempt = false ∧
       320 ≤ s.etAhead x.et ∧ s.cells[(83 : Cell)].q.getLast? = none) ∧
    (let s := timed.modCell 83 fun y => { y with q := [{ x with et := timed.nowEt }] }
     s.cellOut 83 = true ∧ s.time.running = true ∧ s.cells[(83 : Cell)].q = [{ x with et := timed.nowEt }] ∧ s.cells[(83 : Cell)].last = none ∧
       s.reachedEt timed.nowEt = true) ∧
    (let s := (timed.setFlag (F.TIME_GCELL_CFG_DIR 0) true).put (F.TIME_GCELL_CFG_EDGE 0) 3
     s.cellOut (generalCell 0) = false ∧ (s.get (F.TIME_GCELL_CFG_EDGE 0)).testBit 0 = true ∧ (s.get (F.TIME_GCELL_CFG_EDGE 0)).testBit 1 = true ∧
       s.cells[generalCell 0].q.length < 16) ∧
    (let s := (runs 16 timed).modEng 16 fun x => { x with wait := some (.stalled (.fence 16)) }
     s.eng[(16 : Eng)].wait = some (.stalled (.fence 16)) ∧ s.engLive 16 = true ∧ s.engHeld 16 = false) := by decide +kernel

/-- TimeBaseComplete, TimeComparisons: the wrap, an EXT lost, a lock that lasts 1 ms, an output cell that turns, a step of TS64. -/
theorem witness_time_base :
    (let tick (s : State) := s.time.ts32.toNat + (2 ^ 32 + s.int F.TIME_ADDEND_FREQ + s.slewNow + s.time.frac.toNat).toNat / 2 ^ 32
     let s := { timed with time := { timed.time with ts32 := 0xFFFFFFFF } }
     let u := ({ timed with time := { timed.time with ts32 := 0xFFFFFFFE, frac := 0xFFFFFFFF } }).put F.TIME_ADDEND_FREQ 1
     s.time.running = true ∧ tick s = 2 ^ 32 ∧ u.time.running = true ∧ tick u = 2 ^ 32) ∧ (runs 20 timed).engLive 20 = true ∧
    (let s := ({ timed with time := { timed.time with ts32 := 0x80000000 } }).setFlag F.TIME_STATUS_PEND_WRAP true
     s.flag F.TIME_STATUS_PEND_WRAP = true ∧ s.time.ts32.getLsbD 31 = true ∧ s.time.wrapLost = false) ∧
    State.reset.time.running = false ∧ timed.flag F.TIME_STATUS_LOCKED = true ∧ timed.time.running = true ∧
    (timed.setFlag F.TIME_STATUS_LOCKED false).flag F.TIME_STATUS_LOCKED = false ∧
    (let s := { timed with time := { timed.time with lockedSince := some 4000000, resumeOwed := true } }
     s.flag F.TIME_STATUS_LOCKED = true ∧ s.past (4000000 + 1000000) = true ∧ s.past (4000001 + 1000000) = false) ∧
    (timed.setFlag (F.TIME_GCELL_CFG_DIR 3) true).cellOut (generalCell 3) = false ∧
    (let w := timed.plainWrite (R.TIME_GCELL_CFG 3) true 0xFFFFFFFF
     let v := timed.plainWrite (R.TIME_GCELL_CFG 3) true 0
     w.flag (F.TIME_GCELL_CFG_DIR 3) ≠ timed.flag (F.TIME_GCELL_CFG_DIR 3) ∧ v.flag (F.TIME_GCELL_CFG_DIR 3) = timed.flag (F.TIME_GCELL_CFG_DIR 3)) ∧
    (let s := (timed.put F.TIME_STATUS_STATE 3).setFlag F.TIME_STATUS_STEP_PEND true
     s.supView (.engine 20) = true ∧ s.timeFree = false ∧ s.flag F.TIME_STATUS_STEP_PEND = true ∧ s.idle = true ∧ s.cellsEmpty = true) ∧
    timed.reached timed.now = true ∧ up.flag F.TIME_STATUS_EXT_VALID = false := by decide +kernel

/-- Ethernet port 0 is up at 1000 Mb/s and carries the PTP of domain A. -/
def ptp0 : State := (laneIn 0 3 0 5 timed).put (F.TIME_DOM_CFG_SRC 0) 1
/-- An Announce, and a message of the parent. -/
def announce0 (source : BitVec 80) : PtpAnnounce := ⟨0, 1, source, 9, 6, 0x21, 0, 128, 128, 254, 0, 2, 1⟩
def ptpMsg0 : PtpMsg := ⟨0, 1, 0x50001, 0, 0, 5000000, 0, 0, true, 2, 1⟩
/-- Link port 0 is up, and the fabric is enabled. -/
def linked : State := (laneIn 4 4 0 5 timed).setFlag F.FABRIC_CFG_ENABLE true

/-- PtpAndFarmLinkTimeComplete, its PTP messages. -/
theorem witness_ptp :
    (∃ src : BitVec 80, (announce0 src).source.toNat / 65536 ≠ Config.uid.toNat) ∧
    ptp0.portGig 0 = true ∧ ptp0.ptpDom 0 0 = some 0 ∧ timed.portGig 0 = false ∧ (announce0 0).steps.toNat < 255 ∧
    (let f : Foreign := ⟨{ announce0 0x50001 with seqId := 0 }, 0, none⟩
     let s := ptp0.modDom 0 fun x => { x with
       role := .slave, parent := some 0x50001, foreign := [f], delaySent := some 7, lastSync := some 0, syncInterval := 1000000
       pendingSync := some ptpMsg0, delaySeq := 1, lastDelaySent := none }
     later 16 1 f.a.seqId.toNat = true ∧ s.fromParent 0 ptpMsg0 = true ∧ -4 ≤ ptpMsg0.logInterval.toInt ∧ ptpMsg0.logInterval.toInt ≤ 1 ∧
     ptpMsg0.seqId = s.time.dom[(0 : Dom)].delaySeq ∧ s.ptpDue 0 .slave none 1000000000 = true ∧ s.time.dom[(0 : Dom)].master = some f ∧
     (s.setFlag (F.TIME_DOM_CFG_VALID 0) true).domValid 0 = true ∧ s.missing (some 0) 1000000 = true) ∧
    (let s := ptp0.modDom 0 fun x => { x with role := .master }
     s.time.dom[(0 : Dom)].role = .master ∧ s.ptpDue 0 .master none 1000000000 = true ∧ s.ptpDue 0 .master none 2000000000 = true) ∧
    (let old : Foreign := ⟨announce0 1, 0, none⟩
     let s := { ptp0 with time := { ptp0.time with ts32 := 0xF0000000, ext := 1 } }
     s.past (old.at_ + 3 * logInterval old.a.logInterval) = true) ∧
    (let s := (({ timed with time := { timed.time with ext := 20 } }).put F.TIME_STATUS_STATE 3).setFlag F.TIME_STATUS_ACTIVE_DOM true
     let s := ((s.setFlag F.TIME_CTRL_REVERT true).setFlag (F.TIME_DOM_CFG_VALID 0) true).modDom 0 fun x => { x with goodSince := some 0 }
     s.timeFree = false ∧ s.activeDom = 1 ∧ s.domGood 0 = true ∧ s.time.dom[(0 : Dom)].goodSince = some 0 ∧ 0 + 60000000000 ≤ s.now) := by
  refine ⟨?_, ?_⟩
  · by_cases h : Config.uid.toNat = 0
    · exact ⟨0x10000, by rw [h]; decide⟩
    · exact ⟨0, by rw [show (announce0 0).source = 0 from rfl]; simpa using fun k => h k.symm⟩
  · decide +kernel

/-- PtpAndFarmLinkTimeComplete, its FarmLink time. -/
theorem witness_farmlink_time :
    let routed := { linked with fabric := { linked.fabric with paths := [⟨0, [0], []⟩] } }
    linked.fabOn = true ∧ linked.portUp 0 = true ∧ (linked.put F.FABRIC_STAT_ROLE 1).holder = true ∧ linked.after none 125000 = true ∧
    linked.holder = false ∧ routed.rootPort = some 0 ∧ later 32 1 0 = true ∧
    (∀ type ∈ [1, 2, 3], let m : FlTime := ⟨1, 63, 3, 5, 9, 77, 0xFFFFFFFFFFFFFFFF⟩
     (FlTime.octets type m).length = 32 ∧ flTimeOf type (FlTime.octets type m) = some m) ∧ linked.time.fl.heard = none ∧
    (linked.put (F.TIME_DOM_CFG_SRC 0) 0).get (F.TIME_DOM_CFG_SRC 0) ≠ 2 ∧ linked.get (F.TIME_DOM_CFG_SRC 1) ≠ 2 ∧
    (let s := linked.modTime fun t => { t with fl := { t.fl with reqSent := t.fl.reqSent.set 0 (some (3, 5)) } }
     s.time.fl.reqSent[(0 : FPort)] = some (3, 5) ∧ s.portUp 0 = true) := by decide +kernel

/-- LoopSamplesComplete: a sample that is due, results that overrun for the first and for the fourth time, a rate that changes. -/
theorem witness_loop_samples :
    let s := beam0 .run id
    (s.loopDue 0).isSome = true ∧ s.domainOn 20 = true ∧ ((s.put (F.SYS_PWR_POLICY_STATE 20) 1).loopDue 0).isSome = true ∧
    (s.put (F.SYS_PWR_POLICY_STATE 20) 1).domainOn 20 = false ∧ (timed.setFlag F.LOOP_CTRL_OVERSUB true).mayOverrun = true ∧
    timed.mayOverrun = false ∧
    (let r : LoopRes := ⟨timed.now, 0, 0, [], none⟩
     let s := (timed.setFlag F.LOOP_CTRL_OVERSUB true).modLoop 0 fun l => { l with next := some r }
     s.loops[(0 : Fin 16)].next = some r ∧ s.reached r.due = true ∧ s.mayOverrun = true ∧
     (s.count (F.LOOP_BEAM_STAT_OVR_RUN 0)).get (F.LOOP_BEAM_STAT_OVR_RUN 0) = 1 ∧
     ((s.put (F.LOOP_BEAM_STAT_OVR_RUN 0) 3).count (F.LOOP_BEAM_STAT_OVR_RUN 0)).get (F.LOOP_BEAM_STAT_OVR_RUN 0) = 4) ∧
    (let s := timed.modLoop 0 fun l => { l with rateDue := some (2, 0) }
     s.loops[(0 : Fin 16)].rateDue = some (2, 0) ∧ s.reached ((0 / 8000 + 1) * 8000 : Nat) = true) := by decide +kernel

/-- ThresherComplete: a camera that is up, a frame that lands in order and ends, a unit that runs, a stream that may be enabled. -/
theorem witness_thresher :
    let cam := headed.setFlag (F.IMG_CAM_CFG_ENABLE 0) true
    let frame : CamFrame := ⟨5, 1, 1, 0, 0, 0, 2, 1, 0, 0⟩
    let land (line : Nat) := cam.modStream 0 fun x => { x with slots := x.slots.set 1 { x.slots[1] with step := .landing, frame := frame, line := line } }
    cam.flag (F.IMG_CAM_CFG_ENABLE 0) = true ∧ cam.camUp 0 = true ∧ (land 0).landingSlot 0 = some 1 ∧ lineBytes frame = 2 ∧
    0 + 2 ≤ lineBytes frame ∧ 0 < frame.height.toNat ∧ (land 1).streams[(0 : Stream)].slots[(1 : Fin 4)].line = frame.height.toNat ∧
    (cam.setFlag (F.IMG_CAM_STAT_SET_PEND 0) true).flag (F.IMG_CAM_STAT_SET_PEND 0) = true ∧ cam.streams[(0 : Stream)].camSent = none ∧
    (let run (last dead cut : Bool) := cam.modPipe 2 fun q => { q with run := some ⟨0, 1, 0, last, cam.camSlot 0 1, 64, dead, cut⟩ }
     (∀ last dead cut : Bool, (run last dead cut).pipes[(2 : Fin 4)].run = some ⟨0, 1, 0, last, cam.camSlot 0 1, 64, dead, cut⟩) ∧
     (let s := { run true false false with silo := { cam.silo with bad := [(cam.camSlot 0 1 + 64) / 8] } }
      let s := s.modStream 0 fun x => { x with slots := x.slots.set 1 { x.slots[1] with frame := frame } }
      s.silo.badIn (s.camSlot 0 1 + 64) (64 * frame.height.toNat) = true ∧
        (run true false false).silo.badIn (s.camSlot 0 1 + 64) (64 * frame.height.toNat) = false)) ∧
    (cam.setFlag (F.IMG_CAM_CFG_ENABLE 0) false).camUp 0 = true ∧ headed.landingSlot 0 = none ∧
    ((cam.camSetHeard 0 0).flag (F.IMG_CAM_CFG_ENABLE 0) = true ∧ (headed.camSetHeard 0 0).flag (F.IMG_CAM_CFG_ENABLE 0) = false) ∧
    cam.supView (.engine 20) = true ∧ cam.domainOn (domPipe (cam.pipeOf 0)) = true ∧
    (let t := timed.plainWrite (R.IMG_CAM_CFG 0) true (0 ||| 1#32)
     timed.flag (F.IMG_CAM_CFG_ENABLE 0) = false ∧ t.enableReason 0 = 0 ∧ (t.put (F.IMG_CAM_RING_BASE 0) 0x1FFFFF).enableReason 0 ≠ 0) ∧
    (let t' := cam.plainWrite (R.IMG_CAM_CFG 0) true (cam.reg (R.IMG_CAM_CFG 0) &&& 0xFFFFFFFE#32)
     t'.reg (R.IMG_CAM_CFG 0) = (cam.setFlag (F.IMG_CAM_CFG_ENABLE 0) false).reg (R.IMG_CAM_CFG 0)) := by decide +kernel

/-- A device with the key whose axis 0 is in a state. -/
def axis0 (st : Nat) : State := (timed.setFlag F.AX_OUT_KEY_OK true).put (F.AX_STAT_STATE 0) st
/-- A stop at place 0, for an axis profile. -/
def atRest : AxPiece := ⟨0, none, 0, 0, 0, 0⟩

/-- AxisCommandsComplete: accepted commands, armed and not, and one refused of each kind. -/
theorem witness_axis_commands :
    (∀ c ∈ [1, 2, 3, 4, 5, 6, 7], (axis0 0).axCheck 0 ⟨c, 0, if c = 2 then some 0 else none⟩ false = 0 ∧
      (axis0 0).axCheck 0 ⟨c, 0, if c = 2 then some 0 else none⟩ true = 0) ∧
    (axis0 2).axCheck 0 ⟨7, 0, none⟩ false = 5 ∧ ((axis0 0).setFlag F.AX_OUT_KEY_OK false).axCheck 0 ⟨4, 0, none⟩ true = 2 ∧
    ((axis0 0).put F.SYS_BAND_BAND 4).axCheck 0 ⟨1, 0, none⟩ false = 7 ∧ (0x01#8).getLsbD 0 = true ∧
    (let s := (axis0 5).modAxis 0 fun x => { x with armed := some ⟨1, 256, none⟩ }
     s.axes[(0 : Axis)].armed = some ⟨1, 256, none⟩ ∧ s.axState 0 = axARMED) := by decide +kernel

/-- AxisMotionComplete: an axis in each state the clauses name, inputs, an encoder check within and beyond the tolerance, frames. -/
theorem witness_axis_motion :
    (∀ st ∈ [0, 1, 2], ((axis0 st).plainWrite (R.AX_MAX_SPEED 0) false 5).axState 0 = st) ∧
    (let s := (axis0 1).modAxis 0 fun x => { x with pieces := [{ atRest with t1 := some 0 }] }
     s.axMoves 0 = true ∧ s.axEnded 0 = true ∧ s.axes[(0 : Axis)].pend = none ∧ s.axes[(0 : Axis)].leave = false ∧
       (s.modAxis 0 fun x => { x with pend := some ⟨3, 5, none⟩ }).axEnded 0 = true) ∧
    (axis0 0).axes[(0 : Axis)].home = none ∧
    (let h : AxHome := ⟨1, 0, 0⟩
     let s := (axis0 4).modAxis 0 fun x => { x with home := some h }
     s.axes[(0 : Axis)].home = some h ∧ (s.setFlag (F.AX_STAT_LIMP 0) true).axState 0 = axHOMING ∧
       (s.setFlag (F.AX_STAT_LIMP 0) true).homePositive 0 = false) ∧
    (quadPlace true false + 4 - quadPlace false false) % 4 ≠ (quadPlace false true + 4 - quadPlace false false) % 4 ∧
    (let s := (((axis0 0).setFlag (F.AX_STAT_POS_VALID 0) true).put (F.AX_CFG_ENC_SEL 0) 1).modAxis 0 fun x => { x with lastCheck := none }
     s.flag (F.AX_STAT_POS_VALID 0) = true ∧ s.get (F.AX_CFG_ENC_SEL 0) ≠ 0 ∧
     (sgn 32 (wrap 32 ((s.encCount 0 : Int) - (s.axes[(0 : Axis)].encRef + s.encExpect 0)))).natAbs ≤ s.get (F.AX_ENC_TOL_ENC_TOL 0) ∧
     (let u := s.put F.AX_ENC_COUNT0_COUNT 0x1000000
      u.get (F.AX_ENC_TOL_ENC_TOL 0) < (sgn 32 (wrap 32 ((u.encCount 0 : Int) - (u.axes[(0 : Axis)].encRef + u.encExpect 0)))).natAbs ∧
        u.flag (F.AX_CFG_ENC_STOP 0) = false ∧ (u.setFlag (F.AX_CFG_ENC_STOP 0) true).flag (F.AX_CFG_ENC_STOP 0) = true)) ∧
    (0 ≤ timed.now ∧ timed.time.running = true ∧ (axis0 0).axes[fineOf 0].lastFrame ≠ some (timed.now / (2000 * 2 ^ timed.get (F.AX_BR_CFG_BR_PERIOD 0)) *
      (2000 * 2 ^ timed.get (F.AX_BR_CFG_BR_PERIOD 0))) ∧ (axis0 0).flag F.AX_OUT_KEY_OK = true) ∧
    (let s := (axis0 0).put (F.AX_CFG_HOLD_DELAY 0) 5
     s.axMoves (fineOf 0) = false ∧ s.past (s.axes[fineOf 0].restSince + 1000000 * s.get (F.AX_CFG_HOLD_DELAY 0)) = true) ∧
    (let s := (axis0 0).put F.FABRIC_STAT_ROLE 3
     s.role ≠ 0 ∧ s.holder = false) := by decide +kernel

/-- A TS2 that lane 0 accepts. -/
def ts2 : TsMsg := ⟨true, 3, 0, 5, Vector.replicate 4 8, 77, 1⟩

/-- LanesComplete: link lanes and Ethernet lanes in each state, with the instants, the counts and the margins that the clauses name. -/
theorem witness_lanes :
    let at_ (st : Nat) : State := laneIn 4 4 0 st timed
    let eth (st : Nat) : State := (laneIn 8 3 0 st timed).setFlag (F.LN_CFG_ENABLE 8) true
    timed.get (F.LANES_QUAD_CFG_RATE_A 0) ≠ 7 ∧ (at_ 1).isEth 4 = false ∧ (at_ 1).after (at_ 1).lanes[(4 : Lane)].seekSent 1000000 = true ∧
    (let w := timed.written (R.LN_CFG 4) true Access.isRw
     let t (v : Word) := (timed.condWrite (R.LN_CFG 4) true v (timed.lnCfgOk 4 (w v)) (F.LN_STAT_CFG_ERR 4)).1
     (t (timed.reg (R.LN_CFG 4))).flag (F.LN_CFG_ENABLE 4) = timed.flag (F.LN_CFG_ENABLE 4) ∧
     (t (timed.setFlag (F.LN_CFG_ENABLE 4) true |>.reg (R.LN_CFG 4))).flag (F.LN_CFG_ENABLE 4) = true ∧
     (t (timed.setFlag (F.LN_CFG_ENABLE 4) false |>.reg (R.LN_CFG 4))).flag (F.LN_CFG_ENABLE 4) = false) ∧
    (let s := (at_ 1).put F.LANES_TIMING_SEEK_TIMEOUT 1
     s.flag (F.LN_STAT_ABSENT 4) = false ∧ s.past (s.lanes[(4 : Lane)].since + 1000000 * s.get F.LANES_TIMING_SEEK_TIMEOUT) = true) ∧
    (∀ st ∈ [2, 3, 4, 5], (at_ st).lnTrains 4 = true) ∧ TsMsg.read (TsMsg.octets ts2) = some ts2 ∧
    TsMsg.read (List.replicate 15 0) = none ∧ timed.domainOn (lnDomain 4) = true ∧ (∀ n : Lane, timed.domainOn (lnDomain n) = true) ∧
    (timed.put (F.SYS_PWR_POLICY_STATE (lnDomain 4).val) 1).domainOn (lnDomain 4) = false ∧
    ((at_ 2).modLane 4 fun l => { l with tsRun := 7 }).lanes[(4 : Lane)].tsRun = 7 ∧ (at_ 2).lanes[(4 : Lane)].tsRun ≠ 7 ∧
    (let s := (at_ 3).modLane 4 fun l => { l with ts2Tx := 8, ts2Rx := 8 }
     s.refusal 4 ts2 = 0 ∧ s.refusal 4 { ts2 with version := 2 } = 4 ∧ s.refusal 4 { ts2 with headLat := 10000 } = 0 ∧
       s.refusal 4 { ts2 with headLat := 10001 } = 2) ∧
    (∀ st ∈ [2, 3, 4], (at_ st).past ((at_ st).lanes[(4 : Lane)].since + 2000000) = true) ∧
    (timed.supView (.engine 20) = true ∧ timed.supView (.engine 3) = false) ∧ (at_ 5).eye.lane ≠ some 4 ∧
    (let t := (at_ 5).plainWrite R.LANES_EYE_CMD true (4 ||| 0x100#32)
     t.flag F.LANES_EYE_CMD_BUSY = false ∧ t.lnState (Fin.ofNat 32 (t.get F.LANES_EYE_CMD_LANE)) = lnUP) ∧
    (let t := (at_ 5).plainWrite R.LANES_EYE_CMD true (5 ||| 0x100#32)
     t.lnState (Fin.ofNat 32 (t.get F.LANES_EYE_CMD_LANE)) ≠ lnUP) ∧
    (eth 1).isEth 8 = true ∧ (eth 1).flag (F.LN_CFG_ENABLE 8) = true ∧
    (let s := (eth 3).setFlag (F.LN_CFG_AN_EN 8) true
     s.flag (F.LN_CFG_AN_EN 8) = true ∧ s.flag (F.LN_CFG_ETH_MODE 8) = false ∧ s.lnState 8 = lnTRAIN) ∧
    ((eth 3).setFlag (F.LN_CFG_ETH_MODE 8) true).flag (F.LN_CFG_ETH_MODE 8) = true := by decide +kernel

/-- LinkLayerComplete: frames in order, again and too early, an ACK that acknowledges, a replay that is due, frames that may go. -/
theorem witness_link_layer :
    let s : State := laneIn 4 4 0 5 timed
    let f : LinkFrame := ⟨0x52, 0, true, 1, [1, 2]⟩
    let x := LinkFrame.octets f
    let e := x.set 5 3
    s.lnState 4 = lnUP ∧ s.isEth 4 = false ∧ f.seq = s.lanes[(4 : Lane)].expect ∧ later 12 0 4095 = true ∧ later 12 0 1 = false ∧
    LinkFrame.read x = some (f, true) ∧ LinkFrame.read (LinkFrame.octets { f with rel := false, seq := 4095, vc := 3, payload := [] }) =
      some ({ f with rel := false, seq := 4095, vc := 3, payload := [] }, true) ∧
    (LinkFrame.read e).map (·.2) = some false ∧ LinkFrame.read (x.take 7) = none ∧ s.fitsBefore 4 4 = true ∧
    (s.modLane 4 fun l => { l with nakOwed := true }).fitsBefore 4 4 = true ∧
    (behindK 0x1FFF (checkOctet [0xFF, 0x1F]) = ackOctets 4095 true ∧ checked 3 (ackOctets 4095 true) = true ∧
      behindK 0 (checkOctet [0, 0]) = ackOctets 0 false ∧ checked 3 (ackOctets 0 false) = true ∧
      behindK 0xFF03 (checkOctet [3, 0xFF]) = creditOctets 3 255 ∧ checked 3 (creditOctets 3 255) = true ∧ checked 3 (behindK 0 0) = false) ∧
    (let l := { s.lanes[(4 : Lane)] with outst := [f] }
     (l.outst.filter fun g => later 12 g.seq.toNat 0).length ≠ l.outst.length ∧ l.outst ≠ [] ∧
       s.past (l.progress + 1000 * s.get F.LANES_TIMING_REPLAY_TO) = true) ∧
    (let u := s.modLane 4 fun l => { l with outst := [f], resend := [0], granted := Vector.replicate 4 40 }
     u.lanes[(4 : Lane)].outst.find? (fun g => g.seq == 0) = some f ∧ u.lanes[(4 : Lane)].txEnd ≤ 1000 * u.now ∧
       creditCost f ≤ u.lanes[(4 : Lane)].credits f.vc ∧ u.fitsBefore 4 (frameGroups f) = true) ∧
    (let u := s.modLane 4 fun l => { l with txq := [f], granted := Vector.replicate 4 40 }
     u.lanes[(4 : Lane)].nextUp = some f ∧ u.lanes[(4 : Lane)].txEnd ≤ 1000 * u.now ∧ u.fitsBefore 4 (frameGroups f) = true) := by
  decide +kernel

/-- FabricComplete: links up and down, LSAs kept and older, the UID where it is not 0, routed frames at their last hop and on their way. -/
theorem witness_fabric :
    linked.flag F.FABRIC_CFG_ENABLE = true ∧ linked.after linked.fabric.hello[(0 : FPort)] 10000000 = true ∧
    linked.fabOn = true ∧ linked.portUp 0 = true ∧ linked.fabric.adj[(0 : FPort)] ≠ some (3, 1) ∧
    linked.after linked.fabric.issued 100000000 = true ∧
    ((Lsa.read (fabMsg 0x41 64 8)).origin = 8 ∧ (8 : Node) ≠ linked.ownNode ∧ linked.lsaOf 8 = none ∧
      (Lsa.read (fabMsg 0x41 64 8)).adj.length = 8 ∧ (Lsa.read (fabMsg 0x41 64 0)).origin = linked.ownNode ∧
      (Lsa.read (fabMsg 0x41 64 0)).uid = 0) ∧
    (let r : LsaRec := ⟨⟨3, 7, 5, []⟩, 0⟩
     let s : State := { linked with time := { linked.time with ext := 1 }, fabric := { linked.fabric with lsas := [r], issueOwed := true, routesOwed := true } }
     s.lsaOf 3 = some r ∧ r.m.version.toNat < (6#48).toNat ∧ s.past (r.at_ + 350000000) = true ∧ s.fabric.routesOwed = true ∧ s.lsaOf 4 = none) ∧
    (Config.uid.toNat ≠ 0 → (0#64).toNat < Config.uid.toNat) ∧ linked.portLane 0 = some 4 ∧
    (let h (hop nhops : Nat) := BitVec.ofNat 64 (hop * 2 ^ 44 + nhops * 2 ^ 48)
     (h 0 1).toNat / 2 ^ 44 % 16 + 1 = (h 0 1).toNat / 2 ^ 48 % 16 ∧ (h 0 2).toNat / 2 ^ 44 % 16 + 1 < (h 0 2).toNat / 2 ^ 48 % 16 ∧
     (h 1 1).toNat / 2 ^ 48 % 16 < (h 1 1).toNat / 2 ^ 44 % 16 + 1 ∧ Fin.ofNat 8 ((h 0 2).toNat / 2 ^ (20 + 3 * 1) % 8) = (0 : FPort)) ∧
    (linked.touch 40).portUp 0 = true ∧ (linked.touch 40).portUp 1 = false ∧ linked.domainOn 40 = true ∧
    (linked.put (F.SYS_PWR_POLICY_STATE 40) 1).domainOn 40 = false ∧ (linked.put (F.SYS_PWR_POLICY_STATE 40) 1).fabOn = true ∧
    octAt (fabMsg 0x47 32 128) 16 1 = 128 ∧ linked.get F.FABRIC_KEY_CFG_KEY_MIN = 128 ∧
    linked.after linked.fabric.healthSent 1000000000 = true ∧
    (let s := linked.put F.FABRIC_STAT_ROLE 3
     s.fabOn = true ∧ s.role = 3 ∧ s.stage < 2 ∧ s.after s.fabric.winnow 1000000000 = true) ∧ linked.accepts 5 = true := by
  have u : Config.uid.toNat ≠ 0 → (0#64).toNat < Config.uid.toNat := fun h => by simpa using Nat.pos_of_ne_zero h
  simp only [eq_true u, true_and]
  decide +kernel

/-- A holder of the key of generation 4, of three eligible nodes. -/
def holding : State :=
  ((((linked.put F.FABRIC_STAT_ROLE 1).put F.FABRIC_KEY_GEN_GEN 4).setFlag F.FABRIC_STAT_KNOWN true).put F.FABRIC_ELIG_LO_ELIG 7).setFlag F.AX_OUT_KEY_OK true

/-- BarnKeyComplete: generations accepted and refused, a RENEW that waits, an expiry, an election that runs, a vote. -/
theorem witness_barn_key :
    holding.fabOn = true ∧ holding.holder = true ∧ holding.after holding.fabric.sent (1000000 * holding.get F.FABRIC_KEY_CFG_RENEW_MS) = true ∧
    holding.acceptsRenew 4 = true ∧ holding.acceptsRenew 3 = false ∧ genOf (0x42 :: 0 :: 0 :: 0 :: octets 4 4) = 4 ∧ (1 : Node) ≠ holding.ownNode ∧ holding.eligible 2 = true ∧ holding.eligible holding.ownNode = true ∧
    (let s := holding.modFab fun f => { f with effective := some 0 }
     s.fabric.effective = some 0 ∧ s.flag F.AX_OUT_KEY_OK = true ∧ (s.put F.FABRIC_KEY_CFG_TTL_MS 1).reached (0 + (s.put F.FABRIC_KEY_CFG_TTL_MS 1).ttlNs) = true) ∧
    ({ holding with holds := { holding.holds with supDead := true } } : State).holds.supDead = true ∧
    ((holding.put F.FABRIC_KEY_CFG_KEY_MIN 100).put F.SYS_BAND_BAND 3).rescore.get F.FABRIC_STAT_SCORE < 100 ∧
    (let s := holding.put F.FABRIC_STAT_ROLE 2
     s.holder = false ∧ s.flag F.FABRIC_STAT_KNOWN = true ∧ s.keyGen = 4 ∧
     (let u := s.modFab fun f => { f with expiry := some 5000000 }
      u.fabric.expiry = some 5000000 ∧ u.reached 5000000 = true ∧ u.eligible u.ownNode = true ∧ u.fabric.election = none)) ∧
    (let e : Election := ⟨5, some (2, 0), [], none⟩
     let s : State := { holding with time := { holding.time with ts32 := 20000000 }, fabric := { holding.fabric with election := some e } }
     s.fabric.election = some e ∧ e.vote = some (2, 0) ∧ s.past (0 + 10000000) = true) ∧
    (let e : Election := ⟨5, none, [], some 5000000⟩
     let s : State := { holding with fabric := { holding.fabric with election := some e } }
     s.fabric.election = some e ∧ e.vote = none ∧ e.next = some 5000000 ∧ s.reached 5000000 = true) ∧
    later 32 5 holding.keyGen = true ∧ (holding.setFlag F.AX_OUT_KEY_OK false).flag F.AX_OUT_KEY_OK = false := by decide +kernel

/-- FabricLayersComplete: a holder and its participant 2, a report kept, a device that follows. -/
theorem witness_fabric_layers :
    let s := (holding.put F.FABRIC_LAYER_LO_LAYER 4).put F.HOST_LAYER_STATE_STATE 2
    1 ≤ s.lyState ∧ s.lyState ≤ 4 ∧ s.layerParts.contains 2 = true ∧ s.reported 2 = none ∧ s.tellDue 2 100000 = true ∧ s.tellDue 2 1000000 = true ∧
    (linked.accepts 5 = true ∧ (linked.acceptGen 3 5).idle = true ∧ holding.accepts 3 = false) ∧
    (let t := { linked with layer := { linked.layer with follows := true, stateOwed := true } }.setFlag F.FABRIC_STAT_HOLDER_VALID true
     t.fabOn = true ∧ t.layer.follows = true ∧ t.flag F.FABRIC_STAT_HOLDER_VALID = true ∧ t.layer.stateOwed = true) ∧
    (State.layerParts { s with layer := { s.layer with removed := [2] } }).contains 2 = false ∧ s.layer.removed.contains 2 = false ∧
    s.canAbort = true ∧ s.reached ((s.tB : Int) - 1000000) = true ∧ (2 : Node) ∈ s.layerParts ∧
    (let t := { s with layer := { s.layer with give := some .go } }
     t.layer.give = some .go ∧ t.reported 2 ≠ some lyRECOAT ∧ t.reported 2 ≠ some lyIDLE) ∧
    (let t : State := { s with time := { s.time with ext := 3 }, layer := { s.layer with reports := [(2, ⟨0, 2, 0, 0⟩)] } }
     (t.reportOf 2).isSome = true ∧ t.past (0 + 10000000) = true) := by decide +kernel

/-- A state whose port 0 has an address, written over those that come from the UID. -/
def addressed (s : State) : State :=
  { s with regs := s.regs.filter (fun x => decide (x.1 < 0xF00A0000)) ++ [(R.HOST_NET_MAC_LO 0, 1), (R.HOST_NET_MAC_HI 0, 0x200), (R.HOST_NET_IP 0, 0x0A000001)] ++
    s.regs.filter fun x => decide (R.HOST_NET_IP 0 < x.1) }

/-- The device answers requests: boot has ended. -/
def booted : State := timed.put F.SYS_BOOT_STATE 1
/-- A host on Ethernet port 0, and a request of it on session 2. -/
def from0 : VmpFrom := ⟨0, 0, 0, 0x0A000002, 4096, 0x020000000001⟩
def vreq (type ring : BitVec 8) (body : List Octet) : VmpMsg := ⟨type, 0, 2, ring, 0, 5, 0x100, BitVec.ofNat 16 body.length, 0, body, []⟩
/-- Session 2 of that host in a state, with the supervisor view or without. -/
def sess2 (st : Nat) (sup : Bool) : State :=
  ((booted.put (F.HOST_SESS_INFO_STATE 2) st).setFlag (F.HOST_SESS_INFO_VIEW 2) sup).modSess 2 fun x => { x with peer := some from0 }

theorem witness_waits : ((sess2 2 true).put (F.SYS_PWR_POLICY_STATE 41) 1).Takes from0 (vreq 4 0 []) 2 2 ∧
    ((sess2 2 true).put (F.SYS_PWR_POLICY_STATE 41) 1).vmpWaits from0 (vreq 4 0 []) = true := by
  unfold State.Takes State.Meets; decide +kernel

theorem witness_accepts (m : VmpMsg) (sup : Bool) (h : m ∈ [vreq 4 0 [], vreq 0x10 0 (List.replicate 8 0), vreq 0x30 1 (List.replicate 36 0)]) :
    (sess2 2 sup).Accepts from0 m 2 2 := by
  have : ∀ m ∈ [vreq 4 0 [], vreq 0x10 0 (List.replicate 8 0), vreq 0x30 1 (List.replicate 36 0)], ∀ sup : Bool,
      (sess2 2 sup).Accepts from0 m 2 2 := by unfold State.Accepts State.Takes State.Meets; decide +kernel
  exact this m h sup

set_option maxRecDepth 1000000 in
/-- 13_host.md, "reading two registers": the request and the body of its response. -/
theorem test_vmp_example :
    let m := vreq 0x10 0 [2, 0, 0, 0, 0xF0, 0, 0, 0, 0xF0, 1, 0, 8]
    let s := addressed ((((sess2 2 false).setFlag F.TIME_STATUS_LOCKED true).setFlag F.TIME_STATUS_EXT_VALID true).put F.TIME_STATUS_STATE 1)
    vmpOctets m = [0x56, 0x4D, 1, 0x10, 0, 2, 0, 0, 0, 0, 0, 5, 0, 0, 1, 0, 0, 0x0C, 0, 0, 2, 0, 0, 0, 0xF0, 0, 0, 0, 0xF0, 1, 0, 8] ∧
    (match exec (.regRead from0 m) s with
      | .next t => t.out.map fun x => match x with
        | .eth _ f => f.drop 42
        | _ => []
      | _ => []) =
      [[0x56, 0x4D, 1, 0x10, 1, 2, 0, 0, 0, 0, 0, 5, 0, 0, 1, 0, 0, 0x0C, 0, 0, 2, 0, 0, 0, 0x53, 0x46, 0x16, 0x16, 0, 0, 0, 0x13]] := by decide +kernel

/-- VmpRequestsComplete: bodies at their least and greatest length, offsets at the end of the Silo, a ring that takes and one that gives. -/
theorem witness_vmp_requests :
    let u := (sess2 2 true).taken from0 (vreq 4 0 []) 2
    beAt ([64, 0, 0, 0] : List Octet) 0 1 = 64 ∧ beAt ([64, 0, 0, 0] : List Octet) 1 3 = 0 ∧
    (siloSize - 1432 + 1432 ≤ siloSize ∧ (siloSize - 1432) % 4 = 0 ∧ siloSize < siloSize - 4 + 8) ∧
    u.silo.badIn 0 4 = false ∧ ({ u with silo := { u.silo with bad := [0] } } : State).silo.badIn 0 4 = true ∧ tooLong from0 (vreq 4 0 []) = false ∧
    (let t := (u.setFlag (F.HOST_RING_CFG_ENABLE 1) true).put (F.HOST_HRING_CFG_KIND 1) 0
     t.ringRefusal 2 1 = 0 ∧ t.get (F.HOST_HRING_CFG_KIND 1) = 0 ∧ t.ringOn 1 = true) ∧
    (let t := (((u.setFlag (F.HOST_RING_CFG_ENABLE 1) true).put (F.HOST_HRING_CFG_KIND 1) 1).put (F.HOST_HRING_CFG_DEST 1) 2).modHRing 1 fun x =>
       { x with sentAt := [0], ever := 1 }
     t.get (F.HOST_HRING_CFG_KIND 1) ≠ 0 ∧ t.get (F.HOST_HRING_CFG_DEST 1) = 2 ∧ 1 < 2 ^ (t.ringK 1 + 1) ∧
       wrap (t.ringK 1 + 1) ((1 : Int) - t.vHead 1) = 1 ∧ 1 ≤ t.host.rings[(1 : Fin 32)].ever) := by decide +kernel

/-- A session that opens with a key, and an AUTH of it with its tag. -/
def pend2 : State :=
  ((sess2 1 true).modSess 2 fun x => { x with keyed := true }).modGran fun g => { g with key := some 5 }
def auth2 : VmpMsg :=
  let m : VmpMsg := { vreq 3 0 [] with flags := 2 }
  { m with tag := pend2.vmpTag 2 m }

/-- SessionsComplete: an AUTH with its tag and one without. -/
theorem witness_auth : pend2.Accepts from0 auth2 2 1 ∧ pend2.host.sess[(2 : Sess)].keyed = true ∧ auth2.type = 3 ∧ auth2.ring = 0 ∧ auth2.body = [] ∧
    pend2.Meets from0 (vreq 3 0 []) false ∧ pend2.vmpSess from0 (vreq 3 0 []) = some 2 ∧ pend2.tagOk 2 (vreq 3 0 []) = false := by
  unfold State.Accepts State.Takes State.Meets; decide +kernel

/-- SessionsComplete: an OPEN with a session free and none free, ages of a session, long operations, rings that are sent again. -/
theorem witness_sessions :
    let body (mode : Octet) : List Octet := [mode, 0, 0, 0, 0, 0, 0, 0, 0, 0, 0, 1]
    booted.Meets from0 (vreq 1 0 []) true ∧ booted.Meets from0 (vreq 2 0 (body 1)) false ∧ (body 1).length = 12 ∧
    booted.sameOpen from0 1 = none ∧ booted.openSess from0 = some 0 ∧ (booted.setFlag F.HOST_VMP_CFG_USER_OPEN true).flag F.HOST_VMP_CFG_USER_OPEN = true ∧
    (forEach (List.range 8) booted fun s k => s.put (F.HOST_SESS_INFO_STATE k) 2).openSess from0 = none ∧
    (let s : State := { sess2 1 true with time := { timed.time with ext := 1 } }
     s.sessState 2 = 1 ∧ s.past (0 + 1000000000) = true ∧ s.host.sess[(2 : Sess)].since = 0) ∧
    (let s : State := { sess2 2 true with time := { timed.time with ext := 100 } }
     s.sessState 2 = 2 ∧ s.host.long = none ∧ s.past (0 + s.get F.HOST_VMP_CFG_SESSION_TTL * 1000000000) = true) ∧
    (let u := (sess2 2 true).taken from0 (vreq 0x40 0 [1, 0, 0, 0]) 2
     u.sessSup 2 = true ∧ u.longFree 2 1 [] = true ∧ u.longFree 2 2 [] = true ∧ u.longFree 2 3 [] = true ∧ u.longFree 2 4 [] = true ∧
       u.longFree 2 5 (List.replicate 36 0) = true ∧ ∀ op ∈ [1, 3, 4], longLen op = ([1, 0, 0, 0] : List Octet).length) ∧
    (let s : State := { booted with host := { booted.host with long := some ⟨1, 2, [], 0⟩ } }
     s.host.long = some ⟨1, 2, [], 0⟩) ∧ booted.domainOn 41 = true ∧ (booted.put (F.SYS_PWR_POLICY_STATE 41) 1).domainOn 41 = false ∧
    (sess2 2 true).supView (.engine 20) = true ∧ (sess2 2 true).supView (.engine 16) = false ∧
    (let s := (((({ sess2 2 true with time := { timed.time with ts32 := 30000000 } } : State).setFlag (F.HOST_RING_CFG_ENABLE 1) true).put
       (F.HOST_HRING_CFG_KIND 1) 2).put (F.HOST_HRING_CFG_DEST 1) 2).put (F.HOST_RING_TAIL_SLOT 1) 2
     let s (n : Nat) := s.modHRing 1 fun x => { x with sentAt := [0], resends := n }
     (s 7).host.rings[(1 : Fin 32)].sentAt = [0] ∧ (s 7).longRuns = false ∧ (s 7).host.rings[(1 : Fin 32)].stalled = false ∧ (s 7).past (0 + 20000000) = true ∧
     (s 7).ringDest 1 = some 2 ∧ (s 7).get (F.HOST_HRING_CFG_KIND 1) = 2 ∧ (s 7).ringOn 1 = true ∧ 1 < 16 ∧ 1 < (s 7).ringCount 1 ∧
     (s 7).domainOn (domainOfSilo ((s 7).slotAddr 1 1)) = true ∧
     ((s 7).put (F.SYS_PWR_POLICY_STATE 26) 1).domainOn (domainOfSilo (((s 7).put (F.SYS_PWR_POLICY_STATE 26) 1).slotAddr 1 1)) = false) := by
  unfold State.Meets; decide +kernel

/-- NetworkAndEventsComplete: a frame of each kind. -/
theorem witness_frames :
    let s := addressed (laneIn 0 3 0 5 timed)
    let head : List Octet := List.replicate 6 0xFF ++ List.replicate 6 2
    let ip (l : List Octet) := head ++ [8, 0] ++ l
    s.boot.cause = 0 ∧ s.ethUp 0 = true ∧ s.domainOn 41 = true ∧ (s.put (F.SYS_PWR_POLICY_STATE 41) 1).domainOn 41 = false ∧
    (let q : List Octet := [1, 0x80, 0xC2, 0, 0, 1] ++ List.replicate 6 2 ++ [0x88, 8, 0, 1, 0, 5]
     (s.modLane 0 fun l => { l with pause := true }).pauseOf 0 q = some 5 ∧ s.pauseOf 0 q = none) ∧
    (∀ f ∈ [[], List.replicate 14 0], s.pauseOf 0 f = none) ∧ s.frameDrop 0 [] = some .err ∧ s.frameDrop 0 (List.replicate 14 0) = some .proto ∧
    s.frameDrop 0 (ip ([0x45, 0, 0, 20, 0, 0, 0x20, 0] ++ List.replicate 12 0)) = some .frag ∧
    (let arp := head ++ [8, 6, 0, 1, 8, 0, 6, 4, 0, 1] ++ List.replicate 20 0
     s.frameDrop 0 arp = none ∧ s.frameVmp 0 arp = none) ∧
    (let vmp := ip ([0x45, 0, 0, 48, 0, 0, 0, 0, 1, 17, 0xB9, 0xBE, 0, 0, 0, 0, 0xFF, 0xFF, 0xFF, 0xFF, 16, 0] ++
       beOctets (s.get F.HOST_VMP_CFG_VMP_PORT) 2 ++ [0, 28, 0, 0] ++ vmpOctets (vreq 1 0 []))
     s.frameDrop 0 vmp = none ∧ (s.frameVmp 0 vmp).isSome = true) := by decide +kernel

set_option maxRecDepth 100000 in
/-- NetworkAndEventsComplete: an echo within and beyond the limit, a firing, a pulse that ends, a port that has not announced itself. -/
theorem witness_network :
    let s := laneIn 0 3 0 5 timed
    s.ethLane 0 = some 0 ∧ s.laneUp 0 = true ∧ s.host.net[(0 : EPort)].arpFor ≠ some s.lanes[(0 : Lane)].since ∧
    (s.host.net[(0 : EPort)].echoes.filter fun t => !s.past (t + 1000000000)).length < 100 ∧
    (let t := s.modNet 0 fun x => { x with echoes := List.replicate 100 s.now }
     100 ≤ (t.host.net[(0 : EPort)].echoes.filter fun k => !t.past (k + 1000000000)).length) ∧
    s.lbOn = true ∧ (s.modLb fun l => { l with rx := [[1, 2]] }).host.lb.rx ≠ [] ∧ (s.raise 170 0).fired ≠ [] ∧
    (s.regRead (.engine 20) (R.EVT_LAST_DATA 170)).isSome = true ∧
    (let t := { s with pins := { s.pins with evtOut := s.pins.evtOut.set 2 (some 0) } }
     t.pins.evtOut[(2 : Fin 4)] = some 0 ∧ t.past 0 = true) := by decide +kernel

/-- A record. -/
def rec0 : GRec := ⟨0, 0, 1, 1, 1, 0, []⟩

/-- GranaryComplete: a write that may begin, one in progress with the bad-slot map below and at its limit, a power failure. -/
theorem witness_granary :
    let s := timed.modGran fun g => { g with fifo := [rec0], upOwed := false }
    s.mayWrite = true ∧ s.gran.again = none ∧ (s.modGran fun g => { g with again := some (3, rec0) }).mayWrite = true ∧
    (let w : GWrite := ⟨8192, 1, rec0⟩
     let t (n : Nat) := s.modGran fun g => { g with writing := some w, bad := List.replicate n 0 }
     (t 63).gran.writing = some w ∧ (t 63).gran.bad.length < 64 ∧ 64 ≤ (t 64).gran.bad.length) ∧
    s.boot.cause = 0 ∧ State.reset.boot.cause ≠ 0 ∧ (let t := s.modGran fun g => { g with lowSince := some 0 }
     t.gran.lowSince = some 0 ∧ t.past (0 + 1000000) = true ∧ t.gran.closed = false) ∧ s.gran.pfail = none ∧
    (let t := s.modGran fun g => { g with pfail := some 0 }
     t.gran.pfail = some 0 ∧ t.past (0 + 50000) = true ∧ t.gran.closed = false) ∧
    (let t (rose : Bool) := s.modGran fun g => { g with pfail := some 0, closed := true, rose := rose, dump := some ([], 0) }
     ∀ rose : Bool, (t rose).gran.closed = true ∧ (t rose).gran.writing = none ∧ (t rose).gran.rose = rose ∧ (t rose).gran.pfail.isSome = true ∧
       (t rose).gran.dump.isSome = true) ∧ s.domainOn 42 = true ∧ (s.put (F.SYS_PWR_POLICY_STATE 42) 1).domainOn 42 = false ∧ timed.gran.upOwed = true ∧ s.after s.gran.lastCheck 1000000000 = true ∧
    (¬(s.flag F.GRANARY_COPY_CTRL_BUSY = true ∨ s.get F.GRANARY_STAT_STATE = 1 ∨ s.get F.GRANARY_STAT_STATE = 2 ∨
      siloSize < 64 * s.get F.GRANARY_COPY_DST_BASE + 64 * s.copyCount)) ∧
    (s.modGran fun g => { g with copy := some ⟨0, 1, 0⟩ }).gran.copy = some ⟨0, 1, 0⟩ := by decide +kernel

/-- A round of housekeeping without readings, and one that trips two sensors. -/
def round0 (trip : BitVec 24) : HkRound := ⟨Vector.replicate 24 none, trip, Vector.replicate 8 none, Vector.replicate 16 0, Vector.replicate 12 0, Vector.replicate 4 0⟩

/-- StartupComplete: a short and a long pulse, a device held in reset, boot at its beginning and with an image, the supervisor pair. -/
theorem witness_startup :
    20 ≤ (20#32).toNat ∧ (19#32).toNat < 20 ∧ State.reset.boot.cause ≠ 0 ∧ State.reset.holds.shutdown = false ∧ timed.boot.cause = 0 ∧
    (let s := timed.put F.SYS_BOOT_STATE 0
     s.loading = true ∧ s.boot.image = none ∧ s.slotCheck 0 ≠ 0 ∧ (s.put F.SYS_STRAPS_BOOT_SRC 2).get F.SYS_STRAPS_BOOT_SRC = 2) ∧
    (let s := { timed with boot := { timed.boot with image := some (0, 0) } }
     s.boot.image = some (0, 0) ∧ s.boot.cause = 0) ∧ timed.time.supDown = false ∧ timed.holds.lockstep = none ∧
    (let s := { timed with holds := { timed.holds with lockstep := some 0 } }
     s.holds.lockstep = some 0 ∧ s.elapsed 0 60000000000 = false ∧
       State.elapsed { s with time := { s.time with ext := 100 } } 0 60000000000 = true) ∧
    (let s := { timed with holds := { timed.holds with supRestarting := true } }
     s.holds.supRestarting = true ∧ s.gran.journal = none ∧ s.gran.zeroMark = false) ∧
    timed.regReady (R.LT_STAT 11) = true ∧ (timed.put (F.SYS_PWR_POLICY_STATE 43) 1).regReady (R.LT_STAT 11) = false ∧
    (let s := { timed with time := { timed.time with ts32 := 8000000 } }
     s.roundDue = true ∧ s.holds.shutdown = false ∧ s.tooHot (round0 0) = none ∧ s.tooHot (round0 3) = some 0) ∧
    State.reset.supView (.engine 20) = true ∧ timed.supView (.engine 3) = false := by decide +kernel

/-- An output in video mode or in command mode, in a state: an increment, and lines. -/
def out0 (st cmd te : Nat) : State :=
  (timed.put (F.DISP_STAT_STATE 0) st).modDisp 0 fun d => { d with
    tim := [BitVec.ofNat 32 (1 + 2 * cmd + 64 * te), 0x100000, 0x00020002, 0x00020002, 0x00020002, 0x00020002, 0], frameAt := 0, line := 0 }

/-- DisplayComplete: commits that are taken and refused, a latch, the end of a frame, pushes, the queue, a change of timing. -/
theorem witness_display :
    (out0 1 0 0).domainOn 30 = true ∧ ((out0 1 0 0).put (F.SYS_PWR_POLICY_STATE 30) 1).domainOn 30 = false ∧
    ((out0 1 0 0).setFlag F.DISP_CTRL_LOCK_ACT true).dispSlave 1 = true ∧
    (out0 1 0 0).dispSlave 0 = false ∧ (out0 1 0 0).flag (F.DISP_STAT_COMMIT_PEND 0) = false ∧
    ¬((out0 1 0 0).planeBad 0 0 = true ∨ (out0 1 0 0).planeBad 0 1 = true ∨ (out0 1 0 0).rectBad 0 = true) ∧
    ((out0 1 0 0).setReg (R.DISP_PL_CTRL 0 0) 1).planeBad 0 0 = true ∧
    (let s := (out0 1 0 0).setFlag (F.DISP_STAT_COMMIT_PEND 0) true
     let s := s.modDisp 0 fun d => { d with frameAt := 2 ^ 24 }
     s.dispVideo 0 = true ∧ s.disp[(0 : DOut)].latched = none ∧ s.disp[(0 : DOut)].latchAt = some (2 ^ 24) ∧ s.pastFx (some (2 ^ 24)) = true ∧
       (s.disp[(0 : DOut)].commitAt : Int) * 2 ^ 24 < 2 ^ 24) ∧ (out0 1 0 0).disp[(0 : DOut)].command = false ∧
    (let s := out0 1 0 0
     s.flag F.DISP_CTRL_TPEND = false ∧ s.dispVideo 0 = true ∧ s.disp[(0 : DOut)].frameEnd.isSome = true ∧ s.pastFx s.disp[(0 : DOut)].frameEnd = true) ∧
    (let s := (out0 1 1 1).setFlag (F.DISP_STAT_COMMIT_PEND 0) true
     s.pushFree 0 = true ∧ s.disp[(0 : DOut)].teEn = true ∧ s.disp[(0 : DOut)].waitTe = false ∧ s.stage = 0 ∧
     (let t := { s with time := { s.time with ext := 1 } }.modDisp 0 fun d => { d with waitTe := true }
      t.disp[(0 : DOut)].waitTe = true ∧ t.past (0 + 100000000) = true)) ∧
    ((out0 3 1 0).dispState 0 = 3 ∧ (out0 3 1 0).past (out0 3 1 0).disp[(0 : DOut)].pushEnd = true) ∧
    (let s := (out0 1 1 0).modDisp 0 fun d => { d with cmdq := [(true, 1)] }
     s.busIdle 0 = true ∧ s.disp[(0 : DOut)].cmdq ≠ [] ∧ s.flag (F.DISP_STAT_COMMIT_PEND 0) = false) ∧
    (let s := (timed.put (F.DISP_VTIM1_V_FP 0) 3).put (F.DISP_VTIM1_V_FP 1) 3
     s.timingBad = false ∧ (((timed.put (F.DISP_VTIM1_V_FP 0) 0).put (F.DISP_VTIM0_V_SYNC 0) 0).put (F.DISP_VTIM1_V_BP 0) 0).timingBad = true) ∧
    (let u := (timed.setFlag F.DISP_CTRL_TPEND true).blankDue
     u.flag F.DISP_CTRL_TPEND = true ∧ u.dispState 0 = 0 ∧ u.dispState 1 = 0) := by decide +kernel

/-- XkComplete, XkListComplete: an XK device, channels in each wait, a tick not yet executed, ports at the ends of their areas, list
words with and without a bit set that they do not name. -/
theorem witness_xk :
    let s := timed.put F.XK_CFG_PERS 1
    let run := s.put (F.CH_STAT_STATE 0) 1
    let waits (w : XkWait) := s.modChan 0 fun c => { c with wait := some w }
    s.pers ≠ 0 ∧ s.chBusy 0 = false ∧ run.chBusy 0 = true ∧ run.chState 0 = 1 ∧ run.chRuns 0 = true ∧ run.allHeld = false ∧
    (run.put F.SYS_BAND_BAND 4).allHeld = true ∧ (s.put (F.AX_STAT_STATE (xaxOf 0).val) 0).axState (xaxOf 0) = axIDLE ∧
    (let t := s.modChan 0 fun c => { c with outT := s.nowEt + s.leffEt 0, wait := some .idle }
     t.xk.chan[(0 : Chan)].outT ≤ t.nowEt + t.leffEt 0) ∧ s.lastTickNs = some 5000000 ∧ s.xk.lastTick ≠ some 5000000 ∧
    (waits .swap).xk.chan[(0 : Chan)].wait = some .swap ∧ ((waits (.var 3)).put (F.XK_V_V 3) 1).get (F.XK_V_V 3) ≠ 0 ∧
    (waits .t4).stage < 4 ∧ (s.setFlag F.XK_CTRL_XY_EN true).flag F.XK_CTRL_XY_EN = true ∧ s.xk.lastFrame ≠ some (5000000 + 10000) ∧
    s.listAt s.listPort + 4 ≤ siloSize ∧ s.get F.LIST_ADDR_ADDR < 16383 ∧ s.get F.CORR_ADDR_INDEX ≤ 8449 ∧
    s.xkGridAt (s.get F.CORR_ADDR_HEAD) 8449 + 2 ≤ siloSize ∧ unnamed 0x7FFF 0x7FFF = false ∧ unnamed 0x8000 0x7FFF = true ∧
    xkTarget true 5 0xFFFF = 4 := by decide +kernel

/-- EncodingRoundTrip: words of an engine and of a list. -/
theorem witness_encoding :
    (encodeEngine (.add 16 6 4 7 true)).isSome = true ∧ (encodeEngine (.ld 0 2 3 (.imm 8))).isSome = true ∧
    (encodeXk (.xkBranch 0 0x7FFF)).isSome = true := by decide +kernel

/-- StepRunsFrontCommand, StepKeepsCanonicalForm, ResetAndIdle: a queue of one command, its step, and a time base that runs without slew. -/
theorem witness_step :
    (∃ t, step { timed with pending := [.ts32Wrap] } = .next t) ∧ { timed with pending := [.ts32Wrap] }.Canon ∧
    ({ timed with pending := [.ts32Wrap] } : State).pending = .ts32Wrap :: [] ∧ timed.QueueWf ∧ timed.time.running = true ∧ timed.slewNow = 0 ∧
    timed.int F.TIME_ADDEND_FREQ = 0 := by
  refine ⟨⟨_, rfl⟩, canon_of _ ?_, rfl, ?_, ?_⟩
  · decide
  · unfold State.QueueWf; decide
  · decide +kernel

end Sys2Proof.Tests
end

section
/-! SUPPORT. How an instruction of a ready engine ends, from what its body does: it completes, jumps or traps. -/

namespace Sys2Proof.Machine

variable {s t : State} {e : Eng} {i : Instr} {len : Nat} {ill : Option Nat} {body : State → Eff} {f : Engine → Engine} {x : Engine}

/-! ### What the awake state reads -/

@[simp] theorem State.awake_engPriv : (s.awake e).engPriv e = s.engPriv e := by
  unfold State.engPriv
  rw [State.awake_get]

@[simp] theorem State.awake_flagsWord : (s.awake e).flagsWord e = s.flagsWord e := by
  unfold State.flagsWord
  rw [State.awake_eng, State.awake_engPriv]

@[simp] theorem State.awake_ecauseWord : (s.awake e).ecauseWord e = s.ecauseWord e := by
  unfold State.ecauseWord
  rw [State.awake_eng]

@[simp] theorem State.awake_eretEnds : (s.awake e).eretEnds e = s.eretEnds e := by
  unfold State.eretEnds
  rw [State.awake_beam]

/-- An update of an engine depends on f only at that engine, so it is the update by a constant. -/
theorem State.modEng_const : s.modEng e f = s.modEng e fun _ => f s.eng[e] := rfl

@[simp] theorem badField_false : badField false = none := rfl

/-- A field that is not what it must be is illegal with DETAIL 2 (R150). -/
@[simp] theorem badField_true : badField true = some 2 := rfl

/-! ### The ends of an instruction -/

/-- A legal body that is done leaves its state, the program counter behind the instruction. -/
theorem State.Ready.exec_of_done (h : s.Ready e) (hi : exec i s = .next (s.runEng e i len ill body)) (hl : ill = none)
    (hb : body (s.awake e) = .done t) :
    exec i s = .next (t.modEng e fun x => { x with pc := s.eng[e].pc + BitVec.ofNat 32 len }) := by
  rw [hi, State.runEng_ready h, hl, hb]

/-- A legal body that is done, with no change outside its engine, completes. -/
theorem State.Ready.completes (h : s.Ready e) (hi : exec i s = .next (s.runEng e i len ill body)) (hl : ill = none)
    (hb : body (s.awake e) = .done t) (ho : s.OnlyEngine t e) (hx : t.eng[e] = x) : s.Completes e i len x := by
  refine ⟨_, h.exec_of_done hi hl hb, ho.of_modEng, ?_⟩
  rw [State.modEng_eng, vmod_same, hx]

/-- A legal body that only updates its own engine completes with the updated engine. -/
theorem State.Ready.completes_update (h : s.Ready e) (hi : exec i s = .next (s.runEng e i len ill body)) (hl : ill = none)
    (hb : body (s.awake e) = .done ((s.awake e).modEng e f)) (hx : f s.eng[e] = x) : s.Completes e i len x := by
  refine h.completes hi hl hb State.OnlyEngine.awake.of_modEng ?_
  rw [State.modEng_eng, vmod_same, State.awake_eng, hx]

/-- A legal instruction that is a function of its own engine completes with the function's value. -/
theorem State.Ready.completes_local (h : s.Ready e) (hi : exec i s = .next (s.runLocal e i len ill f)) (hl : ill = none)
    (hx : f s.eng[e] = x) : s.Completes e i len x :=
  h.completes_update hi hl rfl hx

/-- A legal body that jumps goes on at the target. -/
theorem State.Ready.jumpsTo {pc : Word} (h : s.Ready e) (hi : exec i s = .next (s.runEng e i len ill body)) (hl : ill = none)
    (hb : body (s.awake e) = .jump t pc) (ho : s.OnlyEngine t e) (hx : t.eng[e] = x) : s.JumpsTo e i x pc := by
  refine ⟨_, by rw [hi, State.runEng_ready h, hl, hb], ho.of_modEng, ?_⟩
  rw [State.modEng_eng, vmod_same, hx]

/-- A legal body that holds leaves the state it gives. -/
theorem State.Ready.exec_of_hold (h : s.Ready e) (hi : exec i s = .next (s.runEng e i len ill body)) (hl : ill = none)
    (hb : body (s.awake e) = .hold t) : exec i s = .next t := by
  rw [hi, State.runEng_ready h, hl, hb]

/-- An illegal encoding takes the illegal-instruction exception with its DETAIL (R150). -/
theorem State.Ready.traps {d : Nat} (h : s.Ready e) (hi : exec i s = .next (s.runEng e i len ill body)) (hl : ill = some d) :
    s.Traps e i 1 d := by
  unfold State.Traps
  rw [hi, State.runEng_ready h, hl]

end Sys2Proof.Machine
end

section
/-! SUPPORT. Integer division and the immediate rows (R155, R156, R158). -/

namespace Sys2Proof.Machine

variable {s : State} {e : Eng} {i : Instr} {d a b : GReg} {S : Bool}

/-! ### Division -/

/-- The engine after a division (R156): g[d], the flags with S = 1, and else V gathered. -/
def Engine.divided (x : Engine) (d : GReg) (S : Bool) (r : Word) (odd : Bool) : Engine :=
  { x.setG d r with
    flags := if S then { x.flags with n := r.getLsbD 31, z := decide (r = 0), c := false, v := odd }
      else { x.flags with v := x.flags.v || odd } }

/-- A division whose function gives r and odd. -/
theorem State.Ready.completes_div {f : Word → Word → Word × Bool} {r : Word} {odd : Bool} (h : s.Ready e)
    (hi : exec i s = .next (s.divRow e i d a b S f)) (hf : f (s.eng[e].rd a) (s.eng[e].rd b) = (r, odd)) :
    s.Completes e i 4 (s.eng[e].divided d S r odd) := by
  refine h.completes_local hi rfl ?_
  simp only [hf, Engine.divided, Engine.alu, Flags.of]
  cases odd <;> cases S <;> simp

/-- A choice of pairs by two conditions that mark the same cases as `odd`. -/
theorem pair_of_corners {c k : Prop} [Decidable c] [Decidable k] (u v w : Word) :
    (if c then (u, true) else if k then (v, true) else (w, false)) =
      ((if c then u else if k then v else w), decide (c ∨ k)) := by
  split_ifs <;> simp [*]

theorem pair_of_zero {c : Prop} [Decidable c] (u w : Word) :
    (if c then (u, true) else (w, false)) = ((if c then u else w), decide c) := by
  split_ifs <;> simp [*]

/-- Settles O3: each division is `divRow` of its function, whose pair is the result and the odd cases. -/
theorem divisionRowsComplete : Obligations.DivisionRowsComplete := by
  unfold Obligations.DivisionRowsComplete
  intro s e d a b S h
  refine ⟨?div, ?divu, ?rem, ?remu⟩
  case div | rem => exact h.completes_div rfl (pair_of_corners ..)
  case divu => exact h.completes_div rfl (by rw [← BitVec.udiv_def]; exact pair_of_zero ..)
  case remu => exact h.completes_div rfl (by rw [← BitVec.umod_def]; exact pair_of_zero ..)

/-! ### Immediates -/

/-- A legal row of R158 that leaves the flags. -/
theorem State.Ready.completes_imm {m : Imm} {ill : Option Nat} {f : Word → Word} {v : Word} (h : s.Ready e)
    (hi : exec i s = .next (s.immRow e i d a m ill f)) (hl : ill = none) (hv : f (s.eng[e].rd a) = v) :
    s.Completes e i (immLen m) (s.eng[e].setG d v) :=
  h.completes_local hi hl (by rw [hv])

/-- Signed overflow in the form of R158: the exact result lies outside the signed 32-bit range. -/
theorem signedOverflow_eq (k : Int) : signedOverflow k = decide (¬(-(2 ^ 31) ≤ k ∧ k < 2 ^ 31)) := by
  unfold signedOverflow
  rw [decide_eq_decide]
  omega

/-- A comparison's flags are those of the difference (R155, R158). -/
theorem Flags.of_subOut_true (f : Flags) (p q : Word) :
    f.of (subOut p q true) = { f with
      n := (p - q).getLsbD 31, z := decide (p - q = 0), c := decide (q.toNat ≤ p.toNat)
      v := decide (¬(-(2 ^ 31) ≤ p.toInt - q.toInt ∧ p.toInt - q.toInt < 2 ^ 31)) } := by
  simp only [Flags.of, subOut, b2n, signedOverflow_eq, if_true, Nat.sub_self, Nat.add_zero, Nat.cast_zero, Int.sub_zero,
    BitVec.ofNat_eq_ofNat, BitVec.sub_zero]

theorem sltWord_eq (p q : Word) : (if p.slt q then (1 : Word) else 0) = if p.toInt < q.toInt then 1 else 0 := by
  simp only [BitVec.slt_iff_toInt_lt]

theorem sltuWord_eq (p q : Word) : (if p.ult q then (1 : Word) else 0) = if p.toNat < q.toNat then 1 else 0 := by
  simp only [BitVec.ult_iff_toNat_lt]

/-- Settles O5: each row is `immRow`, or an update of the flags; the operand forms are those of `immSext`, `immZext` and `immHigh`. -/
theorem immediateRowsComplete : Obligations.ImmediateRowsComplete := by
  unfold Obligations.ImmediateRowsComplete
  intro s e d a m h
  refine ⟨?addi, ?andi, ?ori, ?xori, fun ha => ?lui, fun ha => ?luiTraps, ?slti, ?sltiu, fun hd => ?cmpi, fun hd => ?cmpiTraps,
    fun hd => ?tsti, fun hd => ?tstiTraps⟩
  case addi | andi | ori | xori => exact h.completes_imm rfl rfl rfl
  case lui => exact h.completes_imm rfl (by simp [ha]) rfl
  case slti => exact h.completes_imm rfl rfl (sltWord_eq ..)
  case sltiu => exact h.completes_imm rfl rfl (sltuWord_eq ..)
  case cmpi => exact h.completes_local rfl (by simp [hd]) (by rw [Flags.of_subOut_true]; rfl)
  case tsti => exact h.completes_local rfl (by simp [hd]) rfl
  case luiTraps => exact h.traps rfl (by simp [ha])
  case cmpiTraps | tstiTraps => exact h.traps rfl (by simp [hd])

end Sys2Proof.Machine
end

section
/-! SUPPORT. Q15 and accumulator instructions (R159-R162). -/

namespace Sys2Proof.Machine

variable {s : State} {e : Eng} {i : Instr} {d a b : GReg} {ill : Option Nat}

/-- A clamp to a signed range is a cut. -/
theorem sat40_eq (k : Int) : sat40 k = (cutTo (2 ^ 39) k, decide (cutTo (2 ^ 39) k ≠ k)) := rfl

theorem satQ15_eq (k : Int) : satQ15 k = (cutTo 32768 k, decide (cutTo 32768 k ≠ k)) := rfl

/-- The field that names accumulator n names it. -/
@[simp] theorem accOf_accField (n : Fin 8) : accOf (accField n) = n :=
  Fin.ext (Nat.mod_eq_of_lt n.isLt)

@[simp] theorem notAcc_accField (n : Fin 8) : notAcc (accField n) = false :=
  decide_eq_false (Nat.not_le.2 n.isLt)

theorem notAcc_of_le (h : 8 ≤ d.val) : notAcc d = true := decide_eq_true h

/-- A legal instruction that sets the accumulator its field names to k, saturated. -/
theorem State.Ready.accResult {n : Fin 8} {k : Int} {v : Engine → Int} (h : s.Ready e)
    (hi : exec i s = .next (s.runLocal e i 4 ill fun x => x.setAcc (accOf (accField n)) (v x))) (hl : ill = none)
    (hv : v s.eng[e] = k) : s.AccResult e i n k := by
  subst hv
  exact h.completes_local hi hl (by rw [accOf_accField, Engine.setAcc, sat40_eq]; rfl)

/-- A legal instruction that sets g[d] to k, saturated to Q15. -/
theorem State.Ready.q15Result {k : Int} {v : Engine → Int} (h : s.Ready e)
    (hi : exec i s = .next (s.runLocal e i 4 ill fun x => x.setQ d (satQ15 (v x)))) (hl : ill = none) (hv : v s.eng[e] = k) :
    s.Q15Result e i d k := by
  subst hv
  exact h.completes_local hi hl (by
    simp only [Engine.setQ, satQ15_eq, Engine.gather, Engine.setG]
    split <;> rfl)

/-- The b field as a signed shift of 5 bits (R161): left below 16, else right by what is missing to 32. -/
theorem sgn5_eq (b : GReg) : sgn 5 b.val = if b.val < 16 then (b.val : Int) else b.val - 32 := by
  have hb := b.isLt
  simp only [sgn, Nat.reducePow, Nat.reduceSub, Nat.mod_eq_of_lt hb, Nat.cast_ofNat]

theorem ashaValue_eq (k : Int) (b : GReg) :
    (if 0 ≤ sgn 5 b.val then k * 2 ^ (sgn 5 b.val).toNat else rdivEven k (2 ^ (-sgn 5 b.val).toNat)) =
      if b.val < 16 then k * 2 ^ b.val else rdivEven k (2 ^ (32 - b.val)) := by
  have hb := b.isLt
  rw [sgn5_eq]
  by_cases hs : b.val < 16
  · rw [if_pos hs, if_pos hs, if_pos (Int.natCast_nonneg _), Int.toNat_natCast]
  · rw [if_neg hs, if_neg hs, if_neg (by omega), show (-((b.val : Int) - 32)).toNat = 32 - b.val by omega]

/-- Bits 39:32 of an accumulator, sign-extended, are its quotient by 2^32 (R162). -/
theorem accHigh_eq (w : BitVec 40) : BitVec.ofInt 32 (w.toInt.fdiv (2 ^ 32)) = (w.extractLsb' 32 8).signExtend 32 := by
  have hw := w.isLt
  have hm : (w.extractLsb' 32 8).toInt = w.toInt.fdiv (2 ^ 32) := by
    rw [BitVec.toInt_eq_toNat_cond, BitVec.toInt_eq_toNat_cond, BitVec.extractLsb'_toNat, Int.fdiv_eq_ediv_of_nonneg _ (by decide),
      Nat.shiftRight_eq_div_pow]
    split_ifs <;> omega
  rw [← hm]
  rfl

/-- Settles O6, first the results row by row, then the fields: `badField` finds each that is wrong. -/
theorem accumulatorRowsComplete : Obligations.AccumulatorRowsComplete := by
  unfold Obligations.AccumulatorRowsComplete
  refine ⟨fun s e n m d a b h => ?_, fun s e d a b h => ⟨fun hd => ?_, fun ha => ?_, fun hb => ?_, fun ha => ?_⟩⟩
  · have hN : badField (notAcc (accField n)) = none := by simp
    refine ⟨?macq, ?msuq, ?mulqa, ?clra, ?adda, ?asha, ?addq, ?subq, ?mulq, ?rndq, ?rdal, ?rdah, ?wra, ?movqa⟩
    case macq | msuq => exact h.accResult rfl hN (by simp only [accOf_accField]; rfl)
    case mulqa => exact h.accResult rfl hN rfl
    case clra => exact h.accResult rfl (by simp) rfl
    case adda => exact h.accResult rfl (by simp) (by simp only [accOf_accField]; rfl)
    case asha => exact h.accResult rfl (by simp) (by simp only [accOf_accField]; exact ashaValue_eq ..)
    case addq | subq | mulq => exact h.q15Result rfl rfl rfl
    case rndq => exact h.q15Result rfl (by simp) (by simp only [accOf_accField]; rfl)
    case rdal => exact h.completes_local rfl (by simp) (by simp only [accOf_accField])
    case rdah => exact h.completes_local rfl (by simp) (by simp only [accOf_accField, accVal, accHigh_eq])
    case wra => exact h.completes_local rfl hN (by simp only [accOf_accField])
    case movqa => exact h.completes_local rfl (by simp) (by simp only [accOf_accField]; rfl)
  · have hD := notAcc_of_le hd
    refine ⟨?_, ?_, ?_, ?_, ?_, ?_, ?_, ?_⟩ <;> exact h.traps rfl (by simp [hD])
  · have hA := notAcc_of_le ha
    refine ⟨?_, ?_, ?_, ?_⟩ <;> exact h.traps rfl (by simp [hA])
  · refine ⟨?_, ?_, ?_, ?_, ?_, ?_⟩ <;> exact h.traps rfl (by simp [hb])
  · exact ⟨h.traps rfl (by simp [ha]), h.traps rfl (by simp [ha])⟩

end Sys2Proof.Machine
end

section
/-! SUPPORT. Conditions, branches, the return from a handler and special registers (R142, R143, R151, R167, R169, R183). -/

namespace Sys2Proof.Machine

variable {s : State} {e : Eng} {d a b : GReg}

/-- Settles O11: `Flags.holds` case by case; equal flags compare as `decide` does. -/
theorem conditionCodes : Obligations.ConditionCodes := by
  unfold Obligations.ConditionCodes
  intro f
  have heq : (f.n == f.v) = decide (f.n = f.v) := Bool.beq_eq_decide_eq ..
  have hne : (f.n != f.v) = decide (f.n ≠ f.v) := by rw [bne, heq, decide_not]
  refine ⟨rfl, rfl, rfl, rfl, rfl, rfl, rfl, rfl, rfl, rfl, heq, hne, ?_, ?_, rfl, rfl⟩
  · exact congrArg (!f.z && ·) heq
  · exact congrArg (f.z || ·) hne

/-- Settles O12: the body jumps where the condition holds, and else is done; CALL writes g31 on its way. -/
theorem branchAndCallComplete : Obligations.BranchAndCallComplete := by
  unfold Obligations.BranchAndCallComplete
  intro s e cond ofs h
  have hx : (s.awake e).eng[e] = s.eng[e] := by rw [State.awake_eng]
  refine ⟨fun hc => ⟨?_, ?_⟩, fun hc => ⟨?_, ?_⟩⟩
  · exact h.jumpsTo rfl rfl (by rw [hx, if_pos hc]; rfl) State.OnlyEngine.awake hx
  · refine h.jumpsTo rfl rfl (by rw [hx, if_pos hc]; rfl) State.OnlyEngine.awake.of_modEng ?_
    rw [State.modEng_eng, vmod_same, hx]
  · exact h.completes rfl rfl (by rw [hx, hc, if_neg Bool.false_ne_true]) State.OnlyEngine.awake hx
  · exact h.completes rfl rfl (by rw [hx, hc, if_neg Bool.false_ne_true]) State.OnlyEngine.awake hx

/-- Settles O14: with zero fields ERET restores the flags and jumps to EPC, or ends the handler of a swath that is over (R215). -/
theorem eretCompletes : Obligations.EretCompletes := by
  unfold Obligations.EretCompletes
  intro s e d a b fn h
  have hx : (s.awake e).eng[e] = s.eng[e] := by rw [State.awake_eng]
  refine ⟨fun hn => ?_, fun c hc => ?_, fun hf => h.traps rfl ?_⟩
  · refine h.jumpsTo rfl rfl (by rw [State.awake_eretEnds, hn, hx]) State.OnlyEngine.awake.of_modEng ?_
    rw [State.modEng_eng, vmod_same, hx]
    rfl
  · rw [h.exec_of_hold (i := .eret e 0 0 0 0) rfl rfl (by rw [State.awake_eretEnds, hc]), State.modEng_const, hx]
    rfl
  · rw [decide_eq_true hf, badField_true]

/-! ### Special registers -/

/-- What special register n shows engine e (R142). -/
def State.special (s : State) (e : Eng) (n : Nat) : Word :=
  match n with
  | 0 => s.eng[e].pc
  | 1 => BitVec.ofNat 32 (s.flagsWord e)
  | 2 => s.eng[e].epc
  | 3 => s.ecauseWord e
  | 4 => s.time.ts32
  | _ => s.time.tnowHi[readerOfEng e]

@[simp] theorem State.awake_special (n : Nat) : (s.awake e).special e n = s.special e n := by
  unfold State.special
  rw [State.awake_eng, State.awake_flagsWord, State.awake_ecauseWord, State.awake_time]

/-- MFS with its other fields 0, of a register that is not reserved and not TNOW_LO, reads it and changes nothing else (R169). -/
theorem State.Ready.completes_mfs (h : s.Ready e) (ha : a.val < 6) (h4 : a.val ≠ 4) :
    s.Completes e (.mfs e d a 0 0) 4 (s.eng[e].setG d (s.special e a.val)) := by
  refine h.completes_update (f := fun x => x.setG d ((s.awake e).special e a.val)) rfl ?_ ?_ (by rw [State.awake_special])
  · exact if_neg (Nat.not_le.2 ha)
  · simp only [if_neg h4]
    rfl

/-- The latch of TNOW_HI by a read of TNOW_LO is all that the read changes outside its engine (R99, R142). -/
theorem State.But.latchNow_awake (r : Fin 30) : (s.latchNow r).But ((s.awake e).latchNow r) e := by
  obtain ⟨p, hp⟩ := s.awake_eq e
  rw [hp]
  exact ⟨rfl, fun _ _ => rfl⟩

theorem State.But.of_modEng {u t : State} {f : Engine → Engine} (h : u.But t e) : u.But (t.modEng e f) e :=
  State.OnlyEngine.of_modEng h

/-- MFS of TNOW_LO latches TNOW_HI for its engine and reads TS32 (R99, R142). -/
theorem State.Ready.mfs_tnowLo (h : s.Ready e) :
    ∃ t, exec (.mfs e d 4 0 0) s = .next t ∧ (s.latchNow (readerOfEng e)).But t e ∧
      t.eng[e] = { s.eng[e].setG d s.time.ts32 with pc := s.eng[e].pc + 4 } := by
  refine ⟨_, h.exec_of_done rfl rfl rfl, (State.But.latchNow_awake _).of_modEng.of_modEng, ?_⟩
  rw [State.modEng_eng, vmod_same, State.modEng_eng, vmod_same, State.latchNow, State.awake_eng, State.awake_time]
  rfl

/-- Settles O15: what each number shows is `special`, TNOW_LO latches first, and a write is an update of one field. -/
theorem specialRegistersComplete : Obligations.SpecialRegistersComplete := by
  unfold Obligations.SpecialRegistersComplete
  intro s e d a b fn h
  refine ⟨?pc, ?flags, ?epc, ?ecause, h.mfs_tnowLo, ?tnowHi, ?setFlags, ?setEpc, ?setEcause, fun ha => ?reserved,
    fun hd => ?readOnly, fun hf => ⟨?mfsFields, ?mtsFields⟩⟩
  case pc | flags | epc | ecause | tnowHi => exact h.completes_mfs (by decide) (by decide)
  case setFlags | setEpc | setEcause => exact h.completes_local rfl rfl rfl
  case reserved => exact h.traps rfl (if_pos ha)
  case readOnly =>
    have hn : ¬(d.val = 1 ∨ d.val = 2 ∨ d.val = 3) := by omega
    exact h.traps rfl (if_neg hn)
  case mfsFields | mtsFields => exact h.traps rfl (if_pos hf)

end Sys2Proof.Machine
end

section
/-! SUPPORT. Every command, and with it every step, leaves the stores canonical and takes nothing from the queue's rest (log entries 1 and 3). -/

namespace Sys2Proof.Machine

/-- Every command keeps the queue it is given and canonical stores: the lemma of its own meaning, command by command. -/
theorem exec_kept {q : List Instr} {s : State} (i : Instr) (hs : s.Kept q) : OutKept q (exec i s) := by
  cases i with
  | registerWrite => exact execRegisterWrite_kept hs
  | producerStallRelease => exact execProducerStallRelease_kept hs
  | queueRoomResume => exact execQueueRoomResume_kept hs
  | cellQueueEntry => exact execCellQueueEntry_kept hs
  | edgeRelease => exact execEdgeRelease_kept hs
  | inputEdgeCapture => exact execInputEdgeCapture_kept hs
  | powerIdleTimeout => exact execPowerIdleTimeout_kept hs
  | domainWakeDone => exact execDomainWakeDone_kept hs
  | sysPwrPolicyWrite => exact execSysPwrPolicyWrite_kept hs
  | bedmapConfigWrite => exact execBedmapConfigWrite_kept hs
  | bedmapClearDone => exact execBedmapClearDone_kept hs
  | exposureUpdate => exact execExposureUpdate_kept hs
  | layerTimeSaturate => exact execLayerTimeSaturate_kept hs
  | ringTailWrite => exact execRingTailWrite_kept hs
  | dispatchClaim => exact execDispatchClaim_kept hs
  | swathDone => exact execSwathDone_kept hs
  | leaseReleaseEffect => exact execLeaseReleaseEffect_kept hs
  | schedule => exact execSchedule_kept hs
  | armingDone => exact execArmingDone_kept hs
  | layerBegin => exact execLayerBegin_kept hs
  | layerLocalEnd => exact execLayerLocalEnd_kept hs
  | close => exact execClose_kept hs
  | abort => exact execAbort_kept hs
  | abortComplete => exact execAbortComplete_kept hs
  | recoatDone => exact execRecoatDone_kept hs
  | waive => exact execWaive_kept hs
  | cancel => exact execCancel_kept hs
  | ts32Wrap => exact execTs32Wrap_kept hs
  | extWrite => exact execExtWrite_kept hs
  | extLost => exact execExtLost_kept hs
  | pllLock => exact execPllLock_kept hs
  | refclkLoss => exact execRefclkLoss_kept hs
  | lockRestored => exact execLockRestored_kept hs
  | timeNowLoRead => exact execTimeNowLoRead_kept hs
  | timeDomCfgWrite => exact execTimeDomCfgWrite_kept hs
  | timeDomOfsLoRead who => exact execTimeDomOfsLoRead_kept (a0 := who) hs
  | timeGcellCfgWrite => exact execTimeGcellCfgWrite_kept hs
  | timeGcellCapHiRead who => exact execTimeGcellCapHiRead_kept (a0 := who) hs
  | timeStepRequest => exact execTimeStepRequest_kept hs
  | ts64Step => exact execTs64Step_kept hs
  | ptpSyncReceive => exact execPtpSyncReceive_kept hs
  | ptpFollowUpReceive => exact execPtpFollowUpReceive_kept hs
  | ptpAnnounceReceive => exact execPtpAnnounceReceive_kept hs
  | ptpDelayReqReceive => exact execPtpDelayReqReceive_kept hs
  | ptpDelayRespReceive => exact execPtpDelayRespReceive_kept hs
  | ptpSyncSend => exact execPtpSyncSend_kept hs
  | ptpAnnounceSend => exact execPtpAnnounceSend_kept hs
  | ptpDelayReqSend => exact execPtpDelayReqSend_kept hs
  | flSyncSend => exact execFlSyncSend_kept hs
  | flSyncReceive => exact execFlSyncReceive_kept hs
  | flDelayReqSend => exact execFlDelayReqSend_kept hs
  | flDelayReqReceive => exact execFlDelayReqReceive_kept hs
  | flDelayRespReceive => exact execFlDelayRespReceive_kept hs
  | domainLoss => exact execDomainLoss_kept hs
  | domainRevert => exact execDomainRevert_kept hs
  | add => exact execAdd_kept hs
  | sub => exact execSub_kept hs
  | and => exact execAnd_kept hs
  | or => exact execOr_kept hs
  | xor => exact execXor_kept hs
  | slt => exact execSlt_kept hs
  | sltu => exact execSltu_kept hs
  | min => exact execMin_kept hs
  | max => exact execMax_kept hs
  | minu => exact execMinu_kept hs
  | maxu => exact execMaxu_kept hs
  | addc => exact execAddc_kept hs
  | subb => exact execSubb_kept hs
  | mul => exact execMul_kept hs
  | mulh => exact execMulh_kept hs
  | mulhu => exact execMulhu_kept hs
  | div => exact execDiv_kept hs
  | divu => exact execDivu_kept hs
  | rem => exact execRem_kept hs
  | remu => exact execRemu_kept hs
  | sll => exact execSll_kept hs
  | srl => exact execSrl_kept hs
  | sra => exact execSra_kept hs
  | ror => exact execRor_kept hs
  | addi => exact execAddi_kept hs
  | andi => exact execAndi_kept hs
  | ori => exact execOri_kept hs
  | xori => exact execXori_kept hs
  | lui => exact execLui_kept hs
  | slti => exact execSlti_kept hs
  | sltiu => exact execSltiu_kept hs
  | cmpi => exact execCmpi_kept hs
  | tsti => exact execTsti_kept hs
  | macq => exact execMacq_kept hs
  | msuq => exact execMsuq_kept hs
  | mulqa => exact execMulqa_kept hs
  | clra => exact execClra_kept hs
  | rndq => exact execRndq_kept hs
  | addq => exact execAddq_kept hs
  | subq => exact execSubq_kept hs
  | mulq => exact execMulq_kept hs
  | adda => exact execAdda_kept hs
  | asha => exact execAsha_kept hs
  | rdal => exact execRdal_kept hs
  | rdah => exact execRdah_kept hs
  | wra => exact execWra_kept hs
  | movqa => exact execMovqa_kept hs
  | lw => exact execLw_kept hs
  | lh => exact execLh_kept hs
  | lhu => exact execLhu_kept hs
  | lb => exact execLb_kept hs
  | lbu => exact execLbu_kept hs
  | sw => exact execSw_kept hs
  | sh => exact execSh_kept hs
  | sb => exact execSb_kept hs
  | ld => exact execLd_kept hs
  | sd => exact execSd_kept hs
  | atomSwap => exact execAtomSwap_kept hs
  | atomAdd => exact execAtomAdd_kept hs
  | atomCas => exact execAtomCas_kept hs
  | atomOr => exact execAtomOr_kept hs
  | atomAnd => exact execAtomAnd_kept hs
  | fence => exact execFence_kept hs
  | b => exact execB_kept hs
  | call => exact execCall_kept hs
  | jr => exact execJr_kept hs
  | jalr => exact execJalr_kept hs
  | eret => exact execEret_kept hs
  | mfs => exact execMfs_kept hs
  | mts => exact execMts_kept hs
  | waitt => exact execWaitt_kept hs
  | waitr => exact execWaitr_kept hs
  | waitResume => exact execWaitResume_kept hs
  | sched => exact execSched_kept hs
  | rput => exact execRput_kept hs
  | rget => exact execRget_kept hs
  | rcount => exact execRcount_kept hs
  | evsig => exact execEvsig_kept hs
  | waite => exact execWaite_kept hs
  | evpoll => exact execEvpoll_kept hs
  | bmrd => exact execBmrd_kept hs
  | bmsete => exact execBmsete_kept hs
  | bmwt => exact execBmwt_kept hs
  | bmflag => exact execBmflag_kept hs
  | bmidx => exact execBmidx_kept hs
  | halt => exact execHalt_kept hs
  | wdog => exact execWdog_kept hs
  | watchdogExpiry => exact execWatchdogExpiry_kept hs
  | pendingExceptionTaken => exact execPendingExceptionTaken_kept hs
  | engineRun => exact execEngineRun_kept hs
  | engineStop => exact execEngineStop_kept hs
  | engineReset => exact execEngineReset_kept hs
  | sysEngWdogWrite => exact execSysEngWdogWrite_kept hs
  | mark => exact execMark_kept hs
  | jump => exact execJump_kept hs
  | arc => exact execArc_kept hs
  | speed => exact execSpeed_kept hs
  | power => exact execPower_kept hs
  | delay => exact execDelay_kept hs
  | fly => exact execFly_kept hs
  | pulse => exact execPulse_kept hs
  | loopsel => exact execLoopsel_kept hs
  | lease => exact execLease_kept hs
  | leaseRetry => exact execLeaseRetry_kept hs
  | release => exact execRelease_kept hs
  | sync => exact execSync_kept hs
  | barrierWithdraw => exact execBarrierWithdraw_kept hs
  | tstamp => exact execTstamp_kept hs
  | swend => exact execSwend_kept hs
  | safe => exact execSafe_kept hs
  | safeCommit => exact execSafeCommit_kept hs
  | swathRestart => exact execSwathRestart_kept hs
  | sequenceStarve => exact execSequenceStarve_kept hs
  | setpointFrame => exact execSetpointFrame_kept hs
  | positionPayload => exact execPositionPayload_kept hs
  | positionTimeout => exact execPositionTimeout_kept hs
  | lpwrSlot => exact execLpwrSlot_kept hs
  | laserAlarm => exact execLaserAlarm_kept hs
  | permitWithdrawn => exact execPermitWithdrawn_kept hs
  | permitRestored => exact execPermitRestored_kept hs
  | laserResume => exact execLaserResume_kept hs
  | beamCorrBaseWrite => exact execBeamCorrBaseWrite_kept hs
  | arbWindowClose => exact execArbWindowClose_kept hs
  | leaseExpiry => exact execLeaseExpiry_kept hs
  | reservationLapse => exact execReservationLapse_kept hs
  | replayStall => exact execReplayStall_kept hs
  | peerReqReceive => exact execPeerReqReceive_kept hs
  | peerGrantReceive => exact execPeerGrantReceive_kept hs
  | peerTimeout => exact execPeerTimeout_kept hs
  | peerCancelReceive => exact execPeerCancelReceive_kept hs
  | peerRenewSend => exact execPeerRenewSend_kept hs
  | peerRenewReceive => exact execPeerRenewReceive_kept hs
  | peerRenewAckReceive => exact execPeerRenewAckReceive_kept hs
  | peerReleaseReceive => exact execPeerReleaseReceive_kept hs
  | remoteEntryExpiry => exact execRemoteEntryExpiry_kept hs
  | peerEnergyReceive => exact execPeerEnergyReceive_kept hs
  | peerGeomReceive => exact execPeerGeomReceive_kept hs
  | peerLost => exact execPeerLost_kept hs
  | retireWrite => exact execRetireWrite_kept hs
  | moveComplete => exact execMoveComplete_kept hs
  | retireClear => exact execRetireClear_kept hs
  | loopSample => exact execLoopSample_kept hs
  | loopOverrun => exact execLoopOverrun_kept hs
  | rateEffChange => exact execRateEffChange_kept hs
  | bedERead => exact execBedERead_kept hs
  | loopConfigWrite => exact execLoopConfigWrite_kept hs
  | captureArm => exact execCaptureArm_kept hs
  | captureStop => exact execCaptureStop_kept hs
  | loopInjCfgWrite => exact execLoopInjCfgWrite_kept hs
  | loopResume => exact execLoopResume_kept hs
  | frameStart => exact execFrameStart_kept hs
  | line => exact execLine_kept hs
  | frameEnd => exact execFrameEnd_kept hs
  | camSetCommit => exact execCamSetCommit_kept hs
  | camSetRepeat => exact execCamSetRepeat_kept hs
  | provisionalChoice => exact execProvisionalChoice_kept hs
  | unitComplete => exact execUnitComplete_kept hs
  | streamEnable => exact execStreamEnable_kept hs
  | streamDisable => exact execStreamDisable_kept hs
  | imgCamCtxWrite => exact execImgCamCtxWrite_kept hs
  | moveAbs => exact execMoveAbs_kept hs
  | moveRel => exact execMoveRel_kept hs
  | vel => exact execVel_kept hs
  | stop => exact execStop_kept hs
  | stopAll => exact execStopAll_kept hs
  | home => exact execHome_kept hs
  | setPos => exact execSetPos_kept hs
  | axGo => exact execAxGo_kept hs
  | axMaxSpeedWrite => exact execAxMaxSpeedWrite_kept hs
  | axAccelWrite => exact execAxAccelWrite_kept hs
  | moveEnd => exact execMoveEnd_kept hs
  | limitInput => exact execLimitInput_kept hs
  | encoderEdge => exact execEncoderEdge_kept hs
  | encoderCheck => exact execEncoderCheck_kept hs
  | bridgeFrame => exact execBridgeFrame_kept hs
  | holdScaleTimeout => exact execHoldScaleTimeout_kept hs
  | keyLost => exact execKeyLost_kept hs
  | quadPllLock => exact execQuadPllLock_kept hs
  | lnCfgWrite => exact execLnCfgWrite_kept hs
  | seekBurst => exact execSeekBurst_kept hs
  | seekTimeout => exact execSeekTimeout_kept hs
  | signalDetect => exact execSignalDetect_kept hs
  | partnerLoss => exact execPartnerLoss_kept hs
  | tsReceive => exact execTsReceive_kept hs
  | trainingTimeout => exact execTrainingTimeout_kept hs
  | checkComplete => exact execCheckComplete_kept hs
  | retrain => exact execRetrain_kept hs
  | unretire => exact execUnretire_kept hs
  | clrRefused => exact execClrRefused_kept hs
  | liveScanCycle => exact execLiveScanCycle_kept hs
  | eyeScanStart => exact execEyeScanStart_kept hs
  | eyeScanDone => exact execEyeScanDone_kept hs
  | linkFrameReceive => exact execLinkFrameReceive_kept hs
  | ackSend => exact execAckSend_kept hs
  | ackNakReceive => exact execAckNakReceive_kept hs
  | replayTimeout => exact execReplayTimeout_kept hs
  | creditReceive => exact execCreditReceive_kept hs
  | creditSend => exact execCreditSend_kept hs
  | frameTransmit => exact execFrameTransmit_kept hs
  | anComplete => exact execAnComplete_kept hs
  | sgmiiConfigReceive => exact execSgmiiConfigReceive_kept hs
  | ethSyncLoss => exact execEthSyncLoss_kept hs
  | helloSend => exact execHelloSend_kept hs
  | helloReceive => exact execHelloReceive_kept hs
  | lsaIssue => exact execLsaIssue_kept hs
  | lsaReceive => exact execLsaReceive_kept hs
  | lsaExpiry => exact execLsaExpiry_kept hs
  | routeCompute => exact execRouteCompute_kept hs
  | routedFrame => exact execRoutedFrame_kept hs
  | keyRenewSend => exact execKeyRenewSend_kept hs
  | keyRenewReceive => exact execKeyRenewReceive_kept hs
  | keyRenewAckReceive => exact execKeyRenewAckReceive_kept hs
  | keyExpiry => exact execKeyExpiry_kept hs
  | keyRelease => exact execKeyRelease_kept hs
  | keyReleaseReceive => exact execKeyReleaseReceive_kept hs
  | electionStart => exact execElectionStart_kept hs
  | electionRoundTimeout => exact execElectionRoundTimeout_kept hs
  | voteReceive => exact execVoteReceive_kept hs
  | staleReceive node => exact execStaleReceive_kept (a0 := node) hs
  | healthSend => exact execHealthSend_kept hs
  | healthReceive => exact execHealthReceive_kept hs
  | layerSchedSend => exact execLayerSchedSend_kept hs
  | layerSchedReceive => exact execLayerSchedReceive_kept hs
  | layerStateSend => exact execLayerStateSend_kept hs
  | layerStateReceive => exact execLayerStateReceive_kept hs
  | layerReportDeadline => exact execLayerReportDeadline_kept hs
  | layerGoSend => exact execLayerGoSend_kept hs
  | layerGoReceive => exact execLayerGoReceive_kept hs
  | layerIdleReceive => exact execLayerIdleReceive_kept hs
  | layerAbortReceive => exact execLayerAbortReceive_kept hs
  | participantRemoval => exact execParticipantRemoval_kept hs
  | winnowCycle => exact execWinnowCycle_kept hs
  | fabricEnableWrite => exact execFabricEnableWrite_kept hs
  | ethFrameReceive => exact execEthFrameReceive_kept hs
  | arpRequest => exact execArpRequest_kept hs
  | gratuitousArp => exact execGratuitousArp_kept hs
  | icmpEcho => exact execIcmpEcho_kept hs
  | discover => exact execDiscover_kept hs
  | openReq => exact execOpenReq_kept hs
  | auth => exact execAuth_kept hs
  | authTimeout => exact execAuthTimeout_kept hs
  | vmpClose => exact execVmpClose_kept hs
  | keepalive => exact execKeepalive_kept hs
  | regRead => exact execRegRead_kept hs
  | regWrite => exact execRegWrite_kept hs
  | siloWrite => exact execSiloWrite_kept hs
  | siloRead => exact execSiloRead_kept hs
  | ringPut => exact execRingPut_kept hs
  | ringAck => exact execRingAck_kept hs
  | ringDataSend => exact execRingDataSend_kept hs
  | ringResend => exact execRingResend_kept hs
  | sessionTimeout => exact execSessionTimeout_kept hs
  | sessionKill => exact execSessionKill_kept hs
  | hostNetIpWrite => exact execHostNetIpWrite_kept hs
  | granarySeal => exact execGranarySeal_kept hs
  | imageWrite => exact execImageWrite_kept hs
  | winnowFull => exact execWinnowFull_kept hs
  | siloZeroise => exact execSiloZeroise_kept hs
  | keyProv => exact execKeyProv_kept hs
  | longDone => exact execLongDone_kept hs
  | eventDelivery => exact execEventDelivery_kept hs
  | evtHostRaise => exact execEvtHostRaise_kept hs
  | evtLastDataRead => exact execEvtLastDataRead_kept hs
  | evtOutPulseEnd => exact execEvtOutPulseEnd_kept hs
  | txSend => exact execTxSend_kept hs
  | rxDone => exact execRxDone_kept hs
  | txReset => exact execTxReset_kept hs
  | lbTxDataWrite => exact execLbTxDataWrite_kept hs
  | lbRxDataRead => exact execLbRxDataRead_kept hs
  | granaryWriteStart => exact execGranaryWriteStart_kept hs
  | granaryWriteDone => exact execGranaryWriteDone_kept hs
  | lossRecordStage => exact execLossRecordStage_kept hs
  | powerFail => exact execPowerFail_kept hs
  | dumpStagingClose => exact execDumpStagingClose_kept hs
  | dumpComplete => exact execDumpComplete_kept hs
  | pfailRise => exact execPfailRise_kept hs
  | granaryPowerUp => exact execGranaryPowerUp_kept hs
  | optimeCheckpoint => exact execOptimeCheckpoint_kept hs
  | granaryOptimeLoRead => exact execGranaryOptimeLoRead_kept hs
  | granaryCopyStart => exact execGranaryCopyStart_kept hs
  | granaryCopyDone => exact execGranaryCopyDone_kept hs
  | hkRoundEnd => exact execHkRoundEnd_kept hs
  | ltFaultClear => exact execLtFaultClear_kept hs
  | beaconClr => exact execBeaconClr_kept hs
  | displayFrameStart => exact execDisplayFrameStart_kept hs
  | commit => exact execCommit_kept hs
  | commitLatch => exact execCommitLatch_kept hs
  | lineUnderrun => exact execLineUnderrun_kept hs
  | teEdge => exact execTeEdge_kept hs
  | teMiss => exact execTeMiss_kept hs
  | pushStart => exact execPushStart_kept hs
  | pushComplete => exact execPushComplete_kept hs
  | dispCmdqWrite => exact execDispCmdqWrite_kept hs
  | cmdqSend => exact execCmdqSend_kept hs
  | tcommit => exact execTcommit_kept hs
  | timingApplied => exact execTimingApplied_kept hs
  | chStart x => exact execChStart_kept (a0 := x) hs
  | chStop x => exact execChStop_kept (a0 := x) hs
  | xkContinue x => exact execXkContinue_kept (a0 := x) hs
  | xkStopAll x => exact execXkStopAll_kept (a0 := x) hs
  | xkTick => exact execXkTick_kept hs
  | xkWaitResume => exact execXkWaitResume_kept hs
  | xkNop => exact execXkNop_kept hs
  | xkFinish => exact execXkFinish_kept hs
  | xkBranch => exact execXkBranch_kept hs
  | xkCall => exact execXkCall_kept hs
  | xkReturn => exact execXkReturn_kept hs
  | xkLoop => exact execXkLoop_kept hs
  | xkAgain => exact execXkAgain_kept hs
  | xkIdleT => exact execXkIdleT_kept hs
  | xkSync => exact execXkSync_kept hs
  | xkPause => exact execXkPause_kept hs
  | xkIrq => exact execXkIrq_kept hs
  | xkWaitAx => exact execXkWaitAx_kept hs
  | xkWaitV => exact execXkWaitV_kept hs
  | xkSwap => exact execXkSwap_kept hs
  | xkStroke => exact execXkStroke_kept hs
  | xkCurve => exact execXkCurve_kept hs
  | xkFocus => exact execXkFocus_kept hs
  | xkDwell => exact execXkDwell_kept hs
  | xkLightOn => exact execXkLightOn_kept hs
  | xkLightOff => exact execXkLightOff_kept hs
  | xkTravelRate => exact execXkTravelRate_kept hs
  | xkStrokeRate => exact execXkStrokeRate_kept hs
  | xkLightLead => exact execXkLightLead_kept hs
  | xkLightLag => exact execXkLightLag_kept hs
  | xkTravelSettle => exact execXkTravelSettle_kept hs
  | xkStrokeSettle => exact execXkStrokeSettle_kept hs
  | xkBendSettle => exact execXkBendSettle_kept hs
  | xkPower => exact execXkPower_kept hs
  | xkModPeriod => exact execXkModPeriod_kept hs
  | xkModWidth => exact execXkModWidth_kept hs
  | xkSyncPeriod => exact execXkSyncPeriod_kept hs
  | xkSyncWidth => exact execXkSyncWidth_kept hs
  | xkAxAbs => exact execXkAxAbs_kept hs
  | xkAxRel => exact execXkAxRel_kept hs
  | xkAxSpeed => exact execXkAxSpeed_kept hs
  | xkAxAccel => exact execXkAxAccel_kept hs
  | xkAxStop => exact execXkAxStop_kept hs
  | xkAxHome => exact execXkAxHome_kept hs
  | xkVset => exact execXkVset_kept hs
  | xkVadd => exact execXkVadd_kept hs
  | xkJz => exact execXkJz_kept hs
  | xkJnz => exact execXkJnz_kept hs
  | xkDjnz => exact execXkDjnz_kept hs
  | xkTstamp => exact execXkTstamp_kept hs
  | xy2Frame => exact execXy2Frame_kept hs
  | listLoWrite x => exact execListLoWrite_kept (a0 := x) hs
  | listHiWrite x => exact execListHiWrite_kept (a0 := x) hs
  | listHiRead x => exact execListHiRead_kept (a0 := x) hs
  | corrDataWrite x => exact execCorrDataWrite_kept (a0 := x) hs
  | corrDataRead x => exact execCorrDataRead_kept (a0 := x) hs
  | xaxSpeedWrite x => exact execXaxSpeedWrite_kept (a0 := x) hs
  | xaxAccelWrite x => exact execXaxAccelWrite_kept (a0 := x) hs
  | xkTickLoRead => exact execXkTickLoRead_kept hs
  | xaxPosLoRead => exact execXaxPosLoRead_kept hs
  | powerOn => exact execPowerOn_kept hs
  | sysResetn => exact execSysResetn_kept hs
  | deviceReset => exact execDeviceReset_kept hs
  | coreReset => exact execCoreReset_kept hs
  | resetEnd => exact execResetEnd_kept hs
  | bootBegin => exact execBootBegin_kept hs
  | bootEnd => exact execBootEnd_kept hs
  | sysBootHostStart => exact execSysBootHostStart_kept hs
  | lockstepMismatch => exact execLockstepMismatch_kept hs
  | supervisorRestartDone => exact execSupervisorRestartDone_kept hs
  | refclkRelock => exact execRefclkRelock_kept hs
  | permitGiven => exact execPermitGiven_kept hs
  | lossOfSync => exact execLossOfSync_kept hs
  | pcsSyncAcquired => exact execPcsSyncAcquired_kept hs
  | announceReceiptTimeout => exact execAnnounceReceiptTimeout_kept hs

/-- What a step leaves: the queue without its front command, and canonical stores. -/
theorem step_kept {s t : State} (h : s.Canon) (ht : step s = .next t) : t.Kept s.pending.tail := by
  unfold step at ht
  split at ht
  next c rest hp =>
    rw [hp]
    exact exec_kept c (s := { s with pending := rest }) ⟨rfl, h⟩ t ht
  next hp =>
    cases ht
    rw [hp]
    exact State.tick_kept ⟨hp, h⟩

theorem State.queueWf_of_tail {s t : State} (hp : t.pending = s.pending.tail) (h : s.QueueWf) : t.QueueWf := by
  unfold State.QueueWf at h ⊢
  rw [hp, List.all_eq_true]
  exact fun i hi => List.all_eq_true.1 h i (List.mem_of_mem_tail hi)

/-- Settles O59: `step_kept`; a tail of well-formed commands is well formed. -/
theorem stepKeepsCanonicalForm : Obligations.StepKeepsCanonicalForm := by
  unfold Obligations.StepKeepsCanonicalForm
  intro s t h ht
  obtain ⟨hp, hc⟩ := step_kept h ht
  exact ⟨hc, hp, State.queueWf_of_tail hp⟩

/-- Settles O58. -/
theorem stepRunsFrontCommand : Obligations.StepRunsFrontCommand := by
  unfold Obligations.StepRunsFrontCommand
  intro c rest s hp
  unfold step
  rw [hp]

end Sys2Proof.Machine
end

section
/-! SUPPORT. General registers, the integer operations and the shifts (R140, R155, R157). -/

namespace Sys2Proof.Machine

variable {s : State} {e : Eng} {i : Instr} {d a b : GReg} {S : Bool}

/-! ### General registers -/

@[simp] theorem Engine.rd_zero (x : Engine) : x.rd 0 = 0 := rfl

@[simp] theorem Engine.setG_zero (x : Engine) (v : Word) : x.setG 0 v = x := rfl

theorem Engine.rd_setG_same (x : Engine) (v : Word) (hd : d ≠ 0) : (x.setG d v).rd d = v := by
  simp [Engine.rd, Engine.setG, hd]

theorem Engine.rd_setG_other (x : Engine) (v : Word) (ha : a ≠ d) : (x.setG d v).rd a = x.rd a := by
  have hv : d.val ≠ a.val := fun h => ha (Fin.ext h.symm)
  by_cases hd : d = 0
  · rw [hd, Engine.setG_zero]
  · simp [Engine.rd, Engine.setG, hd, hv]

/-- A write to a general register changes nothing but the general registers. -/
theorem Engine.setG_eq (x : Engine) (d : GReg) (v : Word) : x.setG d v = { x with g := (x.setG d v).g } := by
  unfold Engine.setG
  split <;> rfl

/-- Settles O1. -/
theorem generalRegisterZero : Obligations.GeneralRegisterZero := by
  unfold Obligations.GeneralRegisterZero
  exact fun x d a v => ⟨x.rd_zero, x.setG_zero v, x.rd_setG_same v, x.rd_setG_other v, x.setG_eq d v⟩

/-! ### The integer operations -/

/-- A row of R155 whose function gives a result with C and V. -/
theorem State.Ready.completes_alu {f : Word → Word → Bool → AluOut} {r : Word} {c v : Bool} (h : s.Ready e)
    (hi : exec i s = .next (s.aluRow e i d a b S f))
    (hf : f (s.eng[e].rd a) (s.eng[e].rd b) s.eng[e].flags.c = ⟨r, c, v⟩) :
    s.Completes e i 4 { s.eng[e].setG d r with
      flags := if S then { s.eng[e].flags with n := r.getLsbD 31, z := decide (r = 0), c := c, v := v } else s.eng[e].flags } := by
  refine h.completes_local hi rfl ?_
  simp only [hf]
  rfl

/-- Signed overflow of R155: the exact value does not fit. -/
theorem signedOverflow_eq_not (k : Int) : signedOverflow k = !decide (-(2 ^ 31) ≤ k ∧ k < 2 ^ 31) := by
  rw [signedOverflow_eq, decide_not]

theorem addOut_eq (p q : Word) (c : Bool) :
    addOut p q c = ⟨p + q + BitVec.ofNat 32 (b2n c), decide (2 ^ 32 ≤ p.toNat + q.toNat + b2n c),
      !decide (-(2 ^ 31) ≤ p.toInt + q.toInt + (b2n c : Nat) ∧ p.toInt + q.toInt + (b2n c : Nat) < 2 ^ 31)⟩ := by
  unfold addOut
  rw [signedOverflow_eq_not]

theorem subOut_eq (p q : Word) (c : Bool) :
    subOut p q c = ⟨p - q - BitVec.ofNat 32 (1 - b2n c), decide (q.toNat + (1 - b2n c) ≤ p.toNat),
      !decide (-(2 ^ 31) ≤ p.toInt - q.toInt - ((1 - b2n c : Nat) : Int) ∧ p.toInt - q.toInt - ((1 - b2n c : Nat) : Int) < 2 ^ 31)⟩ := by
  unfold subOut
  rw [signedOverflow_eq_not]

/-- A choice by a comparison is the opposite choice by its converse. -/
theorem ite_slt_swap (p q u v : Word) : (if q.slt p then u else v) = if p.toInt ≤ q.toInt then v else u := by
  simp only [BitVec.slt_iff_toInt_lt, ← Int.not_le, ite_not]

theorem ite_ult_swap (p q u v : Word) : (if q.ult p then u else v) = if p.toNat ≤ q.toNat then v else u := by
  simp only [BitVec.ult_iff_toNat_lt, ← Nat.not_le, ite_not]

/-- Settles O2: each row is `aluRow` of its function; the sums with and without carry are `addOut` and `subOut`. -/
theorem aluRowsComplete : Obligations.AluRowsComplete := by
  unfold Obligations.AluRowsComplete
  intro s e d a b S h
  refine ⟨?add, ?sub, ?and, ?or, ?xor, ?slt, ?sltu, ?min, ?max, ?minu, ?maxu, ?addc, ?subb, ?mul, ?mulh, ?mulhu⟩
  case add => exact h.completes_alu rfl (by simp [addOut_eq, b2n])
  case sub => exact h.completes_alu rfl (by simp [subOut_eq, b2n])
  case addc => exact h.completes_alu rfl (addOut_eq ..)
  case subb => exact h.completes_alu rfl (subOut_eq ..)
  case and | or | xor | mulhu => exact h.completes_alu rfl rfl
  case slt => exact h.completes_alu rfl (by rw [sltWord_eq]; rfl)
  case sltu => exact h.completes_alu rfl (by rw [sltuWord_eq]; rfl)
  case min | max => exact h.completes_alu rfl (by rw [ite_slt_swap]; rfl)
  case minu | maxu => exact h.completes_alu rfl (by rw [ite_ult_swap]; rfl)
  case mul => exact h.completes_alu rfl (by rw [signedOverflow_eq_not, BitVec.mul_def]; rfl)
  case mulh => exact h.completes_alu rfl (by rw [Int.fdiv_eq_ediv_of_nonneg _ (by decide)]; rfl)

/-! ### Shifts -/

/-- A shift of R157 by n, whose function gives a result and the last bit shifted out. -/
theorem State.Ready.completes_shift {m : ShAmt} {f : Word → Nat → Word × Bool} {n : Nat} {r : Word} {last : Bool} (h : s.Ready e)
    (hi : exec i s = .next (s.shiftRow e i d a m S f)) (hn : shAmt s.eng[e] m = n) (hf : f (s.eng[e].rd a) n = (r, last)) :
    s.Completes e i 4 { s.eng[e].setG d r with
      flags := if S then { s.eng[e].flags with n := r.getLsbD 31, z := decide (r = 0), c := if n = 0 then false else last, v := false }
        else s.eng[e].flags } := by
  have hc : (decide (n ≠ 0) && last) = if n = 0 then false else last := by by_cases hz : n = 0 <;> simp [hz]
  refine h.completes_local hi rfl ?_
  simp only [hn, hf, hc]
  rfl

/-- Settles O4: each shift is `shiftRow` of its function, by an amount that is `shAmt` of either form. -/
theorem shiftRowsComplete : Obligations.ShiftRowsComplete := by
  unfold Obligations.ShiftRowsComplete
  intro s e d a amt S h
  have hn : shAmt s.eng[e] amt = match amt with
      | .reg b => (s.eng[e].rd b).toNat % 32
      | .imm k => k.val := by cases amt <;> rfl
  refine ⟨?sll, ?srl, ?sra, ?ror⟩
  case sll | srl | sra | ror => exact h.completes_shift rfl hn rfl

end Sys2Proof.Machine
end

section
/-! SUPPORT. Loads, stores, atomic operations and register jumps (R163-R166, R168). -/

namespace Sys2Proof.Machine

variable {s t : State} {e : Eng} {i : Instr} {d a b : GReg} {len p n v : Nat} {ill : Option Nat}

/-- An exception that the body of a legal instruction takes. -/
theorem State.Ready.traps_exc {body : State → Eff} {c k : Nat} (h : s.Ready e) (hi : exec i s = .next (s.runEng e i len ill body))
    (hl : ill = none) (hb : body (s.awake e) = .exc c k) : s.Traps e i c k := by
  subst hl
  exact .of_exc h hb hi

/-! ### What an access of memory leaves unchanged -/

/-- What may differ, field by field. -/
theorem State.memOnly_iff : s.MemOnly t e ↔ ∃ en si po co,
    t = { s with eng := en, silo := si, power := po, fabric := { s.fabric with corrected := co } } ∧ ∀ f, f ≠ e → en[f] = s.eng[f] := by
  refine ⟨fun h => ⟨t.eng, t.silo, t.power, t.fabric.corrected, h⟩, ?_⟩
  rintro ⟨en, si, po, co, rfl, ho⟩
  exact ⟨rfl, ho⟩

theorem State.MemOnly.awake : s.MemOnly (s.awake e) e := by
  obtain ⟨p, h⟩ := s.awake_eq e
  rw [h]
  exact ⟨rfl, fun _ _ => rfl⟩

theorem State.MemOnly.of_modEng {f : Engine → Engine} (h : s.MemOnly t e) : s.MemOnly (t.modEng e f) e := by
  obtain ⟨en, si, po, co, rfl, ho⟩ := State.memOnly_iff.1 h
  exact ⟨rfl, fun g hg => (vmod_other _ _ hg).trans (ho g hg)⟩

theorem State.MemOnly.touch {k : Fin 44} (h : s.MemOnly t e) : s.MemOnly (t.touch k) e := by
  obtain ⟨en, si, po, co, rfl, ho⟩ := State.memOnly_iff.1 h
  exact ⟨rfl, ho⟩

theorem State.MemOnly.with_silo {m : MemR} (h : s.MemOnly t e) : s.MemOnly { t with silo := m } e := by
  obtain ⟨en, si, po, co, rfl, ho⟩ := State.memOnly_iff.1 h
  exact ⟨rfl, ho⟩

theorem State.MemOnly.noteFixes {k : Nat} (h : s.MemOnly t e) : s.MemOnly (t.noteFixes k) e := by
  obtain ⟨en, si, po, co, rfl, ho⟩ := State.memOnly_iff.1 h
  exact ⟨rfl, ho⟩

theorem State.MemOnly.siloFix (h : s.MemOnly t e) : s.MemOnly (t.siloFix p n) e := h.with_silo.noteFixes

theorem State.MemOnly.localFix (h : s.MemOnly t e) : s.MemOnly (t.localFix e p n) e := h.of_modEng.noteFixes

@[simp] theorem State.siloFix_silo : (s.siloFix p n).silo = s.silo.correct p n := rfl
@[simp] theorem State.siloFix_eng : (s.siloFix p n).eng = s.eng := rfl
@[simp] theorem State.localFix_silo : (s.localFix e p n).silo = s.silo := rfl

theorem State.localFix_eng : (s.localFix e p n).eng[e] = { s.eng[e] with mem := s.eng[e].mem.correct p n } := by
  show (vmod s.eng e _)[e] = _
  rw [vmod_same]

/-- The engine that an update changes. -/
theorem State.modEng_same {f : Engine → Engine} : (s.modEng e f).eng[e] = f s.eng[e] := vmod_same ..

/-! ### Loads -/

/-- An update of an engine that reads and writes neither its memory nor its program counter. -/
def Engine.Apart (k : Engine → Engine) : Prop := ∀ x m, k { x with mem := m } = { k x with mem := m }

theorem Engine.Apart.setG {w : Word} : Engine.Apart fun x => x.setG d w := by
  intro x m
  unfold Engine.setG
  dsimp only
  split <;> rfl

theorem Engine.Apart.comp {j k : Engine → Engine} (hj : Engine.Apart j) (hk : Engine.Apart k) : Engine.Apart fun x => k (j x) := by
  intro x m
  dsimp only
  rw [hj, hk]

/-- A legal instruction whose body is a load of n bytes at p, with k of the value in its engine. -/
theorem State.Ready.loads {body : State → Eff} {k : Nat → Engine → Engine} (h : s.Ready e)
    (hi : exec i s = .next (s.runEng e i len ill body)) (hl : ill = none)
    (hb : body (s.awake e) = (s.awake e).loadData e p n k) (hk : ∀ v, Engine.Apart (k v)) :
    s.Loads e i len p n fun v => k v s.eng[e] := by
  have hx : (s.awake e).eng[e] = s.eng[e] := by rw [State.awake_eng]
  refine ⟨fun hp hloc hbad => ?loc, fun hp ⟨h1, h2, hd⟩ hbad => ?silo, fun hp => ?misaligned, fun hp hloc hbad => ?locBad,
    fun hp ⟨h1, h2, hd⟩ hbad => ?siloBad⟩
  case loc =>
    rw [State.loadData_local (placeOf_local hp hloc) (by rw [hx, hbad]), hx] at hb
    refine ⟨_, h.exec_of_done hi hl hb, State.MemOnly.awake.localFix.of_modEng.of_modEng, by simp, ?_⟩
    rw [State.modEng_same, State.modEng_same, State.localFix_eng, hx, hk]
  case silo =>
    rw [State.loadData_silo (placeOf_silo hp h1 h2) (by rw [State.awake_domainOn, hd]) (by rw [State.awake_silo, hbad])] at hb
    refine ⟨_, h.exec_of_done hi hl hb, State.MemOnly.awake.touch.siloFix.of_modEng.of_modEng, ?_, ?_⟩
    · simp
    · rw [State.modEng_same, State.modEng_same, State.siloFix_eng, State.touch_eng, State.awake_silo, hx]
  case misaligned => exact h.traps_exc hi hl (by rw [hb, State.loadData_none (placeOf_misaligned hp)])
  case locBad => exact h.traps_exc hi hl (by rw [hb, State.loadData_localBad (placeOf_local hp hloc) (by rw [hx, hbad])])
  case siloBad =>
    exact h.traps_exc hi hl (by
      rw [hb, State.loadData_siloBad (placeOf_silo hp h1 h2) (by rw [State.awake_domainOn, hd]) (by rw [State.awake_silo, hbad])])

/-- A signed reading of w bits is that of the bit vector (R3). -/
theorem toInt_ofNat_eq_sgn (w n : Nat) (hw : 0 < w) : (BitVec.ofNat w n).toInt = sgn w n := by
  obtain ⟨k, rfl⟩ : ∃ k, w = k + 1 := ⟨w - 1, by omega⟩
  have hp : 2 ^ (k + 1) = 2 * 2 ^ k := by rw [pow_succ, mul_comm]
  rw [BitVec.toInt_eq_toNat_cond, BitVec.toNat_ofNat]
  unfold sgn
  rw [Nat.add_sub_cancel]
  have hiff : 2 * (n % 2 ^ (k + 1)) < 2 ^ (k + 1) ↔ n % 2 ^ (k + 1) < 2 ^ k := by omega
  simp only [hiff]

/-- Sign extension of R163. -/
theorem sextTo_eq (w n : Nat) (hw : 0 < w) : sextTo w n = (BitVec.ofNat w n).signExtend 32 := by
  unfold sextTo
  rw [← toInt_ofNat_eq_sgn w n hw]
  rfl

theorem oddPair_even (hd : d.val % 2 = 0) : oddPair d = false := decide_eq_false (by omega)

theorem oddPair_odd (hd : d.val % 2 = 1) : oddPair d = true := decide_eq_true hd

/-- Settles O7: each load is `loadData` at its address, with the extended value, or the pair, in g[d]. -/
theorem loadsComplete : Obligations.LoadsComplete := by
  unfold Obligations.LoadsComplete
  intro s e d a i h
  have ha : memAddr (s.awake e).eng[e] a i = (s.eng[e].rd a + immSext i).toNat := by rw [State.awake_eng]; rfl
  have hb (n k) : (s.awake e).loadData e (memAddr (s.awake e).eng[e] a i) n k =
      (s.awake e).loadData e (s.eng[e].rd a + immSext i).toNat n k := by rw [ha]
  refine ⟨?lw, ?lh, ?lhu, ?lb, ?lbu, fun hd => ?ld, fun hd => h.traps rfl (by rw [oddPair_odd hd, badField_true])⟩
  case lw | lhu | lbu => exact h.loads rfl rfl (hb ..) fun _ => .setG
  case lh => simpa only [sextTo_eq 16 _ (by decide)] using h.loads (i := .lh e d a i) rfl rfl (hb ..) fun _ => .setG
  case lb => simpa only [sextTo_eq 8 _ (by decide)] using h.loads (i := .lb e d a i) rfl rfl (hb ..) fun _ => .setG
  case ld => exact h.loads rfl (by rw [oddPair_even hd, badField_false]) (hb ..) fun _ => Engine.Apart.setG.comp .setG

/-! ### Stores -/

/-- Correction before a store and new check bits behind it do not show in the bytes. -/
theorem MemR.stores_of_cells {m m' : MemR} (hm : Mem.wf m.cells = true) (hc : m'.cells = m.cells) (a n v k : Nat) :
    m.Stores ((m'.write a n v).renew a k) a n v := by
  have hb (o : Nat) : m.byte o = m'.byte o := by unfold MemR.byte; rw [hc]
  obtain ⟨hin, hout⟩ := MemR.stores_write (m := m') (a := a) (n := n) (v := v) (by rw [hc, hm])
  exact ⟨hin, fun o ho => (hout o ho).trans (hb o).symm⟩

/-- A legal instruction whose body is a store of the low n bytes of v at p. -/
theorem State.Ready.storesTo {body : State → Eff} (h : s.Ready e) (hc : s.Canon)
    (hi : exec i s = .next (s.runEng e i len ill body)) (hl : ill = none)
    (hb : body (s.awake e) = (s.awake e).storeAt e len p n v) : s.StoresTo e i len p n v := by
  have hx : (s.awake e).eng[e] = s.eng[e] := by rw [State.awake_eng]
  obtain ⟨_, hsilo, hmem⟩ := hc
  refine ⟨fun hp hloc hbad => ?loc, fun hp h1 h2 hd hbad => ?silo, fun hp => ?misaligned⟩
  case loc =>
    rw [State.storeAt_local (placeOf_local hp hloc) (by rwa [hx])] at hb
    generalize hu : (if n < 8 then (s.awake e).localFix e p n else s.awake e) = u at hb
    have hm : s.MemOnly u e := by
      rw [← hu]
      split
      · exact State.MemOnly.awake.localFix
      · exact State.MemOnly.awake
    have hus : u.silo = s.silo := by rw [← hu]; split <;> simp
    have hue : u.eng[e] = { s.eng[e] with mem := u.eng[e].mem } ∧ u.eng[e].mem.cells = s.eng[e].mem.cells := by
      rw [← hu]
      split
      · rw [State.localFix_eng, hx]
        exact ⟨rfl, rfl⟩
      · rw [hx]
        exact ⟨rfl, rfl⟩
    obtain ⟨hue, huc⟩ := hue
    refine ⟨_, h.exec_of_done hi hl hb, hm.of_modEng.of_modEng, hus, ?_, ?_⟩
    · rw [State.modEng_same, State.modEng_same, hue]
    · rw [State.modEng_same, State.modEng_same]
      exact MemR.stores_of_cells (hmem e) huc ..
  case silo =>
    obtain ⟨t, ht, hu⟩ := State.storeAt_silo (s := s.awake e) (len := len) (v := v) (placeOf_silo (e := e) hp h1 h2)
      (by rw [State.awake_domainOn, hd]) (by rwa [State.awake_silo])
    rw [ht] at hb
    have hm : s.MemOnly t e := by
      rw [hu]
      split
      · exact State.MemOnly.awake.touch.siloFix
      · exact State.MemOnly.awake.touch
    have he : t.eng[e] = s.eng[e] := by rw [hu]; split <;> exact hx
    have hs : t.silo.cells = s.silo.cells := by rw [hu]; split <;> simp
    refine ⟨_, h.exec_of_done hi hl hb, hm.with_silo.of_modEng, ?_, MemR.stores_of_cells hsilo hs ..⟩
    rw [State.modEng_same]
    show ({ t.eng[e] with pc := _ } : Engine) = _
    rw [he]
  case misaligned => exact h.traps_exc hi hl (by rw [hb, State.storeAt_none (placeOf_misaligned hp)])

/-- Settles O8: each store is `storeAt` at its address. -/
theorem storesComplete : Obligations.StoresComplete := by
  unfold Obligations.StoresComplete
  intro s e d a i h hc
  have hx : (s.awake e).eng[e] = s.eng[e] := by rw [State.awake_eng]
  refine ⟨?sw, ?sh, ?sb, fun hd => ?sd, fun hd => h.traps rfl (by rw [oddPair_odd hd, badField_true])⟩
  case sw | sh | sb => exact h.storesTo hc rfl rfl (by rw [hx]; rfl)
  case sd => exact h.storesTo hc rfl (by rw [oddPair_even hd, badField_false]) (by rw [hx]; rfl)

/-! ### Atomic operations -/

/-- Byte k of a number read from memory is the byte there. -/
theorem MemR.byte_of_read (m : MemR) : ∀ {n a k : Nat}, k < n → BitVec.ofNat 8 (m.read a n / 256 ^ k) = m.byte (a + k)
  | n + 1, a, 0, _ => by
    have hb := (m.byte a).isLt
    refine BitVec.eq_of_toNat_eq ?_
    simp only [MemR.read, pow_zero, Nat.div_one, BitVec.toNat_ofNat, Nat.add_zero]
    omega
  | n + 1, a, k + 1, hk => by
    have hb := (m.byte a).isLt
    have hd : ((m.byte a).toNat + 256 * m.read (a + 1) n) / 256 = m.read (a + 1) n := by omega
    rw [MemR.read, pow_succ', ← Nat.div_div_eq_div_mul, hd, MemR.byte_of_read m (by omega), Nat.add_assoc, Nat.add_comm 1 k]

theorem MemR.read_lt (m : MemR) : ∀ {n a : Nat}, m.read a n < 256 ^ n
  | 0, _ => by simp [MemR.read]
  | n + 1, a => by
    have hb := (m.byte a).isLt
    have ih := MemR.read_lt m (n := n) (a := a + 1)
    rw [MemR.read, pow_succ']
    omega

/-- A memory that keeps its bytes holds the number read from it. -/
theorem MemR.stores_read {m m' : MemR} (hc : m'.cells = m.cells) (a n : Nat) : m.Stores m' a n (m.read a n) := by
  have hb (o : Nat) : m'.byte o = m.byte o := by unfold MemR.byte; rw [hc]
  exact ⟨fun k hk => by rw [hb, MemR.byte_of_read m hk], fun o _ => hb o⟩

/-- The word at o written, if there is one to write. -/
def State.putWord (u : State) (o : Nat) : Option Word → State
  | some v => u.setSilo32 o v.toNat
  | none => u

theorem State.putWord_eng (o : Nat) (r : Option Word) : (s.putWord o r).eng = s.eng := by cases r <;> rfl

theorem State.MemOnly.putWord {o : Nat} {r : Option Word} (h : s.MemOnly t e) : s.MemOnly (t.putWord o r) e := by
  cases r with
  | none => exact h
  | some v => exact h.with_silo

/-- The word is then the one written, or the old one. -/
theorem State.putWord_stores {m : MemR} {o : Nat} {r : Option Word} (hm : Mem.wf m.cells = true) (hc : s.silo.cells = m.cells) :
    m.Stores (s.putWord o r).silo o 4 (r.getD (BitVec.ofNat 32 (m.read o 4))).toNat := by
  cases r with
  | some v => exact MemR.stores_of_cells (k := 0) hm hc ..
  | none =>
    have hlt : m.read o 4 < 2 ^ 32 := MemR.read_lt m
    rw [Option.getD_none, BitVec.toNat_ofNat, Nat.mod_eq_of_lt hlt]
    exact MemR.stores_read hc ..

/-- An atomic instruction whose function f gives the word to write and g the flags, with the old word to g[d]. -/
theorem State.Ready.atomicOn {f : Engine → Word → Option Word} {g : Engine → Bool → Engine} {x : Engine} {old new : Word} (h : s.Ready e)
    (hc : s.Canon) (hi : exec i s = .next (s.atom e i d a f g)) (hp : (s.eng[e].rd a).toNat = p)
    (ho : BitVec.ofNat 32 (s.silo.read (p - 0x10000000) 4) = old)
    (hx : (g s.eng[e] (f s.eng[e] old).isSome).setG d old = x) (hn : (f s.eng[e] old).getD old = new) : s.AtomicOn e i p x new := by
  obtain ⟨_, hsilo, _⟩ := hc
  have he : (s.awake e).eng[e] = s.eng[e] := by rw [State.awake_eng]
  refine ⟨fun ha h1 h2 hd hbad => ?_, fun ha => ?_, fun ha hr => ?_⟩
  · have hb := h.exec_of_done (i := i) (t := ((((s.awake e).touch (domainOfSilo (p - 0x10000000))).siloFix (p - 0x10000000) 4).putWord
      (p - 0x10000000) (f s.eng[e] old)).modEng e fun y => (g y (f s.eng[e] old).isSome).setG d old) hi rfl (by
        dsimp only
        rw [he, hp, if_neg (not_not.2 ha), if_pos ⟨h1, h2⟩, State.awake_domainOn, hd, if_neg (by decide), State.awake_silo, hbad,
          if_neg Bool.false_ne_true, State.silo32, State.awake_silo, ho]
        cases f s.eng[e] old <;> rfl)
    refine ⟨_, hb, (State.MemOnly.awake.touch.siloFix.putWord.of_modEng).of_modEng, ?_, ?_⟩
    · rw [State.modEng_same, State.modEng_same, State.putWord_eng, State.siloFix_eng, State.touch_eng, he, hx]
      rfl
    · rw [← hn, ← ho]
      exact State.putWord_stores hsilo (by simp)
  · exact h.traps_exc hi rfl (by dsimp only; rw [he, hp, if_pos ha])
  · exact h.traps_exc hi rfl (by dsimp only; rw [he, hp, if_neg (not_not.2 ha), if_neg (by omega)])

/-- The flags of ATOM_CAS beside the old word in g[d]. -/
theorem Engine.setG_flags (x : Engine) (f : Flags) (w : Word) : ({ x with flags := f } : Engine).setG d w = { x.setG d w with flags := f } := by
  unfold Engine.setG
  split <;> rfl

/-- Settles O10: each is `atom` of its function; ATOM_CAS writes where the old word is g[d]. -/
theorem atomicsComplete : Obligations.AtomicsComplete := by
  unfold Obligations.AtomicsComplete
  intro s e d a b h hc
  refine ⟨?swap, ?add, ?cas, ?or, ?and, h.completes_local rfl rfl rfl⟩
  case swap | add | or | and => exact h.atomicOn hc rfl rfl rfl rfl rfl
  case cas =>
    refine h.atomicOn hc rfl rfl rfl ?_ ?_
    · rw [Engine.setG_flags]
      split <;> simp only [Option.isSome_some, Option.isSome_none, decide_true, decide_false, *]
    · split <;> rfl

/-! ### Register jumps -/

/-- Settles O13: both read g[a] first; a misaligned target is the exception of the jump itself. -/
theorem registerJumpsComplete : Obligations.RegisterJumpsComplete := by
  unfold Obligations.RegisterJumpsComplete
  intro s e d a h
  have hx : (s.awake e).eng[e] = s.eng[e] := by rw [State.awake_eng]
  refine ⟨fun ha => ⟨?_, ?_⟩, fun ha => ⟨?_, ?_⟩⟩
  · exact h.jumpsTo rfl rfl (by rw [hx, if_neg (not_not.2 ha)]) State.OnlyEngine.awake hx
  · refine h.jumpsTo rfl rfl (by rw [hx, if_neg (not_not.2 ha)]) State.OnlyEngine.awake.of_modEng ?_
    rw [State.modEng_same, hx]
  · exact h.traps_exc rfl rfl (by rw [hx, if_pos ha])
  · exact h.traps_exc rfl rfl (by rw [hx, if_pos ha])

end Sys2Proof.Machine
end

section
/-! SUPPORT. Timed waits, events and general edges of an engine (R104, R170-R172, R175). -/

namespace Sys2Proof.Machine

variable {s t u : State} {e : Eng} {i : Instr} {d a b : GReg} {len : Nat} {ill : Option Nat} {body : State → Eff}

/-! ### What the awake state reads -/

/-- A reading that does not look at idle times is the same awake. -/
theorem State.awake_reads {α : Type} (f : State → α) (hf : ∀ p, f { s with power := p } = f s) : f (s.awake e) = f s := by
  obtain ⟨p, h⟩ := s.awake_eq e
  rw [h, hf]

@[simp] theorem State.awake_timeRefused {n : Nat} : (s.awake e).timeRefused n = s.timeRefused n :=
  State.awake_reads (·.timeRefused n) fun _ => rfl

@[simp] theorem State.awake_reached {n : Int} : (s.awake e).reached n = s.reached n := State.awake_reads (·.reached n) fun _ => rfl

@[simp] theorem State.awake_cellOut {c : Cell} : (s.awake e).cellOut c = s.cellOut c := State.awake_reads (·.cellOut c) fun _ => rfl

@[simp] theorem State.awake_cellRoom {c : Cell} : (s.awake e).cellRoom c = s.cellRoom c := State.awake_reads (·.cellRoom c) fun _ => rfl

@[simp] theorem State.awake_leff : (s.awake e).leff = s.leff := State.awake_reads (·.leff) fun _ => rfl

@[simp] theorem State.awake_edgeTime {n k : Nat} : (s.awake e).edgeTime n k = s.edgeTime n k :=
  State.awake_reads (·.edgeTime n k) fun _ => rfl

@[simp] theorem State.awake_etAhead {k : Int} : (s.awake e).etAhead k = s.etAhead k := State.awake_reads (·.etAhead k) fun _ => rfl

/-- An update that reads no idle time, of the awake state. -/
theorem State.But.awake (f : State → State) (hf : ∀ p, f { s with power := p } = { f s with power := p }) : (f s).But (f (s.awake e)) e := by
  obtain ⟨p, h⟩ := s.awake_eq e
  rw [h, hf p]
  exact ⟨rfl, fun _ _ => rfl⟩

/-- A legal body that holds takes hold of its engine, with no change outside it. -/
theorem State.Ready.holdsAt {x : Engine} (h : s.Ready e) (hi : exec i s = .next (s.runEng e i len ill body)) (hl : ill = none)
    (hb : body (s.awake e) = .hold ((s.awake e).modEng e fun _ => x)) : s.HoldsAt e i x :=
  ⟨_, h.exec_of_hold hi hl hb, State.OnlyEngine.awake.of_modEng, State.modEng_same⟩

theorem State.setWait_awake {w : Wait} : (s.awake e).setWait e w = (s.awake e).modEng e fun _ => { s.eng[e] with wait := some w } := by
  rw [State.setWait, State.modEng_const, State.awake_eng]

/-! ### Timed waits -/

/-- WAITT and WAITR with zero fields, whose body is a wait until time n (R104, R170). -/
theorem State.Ready.waits {n : Nat} {rel : Bool} (h : s.Ready e) (hi : exec i s = .next (s.runEng e i 4 ill body)) (hl : ill = none)
    (hb : body (s.awake e) = (s.awake e).waitUntil e n rel) :
    (s.timeRefused n = true → s.Completes e i 4 { s.eng[e] with flags := { s.eng[e].flags with c := false, v := true } }) ∧
    (s.timeRefused n = false → s.reached n = true →
      s.Completes e i 4 { s.eng[e] with flags := { s.eng[e].flags with c := true, v := false } }) ∧
    (s.timeRefused n = false → s.reached n = false →
      s.HoldsAt e i { s.eng[e] with wait := some (.until (BitVec.ofNat 64 n) false rel 0) }) := by
  simp only [State.waitUntil, State.awake_timeRefused, State.awake_reached] at hb
  refine ⟨fun hr => ?_, fun hr hn => ?_, fun hr hn => ?_⟩
  · rw [if_pos hr] at hb
    exact h.completes_update hi hl hb rfl
  · rw [if_neg (by simp [hr]), if_pos hn] at hb
    exact h.completes_update hi hl hb rfl
  · rw [if_neg (by simp [hr]), if_neg (by simp [hn]), State.setWait_awake] at hb
    exact h.holdsAt hi hl hb

/-- The lowest pending source, or the timeout (R175). -/
theorem Engine.takeEvent_eq (x : Engine) (d : GReg) (c v : Bool) : x.takeEvent d c v = x.tookEvent d c v := by
  have hl : lowest x.latch = x.latch.min? := by cases x.latch <;> rfl
  unfold Engine.takeEvent Engine.tookEvent Engine.setG Flags.waited
  rw [hl]
  cases x.latch.min? with
  | some n => dsimp only; split <;> rfl
  | none => dsimp only; split <;> rfl

theorem Engine.tookEvent_pc (x : Engine) (d : GReg) (c v : Bool) (pc : Word) :
    ({ x with pc := pc } : Engine).tookEvent d c v = { x.tookEvent d c v with pc := pc } := by
  unfold Engine.tookEvent Engine.setG
  dsimp only
  split <;> split <;> rfl

/-- A wait whose condition is met completes behind its instruction. -/
theorem State.completes_waitResume {f : Engine → Engine} (hlive : s.engLive e = true) (hheld : s.engHeld e = false)
    (hon : ∀ d, domainOfEng e = some d → s.domainOn d = true) (hm : s.waitMet e = some f) :
    s.Completes e (.waitResume e) 4 (f { s.eng[e] with wait := none }) := by
  have hd : (domainOfEng e).toList.find? (fun d => !s.domainOn d) = none := by
    rw [List.find?_eq_none]
    intro d hm
    simp [hon d (Option.mem_toList.1 hm)]
  have hx : exec (.waitResume e) s =
      .next ((forEach (domainOfEng e).toList s fun s d => s.touch d).modEng e fun x => x.complete f) := by
    show execWaitResume e s = _
    unfold execWaitResume
    rw [hlive, hheld, hm, hd]
    rfl
  obtain ⟨p, hp⟩ := forEach_touch (l := (domainOfEng e).toList) (s := s)
  rw [hp] at hx
  refine ⟨_, hx, State.OnlyEngine.of_modEng ⟨rfl, fun _ _ => rfl⟩, ?_⟩
  rw [State.modEng_same]
  rfl

/-- Settles O16: both issue forms are `waitUntil`; the end of a wait is what `waitMet` gives. -/
theorem timedWaitsComplete : Obligations.TimedWaitsComplete := by
  unfold Obligations.TimedWaitsComplete
  refine ⟨fun s e a b h => ?_, fun s e hlive hheld hon => ⟨fun t rel d hw hr => ?_, fun t rel d hw hr => ?_, fun d hw hr => ?_⟩⟩
  · have hx : (s.awake e).eng[e] = s.eng[e] := by rw [State.awake_eng]
    exact ⟨h.waits rfl rfl (by rw [hx]; rfl), h.waits rfl rfl (by rw [hx, State.awake_now])⟩
  · exact State.completes_waitResume hlive hheld hon (by unfold State.waitMet; rw [hw]; simp only [hr]; rfl)
  · rw [← Engine.takeEvent_eq]
    have hc : (!s.eng[e].latch.isEmpty || s.reached t.toNat) = true := by
      rcases hr with hr | hr
      · rw [List.isEmpty_eq_false_iff.2 hr]; rfl
      · rw [hr, Bool.or_true]
    exact State.completes_waitResume (f := fun x => x.takeEvent d false false) hlive hheld hon
      (by unfold State.waitMet; rw [hw]; simp only [hc]; rfl)
  · rw [← Engine.takeEvent_eq]
    have hc : s.eng[e].latch.isEmpty = false := List.isEmpty_eq_false_iff.2 hr
    exact State.completes_waitResume (f := fun x => x.takeEvent d false false) hlive hheld hon
      (by unfold State.waitMet; rw [hw]; simp only [hc]; rfl)

/-! ### Events -/

/-- An event that sets no XK interrupt bit only fires (R529, R633). -/
theorem State.raise_eq_fired {n k : Nat} (hn : xkBitOf n k = none) :
    s.raise n k = { s with fired := s.fired ++ [⟨n, BitVec.ofNat 32 k, s.now⟩] } := by
  unfold State.raise
  rw [hn]
  exact ite_self _

/-- Software events set no XK interrupt bit. -/
theorem xkBitOf_software (n k : Nat) : xkBitOf (168 + n) k = none := by
  unfold xkBitOf
  rw [if_neg (by omega), if_neg (by omega), if_neg (by omega), if_neg (by omega)]

/-- A legal body that takes an event completes. -/
theorem State.Ready.completes_event {c v : Bool} (h : s.Ready e) (hi : exec i s = .next (s.runEng e i 4 ill body)) (hl : ill = none)
    (hb : body (s.awake e) = .done ((s.awake e).modEng e fun x => x.takeEvent d c v)) :
    s.Completes e i 4 (s.eng[e].tookEvent d c v) :=
  h.completes_update hi hl hb (Engine.takeEvent_eq ..)

/-- What WAITE does, by its function and the wait (R175). -/
theorem State.Ready.waite (h : s.Ready e) (d a b : GReg) :
    let x := s.eng[e]
    let T : Nat := (x.rd b).toNat * 2 ^ 32 + (x.rd a).toNat
    (x.latch ≠ [] → s.Completes e (.waite e d a b 1) 4 (x.tookEvent d false false)) ∧
    (x.latch = [] → s.HoldsAt e (.waite e d a b 1) { x with wait := some (.event d) }) ∧
    (s.timeRefused T = true → s.Completes e (.waite e d a b 0) 4 (x.tookEvent d false true)) ∧
    (s.timeRefused T = false → s.reached T = true → s.Completes e (.waite e d a b 0) 4 (x.tookEvent d true false)) ∧
    (s.timeRefused T = false → s.reached T = false → x.latch ≠ [] → s.Completes e (.waite e d a b 0) 4 (x.tookEvent d false false)) ∧
    (s.timeRefused T = false → s.reached T = false → x.latch = [] →
      s.HoldsAt e (.waite e d a b 0) { x with wait := some (.until (BitVec.ofNat 64 T) true false d) }) := by
  have hx : (s.awake e).eng[e] = s.eng[e] := by rw [State.awake_eng]
  have hT : timeOperand (s.awake e).eng[e] a b = (s.eng[e].rd b).toNat * 2 ^ 32 + (s.eng[e].rd a).toNat := by rw [hx]; rfl
  have h0 : (0 : BitVec 8).getLsbD 0 = false := rfl
  have h1 : (1 : BitVec 8).getLsbD 0 = true := rfl
  refine ⟨fun hl => ?_, fun hl => ?_, fun hr => ?_, fun hr hn => ?_, fun hr hn hl => ?_, fun hr hn hl => ?_⟩
  · refine h.completes_event rfl rfl ?_
    dsimp only
    rw [h1, if_pos rfl, hx, if_neg (by rw [List.isEmpty_eq_false_iff.2 hl]; decide)]
  · refine h.holdsAt rfl rfl ?_
    dsimp only
    rw [h1, if_pos rfl, hx, if_pos (List.isEmpty_iff.2 hl), State.setWait_awake]
  · refine h.completes_event rfl rfl ?_
    dsimp only
    rw [h0, if_neg Bool.false_ne_true, hT, State.awake_timeRefused, if_pos hr]
  · refine h.completes_event rfl rfl ?_
    dsimp only
    rw [h0, if_neg Bool.false_ne_true, hT, State.awake_timeRefused, hr, if_neg Bool.false_ne_true, State.awake_reached, if_pos hn]
  · refine h.completes_event rfl rfl ?_
    dsimp only
    rw [h0, if_neg Bool.false_ne_true, hT, State.awake_timeRefused, hr, if_neg Bool.false_ne_true, State.awake_reached, hn,
      if_neg Bool.false_ne_true, hx, if_neg (by rw [List.isEmpty_eq_false_iff.2 hl]; decide)]
  · refine h.holdsAt rfl rfl ?_
    dsimp only
    rw [h0, if_neg Bool.false_ne_true, hT, State.awake_timeRefused, hr, if_neg Bool.false_ne_true, State.awake_reached, hn,
      if_neg Bool.false_ne_true, hx, if_pos (List.isEmpty_iff.2 hl), State.setWait_awake]

/-- EVSIG raises its software event with g[a] as data (R175). -/
theorem State.Ready.evsig (h : s.Ready e) (a : GReg) (k : Fin 32) :
    ∃ t, exec (.evsig e 0 a 0 (BitVec.ofNat 8 k.val)) s = .next t ∧
      State.But { s with fired := s.fired ++ [⟨168 + k.val, s.eng[e].rd a, s.now⟩] } t e ∧
      t.eng[e] = { s.eng[e] with pc := s.eng[e].pc + 4 } := by
  have hk : (BitVec.ofNat 8 k.val).toNat = k.val := by
    rw [BitVec.toNat_ofNat]
    omega
  have hx : (s.awake e).eng[e] = s.eng[e] := by rw [State.awake_eng]
  have hl : badField (decide ((0 : GReg) ≠ 0 ∨ (0 : GReg) ≠ 0 ∨ 32 ≤ (BitVec.ofNat 8 k.val).toNat)) = none := by
    rw [hk, decide_eq_false (by simp), badField_false]
  refine ⟨_, h.exec_of_done rfl hl rfl, ?_, ?_⟩
  · rw [hk, State.raise_eq_fired (xkBitOf_software ..), hx, State.awake_now, State.awake_fired, BitVec.ofNat_toNat, BitVec.setWidth_eq]
    exact (State.But.awake (fun s : State => { s with fired := _ }) fun _ => rfl).of_modEng
  · rw [State.modEng_same, State.raise_eng, hx]
    rfl

/-! ### General edges -/

/-- What SCHED does with d and function[10:8] 0 (R172): by the cell, the time, and whether the edge can be queued now. -/
theorem State.Ready.sched (h : s.Ready e) (a b : GReg) (fn : BitVec 11) (hf : fn.toNat < 256) :
    let n := timeOperand s.eng[e] a b
    let et := s.edgeTime n (fn.toNat / 32 % 8)
    let far : Prop := ((s.leff * 8000 : Nat) : Int) < s.etAhead et
    let i : Instr := .sched e 0 a b fn
    (s.cellOut (schedCell fn) = false ∨ s.timeRefused n = true →
      s.Completes e i 4 { s.eng[e] with flags := { s.eng[e].flags with v := true } }) ∧
    (s.cellOut (schedCell fn) = true → s.timeRefused n = false → ¬far → s.cellRoom (schedCell fn) = true →
      ∃ t, exec i s = .next t ∧
        State.But { s with transit := s.transit ++ [(schedCell fn, { et := et, what := .level (fn.getLsbD 4), owner := some e })] } t e ∧
        t.eng[e] = { s.eng[e] with flags := { s.eng[e].flags with v := false }, pc := s.eng[e].pc + 4 }) ∧
    (s.cellOut (schedCell fn) = true → s.timeRefused n = false → far ∨ s.cellRoom (schedCell fn) = false →
      s.HoldsAt e i { s.eng[e] with wait := some (.stalled i) }) := by
  have hx : (s.awake e).eng[e] = s.eng[e] := by rw [State.awake_eng]
  have hl : badField (decide ((0 : GReg) ≠ 0 ∨ 256 ≤ fn.toNat)) = none := by rw [decide_eq_false (by simpa using hf), badField_false]
  refine ⟨fun hc => ?_, fun hc hr hfar hroom => ?_, fun hc hr hstall => ?_⟩
  · have hc' : (!s.cellOut (schedCell fn) || s.timeRefused (timeOperand s.eng[e] a b)) = true := by
      rcases hc with hc | hc
      · rw [hc, Bool.not_false, Bool.true_or]
      · rw [hc, Bool.or_true]
    refine h.completes_update (f := fun x => { x with flags := { x.flags with v := true } }) rfl hl ?_ rfl
    unfold State.sched
    dsimp only
    rw [hx, State.awake_cellOut, State.awake_timeRefused, if_pos hc']
  · have hb := h.exec_of_done (i := .sched e 0 a b fn) rfl hl (by
      unfold State.sched
      dsimp only
      rw [hx, State.awake_cellOut, State.awake_timeRefused, hc, hr, if_neg (by simp), State.awake_leff, State.awake_edgeTime,
        State.awake_etAhead, State.awake_cellRoom, hroom, decide_eq_false hfar, if_neg (by simp)])
    refine ⟨_, hb, ?_, ?_⟩
    · exact (State.But.awake (fun s : State => { s with transit := s.transit ++ _ }) fun _ => rfl).of_modEng.of_modEng
    · rw [State.modEng_same, State.modEng_same]
      exact congrArg (fun x : Engine => { x with flags := { x.flags with v := false }, pc := s.eng[e].pc + 4 }) hx
  · have hstall' : (decide (((s.leff * 8000 : Nat) : Int) < s.etAhead (s.edgeTime (timeOperand s.eng[e] a b) (fn.toNat / 32 % 8))) ||
        !s.cellRoom (schedCell fn)) = true := by
      rcases hstall with hs | hs
      · rw [decide_eq_true hs, Bool.true_or]
      · rw [hs, Bool.not_false, Bool.or_true]
    refine h.holdsAt rfl hl ?_
    unfold State.sched
    dsimp only
    rw [hx, State.awake_cellOut, State.awake_timeRefused, hc, hr, if_neg (by simp), State.awake_leff, State.awake_edgeTime,
      State.awake_etAhead, State.awake_cellRoom, if_pos hstall', State.setWait_awake]

/-- Settles O17: `evsig`, `waite` and `sched` above; EVPOLL is an update of its engine. -/
theorem eventAndSchedInstructionsComplete : Obligations.EventAndSchedInstructionsComplete := by
  unfold Obligations.EventAndSchedInstructionsComplete
  refine ⟨fun s e d a b k h => ⟨h.evsig a k, ?_, h.waite d a b⟩, fun s e a b fn h hf => h.sched a b fn hf⟩
  exact h.completes_local rfl rfl (Engine.takeEvent_eq ..)

end Sys2Proof.Machine
end

section
/-! SUPPORT. Ring instructions (R173). -/

namespace Sys2Proof.Machine

variable {s t : State} {e : Eng} {i : Instr} {d a b : GReg} {p n : Nat}

@[simp] theorem State.awake_rputStatus : (s.awake e).rputStatus n = s.rputStatus n := State.awake_reads (·.rputStatus n) fun _ => rfl

@[simp] theorem State.awake_rgetStatus : (s.awake e).rgetStatus n = s.rgetStatus n := State.awake_reads (·.rgetStatus n) fun _ => rfl

@[simp] theorem State.awake_ringCount : (s.awake e).ringCount n = s.ringCount n := State.awake_reads (·.ringCount n) fun _ => rfl

@[simp] theorem State.awake_slotAddr : (s.awake e).slotAddr n p = s.slotAddr n p := State.awake_reads (·.slotAddr n p) fun _ => rfl

/-- Two updates of an engine are one. -/
theorem State.modEng_modEng (f g : Engine → Engine) : (s.modEng e f).modEng e g = s.modEng e fun x => g (f x) := by
  simp [State.modEng, vmod]

/-- Bits that mark errors do not show in the bytes read. -/
@[simp] theorem MemR.bytes_correct (m : MemR) (c k : Nat) : ∀ {n a : Nat}, (m.correct c k).bytes a n = m.bytes a n
  | 0, _ => rfl
  | n + 1, a => by rw [MemR.bytes, MemR.bytes, MemR.byte_correct, MemR.bytes_correct]

theorem ringAddrExc_misaligned (hp : p % 32 ≠ 0) : ringAddrExc p = some (.exc 3 0) := if_pos hp

theorem ringAddrExc_outside (hp : p % 32 = 0) (ho : p < 0x10000000 ∨ 0x10000000 + siloSize ≤ p) : ringAddrExc p = some (.exc 3 3) := by
  unfold ringAddrExc
  rw [if_neg (not_not.2 hp), if_neg (by omega)]

theorem ringAddrExc_ok (hp : p % 32 = 0) (h1 : 0x10000000 ≤ p) (h2 : p < 0x10000000 + siloSize) : ringAddrExc p = none := by
  unfold ringAddrExc
  rw [if_neg (not_not.2 hp), if_pos ⟨h1, h2⟩]

/-- The address checks of RPUT and RGET come first (R173). -/
theorem State.Ready.ring_traps {c k : Nat} (h : s.Ready e) (hx : ringAddrExc (s.eng[e].rd a).toNat = some (.exc c k)) :
    s.Traps e (.rput e d a b) c k ∧ s.Traps e (.rget e d a b) c k := by
  have he : (s.awake e).eng[e] = s.eng[e] := by rw [State.awake_eng]
  exact ⟨h.traps_exc rfl rfl (by dsimp only; rw [he, hx]), h.traps_exc rfl rfl (by dsimp only; rw [he, hx])⟩

/-- RPUT that is refused, and one that runs, of a descriptor in the Silo. -/
theorem State.Ready.rput (h : s.Ready e) (hx : ringAddrExc (s.eng[e].rd a).toNat = none) :
    let n := (s.eng[e].rd b).toNat % 64
    let o := (s.eng[e].rd a).toNat - 0x10000000
    let on (a : Nat) : Prop := s.domainOn (domainOfSilo a) = true
    (s.rputStatus n ≠ 0 → s.Completes e (.rput e d a b) 4 (s.eng[e].setG d (BitVec.ofNat 32 (s.rputStatus n)))) ∧
    (s.rputStatus n = 0 → on o → on (s.slotAddr n (s.get (F.HOST_RING_TAIL_SLOT n))) → s.silo.badIn o 32 = false →
      exec (.rput e d a b) s =
        .next ((((s.awake e).siloFix o 32).rput n o).modEng e fun x => { x.setG d 0 with pc := s.eng[e].pc + 4 })) := by
  have he : (s.awake e).eng[e] = s.eng[e] := by rw [State.awake_eng]
  refine ⟨fun hst => h.completes_update (f := fun x => x.setG d (BitVec.ofNat 32 _)) rfl rfl ?_ rfl, fun hst ho hs hbad => ?_⟩
  · dsimp only
    rw [he, hx, State.awake_rputStatus]
    exact if_pos hst
  · have hb := h.exec_of_done (i := .rput e d a b) rfl rfl (by
      dsimp only
      rw [he, hx, State.awake_rputStatus]
      dsimp only
      rw [if_neg (not_not.2 hst), State.awake_domainOn, if_neg (by rw [ho]; decide), State.awake_slotAddr, State.awake_get,
        State.awake_domainOn, if_neg (by rw [hs]; decide), State.awake_silo, if_neg (by rw [hbad]; decide)])
    rw [hb, State.modEng_modEng]
    rfl

/-- RGET that is refused, and one that runs, into the Silo. -/
theorem State.Ready.rget (h : s.Ready e) (hx : ringAddrExc (s.eng[e].rd a).toNat = none) :
    let n := (s.eng[e].rd b).toNat % 64
    let o := (s.eng[e].rd a).toNat - 0x10000000
    let src := s.slotAddr n (s.get (F.HOST_RING_HEAD_SLOT n))
    let on (a : Nat) : Prop := s.domainOn (domainOfSilo a) = true
    (s.rgetStatus n ≠ 0 → s.Completes e (.rget e d a b) 4 (s.eng[e].setG d (BitVec.ofNat 32 (s.rgetStatus n)))) ∧
    (s.rgetStatus n = 0 → on src → on o → s.silo.badIn src 32 = false →
      ∃ u : State, u = { (s.awake e).siloFix src 32 with
          silo := ((s.silo.correct src 32).setBytes o (s.silo.bytes src 32)).renew o 32 } ∧
        exec (.rget e d a b) s =
          .next ((u.setHead n (u.ringNext n (u.vHead n))).modEng e fun x => { x.setG d 0 with pc := s.eng[e].pc + 4 })) := by
  have he : (s.awake e).eng[e] = s.eng[e] := by rw [State.awake_eng]
  refine ⟨fun hst => h.completes_update (f := fun x => x.setG d (BitVec.ofNat 32 _)) rfl rfl ?_ rfl, fun hst hs ho hbad => ⟨_, rfl, ?_⟩⟩
  · dsimp only
    rw [he, hx, State.awake_rgetStatus]
    exact if_pos hst
  · have hb := h.exec_of_done (i := .rget e d a b) rfl rfl (by
      dsimp only
      rw [he, hx, State.awake_rgetStatus]
      dsimp only
      rw [if_neg (not_not.2 hst), State.awake_slotAddr, State.awake_get, State.awake_domainOn, if_neg (by rw [hs]; decide),
        State.awake_domainOn, if_neg (by rw [ho]; decide), State.awake_silo, if_neg (by rw [hbad]; decide), State.siloFix_silo,
        State.awake_silo, MemR.bytes_correct])
    rw [hb, State.modEng_modEng]
    rfl

/-- The ring instructions as O18 states them. -/
theorem State.Ready.rings (h : s.Ready e) (d a b : GReg) :
    let x := s.eng[e]
    let n := (x.rd b).toNat % 64
    let p := (x.rd a).toNat
    let o := p - 0x10000000
    let ok := p % 32 = 0 ∧ 0x10000000 ≤ p ∧ p < 0x10000000 + siloSize
    let src := s.slotAddr n (s.get (F.HOST_RING_HEAD_SLOT n))
    let slot := s.slotAddr n (s.get (F.HOST_RING_TAIL_SLOT n))
    let on (a : Nat) : Prop := s.domainOn (domainOfSilo a) = true
    (p % 32 ≠ 0 → s.Traps e (.rput e d a b) 3 0 ∧ s.Traps e (.rget e d a b) 3 0) ∧
    (p % 32 = 0 → p < 0x10000000 ∨ 0x10000000 + siloSize ≤ p → s.Traps e (.rput e d a b) 3 3 ∧ s.Traps e (.rget e d a b) 3 3) ∧
    (ok → s.rputStatus n ≠ 0 → s.Completes e (.rput e d a b) 4 (x.setG d (BitVec.ofNat 32 (s.rputStatus n)))) ∧
    (ok → s.rgetStatus n ≠ 0 → s.Completes e (.rget e d a b) 4 (x.setG d (BitVec.ofNat 32 (s.rgetStatus n)))) ∧
    (ok → s.rputStatus n = 0 → on o → on slot → s.silo.badIn o 32 = false →
      exec (.rput e d a b) s = .next ((((s.awake e).siloFix o 32).rput n o).modEng e fun y => { y.setG d 0 with pc := x.pc + 4 })) ∧
    (ok → s.rgetStatus n = 0 → on src → on o → s.silo.badIn src 32 = false →
      ∃ u : State, u = { (s.awake e).siloFix src 32 with
          silo := ((s.silo.correct src 32).setBytes o (s.silo.bytes src 32)).renew o 32 } ∧
        exec (.rget e d a b) s = .next ((u.setHead n (u.ringNext n (u.vHead n))).modEng e fun y => { y.setG d 0 with pc := x.pc + 4 })) ∧
    s.Completes e (.rcount e d 0 b) 4 (x.setG d (BitVec.ofNat 32 (if 52 ≤ n then 0xFFFFFFFF else s.ringCount n))) := by
  have he : (s.awake e).eng[e] = s.eng[e] := by rw [State.awake_eng]
  refine ⟨fun hp => h.ring_traps (ringAddrExc_misaligned hp), fun hp ho => h.ring_traps (ringAddrExc_outside hp ho),
    fun ⟨hp, h1, h2⟩ => (h.rput (ringAddrExc_ok hp h1 h2)).1, fun ⟨hp, h1, h2⟩ => (h.rget (ringAddrExc_ok hp h1 h2)).1,
    fun ⟨hp, h1, h2⟩ => (h.rput (ringAddrExc_ok hp h1 h2)).2, fun ⟨hp, h1, h2⟩ => (h.rget (ringAddrExc_ok hp h1 h2)).2,
    h.completes_update (f := fun x => x.setG d (BitVec.ofNat 32 _)) rfl rfl ?_ rfl⟩
  dsimp only
  rw [he, State.awake_ringCount]

end Sys2Proof.Machine
end

section
/-! SUPPORT. Bed-map instructions, with the arbiter's domain ON and no clear under way (R176, R177). -/

namespace Sys2Proof.Machine

variable {s t r : State} {e : Eng} {i : Instr} {d a b : GReg} {ill : Option Nat} {body : State → Eff} {k : State → Eff}

theorem State.awake_touch_eq (s : State) (e : Eng) (c : Fin 44) : ∃ p, (s.awake e).touch c = { s with power := p } := by
  obtain ⟨p, h⟩ := s.awake_eq e
  exact ⟨_, by rw [h]; rfl⟩

/-- The engine after a bed-map instruction: its result, V, and the program counter. -/
def Engine.bmEnd (x y : Engine) (f : Bool) : Engine := { y with flags := { x.flags with v := f }, pc := x.pc + 4 }

@[simp] theorem Engine.setG_flags_same (x : Engine) (d : GReg) (v : Word) : (x.setG d v).flags = x.flags := by
  unfold Engine.setG
  split <;> rfl

theorem State.bmFlag_same {f : Bool} : (t.bmFlag e f).eng[e] = { t.eng[e] with flags := { t.eng[e].flags with v := f } } := vmod_same ..

/-- An end with engine y of state r: only the engine and idle times differ. -/
theorem State.OnlyEngine.bmEnd {p : Vector PowerDom 44} {f : Engine → Engine} {g : Bool} {y : Engine} (hr : r.eng[e] = s.eng[e]) (hy : f s.eng[e] = y)
    (hf : y.flags = s.eng[e].flags) :
    let t := ((State.modEng { r with power := p } e f).bmFlag e g).modEng e fun x => { x with pc := s.eng[e].pc + 4 }
    r.OnlyEngine t e ∧ t.eng[e] = s.eng[e].bmEnd y g := by
  refine ⟨State.OnlyEngine.of_modEng (State.OnlyEngine.of_modEng (State.OnlyEngine.of_modEng ⟨rfl, fun _ _ => rfl⟩)), ?_⟩
  rw [State.modEng_same, State.bmFlag_same, State.modEng_same]
  show ({ f r.eng[e] with flags := { (f r.eng[e]).flags with v := g }, pc := s.eng[e].pc + 4 } : Engine) = _
  rw [hr, hy, hf]
  rfl


/-- A legal body that ends with V = g and f of the engine in state r: only the engine and idle times differ from r. -/
theorem State.Ready.bmDone {p : Vector PowerDom 44} {f : Engine → Engine} {g : Bool} {y : Engine} (h : s.Ready e)
    (hi : exec i s = .next (s.runEng e i 4 ill body)) (hl : ill = none)
    (hb : body (s.awake e) = .done ((State.modEng { r with power := p } e f).bmFlag e g))
    (hr : r.eng[e] = s.eng[e]) (hy : f s.eng[e] = y) (hf : y.flags = s.eng[e].flags) :
    ∃ t, exec i s = .next t ∧ r.OnlyEngine t e ∧ t.eng[e] = s.eng[e].bmEnd y g :=
  ⟨_, h.exec_of_done hi hl hb, State.OnlyEngine.bmEnd (p := p) hr hy hf⟩

/-- A bed-map instruction that waits for nothing, whose body ends with V = g and f of the engine in state r: only the engine and idle
times differ from r. -/
theorem State.Ready.bmGate {f : Engine → Engine} {g : Bool} {y : Engine} (h : s.Ready e) (hon : s.domainOn domArb = true)
    (hbusy : s.bedBusy = false) (hi : exec i s = .next (s.runEng e i 4 ill fun s => s.bmGate e i k)) (hl : ill = none)
    (hk : ∀ p, k { s with power := p } = .done ((State.modEng { r with power := p } e f).bmFlag e g))
    (hr : r.eng[e] = s.eng[e]) (hy : f s.eng[e] = y) (hf : y.flags = s.eng[e].flags) :
    ∃ t, exec i s = .next t ∧ r.OnlyEngine t e ∧ t.eng[e] = s.eng[e].bmEnd y g := by
  obtain ⟨p, hp⟩ := s.awake_touch_eq e domArb
  have hb : (s.awake e).bedBusy = s.bedBusy := State.awake_reads (·.bedBusy) fun _ => rfl
  refine h.bmDone (p := p) hi hl ?_ hr hy hf
  unfold State.bmGate
  rw [State.awake_domainOn, hon, if_neg (by decide), hb, hbusy, if_neg (by decide), hp, hk]

theorem State.modEng_self : (s.modEng e fun x => x) = s := by simp [State.modEng, vmod]

theorem State.bmIndexOk_power {p : Vector PowerDom 44} {n : Nat} : State.bmIndexOk { s with power := p } n = decide (n < s.nx * s.ny) := rfl

/-- BMRD with an even d and b 0: an index outside the map, and an entry that reads (R176, R177). -/
theorem State.Ready.bmrd (h : s.Ready e) (hon : s.domainOn domArb = true) (hbusy : s.bedBusy = false) (hd : d.val % 2 = 0) :
    let x := s.eng[e]
    let n := (x.rd a).toNat
    let p := s.plot n
    (s.nx * s.ny ≤ n → ∃ t, exec (.bmrd e d a 0) s = .next t ∧ s.OnlyEngine t e ∧ t.eng[e] = x.bmEnd x true) ∧
    (n < s.nx * s.ny ∧ s.bed.bad.contains n = false → ∃ t, exec (.bmrd e d a 0) s = .next t ∧ (s.bedFix (· == n)).OnlyEngine t e ∧
      t.eng[e] = x.bmEnd ((x.setG d (BitVec.ofNat 32 (s.bmWord p))).setG (pairHi d) p.tLast) false) := by
  have hl : badField (oddPair d || decide ((0 : GReg) ≠ 0)) = none := by rw [oddPair_even hd]; rfl
  refine ⟨fun hn => h.bmGate (r := s) (f := fun x => x) hon hbusy rfl hl (fun p => ?_) rfl rfl rfl, fun hg => ?_⟩
  · dsimp only
    rw [State.bmIndexOk_power, decide_eq_false (Nat.not_lt.2 hn), if_pos rfl, State.modEng_self]
  · obtain ⟨hn, hbad⟩ := hg
    refine h.bmGate (r := s.bedFix (· == (s.eng[e].rd a).toNat)) (f := fun x => (x.setG d _).setG _ _) hon hbusy rfl hl (fun p => ?_) rfl rfl
      (by rw [Engine.setG_flags_same, Engine.setG_flags_same])
    dsimp only
    rw [State.bmIndexOk_power, decide_eq_true hn, if_neg (by decide), hbad, if_neg (by decide)]
    rfl

/-- A write form of R176: BAD_INDEX, OWNED, or the entry written. -/
theorem State.Ready.bmWrite {f : State → Plot → Plot} {q : Plot} (h : s.Ready e) (hon : s.domainOn domArb = true)
    (hbusy : s.bedBusy = false) (hi : exec i s = .next (s.runEng e i 4 none fun s => s.bmWrite e i d a f))
    (hf : ∀ p, f (State.bedFix { s with power := p } (· == (s.eng[e].rd a).toNat)) (s.plot (s.eng[e].rd a).toNat) = q) :
    let x := s.eng[e]
    let n := (x.rd a).toNat
    let p := s.plot n
    let r := s.bedFix (· == n)
    let good := n < s.nx * s.ny ∧ s.bed.bad.contains n = false
    (s.nx * s.ny ≤ n → ∃ t, exec i s = .next t ∧ s.OnlyEngine t e ∧ t.eng[e] = x.bmEnd (x.setG d 2) true) ∧
    (good → p.owner ≠ 31 → ∃ t, exec i s = .next t ∧ r.OnlyEngine t e ∧ t.eng[e] = x.bmEnd (x.setG d 1) true) ∧
    (good → p.owner = 31 → ∃ t, exec i s = .next t ∧ State.But (r.setPlot n q) t e ∧ t.eng[e] = x.bmEnd (x.setG d 0) false) := by
  refine ⟨fun hn => ?_, fun hg ho => ?_, fun hg ho => ?_⟩
  · refine h.bmGate (r := s) (f := fun x => x.setG d 2) hon hbusy hi rfl (fun p => ?_) rfl rfl (Engine.setG_flags_same ..)
    dsimp only
    rw [State.bmIndexOk_power, decide_eq_false (Nat.not_lt.2 hn), if_pos rfl]
  · obtain ⟨hn, hbad⟩ := hg
    refine h.bmGate (r := s.bedFix (· == (s.eng[e].rd a).toNat)) (f := fun x => x.setG d 1) hon hbusy hi rfl (fun p => ?_) rfl rfl (Engine.setG_flags_same ..)
    dsimp only
    rw [State.bmIndexOk_power, decide_eq_true hn, if_neg (by decide), hbad, if_neg (by decide)]
    exact if_pos ho
  · obtain ⟨hn, hbad⟩ := hg
    refine h.bmGate (r := (s.bedFix (· == (s.eng[e].rd a).toNat)).setPlot (s.eng[e].rd a).toNat q)
      (f := fun x => x.setG d 0) hon hbusy hi rfl (fun p => ?_) rfl rfl
      (Engine.setG_flags_same ..)
    dsimp only
    rw [State.bmIndexOk_power, decide_eq_true hn, if_neg (by decide), hbad, if_neg (by decide)]
    refine (if_neg (not_not.2 ho)).trans ?_
    rw [← hf p]
    rfl

/-- BMIDX of a point on the map, and of one that lies outside it. -/
theorem State.Ready.bmidx (h : s.Ready e) (hbusy : s.bedBusy = false) :
    let x := s.eng[e]
    let ix := s.plotX (x.rd a).toInt
    let iy := s.plotY (x.rd b).toInt
    (s.onMap ix iy = true → ∃ t, exec (.bmidx e d a b) s = .next t ∧ s.OnlyEngine t e ∧
      t.eng[e] = x.bmEnd (x.setG d (BitVec.ofNat 32 (s.plotIdx ix iy))) false) ∧
    (s.onMap ix iy = false → ∃ t, exec (.bmidx e d a b) s = .next t ∧ s.OnlyEngine t e ∧
      t.eng[e] = x.bmEnd (x.setG d 0xFFFFFFFF#32) true) := by
  obtain ⟨p, hp⟩ := s.awake_eq e
  have hb : State.bedBusy { s with power := p } = false := hbusy
  refine ⟨fun hm => ?_, fun hm => ?_⟩
  · refine h.bmDone (r := s) (p := p) (f := fun x => x.setG d (BitVec.ofNat 32 _)) rfl rfl ?_ rfl rfl (Engine.setG_flags_same ..)
    rw [hp]
    exact (if_neg (by rw [hb]; decide)).trans (if_pos hm)
  · refine h.bmDone (r := s) (p := p) (f := fun x => x.setG d 0xFFFFFFFF#32) rfl rfl ?_ rfl rfl (Engine.setG_flags_same ..)
    rw [hp]
    exact (if_neg (by rw [hb]; decide)).trans (if_neg fun hm' => Bool.false_ne_true (hm.symm.trans hm'))

/-- Settles O18: the ring instructions, then BMRD, the three write forms and BMIDX. -/
theorem ringAndBedMapInstructionsComplete : Obligations.RingAndBedMapInstructionsComplete := by
  unfold Obligations.RingAndBedMapInstructionsComplete
  refine ⟨fun s e d a b h => h.rings d a b, fun s e d a b h hon hbusy => ?_⟩
  exact ⟨fun hd => (h.bmrd hon hbusy hd).1, fun hd => (h.bmrd hon hbusy hd).2, h.bmWrite hon hbusy rfl fun _ => rfl,
    h.bmWrite hon hbusy rfl fun _ => rfl, h.bmWrite hon hbusy rfl fun _ => rfl, h.bmidx hbusy⟩

end Sys2Proof.Machine
end

section
/-! SUPPORT. Beam instructions and the settings of a beam (R150, R197-R200, R207). -/

namespace Sys2Proof.Machine

variable {s t : State} {e : Eng} {b : Sys2Proof.Beam} {i : Instr} {d a : GReg} {len : Nat} {ill : Option Nat}
  {body : Sys2Proof.Beam → State → Eff} {data : Sys2Proof.Beam → State → Option (Nat × Nat)} {x : Engine}

/-- What a beam instruction of beam b does, behind the exceptions of its data accesses and the lease violation (R184, R207). -/
def State.beamBody (b : Sys2Proof.Beam) (body : Sys2Proof.Beam → State → Eff) (data : Sys2Proof.Beam → State → Option (Nat × Nat))
    (s : State) : Eff :=
  match data b s with
  | some (c, d) => .exc c d
  | none => if s.beam[b].expired then .hold (s.leaseViolation b) else body b s

theorem State.runBeam_eq (hb : beamOfEng e = some b) :
    s.runBeam e i len ill body data = s.runEng e i len ill (State.beamBody b body data) := by
  unfold State.runBeam
  rw [hb]
  rfl

theorem State.runBeam_other (hb : beamOfEng e = none) :
    s.runBeam e i len ill body data = s.runEng e i len (some 1) fun s => .done s := by
  unfold State.runBeam
  rw [hb]

theorem beamOfEng_none (he : 16 ≤ e.val) : beamOfEng e = none := dif_neg (by omega)

theorem engOf_of_beamOfEng (h : beamOfEng e = some b) : engOf b = e := by
  unfold beamOfEng at h
  split at h
  · cases h
    rfl
  · cases h

theorem State.beamBody_of_exc {c k : Nat} (hd : data b s = some (c, k)) : State.beamBody b body data s = .exc c k := by
  unfold State.beamBody
  rw [hd]

/-- A beam whose lease has not expired executes the instruction's own body. -/
theorem State.beamBody_of_none (hd : data b s = none) (hx : s.beam[b].expired = false) : State.beamBody b body data s = body b s := by
  unfold State.beamBody
  rw [hd]
  exact if_neg (by rw [hx]; decide)

theorem State.BeamReady.ready (h : s.BeamReady e b) : s.Ready e := h.1

theorem State.BeamReady.engOf (h : s.BeamReady e b) : engOf b = e := engOf_of_beamOfEng h.2.1

/-- A beam instruction is an instruction of its engine, with the body of its beam. -/
theorem State.BeamReady.exec_eq (h : s.BeamReady e b) (hi : exec i s = .next (s.runBeam e i len ill body data)) :
    exec i s = .next (s.runEng e i len ill (State.beamBody b body data)) := by
  rw [hi, State.runBeam_eq h.2.1]

/-- The body of a beam instruction with no exception of its data accesses. -/
theorem State.BeamReady.body_eq (h : s.BeamReady e b) (hd : data b (s.awake e) = none := by rfl) :
    State.beamBody b body data (s.awake e) = body b (s.awake e) :=
  State.beamBody_of_none hd (by rw [State.awake_beam]; exact h.2.2)

/-- A legal beam instruction whose body is done goes on behind itself. -/
theorem State.BeamReady.goes (h : s.BeamReady e b) (hi : exec i s = .next (s.runBeam e i len ill body data)) (hl : ill = none)
    (hb : body b (s.awake e) = .done t) (hd : data b (s.awake e) = none := by rfl) : s.Goes e i len t :=
  h.ready.exec_of_done (h.exec_eq hi) hl ((h.body_eq hd).trans hb)

/-- A legal beam instruction whose body holds leaves the state it gives. -/
theorem State.BeamReady.exec_of_hold (h : s.BeamReady e b) (hi : exec i s = .next (s.runBeam e i len ill body data)) (hl : ill = none)
    (hb : body b (s.awake e) = .hold t) (hd : data b (s.awake e) = none := by rfl) : exec i s = .next t :=
  h.ready.exec_of_hold (h.exec_eq hi) hl ((h.body_eq hd).trans hb)

/-- A legal beam instruction whose body takes an exception. -/
theorem State.BeamReady.traps_exc {c k : Nat} (h : s.BeamReady e b) (hi : exec i s = .next (s.runBeam e i len ill body data))
    (hl : ill = none) (hb : body b (s.awake e) = .exc c k) (hd : data b (s.awake e) = none := by rfl) : s.Traps e i c k :=
  h.ready.traps_exc (h.exec_eq hi) hl ((h.body_eq hd).trans hb)

/-- An illegal encoding of a beam instruction (R150). -/
theorem State.BeamReady.traps {k : Nat} (h : s.BeamReady e b) (hi : exec i s = .next (s.runBeam e i len ill body data))
    (hl : ill = some k) : s.Traps e i 1 k :=
  h.ready.traps (h.exec_eq hi) hl

/-- A beam instruction that only updates its own engine completes. -/
theorem State.BeamReady.completes_update {f : Engine → Engine} (h : s.BeamReady e b)
    (hi : exec i s = .next (s.runBeam e i len ill body data)) (hl : ill = none)
    (hb : body b (s.awake e) = .done ((s.awake e).modEng e f)) (hx : f s.eng[e] = x) (hd : data b (s.awake e) = none := by rfl) :
    s.Completes e i len x :=
  h.ready.completes_update (h.exec_eq hi) hl ((h.body_eq hd).trans hb) hx

/-- The flags of engine x with V as given (R200). -/
def Engine.withV (x : Engine) (v : Bool) : Engine := { x with flags := { x.flags with v := v } }

theorem State.BeamReady.setV_eq {v : Bool} (h : s.BeamReady e b) (t : State) : t.setV b v = t.modEng e fun x => x.withV v := by
  unfold State.setV
  rw [h.engOf]
  rfl

/-! ### Settings -/

/-- The value within its limits, and whether a limit acted (R197). -/
theorem limitTo_eq {lo hi v : Int} (h : lo ≤ hi) : limitTo lo hi v = (max lo (min hi v), decide (max lo (min hi v) ≠ v)) := by
  have hc : clampI lo hi v = max lo (min hi v) := by
    unfold clampI
    split_ifs <;> omega
  unfold limitTo
  rw [hc]

theorem limitPeriod_eq {v : Int} :
    limitPeriod v = (max (if v = 0 then 0 else 20) (min 10000000 v), decide (max (if v = 0 then 0 else 20) (min 10000000 v) ≠ v)) := by
  unfold limitPeriod
  split_ifs with h
  · subst h
    rfl
  · exact limitTo_eq (by decide)

/-- A settings update of a beam that leaves `g` and sets V to v is all that the instruction changes outside its engine's counter. -/
theorem State.BeamReady.puts {g : Settings} {v : Bool} (h : s.BeamReady e b) (hi : exec i s = .next (s.runBeam e i len ill body data))
    (hl : ill = none) (hb : body b (s.awake e) = .done (((s.awake e).modBeam b fun y => { y with set := g }).setV b v))
    (hd : data b (s.awake e) = none := by rfl) :
    ∃ t, exec i s = .next t ∧ State.But (s.modBeam b fun y => { y with set := g }) t e ∧
      t.eng[e] = { s.eng[e] with flags := { s.eng[e].flags with v := v }, pc := s.eng[e].pc + BitVec.ofNat 32 len } := by
  rw [h.setV_eq] at hb
  refine ⟨_, h.goes hi hl hb hd, (State.But.awake (fun s => s.modBeam b fun y => { y with set := g }) fun _ => rfl).of_modEng.of_modEng, ?_⟩
  rw [State.modEng_same, State.modEng_same, State.modBeam_eng, State.awake_eng]
  rfl

/-- The row of a setting instruction: the settings it leaves, and V. -/
theorem State.BeamReady.setting {im : Imm} {w : Word} {n : Option Nat} {g : Settings} {v : Bool} (k : Nat) (h : s.BeamReady e b)
    (hi : exec i s = .next (s.setting e i a im n w)) (hn : n = some k) (hput : s.beam[b].set.put k (s.eng[e].rd a + w) = (g, v)) :
    ∃ t, exec i s = .next t ∧ State.But (s.modBeam b fun y => { y with set := g }) t e ∧
      t.eng[e] = { s.eng[e] with flags := { s.eng[e].flags with v := v }, pc := s.eng[e].pc + BitVec.ofNat 32 (immLen im) } := by
  subst hn
  refine h.puts hi rfl ?_
  dsimp only
  rw [State.awake_beam, State.awake_eng, Option.getD_some, hput]

theorem State.BeamReady.setting_traps {im : Imm} {w : Word} {n : Option Nat} (h : s.BeamReady e b)
    (hi : exec i s = .next (s.setting e i a im n w)) (hn : n = none) : s.Traps e i 1 2 :=
  h.traps hi (by rw [hn]; rfl)

/-- The settings a d field names, and none beyond them (R197). -/
theorem settingOf_none {k n : Nat} (hd : k ≤ d.val) : settingOf d k n = none := if_neg (by omega)

/-- A beam instruction on an engine that is no beam engine (R150, R199). -/
theorem State.Ready.beamOnly (h : s.Ready e) (he : 16 ≤ e.val) (hi : exec i s = .next (s.runBeam e i len ill body data)) :
    s.Traps e i 1 1 :=
  h.traps (hi.trans (by rw [State.runBeam_other (beamOfEng_none he)])) rfl

/-- Settles O19: each setting is `Settings.put` of its number, a clamp; LOOPSEL is an update; elsewhere `runBeam` is illegal. -/
theorem settingsComplete : Obligations.SettingsComplete := by
  unfold Obligations.SettingsComplete
  refine ⟨fun s e b d a i fn h => ?_, fun s e d a b i fn k h he => ?_⟩
  · refine ⟨fun hd => ?_, fun hd => ?_, fun hd => ?_, fun hd => ?_, fun hd => ?_, fun hd => ?_, fun hd => ?_, fun hd => ?_, fun hd => ?_,
      fun hd => ?_, fun hd => ?_, fun hd => ?_, fun hd => ?_, fun hd => ?_, fun hd => ?_, fun hd => ?_,
      fun hd => h.setting_traps rfl (settingOf_none hd), fun hd => h.setting_traps rfl (settingOf_none hd),
      fun hd => h.setting_traps rfl (settingOf_none hd), fun hd => h.setting_traps rfl (settingOf_none hd),
      fun hd => h.setting_traps rfl (settingOf_none hd), fun hf => ?loopsel, fun hf => h.traps rfl (by simp [hf])⟩
    case loopsel =>
      refine h.puts rfl (by simp [Nat.not_le.2 hf]) ?_
      dsimp only
      rw [← State.awake_beam (e := e)]
      rfl
    all_goals
      subst hd
      dsimp only
    · exact h.setting 0 rfl rfl (by simp [Settings.put, limitTo_eq])
    · exact h.setting 1 rfl rfl (by simp [Settings.put, limitTo_eq])
    · exact h.setting 2 rfl rfl (by simp [Settings.put, limitTo_eq])
    · exact h.setting 3 rfl rfl (by simp [Settings.put, limitTo_eq])
    · exact h.setting 4 rfl rfl (by simp [Settings.put, limitTo_eq])
    · exact h.setting 5 rfl rfl (by simp [Settings.put, limitTo_eq])
    · exact h.setting 6 rfl rfl (by simp [Settings.put, limitTo_eq])
    · exact h.setting 7 rfl rfl (by simp [Settings.put, limitTo_eq])
    · exact h.setting 8 rfl rfl (by simp [Settings.put, limitTo_eq])
    · exact h.setting 9 rfl rfl (by simp [Settings.put, limitTo_eq])
    · exact h.setting 10 rfl rfl (by simp [Settings.put, limitTo_eq])
    · exact h.setting 11 rfl rfl (by simp [Settings.put, limitTo_eq])
    · exact h.setting 12 rfl rfl (by simp [Settings.put, limitPeriod_eq])
    · exact h.setting 13 rfl rfl (by simp [Settings.put, limitTo_eq])
    · exact h.setting 14 rfl rfl (by simp [Settings.put, limitPeriod_eq])
    · exact h.setting 15 rfl rfl (by simp [Settings.put, limitTo_eq])
  · refine ⟨?_, ?_, ?_, ?_, ?_, ?_, ?_, ?_, ?_, ?_, ?_, ?_, ?_, ?_, ?_⟩ <;> exact h.beamOnly he rfl

end Sys2Proof.Machine
end

section
/-! SUPPORT. The motion of a beam (R202-R204). -/

namespace Sys2Proof.Machine

variable {s t : State} {e : Eng} {b : Sys2Proof.Beam} {i : Instr} {d a c : GReg} {fn : BitVec 11}

@[simp] theorem State.awake_motionCheck {lit : Bool} {x y : Int} {arc : Option (Int × Int × Int)} :
    (s.awake e).motionCheck b lit x y arc = s.motionCheck b lit x y arc := State.awake_reads (·.motionCheck b lit x y arc) fun _ => rfl

@[simp] theorem State.awake_suppressing : (s.awake e).suppressing b = s.suppressing b := State.awake_reads (·.suppressing b) fun _ => rfl

@[simp] theorem State.awake_target : (s.awake e).target b e d a c fn = s.target b e d a c fn :=
  State.awake_reads (·.target b e d a c fn) fun _ => rfl

/-- A beam instruction that sets V and nothing else. -/
theorem State.BeamReady.completes_setV {len : Nat} {ill : Option Nat} {body : Sys2Proof.Beam → State → Eff}
    {data : Sys2Proof.Beam → State → Option (Nat × Nat)} {v : Bool} (h : s.BeamReady e b)
    (hi : exec i s = .next (s.runBeam e i len ill body data)) (hl : ill = none) (hb : body b (s.awake e) = .done ((s.awake e).setV b v))
    (hd : data b (s.awake e) = none := by rfl) : s.Completes e i len (s.eng[e].withV v) :=
  h.completes_update hi hl (hb.trans (by rw [h.setV_eq])) rfl hd

/-! ### What a MARK or ARC hands over -/

section
variable {k : SegKind} {x y z : Int} {arc : Option (Int × Int × Int)}

theorem State.lit_of_check {q : Nat} (h : s.motionCheck b true x y arc = some q) : s.lit b i k x y z arc = .exc 5 q := by
  unfold State.lit
  rw [h]

theorem State.lit_of_run (h : s.motionCheck b true x y arc = none) (hs : s.suppressing b = none) (hh : s.handStalls b = false) :
    s.lit b i k x y z arc = .done ((((s.handMark b (s.markSeg b k x y z arc) (s.beam[b].set.flyFlags.testBit 0)).renew b).moveTo b
      x y z).setV b false) := by
  unfold State.lit
  rw [h, hs]
  exact if_neg (by rw [hh]; decide)

end

/-! ### The target -/

/-- The target of MARK and JUMP: relative to the present position with bit 0, z kept without bit 1 (R202). -/
theorem State.target_eq : s.target b e d a c fn =
    ((if fn.getLsbD 0 then 1 else 0) * s.beam[b].x + (s.eng[e].rd a).toInt,
      (if fn.getLsbD 0 then 1 else 0) * s.beam[b].y + (s.eng[e].rd c).toInt,
      if fn.getLsbD 1 then (if fn.getLsbD 0 then 1 else 0) * s.beam[b].z + (s.eng[e].rd d).toInt else s.beam[b].z) := by
  unfold State.target
  cases fn.getLsbD 0 <;> cases fn.getLsbD 1 <;> simp

theorem motionField_none (hf : fn.toNat < 4) (hd : fn.getLsbD 1 = true ∨ d = 0) : motionField d fn = none := by
  unfold motionField
  rcases hd with hd | hd <;> simp only [hd, Nat.not_le.2 hf, decide_false, Bool.not_true, Bool.false_and, ne_eq, not_true,
    Bool.and_false, Bool.or_false, badField_false]

theorem motionField_some (h : 4 ≤ fn.toNat ∨ (fn.getLsbD 1 = false ∧ d ≠ 0)) : motionField d fn = some 2 := by
  unfold motionField
  rcases h with h | ⟨h, hd⟩
  · rw [decide_eq_true h, Bool.true_or, badField_true]
  · rw [h, decide_eq_true hd, Bool.not_false, Bool.and_true, Bool.or_true, badField_true]

/-! ### MARK and JUMP -/

section
variable {tx ty tz : Int}

/-- MARK and JUMP to where the beam is hand over nothing (R202). -/
theorem State.BeamReady.motion_still (h : s.BeamReady e b) (hm : motionField d fn = none) (ht : s.target b e d a c fn = (tx, ty, tz))
    (hp : (tx, ty, tz) = (s.beam[b].x, s.beam[b].y, s.beam[b].z)) :
    let x := s.eng[e]
    s.Completes e (.mark e d a c fn) 4 { x with flags := { x.flags with v := true } } ∧
      s.Completes e (.jump e d a c fn) 4 { x with flags := { x.flags with v := true } } := by
  constructor
  · refine h.completes_setV rfl hm ?_
    dsimp only
    rw [State.awake_target, ht, State.awake_beam, if_pos hp]
  · refine h.completes_setV rfl hm ?_
    dsimp only
    rw [State.awake_target, ht, State.awake_beam, if_pos hp]

/-- MARK to another place is an element of kind mark (R202, R204). -/
theorem State.BeamReady.mark (h : s.BeamReady e b) (hr : s.suppressing b = none) (hm : motionField d fn = none)
    (ht : s.target b e d a c fn = (tx, ty, tz)) (hp : (tx, ty, tz) ≠ (s.beam[b].x, s.beam[b].y, s.beam[b].z)) :
    let w := s.awake e
    (∀ k, s.motionCheck b true tx ty none = some k → s.Traps e (.mark e d a c fn) 5 k) ∧
    (s.motionCheck b true tx ty none = none → w.handStalls b = false →
      s.Goes e (.mark e d a c fn) 4 ((((w.handMark b (w.markSeg b .mark tx ty tz none)
        (s.beam[b].set.flyFlags.testBit 0)).renew b).moveTo b tx ty tz).setV b false)) := by
  refine ⟨fun k hk => h.traps_exc rfl hm ?_, fun hc hh => h.goes rfl hm ?_⟩
  · dsimp only
    rw [State.awake_target, ht, State.awake_beam, if_neg hp, State.lit_of_check (by rw [State.awake_motionCheck]; exact hk)]
  · dsimp only
    rw [State.awake_target, ht, State.awake_beam, if_neg hp, State.lit_of_run (by rw [State.awake_motionCheck]; exact hc)
      (by rw [State.awake_suppressing]; exact hr) hh, State.awake_beam]

/-- JUMP to another place (R202, R204). -/
theorem State.BeamReady.jump (h : s.BeamReady e b) (hr : s.suppressing b = none) (hm : motionField d fn = none)
    (ht : s.target b e d a c fn = (tx, ty, tz)) (hp : (tx, ty, tz) ≠ (s.beam[b].x, s.beam[b].y, s.beam[b].z)) :
    let w := s.awake e
    (∀ k, s.motionCheck b false tx ty none = some k → s.Traps e (.jump e d a c fn) 5 k) ∧
    (s.motionCheck b false tx ty none = none → w.handStalls b = false →
      s.Goes e (.jump e d a c fn) 4 ((((w.handJump b (tx * fxOne) (ty * fxOne) (tz * fxOne) s.beam[b].set).renew b).moveTo b
        tx ty tz).setV b false)) := by
  refine ⟨fun k hk => h.traps_exc rfl hm ?_, fun hc hh => h.goes rfl hm ?_⟩
  · dsimp only
    rw [State.awake_target, ht, State.awake_beam, if_neg hp, State.awake_motionCheck, hk]
  · dsimp only
    rw [State.awake_target, ht, State.awake_beam, if_neg hp, State.awake_motionCheck, hc, State.awake_suppressing, hr]
    dsimp only
    rw [Option.isSome_none, if_neg Bool.false_ne_true, if_neg (by rw [hh]; decide)]

end

/-! ### ARC -/

/-- The body of ARC about the centre (tx, ty) with the sweep of g[d] (R203). -/
theorem State.BeamReady.arc (h : s.BeamReady e b) (hr : s.suppressing b = none) (hf : fn.toNat < 2) :
    let x := s.eng[e]
    let p := s.beam[b]
    let w := s.awake e
    let r : Int := if fn.getLsbD 0 then 1 else 0
    let tx := r * p.x + (x.rd a).toInt
    let ty := r * p.y + (x.rd c).toInt
    let sw := (x.rd d).toInt
    let r2 := (p.x - tx) ^ 2 + (p.y - ty) ^ 2
    let q := turn (p.x * fxOne) (p.y * fxOne) (tx * fxOne) (ty * fxOne) sw (2 ^ 32)
    let ex := rdivAway q.1 1048576
    let ey := rdivAway q.2 1048576
    (sw = 0 ∨ r2 < 1000000 → s.Completes e (.arc e d a c fn) 4 { x with flags := { x.flags with v := true } }) ∧
    (sw ≠ 0 → 1000000 ≤ r2 →
      (∀ k, s.motionCheck b true ex ey (some (tx, ty, sw)) = some k → s.Traps e (.arc e d a c fn) 5 k) ∧
      (s.motionCheck b true ex ey (some (tx, ty, sw)) = none → w.handStalls b = false →
        s.Goes e (.arc e d a c fn) 4 ((((w.handMark b (w.markSeg b .arc ex ey p.z (some (tx, ty, sw)))
          (p.set.flyFlags.testBit 0)).renew b).moveTo b ex ey p.z).setV b false))) := by
  intro x p w r tx ty sw r2 q ex ey
  have hb : badField (decide (2 ≤ fn.toNat)) = none := by simp [Nat.not_le.2 hf]
  have hx : (x.rd a).toInt + (if fn.getLsbD 0 then p.x else 0) = tx := by
    simp only [tx, r]
    split_ifs <;> omega
  have hy : (x.rd c).toInt + (if fn.getLsbD 0 then p.y else 0) = ty := by
    simp only [ty, r]
    split_ifs <;> omega
  have hr2 : (p.x - tx) * (p.x - tx) + (p.y - ty) * (p.y - ty) = r2 := by rw [← sq, ← sq]
  have hnot (hs : sw ≠ 0) (h2 : 1000000 ≤ r2) : ¬(sw = 0 ∨ r2 < 1000000) := not_or.2 ⟨hs, not_lt.2 h2⟩
  refine ⟨fun hs => h.completes_setV rfl hb ?_, fun hs h2 => ⟨fun k hk => h.traps_exc rfl hb ?_, fun hc hh => h.goes rfl hb ?_⟩⟩
  · dsimp only
    rw [State.awake_eng, State.awake_beam, hx, hy, hr2, if_pos hs]
  · dsimp only
    rw [State.awake_eng, State.awake_beam, hx, hy, hr2, if_neg (hnot hs h2), State.lit_of_check (by rw [State.awake_motionCheck]; exact hk)]
  · dsimp only
    rw [State.awake_eng, State.awake_beam, hx, hy, hr2, if_neg (hnot hs h2), State.lit_of_run (by rw [State.awake_motionCheck]; exact hc)
      (by rw [State.awake_suppressing]; exact hr) hh, State.awake_beam]

/-! ### The checks of a straight element -/

theorem Box.holds_eq_true {f : Box} {x y : Int} (h : ¬(x < f.x0 ∨ f.x1 < x ∨ y < f.y0 ∨ f.y1 < y)) : f.holds x y = true :=
  decide_eq_true (by omega)

theorem Box.holds_eq_false {f : Box} {x y : Int} (h : x < f.x0 ∨ f.x1 < x ∨ y < f.y0 ∨ f.y1 < y) : f.holds x y = false :=
  decide_eq_false (by omega)

section
variable {x y : Int}

theorem State.motionCheck_outside {lit : Bool} (h : (s.field b).holds x y = false) : s.motionCheck b lit x y none = some 3 := if_pos h

theorem State.motionCheck_dark (h : (s.field b).holds x y = true) : s.motionCheck b false x y none = none := by
  unfold State.motionCheck
  dsimp only
  rw [if_neg (by rw [h]; decide)]
  rfl

/-- A lit straight element to a target in the field: a lease is needed, whose box holds both its ends. -/
theorem State.motionCheck_lit (h : (s.field b).holds x y = true) : s.motionCheck b true x y none =
    match s.beam[b].lease with
    | none => some 1
    | some l => if l.1.holds s.beam[b].x s.beam[b].y && l.1.holds x y then none else some 0 := by
  unfold State.motionCheck
  dsimp only
  rw [if_neg (by rw [h]; decide), if_pos rfl]
  cases s.beam[b].lease <;> rfl

end

/-- Settles O20: MARK and JUMP from the target, ARC from its centre, then the checks of R204 in their order. -/
theorem motionComplete : Obligations.MotionComplete := by
  unfold Obligations.MotionComplete
  refine ⟨fun s e b d a c fn h hr => ?_, fun s b x y lit => ?_⟩
  · have ht := s.target_eq (b := b) (e := e) (d := d) (a := a) (c := c) (fn := fn)
    refine ⟨fun hf hd hp => ?still, fun hf hd hp => ?moves, fun hf => ?fields, fun hf => (h.arc hr hf).1, fun hf => (h.arc hr hf).2,
      fun hf => h.traps rfl (by simp [hf])⟩
    case still => exact h.motion_still (motionField_none hf hd) ht hp
    case moves =>
      obtain ⟨hmk, hmark⟩ := h.mark hr (motionField_none hf hd) ht hp
      obtain ⟨hjk, hjump⟩ := h.jump hr (motionField_none hf hd) ht hp
      exact ⟨hmk, hjk, hmark, hjump⟩
    case fields => exact ⟨h.traps rfl (motionField_some hf), h.traps rfl (motionField_some hf)⟩
  · refine ⟨fun ho => State.motionCheck_outside (Box.holds_eq_false ho), fun ho => State.motionCheck_dark (Box.holds_eq_true ho),
      fun ho hl => ?_, fun l ho hl hout => ?_, fun l ho hl h1 h2 => ?_⟩
    all_goals rw [State.motionCheck_lit (Box.holds_eq_true ho), hl]
    · rcases hout with hout | hout
      · exact if_neg (by rw [Box.holds_eq_false hout, Bool.false_and]; decide)
      · exact if_neg (by rw [Box.holds_eq_false hout, Bool.and_false]; decide)
    · exact if_pos (by rw [Box.holds_eq_true h1, Box.holds_eq_true h2]; decide)

end Sys2Proof.Machine
end

section
/-! SUPPORT. Leases, barriers, stamps, safe points and the ends of a beam's program (R192, R205-R218). -/

namespace Sys2Proof.Machine

variable {s t : State} {e : Eng} {b : Sys2Proof.Beam} {d a : GReg} {fn : BitVec 11}

/-! ### What the awake state reads -/

@[simp] theorem State.awake_leaseBox : (s.awake e).leaseBox b e a = s.leaseBox b e a := State.awake_reads (·.leaseBox b e a) fun _ => rfl

@[simp] theorem State.awake_leaseBanks : (s.awake e).leaseBanks e a = s.leaseBanks e a := State.awake_reads (·.leaseBanks e a) fun _ => rfl

@[simp] theorem State.awake_partOf {n : Fin 8} : (s.awake e).partOf b n = s.partOf b n := State.awake_reads (·.partOf b n) fun _ => rfl

@[simp] theorem State.awake_safeValid {w : Swath} {p k : Nat} : (s.awake e).safeValid w p k = s.safeValid w p k :=
  State.awake_reads (·.safeValid w p k) fun _ => rfl

/-! ### Leases -/

/-- Reading the box of a LEASE leaves the beams as they are. -/
@[simp] theorem State.leaseRead_beam : (s.leaseRead e a).beam = s.beam := by
  obtain ⟨p, hp⟩ := forEach_touch (l := s.leaseBanks e a) (s := s)
  unfold State.leaseRead
  dsimp only
  rw [hp]
  split_ifs <;> rfl

theorem State.leaseRead_domainOn {k : Fin 44} : (s.leaseRead e a).domainOn k = s.domainOn k := by
  obtain ⟨p, hp⟩ := forEach_touch (l := s.leaseBanks e a) (s := s)
  unfold State.leaseRead
  dsimp only
  rw [hp]
  split_ifs <;> rfl

theorem find_off_none {l : List (Fin 44)} (h : ∀ k ∈ l, s.domainOn k = true) : l.find? (fun k => !s.domainOn k) = none := by
  rw [List.find?_eq_none]
  intro k hk
  rw [h k hk]
  decide

/-- The fields of LEASE (R205). -/
theorem leaseField_none (hd : d.val % 2 = 0) (hf : fn.toNat < 2) :
    badField (oddPair d || decide ((0 : GReg) ≠ 0 ∨ 2 ≤ fn.toNat)) = none := by
  rw [oddPair_even hd, Bool.false_or, decide_eq_false (by simpa using hf), badField_false]

theorem leaseField_some (h : d.val % 2 = 1 ∨ 2 ≤ fn.toNat) :
    badField (oddPair d || decide ((0 : GReg) ≠ 0 ∨ 2 ≤ fn.toNat)) = some 2 := by
  rcases h with h | h
  · rw [oddPair_odd h, Bool.true_or, badField_true]
  · rw [decide_eq_true (.inr h), Bool.or_true, badField_true]

theorem State.leaseExc_error {q : Nat × Nat} (h : s.leaseBox b e a = .error q) : s.leaseExc b e a = some q := by
  unfold State.leaseExc
  rw [h]

theorem State.leaseExc_ok {x : Box} (h : s.leaseBox b e a = .ok x) : s.leaseExc b e a = none := by
  unfold State.leaseExc
  rw [h]

/-- The exceptions of reading the box of a LEASE (R163, R164). -/
theorem State.BeamReady.lease_traps {q : Nat × Nat} (h : s.BeamReady e b) (hd : d.val % 2 = 0) (hf : fn.toNat < 2)
    (hq : s.leaseBox b e a = .error q) : s.Traps e (.lease e d a 0 fn) q.1 q.2 :=
  h.ready.traps_exc (h.exec_eq rfl) (leaseField_none hd hf) (State.beamBody_of_exc (State.leaseExc_error (by rw [State.awake_leaseBox, hq])))

/-- LEASE with a box that it could read: HELD, OUTSIDE, or the request (R205). -/
theorem State.BeamReady.lease {x : Box} (h : s.BeamReady e b) (hd : d.val % 2 = 0) (hf : fn.toNat < 2)
    (hon : ∀ k ∈ s.leaseBanks e a, s.domainOn k = true) (hx : s.leaseBox b e a = .ok x) :
    let lease := Instr.lease e d a 0 fn
    let r := (s.awake e).leaseRead e a
    let answer (v : Word) : Prop := s.Goes e lease 4 (r.modEng e fun y =>
      let z := (y.setG d v).setG (pairHi d) 0
      { z with flags := { z.flags with v := true } })
    (s.beam[b].lease.isSome = true → answer 0x80000001#32) ∧
    (s.beam[b].lease = none → s.beam[b].present = none → answer 0x80000002#32) ∧
    (∀ v, s.beam[b].lease = none → s.beam[b].present = some v → x.empty = true ∨ x.inside v.hdr.box = false → answer 0x80000002#32) ∧
    (∀ v, s.beam[b].lease = none → s.beam[b].present = some v → x.empty = false → x.inside v.hdr.box = true →
      s.domainOn domArb = true →
      exec lease s = .next (((r.touch domArb).setWait e (.lease d (fn.getLsbD 0))).request b x v.hdr.cls (fn.getLsbD 0) false)) := by
  have hb : (s.awake e).leaseBox b e a = .ok x := by rw [State.awake_leaseBox, hx]
  have hfind : ((s.awake e).leaseBanks e a).find? (fun k => !(s.awake e).domainOn k) = none :=
    find_off_none fun k hk => by
      rw [State.awake_domainOn]
      exact hon k (by rwa [State.awake_leaseBanks] at hk)
  have hexc := State.leaseExc_ok hb
  have hfield := leaseField_none (d := d) (fn := fn) hd hf
  refine ⟨fun hl => h.goes rfl hfield ?_ hexc, fun hl hp => h.goes rfl hfield ?_ hexc, fun v hl hp hv => h.goes rfl hfield ?_ hexc,
    fun v hl hp h1 h2 hdom => h.exec_of_hold rfl hfield ?_ hexc⟩
  all_goals
    dsimp only
    rw [hb]
    dsimp only
    rw [hfind]
    dsimp only
    rw [State.leaseRead_beam, State.awake_beam, hl]
  · rw [if_pos rfl]
  · rw [Option.isSome_none, if_neg Bool.false_ne_true, hp]
  · rw [Option.isSome_none, if_neg Bool.false_ne_true, hp]
    refine if_pos ?_
    rcases hv with hv | hv <;> rw [hv]
    · rfl
    · rw [Bool.not_false, Bool.or_true]
  · rw [Option.isSome_none, if_neg Bool.false_ne_true, hp]
    dsimp only
    rw [h1, h2, if_neg (by decide), State.leaseRead_domainOn, State.awake_domainOn, hdom, if_neg (by decide)]

/-- RELEASE (R206). -/
theorem State.BeamReady.release (h : s.BeamReady e b) :
    (s.beam[b].lease.isSome = true → s.Goes e (.release e 0 0 0 0) 4 (((s.awake e).giveUpLease b none).setV b false)) ∧
    (s.beam[b].lease = none → s.Completes e (.release e 0 0 0 0) 4 (s.eng[e].withV true)) := by
  refine ⟨fun hl => h.goes rfl rfl ?_, fun hl => h.completes_setV rfl rfl ?_⟩
  · rw [State.awake_beam, if_pos hl]
  · rw [State.awake_beam, hl, Option.isSome_none, if_neg Bool.false_ne_true]

/-! ### Barriers and stamps -/

theorem syncField_none (hf : fn.toNat < 8) : badField (decide ((0 : GReg) ≠ 0 ∨ (0 : GReg) ≠ 0 ∨ 8 ≤ fn.toNat)) = none := by
  rw [decide_eq_false (by simpa using hf), badField_false]

/-- SYNC (R209). -/
theorem State.BeamReady.sync (h : s.BeamReady e b) (hf : fn.toNat < 8) :
    let w := s.awake e
    let n : Fin 8 := Fin.ofNat 8 fn.toNat
    let arrive := ((if w.starved b then w.starve b else w.endSequence b).setWait e (.barrier n))
    ((s.suppressing b).isSome = true → s.Completes e (.sync e 0 a 0 fn) 4 (s.eng[e].withV false)) ∧
    (s.suppressing b = none → s.partOf b n = false → s.Completes e (.sync e 0 a 0 fn) 4 (s.eng[e].withV true)) ∧
    (s.suppressing b = none → w.partOf b n = true →
      exec (.sync e 0 a 0 fn) s = .next
        (State.barrierCheck { arrive with arb := { arrive.arb with barriers := arrive.arb.barriers.set n (arrive.arb.barriers[n] ++
          [⟨b, arrive.beam[b].traj.stream, arrive.now, (arrive.eng[e].rd a).toNat⟩]) } } n)) := by
  refine ⟨fun hs => h.completes_setV rfl (syncField_none hf) ?_, fun hs hp => h.completes_setV rfl (syncField_none hf) ?_,
    fun hs hp => h.exec_of_hold rfl (syncField_none hf) ?_⟩
  all_goals
    dsimp only
    rw [State.awake_suppressing]
  · rw [if_pos hs]
  · rw [hs, Option.isSome_none, if_neg Bool.false_ne_true, State.awake_partOf, if_pos hp]
  · rw [hs, Option.isSome_none, if_neg Bool.false_ne_true, if_neg (by rw [hp]; decide)]

/-- A number of 64 bits has the halves of its integer. -/
theorem ofNat_wrap (k : Int) : BitVec.ofNat 32 (wrap 64 k) = BitVec.ofInt 32 k := by
  apply BitVec.eq_of_toNat_eq
  rw [BitVec.toNat_ofNat, BitVec.toNat_ofInt, wrap]
  omega

theorem ofNat_wrap_high (k : Int) : BitVec.ofNat 32 (wrap 64 k / 2 ^ 32) = BitVec.ofInt 32 (k / 2 ^ 32) := by
  apply BitVec.eq_of_toNat_eq
  rw [BitVec.toNat_ofNat, BitVec.toNat_ofInt, wrap]
  omega

/-- TSTAMP (R211). -/
theorem State.BeamReady.tstamp (h : s.BeamReady e b) (hd : d.val % 2 = 0) :
    let k := ((s.awake e).nextStart b).fdiv 8
    s.Completes e (.tstamp e d 0 0 0) 4 ((s.eng[e].setG d (BitVec.ofInt 32 k)).setG (pairHi d) (BitVec.ofInt 32 (k / 2 ^ 32))) := by
  refine h.completes_update (f := fun x => (x.setG d (BitVec.ofInt 32 _)).setG (pairHi d) (BitVec.ofInt 32 _)) rfl ?_ ?_ rfl
  · rw [oddPair_even hd]
    rfl
  · dsimp only
    rw [ofNat_wrap, ofNat_wrap_high]

/-! ### The end of a program, and safe points -/

/-- SWEND (R190, R192). -/
theorem State.BeamReady.swend (h : s.BeamReady e b) :
    (s.beam[b].eretEnds = false → exec (.swend e 0 0 0 0) s = .next ((s.awake e).normalEnd b)) ∧
    (s.beam[b].eretEnds = true → exec (.swend e 0 0 0 0) s = .next ((s.awake e).handlerDone b)) := by
  refine ⟨fun hr => h.exec_of_hold rfl rfl ?_, fun hr => h.exec_of_hold rfl rfl ?_⟩
  all_goals rw [State.awake_beam, hr]
  · rw [if_neg Bool.false_ne_true]
  · rw [if_pos rfl]

/-- SAFE outside a swath, at an entry that is not valid, and at a valid one with room for its shadow (R212, R213). -/
theorem State.BeamReady.safe (h : s.BeamReady e b) (k : BitVec 16) :
    let w := s.awake e
    (s.beam[b].present = none → s.Goes e (.safe e 0 0 k) 4 ((w.renew b).setV b true)) ∧
    (∀ v, s.beam[b].present = some v → s.safeValid v s.eng[e].pc.toNat k.toNat = false →
      s.Goes e (.safe e 0 0 k) 4 ((w.renew b).setV b true)) ∧
    (∀ v, s.beam[b].present = some v → s.safeValid v s.eng[e].pc.toNat k.toNat = true →
      (s.beam[b].swaths.flatMap (·.pending)).length < 4 →
      let u := (w.renew b).setV b false
      s.Goes e (.safe e 0 0 k) 4 (u.modSwath b v.hdr.id fun v => { v with pending := v.pending ++ [u.shadow b k (s.eng[e].pc + 4)] })) := by
  have hbeam : ((s.awake e).renew b).beam = s.beam := State.awake_reads (fun s => (s.renew b).beam) fun _ => rfl
  have heng : ((s.awake e).renew b).eng = s.eng := State.awake_reads (fun s => (s.renew b).eng) fun _ => rfl
  have hvalid (v : Swath) (p n : Nat) : ((s.awake e).renew b).safeValid v p n = s.safeValid v p n :=
    State.awake_reads (fun s => (s.renew b).safeValid v p n) fun _ => rfl
  refine ⟨fun hp => h.goes rfl rfl ?_, fun v hp hv => h.goes rfl rfl ?_, fun v hp hv hn => h.goes rfl rfl ?_⟩
  all_goals
    dsimp only
    rw [hbeam, hp]
  · dsimp only
    rw [heng, hvalid, if_pos hv]
  · dsimp only
    rw [heng, hvalid, hv, if_neg (by decide), if_neg (by omega)]

end Sys2Proof.Machine
end

section
/-! SUPPORT. What happens to the program of a beam: commits, restarts, broken barriers, repeated requests (R210, R213, R218, R274). -/

namespace Sys2Proof.Machine

variable {s t : State} {b : Sys2Proof.Beam} {n : Fin 8}

theorem State.modBeam_same {f : Beam → Beam} : (s.modBeam b f).beam[b] = f s.beam[b] := vmod_same ..

theorem State.modArb_same {f : ArbBeam → ArbBeam} : (s.modArb b f).arb.beams[b] = f s.arb.beams[b] := vmod_same ..

/-- A request of the device to domains that are ON is met at once (R41). -/
theorem State.askSoon_one {d : Fin 44} {k : State → State} (h : s.domainOn d = true) : s.askSoon [d] k = k (s.touch d) := by
  unfold State.askSoon
  rw [if_pos (by rw [List.all_cons, h]; rfl)]
  rfl

/-- SAFE_COMMIT of the oldest pending shadow, whose time has come (R213). -/
theorem State.safeCommit_reached {v : Swath} {x : Shadow} {l : List Shadow}
    (hf : s.beam[b].swaths.find? (fun v => !v.pending.isEmpty) = some v) (hp : v.pending = x :: l) (hr : s.reachedEt x.at_ = true) :
    exec (.safeCommit b) s = .next ((s.modTraj b fun j => { j with mdFrom := x.at_ }).modSwath b v.hdr.id fun w =>
      { w with committed := x, pending := l, markDone := 0, suppressed := 0 }) := by
  show execSafeCommit b s = _
  unfold execSafeCommit
  rw [hf]
  dsimp only
  rw [hp]
  dsimp only
  rw [if_pos hr]

/-! ### Restarts -/

/-- The engine of a beam as a restart from shadow h leaves it, on the given try (R218). -/
def Engine.restarted (x : Engine) (h : Shadow) (tries : Nat) : Engine :=
  ({ x with g := h.g, acc := h.acc, pc := h.pc, wait := none
            flags := { x.flags with v := h.flags.v, c := h.flags.c, z := h.flags.z, n := h.flags.n } } : Engine).setG 3
    (BitVec.ofNat 32 tries)

theorem Engine.restarted_eq (x : Engine) (h : Shadow) (tries : Nat) :
    (x.restarted h tries).pc = h.pc ∧ (x.restarted h tries).acc = h.acc ∧ (x.restarted h tries).rd 3 = BitVec.ofNat 32 tries ∧
      ∀ r : GReg, r ≠ 3 → (x.restarted h tries).g[r] = h.g[r] := by
  refine ⟨?_, ?_, Engine.rd_setG_same _ _ (by decide), fun r hr => ?_⟩
  · rw [Engine.restarted, Engine.setG_eq]
  · rw [Engine.restarted, Engine.setG_eq]
  · have h3 : (3 : Nat) ≠ r.val := fun e => hr (Fin.ext e.symm)
    rw [Engine.restarted, Engine.setG, if_neg (by decide)]
    exact Vector.getElem_set_ne (by decide) _ h3

@[simp] theorem State.request_beam {box : Box} {cls : Nat} {w r : Bool} : (s.request b box cls w r).beam = s.beam := rfl

@[simp] theorem State.request_eng {box : Box} {cls : Nat} {w r : Bool} : (s.request b box cls w r).eng = s.eng := rfl

@[simp] theorem State.wdogReload_beam {e : Eng} : (s.wdogReload e).beam = s.beam := rfl

theorem State.wdogReload_eng {e : Eng} : ∃ f, (s.wdogReload e).eng[e] = { s.eng[e] with wdogAcc := 0, wdogFrom := f } :=
  ⟨_, State.modEng_same⟩

/-- Beam b and its engine with the committed shadow of swath v restored, and the swath in state q (R218). -/
def State.restored (s : State) (b : Sys2Proof.Beam) (v : Swath) (q : SwState) : State :=
  (((s.touch domArb).modEng (engOf b) fun x => x.restarted v.committed v.tries).modBeam b fun x =>
    { x with set := v.committed.set, x := v.committed.x, y := v.committed.y, z := v.committed.z, expired := x.expired && x.settled
             eretEnds := false, disp := false }).modSwath b v.hdr.id fun w => { w with state := q, suppressed := 0 }

theorem State.restored_eng {v : Swath} {q : SwState} :
    (s.restored b v q).eng[engOf b] = s.eng[engOf b].restarted v.committed v.tries := State.modEng_same

theorem State.restored_beam {v : Swath} {q : SwState} : ∃ x : Beam, (s.restored b v q).beam[b] = x ∧ x.set = v.committed.set ∧
    (x.x, x.y, x.z) = (v.committed.x, v.committed.y, v.committed.z) ∧
    x.swaths = s.beam[b].swaths.map fun u => if u.hdr.id = v.hdr.id then { u with state := q, suppressed := 0 } else u := by
  refine ⟨_, rfl, ?_⟩
  rw [State.restored, State.modSwath, State.modBeam_same, State.modBeam_same]
  exact ⟨rfl, rfl, rfl⟩

/-- SWATH_RESTART of a beam whose stop has finished: its swaths, its settings and position, and its engine (R218). -/
theorem State.swathRestart_finished {v : Swath} (hp : s.beam[b].present = some v) (hst : v.state = .stopping)
    (hh : s.exposureHeld b = false) (hs : s.stopDone b = true) (hc : s.arb.beams[b].cur = none) (ho : s.arb.beams[b].old = [])
    (hon : s.domainOn domArb = true) : exec (.swathRestart b) s = .next (match v.committed.lease with
      | some box => (s.restored b v .restartWait).request b box v.hdr.cls true true
      | none => (s.restored b v .suppress).wdogReload (engOf b)) := by
  show execSwathRestart b s = _
  unfold execSwathRestart
  rw [hp]
  dsimp only
  rw [if_pos ⟨hst, hh, hs, by rw [hc]; rfl, by rw [ho]; rfl⟩, State.askSoon_one hon]
  rfl

/-! ### Broken barriers -/

/-- The arrival w at barrier n ends in its break (R210). -/
def State.breaks (n : Fin 8) (s : State) (w : Arrival) : State :=
  let f := F.BEAM_SYNC_BROKEN w.beam.val
  (s.put f (s.get f ||| 2 ^ n.val)).modEng (engOf w.beam) fun x => x.complete fun x => { x with flags := { x.flags with v := true } }

theorem State.breakBarrier_eq : s.breakBarrier n =
    forEach s.arb.barriers[n] { s with arb := { s.arb with barriers := s.arb.barriers.set n [] } } (State.breaks n) := rfl

theorem State.forEach_breaks_arb : ∀ {l : List Arrival} {s : State}, (forEach l s (State.breaks n)).arb = s.arb
  | [], _ => rfl
  | w :: l, s => by
    show (forEach l (s.breaks n w) (State.breaks n)).arb = _
    rw [State.forEach_breaks_arb]
    simp [State.breaks]

theorem engOf_injective {b c : Sys2Proof.Beam} (h : engOf b = engOf c) : b = c := by
  have hv := congrArg Fin.val h
  exact Fin.ext hv

theorem State.breaks_eng_other {w : Arrival} (h : w.beam ≠ b) : (s.breaks n w).eng[engOf b] = s.eng[engOf b] := by
  unfold State.breaks
  rw [State.modEng_eng, vmod_other _ _ fun e => h (engOf_injective e).symm, State.put_eng]

theorem State.breaks_eng_same {w : Arrival} : (s.breaks n w).eng[engOf w.beam] =
    s.eng[engOf w.beam].complete fun x => { x with flags := { x.flags with v := true } } := by
  unfold State.breaks
  rw [State.modEng_same, State.put_eng]

theorem State.forEach_breaks_eng_other : ∀ {l : List Arrival} {s : State}, (∀ w ∈ l, w.beam ≠ b) →
    (forEach l s (State.breaks n)).eng[engOf b] = s.eng[engOf b]
  | [], _, _ => rfl
  | w :: l, s, h => by
    show (forEach l (s.breaks n w) (State.breaks n)).eng[engOf b] = _
    rw [State.forEach_breaks_eng_other fun x hx => h x (List.mem_cons_of_mem _ hx), State.breaks_eng_other (h w List.mem_cons_self)]

/-- The engine of a beam with one arrival completes its SYNC once, with V = 1. -/
theorem State.forEach_breaks_eng {l : List Arrival} {v : Arrival} (h : l.filter (fun w => decide (w.beam = b)) = [v]) :
    (forEach l s (State.breaks n)).eng[engOf b] =
      s.eng[engOf b].complete fun x => { x with flags := { x.flags with v := true } } := by
  obtain ⟨l₁, l₂, rfl, h₁, hv, h₂⟩ := List.filter_eq_cons_iff.1 h
  have hb : v.beam = b := of_decide_eq_true hv
  have hl : forEach (l₁ ++ v :: l₂) s (State.breaks n) = forEach l₂ ((forEach l₁ s (State.breaks n)).breaks n v) (State.breaks n) := by
    simp only [forEach, List.foldl_append, List.foldl_cons]
  rw [hl, State.forEach_breaks_eng_other (by simpa using h₂)]
  subst hb
  rw [State.breaks_eng_same, State.forEach_breaks_eng_other (by simpa using h₁)]

/-- BARRIER_WITHDRAW of a beam whose time has passed: the barrier breaks (R210). -/
theorem State.barrierWithdraw_breaks {v : Arrival} (hw : s.eng[engOf b].wait = some (.barrier n))
    (hf : s.arb.barriers[n].filter (fun v => decide (v.beam = b)) = [v]) (ht : v.timeout ≠ 0)
    (hr : s.elapsed v.at_ (1000 * v.timeout) = true) : exec (.barrierWithdraw b) s = .next (s.breakBarrier n) := by
  have hfind : s.arb.barriers[n].find? (fun v => decide (v.beam = b)) = some v := by rw [← List.head?_filter, hf]; rfl
  show execBarrierWithdraw b s = _
  unfold execBarrierWithdraw
  rw [hw]
  dsimp only
  rw [hfind]
  dsimp only
  rw [if_pos ⟨ht, hr⟩]

/-! ### Repeated requests -/

/-- LEASE_RETRY of a request whose time has come (R274). -/
theorem State.leaseRetry_due {r : Request} (hq : s.arb.beams[b].req = some r) (hw : r.waiting = true) (hd : r.dead = false)
    (hdue : if r.retry = 0xFFFFFFFE#32 then r.unblocked.isSome = true ∧ r.trev ≤ s.layerTime else r.retry.toNat ≤ s.layerTime)
    (hon : s.domainOn domArb = true) : exec (.leaseRetry b) s = .next (((s.touch domArb).modArb b fun a => { a with
      req := some { r with waiting := false, unblocked := none } }).joinWindow (.loc b)) := by
  have hcond : (if r.retry = 0xFFFFFFFE#32 then r.unblocked.isSome && decide (r.trev ≤ s.layerTime)
      else decide (r.retry.toNat ≤ s.layerTime)) = true := by
    split_ifs with hk
    · rw [if_pos hk] at hdue
      rw [hdue.1, decide_eq_true hdue.2]
      rfl
    · rw [if_neg hk] at hdue
      exact decide_eq_true hdue
  show execLeaseRetry b s = _
  unfold execLeaseRetry
  rw [hq]
  dsimp only
  rw [if_pos (by rw [hw, hd, hcond]; rfl), State.askSoon_one hon]

/-- Settles O21: the instructions one by one, then what happens to a beam's program. -/
theorem leaseBarrierAndProgramEventsComplete : Obligations.LeaseBarrierAndProgramEventsComplete := by
  unfold Obligations.LeaseBarrierAndProgramEventsComplete
  refine ⟨fun s e b d a c fn k h => ?_, fun s b => ⟨fun v x l hf hp hr => ?commit, fun v hp hst hh hs hc ho hon => ?restart,
    fun n v hw hf ht hr => ?withdraw, fun r hq hw hd hdue hon => ?retry⟩⟩
  · exact ⟨fun hd hf q hq => h.lease_traps hd hf hq, fun hd hf hon box hx => h.lease hd hf hon hx, fun hf => h.traps rfl (leaseField_some hf),
      h.release.1, h.release.2, fun hf => (h.sync hf).1, fun hf => (h.sync hf).2.1, fun hf => (h.sync hf).2.2, fun hd => h.tstamp hd,
      h.swend.1, h.swend.2, h.safe k⟩
  case commit =>
    refine ⟨_, State.safeCommit_reached hf hp hr, rfl, ?_, ?_⟩
    · rw [State.modSwath, State.modBeam_same, State.modTraj, State.modBeam_same]
    · rw [State.modSwath, State.modBeam_same, State.modTraj, State.modBeam_same]
  case restart =>
    have hx := State.swathRestart_finished hp hst hh hs hc ho hon
    obtain ⟨hpc, hacc, hrd, hg⟩ := s.eng[engOf b].restarted_eq v.committed v.tries
    cases hl : v.committed.lease with
    | some box =>
      rw [hl] at hx
      obtain ⟨x, hbeam, hset, hpos, hsw⟩ := State.restored_beam (s := s) (b := b) (v := v) (q := .restartWait)
      refine ⟨_, hx, ?_⟩
      have heng := State.restored_eng (s := s) (b := b) (v := v) (q := .restartWait)
      rw [State.request_beam, State.request_eng, hbeam, heng]
      exact ⟨hset, hpos, hpc, hacc, hrd, hg, hsw⟩
    | none =>
      rw [hl] at hx
      obtain ⟨x, hbeam, hset, hpos, hsw⟩ := State.restored_beam (s := s) (b := b) (v := v) (q := .suppress)
      obtain ⟨k, hk⟩ := State.wdogReload_eng (s := s.restored b v .suppress) (e := engOf b)
      refine ⟨_, hx, ?_⟩
      rw [State.wdogReload_beam, hk, hbeam, State.restored_eng]
      exact ⟨hset, hpos, hpc, hacc, hrd, hg, hsw⟩
  case withdraw =>
    refine ⟨_, State.barrierWithdraw_breaks hw hf ht hr, ?_, ?_⟩
    · rw [State.breakBarrier_eq, State.forEach_breaks_arb]
      exact Vector.getElem_set_self _
    · rw [State.breakBarrier_eq, State.forEach_breaks_eng hf]
      exact ⟨rfl, rfl, rfl⟩
  case retry =>
    refine ⟨_, State.leaseRetry_due hq hw hd hdue hon, rfl, ?_, ?_⟩
    · exact congrArg ArbBeam.req State.modArb_same
    · unfold State.joinWindow
      dsimp only
      split <;> rfl

end Sys2Proof.Machine
end

section
/-! SUPPORT. Exceptions, faults, the watchdog (R179-R186). -/

namespace Sys2Proof.Machine

variable {s t : State} {e : Eng}

/-! ### Entering an exception -/

theorem State.takeException_field {cause detail : Nat} {async : Bool} (he : 16 ≤ e.val) :
    s.takeException e cause detail async =
      if s.eng[e].active then s.engFault e cause true else s.enterException e cause detail async := by
  unfold State.takeException
  rw [beamOfEng_none he]

theorem State.modEng_eq_set {f : Engine → Engine} : s.modEng e f = { s with eng := s.eng.set e (f s.eng[e]) } := rfl

/-- The vector entry depends on the local memory only. -/
theorem State.vector_congr {c : Nat} (h : t.eng[e].mem = s.eng[e].mem) : t.vector e c = s.vector e c := by
  unfold State.vector
  rw [h]

/-- The engine as R182 step 3 leaves it. -/
def State.excEngine (s : State) (e : Eng) (cause detail : Nat) (async : Bool) : Engine :=
  { s.eng[e] with
    epc := s.eng[e].pc
    ecause := BitVec.ofNat 32 (cause + 16 + 32 * b2n async + 256 * s.flagsWord e + 65536 * (detail % 256)), wait := none }

/-- R182 steps 3 and 4, by whether the vector entry is valid. -/
theorem State.enterException_eq {cause detail : Nat} {async : Bool} :
    s.enterException e cause detail async = match s.vector e cause with
      | some v => { s with eng := s.eng.set e { s.excEngine e cause detail async with pc := v } }
      | none => State.engFault { s with eng := s.eng.set e (s.excEngine e cause detail async) } e cause true := by
  unfold State.enterException
  dsimp only
  rw [State.vector_congr (s := s) (t := s.modEng e _) (by rw [State.modEng_same])]
  cases s.vector e cause with
  | some v =>
    dsimp only
    rw [State.modEng_modEng]
    rfl
  | none => rfl

/-- The vector entry of a cause is the word at 4 × cause, where that is a place to go to (R182). -/
theorem State.vector_eq {c : Nat} :
    let v := s.eng[e].mem.read (4 * c) 4
    s.vector e c = if s.eng[e].mem.badIn (4 * c) 4 = false ∧ v % 4 = 0 ∧
      ((0x40 ≤ v ∧ v < localSize e) ∨ (0x10000000 ≤ v ∧ v < 0x16000000)) then some (BitVec.ofNat 32 v) else none := by
  unfold State.vector
  simp only [Bool.and_eq_true, Bool.not_eq_true', decide_eq_true_eq]
  rfl

/-- Settles O22: a field core takes R182 at once, and its vector entry is one condition. -/
theorem exceptionEntry : Obligations.ExceptionEntry := by
  unfold Obligations.ExceptionEntry
  refine ⟨fun s e cause detail async he hc hd => ?_, fun s e cause => ⟨fun hb hm hl => ?_, fun h => ?_⟩⟩
  · have hx : s.excEngine e cause detail async = { s.eng[e] with
        epc := s.eng[e].pc
        ecause := BitVec.ofNat 32 (cause + 16 + 32 * b2n async + 256 * s.flagsWord e + 65536 * detail), wait := none } := by
      rw [State.excEngine, Nat.mod_eq_of_lt hd]
    refine ⟨fun v ha hv => ?_, fun ha hv => ?_, fun ha => ?_⟩
    · rw [State.takeException_field he, if_neg (by rw [Engine.active, ha]; decide), State.enterException_eq, hv, hx]
      rfl
    · rw [State.takeException_field he, if_neg (by rw [Engine.active, ha]; decide), State.enterException_eq, hv, hx]
      rfl
    · have hact : s.eng[e].active = true := ha
      rw [State.takeException_field he, if_pos hact]
  · rw [State.vector_eq, if_pos ⟨hb, hm, hl⟩]
  · rw [State.vector_eq, if_neg (by rintro ⟨h1, h2, h3⟩; rcases h with h | h | h; · rw [h1] at h; cases h
                                    · exact h h2
                                    · exact h h3)]

/-! ### The watchdog -/

/-- What holds an engine off does not depend on registers and engines. -/
theorem State.engHeld_congr (h : t.beam = s.beam) : t.engHeld e = s.engHeld e := by
  unfold State.engHeld
  rw [h]

theorem State.beamFault_beam {b : Sys2Proof.Beam} {k d : Nat} : (s.beamFault b k d).beam = s.beam := by
  unfold State.beamFault
  split
  · rfl
  · simp

theorem State.wdogFault_beam : (s.wdogFault e).beam = s.beam := by
  unfold State.wdogFault
  split
  · exact State.beamFault_beam
  · rfl

/-- The watchdog of an engine whose time has run out (R186). -/
theorem State.watchdogExpiry_due {u : State} (hu : u = (s.setFlag (F.SYS_ENG_WDOG_EXPIRED e.val) true).wdogReload e)
    (hc : s.wdogCounts e = true) (hr : 1000 * s.get (F.SYS_ENG_WDOG_TIMEOUT e.val) ≤ s.wdogRun e) :
    exec (.watchdogExpiry e) s = .next (if s.eng[e].active then u.engFault e 7 true
      else if s.engHeld e then
        (match beamOfEng e with
          | some b => (u.wdogFault e).stopWith b .restart false false
          | none => u.wdogFault e).modEng e fun x => { x with wdogDue := true }
      else (u.wdogFault e).takeException e 7 0 true) := by
  have he : e.val < 20 := by
    unfold State.wdogCounts at hc
    simp only [Bool.and_eq_true, decide_eq_true_eq] at hc
    exact hc.1.1.1.1
  have hact : u.eng[e].active = s.eng[e].active := by
    rw [hu, State.wdogReload, State.modEng_same, State.setFlag_eng]
    rfl
  have hheld : (u.wdogFault e).engHeld e = s.engHeld e :=
    State.engHeld_congr (by rw [State.wdogFault_beam, hu, State.wdogReload_beam, State.setFlag_beam])
  show execWatchdogExpiry e s = _
  unfold execWatchdogExpiry
  rw [dif_pos he]
  dsimp only
  rw [if_pos (by rw [hc, decide_eq_true hr]; rfl), ← hu, hact, hheld] <;> rfl

/-- A pending watchdog exception (R184, R186). -/
theorem State.pendingException_wdog (hx : s.engExecutes e = true) (hl : s.eng[e].late = none) (hd : s.eng[e].wdogDue = true) :
    let y := s.modEng e fun x => { x with wdogDue := false }
    exec (.pendingExceptionTaken e) s =
      .next (if s.eng[e].active then y.engFault e 7 true else (y.enterException e 7 0 true).wdogReload e) := by
  have hact : (s.modEng e fun x => { x with wdogDue := false }).eng[e].active = s.eng[e].active := by rw [State.modEng_same]; rfl
  show execPendingExceptionTaken e s = _
  unfold execPendingExceptionTaken
  rw [if_pos hx, hl]
  dsimp only
  rw [if_pos hd, State.wdogTaken, hact]

/-! ### A fault of a field core -/

theorem xkBitOf_coreFault {n k : Nat} (hn : n < 20) : xkBitOf (220 + n) k = none := by
  unfold xkBitOf
  rw [if_neg (by omega), if_neg (by omega), if_neg (by omega), if_neg (by omega)]

/-! ### Fields of words, for `simp` -/

section
variable {a h l a' h' l' n : Nat}

theorem State.get_put_self (hs : tabWf regDefault s.regs = true) (h1 : l ≤ h ∧ h < 32) :
    (s.put ⟨a, h, l⟩ n).get ⟨a, h, l⟩ = n % 2 ^ (h + 1 - l) := State.get_put_same h1 hs

theorem State.get_put_bits (hs : tabWf regDefault s.regs = true) (h1 : l ≤ h ∧ h < 32) (h2 : l' ≤ h' ∧ h' < 32)
    (hd : h < l' ∨ h' < l) : (s.put ⟨a, h, l⟩ n).get ⟨a, h', l'⟩ = s.get ⟨a, h', l'⟩ := State.get_put_apart h1 h2 (.inr hd) hs

theorem State.get_put_word (hs : tabWf regDefault s.regs = true) (h1 : l ≤ h ∧ h < 32) (h2 : l' ≤ h' ∧ h' < 32) (hd : a ≠ a') :
    (s.put ⟨a, h, l⟩ n).get ⟨a', h', l'⟩ = s.get ⟨a', h', l'⟩ := State.get_put_apart h1 h2 (.inl hd) hs

/-- The present time depends on one bit of the registers, PEND_WRAP (R100). -/
theorem State.now_congr (ht : t.time = s.time) (hf : t.flag F.TIME_STATUS_PEND_WRAP = s.flag F.TIME_STATUS_PEND_WRAP) : t.now = s.now := by
  unfold State.now State.nowHi
  rw [ht, hf]

theorem State.put_now (hs : tabWf regDefault s.regs = true) (h1 : l ≤ h ∧ h < 32) (ha : a ≠ 0xF0010008) :
    (s.put ⟨a, h, l⟩ n).now = s.now :=
  State.now_congr rfl (State.flag_put_apart h1 ⟨by decide, by decide⟩ (.inl ha) hs)

end

@[simp] theorem b2n_true : b2n true = 1 := rfl

@[simp] theorem b2n_false : b2n false = 0 := rfl

@[simp] theorem b2n_bne_zero (v : Bool) : (b2n v != 0) = v := by cases v <;> rfl

/-- The control register of engine e marked with a fault (R185). -/
def State.markFault (s : State) (e : Eng) (cause : Nat) (double : Bool) : State :=
  (((s.setFlag (F.SYS_ENG_CTRL_HALTED e.val) true).setFlag (F.SYS_ENG_CTRL_FAULT e.val) true).put
    (F.SYS_ENG_CTRL_FCAUSE e.val) cause).setFlag (F.SYS_ENG_CTRL_DOUBLE e.val) double

theorem State.markFault_reads {cause : Nat} {double : Bool} (hs : tabWf regDefault s.regs = true) (hc : cause < 16) :
    let t := s.markFault e cause double
    t.flag (F.SYS_ENG_CTRL_HALTED e.val) = true ∧ t.flag (F.SYS_ENG_CTRL_FAULT e.val) = true ∧
      t.get (F.SYS_ENG_CTRL_FCAUSE e.val) = cause ∧ t.flag (F.SYS_ENG_CTRL_DOUBLE e.val) = double := by
  have hb : b2n double % 2 = b2n double := by cases double <;> rfl
  refine ⟨?_, ?_, ?_, ?_⟩ <;>
    simp (disch := grind [State.put_wf]) [State.markFault, State.flag, State.setFlag, State.get_put_self, State.get_put_bits, hb,
      Nat.mod_eq_of_lt hc]

/-- A fault of a field core: its registers, then its engine, then its event (R185). -/
theorem State.engFault_core {cause : Nat} {double : Bool} (h1 : 16 ≤ e.val) (h2 : e.val < 20) : s.engFault e cause double =
    (((s.markFault e cause double).modEng e fun x => { x with wait := none }).wdogSync e).raise (220 + e.val)
      (cause + 16 * b2n double) := by
  unfold State.engFault
  rw [if_pos h2, beamOfEng_none h1]
  dsimp only
  rw [if_pos h2, show 236 + (e.val - 16) = 220 + e.val by omega]
  rfl

theorem State.get_congr {f : Fld} (h : t.regs = s.regs) : t.get f = s.get f := by
  unfold State.get State.reg
  rw [h]

theorem State.flag_congr {f : Fld} (h : t.regs = s.regs) : t.flag f = s.flag f := by
  unfold State.flag
  rw [State.get_congr h]

/-- What the registers and events of a field core show of its fault. -/
theorem State.engFault_core_shows {cause : Nat} {double : Bool} (hs : s.Canon) (h1 : 16 ≤ e.val) (h2 : e.val < 20) (hc : cause < 16) :
    let t := s.engFault e cause double
    t.flag (F.SYS_ENG_CTRL_HALTED e.val) = true ∧ t.flag (F.SYS_ENG_CTRL_FAULT e.val) = true ∧
      t.get (F.SYS_ENG_CTRL_FCAUSE e.val) = cause ∧ t.flag (F.SYS_ENG_CTRL_DOUBLE e.val) = double ∧ t.eng[e].wait = none ∧
      t.fired = s.fired ++ [⟨220 + e.val, BitVec.ofNat 32 (cause + if double then 16 else 0), s.now⟩] := by
  obtain ⟨hregs, _, _⟩ := hs
  have hd : 16 * b2n double = if double then 16 else 0 := by cases double <;> rfl
  obtain ⟨hh, hf, hcause, hdouble⟩ := State.markFault_reads (e := e) (double := double) hregs hc
  have hwait : (((s.markFault e cause double).modEng e fun x => { x with wait := none }).wdogSync e).eng[e].wait = none := by
    rw [State.wdogSync, State.modEng_same, State.modEng_same]
  have hnow : (((s.markFault e cause double).modEng e fun x => { x with wait := none }).wdogSync e).now = s.now := by
    simp (disch := grind [State.put_wf]) only [State.wdogSync, State.markFault, State.setFlag, State.modEng_now, State.put_now]
  dsimp only
  rw [State.engFault_core h1 h2, State.raise_eq_fired (xkBitOf_coreFault h2), hd, hnow]
  exact ⟨(State.flag_congr rfl).trans hh, (State.flag_congr rfl).trans hf, (State.get_congr rfl).trans hcause,
    (State.flag_congr rfl).trans hdouble, hwait, rfl⟩

/-- Settles O23: the watchdog's instruction and expiry, the exceptions that stay pending, and the fault of a field core. -/
theorem faultsWatchdogAndPendingComplete : Obligations.FaultsWatchdogAndPendingComplete := by
  unfold Obligations.FaultsWatchdogAndPendingComplete
  refine ⟨fun s e => ⟨fun h => ?wdog, fun d a b h hf => ?fields, fun ⟨hc, hr⟩ ha => ?active, fun ⟨hc, hr⟩ ha hh => ?free,
    fun ⟨hc, hr⟩ ha hh b hb => ?held, fun c hx hl ha => ?late, fun hx hl hd => ⟨fun ha => ?_, fun ha => ?_⟩⟩,
    fun s e cause double hs h1 h2 hc => State.engFault_core_shows hs h1 h2 hc⟩
  case wdog =>
    have hcounts : (s.awake e).wdogCounts e = s.wdogCounts e := State.awake_reads (·.wdogCounts e) fun _ => rfl
    refine h.completes_update rfl rfl (f := fun x => { x with wdogAcc := 0, wdogFrom := if s.wdogCounts e then some s.now else none }) ?_ rfl
    rw [State.wdogReload, hcounts, State.awake_now]
  case fields =>
    have hbad : badField (decide (d ≠ 0 ∨ a ≠ 0 ∨ b ≠ 0)) = some 2 := by rw [decide_eq_true hf, badField_true]
    exact ⟨h.traps rfl hbad, h.traps rfl hbad⟩
  case active => rw [State.watchdogExpiry_due rfl hc hr, if_pos ha]
  case free => rw [State.watchdogExpiry_due rfl hc hr, if_neg (by rw [ha]; decide), if_neg (by rw [hh]; decide)]
  case held =>
    rw [State.watchdogExpiry_due rfl hc hr, if_neg (by rw [ha]; decide), if_pos hh, hb]
  case late =>
    show execPendingExceptionTaken e s = _
    unfold execPendingExceptionTaken
    rw [if_pos hx, hl]
    exact congrArg _ (if_neg (by rw [ha]; decide))
  · rw [State.pendingException_wdog hx hl hd, if_neg (by rw [ha]; decide)]
  · rw [State.pendingException_wdog hx hl hd, if_pos ha]

end Sys2Proof.Machine
end

section
/-! SUPPORT. What a stop of a beam leaves: the registers of the SYS and TIME blocks, the time base, and every local memory. -/

namespace Sys2Proof.Machine

variable {r s t : State} {b : Sys2Proof.Beam} {e : Eng}

/-- t reads as s in the registers of the SYS and TIME blocks, the time base and the local memories, and its register file is
canonical. -/
def State.CoreKept (s t : State) : Prop :=
  tabWf regDefault t.regs = true ∧ (∀ a < 0xF0020000, t.reg a = s.reg a) ∧ t.time = s.time ∧ ∀ e : Eng, t.eng[e].mem = s.eng[e].mem

namespace State.CoreKept

theorem refl (hs : tabWf regDefault s.regs = true) : s.CoreKept s := ⟨hs, fun _ _ => rfl, rfl, fun _ => rfl⟩

/-- A change of other parts of the state. -/
theorem of_same (h : r.CoreKept s) (hr : t.regs = s.regs) (ht : t.time = s.time) (he : t.eng = s.eng) : r.CoreKept t := by
  obtain ⟨hw, hreg, htime, hmem⟩ := h
  refine ⟨hr ▸ hw, fun a ha => ?_, ht.trans htime, fun e => ?_⟩
  · rw [← hreg a ha, State.reg, State.reg, hr]
  · rw [he, hmem]

theorem put {f : Fld} {n : Nat} (h : r.CoreKept s) (hf : 0xF0020000 ≤ f.addr) : r.CoreKept (s.put f n) := by
  obtain ⟨hw, hreg, htime, hmem⟩ := h
  exact ⟨State.put_wf hw, fun a ha => (State.reg_setReg_other hw (by omega)).trans (hreg a ha), htime, hmem⟩

theorem modEng {f : Engine → Engine} (h : r.CoreKept s) (hf : ∀ x, (f x).mem = x.mem) : r.CoreKept (s.modEng e f) := by
  obtain ⟨hw, hreg, htime, hmem⟩ := h
  refine ⟨hw, hreg, htime, fun k => ?_⟩
  rw [State.modEng_eng, vmod_get, ← hmem]
  split_ifs
  · exact hf _
  · rfl

theorem modBeam {f : Beam → Beam} (h : r.CoreKept s) : r.CoreKept (s.modBeam b f) := h.of_same rfl rfl rfl

theorem modArb {f : ArbBeam → ArbBeam} (h : r.CoreKept s) : r.CoreKept (s.modArb b f) := h.of_same rfl rfl rfl

theorem modCell {c : Cell} {f : CellSt → CellSt} (h : r.CoreKept s) : r.CoreKept (s.modCell c f) := h.of_same rfl rfl rfl

theorem modTraj {f : Traj → Traj} (h : r.CoreKept s) : r.CoreKept (s.modTraj b f) := h.modBeam

theorem modSwath {id : BitVec 22} {f : Swath → Swath} (h : r.CoreKept s) : r.CoreKept (s.modSwath b id f) := h.modBeam

theorem forEach {α : Type} {f : State → α → State} (hf : ∀ s x, r.CoreKept s → r.CoreKept (f s x)) :
    ∀ {l : List α} {s : State}, r.CoreKept s → r.CoreKept (forEach l s f)
  | [], _, h => h
  | x :: _, s, h => forEach (s := f s x) hf (hf s x h)

theorem ite {c : Prop} [Decidable c] (ht : r.CoreKept s) (hu : r.CoreKept t) : r.CoreKept (if c then s else t) := by
  split_ifs
  · exact ht
  · exact hu

theorem raise {n k : Nat} (h : r.CoreKept s) : r.CoreKept (s.raise n k) := by
  have hf : r.CoreKept { s with fired := s.fired ++ [⟨n, BitVec.ofNat 32 k, s.now⟩] } := h.of_same rfl rfl rfl
  unfold State.raise
  refine ite hf ?_
  split
  · refine hf.put ?_
    split_ifs <;> decide
  · exact hf

/-! ### Cells, leases and barriers -/

theorem gateFall {t : Int} (h : r.CoreKept s) : r.CoreKept (s.gateFall b t) := by
  unfold State.gateFall State.addMark
  refine ite ?_ h
  dsimp only
  split <;> exact h.of_same rfl rfl rfl

theorem stopCell {c : Cell} {lim : Int} {w : EdgeWhat} (h : r.CoreKept s) : r.CoreKept (s.stopCell c lim w) := by
  unfold State.stopCell
  exact ite (h.of_same rfl rfl rfl) (h.of_same rfl rfl rfl)

theorem stopCells (h : r.CoreKept s) : r.CoreKept (s.stopCells b) := by
  unfold State.stopCells
  exact h.gateFall.stopCell.stopCell.modCell.modTraj

theorem giveUpLease {off : Option Int} (h : r.CoreKept s) : r.CoreKept (s.giveUpLease b off) := h.of_same rfl rfl rfl

theorem breakBarrier {n : Fin 8} (h : r.CoreKept s) : r.CoreKept (s.breakBarrier n) := by
  rw [State.breakBarrier_eq]
  refine forEach (fun s w hs => ?_) (h.of_same rfl rfl rfl)
  unfold State.breaks
  exact (hs.put (by simp; omega)).modEng fun _ => rfl

theorem withdraw (h : r.CoreKept s) : r.CoreKept (s.withdraw b) := by
  unfold State.withdraw
  split
  · exact h.breakBarrier
  · exact h

theorem dropTent (h : r.CoreKept s) : r.CoreKept (s.dropTent b) := by
  unfold State.dropTent
  split
  · exact h
  · exact h.of_same rfl rfl rfl

theorem stopBeam (h : r.CoreKept s) : r.CoreKept (s.stopBeam b) := by
  unfold State.stopBeam
  exact h.stopCells.withdraw.giveUpLease.dropTent.modArb.modBeam

/-! ### The end of a swath -/

theorem setHead {n v : Nat} (h : r.CoreKept s) : r.CoreKept (s.setHead n v) := (h.put (by simp; omega)).put (by simp; omega)

theorem passFinal {n : Nat} : ∀ {m : Nat} {s : State}, r.CoreKept s → r.CoreKept (s.passFinal n m)
  | 0, _, h => h
  | m + 1, s, h => by
    unfold State.passFinal
    exact ite h.setHead.passFinal h

theorem setStatus {a c : Nat} (h : r.CoreKept s) : r.CoreKept (s.setStatus a c) := h.of_same rfl rfl rfl

theorem stampDone {a : Nat} (h : r.CoreKept s) : r.CoreKept (s.stampDone a) := h.of_same rfl rfl rfl

theorem incSheafFailed {a : Nat} (h : r.CoreKept s) : r.CoreKept (s.incSheafFailed a) := h.of_same rfl rfl rfl

theorem finish {n k c : Nat} (h : r.CoreKept s) : r.CoreKept (s.finish n k c) := by
  unfold State.finish
  exact (ite h.setStatus.stampDone.incSheafFailed h.setStatus.stampDone).passFinal

theorem unblock (h : r.CoreKept s) : r.CoreKept s.unblock := forEach (fun _ _ h => h.modArb) h

theorem swathOver (h : r.CoreKept s) : r.CoreKept (s.swathOver b) := by
  have hd := (h.put (f := F.ARB_BEAM_STAT_DENY_RUN b.val) (n := 0) (by simp; omega)).modArb (b := b)
    (f := fun a => { a with agedAt := none, reserve := none })
  unfold State.swathOver
  exact ite hd.unblock hd

theorem endSwath {w : Swath} {c : Nat} (h : r.CoreKept s) : r.CoreKept (s.endSwath b w c) := by
  unfold State.endSwath State.swathDone
  exact h.finish.raise.modBeam.swathOver

/-! ### Stops, faults and retirement -/

theorem wdogSync (h : r.CoreKept s) : r.CoreKept (s.wdogSync e) := h.modEng fun _ => rfl

theorem oneOutcome {w : Swath} {c : Bool} {why : Why} {k : Bool} (h : r.CoreKept s) : r.CoreKept (s.oneOutcome b w c why k) := by
  unfold State.oneOutcome
  exact ite h (ite h.endSwath (ite (ite h h.modSwath) h.modSwath))

theorem heldOff {d : Bool} (h : r.CoreKept s) : r.CoreKept (s.heldOff b d) := by
  have hd := ((h.modBeam (b := b) (f := fun x => { x with disp := d })).modEng (e := engOf b) (f := fun x => { x with wait := none })
    fun _ => rfl).wdogSync (e := engOf b)
  unfold State.heldOff
  exact ite hd.modArb hd

theorem outcomes {why : Why} {k o : Bool} (h : r.CoreKept s) : r.CoreKept (s.outcomes b why k o) := by
  have hd := forEach (f := fun t w => t.oneOutcome b w (decide (s.causeOf b why o = some w.hdr.id)) why k) (fun _ _ h => h.oneOutcome)
    (l := s.beam[b].swaths) h
  unfold State.outcomes
  refine ite h (ite hd.modBeam ?_)
  split
  · exact ite hd hd.heldOff
  · exact hd.heldOff

theorem stopWith {why : Why} {k o : Bool} (h : r.CoreKept s) : r.CoreKept (s.stopWith b why k o) := h.stopBeam.outcomes

theorem retire {c : Nat} (h : r.CoreKept s) : r.CoreKept (s.retire b c) := by
  unfold State.retire
  exact ite h h.stopWith.modArb

theorem beamFault {k d : Nat} (h : r.CoreKept s) : r.CoreKept (s.beamFault b k d) := by
  unfold State.beamFault
  exact ite h h.raise

theorem haltBeam (h : r.CoreKept s) : r.CoreKept (s.haltBeam e) := by
  unfold State.haltBeam
  split
  · exact h
  · exact ite h (forEach (fun _ _ h => h.endSwath) h.stopBeam)

theorem leaveWaits (h : r.CoreKept s) : r.CoreKept (s.leaveWaits e) := by
  unfold State.leaveWaits
  split
  · exact h.withdraw.dropTent.modArb
  · exact h

/-! ### What it gives -/

theorem get_eq {f : Fld} (h : s.CoreKept t) (hf : f.addr < 0xF0020000) : t.get f = s.get f := by
  rw [State.get, h.2.1 _ hf, State.get]

theorem flag_eq {f : Fld} (h : s.CoreKept t) (hf : f.addr < 0xF0020000) : t.flag f = s.flag f := by
  rw [State.flag, h.get_eq hf, State.flag]

theorem wf (h : s.CoreKept t) : tabWf regDefault t.regs = true := h.1

theorem mem (h : s.CoreKept t) : t.eng[e].mem = s.eng[e].mem := h.2.2.2 e

end State.CoreKept

end Sys2Proof.Machine
end

section
/-! SUPPORT. HALT, RUN and RESET of an engine (R144, R179, R187). -/

namespace Sys2Proof.Machine

variable {s t u : State} {e : Eng}

/-- A fault of any engine with control registers leaves its marks there (R185). -/
theorem State.engFault_marks {cause : Nat} {double : Bool} (hs : tabWf regDefault s.regs = true) (he : e.val < 20) :
    (s.markFault e cause double).CoreKept (s.engFault e cause double) := by
  have hw : tabWf regDefault (s.markFault e cause double).regs = true := by
    unfold State.markFault
    exact State.put_wf (State.put_wf (State.put_wf (State.put_wf hs)))
  have hm : (s.markFault e cause double).CoreKept
      (((s.markFault e cause double).modEng e fun x => { x with wait := none }).wdogSync e) :=
    ((State.CoreKept.refl hw).modEng (e := e) (f := fun x => { x with wait := none }) fun _ => rfl).wdogSync
  unfold State.engFault
  rw [if_pos he, ← State.markFault]
  dsimp only
  split
  · exact hm.stopBeam.beamFault.retire
  · rw [if_pos he]
    exact hm.raise

/-- What a fault of an engine with control registers shows there. -/
theorem State.engFault_ctrl {cause : Nat} {double : Bool} (hs : tabWf regDefault s.regs = true) (he : e.val < 20) (hc : cause < 16) :
    let t := s.engFault e cause double
    t.flag (F.SYS_ENG_CTRL_HALTED e.val) = true ∧ t.flag (F.SYS_ENG_CTRL_FAULT e.val) = true ∧
      t.get (F.SYS_ENG_CTRL_FCAUSE e.val) = cause ∧ t.flag (F.SYS_ENG_CTRL_DOUBLE e.val) = double := by
  have hk := State.engFault_marks (cause := cause) (double := double) hs he
  have ha : 0xF0000400 + 0x4 * e.val < 0xF0020000 := by omega
  dsimp only
  rw [hk.flag_eq ha, hk.flag_eq ha, hk.get_eq ha, hk.flag_eq ha]
  exact State.markFault_reads hs hc

/-- The state in which RUN has gone to 1 and the vector entry is looked at (R144). -/
def State.engCleared (s : State) (e : Eng) : State :=
  match beamOfEng e with
  | some b => ((s.setFlag (F.SYS_ENG_CTRL_HALTED e.val) false).modEng e fun x => { x with wait := none }).modBeam b fun x =>
      { x with disp := false, eretEnds := false }
  | none => (s.setFlag (F.SYS_ENG_CTRL_HALTED e.val) false).modEng e fun x => { x with wait := none }

theorem State.engCleared_regs : (s.engCleared e).regs = (s.setFlag (F.SYS_ENG_CTRL_HALTED e.val) false).regs := by
  unfold State.engCleared
  split <;> rfl

theorem State.engCleared_eng : (s.engCleared e).eng = vmod s.eng e fun x => { x with wait := none } := by
  unfold State.engCleared
  split <;> rfl

/-- RUN has gone to 1: the state before the vector entry is looked at, and what follows (R144). -/
theorem State.engStart_eq : ∃ u : State, u.regs = (s.setFlag (F.SYS_ENG_CTRL_HALTED e.val) false).regs ∧
    u.eng = vmod s.eng e (fun x => { x with wait := none }) ∧ s.engStart e = match s.vector e 0 with
      | some v => (u.modEng e fun x => { x with pc := v }).wdogReload e
      | none => u.engFault e 0 true := by
  have hmem : (s.engCleared e).eng[e].mem = s.eng[e].mem := by rw [State.engCleared_eng, vmod_same]
  refine ⟨s.engCleared e, State.engCleared_regs, State.engCleared_eng, ?_⟩
  rw [← State.vector_congr (t := s.engCleared e) hmem]
  rfl

/-- RUN of an engine that does not run and has no fault. -/
theorem State.engineRun_eq {who : Reader} {e : Fin 20} (hw : s.supView who = true) (ht : s.engTaken e = false)
    (hr : s.flag (F.SYS_ENG_CTRL_RUN e.val) = false) (hf : s.flag (F.SYS_ENG_CTRL_FAULT e.val) = false) :
    exec (.engineRun who e) s = .next ((s.setFlag (F.SYS_ENG_CTRL_RUN e.val) true).engStart (engAt e)) := by
  show execEngineRun who e s = _
  unfold execEngineRun
  rw [if_pos hw, State.engRun, ht, hr, hf]
  rfl

theorem State.engineStop_eq {who : Reader} {e : Fin 20} (hw : s.supView who = true) (ht : s.engTaken e = false)
    (hr : s.flag (F.SYS_ENG_CTRL_RUN e.val) = true) (hf : s.flag (F.SYS_ENG_CTRL_FAULT e.val) = false) :
    exec (.engineStop who e) s = .next (s.engStop e) := by
  show execEngineStop who e s = _
  unfold execEngineStop
  rw [hw, ht, hr, hf]
  rfl

theorem State.engineReset_eq {who : Reader} {e : Fin 20} (hw : s.supView who = true) (ht : s.engTaken e = false) :
    exec (.engineReset who e) s = .next (s.engReset e) := by
  show execEngineReset who e s = _
  unfold execEngineReset
  rw [hw, ht]
  rfl

/-- The three bits of SYS_ENG_CTRL after a run begins. -/
theorem State.engStart_ctrl {e : Fin 20} {v : Word} (hs : tabWf regDefault s.regs = true) (hf : s.flag (F.SYS_ENG_CTRL_FAULT e.val) = false)
    (hv : s.vector (engAt e) 0 = some v) :
    let t := (s.setFlag (F.SYS_ENG_CTRL_RUN e.val) true).engStart (engAt e)
    (t.flag (F.SYS_ENG_CTRL_RUN e.val) = true ∧ t.flag (F.SYS_ENG_CTRL_HALTED e.val) = false ∧
      t.flag (F.SYS_ENG_CTRL_FAULT e.val) = false) ∧ t.eng[engAt e].pc = v ∧ t.eng[engAt e].wait = none := by
  obtain ⟨u, hregs, heng, hu⟩ := State.engStart_eq (s := s.setFlag (F.SYS_ENG_CTRL_RUN e.val) true) (e := engAt e)
  rw [State.vector_congr (s := s) (by rw [State.setFlag_eng]), hv] at hu
  dsimp only at hu ⊢
  rw [hu]
  refine ⟨?_, ?_⟩
  · have h (f : Fld) : ((u.modEng (engAt e) fun x => { x with pc := v }).wdogReload (engAt e)).flag f =
        ((s.setFlag (F.SYS_ENG_CTRL_RUN e.val) true).setFlag (F.SYS_ENG_CTRL_HALTED e.val) false).flag f := State.flag_congr hregs
    rw [h, h, h]
    unfold State.flag at hf
    simp (disch := grind [State.put_wf]) [State.flag, State.setFlag, State.get_put_self, State.get_put_bits]
    simpa using hf
  · rw [State.wdogReload, State.modEng_same, State.modEng_same, heng, vmod_same]
    exact ⟨rfl, rfl⟩

/-- A stop of an engine, and its reset, put its control bits last. -/
theorem State.engStop_ctrl {e : Fin 20} (hs : tabWf regDefault s.regs = true) :
    let t := s.engStop e
    t.flag (F.SYS_ENG_CTRL_RUN e.val) = false ∧ t.flag (F.SYS_ENG_CTRL_HALTED e.val) = true ∧ t.eng[engAt e].wait = none := by
  have hk : tabWf regDefault ((s.haltBeam (engAt e)).leaveWaits (engAt e)).regs = true := (State.CoreKept.refl hs).haltBeam.leaveWaits.wf
  unfold State.engStop
  generalize (s.haltBeam (engAt e)).leaveWaits (engAt e) = u at hk
  dsimp only
  have h (f : Fld) : ((((u.setFlag (F.SYS_ENG_CTRL_RUN e.val) false).setFlag (F.SYS_ENG_CTRL_HALTED e.val) true).modEng (engAt e) fun x =>
      { x with wait := none }).wdogSync (engAt e)).flag f =
        ((u.setFlag (F.SYS_ENG_CTRL_RUN e.val) false).setFlag (F.SYS_ENG_CTRL_HALTED e.val) true).flag f := State.flag_congr rfl
  rw [h, h]
  refine ⟨?_, ?_, ?_⟩
  · simp (disch := grind [State.put_wf]) [State.flag, State.setFlag, State.get_put_self, State.get_put_bits]
  · simp (disch := grind [State.put_wf]) [State.flag, State.setFlag, State.get_put_self]
  · rw [State.wdogSync, State.modEng_same, State.modEng_same]

/-- RESET of an engine: its control bits, and the state of R144 with the memory kept. -/
theorem State.engReset_ctrl {e : Fin 20} (hs : tabWf regDefault s.regs = true) :
    let t := s.engReset e
    (t.flag (F.SYS_ENG_CTRL_RUN e.val) = false ∧ t.flag (F.SYS_ENG_CTRL_HALTED e.val) = true ∧
      t.flag (F.SYS_ENG_CTRL_FAULT e.val) = false) ∧ t.eng[engAt e] = { mem := s.eng[engAt e].mem } := by
  have hk := (State.CoreKept.refl hs).haltBeam (e := engAt e) |>.leaveWaits (e := engAt e)
  have hw := hk.wf
  rw [← hk.mem (e := engAt e)]
  obtain ⟨u, hu⟩ : ∃ u, u = (s.haltBeam (engAt e)).leaveWaits (engAt e) := ⟨_, rfl⟩
  have hx : (s.engReset e).regs = (((u.setFlag (F.SYS_ENG_CTRL_RUN e.val) false).setFlag (F.SYS_ENG_CTRL_HALTED e.val) true).setFlag
      (F.SYS_ENG_CTRL_FAULT e.val) false).regs ∧ (s.engReset e).eng = vmod u.eng (engAt e) fun x => x.fresh := by
    unfold State.engReset
    rw [← hu]
    dsimp only
    split <;> exact ⟨rfl, rfl⟩
  obtain ⟨hr, he⟩ := hx
  rw [← hu] at hw ⊢
  dsimp only
  rw [State.flag_congr hr, State.flag_congr hr, State.flag_congr hr, he, vmod_same]
  refine ⟨?_, rfl⟩
  simp (disch := grind [State.put_wf]) [State.flag, State.setFlag, State.get_put_self, State.get_put_bits]

/-- HALT of an engine with control registers (R179). -/
theorem State.halt_goes {e : Fin 20} (h : s.Ready (engAt e)) : s.Goes (engAt e) (.halt (engAt e) 0 0 0) 4
    ((((s.awake (engAt e)).haltBeam (engAt e)).setFlag (F.SYS_ENG_CTRL_HALTED e.val) true).wdogSync (engAt e)) := by
  refine h.exec_of_done rfl rfl ?_
  dsimp only
  rw [if_pos (show (engAt e).val < 20 from e.isLt)]
  rfl

/-- Settles O24: the control bits from the last writes to them, the engine from its last update. -/
theorem engineControlComplete : Obligations.EngineControlComplete := by
  unfold Obligations.EngineControlComplete
  intro s e who hs hw ht
  obtain ⟨hregs, _, _⟩ := hs
  refine ⟨fun v hr hf hv => ?run, fun hr hf hv => ?fault, fun hr hf => ?stop, ?reset, fun h h1 => ?core, fun h b hb => ?beam⟩
  case run => exact ⟨_, State.engineRun_eq hw ht hr hf, (State.engStart_ctrl hregs hf hv)⟩
  case fault =>
    refine ⟨_, State.engineRun_eq hw ht hr hf, ?_⟩
    obtain ⟨u, hu, heng, hx⟩ := State.engStart_eq (s := s.setFlag (F.SYS_ENG_CTRL_RUN e.val) true) (e := engAt e)
    rw [State.vector_congr (s := s) (by rw [State.setFlag_eng]), hv] at hx
    dsimp only at hx
    rw [hx]
    have hwf : tabWf regDefault u.regs = true := hu ▸ State.put_wf (State.put_wf hregs)
    obtain ⟨h1, h2, h3, h4⟩ := State.engFault_ctrl (e := engAt e) (cause := 0) (double := true) hwf e.isLt (by decide)
    exact ⟨h2, h1, h3, h4⟩
  case stop => exact ⟨_, State.engineStop_eq hw ht hr hf, State.engStop_ctrl hregs⟩
  case reset => exact ⟨_, State.engineReset_eq hw ht, State.engReset_ctrl hregs⟩
  case core =>
    refine ⟨_, State.halt_goes h, (State.flag_congr rfl).trans (State.flag_setFlag_same ⟨Nat.le_refl 2, (by decide : 2 < 32)⟩ rfl ?_), ?_⟩
    · exact (State.CoreKept.refl (by rw [State.awake_regs]; exact hregs)).haltBeam.wf
    · rw [State.modEng_same]
      rfl
  case beam => exact State.halt_goes h

end Sys2Proof.Machine
end

section
/-! SUPPORT. Device registers that an engine reads and writes, and accesses that no memory takes (R145, R146, R180). -/

namespace Sys2Proof.Machine

variable {s t : State} {e : Eng} {i : Instr} {d a : GReg} {p len : Nat}

@[simp] theorem State.awake_domainOfReg : (s.awake e).domainOfReg p = s.domainOfReg p := State.awake_reads (·.domainOfReg p) fun _ => rfl

/-- The state in which an engine's access of register p takes place: its domains and the register's have their handshake (R40). -/
def State.regTouched (s : State) (e : Eng) (p : Nat) : State := match s.domainOfReg p with
  | some k => (s.awake e).touch k
  | none => s.awake e

theorem State.regTouched_eq (s : State) (e : Eng) (p : Nat) : ∃ q, s.regTouched e p = { s with power := q } := by
  unfold State.regTouched
  split
  · exact State.awake_touch_eq s e _
  · exact s.awake_eq e

/-- A register whose block is not gated off is read in the touched state. -/
theorem State.loadData_reg {n : Nat} {k : Nat → Engine → Engine} (hp : placeOf e p n = .reg p) (hd : regDenied p (s.engPriv e) = false)
    (hr : s.regReady p = true) : ∃ v u, (s.regTouched e p).regRead (.engine e) p = some (v, u) ∧
      (s.awake e).loadData e p n k = .done (u.modEng e (k v.toNat)) := by
  have hread (t : State) (ht : t.supView (.engine e) = s.engPriv e) : ∃ v u, t.regRead (.engine e) p = some (v, u) := by
    unfold State.regRead
    dsimp only
    rw [ht, hd, if_neg Bool.false_ne_true]
    split <;> exact ⟨_, _, rfl⟩
  obtain ⟨q, hq⟩ := s.regTouched_eq e p
  obtain ⟨v, u, hvu⟩ := hread (s.regTouched e p) (by rw [hq]; rfl)
  refine ⟨v, u, hvu, ?_⟩
  unfold State.loadData
  rw [hp]
  dsimp only
  rw [State.awake_engPriv, hd, if_neg Bool.false_ne_true, State.awake_domainOfReg]
  unfold State.regTouched at hvu
  unfold State.regReady at hr
  cases hdom : s.domainOfReg p with
  | some k =>
    rw [hdom] at hvu hr
    dsimp only at hvu ⊢
    rw [State.awake_domainOn, if_neg (by simpa using hr), hvu]
  | none =>
    rw [hdom] at hvu
    dsimp only at hvu ⊢
    rw [hvu]

/-- A register whose block is not gated off is written in the touched state, with the program counter behind the instruction. -/
theorem State.storeAt_reg {n v : Nat} (hp : placeOf e p n = .reg p) (hd : regDenied p (s.engPriv e) = false) (hr : s.regReady p = true) :
    ∃ u, ((s.regTouched e p).modEng e fun y => { y with pc := s.eng[e].pc + BitVec.ofNat 32 len }).regWrite (.engine e) p
        (BitVec.ofNat 32 v) = some u ∧ (s.awake e).storeAt e len p n v = .hold u := by
  have hwrite (t : State) (ht : t.supView (.engine e) = s.engPriv e) : ∃ u, t.regWrite (.engine e) p (BitVec.ofNat 32 v) = some u := by
    unfold State.regWrite
    dsimp only
    rw [ht, hd, if_neg Bool.false_ne_true]
    split <;> exact ⟨_, rfl⟩
  obtain ⟨q, hq⟩ := s.regTouched_eq e p
  have hpc : ((s.regTouched e p).modEng e fun x => { x with pc := x.pc + BitVec.ofNat 32 len }) =
      (s.regTouched e p).modEng e fun y => { y with pc := s.eng[e].pc + BitVec.ofNat 32 len } := by
    rw [State.modEng_const, hq]
    rfl
  obtain ⟨u, hu⟩ := hwrite ((s.regTouched e p).modEng e fun y => { y with pc := s.eng[e].pc + BitVec.ofNat 32 len }) (by rw [hq]; rfl)
  refine ⟨u, hu, ?_⟩
  have hstore : (s.regTouched e p).storeReg e len p v = .hold u := by
    unfold State.storeReg
    rw [hpc, hu]
  unfold State.storeAt
  rw [hp]
  dsimp only
  rw [State.awake_engPriv, hd, if_neg Bool.false_ne_true, State.awake_domainOfReg]
  unfold State.regTouched at hstore
  unfold State.regReady at hr
  cases hdom : s.domainOfReg p with
  | some k =>
    rw [hdom] at hstore hr
    dsimp only at hstore ⊢
    rw [State.awake_domainOn, if_neg (by simpa using hr), hstore]
  | none =>
    rw [hdom] at hstore
    dsimp only at hstore ⊢
    rw [hstore]

/-- A register that the view may not access (R8). -/
theorem State.loadData_denied {n : Nat} {k : Nat → Engine → Engine} (hp : placeOf e p n = .reg p) (hd : regDenied p (s.engPriv e) = true) :
    (s.awake e).loadData e p n k = .exc 2 0 := by
  unfold State.loadData
  rw [hp]
  dsimp only
  rw [State.awake_engPriv, if_pos hd]

theorem State.storeAt_denied {n v : Nat} (hp : placeOf e p n = .reg p) (hd : regDenied p (s.engPriv e) = true) :
    (s.awake e).storeAt e len p n v = .exc 2 0 := by
  unfold State.storeAt
  rw [hp]
  dsimp only
  rw [State.awake_engPriv, if_pos hd]

section
variable {im : Imm} {n k : Nat} {f : Nat → Word}

/-- A load whose access is an exception, or whose data access is done. -/
theorem State.Ready.load_traps {c q : Nat} (h : s.Ready e) (hi : exec i s = .next (s.load e i d a im n f))
    (hx : (s.awake e).loadData e (memAddr s.eng[e] a im) n (fun v x => x.setG d (f v)) = .exc c q) : s.Traps e i c q :=
  h.traps_exc hi rfl (by rw [State.awake_eng]; exact hx)

theorem State.Ready.store_traps {c q : Nat} (h : s.Ready e) (hi : exec i s = .next (s.store e i d a im n))
    (hx : (s.awake e).storeAt e (immLen im) (memAddr s.eng[e] a im) n (s.eng[e].rd d).toNat = .exc c q) : s.Traps e i c q :=
  h.traps_exc hi rfl (by rw [State.awake_eng]; exact hx)

end

/-- Settles O9: where the access falls decides it: a register word, a register of another size, or nothing. -/
theorem registerAccessByEngine : Obligations.RegisterAccessByEngine := by
  unfold Obligations.RegisterAccessByEngine
  intro s e d a i h
  refine ⟨fun ⟨h1, h2⟩ hp hd => ?denied, fun ⟨h1, h2⟩ hp hd hr => ?allowed, fun ⟨h1, h2⟩ hp => ?half, fun ⟨h1, h2⟩ => ?byte,
    fun hl ho hn hp => ?unmapped⟩
  case denied =>
    have hreg := (placeOf_reg (e := e) hp h1 h2).trans (if_pos rfl)
    exact ⟨h.load_traps rfl (State.loadData_denied hreg hd), h.store_traps rfl (State.storeAt_denied hreg hd)⟩
  case allowed =>
    have hreg := (placeOf_reg (e := e) hp h1 h2).trans (if_pos rfl)
    constructor
    · obtain ⟨v, u, hvu, hx⟩ := State.loadData_reg (k := fun v x => x.setG d (BitVec.ofNat 32 v)) hreg hd hr
      refine ⟨v, u, hvu, (h.exec_of_done rfl rfl (t := u.modEng e fun x => x.setG d v) ?_).trans ?_⟩
      · rw [State.awake_eng]
        exact hx.trans (by rw [BitVec.ofNat_toNat, BitVec.setWidth_eq])
      · rw [State.modEng_modEng]
    · obtain ⟨u, hu, hx⟩ := State.storeAt_reg (len := immLen i) (v := (s.eng[e].rd d).toNat) hreg hd hr
      rw [BitVec.ofNat_toNat, BitVec.setWidth_eq] at hu
      refine ⟨u, hu, h.exec_of_hold rfl rfl ?_⟩
      rw [State.awake_eng]
      exact hx
  case half =>
    have hnone := (placeOf_reg (e := e) hp h1 h2).trans (if_neg (by decide))
    exact ⟨h.load_traps rfl (State.loadData_none hnone), h.load_traps rfl (State.loadData_none hnone),
      h.store_traps rfl (State.storeAt_none hnone)⟩
  case byte =>
    have hnone := (placeOf_reg (e := e) (Nat.mod_one _) h1 h2).trans (if_neg (by decide))
    exact ⟨h.load_traps rfl (State.loadData_none hnone), h.load_traps rfl (State.loadData_none hnone),
      h.store_traps rfl (State.storeAt_none hnone)⟩
  case unmapped =>
    have hnone := placeOf_unmapped (e := e) hp hl ho hn
    exact ⟨h.load_traps rfl (State.loadData_none hnone), h.store_traps rfl (State.storeAt_none hnone)⟩

end Sys2Proof.Machine
end

section
/-! SUPPORT. Power domains (R40-R45). -/

namespace Sys2Proof.Machine

variable {s t : State} {d : Fin 44}

/-! ### A domain that is idle -/

/-- A table without an entry at k reads its default there. -/
theorem tabGet_filter_lost {α : Type} {f : Nat → α} {p : Nat × α → Bool} {k : Nat} (hp : ∀ v, p (k, v) = false) :
    ∀ l : List (Nat × α), tabGet f (l.filter p) k = f k
  | [] => rfl
  | (j, v) :: l => by
    rw [List.filter_cons]
    split_ifs with h
    · have hk : k ≠ j := fun e => by rw [← e, hp] at h; cases h
      unfold tabGet
      rw [if_neg hk, tabGet_filter_lost hp l, ite_self]
    · exact tabGet_filter_lost hp l

theorem State.domainIdle_iff : s.domainIdle d = true ↔ s.domainOn d = true ∧ s.get (F.SYS_PWR_POLICY_IDLE_DELAY d.val) ≠ 0 ∧
    s.flag (F.SYS_PWR_POLICY_FORCE_ON d.val) = false ∧
    s.past (s.power[d].lastUse + 1000 * s.get (F.SYS_PWR_POLICY_IDLE_DELAY d.val)) = true ∧ s.domainHeld d = false := by
  unfold State.domainIdle
  rw [Nat.mul_comm 1000]
  simp only [Bool.and_eq_true, Bool.not_eq_true', bne_iff_ne, and_assoc]

/-- The blocks of domain d without their supply, before the domain shows OFF (R40). -/
def State.blocksOff (s : State) (d : Fin 44) : State :=
  let t := { s.blockLost d with regs := s.regs.filter fun x => !s.lostWith d x.1 }
  if d.val = 31 then t.setFlag F.AX_OUT_KEY_OK (s.flag F.AX_OUT_KEY_OK)
  else if d.val < 16 then t.inputAgain (Fin.ofNat 16 d.val)
  else if 32 ≤ d.val ∧ d.val < 40 then t.lanesReset (inQuad (d.val - 32))
  else t

theorem State.domainOff_eq : s.domainOff d = (s.blocksOff d).put (F.SYS_PWR_POLICY_STATE d.val) 2 := rfl

theorem State.blocksOff_wf (hs : s.Canon) : tabWf regDefault (s.blocksOff d).regs = true := by
  have h : State.Kept s.pending { s.blockLost d with regs := s.regs.filter fun x => !s.lostWith d x.1 } :=
    State.Kept.regsOf ⟨rfl, hs⟩ (State.blockLost_kept ⟨rfl, hs⟩)
  have hk : (s.blocksOff d).Kept s.pending := by
    unfold State.blocksOff
    dsimp only
    split_ifs
    · exact State.setFlag_kept h
    · exact State.inputAgain_kept h
    · exact State.lanesReset_kept h
    · exact h
  exact hk.2.1

/-- Domains whose blocks show no input: nothing but the supply's loss changes their registers. -/
theorem State.blocksOff_regs (h1 : d.val ≠ 31) (h2 : 16 ≤ d.val) (h3 : d.val < 32 ∨ 40 ≤ d.val) :
    (s.blocksOff d).regs = s.regs.filter fun x => !s.lostWith d x.1 := by
  unfold State.blocksOff
  dsimp only
  rw [if_neg h1, if_neg (by omega), if_neg (by omega)]

/-- A policy register lies in a block that is not gated off (R45). -/
theorem State.domainOfReg_policy : s.domainOfReg (R.SYS_PWR_POLICY d.val) = none := by
  have hd := d.isLt
  have hb : blockNo (R.SYS_PWR_POLICY d.val) = 0 := by
    show (0xF0000200 + 0x4 * d.val) / 0x10000 % 0x1000 = 0
    omega
  unfold State.domainOfReg
  rw [hb]
  rfl

theorem State.inputAgain_eng {b : Sys2Proof.Beam} : (s.inputAgain b).eng = s.eng := by
  unfold State.inputAgain
  split_ifs <;> simp

/-- The local memory of an engine goes with its supply (R40, R145). -/
theorem State.blocksOff_mem {e : Eng} (he : domainOfEng e = some d) : (s.blocksOff d).eng[e].mem = {} := by
  have hv : e.val < 20 ∧ e.val = d.val := by
    unfold domainOfEng at he
    split_ifs at he with h
    · exact ⟨h, congrArg Fin.val (Option.some.inj he)⟩
  obtain ⟨h20, hd⟩ := hv
  have heng : (s.blockLost d).eng = vmod s.eng e fun x => { x.fresh with mem := {} } := by
    have hee : (⟨d.val, by omega⟩ : Eng) = e := Fin.ext hd.symm
    unfold State.blockLost
    dsimp only
    rw [dif_pos (by omega), hee]
    split_ifs <;> rfl
  have hlost : (s.blockLost d).eng[e].mem = {} := by rw [heng, vmod_same]
  have hoff : (s.blocksOff d).eng = (s.blockLost d).eng := by
    unfold State.blocksOff
    dsimp only
    rw [if_neg (by omega)]
    split_ifs
    · exact State.inputAgain_eng
    · omega
    · rfl
  rw [hoff, hlost]

/-- Settles O25: the domain that is idle, by OFF_EN and R43. -/
theorem powerDomainsComplete : Obligations.PowerDomainsComplete := by
  unfold Obligations.PowerDomainsComplete
  intro s d hs
  have hx : exec (.powerIdleTimeout d) s = .next (if s.domainIdle d then
      if s.flag (F.SYS_PWR_POLICY_OFF_EN d.val) && !neverOff d then s.domainOff d else s.put (F.SYS_PWR_POLICY_STATE d.val) 1 else s) := rfl
  refine ⟨fun hdue hoff => ?idle, fun hdue ⟨hen, hno⟩ => ?off, fun hdue => ?stays⟩
  case idle =>
    rw [if_pos (State.domainIdle_iff.2 hdue), if_neg (by simpa using hoff)] at hx
    exact ⟨_, hx, State.get_put_self hs.1 (by decide), rfl⟩
  case off =>
    rw [if_pos (State.domainIdle_iff.2 hdue), if_pos (by rw [hen, hno]; rfl)] at hx
    have hwf := State.blocksOff_wf (d := d) hs
    refine ⟨_, hx, ?_, fun a ha h1 h2 h3 => ?_, fun e he => ?_⟩
    · exact State.get_put_self hwf (by decide)
    · have hne : a ≠ (F.SYS_PWR_POLICY_STATE d.val).addr := fun e => by
        rw [e, State.domainOfReg_policy] at ha
        cases ha
      rw [State.domainOff_eq, State.put, State.reg_setReg_other hwf hne, State.reg, State.blocksOff_regs h1 h2 h3]
      refine tabGet_filter_lost (fun v => ?_) _
      unfold State.lostWith
      rw [decide_eq_true ha]
      rfl
    · rw [State.domainOff_eq, State.put_eng]
      exact State.blocksOff_mem he
  case stays => rw [if_neg (fun h => hdue (State.domainIdle_iff.1 h))] at hx; exact hx

/-! ### A domain that wakes -/

theorem State.domainOn_after_wake (hs : tabWf regDefault s.regs = true) :
    ((s.put (F.SYS_PWR_POLICY_STATE d.val) 0).touch d).domainOn d = true := by
  have h : ((s.put (F.SYS_PWR_POLICY_STATE d.val) 0).touch d).get (F.SYS_PWR_POLICY_STATE d.val) = 0 := State.get_put_self hs (by decide)
  unfold State.domainOn
  rw [h]
  rfl

/-- An engine that does not stall does not try again. -/
theorem State.retryStall_none {e : Eng} (h : ∀ i, s.eng[e].wait ≠ some (.stalled i)) : s.retryStall e = s := by
  unfold State.retryStall
  split
  · next i hi => exact absurd hi (h i)
  · rfl

theorem State.forEach_retryStall_none (h : ∀ (e : Eng) i, s.eng[e].wait ≠ some (.stalled i)) :
    ∀ l : List Eng, forEach l s (fun s e => s.retryStall e) = s
  | [] => rfl
  | e :: l => by
    show forEach l (s.retryStall e) _ = s
    rw [State.retryStall_none (h e)]
    exact State.forEach_retryStall_none h l

/-- Settles O26: `domainUp` where the domain wakes, and nothing to go on with where nothing stalled. -/
theorem domainWakeDoneCompletes : Obligations.DomainWakeDoneCompletes := by
  unfold Obligations.DomainWakeDoneCompletes
  intro s d hs
  have hx : exec (.domainWakeDone d) s = .next (if s.get (F.SYS_PWR_POLICY_STATE d.val) = 3 then s.domainUp d else s) := rfl
  refine ⟨State.domainOn_after_wake hs.1, fun h3 => ?up, fun h3 hw hstall hd => ?alone, fun h3 => ?stays⟩
  case up => rw [hx, if_pos h3]; rfl
  case alone =>
    have hon : (State.put s (F.SYS_PWR_POLICY_STATE d.val) 0).touch d =
        { (State.put s (F.SYS_PWR_POLICY_STATE d.val) 0).touch d with waiting := [] } := by rw [← hw]; rfl
    rw [hx, if_pos h3, State.domainUp]
    rw [if_neg (by omega), State.forEach_retryStall_none (s := (s.put (F.SYS_PWR_POLICY_STATE d.val) 0).touch d) hstall]
    exact congrArg Host.Outcome.next (by rw [show ((s.put (F.SYS_PWR_POLICY_STATE d.val) 0).touch d).waiting = [] from hw]; exact hon.symm)
  case stays => rw [hx, if_neg h3]

end Sys2Proof.Machine
end

section
/-! SUPPORT. Register writes: by view, field by field, and the rows that write one register (R7, R8, R41, R146). -/

namespace Sys2Proof.Machine

variable {s t : State} {who : Reader} {a : Nat} {v : BitVec 32}

/-! ### A write by view -/

/-- The touched state stands in the same view. -/
@[simp] theorem State.supView_touchReg : (s.touchReg a).supView who = s.supView who := by
  unfold State.touchReg
  split
  · cases who <;> rfl
  · rfl

theorem State.askReg_ready {i : Asked} {k : State → State} (h : s.regReady a = true) : s.askReg a i k = k (s.touchReg a) := if_pos h

/-- A write of a register that the view may write. -/
theorem State.writeAt_found (hw : regWindow a = true) (hr : s.regReady a = true) (hd : regDenied a (s.supView who) = false)
    (hf : (regFind a).isSome = true) :
    s.writeAt who a v = State.settled who ((s.touchReg a).regEffect who (s.supView who) a v) := by
  obtain ⟨r, hr'⟩ := Option.isSome_iff_exists.1 hf
  have hx : (s.touchReg a).regWrite who a v = some ((s.touchReg a).regEffect who (s.supView who) a v) := by
    unfold State.regWrite
    dsimp only
    rw [State.supView_touchReg, hd, if_neg Bool.false_ne_true, hr']
  unfold State.writeAt
  rw [if_pos hw, State.askReg_ready hr, hx]
  rfl

/-- A write where there is no register. -/
theorem State.writeAt_missing (hw : regWindow a = true) (hr : s.regReady a = true) (hf : regFind a = none) :
    s.writeAt who a v = State.settled who (s.touchReg a) := by
  have hx : (s.touchReg a).regWrite who a v = some (s.touchReg a) := by
    unfold State.regWrite regDenied
    dsimp only
    rw [hf]
    rfl
  unfold State.writeAt
  rw [if_pos hw, State.askReg_ready hr, hx]
  rfl

/-- A write that the view may not make. -/
theorem State.writeAt_denied (hw : regWindow a = true) (hr : s.regReady a = true) (hd : regDenied a (s.supView who) = true) :
    s.writeAt who a v = (s.touchReg a).denied who := by
  have hx : (s.touchReg a).regWrite who a v = none := by
    unfold State.regWrite
    dsimp only
    rw [State.supView_touchReg, hd, if_pos rfl]
  unfold State.writeAt
  rw [if_pos hw, State.askReg_ready hr, hx]

/-- A write to a block that sleeps. -/
theorem State.writeAt_asleep (hw : regWindow a = true) (hr : s.regReady a = false) :
    s.writeAt who a v = (s.wakeReg a).park (.write who (BitVec.ofNat 32 a) v) := by
  unfold State.writeAt State.askReg
  rw [if_pos hw, if_neg (by rw [hr]; decide)]

/-! ### A field after a write -/

section
variable {f : FieldD} {sup : Bool} {old w : Word}

theorem bitsOf_lt {hi lo : Nat} : bitsOf w hi lo < 2 ^ (hi + 1 - lo) := Nat.mod_lt _ (by positivity)

/-- Taking the bits of n away from m, both of k bits. -/
theorem sub_and_eq {m n k : Nat} (hn : n < 2 ^ k) (hm : m < 2 ^ k) : m - (m &&& n) = m &&& (2 ^ k - 1 - n) := by
  let x := BitVec.ofNat k m
  let y := BitVec.ofNat k n
  have hx : x.toNat = m := Nat.mod_eq_of_lt hm
  have hy : y.toNat = n := Nat.mod_eq_of_lt hn
  have hz : (x &&& y) &&& (x &&& ~~~y) = 0#k := by ext i; simp; tauto
  have hsum : (x &&& y) + (x &&& ~~~y) = x := by
    rw [BitVec.add_eq_or_of_and_eq_zero _ _ hz]
    ext i
    rw [BitVec.getElem_or, BitVec.getElem_and, BitVec.getElem_and, BitVec.getElem_not, ← Bool.and_or_distrib_left, Bool.or_not_self,
      Bool.and_true]
  have hnat := BitVec.toNat_add_of_and_eq_zero hz
  rw [hsum, BitVec.toNat_and, BitVec.toNat_and, BitVec.toNat_not, hx, hy] at hnat
  omega

/-- A write replaces the bits of its field by a number, or leaves the word. -/
theorem FieldD.write_eq : f.write sup old w = old ∨ ∃ n, f.write sup old w = putBits old f.hi f.lo n := by
  unfold FieldD.write
  cases f.access sup
  case ro | w1p | na => exact .inl rfl
  all_goals exact .inr ⟨_, rfl⟩

theorem FieldD.bits_write_plain (hlo : f.lo ≤ f.hi) (hhi : f.hi < 32) (ha : f.access sup = .rw ∨ f.access sup = .wo) (hc : f.clamp = .none) :
    bitsOf (f.write sup old w) f.hi f.lo = bitsOf w f.hi f.lo := by
  have hx : f.write sup old w = putBits old f.hi f.lo (bitsOf w f.hi f.lo) := by
    unfold FieldD.write
    rcases ha with ha | ha <;> rw [ha, hc] <;> rfl
  rw [hx, bitsOf_putBits_same hlo hhi, Nat.mod_eq_of_lt bitsOf_lt]

theorem FieldD.bits_write_w1c (hlo : f.lo ≤ f.hi) (hhi : f.hi < 32) (ha : f.access sup = .w1c) (hw : f.whole = false) :
    bitsOf (f.write sup old w) f.hi f.lo = bitsOf old f.hi f.lo &&& (2 ^ (f.hi + 1 - f.lo) - 1 - bitsOf w f.hi f.lo) := by
  have hx : f.write sup old w = putBits old f.hi f.lo (bitsOf old f.hi f.lo - (bitsOf old f.hi f.lo &&& bitsOf w f.hi f.lo)) := by
    unfold FieldD.write
    rw [ha, hw]
    rfl
  rw [hx, bitsOf_putBits_same hlo hhi, Nat.mod_eq_of_lt ((Nat.sub_le _ _).trans_lt bitsOf_lt), sub_and_eq bitsOf_lt bitsOf_lt]

theorem FieldD.bits_write_whole (hlo : f.lo ≤ f.hi) (hhi : f.hi < 32) (ha : f.access sup = .w1c) (hw : f.whole = true) :
    bitsOf (f.write sup old w) f.hi f.lo = if bitsOf w f.hi f.lo = 0 then bitsOf old f.hi f.lo else 0 := by
  have hx : f.write sup old w = putBits old f.hi f.lo (if bitsOf w f.hi f.lo = 0 then bitsOf old f.hi f.lo else 0) := by
    unfold FieldD.write
    rw [ha, hw]
    rfl
  rw [hx, bitsOf_putBits_same hlo hhi, Nat.mod_eq_of_lt]
  split_ifs
  · exact bitsOf_lt
  · positivity

theorem FieldD.bits_write_w1s (hlo : f.lo ≤ f.hi) (hhi : f.hi < 32) (ha : f.access sup = .w1s) :
    bitsOf (f.write sup old w) f.hi f.lo = bitsOf old f.hi f.lo ||| bitsOf w f.hi f.lo := by
  have hx : f.write sup old w = putBits old f.hi f.lo (bitsOf old f.hi f.lo ||| bitsOf w f.hi f.lo) := by
    unfold FieldD.write
    rw [ha]
  rw [hx, bitsOf_putBits_same hlo hhi, Nat.mod_eq_of_lt (Nat.or_lt_two_pow bitsOf_lt bitsOf_lt)]

theorem FieldD.write_kept (ha : f.access sup = .ro ∨ f.access sup = .w1p ∨ f.access sup = .na) : f.write sup old w = old := by
  unfold FieldD.write
  rcases ha with ha | ha | ha <;> rw [ha]

theorem FieldD.bits_write_apart {hi lo : Nat} (hlo : f.lo ≤ f.hi) (hhi : f.hi < 32) (hl : lo ≤ hi) (ha : f.hi < lo ∨ hi < f.lo) :
    bitsOf (f.write sup old w) hi lo = bitsOf old hi lo := by
  rcases FieldD.write_eq (f := f) (sup := sup) (old := old) (w := w) with h | ⟨n, h⟩
  · rw [h]
  · rw [h, bitsOf_putBits_apart hlo hhi hl ha]

end

/-- Settles O27: `writeAt` by what stands at the address, and `FieldD.write` by access code. -/
theorem registerWriteComplete : Obligations.RegisterWriteComplete := by
  unfold Obligations.RegisterWriteComplete
  refine ⟨fun s who a v => ?_, fun f sup old v hlo hhi => ?_⟩
  · have hx : exec (.registerWrite who a v) s = .next (s.writeAt who a.toNat v) := rfl
    rw [hx]
    refine ⟨fun ⟨hw, hr, hd⟩ hf => ?_, fun hw hr hf => ?_, fun e hwho ⟨hw, hr, hd⟩ => ?_, fun k hwho ⟨hw, hr, hd⟩ => ?_, fun hw hr => ?_,
      fun hw => ?_⟩
    · rw [State.writeAt_found hw hr hd hf]
    · rw [State.writeAt_missing hw hr hf]
    · rw [State.writeAt_denied hw hr hd, hwho]
      rfl
    · rw [State.writeAt_denied hw hr hd, hwho]
      rfl
    · rw [State.writeAt_asleep hw hr, BitVec.ofNat_toNat, BitVec.setWidth_eq]
    · rw [State.writeAt, if_neg (by rw [hw]; decide)]
  · exact ⟨FieldD.bits_write_plain hlo hhi, FieldD.bits_write_w1c hlo hhi, FieldD.bits_write_whole hlo hhi, FieldD.bits_write_w1s hlo hhi,
      FieldD.write_kept, fun hi lo hl ha => FieldD.bits_write_apart hlo hhi hl ha⟩

end Sys2Proof.Machine
end

section
/-! SUPPORT. The rows that are the write of one register (R44, R56, R78, R186, R242, R252, R293, R296, R332, R335, R339, R340). -/

namespace Sys2Proof.Machine

variable {s : State} {who : Reader} {a : Nat} {v : BitVec 32}

/-- A register that the supervisor view may write. -/
def regOpen (a : Nat) : Bool := regWindow a && (regFind a).isSome && !regDenied a true

theorem regOpen_wdog : ∀ e : Fin 20, regOpen (R.SYS_ENG_WDOG e.val) = true := by decide +kernel
theorem regOpen_policy : ∀ d : Fin 44, regOpen (R.SYS_PWR_POLICY d.val) = true := by decide +kernel
theorem regOpen_bed : ∀ r : BedReg, regOpen (bedRegAddr r) = true := by intro r; cases r <;> decide +kernel
theorem regOpen_tail : ∀ n : Ring, regOpen (R.HOST_RING_TAIL n.val) = true := by decide +kernel
theorem regOpen_corrBase : ∀ b : Sys2Proof.Beam, regOpen (R.BEAM_CORR_BASE b.val) = true := by decide +kernel
theorem regOpen_retired : regOpen R.ARB_RETIRED = true := by decide +kernel
theorem regOpen_retireClr : regOpen R.ARB_RETIRE_CLR = true := by decide +kernel
theorem regOpen_capCfg : regOpen R.LOOP_CAP_CFG = true := by decide +kernel
theorem regOpen_injCfg : regOpen R.LOOP_INJ_CFG = true := by decide +kernel

/-! ### What a write of each does -/

theorem indexIn_of {base stride n i : Nat} (hs : 0 < stride) (hi : i < n) : indexIn (base + stride * i) base stride n = some i := by
  have hd : (base + stride * i - base) / stride = i := by rw [Nat.add_sub_cancel_left, Nat.mul_div_cancel_left _ hs]
  have hm : (base + stride * i - base) % stride = 0 := by rw [Nat.add_sub_cancel_left, Nat.mul_mod_right]
  unfold indexIn
  rw [hd, if_pos ⟨Nat.le_add_right _ _, hm, hi⟩]

theorem indexIn_beyond {base n a : Nat} (h : a < base ∨ base + 4 * n ≤ a) : indexIn a base 4 n = none := if_neg (by omega)

theorem finOfNat_val {n : Nat} [NeZero n] (i : Fin n) : Fin.ofNat n i.val = i := Fin.ext (Nat.mod_eq_of_lt i.isLt)

theorem State.regEffect_wdog (e : Fin 20) : s.regEffect who true (R.SYS_ENG_WDOG e.val) v = s.engWdogWrite e true v := by
  have hb : blockNo (R.SYS_ENG_WDOG e.val) = 0 := by
    show (0xF0000480 + 0x4 * e.val) / 0x10000 % 0x1000 = 0
    omega
  unfold State.regEffect
  rw [hb]
  unfold State.writeSys
  rw [if_neg (show ¬0xF0000480 + 0x4 * e.val = 0xF0000100 by omega), if_neg (show ¬0xF0000480 + 0x4 * e.val = 0xF0000024 by omega),
    if_neg (show ¬0xF0000480 + 0x4 * e.val = 0xF0000030 by omega),
    indexIn_beyond (show _ ∨ 0xF0000200 + 4 * 44 ≤ 0xF0000480 + 0x4 * e.val from .inr (by omega))]
  dsimp only
  rw [indexIn_beyond (show _ ∨ 0xF0000400 + 4 * 20 ≤ 0xF0000480 + 0x4 * e.val from .inr (by omega)),
    show R.SYS_ENG_WDOG e.val = R.SYS_ENG_WDOG 0 + 4 * e.val from rfl, indexIn_of (by decide) e.isLt]
  exact congrArg (fun e => s.engWdogWrite e true v) (finOfNat_val e)

theorem State.regEffect_policy (d : Fin 44) : s.regEffect who true (R.SYS_PWR_POLICY d.val) v = s.policyWrite d true v := by
  have hb : blockNo (R.SYS_PWR_POLICY d.val) = 0 := by
    show (0xF0000200 + 0x4 * d.val) / 0x10000 % 0x1000 = 0
    omega
  unfold State.regEffect
  rw [hb]
  unfold State.writeSys
  rw [if_neg (show ¬0xF0000200 + 0x4 * d.val = 0xF0000100 by omega), if_neg (show ¬0xF0000200 + 0x4 * d.val = 0xF0000024 by omega),
    if_neg (show ¬0xF0000200 + 0x4 * d.val = 0xF0000030 by omega),
    show R.SYS_PWR_POLICY d.val = R.SYS_PWR_POLICY 0 + 4 * d.val from rfl, indexIn_of (by decide) d.isLt]
  exact congrArg (fun d => s.policyWrite d true v) (finOfNat_val d)

theorem State.regEffect_bed (r : BedReg) : s.regEffect who true (bedRegAddr r) v = s.writeBed true (bedRegAddr r) v := by
  cases r <;> rfl

theorem State.regEffect_tail (n : Ring) : s.regEffect who true (R.HOST_RING_TAIL n.val) v = s.ringTailWrite n.val true v := by
  have hb : blockNo (R.HOST_RING_TAIL n.val) = 10 := by
    show (0xF00A100C + 0x10 * n.val) / 0x10000 % 0x1000 = 10
    omega
  have hn : (R.HOST_RING_TAIL n.val - R.HOST_RING_BASE 0) / 0x10 = n.val := by
    show (0xF00A100C + 0x10 * n.val - 0xF00A1000) / 0x10 = n.val
    omega
  have ho : R.HOST_RING_TAIL n.val % 0x10 = 0xC := by
    show (0xF00A100C + 0x10 * n.val) % 0x10 = 0xC
    omega
  unfold State.regEffect
  rw [hb]
  unfold State.writeHost
  dsimp only
  rw [if_neg (show ¬0xF00A100C + 0x10 * n.val = 0xF00A2010 by omega),
    if_neg (show ¬(0xF00A100C + 0x10 * n.val = 0xF00A2000 ∨ 0xF00A100C + 0x10 * n.val = 0xF00A2004 ∨
      0xF00A100C + 0x10 * n.val = 0xF00A2008) by omega),
    if_pos (show 0xF00A1000 + 0x10 * 0 ≤ 0xF00A100C + 0x10 * n.val ∧ 0xF00A100C + 0x10 * n.val < 0xF00A1000 + 0x10 * 52 by omega), hn, ho]
  rfl

theorem State.regEffect_corrBase (b : Sys2Proof.Beam) :
    s.regEffect who true (R.BEAM_CORR_BASE b.val) v = s.corrBaseWrite b true v := by
  have hb : blockNo (R.BEAM_CORR_BASE b.val) = 2 := by
    show (0xF0020130 + 0x1000 * b.val) / 0x10000 % 0x1000 = 2
    omega
  have hn : R.BEAM_CORR_BASE b.val % 0x10000 / 0x1000 = b.val := by
    show (0xF0020130 + 0x1000 * b.val) % 0x10000 / 0x1000 = b.val
    omega
  have ho : R.BEAM_CORR_BASE b.val % 0x1000 = 0x130 := by
    show (0xF0020130 + 0x1000 * b.val) % 0x1000 = 0x130
    omega
  unfold State.regEffect
  rw [hb, hn, ho, finOfNat_val]
  rfl

theorem State.regEffect_loop (ha : 0xF0050000 ≤ a) (hl : a < 0xF0060000) : s.regEffect who true a v = s.writeLoop true a v := by
  have hb : blockNo a = 5 := by
    unfold blockNo
    omega
  unfold State.regEffect
  rw [hb]
  rfl

theorem State.regEffect_inj : s.regEffect who true R.LOOP_INJ_CFG v = s.injWrite R.LOOP_INJ_CFG v := by
  rw [State.regEffect_loop (by decide) (by decide)]
  rfl

/-! ### The rows -/

/-- The row of a register that is open to the supervisor view. -/
theorem State.row_of {c : Instr} (f : State → State) (hv : s.supView who = true) (ho : regOpen a = true)
    (hc : exec c s = .next (s.writeAt who a v)) (hf : (s.touchReg a).regEffect who true a v = f (s.touchReg a)) (hr : s.regReady a = true) :
    exec c s = .next (State.settled who (f (s.touchReg a))) := by
  simp only [regOpen, Bool.and_eq_true, Bool.not_eq_true'] at ho
  obtain ⟨⟨hw, hfind⟩, hd⟩ := ho
  rw [hc, State.writeAt_found hw hr (by rw [hv]; exact hd) hfind, hv, hf]

theorem pulsed_loopResume : ∀ b : Sys2Proof.Beam, pulsed (F.LOOP_BEAM_SAFE_RESUME b.val) true 0x10000#32 = true := by decide +kernel

/-- Settles O28: each row is a write by `writeAt` of an open register, whose effect is that of its block. -/
theorem registerRowsComplete : Obligations.RegisterRowsComplete := by
  unfold Obligations.RegisterRowsComplete
  intro s who v e d b n r ofs hs hv
  refine ⟨State.row_of (fun t => t.engWdogWrite e true v) hv (regOpen_wdog e) rfl (State.regEffect_wdog e),
    State.row_of (fun t => t.policyWrite d true v) hv (regOpen_policy d) rfl (State.regEffect_policy d),
    State.row_of (fun t => t.writeBed true (bedRegAddr r) v) hv (regOpen_bed r) rfl (State.regEffect_bed r),
    State.row_of (fun t => t.ringTailWrite n.val true v) hv (regOpen_tail n) rfl (State.regEffect_tail n),
    State.row_of (fun t => t.corrBaseWrite b true v) hv (regOpen_corrBase b) rfl (State.regEffect_corrBase b),
    State.row_of (fun t => t.retireWrite v) hv regOpen_retired rfl rfl,
    State.row_of (fun t => t.retireClear v) hv regOpen_retireClr rfl rfl,
    State.row_of (fun t => t.capCfgWrite (v ||| 0x80#32)) hv regOpen_capCfg rfl rfl,
    State.row_of (fun t => t.capCfgWrite (s.reg R.LOOP_CAP_CFG ||| 0x100#32)) hv regOpen_capCfg rfl rfl,
    State.row_of (fun t => t.injWrite R.LOOP_INJ_CFG v) hv regOpen_injCfg rfl State.regEffect_inj,
    fun h4 hf hd => ?loop, fun hon => ?laser, fun hon => ?resume⟩
  case loop =>
    have hlow : 0xF0050000 ≤ R.LOOP_CTRL + ofs.toNat % 0x10000 := Nat.le_add_right _ _
    have hhigh : R.LOOP_CTRL + ofs.toNat % 0x10000 < 0xF0060000 :=
      Nat.add_lt_add_left (Nat.mod_lt ofs.toNat (by decide : 0 < 0x10000)) 0xF0050000
    refine State.row_of (fun t => t.writeLoop true (R.LOOP_CTRL + ofs.toNat % 0x10000) v) hv ?_ rfl (State.regEffect_loop hlow hhigh)
    have hw : regWindow (R.LOOP_CTRL + ofs.toNat % 0x10000) = true := decide_eq_true ⟨le_trans (by decide) hlow, hhigh.trans (by decide), h4⟩
    rw [regOpen, hw, hf, hd]
    rfl
  case laser =>
    have hx : exec (.laserResume who b) s = .next (s.ask ⟨b.val, by omega⟩ (.laserResume who b) fun s =>
      if s.supView who then s.laserResume b else s) := rfl
    refine ⟨?_, fun hp => if_pos hp⟩
    rw [hx, State.ask, if_pos hon, if_pos]
    cases who <;> exact hv
  case resume =>
    have hx : exec (.loopResume who b) s = .next (s.ask 20 (.loopResume who b) fun s =>
      if pulsed (F.LOOP_BEAM_SAFE_RESUME b.val) (s.supView who) 0x10000#32 then s.loopGo b else s) := rfl
    have hv' : (s.touch 20).supView who = true := by cases who <;> exact hv
    rw [hx, State.ask, if_pos hon, hv', if_pos (pulsed_loopResume b)]

end Sys2Proof.Machine
end

section
/-! SUPPORT. Scan heads: frames, payloads, slots, starvation (R236, R243-R245, R250, R254, R255, R258). -/

namespace Sys2Proof.Machine

variable {s t : State} {b : Sys2Proof.Beam} {l : List Octet}

/-! ### Set-point frames -/

/-- Position, whether it is clipped, and the state once the grid is read, of the frame for SP_TIME sp (R243). -/
def State.framePoint (s : State) (b : Sys2Proof.Beam) (sp : Nat) : (Int × Int × Int) × Bool × State :=
  if sp % (500 * 2 ^ s.get (F.BEAM_HEAD_CFG_SP_DIV_EFF b.val)) = 0 then s.setpointAt b (8 * (sp : Int))
  else (s.beam[b].traj.lastUvw, false, s)

/-- The state from which the frame for sp is made: a clipped point is counted (R241). -/
def State.frameState (s : State) (b : Sys2Proof.Beam) (sp : Nat) : State :=
  if (s.framePoint b sp).2.1 then (s.framePoint b sp).2.2.count (F.BEAM_TRAJ_STAT_CLIP b.val) else (s.framePoint b sp).2.2

/-- The octets of the frame for sp (R243, R244). -/
def State.frameOctets (s : State) (b : Sys2Proof.Beam) (sp : Nat) : List Octet :=
  let u := s.frameState b sp
  let stop := s.frameStop b sp
  setpointOctets (s.framePoint b sp).1
    (if stop = true ∨ u.get (F.BEAM_HEAD_CFG_POWER_PATH b.val) = 1 then 0
      else u.powerAt b (8 * ((sp + u.get (F.BEAM_POWER_LEAD_LEAD b.val) : Nat) : Int)))
    (b2n (decide (sp % (500 * 2 ^ s.get (F.BEAM_HEAD_CFG_SP_DIV_EFF b.val)) = 0)) + 2 * b2n (!stop && u.gateSoon b (8 * (sp : Int))) +
      4 * b2n stop) sp

/-- A frame that is in time departs HEAD_LAT before its SP_TIME (R237). -/
theorem State.setpointFrame_timely {m : Lane} {sp lat : Nat} (hsp : s.nextFrame b = sp) (hlat : s.get (F.BEAM_HEAD_CFG_HEAD_LAT b.val) = lat)
    (hup : s.headUp b = true) (hm : (s.frameState b sp).headLane b = some m) (h1 : sp ≤ s.now + 540 + lat) (h2 : s.now + 40 + lat ≤ sp) :
    ∃ t, exec (.setpointFrame b) s = .next t ∧
      t = { (s.frameState b sp).transmitAt m (1000 * (sp - lat)) 26 (.setpoint b 0x10 (s.frameOctets b sp)) with beam := t.beam } ∧
      t.beam[b].traj.lastFrame = some sp ∧ t.beam[b].traj.lastUvw = (s.framePoint b sp).1 := by
  have hlate : ((sp : Int) - (lat : Int) < (s.now : Int) + 40) = False := by simp only [eq_iff_iff, iff_false]; omega
  have hfar : ¬(s.headUp b = false ∨ (s.now : Int) + 540 < (sp : Int) - (lat : Int)) := by rw [hup]; simp; omega
  have hdep : 1000 * ((sp : Int) - (lat : Int)).toNat = 1000 * (sp - lat) := by omega
  have hx : exec (.setpointFrame b) s = execSetpointFrame b s := rfl
  unfold execSetpointFrame at hx
  dsimp only at hx
  rw [hsp, hlat, if_neg hfar] at hx
  simp only [hlate, decide_false, Bool.false_or, Bool.false_eq_true, if_false] at hx
  unfold State.frameState at hm ⊢
  unfold State.frameOctets State.frameState
  obtain ⟨⟨p, o, v⟩, hp⟩ : ∃ x, s.framePoint b sp = x := ⟨_, rfl⟩
  have hp' : (if decide (sp % (500 * 2 ^ s.get (F.BEAM_HEAD_CFG_SP_DIV_EFF b.val)) = 0) = true then s.setpointAt b (8 * (sp : Int))
      else (s.beam[b].traj.lastUvw, false, s)) = (p, o, v) := by
    rw [← hp, State.framePoint]
    simp only [decide_eq_true_eq]
  rw [hp'] at hx
  rw [hp] at hm ⊢
  dsimp only at hx hm ⊢
  rw [hm, hdep] at hx
  refine ⟨_, hx, rfl, ?_, ?_⟩
  · rw [State.modTraj, State.modBeam_same]
  · rw [State.modTraj, State.modBeam_same]

/-- The point of a frame, by whether its time is a set-point's. -/
theorem State.framePoint_eq {sp : Nat} :
    let fresh := decide (sp % (500 * 2 ^ s.get (F.BEAM_HEAD_CFG_SP_DIV_EFF b.val)) = 0)
    let r := s.setpointAt b (8 * (sp : Int))
    s.framePoint b sp = (if fresh then r.1 else s.beam[b].traj.lastUvw, fresh && r.2.1, if fresh then r.2.2 else s) := by
  unfold State.framePoint
  dsimp only
  by_cases h : sp % (500 * 2 ^ s.get (F.BEAM_HEAD_CFG_SP_DIV_EFF b.val)) = 0
  · rw [if_pos h, decide_eq_true h]
    rfl
  · rw [if_neg h, decide_eq_false h]
    rfl

/-- The FLAGS of a frame, bit by bit (R243). -/
theorem frameFlags_eq (x y z : Bool) : b2n x + 2 * b2n y + 4 * b2n z = (if x then 1 else 0) + (if y then 2 else 0) + (if z then 4 else 0) := by
  cases x <;> cases y <;> cases z <;> rfl

/-! ### Position payloads -/

theorem xkBitOf_head {n k : Nat} (hn : n < 16) : xkBitOf (48 + n) k = none := by
  unfold xkBitOf
  rw [if_neg (by omega), if_neg (by omega), if_neg (by omega), if_neg (by omega)]

/-- A head's event changes no register. -/
theorem State.headEvent_eq {k v n : Nat} : ∃ f, s.headEvent b k v n = { s with fired := f } := by
  unfold State.headEvent
  split_ifs
  · exact ⟨_, State.raise_eq_fired (xkBitOf_head b.isLt)⟩
  · exact ⟨s.fired, rfl⟩

/-- r is s with payload p of head b stored, and perhaps more of beam b and of the event router. -/
structure State.Stored (s : State) (b : Sys2Proof.Beam) (p : PosPayload) (r : State) : Prop where
  payload : r.beam[b].traj.payload = some p
  at_ : r.beam[b].traj.payloadAt = some s.now
  eng : r.eng = s.eng
  cells : r.cells = s.cells
  regs : r.regs = s.regs

variable {p : PosPayload} {r : State}

theorem State.Stored.modLoop (h : s.Stored b p r) (f : LoopSt → LoopSt) : s.Stored b p (r.modLoop b f) := by
  obtain ⟨h1, h2, h3, h4, h5⟩ := h
  exact ⟨h1, h2, h3, h4, h5⟩

theorem State.Stored.headEvent {k v n : Nat} (h : s.Stored b p r) : s.Stored b p (r.headEvent b k v n) := by
  obtain ⟨f, hf⟩ := State.headEvent_eq (s := r) (b := b) (k := k) (v := v) (n := n)
  rw [hf]
  exact ⟨h.payload, h.at_, h.eng, h.cells, h.regs⟩

theorem State.Stored.ite {c : Prop} [Decidable c] {r' : State} (h : s.Stored b p r) (h' : s.Stored b p r') : s.Stored b p (if c then r else r') := by
  split_ifs
  · exact h
  · exact h'

/-- A position payload without a following error to act on (R245). -/
theorem State.takePosition_calm (h : p.status.getLsbD 1 = false ∨ s.flag (F.BEAM_FE_CFG_FE_EN b.val) = false) :
    s.Stored b p (s.takePosition b p) := by
  have base : ∀ f : Traj → Traj, (f s.beam[b].traj).payload = some p → (f s.beam[b].traj).payloadAt = some s.now →
      s.Stored b p (s.modTraj b f) := fun f h1 h2 => by
    refine ⟨?_, ?_, rfl, rfl, rfl⟩
    · rw [State.modTraj, State.modBeam_same]
      exact h1
    · rw [State.modTraj, State.modBeam_same]
      exact h2
  have noTrip : ∀ u : State, s.Stored b p u →
      s.Stored b p (if p.status.getLsbD 1 && u.flag (F.BEAM_FE_CFG_FE_EN b.val) then u.feTrip b true false else u) := fun u hu => by
    rw [if_neg]
    · exact hu
    · rw [State.flag_congr hu.regs]
      rcases h with h | h <;> rw [h] <;> simp
  unfold State.takePosition
  apply noTrip
  apply State.Stored.ite (State.Stored.headEvent ?_)
  all_goals exact State.Stored.ite (State.Stored.modLoop (base _ rfl rfl) _) (base _ rfl rfl)

/-- POSITION_TIMEOUT of a head that holds no swath (R255, R258). -/
theorem State.positionTimeout_silent {m : Lane} (hm : s.headLane b = some m) (hup : s.headUp b = true)
    (hs : s.beam[b].traj.headSilent = false) (hw : s.beam[b].swaths = [])
    (hp : s.past (max (max (s.beam[b].traj.validAt.getD 0) (s.beam[b].traj.missAt.getD 0)) s.lanes[m].since + 8000) = true) :
    exec (.positionTimeout b) s = .next ((s.modTraj b fun j => { j with headSilent := true }).headEvent b 4 0 0) := by
  show execPositionTimeout b s = _
  unfold execPositionTimeout
  dsimp only
  rw [hm, hup, hs]
  dsimp only
  rw [if_pos rfl, if_pos hp, show (true && !false) = true from rfl]
  simp only [if_true]
  obtain ⟨f, hf⟩ := State.headEvent_eq (s := s.modTraj b fun j => { j with headSilent := true }) (b := b) (k := 4) (v := 0) (n := 0)
  have hsw : ((s.modTraj b fun j => { j with headSilent := true }).headEvent b 4 0 0).beam[b].swaths = [] := by
    rw [hf]
    exact (congrArg Beam.swaths State.modBeam_same).trans hw
  rw [hsw, List.isEmpty_nil, Bool.not_true, Bool.and_false, if_neg Bool.false_ne_true]

/-! ### LPWR slots -/

/-- The word of an LPWR slot of a native beam (R250). -/
theorem State.lpwrSlot_native {slot : Nat} (hx : s.xkOwns b = false) (ho : 250 * (b.val % 4) ≤ s.now)
    (hp : s.get (F.BEAM_HEAD_CFG_POWER_PATH b.val) = 1 ∨ s.get (F.BEAM_HEAD_CFG_POWER_PATH b.val) = 2)
    (hs : (s.now - 250 * (b.val % 4)) / 1000 * 1000 + 250 * (b.val % 4) = slot) (hl : s.beam[b].traj.lastLpwr ≠ some slot) :
    let word : BitVec 16 := if s.frameStop b (slot + 136) then 0
      else BitVec.ofNat 16 (s.powerAt b (8 * ((slot + 136 + s.get (F.BEAM_POWER_LEAD_LEAD b.val) : Nat) : Int)))
    exec (.lpwrSlot b) s = .next ((s.send (.lpwr b word)).modTraj b fun j => { j with lastLpwr := some slot, lastWord := word }) := by
  show execLpwrSlot b s = _
  unfold execLpwrSlot
  dsimp only
  rw [hx, hs, if_neg Bool.false_ne_true, if_neg, if_neg Bool.false_ne_true]
  rintro (h | ⟨h1, h2⟩ | h)
  · omega
  · omega
  · exact hl h

/-- Settles O29: the frame in time, the calm payload, the silent head, the slot and the starved sequence. -/
theorem headsComplete : Obligations.HeadsComplete := by
  unfold Obligations.HeadsComplete
  intro s b l
  refine ⟨fun m hup hm h1 h2 => ?frame, fun p hp hcalm => ?payload, fun hl => ?short, fun hup hs hw hm => ?silent,
    fun hx ho hp hl => ?lpwr, fun hst hx => ?starve⟩
  case frame =>
    have hm' : (s.frameState b (s.nextFrame b)).headLane b = some m := by
      rw [State.frameState, State.framePoint_eq]
      exact hm
    obtain ⟨t, hx, ht, hf, hu⟩ := State.setpointFrame_timely rfl rfl hup hm' h1 h2
    refine ⟨t, hx, ?_, hf, ?_⟩
    · rw [ht, State.frameOctets, frameFlags_eq, State.frameState, State.framePoint_eq, setpointOctets]
    · rw [hu, State.framePoint_eq]
  case payload =>
    have hx : exec (.positionPayload b l) s = .next (s.takePosition b p) := by
      show execPositionPayload b l s = _
      unfold execPositionPayload
      rw [hp]
    obtain ⟨h1, h2, h3, h4, -⟩ := State.takePosition_calm hcalm
    exact ⟨_, hx, h1, h2, h3, h4⟩
  case short =>
    show execPositionPayload b l s = _
    unfold execPositionPayload posPayloadOf
    dsimp only
    rw [if_neg hl]
  case silent =>
    cases hlane : s.headLane b with
    | some m => exact State.positionTimeout_silent hlane hup hs hw (hm m hlane)
    | none => rw [State.headUp, hlane] at hup; cases hup
  case lpwr =>
    refine ⟨_, State.lpwrSlot_native hx ho hp rfl hl, rfl, rfl, ?_, ?_⟩
    · rw [State.modTraj, State.modBeam_same]
    · rw [State.modTraj, State.modBeam_same]
  case starve =>
    show Host.Outcome.next _ = _
    rw [hst, hx]
    rfl

end Sys2Proof.Machine
end

section
/-! SUPPORT. Laser alarms and permits (R251, R252, R631). -/

namespace Sys2Proof.Machine

variable {s t : State} {b c : Sys2Proof.Beam} {g : Fin 4}

/-! ### Alarms -/

/-- The state in which an alarm is latched: its level, its latch and its time (R251). -/
def State.alarmLatched (s : State) (b : Sys2Proof.Beam) (a : Nat) : State :=
  (((s.setFlag (F.BEAM_LASER_CFG_ALARM_LEVEL b.val) true).setFlag (F.BEAM_LASER_CFG_ALARM_LATCH b.val) true).put
    (F.BEAM_ALARM_TIME_LO_ET b.val) a).put (F.BEAM_ALARM_TIME_HI_ET b.val) (a / 2 ^ 32)

theorem State.alarmLatched_flags (hs : s.Canon) (a : Nat) :
    (s.alarmLatched b a).flag (F.BEAM_LASER_CFG_ALARM_LEVEL b.val) = true ∧ (s.alarmLatched b a).flag (F.BEAM_LASER_CFG_ALARM_LATCH b.val) = true := by
  have hw := hs.1
  constructor <;>
    simp (disch := grind [State.put_wf]) [State.alarmLatched, State.flag, State.setFlag, State.get_put_self, State.get_put_bits, State.get_put_word]

/-- LASER_ALARM of an active input whose filter has run (R251), by who owns the beam and what is latched. -/
theorem State.laserAlarm_due {a : Nat} (ha : s.beam[b].traj.alarmAct = some a)
    (hd : s.reachedEt (a + 8 * (s.get (F.BEAM_LASER_CFG_ALARM_FILTER b.val) : Nat)) = true) :
    (s.xkOwns b = true → s.flag (F.LS_CTRL_ALARM_LEVEL b.val) = false → exec (.laserAlarm b) s =
      .next (((s.setFlag (F.LS_CTRL_ALARM_LEVEL b.val) true).setFlag (F.LS_CTRL_ALARM_LATCH b.val) true).chHalt (beamChan b) 4)) ∧
    (s.xkOwns b = false → s.flag (F.BEAM_LASER_CFG_ALARM_LEVEL b.val) = false → exec (.laserAlarm b) s =
      .next ((if (s.setFlag (F.BEAM_LASER_CFG_ALARM_LEVEL b.val) true).flag (F.BEAM_LASER_CFG_ALARM_LATCH b.val) then
        s.setFlag (F.BEAM_LASER_CFG_ALARM_LEVEL b.val) true
      else ((s.alarmLatched b a).gateFall b (s.alarmLatched b a).nowEt).beamFault b 3 0).retire b 1)) := by
  constructor <;> intro hx hl <;> show execLaserAlarm b s = _ <;> unfold execLaserAlarm <;> rw [ha] <;> dsimp only
  · rw [if_pos hx, if_pos ⟨hl, hd⟩]
  · rw [hx, if_neg Bool.false_ne_true, if_pos ⟨hl, hd⟩]
    rfl

/-- Raising the level of an alarm leaves its latch. -/
theorem State.alarmLatch_setLevel (hs : s.Canon) {v : Bool} :
    (s.setFlag (F.BEAM_LASER_CFG_ALARM_LEVEL b.val) v).flag (F.BEAM_LASER_CFG_ALARM_LATCH b.val) = s.flag (F.BEAM_LASER_CFG_ALARM_LATCH b.val) := by
  have hw := hs.1
  simp (disch := grind [State.put_wf]) [State.flag, State.setFlag, State.get_put_bits]

/-! ### Permits -/

/-- A loop whose step keeps Q, keeps what it has reached and reaches its own item has reached all its items. -/
theorem forEach_reaches {α : Type} {f : State → α → State} {Q : State → Prop} {P : α → State → Prop} (hQ : ∀ s a, Q s → Q (f s a))
    (keep : ∀ s a c, Q s → P c s → P c (f s a)) (reach : ∀ s a, Q s → P a (f s a)) (l : List α) :
    ∀ s, Q s → Q (forEach l s f) ∧ ∀ c, c ∈ l ∨ P c s → P c (forEach l s f) := by
  induction l with
  | nil => exact fun s hs => ⟨hs, fun c hc => hc.resolve_left (List.not_mem_nil)⟩
  | cons a l ih =>
    intro s hs
    obtain ⟨h1, h2⟩ := ih (f s a) (hQ s a hs)
    refine ⟨h1, fun c hc => h2 c ?_⟩
    rcases hc with hc | hc
    · rcases List.mem_cons.1 hc with rfl | hc
      · exact .inr (reach s c hs)
      · exact .inl hc
    · exact .inr (keep s a c hs hc)

/-- A flag of beam c's laser configuration, behind a write of one of beam b's. -/
theorem State.laserFlag_setFlag (hs : tabWf regDefault s.regs = true) {k k' : Nat} {v : Bool} (hk : k < 32) (hk' : k' < 32) :
    (s.setFlag ⟨0xF0020140 + 0x1000 * b.val, k, k⟩ v).flag ⟨0xF0020140 + 0x1000 * c.val, k', k'⟩ =
      if c = b ∧ k = k' then v else s.flag ⟨0xF0020140 + 0x1000 * c.val, k', k'⟩ := by
  by_cases hc : c = b
  · subst hc
    by_cases hkk : k = k'
    · subst hkk
      rw [if_pos ⟨rfl, rfl⟩]
      exact State.flag_setFlag_same ⟨Nat.le_refl _, hk⟩ rfl hs
    · rw [if_neg fun h => hkk h.2]
      exact State.flag_put_apart ⟨Nat.le_refl _, hk⟩ ⟨Nat.le_refl _, hk'⟩ (.inr (by simp only; omega)) hs
  · rw [if_neg fun h => hc h.1]
    have : b.val ≠ c.val := fun h => hc (Fin.ext h.symm)
    exact State.flag_put_apart ⟨Nat.le_refl _, hk⟩ ⟨Nat.le_refl _, hk'⟩ (.inl (by simp only; omega)) hs

/-- PERMIT_GIVEN (R252) of a group whose permit is withdrawn. -/
theorem State.permitGiven_low (hs : s.Canon) (hg : s.pins.permit[g] = none) : ∃ t, exec (.permitGiven g) s = .next t ∧
    t = { s with regs := t.regs, pins := t.pins } ∧ t.pins.permit[g] = some s.now ∧
    ∀ c, c ∈ groupBeams g → t.flag (F.BEAM_LASER_CFG_PERMIT c.val) = true ∧ t.flag (F.BEAM_LASER_CFG_PERMIT_WAIT c.val) = true := by
  let u : State := { s with pins := { s.pins with permit := s.pins.permit.set g (some s.now) } }
  let f (s : State) (b : Sys2Proof.Beam) : State :=
    (s.setFlag (F.BEAM_LASER_CFG_PERMIT b.val) true).setFlag (F.BEAM_LASER_CFG_PERMIT_WAIT b.val) true
  have hx : exec (.permitGiven g) s = .next (forEach (groupBeams g) u f) := by
    show execPermitGiven g s = _
    unfold execPermitGiven
    rw [hg]
    rfl
  have shows (r : State) (b c : Sys2Proof.Beam) (k : Nat) (hr : tabWf regDefault r.regs = true) (hk : k < 32) :
      (f r b).flag ⟨0xF0020140 + 0x1000 * c.val, k, k⟩ = if c = b ∧ 17 = k then true else if c = b ∧ 16 = k then true
        else r.flag ⟨0xF0020140 + 0x1000 * c.val, k, k⟩ := by
    have h1 : tabWf regDefault (r.setFlag ⟨0xF0020140 + 0x1000 * b.val, 16, 16⟩ true).regs = true := State.put_wf hr
    rw [← State.laserFlag_setFlag hr (by decide) hk, ← State.laserFlag_setFlag h1 (by decide) hk]
  obtain ⟨⟨-, m, ht⟩, hc⟩ := forEach_reaches (f := f) (Q := fun r => tabWf regDefault r.regs = true ∧ ∃ m, r = { u with regs := m })
    (P := fun c r => r.flag (F.BEAM_LASER_CFG_PERMIT c.val) = true ∧ r.flag (F.BEAM_LASER_CFG_PERMIT_WAIT c.val) = true)
    (fun r b ⟨hr, m, hm⟩ => ⟨State.put_wf (State.put_wf hr), (f r b).regs, by rw [hm]; rfl⟩)
    (fun r b c ⟨hr, _⟩ ⟨h1, h2⟩ => by
      rw [shows r b c 16 hr (by decide), shows r b c 17 hr (by decide), h1, h2]
      split_ifs <;> exact ⟨rfl, rfl⟩)
    (fun r b ⟨hr, _⟩ => by
      rw [shows r b b 16 hr (by decide), shows r b b 17 hr (by decide)]
      simp)
    (groupBeams g) u ⟨hs.1, _, rfl⟩
  refine ⟨_, hx, ?_, ?_, fun c h => hc c (.inl h)⟩
  · rw [ht]
  · rw [ht]
    exact Vector.getElem_set_self _

/-- A beam that goes on changes no register. -/
theorem State.resumeBeam_regs : (s.resumeBeam b).regs = s.regs := by
  unfold State.resumeBeam
  split
  · split_ifs <;> rfl
  · rfl

/-- PERMIT_RESTORED (R252) of a settled permit. -/
theorem State.permitRestored_settled (hs : s.Canon) (hg : s.permitSettled g = true) : ∃ t, exec (.permitRestored g) s = .next t ∧
    ∀ c, c ∈ groupBeams g → s.flag (F.BEAM_LASER_CFG_AUTO_RESUME c.val) = true → t.flag (F.BEAM_LASER_CFG_PERMIT_WAIT c.val) = false := by
  let f (s : State) (b : Sys2Proof.Beam) : State := if s.flag (F.BEAM_LASER_CFG_AUTO_RESUME b.val) then s.permitResume b else s
  have hx : exec (.permitRestored g) s = .next (forEach (groupBeams g) s f) := by
    show execPermitRestored g s = _
    unfold execPermitRestored
    rw [hg]
    rfl
  have resumed (r : State) (b c : Sys2Proof.Beam) (k : Nat) (hr : tabWf regDefault r.regs = true) (hk : k < 32) :
      (r.permitResume b).flag ⟨0xF0020140 + 0x1000 * c.val, k, k⟩ =
        if c = b ∧ 17 = k then false else r.flag ⟨0xF0020140 + 0x1000 * c.val, k, k⟩ := by
    rw [← State.laserFlag_setFlag hr (by decide) hk]
    exact State.flag_congr State.resumeBeam_regs
  obtain ⟨-, hc⟩ := forEach_reaches (f := f)
    (Q := fun r => tabWf regDefault r.regs = true ∧
      ∀ c : Sys2Proof.Beam, r.flag (F.BEAM_LASER_CFG_AUTO_RESUME c.val) = s.flag (F.BEAM_LASER_CFG_AUTO_RESUME c.val))
    (P := fun c r => s.flag (F.BEAM_LASER_CFG_AUTO_RESUME c.val) = true → r.flag (F.BEAM_LASER_CFG_PERMIT_WAIT c.val) = false)
    (fun r b ⟨hr, ha⟩ => by
      simp only [f]
      split_ifs
      · refine ⟨?_, fun c => (resumed r b c 1 hr (by decide)).trans ?_⟩
        · rw [State.permitResume, State.resumeBeam_regs]
          exact State.put_wf hr
        · rw [if_neg (by omega)]
          exact ha c
      · exact ⟨hr, ha⟩)
    (fun r b c ⟨hr, _⟩ hc h => by
      simp only [f]
      split_ifs
      · rw [resumed r b c 17 hr (by decide), hc h, ite_self]
      · exact hc h)
    (fun r b ⟨hr, ha⟩ h => by
      simp only [f]
      rw [if_pos ((ha b).trans h), resumed r b b 17 hr (by decide), if_pos ⟨rfl, rfl⟩])
    (groupBeams g) s ⟨hs.1, fun _ => rfl⟩
  exact ⟨_, hx, fun c hg => hc c (.inl hg)⟩

/-- Settles O30: alarms of native beams and of XK channels, permits withdrawn, given and restored. -/
theorem lasersComplete : Obligations.LasersComplete := by
  unfold Obligations.LasersComplete
  intro s b g hs
  refine ⟨fun a ha hd hx hl hlatch => ⟨?_, State.alarmLatched_flags hs a⟩, fun a ha hd hx hl hlatch => ?_,
    fun a ha hd hx hl => (State.laserAlarm_due ha hd).1 hx hl, ?_, State.permitGiven_low hs, State.permitRestored_settled hs⟩
  · rw [(State.laserAlarm_due ha hd).2 hx hl, State.alarmLatch_setLevel hs, hlatch, if_neg Bool.false_ne_true]
    rfl
  · rw [(State.laserAlarm_due ha hd).2 hx hl, State.alarmLatch_setLevel hs, hlatch, if_pos rfl]
  · have hrose : (s.pers ≠ 0 ∧ g = 0 ∧ s.pins.permit[g] ≠ none) = ((s.pers != 0 && g == 0 && s.pins.permit[g].isSome) = true) := by
      cases s.pins.permit[g] <;> simp
    simp only [hrose]
    rfl

end Sys2Proof.Machine
end

section
/-! SUPPORT. What the operations on rings and descriptors can change: registers, the Silo and the events raised. -/

namespace Sys2Proof.Machine

variable {r s t : State} {b : Sys2Proof.Beam}

/-! ### Operations that write registers, the Silo and events only -/

/-- s is r but for registers, the Silo and the events raised. -/
def State.StoresOnly (r s : State) : Prop := ∃ m o f, s = { r with regs := m, silo := o, fired := f }

namespace State.StoresOnly

theorem refl : s.StoresOnly s := ⟨_, _, _, rfl⟩

theorem put {f : Fld} {n : Nat} (h : r.StoresOnly s) : r.StoresOnly (s.put f n) := by
  obtain ⟨m, o, e, rfl⟩ := h
  exact ⟨_, o, e, rfl⟩

theorem setFlag {f : Fld} {v : Bool} (h : r.StoresOnly s) : r.StoresOnly (s.setFlag f v) := h.put

theorem setSilo (h : r.StoresOnly s) (m : MemR) : r.StoresOnly { s with silo := m } := by
  obtain ⟨g, o, e, rfl⟩ := h
  exact ⟨g, m, e, rfl⟩

theorem setFired (h : r.StoresOnly s) (f : List Fired) : r.StoresOnly { s with fired := f } := by
  obtain ⟨g, o, e, rfl⟩ := h
  exact ⟨g, o, f, rfl⟩

theorem ite {c : Prop} [Decidable c] (ht : r.StoresOnly s) (hu : r.StoresOnly t) : r.StoresOnly (if c then s else t) := by
  split_ifs
  · exact ht
  · exact hu

theorem raise {n k : Nat} (h : r.StoresOnly s) : r.StoresOnly (s.raise n k) := by
  have hf : r.StoresOnly { s with fired := s.fired ++ [⟨n, BitVec.ofNat 32 k, s.now⟩] } := h.setFired _
  unfold State.raise
  refine ite hf ?_
  split
  · exact hf.put
  · exact hf

theorem setHead {n v : Nat} (h : r.StoresOnly s) : r.StoresOnly (s.setHead n v) := h.put.put

theorem setTail {n v : Nat} (h : r.StoresOnly s) : r.StoresOnly (s.setTail n v) := h.put.put

theorem passFinal {n m : Nat} (h : r.StoresOnly s) : r.StoresOnly (s.passFinal n m) := by
  induction m generalizing s with
  | zero => exact h
  | succ m ih => exact ite (ih h.setHead) h

theorem setStatus {a c : Nat} (h : r.StoresOnly s) : r.StoresOnly (s.setStatus a c) := h.setSilo _

theorem stampDone {a : Nat} (h : r.StoresOnly s) : r.StoresOnly (s.stampDone a) := h.setSilo _

theorem incSheafFailed {a : Nat} (h : r.StoresOnly s) : r.StoresOnly (s.incSheafFailed a) := h.setSilo _

theorem finish {n k c : Nat} (h : r.StoresOnly s) : r.StoresOnly (s.finish n k c) :=
  passFinal (ite h.setStatus.stampDone.incSheafFailed h.setStatus.stampDone)

end State.StoresOnly

/-! ### Loops over plots, arbiter entries and beams -/

/-- A loop whose step keeps what g reads keeps it. -/
theorem forEach_reads {α β : Type} {f : State → α → State} (g : State → β) (hf : ∀ s a, g (f s a) = g s) (l : List α) (s : State) :
    g (forEach l s f) = g s := by
  induction l generalizing s with
  | nil => rfl
  | cons a l ih => exact (ih (f s a)).trans (hf s a)

end Sys2Proof.Machine
end

section
/-! SUPPORT. The arbiter's happenings: windows, leases, reservations, moves and claims (R190, R207, R275-R286, R294). -/

namespace Sys2Proof.Machine

variable {r s t : State} {b : Sys2Proof.Beam}

/-! ### Leases -/

/-- Beam b's lease and its request for one, once its stop has begun (R24, R26, R207). -/
theorem State.stopBeam_lease : (s.stopBeam b).beam[b].lease = none ∧ (s.stopBeam b).arb.beams[b].cur = none := by
  obtain ⟨u, hu⟩ : ∃ u, (s.stopCells b).withdraw b = u := ⟨_, rfl⟩
  have hl : ((u.giveUpLease b (some (u.nowEt + 8000))).beam[b].lease = none) ∧
      (u.giveUpLease b (some (u.nowEt + 8000))).arb.beams[b].cur = none := by
    refine ⟨congrArg Beam.lease (vmod_same _ _ _), ?_⟩
    unfold State.giveUpLease
    rw [State.modArb_same]
    split
    · next h => exact h
    · rfl
  obtain ⟨v, hv⟩ : ∃ v, u.giveUpLease b (some (u.nowEt + 8000)) = v := ⟨_, rfl⟩
  rw [hv] at hl
  have hd : (v.dropTent b).beam = v.beam ∧ (v.dropTent b).arb.beams[b].cur = v.arb.beams[b].cur := by
    unfold State.dropTent
    split
    · exact ⟨rfl, rfl⟩
    · refine ⟨rfl, ?_⟩
      show (vmod v.arb.beams b _)[b].cur = _
      rw [vmod_same]
  unfold State.stopBeam
  dsimp only
  rw [hu, hv]
  constructor
  · refine (congrArg Beam.lease State.modBeam_same).trans ?_
    exact (congrArg (fun v : Vector Beam 16 => v[b].lease) hd.1).trans hl.1
  · refine (congrArg ArbBeam.cur State.modArb_same).trans ?_
    exact hd.2.trans hl.2

/-- LEASE_EXPIRY of a lease past its deadline (R207, R279). -/
theorem State.leaseExpiry_due (hd : s.leaseDue b = true) :
    let u := (s.stopBeam b).modArb b fun a => { a with old := a.old.map fun l => { l with peers := [], lapsed := true } }
    let ended := s.expiryCutsEnded b
    let v := if ended then u.outcomes b .restart u.eng[engOf b].active true else u
    exec (.leaseExpiry b) s = .next ((v.modBeam b fun x => { x with expired := x.present.isSome, settled := ended }).raise 219 b.val) ∧
      u.beam[b].lease = none ∧ u.arb.beams[b].cur = none := by
  have hx : exec (.leaseExpiry b) s = execLeaseExpiry b s := rfl
  unfold execLeaseExpiry at hx
  rw [if_pos hd] at hx
  obtain ⟨h1, h2⟩ := State.stopBeam_lease (s := s) (b := b)
  generalize s.stopBeam b = u at hx h1 h2 ⊢
  refine ⟨hx, h1, ?_⟩
  rw [State.modArb_same]
  exact h2

/-- Waiting requests may be repeated: only requests and searches change (R274, R282). -/
theorem State.unblock_reads {β : Type} (g : State → β) (hg : ∀ (s : State) (c : Sys2Proof.Beam) (f : ArbBeam → ArbBeam),
    (∀ a, (f a).reserve = a.reserve ∧ (f a).cur = a.cur ∧ (f a).old = a.old ∧ (f a).tent = a.tent) → g (s.modArb c f) = g s) :
    g s.unblock = g s := by
  refine forEach_reads g (fun s c => ?_) allBeams s
  apply hg
  exact fun a => ⟨rfl, rfl, rfl, rfl⟩

/-- s is r but for the entries of the arbiter. -/
def State.ArbOnly (r s : State) : Prop := s = { r with arb := s.arb }

theorem State.ArbOnly.refl : s.ArbOnly s := rfl

theorem State.ArbOnly.modArb {f : ArbBeam → ArbBeam} {c : Sys2Proof.Beam} (h : r.ArbOnly s) : r.ArbOnly (s.modArb c f) := by
  unfold State.ArbOnly at h ⊢
  rw [h]
  rfl

theorem State.ArbOnly.forEach {α : Type} {f : State → α → State} (hf : ∀ s x, r.ArbOnly s → r.ArbOnly (f s x)) :
    ∀ {l : List α} {s : State}, r.ArbOnly s → r.ArbOnly (forEach l s f)
  | [], _, h => h
  | x :: l, s, h => State.ArbOnly.forEach hf (l := l) (s := f s x) (hf s x h)

/-- RESERVATION_LAPSE whose time has come (R276). -/
theorem State.reservationLapse_due {d : Rect} {w : Nat} (hr : s.arb.beams[b].reserve = some (d, some w)) (hw : s.reached w = true) :
    ∃ t, exec (.reservationLapse b) s = .next t ∧ t.arb.beams[b].reserve = none ∧ t = { s with arb := t.arb } := by
  refine ⟨(s.modArb b fun a => { a with reserve := none }).unblock, ?_, ?_, ?_⟩
  · show execReservationLapse b s = _
    unfold execReservationLapse
    rw [hr]
    dsimp only
    rw [if_pos hw]
  · rw [State.unblock_reads (fun s => s.arb.beams[b].reserve) fun s c f hf => ?_]
    · exact congrArg ArbBeam.reserve (vmod_same _ _ _)
    · show (vmod s.arb.beams c f)[b].reserve = _
      rw [vmod_get]
      split_ifs
      · exact (hf _).1
      · rfl
  · exact State.ArbOnly.forEach (fun _ _ h => h.modArb) (State.ArbOnly.modArb (r := s) (s := s) rfl)

/-! ### Moves -/

theorem State.StoresOnly.arb (h : r.StoresOnly s) : s.arb = r.arb := by
  obtain ⟨m, o, f, rfl⟩ := h
  rfl

theorem State.orphan_arb {a : Nat} : (s.orphan a).arb = s.arb := by
  have hc (u : State) (h : Hdr) : (u.coverBox h).arb = u.arb := by
    refine forEach_reads (fun s => s.arb) (fun _ _ => ?_) _ u
    rfl
  unfold State.orphan
  dsimp only
  rw [(State.StoresOnly.raise .refl).arb]
  split_ifs
  · exact hc _ _
  · rfl

theorem State.tailPassed_arb {n k : Nat} : (s.tailPassed n k).arb = s.arb := by
  unfold State.tailPassed
  dsimp only
  split_ifs
  · exact State.orphan_arb
  · rfl
  · rfl
  · exact State.orphan_arb
  · rfl

/-- TAIL moves without touching the pending moves (R78, R84). -/
theorem State.advanceTail_movePend {n m : Nat} : (s.advanceTail n m).arb.movePend = s.arb.movePend := by
  induction m generalizing s with
  | zero => rfl
  | succ m ih =>
    unfold State.advanceTail
    dsimp only
    rw [ih]
    split_ifs
    · rw [(State.StoresOnly.passFinal .refl).arb, State.tailPassed_arb]
      rfl
    · rfl

/-- One move leaves the pending moves alone (R294). -/
theorem State.moveDesc_movePend {i : Nat} : (s.moveDesc b i).arb.movePend = s.arb.movePend := by
  unfold State.moveDesc
  dsimp only
  rw [(State.StoresOnly.finish .refl).arb]
  have ha (u : State) : u.searchAgain.arb.movePend = u.arb.movePend := by
    refine forEach_reads (fun s => s.arb.movePend) (fun _ _ => ?_) _ u
    rfl
  rw [ha]
  exact State.advanceTail_movePend

/-- MOVE_COMPLETE (R294). -/
theorem State.moveComplete_found {x : Sys2Proof.Beam × Nat} (hx : s.arb.movePend.find? s.moveDue = some x) :
    ∃ t, exec .moveComplete s = .next t ∧ t.arb.movePend = s.arb.movePend.erase x := by
  have hl : (s.movesLeft (s.arb.movePend.erase x)).arb.movePend = s.arb.movePend.erase x := by
    unfold State.movesLeft
    dsimp only
    split_ifs <;> rfl
  obtain ⟨c, i⟩ := x
  have he : exec .moveComplete s = .next (let u := s.movesLeft (s.arb.movePend.erase (c, i))
      if u.dStatus (u.slotAddr (32 + c.val) i) ≠ dQUEUED then u else u.moveDesc c i) := by
    show execMoveComplete s = _
    unfold execMoveComplete
    rw [hx]
  refine ⟨_, he, ?_⟩
  dsimp only
  split_ifs
  · exact hl
  · rw [State.moveDesc_movePend, hl]

theorem State.moveComplete_none (hx : s.arb.movePend.find? s.moveDue = none) : exec .moveComplete s = .next s := by
  show execMoveComplete s = _
  unfold execMoveComplete
  rw [hx]

/-! ### Claims -/

/-- DISPATCH_CLAIM of a beam that holds no swath (R190), by what it may take. -/
theorem State.dispatchClaim_free (hp : s.beam[b].present = none) (hm : s.mayClaim b = true)
    (hq : s.searches b = true → s.searchAfter b = false ∧ s.domainOn domArb = true) :
    exec (.dispatchClaim b) s = .next (if s.searches b then (s.touch domArb).claimNext b else s.claimNext b) := by
  show execDispatchClaim b s = _
  unfold execDispatchClaim
  rw [hp, hm]
  cases hs : s.searches b with
  | false => rfl
  | true =>
    obtain ⟨h1, h2⟩ := hq hs
    rw [h1, State.askSoon_one h2]
    rfl

/-- What a free beam does (R190), by its choice. -/
theorem State.claimNext_eq {u : State} (hu : (if s.searches b then s.trialFix b else s) = u) :
    (∀ n i gl, u.choice b = some ((n, i), gl) → ∀ h : n < 52, s.claimNext b =
      (if gl then u.modArb b fun a => { a with lastGlean := some u.now } else u).claim b ⟨n, h⟩ i) ∧
    (u.choice b = none → s.claimNext b = if s.searches b then u.modArb b fun a => { a with searchOwed := false } else u) := by
  unfold State.claimNext
  dsimp only
  rw [hu]
  constructor
  · intro n i gl hc h
    rw [hc]
    dsimp only
    rw [dif_pos h]
  · intro hc
    rw [hc]

/-- Settles O32: windows, leases, reservations, moves and claims. -/
theorem arbiterComplete : Obligations.ArbiterComplete := by
  unfold Obligations.ArbiterComplete
  intro s b
  refine ⟨fun w hw hr hon => ?window, State.leaseExpiry_due, fun r w => State.reservationLapse_due, fun hm hp hq hf => ?stall, fun l hl => ?release,
    fun x => State.moveComplete_found, State.moveComplete_none, fun w hp hw hm => ?restart, fun hp hm hq => ?claim⟩
  case window =>
    show execArbWindowClose s = _
    unfold execArbWindowClose
    rw [hw]
    dsimp only
    rw [if_pos hr, State.askSoon_one hon]
    rfl
  case stall =>
    show execReplayStall s = _
    unfold execReplayStall
    rw [if_pos ⟨hm, hp, hq, hf⟩]
  case release =>
    show Host.Outcome.next (s.releaseEffect b) = _
    unfold State.releaseEffect
    split
    next h => exact absurd (h.symm.trans hl) nofun
    next l' h =>
      obtain rfl : l' = l := Option.some.inj (h.symm.trans hl)
      rfl
  case restart =>
    show execDispatchClaim b s = _
    unfold execDispatchClaim
    rw [hp]
    dsimp only
    rw [if_pos ⟨hw, hm⟩]
  case claim =>
    have hx := State.dispatchClaim_free hp hm hq
    cases hs : s.searches b with
    | false =>
      obtain ⟨h1, h2⟩ := State.claimNext_eq (s := s) (b := b) (by rw [hs, if_neg Bool.false_ne_true])
      rw [hs] at hx h2
      exact ⟨fun n i gl hc h => hx.trans (congrArg _ (h1 n i gl hc h)), fun hc => hx.trans (congrArg _ (h2 hc))⟩
    | true =>
      have ht : (s.touch domArb).searches b = true := hs
      obtain ⟨h1, h2⟩ := State.claimNext_eq (s := s.touch domArb) (b := b) (by rw [ht, if_pos rfl])
      rw [hs] at hx
      rw [ht] at h2
      exact ⟨fun n i gl hc h => hx.trans (congrArg _ (h1 n i gl hc h)), fun hc => hx.trans (congrArg _ (h2 hc))⟩

end Sys2Proof.Machine
end

section
/-! SUPPORT. Leases across devices: the messages between arbiters (R287-R292). -/

namespace Sys2Proof.Machine

variable {r s t : State} {b : Sys2Proof.Beam} {p : Peer} {node : Node} {id : BitVec 32}

/-! ### What a message asks of a domain -/

/-- A domain that is ON is asked at once (R41). -/
theorem State.ask_on {d : Fin 44} {i : Asked} {k : State → State} (h : s.domainOn d = true) : s.ask d i k = k (s.touch d) := if_pos h

/-- A domain that is not ON wakes, and the command waits (R41). -/
theorem State.ask_off {d : Fin 44} {i : Asked} {k : State → State} (h : s.domainOn d = false) : s.ask d i k = (s.wakeDomain d).park i :=
  if_neg (by rw [h]; exact Bool.false_ne_true)

/-- A request joins the window (R275). -/
theorem State.joinWindow_reads {j : Joined} : (s.joinWindow j).arb.joined = s.arb.joined ++ [j] ∧
    (s.joinWindow j).arb.window = some (s.arb.window.getD (s.now + s.get F.ARB_WINDOW_WINDOW)) := by
  refine ⟨rfl, ?_⟩
  unfold State.joinWindow
  dsimp only
  cases hw : s.arb.window with
  | none => rw [State.touch_arb, hw]; rfl
  | some w => rw [State.touch_arb, hw]; rfl

/-! ### Remote entries -/

theorem State.freePlots_arb {q : Rect} {l : List Rect} {o : Nat} : (s.freePlots q l o).arb = s.arb := by
  refine forEach_reads (fun s => s.arb) (fun s i => ?_) _ s
  split_ifs <;> rfl

theorem State.unblock_remotes : s.unblock.arb.remotes = s.arb.remotes := by
  refine forEach_reads (fun s => s.arb.remotes) (fun s i => ?_) _ s
  rfl

/-- A remote entry that is found is freed (R287, R289). -/
theorem State.freeRemote_found {x : Remote} (h : s.arb.remotes.find? (fun r => decide (r.node = node ∧ r.reqId = id)) = some x) :
    (s.freeRemote node id).arb.remotes = s.arb.remotes.erase x := by
  unfold State.freeRemote
  rw [h]
  dsimp only
  rw [State.unblock_remotes, State.freePlots_arb]

/-! ### Answers to a tentative request -/

/-- The first answer of a peer that was asked (R287). -/
theorem State.peerAnswer_first {t : Tentative} {c : Sys2Proof.Beam} {grant : Bool} {why : BitVec 8} (hon : s.domainOn domArb = true)
    (ht : s.tentOf id = some (c, t)) (hp : s.peerOf node = some p) (ha : p ∈ t.asked) (hg : p ∉ t.granted) :
    exec (.peerGrantReceive node grant id why) s = .next (
      let u := s.touch domArb
      if grant then
        let t := { t with granted := t.granted ++ [p] }
        if t.asked.all fun q => t.granted.contains q then
          (if s.layerTime = 0xFFFFFFFF then u.failPeers c t 2 0xFFFFFFFF
           else (u.modArb c fun a => { a with tent := none }).grantLease c t.req t.p t.d t.reqId t.granted)
        else u.modArb c fun a => { a with tent := some t }
      else u.failPeers c { t with asked := t.asked.filter fun q => decide (q ≠ p) } 11 s.peerRetry) := by
  show execPeerGrantReceive node grant id why s = _
  unfold execPeerGrantReceive
  rw [State.ask_on hon, show (s.touch domArb).tentOf id = some (c, t) from ht, show (s.touch domArb).peerOf node = some p from hp]
  dsimp only
  rw [if_neg]
  · rfl
  · rw [List.contains_iff_mem.2 ha]
    simp [hg]

/-- A GRANT for a request that is over is cancelled (R287). -/
theorem State.peerAnswer_late {x : BitVec 32 × Sys2Proof.Beam × Peer} (hon : s.domainOn domArb = true) (ht : s.tentOf id = none) (hp : s.peerOf node = some p)
    (hx : s.arb.dropped.find? (fun x => decide (x.1 = id ∧ x.2.2 = p)) = some x) :
    let u := s.touch domArb
    let v : State := { u with arb := { u.arb with dropped := u.arb.dropped.erase x } }
    exec (.peerGrantReceive node true id 0) s = .next (v.sendPeer p 0x23 x.2.1.val id 0 []) := by
  show execPeerGrantReceive node true id 0 s = _
  unfold execPeerGrantReceive
  rw [State.ask_on hon, show (s.touch domArb).tentOf id = none from ht, show (s.touch domArb).peerOf node = some p from hp]
  dsimp only
  unfold State.lateAnswer
  rw [State.touch_arb, hx]
  rfl

/-! ### Renewals, energy, geometry -/

/-- A loop that changes the entry of every beam of a list without repetition by f. -/
theorem State.forEach_modArb_beams {f : ArbBeam → ArbBeam} (l : List Sys2Proof.Beam) : ∀ (s : State), l.Nodup →
    ∀ c, (forEach l s fun s b => s.modArb b f).arb.beams[c] = if c ∈ l then f s.arb.beams[c] else s.arb.beams[c] := by
  induction l with
  | nil => exact fun s _ c => (if_neg List.not_mem_nil).symm
  | cons b l ih =>
    intro s hl c
    obtain ⟨hb, hl⟩ := List.nodup_cons.1 hl
    refine (ih (s.modArb b f) hl c).trans ?_
    have hv : (s.modArb b f).arb.beams[c] = if c = b then f s.arb.beams[c] else s.arb.beams[c] := vmod_get ..
    rw [hv]
    by_cases hc : c = b
    · subst hc
      simp [hb]
    · simp [hc]

/-- Energy exposed to a plot that is read first (R61, R290). -/
theorem State.expose_eq {i d : Nat} {te : BitVec 32} : s.expose i d te.toNat =
    (s.bedFix (· == i)).setPlot i { s.plot i with
      e := BitVec.ofNat 16 (min (decayed s.halfLife (s.plot i).e.toNat (s.plot i).tLast.toNat te.toNat + d) 65535)
      tLast := te, dirty := true } := by
  unfold State.expose State.modPlot State.eAt
  rw [BitVec.ofNat_toNat, BitVec.setWidth_eq]
  rfl

/-- Settles O33: requests, answers, timeouts, remote entries, renewals, energy, geometry, and a peer without a route. -/
theorem peersComplete : Obligations.PeersComplete := by
  unfold Obligations.PeersComplete
  intro s b p node id reason m x y d te ox oy pitch
  refine ⟨fun hon => ?req, fun c t hon ht hp ha hg => ?answer, fun x hon ht hp hx => State.peerAnswer_late hon ht hp hx,
    fun t ht hw => ?timeout, fun r hr => ⟨fun hon => ?cancel, fun hon => ?release, fun hd => ?expiry, fun hon => ?renew⟩, rfl,
    fun hon hp => ?ack, fun hon hm => ?energy, fun hon hp hne => ?geomBad, fun hon hp h1 h2 h3 => ?geomGood,
    fun h => congrArg Host.Outcome.next (State.ask_off h), fun h => congrArg Host.Outcome.next (State.ask_off h),
    fun h => congrArg Host.Outcome.next (State.ask_off h), fun h => congrArg Host.Outcome.next (State.ask_off h),
    fun h => congrArg Host.Outcome.next (State.ask_off h), fun h => congrArg Host.Outcome.next (State.ask_off h),
    fun h => congrArg Host.Outcome.next (State.ask_off h), fun g k h => congrArg Host.Outcome.next (State.ask_off h),
    fun t ht he hw hs => ?lost⟩
  case req =>
    exact ⟨_, congrArg Host.Outcome.next (State.ask_on hon), State.joinWindow_reads⟩
  case answer =>
    have hx (grant : Bool) (why : BitVec 8) := State.peerAnswer_first (grant := grant) (why := why) hon ht hp ha hg
    have hall (l : List Peer) : ((t.asked.all fun q => l.contains q) = true) = ∀ k, k ∈ t.asked → k ∈ l := by simp
    refine ⟨fun h hs => (hx true 0).trans ?_, fun h hs => (hx true 0).trans ?_, fun h => (hx true 0).trans ?_, hx false _⟩
    · dsimp only
      rw [if_pos rfl, if_pos ((hall _).symm ▸ h), if_neg hs]
    · dsimp only
      rw [if_pos rfl, if_pos ((hall _).symm ▸ h), if_pos hs]
    · dsimp only
      rw [if_pos rfl, if_neg ((hall _).symm ▸ h)]
  case timeout =>
    show execPeerTimeout b s = _
    unfold execPeerTimeout
    rw [ht]
    dsimp only
    rw [if_pos hw]
  case cancel => exact ⟨_, congrArg Host.Outcome.next (State.ask_on hon), State.freeRemote_found hr⟩
  case release => exact ⟨_, congrArg Host.Outcome.next (State.ask_on hon), State.freeRemote_found hr⟩
  case expiry =>
    refine ⟨s.freeRemote node id, ?_, State.freeRemote_found hr⟩
    show execRemoteEntryExpiry node id s = _
    unfold execRemoteEntryExpiry
    rw [hr]
    dsimp only
    rw [if_pos hd]
  case renew =>
    show execPeerRenewReceive node id s = _
    unfold execPeerRenewReceive
    rw [State.ask_on hon, State.touch_arb, hr]
    rfl
  case ack =>
    let f (a : ArbBeam) : ArbBeam := a.modLeases fun l => if l.reqId = id then
      { l with peers := l.peers.map fun q => if q.1 = p then ackOldest q else q } else l
    refine ⟨forEach allBeams (s.touch domArb) fun s b => s.modArb b f, ?_, ?_, fun c => ?_⟩
    · show execPeerRenewAckReceive node id s = _
      unfold execPeerRenewAckReceive
      rw [State.ask_on hon, show (s.touch domArb).peerOf node = some p from hp]
    · exact State.ArbOnly.forEach (fun _ _ h => h.modArb) (State.ArbOnly.refl)
    · rw [State.forEach_modArb_beams allBeams _ (List.nodup_finRange 16), if_pos (show c ∈ allBeams from List.mem_finRange c)]
      rfl
  case energy =>
    show execPeerEnergyReceive node x y d te s = _
    unfold execPeerEnergyReceive
    rw [State.ask_on hon]
    have hm' : (s.touch domArb).onMap ((s.touch domArb).plotX x.toInt) ((s.touch domArb).plotY y.toInt) = true := hm
    dsimp only
    rw [if_pos hm', State.expose_eq]
    rfl
  case geomBad =>
    show execPeerGeomReceive node ox oy pitch s = _
    unfold execPeerGeomReceive
    rw [State.ask_on hon, show (s.touch domArb).peerOf node = some p from hp]
    dsimp only
    rw [if_neg fun h => hne h.1]
  case geomGood =>
    show execPeerGeomReceive node ox oy pitch s = _
    unfold execPeerGeomReceive
    rw [State.ask_on hon, show (s.touch domArb).peerOf node = some p from hp]
    dsimp only
    rw [if_pos ⟨h1, h2, h3⟩]
  case lost =>
    show execPeerLost p s = _
    unfold execPeerLost
    rw [ht]
    dsimp only
    rw [he, hw, if_pos (by simpa using hs)]

end Sys2Proof.Machine
end

section
/-! SUPPORT. The layer: its states, its commands and its own transitions (R83, R86-R92). -/

namespace Sys2Proof.Machine

variable {r s t : State} {b : Sys2Proof.Beam} {n k : Nat} {f : Fld}

/-! ### Canonical registers -/

theorem State.Canon.kept (h : s.Canon) : s.Kept s.pending := ⟨rfl, h⟩

theorem State.Kept.regsWf {q : List Instr} (h : s.Kept q) : tabWf regDefault s.regs = true := h.2.1

/-- No event from 126 on sets an XK interrupt bit (R633). -/
theorem xkBitOf_high (hn : 126 ≤ n) : xkBitOf n k = none := by
  unfold xkBitOf
  rw [if_neg (by omega), if_neg (by omega), if_neg (by omega), if_neg (by omega)]

/-! ### The state of R86 -/

/-- What entering a state of the layer leaves alone. -/
theorem State.enterLy_rest : ∃ m l, s.enterLy n = { s with regs := m, layer := l } := by
  unfold State.enterLy
  dsimp only
  split_ifs <;> exact ⟨_, _, rfl⟩

theorem State.enterLy_wf (hs : tabWf regDefault s.regs = true) : tabWf regDefault (s.enterLy n).regs = true := by
  unfold State.enterLy
  dsimp only
  split_ifs
  · exact State.put_wf (State.put_wf hs)
  · exact State.put_wf (State.put_wf hs)
  · exact State.put_wf hs
  · exact State.put_wf hs

/-- The registers behind an entry into a state. -/
theorem State.enterLy_regs : (s.enterLy n).regs =
    if n = lyIDLE then ((s.setLy n).setFlag F.HOST_LAYER_STATE_CLOSED false).regs else (s.setLy n).regs := by
  unfold State.enterLy
  dsimp only
  split_ifs <;> rfl

/-- Only the state and CLOSED change in the registers. -/
theorem State.enterLy_get (hs : tabWf regDefault s.regs = true) (hf : f.ok) (ha : f.addr ≠ 0xF00A200C) : (s.enterLy n).get f = s.get f := by
  have h1 : (s.setLy n).get f = s.get f := State.get_put_apart ⟨by decide, by decide⟩ hf (.inl (Ne.symm ha)) hs
  by_cases hn : n = lyIDLE
  · rw [State.get_congr (s := (s.setLy n).setFlag F.HOST_LAYER_STATE_CLOSED false) (by rw [State.enterLy_regs, if_pos hn]), ← h1]
    exact State.get_put_apart ⟨by decide, by decide⟩ hf (.inl (Ne.symm ha)) (State.put_wf hs)
  · rw [State.get_congr (s := s.setLy n) (by rw [State.enterLy_regs, if_neg hn]), h1]

/-- The layer's state, once it is entered. -/
theorem State.enterLy_lyState (hs : tabWf regDefault s.regs = true) (hn : n < 8) : (s.enterLy n).lyState = n := by
  have h1 : (s.setLy n).get F.HOST_LAYER_STATE_STATE = n :=
    (State.get_put_same ⟨by decide, by decide⟩ hs).trans (Nat.mod_eq_of_lt hn)
  unfold State.lyState
  by_cases h0 : n = lyIDLE
  · rw [State.get_congr (s := (s.setLy n).setFlag F.HOST_LAYER_STATE_CLOSED false) (by rw [State.enterLy_regs, if_pos h0])]
    exact (State.get_put_apart ⟨by decide, by decide⟩ ⟨by decide, by decide⟩ (.inr (by decide)) (State.put_wf hs)).trans h1
  · rw [State.get_congr (s := s.setLy n) (by rw [State.enterLy_regs, if_neg h0]), h1]

theorem State.enterLy_abortOwed (hn : n ≠ 0) : (s.enterLy n).layer.abortOwed = s.layer.abortOwed := by
  unfold State.enterLy
  dsimp only
  rw [if_neg hn]
  split_ifs <;> rfl

/-- IDLE clears CLOSED (R86). -/
theorem State.enterLy_idle_closed (hs : tabWf regDefault s.regs = true) : (s.enterLy 0).flag F.HOST_LAYER_STATE_CLOSED = false := by
  rw [State.flag_congr (s := (s.setLy 0).setFlag F.HOST_LAYER_STATE_CLOSED false) (by rw [State.enterLy_regs, if_pos rfl])]
  exact State.flag_setFlag_same ⟨by decide, by decide⟩ rfl (State.put_wf hs)

theorem State.enterLy_now (hs : tabWf regDefault s.regs = true) : (s.enterLy n).now = s.now := by
  refine State.now_congr ?_ ?_
  · obtain ⟨m, l, h⟩ := State.enterLy_rest (s := s) (n := n)
    rw [h]
  · unfold State.flag
    rw [State.enterLy_get hs ⟨by decide, by decide⟩ (by decide)]

/-- An entry into a state with its event (R86, R528). -/
theorem State.enterLy_raise (hs : tabWf regDefault s.regs = true) (hk : 126 ≤ k) : (s.enterLy n).raise k s.tbLo =
    { s.enterLy n with fired := s.fired ++ [⟨k, BitVec.ofNat 32 (s.get F.HOST_LAYER_BEGIN_LO_T_B_LO), s.now⟩] } := by
  have hf : (s.enterLy n).fired = s.fired := by
    obtain ⟨m, l, h⟩ := State.enterLy_rest (s := s) (n := n)
    rw [h]
  rw [State.raise_eq_fired (xkBitOf_high hk), State.enterLy_now hs, State.tbLo, hf]

/-! ### RESULT (R92) -/

theorem State.layerResult_reads (hs : tabWf regDefault s.regs = true) (hk : k < 16) : (s.layerResult k).get F.HOST_LAYER_CMD_RESULT = k :=
  (State.get_put_same ⟨by decide, by decide⟩ hs).trans (Nat.mod_eq_of_lt hk)

theorem State.layerResult_get (hs : tabWf regDefault s.regs = true) (hf : f.ok) (ha : f.addr ≠ 0xF00A2010) :
    (s.layerResult k).get f = s.get f :=
  State.get_put_apart ⟨by decide, by decide⟩ hf (.inl (Ne.symm ha)) hs

theorem State.layerResult_lyState (hs : tabWf regDefault s.regs = true) : (s.layerResult k).lyState = s.lyState :=
  State.layerResult_get hs ⟨by decide, by decide⟩ (by decide)

/-! ### SCHEDULE and the end of arming (R87-R89) -/

theorem State.put_regs_congr (h : t.regs = s.regs) : (t.put f n).regs = (s.put f n).regs := by
  unfold State.put State.setReg State.reg
  rw [h]

/-- The registers once a layer is armed. -/
theorem State.startArming_regs : ∃ v, s.startArming.regs = ((((((s.setFlag F.BEDMAP_GEOM_BUSY true).setLy 1).setFlag
    F.ARB_STAT_STENCIL_CLIP v).setFlag F.ARB_STAT_REPLAY_BROKEN false).setFlag F.ARB_STAT_REC_OVF false).put F.ARB_STAT_REC_COUNT 0).regs := by
  obtain ⟨u, hu⟩ : ∃ u, State.enterLy { s.setFlag F.BEDMAP_GEOM_BUSY true with bed := { s.bed with foldOwed := true } } 1 = u := ⟨_, rfl⟩
  have hr : u.regs = ((s.setFlag F.BEDMAP_GEOM_BUSY true).setLy 1).regs := by
    rw [← hu, State.enterLy_regs]
    rfl
  refine ⟨decide (31 * u.get F.BEDMAP_PITCH_PITCH < u.get F.ARB_PLUME_CFG_REACH), ?_⟩
  unfold State.startArming
  refine (forEach_reads (fun s => s.regs) (fun s b => ?_) allBeams _).trans ?_
  · rfl
  · subst hu
    exact State.put_regs_congr (State.put_regs_congr (State.put_regs_congr (State.put_regs_congr hr)))

theorem State.startArming_foldOwed : s.startArming.bed.foldOwed = true := by
  unfold State.startArming
  refine (forEach_reads (fun s => s.bed) (fun s b => ?_) allBeams _).symm ▸ ?_
  · rfl
  · obtain ⟨m, l, h⟩ := State.enterLy_rest (s := { s.setFlag F.BEDMAP_GEOM_BUSY true with bed := { s.bed with foldOwed := true } }) (n := 1)
    show (State.enterLy { s.setFlag F.BEDMAP_GEOM_BUSY true with bed := { s.bed with foldOwed := true } } 1).bed.foldOwed = true
    rw [h]

/-- What a SCHEDULE that is accepted leaves (R86, R89, R284). -/
theorem State.startArming_reads (hs : s.Canon) : s.startArming.lyState = 1 ∧ s.startArming.flag F.BEDMAP_GEOM_BUSY = true ∧
    s.startArming.get F.ARB_STAT_REC_COUNT = 0 := by
  obtain ⟨v, hv⟩ := State.startArming_regs (s := s)
  have hw := hs.1
  refine ⟨(State.get_congr hv).trans ?_, (State.flag_congr hv).trans ?_, (State.get_congr hv).trans ?_⟩
  · simp (disch := grind [State.put_wf]) [State.setFlag, State.setLy, State.get_put_self, State.get_put_word]
  · simp (disch := grind [State.put_wf]) [State.flag, State.setFlag, State.setLy, State.get_put_self, State.get_put_word]
  · simp (disch := grind [State.put_wf]) [State.setFlag, State.setLy, State.get_put_self]

/-- SCHEDULE of a device that is no participant (R87), by the checks. -/
theorem State.schedule_eq (hr : s.lyState = 0 → s.role < 2) (hl : s.lyState = 0 → s.longRuns = false ∧ s.holds.supDead = false) :
    exec .schedule s = .next (if s.lyState ≠ 0 then s.layerResult 1 else if s.scheduleCheck = 0 then
      State.layerResult { s.startArming with layer := { s.startArming.layer with
        give := none, since := s.now, reports := [], removed := [], follows := false } } 0 else s.layerResult s.scheduleCheck) := by
  show execSchedule s = _
  unfold execSchedule State.scheduleNow
  by_cases h0 : s.lyState = 0
  · have hi : s.idle = true := by rw [State.idle, h0]; rfl
    obtain ⟨h1, h2⟩ := hl h0
    have h3 := hr h0
    rw [hi, h1, h2, if_neg (by omega), if_neg (by simp), if_neg (not_not.2 h0)]
    by_cases hc : s.scheduleCheck = 0
    · dsimp only
      rw [if_pos hc, if_pos hc, if_pos rfl]
    · dsimp only
      rw [if_neg hc, if_neg hc, if_neg hc]
  · have hi : s.idle = false := by simp [State.idle, h0]
    rw [hi, if_neg (by simp), if_pos (.inl rfl), if_pos h0]
    rfl

/-- The state in which the map clear and the fold have ended (R89). -/
def State.folded (s : State) : State :=
  State.setFlag { s.clearLayerMap.foldBed with bed := { s.clearLayerMap.foldBed.bed with foldOwed := false } } F.BEDMAP_GEOM_BUSY false

theorem State.folded_regs : s.folded.regs = (s.setFlag F.BEDMAP_GEOM_BUSY false).regs := rfl

/-- ARMING_DONE (R56, R89, R90), where nothing is to be cleared first. -/
theorem State.armingDone_eq (hf : s.bed.foldOwed = true) (hc : s.bed.clearOwed = false) (hst : s.lyState = 1 ∨ s.layer.abortOwed = true) :
    exec .armingDone s = .next (if s.layer.abortOwed then
      State.abortNow { s.folded with layer := { s.folded.layer with abortOwed := false } } else s.folded.enterLy 2) := by
  show execArmingDone s = _
  unfold execArmingDone
  rw [if_pos ⟨hf, hc, hst⟩]
  rfl

/-- A layer that is armed (R86, R89). -/
theorem State.folded_armed (hs : s.Canon) : (s.folded.enterLy 2).lyState = 2 ∧ (s.folded.enterLy 2).flag F.BEDMAP_GEOM_BUSY = false ∧
    (s.folded.enterLy 2).bed.foldOwed = false := by
  have hw : tabWf regDefault s.folded.regs = true := State.put_wf hs.1
  refine ⟨State.enterLy_lyState hw (by decide), ?_, ?_⟩
  · unfold State.flag
    rw [State.enterLy_get hw ⟨by decide, by decide⟩ (by decide)]
    exact State.flag_setFlag_same (f := F.BEDMAP_GEOM_BUSY) ⟨by decide, by decide⟩ rfl hs.1
  · obtain ⟨m, l, h⟩ := State.enterLy_rest (s := s.folded) (n := 2)
    rw [h]
    rfl

/-! ### Begin and ends of a layer (R86, R97, R479) -/

/-- The state at T_B before the layer is entered. -/
def State.atBegin (s : State) : State :=
  { s with bed := { s.bed with prevTb := some s.tB }, layer := { s.layer with wasActive := true, saturated := false }
           arb := { s.arb with lastClaim := s.tB } }

theorem State.searchAgain_eq : ∃ a, s.searchAgain = { s with arb := a } :=
  ⟨_, State.ArbOnly.forEach (fun _ _ h => h.modArb) State.ArbOnly.refl⟩

/-- LAYER_BEGIN at T_B (R86, R97). -/
theorem State.layerBegin_due (hs : s.Canon) (hst : s.lyState = 2) (hr : s.reached s.tB = true) : ∃ t, exec .layerBegin s = .next t ∧ t.lyState = 3 ∧
    t.bed.prevTb = some s.tB ∧ t.fired = s.fired ++ [⟨232, BitVec.ofNat 32 (s.get F.HOST_LAYER_BEGIN_LO_T_B_LO), s.now⟩] := by
  have hx : exec .layerBegin s = .next ((s.atBegin.enterLy 3).searchAgain.raise 232 s.tbLo) := by
    show execLayerBegin s = _
    unfold execLayerBegin
    rw [if_pos ⟨hst, hr⟩]
    rfl
  obtain ⟨a, ha⟩ := State.searchAgain_eq (s := s.atBegin.enterLy 3)
  obtain ⟨m, l, h⟩ := State.enterLy_rest (s := s.atBegin) (n := 3)
  have hn : ({ s.atBegin.enterLy 3 with arb := a } : State).now = s.now := State.enterLy_now (s := s.atBegin) hs.1
  refine ⟨_, hx, ?_, ?_, ?_⟩
  · rw [ha, State.raise_eq_fired (xkBitOf_high (by decide))]
    exact State.enterLy_lyState (s := s.atBegin) hs.1 (by decide)
  · rw [ha, State.raise_eq_fired (xkBitOf_high (by decide)), h]
    rfl
  · rw [ha, State.raise_eq_fired (xkBitOf_high (by decide)), hn, h]
    rfl

/-- LAYER_LOCAL_END of a device alone (R86). -/
theorem State.layerLocalEnd_solo (hs : s.Canon) (hst : s.lyState = 3) (hsat : s.layer.saturated = false) (hc : s.flag F.HOST_LAYER_STATE_CLOSED = true)
    (he : s.ringsEmpty = true) (hq : s.laserQuiet = true) (hf : s.beamsFree = true) (hr : s.role = 0) : ∃ t, exec .layerLocalEnd s = .next t ∧ t.lyState = 5 ∧
    t.fired = s.fired ++ [⟨233, BitVec.ofNat 32 (s.get F.HOST_LAYER_BEGIN_LO_T_B_LO), s.now⟩,
      ⟨234, BitVec.ofNat 32 (s.get F.HOST_LAYER_BEGIN_LO_T_B_LO), s.now⟩] := by
  obtain ⟨u, hu⟩ : ∃ u, (s.enterLy 4).raise 233 s.tbLo = u := ⟨_, rfl⟩
  have hu' := (State.enterLy_raise hs.1 (by decide)).symm.trans hu
  have hw : tabWf regDefault u.regs = true := by
    rw [← hu']
    exact State.enterLy_wf hs.1
  have hg {f : Fld} (hf : f.ok) (ha : f.addr ≠ 0xF00A200C) : u.get f = s.get f := by
    rw [← State.enterLy_get (n := 4) hs.1 hf ha, ← hu']
    rfl
  have hn : u.now = s.now := by
    rw [← State.enterLy_now (n := 4) hs.1, ← hu']
    rfl
  have hx : exec .layerLocalEnd s = .next u.enterRecoat := by
    show execLayerLocalEnd s = _
    unfold execLayerLocalEnd
    rw [if_pos ⟨hst, hsat, hc, he, hq, hf⟩, ← hu]
    have hrole : ((s.enterLy 4).raise 233 s.tbLo).role = 0 := by
      rw [hu, State.role, hg ⟨by decide, by decide⟩ (by decide)]
      exact hr
    dsimp only
    rw [if_pos hrole]
  refine ⟨_, hx, ?_, ?_⟩
  · rw [State.enterRecoat, State.enterLy_raise hw (by decide)]
    exact State.enterLy_lyState hw (by decide)
  · rw [State.enterRecoat, State.enterLy_raise hw (by decide), hg ⟨by decide, by decide⟩ (by decide), hn]
    have hfired : u.fired = s.fired ++ [⟨233, BitVec.ofNat 32 (s.get F.HOST_LAYER_BEGIN_LO_T_B_LO), s.now⟩] := by rw [← hu']
    dsimp only
    rw [hfired, List.append_assoc]
    rfl

/-- ABORT_COMPLETE once the beams have stopped and arming has finished (R86). -/
theorem State.abortComplete_done (hs : s.Canon) (hst : s.lyState = 6) (ha : s.layer.abortOwed = false) (hf : s.bed.foldOwed = false)
    (hb : ∀ b, s.stopDone b = true) : ∃ t, exec .abortComplete s = .next t ∧ t.lyState = 0 ∧ t.flag F.HOST_LAYER_STATE_CLOSED = false ∧
    t.fired = s.fired ++ [⟨235, BitVec.ofNat 32 (s.get F.HOST_LAYER_BEGIN_LO_T_B_LO), s.now⟩] := by
  have hx : exec .abortComplete s = .next ((s.enterLy 0).raise 235 s.tbLo) := by
    show execAbortComplete s = _
    unfold execAbortComplete
    rw [if_pos ⟨hst, ha, hf, List.all_eq_true.2 fun b _ => hb b⟩]
  rw [State.enterLy_raise hs.1 (by decide)] at hx
  exact ⟨_, hx, State.enterLy_lyState hs.1 (by decide), State.enterLy_idle_closed hs.1, rfl⟩

/-! ### ABORT (R87, R90) -/

/-- What an abort ends before the layer is in ABORTING (R90). -/
def State.abortSweep (s : State) : State :=
  let s := forEach allBeams s fun s b =>
    let held := s.beam[b].swaths
    let s := s.stopBeam b
    let s := forEach held s fun s w => s.endSwath b w dFAILED
    if held.isEmpty || s.eng[engOf b].active then s else s.toDispatch b
  let s := forEach ((List.range 20).map (· + 32)) s fun s n =>
    let s := forEach (s.heldSlots n) s fun s i =>
      if s.dStatus (s.slotAddr n i) = dQUEUED then (s.setStatus (s.slotAddr n i) dCANCELLED).stampDone (s.slotAddr n i) else s
    s.passFinal n (s.ringSpan n)
  State.setFlag { s with arb := { s.arb with movePend := [], moveRaised := false } } F.ARB_STAT_MOVE_PEND false

theorem State.abortNow_eq : s.abortNow = s.abortSweep.enterLy 6 := rfl

theorem State.abortSweep_kept {q : List Instr} (hs : s.Kept q) : s.abortSweep.Kept q := by
  refine State.setFlag_kept (State.Kept.upd (State.Kept.forEach (fun s n hs => ?_) (State.Kept.forEach (fun s b hs => ?_) hs)))
  · refine State.passFinal_kept (State.Kept.forEach (fun s i hs => ?_) hs)
    exact State.Kept.ite (State.stampDone_kept (State.setStatus_kept hs)) hs
  · have h := State.Kept.forEach (l := s.beam[b].swaths) (fun u w hu => State.endSwath_kept (a1 := b) (a2 := w) (a3 := dFAILED) hu) (State.stopBeam_kept (a1 := b) hs)
    exact State.Kept.ite h (State.toDispatch_kept h)

/-- An abort that is accepted leaves the layer in ABORTING and RESULT 0 (R86, R87, R92). -/
theorem State.abort_reads (hs : s.Canon) (h1 : 1 ≤ s.lyState) (h4 : s.lyState ≤ 4) : ∃ t : State, exec .abort s = .next (t.layerResult 0) ∧
    tabWf regDefault t.regs = true ∧ t.lyState = 6 ∧ (s.lyState = 1 → t.layer.abortOwed = true ∧ t.bed = s.bed) := by
  obtain ⟨u, hu⟩ : ∃ u, (if s.role = 1 then { s with layer := { s.layer with give := some .abort } } else s) = u := ⟨_, rfl⟩
  have hr : u.regs = s.regs ∧ u.bed = s.bed := by
    rw [← hu]
    split_ifs <;> exact ⟨rfl, rfl⟩
  have hk : u.Canon := by
    rw [← hu]
    split_ifs <;> exact hs
  have hly : u.lyState = s.lyState := State.get_congr hr.1
  refine ⟨s.doAbort, ?_, ?_⟩
  · show execAbort s = _
    unfold execAbort
    rw [if_pos ⟨h1, h4⟩]
  · unfold State.doAbort
    rw [hu]
    by_cases h : s.lyState = 1
    · rw [if_pos (hly.trans h)]
      have hw : tabWf regDefault ({ u with layer := { u.layer with abortOwed := true } } : State).regs = true := hk.1
      refine ⟨State.enterLy_wf hw, State.enterLy_lyState hw (by decide), fun _ => ⟨State.enterLy_abortOwed (by decide), ?_⟩⟩
      obtain ⟨m, l, he⟩ := State.enterLy_rest (s := { u with layer := { u.layer with abortOwed := true } }) (n := 6)
      rw [he]
      exact hr.2
    · have hw : tabWf regDefault u.abortSweep.regs = true := (State.abortSweep_kept hk.kept).regsWf
      rw [if_neg fun h' => h (hly.symm.trans h'), State.abortNow_eq]
      exact ⟨State.enterLy_wf hw, State.enterLy_lyState hw (by decide), fun h' => absurd h' h⟩

/-! ### CLOSE, RECOAT_DONE, WAIVE, CANCEL (R74, R83, R87) -/

/-- CLOSE in a state that takes it (R87). -/
theorem State.close_open (hs : s.Canon) (h1 : 1 ≤ s.lyState) (h3 : s.lyState ≤ 3) : ∃ t, exec .close s = .next t ∧
    t = { s with regs := t.regs } ∧ t.flag F.HOST_LAYER_STATE_CLOSED = true ∧ t.lyState = s.lyState ∧ t.get F.HOST_LAYER_CMD_RESULT = 0 := by
  have hx : exec .close s = .next ((s.setFlag F.HOST_LAYER_STATE_CLOSED true).layerResult 0) := by
    show execClose s = _
    unfold execClose
    rw [if_pos ⟨h1, h3⟩]
  have hw : tabWf regDefault (s.setFlag F.HOST_LAYER_STATE_CLOSED true).regs = true := State.put_wf hs.1
  refine ⟨_, hx, rfl, ?_, ?_, State.layerResult_reads hw (by decide)⟩
  · unfold State.flag
    rw [State.layerResult_get hw ⟨by decide, by decide⟩ (by decide)]
    exact State.flag_setFlag_same (f := F.HOST_LAYER_STATE_CLOSED) ⟨by decide, by decide⟩ rfl hs.1
  · rw [State.layerResult_lyState hw]
    exact State.get_put_apart ⟨by decide, by decide⟩ ⟨by decide, by decide⟩ (.inr (by decide)) hs.1

/-- RECOAT_DONE in RECOAT (R87, R479). -/
theorem State.recoatDone_recoat (hs : s.Canon) (hst : s.lyState = 5) : ∃ t, exec .recoatDone s = .next t ∧ t.lyState = 0 ∧
    t.flag F.HOST_LAYER_STATE_CLOSED = false ∧ t.get F.HOST_LAYER_CMD_RESULT = 0 := by
  obtain ⟨u, hu⟩ : ∃ u, (s.enterLy 0).layerResult 0 = u := ⟨_, rfl⟩
  have hx : exec .recoatDone s = .next (if u.role = 1 then { u with layer := { u.layer with give := some .idle } } else u) := by
    show execRecoatDone s = _
    unfold execRecoatDone
    rw [if_pos hst, ← hu]
  have hr : (if u.role = 1 then { u with layer := { u.layer with give := some .idle } } else u).regs = u.regs := by split_ifs <;> rfl
  have hw : tabWf regDefault (s.enterLy 0).regs = true := State.enterLy_wf hs.1
  refine ⟨_, hx, (State.get_congr hr).trans ?_, (State.flag_congr hr).trans ?_, (State.get_congr hr).trans ?_⟩
  · rw [← hu]
    exact (State.layerResult_lyState hw).trans (State.enterLy_lyState hs.1 (by decide))
  · rw [← hu, State.flag, State.layerResult_get hw ⟨by decide, by decide⟩ (by decide)]
    exact State.enterLy_idle_closed hs.1
  · rw [← hu]
    exact State.layerResult_reads hw (by decide)

/-- The done bit of an ID that is set (R74). -/
theorem State.setDone_doneBit (hs : s.Canon) {i : Nat} (hi : i < 4194304) (hd : s.doneBit i = false) : (s.setDone i).doneBit i = true := by
  have hb : (s.setDone i).silo.byte (s.mapBase + i / 8) = s.silo.byte (s.mapBase + i / 8) ||| BitVec.ofNat 8 (2 ^ (i % 8)) := by
    unfold State.setDone State.incSheafDone
    rw [hd, if_neg Bool.false_ne_true]
    dsimp only
    rw [MemR.byte_write_other (MemR.wf_setByte hs.2.1), MemR.byte_setByte_same hs.2.1]
    left
    show s.mapBase + i / 8 < s.mapBase + 0x80000 + 8 * (i / 4096) + 2
    omega
  have hr : (s.setDone i).regs = s.regs := by
    unfold State.setDone
    split_ifs <;> rfl
  have hm : (s.setDone i).mapBase = s.mapBase := congrArg (· * 4096) (State.get_congr hr)
  have hk : 2 ^ (i % 8) < 2 ^ 8 := Nat.pow_lt_pow_right (by decide) (Nat.mod_lt _ (by decide))
  unfold State.doneBit
  rw [hm, hb, BitVec.toNat_or, Nat.testBit_or, BitVec.toNat_ofNat, Nat.mod_eq_of_lt hk, Nat.testBit_two_pow_self, Bool.or_true]

/-- WAIVE while a layer runs or is armed (R74, R87). -/
theorem State.waive_eq {i : BitVec 22} (hst : s.lyState = 2 ∨ s.lyState = 3) : exec (.waive i) s =
    .next (if s.doneBit i.toNat then s.layerResult 5 else ((s.setDone i.toNat).searchAgain).layerResult 0) := by
  show execWaive i s = _
  unfold execWaive
  rw [if_pos hst]

/-- CANCEL of a slot of a beam or glean ring (R83, R87). -/
theorem State.cancel_eq {a : BitVec 22} (hst : s.lyState ≤ 3) (h1 : 32 ≤ a.toNat / 65536) (h2 : a.toNat / 65536 < 52) :
    let n := a.toNat / 65536
    let slot := a.toNat % 65536
    exec (.cancel a) s = .next (if slot ∈ s.heldSlots n ∧ s.dStatus (s.slotAddr n slot) = 0 then
      ((s.finish n slot 8).searchAgain).layerResult 0 else s.layerResult 5) := by
  show execCancel a s = _
  unfold execCancel
  dsimp only
  rw [if_neg (show ¬3 < s.lyState by omega), if_neg (by rw [isWorkRing, decide_eq_true ⟨h1, h2⟩]; simp)]
  simp only [List.contains_iff_mem]

/-- Settles O34: the layer's commands and its own transitions, state by state. -/
theorem layerComplete : Obligations.LayerComplete := by
  unfold Obligations.LayerComplete
  intro s id arg hs
  refine ⟨fun h0 hl hd hr hc => ?schedule, fun h0 hl hd hr hc => ?scheduleBad, fun h0 => ?scheduleState, fun h1 hf hc ha => ?armed, fun h6 hf hc ha => ?aborted,
    fun hc => ?clear, State.layerBegin_due hs, State.layerLocalEnd_solo hs, State.close_open hs, fun h2 h4 => ?abort, fun h1 => ?abortArming,
    State.abortComplete_done hs, State.recoatDone_recoat hs, fun hst hd => ?waive, fun hst hd => ?waived, fun h3 h32 h52 hi hq => ?cancel,
    fun h3 h32 h52 hn => ?cancelNone, fun h5 => ?recoatState, fun h => ?closeState, fun h2 h3 => ?waiveState, fun h => ?abortState, fun h4 => ?cancelState⟩
  case schedule =>
    have hx := State.schedule_eq (fun _ => hr) fun _ => ⟨hl, hd⟩
    rw [if_neg (not_not.2 h0), if_pos hc] at hx
    obtain ⟨h1, h2, h3⟩ := State.startArming_reads hs
    have hw : tabWf regDefault s.startArming.regs = true := (State.startArming_kept hs.kept).regsWf
    have h4 := State.startArming_foldOwed (s := s)
    generalize s.startArming = u at hx hw h1 h2 h3 h4
    generalize hv : ({ u with layer := { u.layer with give := none, since := s.now, reports := [], removed := [], follows := false } } : State) = v at hx
    have hvr : v.regs = u.regs := by rw [← hv]
    have hvw : tabWf regDefault v.regs = true := by rw [hvr]; exact hw
    refine ⟨_, hx, ?_, State.layerResult_reads hvw (by decide), ?_, ?_, ?_⟩
    · rw [State.layerResult_lyState hvw]
      exact (State.get_congr hvr).trans h1
    · rw [State.flag, State.layerResult_get hvw ⟨by decide, by decide⟩ (by decide)]
      exact (State.flag_congr hvr).trans h2
    · rw [← hv]
      exact h4
    · rw [State.layerResult_get hvw ⟨by decide, by decide⟩ (by decide)]
      exact (State.get_congr hvr).trans h3
  case scheduleBad =>
    have hx := State.schedule_eq (fun _ => hr) fun _ => ⟨hl, hd⟩
    rw [if_neg (not_not.2 h0), if_neg hc] at hx
    exact hx
  case scheduleState =>
    have hx := State.schedule_eq (fun h => absurd h h0) fun h => absurd h h0
    rw [if_pos h0] at hx
    exact hx
  case armed =>
    refine ⟨s.folded.enterLy 2, ?_, State.folded_armed hs⟩
    rw [State.armingDone_eq hf hc (.inl h1), ha]
    rfl
  case aborted =>
    rw [State.armingDone_eq hf hc (.inr ha), ha]
    rfl
  case clear =>
    show execArmingDone s = _
    unfold execArmingDone
    rw [if_neg fun h => by rw [hc] at h; exact Bool.noConfusion h.2.1]
  case abort =>
    obtain ⟨t, hx, hw, ht, -⟩ := State.abort_reads hs (Nat.le_of_succ_le h2) h4
    exact ⟨_, hx, (State.layerResult_lyState hw).trans ht, State.layerResult_reads hw (by decide)⟩
  case abortArming =>
    obtain ⟨t, hx, hw, ht, hb⟩ := State.abort_reads hs (Nat.le_of_eq h1.symm) (by omega)
    obtain ⟨ho, hbed⟩ := hb h1
    exact ⟨_, hx, ho, (State.layerResult_lyState hw).trans ht, hbed, State.layerResult_reads hw (by decide)⟩
  case waive =>
    have hw : tabWf regDefault (s.setDone id.toNat).searchAgain.regs = true := (State.searchAgain_kept (State.setDone_kept hs.kept)).regsWf
    have hx := State.waive_eq (i := id) hst
    rw [hd, if_neg Bool.false_ne_true] at hx
    refine ⟨_, hx, ?_, State.layerResult_reads hw (by decide)⟩
    obtain ⟨a, ha⟩ := State.searchAgain_eq (s := s.setDone id.toNat)
    rw [← State.setDone_doneBit hs id.isLt hd]
    unfold State.doneBit State.mapBase
    rw [State.layerResult_get hw ⟨by decide, by decide⟩ (by decide), ha]
    rfl
  case waived =>
    have hx := State.waive_eq (i := id) hst
    rw [hd, if_pos rfl] at hx
    exact ⟨_, hx, rfl, State.layerResult_reads hs.1 (by decide)⟩
  case cancel =>
    rw [State.cancel_eq h3 h32 h52]
    exact congrArg _ (if_pos ⟨hi, hq⟩)
  case cancelNone =>
    rw [State.cancel_eq h3 h32 h52]
    exact congrArg _ (if_neg fun h => hn.elim (fun h' => h' h.1) fun h' => h' h.2)
  case recoatState => exact congrArg Host.Outcome.next (if_neg h5)
  case closeState => exact congrArg Host.Outcome.next (if_neg (by omega))
  case waiveState => exact congrArg Host.Outcome.next (if_neg fun h => h.elim h2 h3)
  case abortState => exact congrArg Host.Outcome.next (if_neg (by omega))
  case cancelState => exact congrArg Host.Outcome.next (if_pos h4)

end Sys2Proof.Machine
end

section
/-! SUPPORT. The bed map and the end of a swath (R56-R65, R74, R208, R311). -/

namespace Sys2Proof.Machine

variable {s t : State} {b : Sys2Proof.Beam}

/-! ### Decay of energy (R60-R62) -/

/-- No entry of the decay table is above 1 in its 16-bit fraction (R60). -/
theorem decayGo_le {f : Nat} : ∀ {k r : Nat}, r ≤ 2 ^ 16 → decayGo f k r ≤ 2 ^ 16
  | 0, _, h => h
  | k + 1, r, h => by
    unfold decayGo
    dsimp only
    refine decayGo_le ?_
    split_ifs with hc
    · have h1 : (2 * (r + 2 ^ k) - 1) ^ 256 ≤ (2 ^ 17) ^ 256 := by
        rw [← Nat.pow_mul, Nat.mul_comm 17]
        exact (Nat.le_mul_of_pos_right _ (Nat.two_pow_pos f)).trans hc
      have h2 : 2 * (r + 2 ^ k) - 1 ≤ 2 ^ 17 := (Nat.pow_le_pow_iff_left (by decide)).1 h1
      omega
    · exact h

theorem decayTable_le (f : Nat) : decayTable f ≤ 2 ^ 16 := decayGo_le (Nat.zero_le _)

theorem decayed_early {half e t0 t : Nat} (h : half = 0 ∨ t ≤ t0) : decayed half e t0 t = e := if_pos h

/-- Nothing is left after sixteen half-lives (R60). -/
theorem decayed_late {half e t0 t : Nat} (hh : 0 < half) (h : t0 + 16 * half ≤ t) : decayed half e t0 t = 0 := by
  have hq : 16 ≤ 256 * (t - t0) / half / 256 := by
    rw [Nat.div_div_eq_div_mul, Nat.le_div_iff_mul_le (by omega)]
    have : 16 * half ≤ t - t0 := by omega
    calc 16 * (half * 256) = 256 * (16 * half) := by ring
      _ ≤ 256 * (t - t0) := Nat.mul_le_mul_left _ this
  unfold decayed
  dsimp only
  rw [if_neg (by omega), if_pos hq]

/-- Energy only falls (R60). -/
theorem decayed_le {half e t0 t : Nat} : decayed half e t0 t ≤ e := by
  unfold decayed
  dsimp only
  split_ifs with h1 h2
  · exact Nat.le_refl e
  · exact Nat.zero_le e
  · generalize 256 * (t - t0) / half = q
    have hd : decayTable (q % 256) ≤ 2 ^ (16 + q / 256) := (decayTable_le _).trans (Nat.pow_le_pow_right (by decide) (Nat.le_add_right _ _))
    have hp := Nat.two_pow_pos (16 + q / 256)
    generalize decayTable (q % 256) = x at hd
    generalize 2 ^ (16 + q / 256) = d at hd hp
    have hm : e * x ≤ e * d := Nat.mul_le_mul_left e hd
    unfold cdivN
    refine Nat.lt_succ_iff.1 ((Nat.div_lt_iff_lt_mul hp).2 ?_)
    rw [Nat.succ_mul]
    omega

/-! ### Clears, reads and ends (R56, R74, R311) -/

/-- BEDMAP_CLEAR_DONE of a clear that is owed (R56, R58). -/
theorem State.bedmapClearDone_owed (hs : s.Canon) (hc : s.bed.clearOwed = true) : ∃ t, exec .bedmapClearDone s = .next t ∧
    t = { s with regs := t.regs, bed := t.bed } ∧ (∀ k, t.plot k = Plot.reset) ∧ t.bed.one = [] ∧ t.bed.bad = [] ∧
    t.bed.clearOwed = false ∧ t.flag F.BEDMAP_GEOM_BUSY = s.bed.foldOwed := by
  have hx : exec .bedmapClearDone s =
      .next ((State.clearBed { s with bed := { s.bed with clearOwed := false } }).setFlag F.BEDMAP_GEOM_BUSY s.bed.foldOwed) := by
    show execBedmapClearDone s = _
    unfold execBedmapClearDone
    rw [if_pos hc]
  refine ⟨_, hx, rfl, fun k => rfl, rfl, rfl, rfl, ?_⟩
  exact State.flag_setFlag_same (s := State.clearBed { s with bed := { s.bed with clearOwed := false } }) (f := F.BEDMAP_GEOM_BUSY)
    ⟨by decide, by decide⟩ rfl hs.1

/-- SWATH_DONE of a beam's oldest swath whose output is over (R74, R81, R82, R192). -/
theorem State.swathDone_due {w : Swath} {rest : List Swath} {x : Int} (hw : s.beam[b].swaths = w :: rest) (hd : w.doneAt = some x)
    (hr : s.reachedEt x = true) :
    let u := ((s.setDone w.hdr.id.toNat).searchAgain).finish w.ring.val w.slot 2
    exec (.swathDone b) s = .next ((u.swathDone b (u.slotAddr w.ring.val w.slot)).modBeam b fun y =>
      { y with swaths := y.swaths.filter fun v => v.hdr.id != w.hdr.id }) := by
  show execSwathDone b s = _
  unfold execSwathDone
  rw [hw]
  dsimp only [List.head?_cons]
  rw [hd]
  dsimp only
  rw [if_pos hr]

/-- Settles O35: clears, exposures, saturation, the read of R311, the end of a swath, and the laws of decay. -/
theorem bedAndSwathsComplete : Obligations.BedAndSwathsComplete := by
  unfold Obligations.BedAndSwathsComplete
  refine ⟨fun s b hs => ⟨State.bedmapClearDone_owed hs, fun hon => ?expose, fun h1 h2 h3 => ?saturate, fun hw hon => ?read,
    fun w rest x => State.swathDone_due⟩, fun s i d te half e t0 t => ⟨rfl, decayed_early, decayed_late, decayed_le⟩⟩
  case expose => exact congrArg Host.Outcome.next (State.askSoon_one hon)
  case saturate => exact congrArg Host.Outcome.next (if_pos ⟨h1, h2, h3⟩)
  case read =>
    have hx : exec (.bedERead b) s = .next ((s.touch domArb).modLoop b fun l => { l with
        bedAt := some s.now
        bedE := if s.onMap (s.pathPlot s.beam[b].traj s.nowEt).1 (s.pathPlot s.beam[b].traj s.nowEt).2 then
          some (s.plotIdx (s.pathPlot s.beam[b].traj s.nowEt).1 (s.pathPlot s.beam[b].traj s.nowEt).2,
            s.eAt (s.plot (s.plotIdx (s.pathPlot s.beam[b].traj s.nowEt).1 (s.pathPlot s.beam[b].traj s.nowEt).2)) s.layerTime) else none }) := by
      show execBedERead b s = _
      unfold execBedERead
      rw [if_neg (by rw [List.isEmpty_iff]; exact hw), State.askSoon_one hon]
      rfl
    refine ⟨_, hx, ?_, ?_⟩
    · exact congrArg LoopSt.bedAt (vmod_same ..)
    · exact congrArg LoopSt.bedE (vmod_same ..)

end Sys2Proof.Machine
end

section
/-! SUPPORT. The time base (R94, R95, R99-R104): an extension written before the first lock does not show. -/

namespace Sys2Proof.Machine

/-- A device before its PLL has locked for the first time, the supervisor pair at work. -/
def beforeLock : State :=
  { State.reset with holds := { State.reset.holds with supHalt := false, supDead := false }, time := { State.reset.time with supDown := false } }

theorem beforeLock_canon : beforeLock.Canon := by
  refine ⟨rfl, rfl, fun e => ?_⟩
  unfold Engine.Ok
  revert e
  decide +kernel

/-- Refutes O37: before the first lock the time reads 0 (R94), so the upper half does not read as EXT_WRITE has set it. -/
theorem not_timeBaseComplete : ¬ Obligations.TimeBaseComplete := by
  unfold Obligations.TimeBaseComplete
  intro h
  obtain ⟨-, hw, -⟩ := h beforeLock 1 (.engine 20) 0 0 beforeLock_canon
  obtain ⟨t, hx, -, hv, -⟩ := hw (by decide +kernel)
  have hl : exec (.extWrite 1) beforeLock = .next (((beforeLock.modTime fun t => { t with ext := 1, extWritten := true }).setFlag
      F.TIME_STATUS_PEND_WRAP false).extCheck) := congrArg Host.Outcome.next (if_pos (by decide +kernel))
  have ht := Host.Outcome.next.inj (hx.symm.trans hl)
  rw [ht] at hv
  exact absurd hv (by decide +kernel)

end Sys2Proof.Machine
end

section
/-! SUPPORT. PTP and FarmLink time, message by message (R123-R131). -/

namespace Sys2Proof.Machine

variable {s t : State} {d : Dom} {p : EPort} {m : PtpMsg} {k : FPort} {l : List Octet} {et : BitVec 64} {x : FlTime}

theorem State.modDom_dom {f : DomSt → DomSt} : (s.modDom d f).time.dom[d] = f s.time.dom[d] := vmod_same ..

theorem logInterval_zero : logInterval 0 = 1000000000 := by decide

theorem logInterval_one : logInterval 1 = 2000000000 := by decide

/-! ### Messages received (R123-R126, R131) -/

/-- A message of the versions R123 names, of a domain of the device, on a port that carries PTP. -/
theorem State.ptpTake_found {n : BitVec 7} {v : Nat} {w : BitVec 4} {f : Dom → State} (hg : s.portGig p = true) (hv : v = 2) (hw : w.toNat ≤ 1)
    (hd : s.ptpDom p n = some d) : s.ptpTake p n v w f = f d := by
  unfold State.ptpTake
  rw [if_pos ⟨hg, decide_eq_true ⟨hv, hw⟩⟩, hd]

/-- A port that is not UP at 1000 Mb/s takes none (R121, R124). -/
theorem State.ptpTake_slow {n : BitVec 7} {v : Nat} {w : BitVec 4} {f : Dom → State} (hg : s.portGig p = false) :
    s.ptpTake p n v w f = s.ptpDrop := by
  unfold State.ptpTake
  rw [if_neg]
  rw [hg]
  exact fun h => Bool.noConfusion h.1

section
variable (hg : s.portGig p = true)
include hg

/-- An Announce that is newer than the one kept (R125, R131). -/
theorem State.announce_fresh {a : PtpAnnounce} (hv : a.version = 2) (hw : a.minor.toNat ≤ 1) (hd : s.ptpDom p a.domainNum = some d)
    (hu : a.source.toNat / 65536 ≠ Config.uid.toNat) (hs : a.steps.toNat < 255)
    (hf : ∀ f, (s.time.dom[d].foreign.find? fun f => decide (f.a.source = a.source)) = some f → later 16 a.seqId.toNat f.a.seqId.toNat = true) :
    exec (.ptpAnnounceReceive p a) s = .next (((((s.modDom d fun x => { x with
      foreign := x.foreign.filter (fun f => decide (f.a.source ≠ a.source)) ++
        [⟨a, s.now, (s.time.dom[d].foreign.find? fun f => decide (f.a.source = a.source)).map (·.at_)⟩] }).put
          (F.TIME_DOM_INFO_GM_CLASS d.val) a.gmClass.toNat).bmca d false).degradeCheck d).domChanged d) := by
  show execPtpAnnounceReceive p a s = _
  unfold execPtpAnnounceReceive
  rw [State.ptpTake_found hg hv hw hd, if_neg (by omega)]
  dsimp only
  rw [if_pos]
  split
  · next f h => exact hf f h
  · rfl

variable (hv : m.version = 2) (hw : m.minor.toNat ≤ 1) (hd : s.ptpDom p m.domainNum = some d)
include hv hw hd

theorem State.sync_parent (h2 : m.twoStep = true) (h3 : -4 ≤ m.logInterval.toInt) (h4 : m.logInterval.toInt ≤ 1) (hp : s.fromParent d m = true) :
    exec (.ptpSyncReceive p m) s = .next (s.modDom d fun x => { x with
      pendingSync := some m, syncInterval := logInterval m.logInterval, lastSync := some s.now }) := by
  show execPtpSyncReceive p m s = _
  unfold execPtpSyncReceive
  rw [State.ptpTake_found hg hv hw hd, if_neg, if_pos hp]
  rw [h2]
  rintro (h | h | h)
  · exact Bool.noConfusion h
  · omega
  · omega

theorem State.followUp_parent {y : PtpMsg} (hy : s.time.dom[d].pendingSync = some y) (hp : s.fromParent d m = true) (hq : y.seqId = m.seqId) :
    exec (.ptpFollowUpReceive p m) s = .next ((s.modDom d fun x => { x with pendingSync := none }).measured d
      ((m.carried * 65536 + m.corr + y.corr + s.time.dom[d].pathDelay - s.ptpRx p y.rx).fdiv 65536)) := by
  show execPtpFollowUpReceive p m s = _
  unfold execPtpFollowUpReceive
  rw [State.ptpTake_found hg hv hw hd, hy]
  dsimp only
  rw [hp, decide_eq_true hq, if_pos (Bool.and_self true), State.modDom_dom]
  rfl

theorem State.delayReq_master (hr : s.time.dom[d].role = .master) : exec (.ptpDelayReqReceive p m) s = .next (s.ptpSend d (PtpOut.stamped
    { s.ptpMsg d .delayResp m.seqId 0 with reqPort := some m.source, corr := m.corr } (s.ptpRx p m.rx) (-1))) := by
  show execPtpDelayReqReceive p m s = _
  unfold execPtpDelayReqReceive
  rw [State.ptpTake_found hg hv hw hd, if_pos hr]

theorem State.delayResp_own {t3 : Int} {port : BitVec 80} (ht : s.time.dom[d].delaySent = some t3) (hp : s.fromParent d m = true)
    (hq : m.seqId = s.time.dom[d].delaySeq) (ho : port = s.portIdentity d) :
    exec (.ptpDelayRespReceive p m port) s = .next (s.modDom d fun x => { x with
      delaySent := none, delayInterval := logInterval m.logInterval
      pathDelay := (x.pathDelay + (m.carried * 65536 - m.corr - t3 - x.offset * 65536)).fdiv 2 }) := by
  show execPtpDelayRespReceive p m port s = _
  unfold execPtpDelayRespReceive
  rw [State.ptpTake_found hg hv hw hd, ht]
  dsimp only
  rw [hp, decide_eq_true ⟨hq, ho⟩, if_pos (Bool.and_self true)]

end

/-! ### Messages due, and domains (R125, R131, R132, R137) -/

theorem State.ptpSyncSend_due (h : s.ptpDue d .master s.time.dom[d].lastSent 1000000000 = true) :
    let u := s.modDom d fun x => { x with syncSeq := x.syncSeq + 1, lastSent := some s.now }
    exec (.ptpSyncSend d) s = .next ((u.ptpSend d (u.ptpMsg d .sync s.time.dom[d].syncSeq 0)).ptpSend d
      ((u.ptpMsg d .followUp s.time.dom[d].syncSeq 0).stamped (u.ptpTx (u.domPort d)) 1)) := by
  rw [← logInterval_zero] at h
  exact congrArg Host.Outcome.next (if_pos h)

theorem State.ptpAnnounceSend_due (h : s.ptpDue d .master s.time.dom[d].lastAnnounceSent 2000000000 = true) :
    exec (.ptpAnnounceSend d) s = .next
      ((s.modDom d fun x => { x with announceSeq := x.announceSeq + 1, lastAnnounceSent := some s.now }).ptpSend d
        { s.ptpMsg d .announce s.time.dom[d].announceSeq 1 with data := some { s.ownData d with seqId := s.time.dom[d].announceSeq } }) := by
  rw [← logInterval_one] at h
  exact congrArg Host.Outcome.next (if_pos h)

theorem State.announceReceiptTimeout_master {f : Foreign} (h1 : s.get (F.TIME_DOM_CFG_SRC d.val) = 1) (hf : s.time.dom[d].master = some f)
    (he : s.elapsed f.at_ (3 * logInterval f.a.logInterval) = true) :
    exec (.announceReceiptTimeout d) s = .next ((((s.modDom d fun x => { x with
      foreign := x.foreign.filter fun f => !s.elapsed f.at_ (3 * logInterval f.a.logInterval) }).bmca d true).degradeCheck d).domChanged d) := by
  show execAnnounceReceiptTimeout d s = _
  unfold execAnnounceReceiptTimeout
  dsimp only
  rw [if_pos]
  rw [hf, h1]
  exact he

theorem State.domainLoss_missing (hv : s.domValid d = true)
    (hm : s.missing s.time.dom[d].lastSync (if s.get (F.TIME_DOM_CFG_SRC d.val) = 2 then 125000 else s.time.dom[d].syncInterval) = true) :
    exec (.domainLoss d) s = .next ((((s.setFlag (F.TIME_DOM_CFG_VALID d.val) false).setFlag (F.TIME_DOM_CFG_LOST d.val) true).raise 114 d.val).domChanged d) := by
  show execDomainLoss d s = _
  unfold execDomainLoss
  dsimp only
  rw [hm, hv, Bool.true_or, if_pos (Bool.and_self true), State.loseDomain, hv, if_pos rfl]

theorem State.domainRevert_good {n : Nat} (h1 : s.flag F.TIME_CTRL_REVERT = true) (h2 : s.timeFree = false) (h3 : s.activeDom = 1) (h4 : s.domGood 0 = true)
    (h5 : s.time.dom[(0 : Dom)].goodSince = some n) (h6 : s.after (some n) 60000000000 = true) : exec .domainRevert s = .next (s.switchDom 0) := by
  show execDomainRevert s = _
  unfold execDomainRevert
  rw [if_pos]
  rw [h1, h2, h3, h4, h5, h6]
  rfl

/-- A write of TIME_DOM_CFG (R137), by what it changes. -/
theorem State.timeDomCfgWrite_eq {who : Reader} {v : BitVec 32} :
    let w := s.plainWrite (R.TIME_DOM_CFG d.val) (s.supView who) v
    let same := w.get (F.TIME_DOM_CFG_SRC d.val) = s.get (F.TIME_DOM_CFG_SRC d.val) ∧
      w.get (F.TIME_DOM_CFG_PORT d.val) = s.get (F.TIME_DOM_CFG_PORT d.val) ∧
      w.get (F.TIME_DOM_CFG_DOMAIN_NUM d.val) = s.get (F.TIME_DOM_CFG_DOMAIN_NUM d.val)
    let leaves := s.time.dom[d].role = .master ∧ w.flag (F.TIME_DOM_CFG_MASTER_CAP d.val) = false
    (same → ¬leaves → exec (.timeDomCfgWrite who d v) s = .next w) ∧
    (same → leaves → exec (.timeDomCfgWrite who d v) s = .next (w.modDom d fun x => { x with role := .listening, since := s.now })) ∧
    (¬same → exec (.timeDomCfgWrite who d v) s = .next
      ((((((w.modDom d fun x => { since := s.now, offset := x.offset, slewed := x.slewed }).put (F.TIME_DOM_INFO_GM_CLASS d.val) 0xFF).put
        (F.TIME_DOM_INFO_HOPS d.val) 0).put (F.TIME_DOM_INFO_RMS_OFS d.val) 0).setFlag (F.TIME_DOM_CFG_DEGRADED d.val) false).loseDomain d)) := by
  intro w same leaves
  have hk : ((w.get (F.TIME_DOM_CFG_SRC d.val), w.get (F.TIME_DOM_CFG_PORT d.val), w.get (F.TIME_DOM_CFG_DOMAIN_NUM d.val)) =
      (s.get (F.TIME_DOM_CFG_SRC d.val), s.get (F.TIME_DOM_CFG_PORT d.val), s.get (F.TIME_DOM_CFG_DOMAIN_NUM d.val))) ↔ same := by
    rw [Prod.mk.injEq, Prod.mk.injEq]
  refine ⟨fun hs hl => ?_, fun hs hl => ?_, fun hs => ?_⟩
  · exact congrArg Host.Outcome.next ((if_pos (hk.2 hs)).trans (if_neg hl))
  · exact congrArg Host.Outcome.next ((if_pos (hk.2 hs)).trans (if_pos hl))
  · exact congrArg Host.Outcome.next (if_neg fun h => hs (hk.1 h))

/-! ### FarmLink time (R127-R130) -/

/-- FL_SYNC_SEND of the time root (R127, R129). -/
theorem State.flSyncSend_due (h1 : s.fabOn = true) (h2 : s.holder = true) (h3 : s.after s.time.fl.lastSync 125000 = true) :
    let f := s.time.fl
    let st := s.get F.TIME_STATUS_STATE
    let flags := (if s.flag F.TIME_STATUS_HOLDOVER then 1 else 0) + if st = 1 ∨ st = 2 then 2 else 0
    exec .flSyncSend s = .next (forEach (List.finRange 8)
      (s.modFl fun f => { f with seq := f.seq + 1, lastSync := some s.now, heard := some (BitVec.ofNat 32 s.keyGen, f.seq + 1) }) fun r k =>
        if r.portUp k then
          r.flTimeSend k 1 ⟨0, r.rootNode, BitVec.ofNat 8 flags, BitVec.ofNat 32 r.keyGen, f.seq + 1, (etOf (r.flTx k)).1,
            BitVec.ofNat 64 (wrap 64 (etOf (r.flTx k)).2)⟩
        else r) := by
  have hfl : (if s.flag F.TIME_STATUS_HOLDOVER then 1 else 0) + (if s.get F.TIME_STATUS_STATE = 1 ∨ s.get F.TIME_STATUS_STATE = 2 then 2 else 0) =
      b2n (s.flag F.TIME_STATUS_HOLDOVER) + 2 * b2n (s.get F.TIME_STATUS_STATE == 1 || s.get F.TIME_STATUS_STATE == 2) := by
    simp [b2n]
  dsimp only
  rw [hfl]
  exact congrArg Host.Outcome.next (if_pos (by rw [h1, h2, h3]; rfl))

/-- A SYNC is new where it is the first, or of a later KEY_GEN, or later within one (R130). -/
theorem State.syncNew_of (h : ∀ g q, s.time.fl.heard = some (g, q) →
    later 32 x.keyGen.toNat g.toNat = true ∨ x.keyGen = g ∧ later 32 x.seq.toNat q.toNat = true) : s.syncNew x = true := by
  unfold State.syncNew
  split
  · rfl
  · next g q hq =>
    rw [Bool.or_eq_true, Bool.and_eq_true, decide_eq_true_eq]
    exact h g q hq

/-- FL_SYNC_RECEIVE of a new SYNC on the port towards the root (R127, R130). -/
theorem State.flSyncReceive_new (hl : flTimeOf 1 l = some x) (h1 : s.fabOn = true) (h2 : s.holder = false) (h3 : s.portUp k = true)
    (h4 : s.rootPort = some k) (h5 : s.syncNew x = true) :
    let arr := s.flRx k et
    let corr := x.corr.toInt + s.time.fl.delay[k]
    exec (.flSyncReceive k ⟨l, et⟩) s = .next (forEach (List.finRange 8)
      (forEach [(0 : Dom), 1] (s.modFl fun f => { f with heard := some (x.keyGen, x.seq) }) fun r d => r.syncDomain d x arr corr) fun r j =>
        if r.portUp j = true ∧ j ≠ k then
          r.flTimeSend j 1 { x with hops := x.hops + 1, corr := BitVec.ofNat 64 (wrap 64 (corr + ps16 (r.flTx j - arr))) }
        else r) := by
  show execFlSyncReceive k ⟨l, et⟩ s = _
  unfold execFlSyncReceive
  dsimp only
  rw [hl]
  dsimp only
  rw [if_pos]
  rw [h1, h2, h3, h5, decide_eq_true h4]
  rfl

theorem State.flDelayReqReceive_up (hl : flTimeOf 2 l = some x) (h1 : s.fabOn = true) (h3 : s.portUp k = true) :
    exec (.flDelayReqReceive k ⟨l, et⟩) s =
      .next (s.flTimeSend k 3 (s.delayMsg x.seq (etOf (s.flRx k et)).1 (ps16 (s.flTx k - s.flRx k et)))) := by
  show execFlDelayReqReceive k ⟨l, et⟩ s = _
  unfold execFlDelayReqReceive
  dsimp only
  rw [hl]
  dsimp only
  rw [h1, h3, if_pos (Bool.and_self true)]

theorem State.flDelayRespReceive_own {t1 : Int} (hl : flTimeOf 3 l = some x) (hr : s.time.fl.reqSent[k] = some (x.seq, t1)) (h3 : s.portUp k = true) :
    exec (.flDelayRespReceive k ⟨l, et⟩) s = .next (s.modFl fun f => { f with
      reqSent := f.reqSent.set k none, delay := f.delay.set k ((ps16 (s.flRx k et - t1) - x.corr.toInt).fdiv 2) }) := by
  show execFlDelayRespReceive k ⟨l, et⟩ s = _
  unfold execFlDelayRespReceive
  dsimp only
  rw [hl, hr]
  dsimp only
  rw [h3, decide_eq_true rfl, if_pos (Bool.and_self true)]

/-- Settles O39: the messages of PTP, the domains, and FarmLink time. -/
theorem ptpAndFarmLinkTimeComplete : Obligations.PtpAndFarmLinkTimeComplete := by
  unfold Obligations.PtpAndFarmLinkTimeComplete
  refine ⟨fun s p d m a port who v => ⟨fun ⟨hg, hv, hw, hd⟩ hu hs hf => State.announce_fresh hg hv hw hd hu hs hf,
    fun ⟨hg, hv, hw, hd⟩ h2 h3 h4 hp => ⟨_, State.sync_parent hg hv hw hd h2 h3 h4 hp, rfl, State.modDom_dom⟩,
    fun y ⟨hg, hv, hw, hd⟩ hy hp hq => State.followUp_parent hg hv hw hd hy hp hq,
    fun ⟨hg, hv, hw, hd⟩ hr => State.delayReq_master hg hv hw hd hr,
    fun t3 ⟨hg, hv, hw, hd⟩ ht hp hq ho => ⟨_, State.delayResp_own hg hv hw hd ht hp hq ho, rfl, State.modDom_dom⟩,
    fun hg => ⟨_, congrArg Host.Outcome.next (State.ptpTake_slow hg), rfl⟩, State.ptpSyncSend_due, State.ptpAnnounceSend_due,
    fun h => congrArg Host.Outcome.next (if_pos h), fun o ho => if_neg (Nat.not_lt.2 ho), fun f => State.announceReceiptTimeout_master,
    State.domainLoss_missing, fun n => State.domainRevert_good, State.timeDomCfgWrite_eq⟩,
    fun s k l m et => ⟨State.flSyncSend_due, fun hl h1 h2 h3 h4 h5 => State.flSyncReceive_new hl h1 h2 h3 h4 (State.syncNew_of h5),
    fun d hd => if_neg hd, fun h1 h2 h3 => congrArg Host.Outcome.next (if_pos ?_), State.flDelayReqReceive_up, fun q t1 hl hr h3 hq => ?resp, fun n type hn => ?send⟩⟩
  · rw [h1, h2, h3]
    rfl
  case resp =>
    subst hq
    exact ⟨_, State.flDelayRespReceive_own hl hr h3, rfl, Vector.getElem_set_self _, Vector.getElem_set_self _⟩
  case send =>
    unfold State.flTimeSend
    rw [hn]

end Sys2Proof.Machine
end

section
/-! SUPPORT. The commands of an axis (R385, R387, R392, R394). -/

namespace Sys2Proof.Machine

variable {s t : State} {a : Axis} {c : AxCmd} {arm : Bool} {i : Instr} {n : Nat}

/-- The state in which command c of axis a is armed (R392). -/
def State.axArmed (s : State) (a : Axis) (c : AxCmd) : State :=
  ((s.modAxis a fun x => { x with armed := some c }).setAxState a axARMED).axResult a 0

theorem State.axArmed_reads (hs : s.Canon) : (s.axArmed a c).axState a = axARMED ∧ (s.axArmed a c).axes[a].armed = some c ∧
    (s.axArmed a c).get (F.AX_CMD_RESULT a.val) = 0 := by
  have hw := hs.1
  refine ⟨?_, congrArg AxisSt.armed (vmod_same ..), ?_⟩
  · simp (disch := grind [State.put_wf]) [State.axArmed, State.axState, State.setAxState, State.axResult, State.modAxis, State.get_put_self,
      State.get_put_word]
    decide
  · simp (disch := grind [State.put_wf]) [State.axArmed, State.setAxState, State.axResult, State.modAxis, State.get_put_self]

/-- s is r but for registers and axes. -/
def State.AxesOnly (r s : State) : Prop := ∃ m x, s = { r with regs := m, axes := x }

variable {r : State}

theorem State.AxesOnly.refl : s.AxesOnly s := ⟨_, _, rfl⟩

theorem State.AxesOnly.put {f : Fld} (h : r.AxesOnly s) : r.AxesOnly (s.put f n) := by
  obtain ⟨m, x, rfl⟩ := h
  exact ⟨_, x, rfl⟩

theorem State.AxesOnly.modAxis {g : AxisSt → AxisSt} (h : r.AxesOnly s) : r.AxesOnly (s.modAxis a g) := by
  obtain ⟨m, x, rfl⟩ := h
  exact ⟨m, _, rfl⟩

theorem State.AxesOnly.eq (h : r.AxesOnly s) : s = { r with regs := s.regs, axes := s.axes } := by
  obtain ⟨m, x, rfl⟩ := h
  rfl

theorem State.axArmed_rest : s.axArmed a c = { s with regs := (s.axArmed a c).regs, axes := (s.axArmed a c).axes } :=
  State.AxesOnly.eq (.put (.put (.modAxis .refl)))

/-- What a row of AX_CMD says of command c (R394), where its instruction gives it. -/
theorem State.axGive_row (hs : s.Canon) {cmd : Nat} (hc : c = ⟨cmd, s.int (F.AX_TARGET_TARGET a.val), if cmd = 2 then s.axBase a else none⟩)
    (hi : exec i s = .next (s.axCommand a cmd arm)) :
    (s.axCheck a c arm ≠ 0 → exec i s = .next (s.put (F.AX_CMD_RESULT a.val) (s.axCheck a c arm))) ∧
    (s.axCheck a c arm = 0 → arm = false → exec i s = .next ((s.axAct a c).axPump a)) ∧
    (s.axCheck a c arm = 0 → arm = true → ∃ t, exec i s = .next t ∧ t = { s with regs := t.regs, axes := t.axes } ∧
      t.axState a = axARMED ∧ t.axes[a].armed = some c ∧ t.get (F.AX_CMD_RESULT a.val) = 0) := by
  have hx : exec i s = .next (if s.axCheck a c arm ≠ 0 then s.axResult a (s.axCheck a c arm)
      else if arm then s.axArmed a c
      else (s.axAct a c).axPump a) := by
    rw [hi]
    unfold State.axCommand State.axGive
    dsimp only
    rw [← hc]
    rfl
  refine ⟨fun h => ?_, fun h ha => ?_, fun h ha => ?_⟩
  · rw [hx, if_pos h]
    rfl
  · rw [hx, if_neg (not_not.2 h), ha, if_neg Bool.false_ne_true]
  · rw [if_neg (not_not.2 h), if_pos ha] at hx
    exact ⟨_, hx, State.axArmed_rest, State.axArmed_reads hs⟩

/-- Settles O42: the seven commands, what refuses one, and AX_GO. -/
theorem axisCommandsComplete : Obligations.AxisCommandsComplete := by
  unfold Obligations.AxisCommandsComplete
  intro s a arm mask hs
  refine ⟨State.axGive_row hs rfl rfl, State.axGive_row hs rfl rfl, State.axGive_row hs rfl rfl, State.axGive_row hs rfl rfl, State.axGive_row hs rfl rfl,
    State.axGive_row hs rfl rfl, State.axGive_row hs rfl rfl, fun c hk h5 => if_pos ⟨hk, h5⟩, fun c hk hb h4 h5 => ?_, rfl, fun c hc ha => ?_, fun ha => ?_⟩
  · unfold State.axCheck
    rw [hk, if_neg (by simp), if_pos ⟨hb, h4, h5⟩]
  · unfold State.axGo
    rw [hc]
    dsimp only
    rw [if_pos ha]
  · unfold State.axGo
    split
    · rw [if_neg ha]
    · rfl

end Sys2Proof.Machine
end

section
/-! SUPPORT. Axes in motion: speeds, ends, limits, encoders, bridge frames, the key (R383, R384, R388, R395-R409, R412). -/

namespace Sys2Proof.Machine

variable {s t u r : State} {a : Axis} {v : BitVec 32} {n : Nat}

/-! ### Speed, acceleration and the end of a motion (R388, R395, R396) -/

/-- A new MAX_SPEED by the state of the axis (R395). -/
theorem State.axMaxSpeedWrite_cases :
    let w := s.plainWrite (R.AX_MAX_SPEED a.val) false v
    (w.axState a ≠ axMOVE → w.axState a ≠ axVELOCITY → exec (.axMaxSpeedWrite a v) s = .next w) ∧
    (w.axState a = axVELOCITY → s.axes[a].leave = false → exec (.axMaxSpeedWrite a v) s = .next ((w.axVel a w.axNow w.axes[a].target).axPump a)) ∧
    (w.axState a = axMOVE → exec (.axMaxSpeedWrite a v) s =
      let r := w.axAt a w.axNow
      let tgt := w.axes[a].target * axUnit
      let u := w.showCap a (w.get (F.AX_MAX_SPEED_MAX_SPEED a.val))
      .next ((u.axRun a u.axNow (planTake u.axNow r.1 r.2 tgt (u.axVmax a) u.axes[a].acc (u.axGrid a)) tgt).axPump a)) := by
  intro w
  have hx : exec (.axMaxSpeedWrite a v) s = .next (s.axSpeedWrite a v) := rfl
  unfold State.axSpeedWrite at hx
  refine ⟨fun h1 h2 => ?_, fun h1 h2 => ?_, fun h1 => ?_⟩
  · exact hx.trans (congrArg Host.Outcome.next ((if_neg h1).trans (if_neg fun h => h2 h.1)))
  · refine hx.trans (congrArg Host.Outcome.next ((if_neg ?_).trans (if_pos ⟨h1, h2⟩)))
    intro h
    exact absurd (h1.symm.trans h) (by decide)
  · exact hx.trans (congrArg Host.Outcome.next (if_pos h1))

/-- A new ACCEL at rest (R396). -/
theorem State.axAccel_idle (h : u.axState a = axIDLE) : u.axAccel a = u.modAxis a fun x => { x with acc := u.get (F.AX_ACCEL_ACCEL a.val) } := by
  unfold State.axAccel
  dsimp only
  rw [h, if_neg (by decide), if_neg (by rintro ⟨h, -⟩; exact absurd h (by decide)), if_pos (.inl rfl)]

/-- The state in which a motion of axis a has ended, before what is pending (R388, R412). -/
def State.axRested (s : State) (a : Axis) : State :=
  let u := ((s.axFinish a).setAxState a axIDLE).setFlag (F.AX_STAT_SPEED_CAPPED a.val) false
  let p := sgn 32 (wrap 32 (if fineAx a then u.axes[a].rest.fdiv axUnit else u.axes[a].qpos))
  u.modAxis a fun x => { x with
    pieces := [], rest := p * axUnit, qpos := axCount a p, home := none, soft := false, leave := false, restSince := u.now }

/-- MOVE_END of a motion that has ended (R388). -/
theorem State.moveEnd_ended (h1 : s.axMoves a = true) (h2 : s.axEnded a = true) : exec (.moveEnd a) s = .next (match (s.axRested a).axes[a].pend with
    | some c => (((((s.axRested a).setFlag (F.AX_STAT_PEND a.val) false).modAxis a fun x => { x with pend := none }).axStart a c
        ((profEnd s.axes[a].pieces).getD (axTime s.now))).axPump a)
    | none => s.axRested a) := by
  refine congrArg Host.Outcome.next (if_pos ?_)
  rw [h1, h2]
  rfl

/-! ### Limit inputs and encoders (R383, R405, R407, R408) -/

theorem State.limitInput_plain {positive active : Bool} (hh : s.axes[a].home = none) :
    let limit := if positive then F.AX_STAT_LIMP a.val else F.AX_STAT_LIMN a.val
    exec (.limitInput a positive active) s = .next ((s.setFlag limit active).axPump a) := by
  show execLimitInput a positive active s = _
  unfold execLimitInput
  dsimp only
  rw [State.setFlag_axes, hh]

theorem State.limitInput_homing {positive active : Bool} {h : AxHome} (hh : s.axes[a].home = some h) :
    let limit := if positive then F.AX_STAT_LIMP a.val else F.AX_STAT_LIMN a.val
    (s.setFlag limit active).axState a = axHOMING → (s.setFlag limit active).homePositive a = positive →
      exec (.limitInput a positive active) s = .next ((s.setFlag limit active).axSwitch a h active) := by
  intro limit h1 h2
  show execLimitInput a positive active s = _
  unfold execLimitInput
  dsimp only
  rw [State.setFlag_axes, hh]
  dsimp only
  rw [if_pos ⟨h1, h2.symm⟩]

theorem wrap_lt (w : Nat) (x : Int) : wrap w x < 2 ^ w := by
  unfold wrap
  have hp := Nat.two_pow_pos w
  have h := Int.emod_lt_of_pos x (b := ((2 ^ w : Nat) : Int)) (by exact_mod_cast hp)
  have h0 := Int.emod_nonneg x (b := ((2 ^ w : Nat) : Int)) (by exact_mod_cast hp.ne')
  omega

/-- A word counter behind a write of another word's counter. -/
theorem State.get_count_word {f g : Fld} (hs : tabWf regDefault s.regs = true) (hf : f.ok) (hg : g.ok) (ha : f.addr ≠ g.addr) :
    (s.count f).get g = s.get g := by
  unfold State.count
  split_ifs
  · exact State.get_put_apart hf hg (.inl ha) hs
  · rfl

/-- The count register of encoder e. -/
def encReg (e : Fin 2) : Fld := if e.val = 0 then F.AX_ENC_COUNT0_COUNT else F.AX_ENC_COUNT1_COUNT

/-- The state in which encoder e has counted by the quarter turn k (R383). -/
def State.encTurned (s : State) (e : Fin 2) (k : Nat) : State :=
  if k = 1 then s.put (encReg e) (wrap 32 (s.get (encReg e) + 1)) else if k = 3 then s.put (encReg e) (wrap 32 ((s.get (encReg e) : Int) - 1))
  else if k = 2 then s.count F.AX_OUT_ENC_SKIP else s

theorem encReg_ok (e : Fin 2) : (encReg e).ok ∧ (encReg e).hi = 31 ∧ (encReg e).lo = 0 ∧ (encReg e).addr ≠ 0xF007000C := by
  unfold encReg
  split_ifs
  · exact ⟨⟨by decide, by decide⟩, rfl, rfl, by decide⟩
  · exact ⟨⟨by decide, by decide⟩, rfl, rfl, by decide⟩

theorem State.encTurned_count (hs : s.Canon) {e : Fin 2} {k : Nat} : (s.encTurned e k).get (encReg e) =
    if k = 1 then wrap 32 (s.get (encReg e) + 1) else if k = 3 then wrap 32 ((s.get (encReg e) : Int) - 1) else s.get (encReg e) := by
  obtain ⟨hok, hhi, hlo, had⟩ := encReg_ok e
  have hput (x : Int) : (s.put (encReg e) (wrap 32 x)).get (encReg e) = wrap 32 x := by
    rw [State.get_put_same hok hs.1, hhi, hlo]
    exact Nat.mod_eq_of_lt (wrap_lt 32 x)
  unfold State.encTurned
  split_ifs
  · exact hput _
  · exact hput _
  · exact State.get_count_word hs.1 ⟨by decide, by decide⟩ hok (Ne.symm had)
  · rfl

theorem State.encTurned_rest {e : Fin 2} {k : Nat} : ∃ m, s.encTurned e k = { s with regs := m } := by
  unfold State.encTurned State.count
  split_ifs
  · exact ⟨_, rfl⟩
  · exact ⟨_, rfl⟩
  · exact ⟨_, rfl⟩
  · exact ⟨s.regs, rfl⟩
  · exact ⟨s.regs, rfl⟩

/-- ENCODER_EDGE where no index edge is homed to (R383). -/
theorem State.encoderEdge_plain {e : Fin 2} {va vb vz : Bool} (hz : vz = false ∨ s.enc[e].z = true) :
    exec (.encoderEdge e va vb vz) s = .next { s.encTurned e ((quadPlace va vb + 4 - quadPlace s.enc[e].a s.enc[e].b) % 4) with
      enc := s.enc.set e ⟨va, vb, vz⟩ } := by
  obtain ⟨m, hm⟩ := State.encTurned_rest (s := s) (e := e) (k := (quadPlace va vb + 4 - quadPlace s.enc[e].a s.enc[e].b) % 4)
  have hx : exec (.encoderEdge e va vb vz) s = execEncoderEdge e va vb vz s := rfl
  unfold execEncoderEdge at hx
  have hc : (vz && !s.enc[e].z) = false := by
    rcases hz with h | h <;> rw [h] <;> simp
  dsimp only at hx
  rw [hc, if_neg Bool.false_ne_true] at hx
  have hu : ∀ w : State, w = s.encTurned e ((quadPlace va vb + 4 - quadPlace s.enc[e].a s.enc[e].b) % 4) →
      ({ w with enc := w.enc.set e ⟨va, vb, vz⟩ } : State) = { w with enc := s.enc.set e ⟨va, vb, vz⟩ } := by
    rintro w rfl
    rw [hm]
  exact hx.trans (congrArg Host.Outcome.next (hu _ rfl))

/-- ENCODER_CHECK that is due (R408). -/
theorem State.encoderCheck_due (h1 : s.flag (F.AX_STAT_POS_VALID a.val) = true) (h2 : s.get (F.AX_CFG_ENC_SEL a.val) ≠ 0)
    (h3 : ∀ t, s.axes[a].lastCheck = some t → s.past (t + 10000) = true) :
    let u := s.modAxis a fun x => { x with lastCheck := some s.now }
    let err := sgn 32 (wrap 32 ((u.encCount a : Int) - (u.axes[a].encRef + u.encExpect a)))
    let y := (u.setFlag (F.AX_STAT_ENC_ERR a.val) true).axEvent a 6
    exec (.encoderCheck a) s = .next (if u.get (F.AX_ENC_TOL_ENC_TOL a.val) < err.natAbs then
      (if y.flag (F.AX_CFG_ENC_STOP a.val) then (if y.axMoves a then y.axEndNow a else y).setFlag (F.AX_STAT_POS_VALID a.val) false else y) else u) := by
  refine congrArg Host.Outcome.next (if_pos ?_)
  rw [h1, Bool.true_and, Bool.and_eq_true]
  refine ⟨by simpa using h2, ?_⟩
  split
  · next t h => exact h3 t h
  · rfl

/-! ### Fine axes and the key (R402, R403, R409) -/

/-- BRIDGE_FRAME of a new period (R402, R403). -/
theorem State.bridgeFrame_new {f : Fin 2} {start : Nat}
    (hs : (s.now - 1000 * f.val) / (2000 * 2 ^ s.get (F.AX_BR_CFG_BR_PERIOD f.val)) * (2000 * 2 ^ s.get (F.AX_BR_CFG_BR_PERIOD f.val)) + 1000 * f.val = start)
    (ho : 1000 * f.val ≤ s.now) (hr : s.time.running = true) (hl : s.axes[fineOf f].lastFrame ≠ some start) (hk : s.flag F.AX_OUT_KEY_OK = true) :
    let p := (2 * (s.axAt (fineOf f) (axTime (start + 264))).1 + axUnit).fdiv (2 * axUnit)
    exec (.bridgeFrame f) s = .next ((((s.send (.bridge f (s.currents f p).1 (s.currents f p).2 (start + 264))).setAxPos (fineOf f) p).modAxis (fineOf f)
      fun x => { x with lastFrame := some start })) := by
  show execBridgeFrame f s = _
  unfold execBridgeFrame
  dsimp only
  rw [hs, if_neg]
  rintro (h | h | h | h)
  · omega
  · exact hl h
  · rw [hk] at h
    cases h
  · rw [hr] at h
    cases h

/-- A frame sent changes a position and the axis's own state (R402). -/
theorem State.frameSent_rest {o : Out} {p : Int} {g : AxisSt → AxisSt} : ((s.send o).setAxPos a p).modAxis a g =
    { s with regs := (((s.send o).setAxPos a p).modAxis a g).regs, axes := (((s.send o).setAxPos a p).modAxis a g).axes,
             out := (((s.send o).setAxPos a p).modAxis a g).out } := by
  have h : (s.send o).AxesOnly (((s.send o).setAxPos a p).modAxis a g) := .modAxis (.put .refl)
  obtain ⟨m, x, h⟩ := h
  rw [h]
  rfl

/-- Settles O43: speeds, ends, limits, encoders, frames, holds and the loss of the key. -/
theorem axisMotionComplete : Obligations.AxisMotionComplete := by
  unfold Obligations.AxisMotionComplete
  intro s a v positive active va vb vz e f hs
  obtain ⟨w1, w2, w3⟩ := State.axMaxSpeedWrite_cases (s := s) (a := a) (v := v)
  refine ⟨w1, w2, w3, rfl, fun u hu => ⟨_, State.axAccel_idle hu, rfl, congrArg AxisSt.acc (vmod_same ..)⟩, fun h1 h2 => ⟨fun hp => ?_, fun c hp => ?_⟩,
    State.limitInput_plain, fun h => State.limitInput_homing, fun hz => ?encoder, fun h1 h2 h3 => ⟨fun he => ?_, fun he hf => ?_, fun he hf => ?_⟩,
    fun ho hr hl hk => ?bridge, fun h1 h2 => ?hold, fun h1 h2 h3 => ?lost⟩
  · refine (State.moveEnd_ended h1 h2).trans ?_
    rw [show (s.axRested a).axes[a].pend = none from hp]
    rfl
  · refine (State.moveEnd_ended h1 h2).trans ?_
    rw [show (s.axRested a).axes[a].pend = some c from hp]
    rfl
  case encoder =>
    refine ⟨_, State.encoderEdge_plain hz, ?_, Vector.getElem_set_self _, State.encTurned_count hs⟩
    obtain ⟨m, hm⟩ := State.encTurned_rest (s := s) (e := e) (k := (quadPlace va vb + 4 - quadPlace s.enc[e].a s.enc[e].b) % 4)
    rw [hm]
  · exact (State.encoderCheck_due h1 h2 h3).trans (congrArg Host.Outcome.next (if_neg (Nat.not_lt.2 he)))
  · refine (State.encoderCheck_due h1 h2 h3).trans (congrArg Host.Outcome.next ((if_pos he).trans (if_neg ?_)))
    rw [hf]
    exact Bool.false_ne_true
  · exact (State.encoderCheck_due h1 h2 h3).trans (congrArg Host.Outcome.next ((if_pos he).trans (if_pos hf)))
  case bridge =>
    refine ⟨_, State.bridgeFrame_new rfl ho hr hl hk, ?_, congrArg AxisSt.lastFrame (vmod_same ..), rfl⟩
    exact State.frameSent_rest
  case hold =>
    refine ⟨_, congrArg Host.Outcome.next (if_pos ?_), rfl, vmod_same ..⟩
    rw [h1, h2]
    rfl
  case lost =>
    refine congrArg Host.Outcome.next (if_pos ?_)
    rw [h1, h3]
    simpa using h2

end Sys2Proof.Machine
end

section
/-! SUPPORT. The states of a lane: configuration, training, refusals, scans, Ethernet lanes (R418-R439, R449-R452). -/

namespace Sys2Proof.Machine

variable {s t : State} {n : Lane} {who : Reader} {v : BitVec 32} {x : List Octet} {m : TsMsg}

/-! ### Configuration and training (R418, R421, R426-R429) -/

/-- LN_CFG_WRITE to a quad that is ON (R421), by what ENABLE does. -/
theorem State.lnCfgWrite_cases (hon : s.domainOn (lnDomain n) = true) :
    let z := s.touch (lnDomain n)
    let new := s.written (R.LN_CFG n.val) (s.supView who) Access.isRw v
    let t := (z.condWrite (R.LN_CFG n.val) (s.supView who) v (s.lnCfgOk n new) (F.LN_STAT_CFG_ERR n.val)).1
    let was := s.flag (F.LN_CFG_ENABLE n.val)
    let on := t.flag (F.LN_CFG_ENABLE n.val)
    (was = on → exec (.lnCfgWrite who n v) s = .next t) ∧
    (was = false → on = true → exec (.lnCfgWrite who n v) s = .next (t.leaveOff n)) ∧
    (was = true → on = false → s.lnState n ≠ lnRETIRED →
      exec (.lnCfgWrite who n v) s = .next ((z.enterOff n).setReg (R.LN_CFG n.val) (t.reg (R.LN_CFG n.val)))) := by
  intro z new t was on
  have hx : exec (.lnCfgWrite who n v) s = .next (if (was && !on && z.lnState n != lnRETIRED) = true then
      (z.enterOff n).setReg (R.LN_CFG n.val) (t.reg (R.LN_CFG n.val)) else if (!was && on) = true then t.leaveOff n else t) :=
    congrArg Host.Outcome.next (State.ask_on hon)
  refine ⟨fun h => ?_, fun h1 h2 => ?_, fun h1 h2 h3 => ?_⟩
  · rw [hx, if_neg (by rw [h]; simp), if_neg (by rw [h]; simp)]
  · rw [hx, h1, h2]
    rfl
  · rw [hx, h1, h2, if_pos]
    exact bne_iff_ne.2 h3

/-- A TS without error while the lane aligns (R426). -/
theorem State.tsReceive_align (hm : TsMsg.read x = some m) (hl : s.isEth n = false) (hst : s.lnState n = lnALIGN) :
    exec (.tsReceive n ⟨x, false⟩) s = .next (
      let u := s.modLane n fun l => { l with tsRun := l.tsRun + 1, partner := some m }
      if s.lanes[n].tsRun = 7 then u.enterLane n lnTRAIN else u) := by
  have hr : (s.modLane n fun l => { l with tsRun := l.tsRun + 1, partner := some m }).lanes[n].tsRun = s.lanes[n].tsRun + 1 :=
    congrArg LaneSt.tsRun (vmod_same ..)
  have h8 : (s.lanes[n].tsRun + 1 = 8) = (s.lanes[n].tsRun = 7) := by simp
  show execTsReceive n ⟨x, false⟩ s = _
  unfold execTsReceive
  rw [hl, if_neg Bool.false_ne_true]
  dsimp only
  rw [if_neg Bool.false_ne_true, hm]
  show Host.Outcome.next (s.tsTake n m) = _
  unfold State.tsTake
  rw [if_pos hst]
  dsimp only
  rw [hr]
  simp only [h8]

/-- A TS without error while the lane trains (R428, R429). -/
theorem State.tsReceive_train (hm : TsMsg.read x = some m) (hl : s.isEth n = false) (hst : s.lnState n = lnTRAIN) :
    let seen := (s.sendTs n true).modLane n fun l => { l with partner := some m, ts2Tx := l.ts2Tx + 1, ts2Rx := l.ts2Rx + b2n m.two }
    exec (.tsReceive n ⟨x, false⟩) s = .next (if 8 ≤ seen.lanes[n].ts2Tx ∧ 8 ≤ seen.lanes[n].ts2Rx then
      (if seen.refusal n m = 0 then seen.enterLane n lnCHECK else seen.refuse n (seen.refusal n m)) else seen) := by
  show execTsReceive n ⟨x, false⟩ s = _
  unfold execTsReceive
  rw [hl, if_neg Bool.false_ne_true]
  dsimp only
  rw [if_neg Bool.false_ne_true, hm]
  show Host.Outcome.next (s.tsTake n m) = _
  unfold State.tsTake
  rw [if_neg (by rw [hst]; decide), if_pos hst]

/-- Octets that spell no TS (R422, R428). -/
theorem State.tsReceive_none (hm : TsMsg.read x = none) (hl : s.isEth n = false) :
    exec (.tsReceive n ⟨x, false⟩) s = .next (if s.lnState n = lnALIGN then s.modLane n fun l => { l with tsRun := 0 } else s) := by
  show execTsReceive n ⟨x, false⟩ s = _
  unfold execTsReceive
  rw [hl, if_neg Bool.false_ne_true]
  dsimp only
  rw [if_neg Bool.false_ne_true, hm]
  rfl

/-- A TS that holds a code error (R422). -/
theorem State.tsReceive_code (hl : s.isEth n = false) :
    let u := s.codeError n
    exec (.tsReceive n ⟨x, true⟩) s = .next (if u.lnState n = lnALIGN then u.modLane n fun l => { l with tsRun := 0 } else u) := by
  show execTsReceive n ⟨x, true⟩ s = _
  unfold execTsReceive
  rw [hl, if_neg Bool.false_ne_true]
  dsimp only
  rw [if_pos rfl]
  cases TsMsg.read x <;> rfl

/-! ### Scans (R438, R439) -/

/-- The registers of a live scan's margins (R438). -/
def State.scanned (s : State) (n : Lane) (h w : Nat) (low : Bool) : State :=
  (((s.put (F.LN_EYE_H_MARGIN n.val) h).put (F.LN_EYE_V_MARGIN n.val) w).count (F.LN_EYE_SCANS n.val)).setFlag (F.LN_STAT_MARGIN_LOW n.val) low

theorem State.scanned_rest {h w : Nat} {low : Bool} : ∃ r, s.scanned n h w low = { s with regs := r } := by
  unfold State.scanned State.count
  split_ifs <;> exact ⟨_, rfl⟩

section
variable {a h l a' h' l' k : Nat}

theorem State.get_count_bits (hs : tabWf regDefault s.regs = true) (h1 : l ≤ h ∧ h < 32) (h2 : l' ≤ h' ∧ h' < 32) (hd : h < l' ∨ h' < l) :
    (s.count ⟨a, h, l⟩).get ⟨a, h', l'⟩ = s.get ⟨a, h', l'⟩ := by
  unfold State.count
  split_ifs
  · exact State.get_put_bits hs h1 h2 hd
  · rfl

theorem State.get_count_other (hs : tabWf regDefault s.regs = true) (h1 : l ≤ h ∧ h < 32) (h2 : l' ≤ h' ∧ h' < 32) (hd : a ≠ a') :
    (s.count ⟨a, h, l⟩).get ⟨a', h', l'⟩ = s.get ⟨a', h', l'⟩ := by
  unfold State.count
  split_ifs
  · exact State.get_put_word hs h1 h2 hd
  · rfl

theorem State.flag_setFlag_self (hs : tabWf regDefault s.regs = true) (hk : k < 32) {v : Bool} : (s.setFlag ⟨a, k, k⟩ v).flag ⟨a, k, k⟩ = v :=
  State.flag_setFlag_same ⟨Nat.le_refl k, hk⟩ rfl hs

end

theorem State.count_wf {f : Fld} (hs : tabWf regDefault s.regs = true) : tabWf regDefault (s.count f).regs = true := by
  unfold State.count
  split_ifs
  · exact State.put_wf hs
  · exact hs

theorem State.scanned_reads (hs : s.Canon) {h w : Nat} {low : Bool} (hh : h < 64) (hw : w < 64) :
    (s.scanned n h w low).get (F.LN_EYE_H_MARGIN n.val) = h ∧ (s.scanned n h w low).get (F.LN_EYE_V_MARGIN n.val) = w ∧
      (s.scanned n h w low).flag (F.LN_STAT_MARGIN_LOW n.val) = low ∧ (s.scanned n h w low).lnState n = s.lnState n := by
  have h0 := hs.1
  have h1 : tabWf regDefault (s.put (F.LN_EYE_H_MARGIN n.val) h).regs = true := State.put_wf h0
  have h2 : tabWf regDefault ((s.put (F.LN_EYE_H_MARGIN n.val) h).put (F.LN_EYE_V_MARGIN n.val) w).regs = true := State.put_wf h1
  have h3 : tabWf regDefault (((s.put (F.LN_EYE_H_MARGIN n.val) h).put (F.LN_EYE_V_MARGIN n.val) w).count (F.LN_EYE_SCANS n.val)).regs = true :=
    State.count_wf h2
  have hst : 0xF008010C + 0x20 * n.val ≠ 0xF0080104 + 0x20 * n.val := by omega
  refine ⟨?_, ?_, State.flag_setFlag_self h3 (by decide), ?_⟩
  · rw [State.scanned, State.setFlag, State.get_put_word h3 (by decide) (by decide) hst.symm, State.get_count_bits h2 (by decide) (by decide) (.inr (by decide)),
      State.get_put_bits h1 (by decide) (by decide) (.inr (by decide)), State.get_put_self h0 (by decide)]
    exact Nat.mod_eq_of_lt hh
  · rw [State.scanned, State.setFlag, State.get_put_word h3 (by decide) (by decide) hst.symm, State.get_count_bits h2 (by decide) (by decide) (.inr (by decide)),
      State.get_put_self h1 (by decide)]
    exact Nat.mod_eq_of_lt hw
  · rw [State.scanned, State.lnState, State.setFlag, State.get_put_bits h3 (by decide) (by decide) (.inr (by decide)),
      State.get_count_other h2 (by decide) (by decide) hst, State.get_put_word h1 (by decide) (by decide) hst, State.get_put_word h0 (by decide) (by decide) hst]
    rfl

/-- LIVE_SCAN_CYCLE that makes no third low cycle (R432, R438). -/
theorem State.liveScanCycle_calm {h w : BitVec 6} (hst : s.lnState n = lnUP) (he : s.eye.lane ≠ some n)
    (hc : s.lanes[n].lowRun ≠ 2 ∨ decide (h.toNat < s.get F.LANES_EYE_MIN_H_MIN ∨ w.toNat < s.get F.LANES_EYE_MIN_V_MIN) = false) :
    let low := decide (h.toNat < s.get F.LANES_EYE_MIN_H_MIN ∨ w.toNat < s.get F.LANES_EYE_MIN_V_MIN)
    exec (.liveScanCycle n h w) s = .next ((s.scanned n h.toNat w.toNat low).modLane n fun l => { l with lowRun := if low then l.lowRun + 1 else 0 }) := by
  intro low
  change s.lanes[n].lowRun ≠ 2 ∨ low = false at hc
  have hx : exec (.liveScanCycle n h w) s = .next (
      let u := (s.scanned n h.toNat w.toNat low).modLane n fun l => { l with lowRun := if low then l.lowRun + 1 else 0 }
      if u.lanes[n].lowRun = 3 ∧ u.isEth n = false then u.trigger n 4 else u) := by
    refine congrArg Host.Outcome.next (if_pos ?_)
    rw [hst, decide_eq_true he]
    rfl
  refine hx.trans (congrArg Host.Outcome.next (if_neg ?_))
  rintro ⟨h3, -⟩
  obtain ⟨r, hr⟩ := State.scanned_rest (s := s) (n := n) (h := h.toNat) (w := w.toNat) (low := low)
  have hl : ((s.scanned n h.toNat w.toNat low).modLane n fun l => { l with lowRun := if low then l.lowRun + 1 else 0 }).lanes[n].lowRun =
      if low then s.lanes[n].lowRun + 1 else 0 := by
    rw [hr]
    exact congrArg LaneSt.lowRun (vmod_same ..)
  rw [hl] at h3
  rcases hc with hc | hc
  · split_ifs at h3
    omega
  · rw [hc] at h3
    cases h3

theorem eyeStart_pulsed : pulsed F.LANES_EYE_CMD_START true (v ||| 0x100#32) = true := by
  have hb : (bitsOf (v ||| 0x100#32) 8 8 != 0) = true := by
    have h : (v ||| 0x100#32).toNat.testBit 8 = true := by
      rw [BitVec.testBit_toNat, BitVec.getLsbD_or]
      simp
    rw [Nat.testBit_eq_decide_div_mod_eq, decide_eq_true_eq] at h
    rw [bitsOf, show 2 ^ (8 + 1 - 8) = 2 from rfl, h]
    rfl
  unfold pulsed
  rw [hb, Bool.true_and]
  decide +kernel

/-- EYE_SCAN_START in the supervisor view (R439). -/
theorem State.eyeScanStart_sup (hw : s.supView who = true) :
    let t := s.plainWrite R.LANES_EYE_CMD true (v ||| 0x100#32)
    let x : Lane := Fin.ofNat 32 (t.get F.LANES_EYE_CMD_LANE)
    exec (.eyeScanStart who v) s = .next (if t.flag F.LANES_EYE_CMD_BUSY || t.lnState x != lnUP then t.setFlag F.LANES_EYE_CMD_ERR true
      else { t.setFlag F.LANES_EYE_CMD_BUSY true with eye := { lane := some x } }) := by
  show execEyeScanStart who v s = _
  unfold execEyeScanStart State.eyeCmdWrite
  rw [hw, if_pos eyeStart_pulsed]

/-- EYE_SCAN_DONE of a scan that runs (R439). -/
theorem State.eyeScanDone_runs (hs : s.Canon) {counts : List (BitVec 32)} (he : s.eye.lane.isSome = true) : ∃ t, exec (.eyeScanDone counts) s = .next t ∧
    t = { s with regs := t.regs, silo := t.silo, eye := t.eye } ∧ t.flag F.LANES_EYE_CMD_BUSY = false ∧
    t.flag F.LANES_EYE_CMD_DONE = true ∧ t.eye.lane = none := by
  obtain ⟨m, hm⟩ := Option.isSome_iff_exists.1 he
  obtain ⟨u, hu⟩ : ∃ u, s.siloPut (s.get F.LANES_EYE_BASE_BASE * 32768) ((counts.take 8192).flatMap fun c => octets c.toNat 4) = u := ⟨_, rfl⟩
  have hx : exec (.eyeScanDone counts) s = .next { (u.setFlag F.LANES_EYE_CMD_BUSY false).setFlag F.LANES_EYE_CMD_DONE true with eye := {} } := by
    show execEyeScanDone counts s = _
    unfold execEyeScanDone
    rw [hm, ← hu]
  have hr : u.regs = s.regs := by rw [← hu, State.siloPut]
  have hw : tabWf regDefault u.regs = true := by
    rw [hr]
    exact hs.1
  refine ⟨_, hx, ?_, ?_, ?_, rfl⟩
  · rw [← hu]
    rfl
  · exact (State.flag_put_apart ⟨by decide, by decide⟩ ⟨by decide, by decide⟩ (.inr (.inr (by decide))) (State.put_wf hw)).trans
      (State.flag_setFlag_same ⟨by decide, by decide⟩ rfl hw)
  · exact State.flag_setFlag_same (f := F.LANES_EYE_CMD_DONE) ⟨by decide, by decide⟩ rfl (State.put_wf hw)

/-! ### Ethernet lanes (R449-R451) -/

theorem State.pcsSyncAcquired_seek (h1 : s.isEth n = true) (h2 : s.flag (F.LN_CFG_ENABLE n.val) = true) (h3 : s.lnState n = lnSEEK) :
    let u := s.modLane n fun l => { l with pcs := true }
    exec (.pcsSyncAcquired n) s = .next (if s.flag (F.LN_CFG_ETH_MODE n.val) then u.enterLane n lnTRAIN
      else if s.flag (F.LN_CFG_AN_EN n.val) then (u.enterLane n lnTRAIN).send (.ethConfig n (anWord (s.get (F.LN_CFG_PAUSE_ADV n.val))))
      else u.enterUp n) := by
  refine congrArg Host.Outcome.next (if_pos ?_)
  rw [h1, h2, h3]
  rfl

theorem lnTrainOrUp {k : Nat} (h : k = lnTRAIN ∨ k = lnUP) : (k == lnTRAIN || k == lnUP) = true := by
  rcases h with rfl | rfl <;> rfl

/-- Settles O44: configuration, training, triggers, scans and Ethernet lanes. -/
theorem lanesComplete : Obligations.LanesComplete := by
  unfold Obligations.LanesComplete
  intro s n q pllB who v x m h w counts lp hs
  refine ⟨fun hr => congrArg Host.Outcome.next (if_neg hr), State.lnCfgWrite_cases, fun h1 h2 h3 => ?burst, fun h1 h2 h3 h4 => ?timeout,
    fun h1 h2 => ?signal, fun h1 => congrArg Host.Outcome.next (if_pos h1), fun hm hl hst h7 => ?align8, fun hm hl hst h7 => ?align,
    fun hm hl hst => ⟨fun hf => ?_, fun hf h0 => ?_, fun hf h0 => ?_⟩, fun hl hm => State.tsReceive_none hm hl, State.tsReceive_code,
    fun h1 h2 h3 h4 => ?training, fun h1 h2 h3 => ?check, fun hon hw h1 h2 => ?retrain, fun hon hw h1 => ?unretire, fun hon hw => ?clear,
    fun hon hw => ⟨?_, ?_, ?_⟩, fun hon => congrArg Host.Outcome.next (State.ask_off hon), fun hst he hc => ?live,
    fun hw => ⟨fun hb => ?_, fun hb hst => ?_⟩, State.eyeScanDone_runs hs, State.pcsSyncAcquired_seek, fun h1 h2 => ?syncLoss,
    fun h1 h2 h3 h4 => ?anComplete, fun h1 h2 h3 => ?sgmii, fun h1 h2 => ?lossOfSync⟩
  case burst =>
    refine ⟨_, congrArg Host.Outcome.next (if_pos ?_), ?_, vmod_same .., rfl⟩
    · rw [h1, h2, h3]
      rfl
    · exact List.append_assoc s.out _ _
  case timeout =>
    refine congrArg Host.Outcome.next (if_pos ?_)
    rw [h1, h2, h3, h4]
    rfl
  case signal =>
    refine congrArg Host.Outcome.next (if_pos ?_)
    rw [h1, h2]
    rfl
  case align8 =>
    rw [State.tsReceive_align hm hl hst]
    exact congrArg Host.Outcome.next (if_pos h7)
  case align =>
    rw [State.tsReceive_align hm hl hst]
    exact congrArg Host.Outcome.next (if_neg h7)
  · exact (State.tsReceive_train hm hl hst).trans (congrArg Host.Outcome.next (if_neg hf))
  · exact (State.tsReceive_train hm hl hst).trans (congrArg Host.Outcome.next ((if_pos hf).trans (if_pos h0)))
  · exact (State.tsReceive_train hm hl hst).trans (congrArg Host.Outcome.next ((if_pos hf).trans (if_neg h0)))
  case training =>
    refine congrArg Host.Outcome.next (if_pos ?_)
    rw [h1, h4, decide_eq_true ⟨h2, h3⟩]
    rfl
  case check =>
    refine congrArg Host.Outcome.next (if_pos ?_)
    rw [h1, h2, h3]
    rfl
  case retrain =>
    refine congrArg Host.Outcome.next ((State.ask_on hon).trans ((if_pos hw).trans (if_pos ?_)))
    show (s.lnState n == lnUP && !s.isEth n) = true
    rw [h1, h2]
    rfl
  case unretire => exact congrArg Host.Outcome.next ((State.ask_on hon).trans ((if_pos hw).trans (if_pos h1)))
  case clear =>
    refine ⟨(s.touch (lnDomain n)).lnClrRefused n, congrArg Host.Outcome.next ((State.ask_on hon).trans (if_pos hw)), rfl, ?_⟩
    exact State.flag_setFlag_self (s := s.touch (lnDomain n)) hs.1 (by decide)
  · exact congrArg Host.Outcome.next ((State.ask_on hon).trans (if_neg (fun h => by rw [show (s.touch (lnDomain n)).supView who = false from hw] at h; cases h)))
  · exact congrArg Host.Outcome.next ((State.ask_on hon).trans (if_neg (fun h => by rw [show (s.touch (lnDomain n)).supView who = false from hw] at h; cases h)))
  · exact congrArg Host.Outcome.next ((State.ask_on hon).trans (if_neg (fun h => by rw [show (s.touch (lnDomain n)).supView who = false from hw] at h; cases h)))
  case live =>
    obtain ⟨r, hr⟩ := State.scanned_rest (s := s) (n := n) (h := h.toNat) (w := w.toNat)
      (low := decide (h.toNat < s.get F.LANES_EYE_MIN_H_MIN ∨ w.toNat < s.get F.LANES_EYE_MIN_V_MIN))
    obtain ⟨r1, r2, r3, r4⟩ := State.scanned_reads (n := n) hs h.isLt w.isLt
      (low := decide (h.toNat < s.get F.LANES_EYE_MIN_H_MIN ∨ w.toNat < s.get F.LANES_EYE_MIN_V_MIN))
    refine ⟨_, State.liveScanCycle_calm hst he hc, ?_, r1, r2, r3, ?_, r4.trans hst⟩
    · rw [hr]
      rfl
    · rw [hr]
      exact congrArg LaneSt.lowRun (vmod_same ..)
  · refine (State.eyeScanStart_sup hw).trans (congrArg Host.Outcome.next (if_pos ?_))
    rw [Bool.or_eq_true, bne_iff_ne]
    exact hb
  · refine (State.eyeScanStart_sup hw).trans (congrArg Host.Outcome.next (if_neg ?_))
    rw [hb, Bool.false_or, bne_iff_ne]
    exact not_not.2 hst
  case syncLoss =>
    refine congrArg Host.Outcome.next (if_pos ?_)
    rw [h1, lnTrainOrUp h2]
    rfl
  case anComplete =>
    refine congrArg Host.Outcome.next (if_pos ?_)
    rw [h1, h2, h3, h4]
    rfl
  case sgmii =>
    refine congrArg Host.Outcome.next (if_pos ?_)
    rw [h1, h2, lnTrainOrUp h3]
    rfl
  case lossOfSync =>
    refine congrArg Host.Outcome.next (if_pos ?_)
    rw [h1, h2]
    rfl

end Sys2Proof.Machine
end

section
/-! SUPPORT. The link layer of an UP lane (R441-R447). -/

namespace Sys2Proof.Machine

variable {s t : State} {n : Lane} {w : BitVec 16} {check : Octet} {x : List Octet} {f g : LinkFrame} {code good : Bool}

/-! ### The word of an ACK, NAK or CREDIT in its octets (R444, R446) -/

/-- The SEQ of an acknowledgement is the low 12 bits of its word. -/
theorem octAt_behindK_seq : BitVec.ofNat 12 (octAt (behindK w check) 0 2) = w.setWidth 12 := by
  apply BitVec.eq_of_toNat_eq
  have h := w.isLt
  simp [octAt, behindK, octets]
  omega

/-- The second octet of an ordered set is its word's high octet. -/
theorem octAt_behindK_high : octAt (behindK w check) 1 1 = w.toNat / 256 := by
  have h := w.isLt
  simp [octAt, behindK, octets]
  omega

/-- The first octet of an ordered set is its word's low octet. -/
theorem octAt_behindK_low : octAt (behindK w check) 0 1 = w.toNat % 256 := by
  simp [octAt, behindK, octets]

/-- Bit 12 of the word says NAK. -/
theorem octAt_behindK_nak : (octAt (behindK w check) 1 1).testBit 4 = w.getLsbD 12 := by
  rw [octAt_behindK_high, show (256 : Nat) = 2 ^ 8 from rfl, Nat.testBit_div_two_pow]
  rfl

/-- The running total of a CREDIT is the high octet of its word. -/
theorem octAt_behindK_credit : BitVec.ofNat 8 (octAt (behindK w check) 1 1) = w.extractLsb' 8 8 := by
  rw [octAt_behindK_high]
  apply BitVec.eq_of_toNat_eq
  simp [Nat.shiftRight_eq_div_pow]

/-! ### What the lane takes (R441-R446) -/

/-- A lane that is UP and no Ethernet lane has its link layer. -/
theorem State.linkUp (hup : s.lnState n = lnUP) (hl : s.isEth n = false) : (s.lnState n == lnUP && !s.isEth n) = true := by
  rw [hup, hl]
  rfl

/-- A frame that reads on an UP lane is good or bad. -/
theorem State.linkReceive_read (hl : (s.lnState n == lnUP && !s.isEth n) = true) (hx : LinkFrame.read x = some (f, good)) :
    exec (.linkFrameReceive n ⟨x, code⟩) s =
      .next (if (good && !code) = true then s.linkGood n f else s.linkBad n (some f) code) := by
  show execLinkFrameReceive n ⟨x, code⟩ s = _
  unfold execLinkFrameReceive
  rw [if_pos hl]
  dsimp only
  rw [hx]

/-- What cannot be read at all is bad. -/
theorem State.linkReceive_none (hl : (s.lnState n == lnUP && !s.isEth n) = true) (hx : LinkFrame.read x = none) :
    exec (.linkFrameReceive n ⟨x, code⟩) s = .next (s.linkBad n none code) := by
  show execLinkFrameReceive n ⟨x, code⟩ s = _
  unfold execLinkFrameReceive
  rw [if_pos hl]
  dsimp only
  rw [hx]

/-- A bad frame: the one that is reliable is answered with NAK (R441, R444). -/
theorem State.linkBad_some : s.linkBad n (some f) code =
    (if f.rel then ((((if code then s.count (F.LN_ERR_CODE_ERR n.val) else s).count (F.LN_ERR_CRC_ERR n.val)).noteErr n).freeCredit n f).sendNak n
      else ((if code then s.count (F.LN_ERR_CODE_ERR n.val) else s).count (F.LN_ERR_CRC_ERR n.val)).noteErr n).burst n := by
  unfold State.linkBad
  rw [Option.filter_some]
  cases f.rel <;> rfl

/-- A NAK: everything outstanding from its SEQ on is sent again (R444). -/
theorem State.nak_received (hl : (s.lnState n == lnUP && !s.isEth n) = true) (hc : checked 3 (behindK w check) = true)
    (hn : w.getLsbD 12 = true) : exec (.ackNakReceive n w check false) s = .next (s.modLane n fun l => { l with
      resend := (l.outst.map (·.seq)).filter fun q => !later 12 (w.setWidth 12).toNat q.toNat }) := by
  show execAckNakReceive n w check false s = _
  unfold execAckNakReceive
  simp only [octAt_behindK_nak, octAt_behindK_seq]
  rw [if_neg (by simp), if_pos (by rw [hl, hc]; rfl), if_pos hn]

/-- An ACK of something outstanding (R444, R445). -/
theorem State.ack_received (hl : (s.lnState n == lnUP && !s.isEth n) = true) (hc : checked 3 (behindK w check) = true)
    (hn : w.getLsbD 12 = false) :
    let rest := s.lanes[n].outst.filter fun g => later 12 g.seq.toNat (w.setWidth 12).toNat
    rest.length ≠ s.lanes[n].outst.length → exec (.ackNakReceive n w check false) s = .next (s.modLane n fun l => { l with
      outst := rest, resend := l.resend.filter (fun q => rest.any fun f => f.seq == q), progress := s.now, replayRun := 0 }) := by
  intro rest hne
  show execAckNakReceive n w check false s = _
  unfold execAckNakReceive
  simp only [octAt_behindK_nak, octAt_behindK_seq]
  rw [if_neg (by simp), if_pos (by rw [hl, hc]; rfl), if_neg (by rw [hn]; exact Bool.false_ne_true), if_neg hne]

/-- A CREDIT: the partner's initial credits and its running total (R446). -/
theorem State.credit_received (hl : (s.lnState n == lnUP && !s.isEth n) = true) (hc : checked 3 (behindK w check) = true) :
    exec (.creditReceive n w check false) s = .next (s.modLane n fun l => match l.partner with
      | some m => { l with granted := l.granted.set (Fin.ofNat 4 (w.toNat % 256)) (m.credit[Fin.ofNat 4 (w.toNat % 256)] + w.extractLsb' 8 8) }
      | none => l) := by
  show execCreditReceive n w check false s = _
  unfold execCreditReceive
  simp only [octAt_behindK_low, octAt_behindK_credit]
  exact congrArg Host.Outcome.next ((if_neg (by simp)).trans (if_pos (by rw [hl, hc]; rfl)))

/-! ### The frame that goes next (R445, R448) -/

/-- The frame that is to be sent again first. -/
def LaneSt.again (l : LaneSt) : Option LinkFrame :=
  match l.resend with
  | q :: _ => l.outst.find? fun f => f.seq == q
  | [] => none

/-- FRAME_TRANSMIT by the frame to be sent again and the one that waits (R445, R469). -/
theorem State.frameTransmit_eq (hl : (s.lnState n == lnUP && !s.isEth n) = true) (ht : s.lanes[n].txEnd ≤ 1000 * s.now) :
    exec (.frameTransmit n) s = .next (match s.lanes[n].again with
      | some f =>
        if creditCost f ≤ s.lanes[n].credits f.vc ∧ s.fitsBefore n (frameGroups f) = true then
          (s.modLane n fun l => { l with resend := l.resend.drop 1 }).startFrame n f
        else s
      | none => match s.lanes[n].nextUp with
        | some f =>
          if s.fitsBefore n (frameGroups f) then
            let g := if f.rel then { f with seq := s.lanes[n].nextSeq } else f
            let s := s.startFrame n g
            s.modLane n fun l => { l with
              txq := l.txq.erase f
              outst := if f.rel then l.outst ++ [g] else l.outst
              nextSeq := if f.rel then l.nextSeq + 1 else l.nextSeq
              progress := if f.rel && l.outst.isEmpty then s.now else l.progress }
          else s
        | none => s) :=
  congrArg Host.Outcome.next (if_pos (by rw [hl, decide_eq_true ht]; rfl))

/-- A frame to be sent again leaves when it fits and has its credits (R445, R446). -/
theorem State.transmit_again (hl : (s.lnState n == lnUP && !s.isEth n) = true) (ha : s.lanes[n].again = some g)
    (ht : s.lanes[n].txEnd ≤ 1000 * s.now) (hc : creditCost g ≤ s.lanes[n].credits g.vc) (hf : s.fitsBefore n (frameGroups g) = true) :
    exec (.frameTransmit n) s = .next ((s.modLane n fun l => { l with resend := l.resend.drop 1 }).startFrame n g) := by
  rw [State.frameTransmit_eq hl ht, ha]
  exact congrArg Host.Outcome.next (if_pos ⟨hc, hf⟩)

/-- A waiting frame leaves when it fits (R445, R469). -/
theorem State.transmit_next (hl : (s.lnState n == lnUP && !s.isEth n) = true) (ha : s.lanes[n].again = none)
    (hn : s.lanes[n].nextUp = some g) (ht : s.lanes[n].txEnd ≤ 1000 * s.now) (hf : s.fitsBefore n (frameGroups g) = true) :
    let x : LinkFrame := if g.rel then { g with seq := s.lanes[n].nextSeq } else g
    let u := s.startFrame n x
    exec (.frameTransmit n) s = .next (u.modLane n fun l => { l with
      txq := l.txq.erase g
      outst := if g.rel then l.outst ++ [x] else l.outst
      nextSeq := if g.rel then l.nextSeq + 1 else l.nextSeq
      progress := if g.rel && l.outst.isEmpty then u.now else l.progress }) := by
  intro x u
  rw [State.frameTransmit_eq hl ht, ha, hn]
  exact congrArg Host.Outcome.next (if_pos hf)

/-- Settles O45. The link layer of an UP lane, set by set and frame by frame; an IDLE goes behind everything that is sent. -/
theorem linkLayerComplete : Obligations.LinkLayerComplete := by
  unfold Obligations.LinkLayerComplete
  intro s n x f code w check groups o hup heth l sound freed bad y seq vc rest again
  have hl := State.linkUp hup heth
  have good (hs : sound) : exec (.linkFrameReceive n ⟨x, false⟩) s = .next (s.linkGood n f) :=
    (State.linkReceive_read hl hs).trans (congrArg Host.Outcome.next (if_pos rfl))
  refine ⟨fun hs hr he => ?_, fun hs hr he hlt => ?_, fun hs hr he hlt => ?_, fun hs hr => ?_, fun g hg hb => ?_, fun hx => ?_,
    fun hf hn ha => ?_, fun hf hn => ?_, fun hc hn => ?_, fun hc hn hne => ?_, fun ho hp => ?_, fun m hc hm => ?_, ⟨?_, ?_⟩,
    fun hc => ⟨?_, ?_⟩, ?_, fun g ha ht hc hf => ?_, fun g ha hn ht hf => ?_, ?_, ?_⟩
  · exact (good hs).trans (congrArg Host.Outcome.next ((if_pos hr).trans (if_pos he)))
  · exact (good hs).trans (congrArg Host.Outcome.next ((if_pos hr).trans ((if_neg he).trans (if_pos hlt))))
  · exact (good hs).trans (congrArg Host.Outcome.next
      ((if_pos hr).trans ((if_neg he).trans (if_neg (by rw [hlt]; exact Bool.false_ne_true)))))
  · exact (good hs).trans (congrArg Host.Outcome.next (if_neg (by rw [hr]; exact Bool.false_ne_true)))
  · rw [State.linkReceive_read hl hg, if_neg (by rcases hb with rfl | rfl <;> simp), State.linkBad_some]
  · exact State.linkReceive_none hl hx
  · exact congrArg Host.Outcome.next ((if_pos (by rw [hup, hf]; rfl)).trans
      ((if_neg (ne_true_of_eq_false hn)).trans (if_pos ha)))
  · exact congrArg Host.Outcome.next ((if_pos (by rw [hup, hf]; rfl)).trans (if_pos hn))
  · exact ⟨_, State.nak_received hl hc hn, rfl, vmod_same ..⟩
  · exact ⟨_, State.ack_received hl hc hn hne, rfl, vmod_same ..⟩
  · refine congrArg Host.Outcome.next (if_pos ?_)
    have ho' : l.outst.isEmpty = false := by simpa using ho
    rw [hl, hp, ho']
    rfl
  · refine ⟨_, State.credit_received hl hc, rfl, (vmod_same ..).trans ?_⟩
    rw [show s.lanes[n].partner = some m from hm]
  · exact congrArg Host.Outcome.next (if_pos (by rw [hl]; rfl))
  · exact congrArg Host.Outcome.next (if_pos (by rw [hl]; rfl))
  · refine congrArg Host.Outcome.next ((if_neg (by simp)).trans (if_neg ?_))
    rw [show checked 3 (behindK w check) = false from hc]
    simp
  · refine congrArg Host.Outcome.next ((if_neg (by simp)).trans (if_neg ?_))
    rw [show checked 3 (behindK w check) = false from hc]
    simp
  · exact congrArg Host.Outcome.next (if_pos hl)
  · exact State.transmit_again hl ha ht hc hf
  · exact State.transmit_next hl ha hn ht hf
  · show s.transmit n groups o = _
    simp only [State.transmit, State.transmitAt, State.send, State.modLane, List.append_assoc, List.cons_append, List.nil_append]
  · exact congrArg LaneSt.txEnd (vmod_same ..)

end Sys2Proof.Machine
end

section
/-! SUPPORT. The FarmLink fabric (R458-R486): the statement speaks of register tables in any order, and in one whose keys do not rise
a FAIL bit that Winnow clears uncovers another FABRIC_WINNOW. -/

namespace Sys2Proof.Machine

/-- A standby device whose register table holds FABRIC_WINNOW (all off) behind FABRIC_WINNOW_STAT (FAIL bit 20), where no read finds
it: FABRIC_WINNOW reads as after reset, with SILO and BEDMAP 1. A bed-map entry has a single-bit error. -/
def unsortedStandby : State :=
  { State.reset with
    regs := [(R.FABRIC_CFG, 0x100), (R.FABRIC_STAT, 3), (R.FABRIC_WINNOW_STAT, 0x100000), (R.FABRIC_WINNOW, 0)]
    bed := { State.reset.bed with one := [0] } }

/-- Winnow clears the FAIL bit of Silo bank group 0, which is the reset value of its register: the entry goes, and the one behind it
shows, with BEDMAP 0. The bed map keeps its error. -/
theorem unsortedStandby_bed : ∃ t, exec (.winnowCycle 0) unsortedStandby = .next t ∧ t.bed.one = [0] :=
  ⟨_, rfl, by decide +kernel⟩

/-- Refutes O46: nothing in it asks for a register table in canonical form, and in `unsortedStandby` a cycle of Winnow leaves the bed
map's error although BEDMAP is 1 when it begins. -/
theorem not_fabricComplete : ¬ Obligations.FabricComplete := by
  unfold Obligations.FabricComplete
  intro h
  obtain ⟨-, -, -, -, -, -, -, -, -, -, -, -, -, hw, -⟩ := h unsortedStandby 0 0 [] [] 0 0 0 (.engine 20) 0
  obtain ⟨t, hx, -, -, -, -, hbed⟩ := hw (by decide +kernel) (by decide +kernel) (by decide +kernel) (by decide +kernel)
  obtain ⟨u, hu, hone⟩ := unsortedStandby_bed
  rw [Host.Outcome.next.inj (hx.symm.trans hu), if_pos (by decide +kernel)] at hbed
  rw [hbed] at hone
  cases hone

end Sys2Proof.Machine
end

section
/-! SUPPORT. The VMP requests of an OPEN session (R498-R510, R537). -/

namespace Sys2Proof.Machine

variable {s t : State} {o : VmpFrom} {m : VmpMsg} {n : Sess} {f : VmpOp} {k : State → State} {i : Instr} {status : Nat} {body : List Octet}

/-! ### What a request meets before it is executed (R497, R501-R506, R516, R520) -/

/-- A request that meets nothing goes on. -/
theorem State.vmpMeet_meets {discover : Bool} (h : s.Meets o m discover) : s.vmpMeet o m discover k = k s := by
  obtain ⟨hb, ha, hw, hl, hr⟩ := h
  unfold State.vmpMeet
  rw [if_neg (by rw [hb]; simp), if_neg, if_neg (by rw [hw]; simp), if_neg]
  · rw [hl]
    cases hd : s.bootRuns
    · simp
    · simp [hr hd]
  · simp only [Bool.and_eq_true, decide_eq_true_eq]
    exact fun h => h.2 (ha h.1)

/-- A request that the device is to accept waits, or is executed and answered (R41, R504). -/
theorem State.vmpSeq_later (h : later 32 m.seq.toNat s.host.sess[n].a.toNat = true) : s.vmpSeq n o m f =
    if s.vmpWaits o m then s.vmpPark o m
    else if tooLong o ((s.taken o m n).tagged n (vmpReply m (f (s.taken o m n) n m).2.1 (f (s.taken o m n) n m).2.2))
      then (s.taken o m n).vmpDone (s.taken o m n) n o m vmBADMSG []
      else (f (s.taken o m n) n m).1.vmpDone (s.taken o m n) n o m (f (s.taken o m n) n m).2.1 (f (s.taken o m n) n m).2.2 :=
  if_pos h

/-- A request of an OPEN session that the device is to accept reaches its execution. -/
theorem State.vmpRun_takes (h : s.Takes o m n 2) : s.vmpRun o m f = s.vmpSeq n o m f := by
  obtain ⟨hm, hn, ho, hk, -⟩ := h
  unfold State.vmpRun
  rw [State.vmpMeet_meets hm, hn]
  dsimp only
  rw [if_neg (by rw [ho]; simp)]
  cases hd : s.host.sess[n].keyed
  · rw [hd, if_neg Bool.false_ne_true] at hk
    rw [if_neg Bool.false_ne_true, if_neg (by rw [hk]; exact Bool.false_ne_true)]
  · rw [hd, if_pos rfl] at hk
    rw [if_pos rfl, if_pos hk]

/-- A request that asks for a domain that is not ON waits (R41). -/
theorem State.vmpRun_waits (h : s.Takes o m n 2) (hw : s.vmpWaits o m = true) : s.vmpRun o m f =
    (forEach (s.vmpAsks o m) s fun s d => s.wakeDomain d).park (.vmp o m) := by
  obtain ⟨-, -, -, -, hq⟩ := id h
  rw [State.vmpRun_takes h, State.vmpSeq_later hq]
  exact if_pos hw

/-- What is accepted is answered as its execution says (R499, R503, R504). -/
theorem State.vmpSeq_answers (hq : later 32 m.seq.toNat s.host.sess[n].a.toNat = true) (hw : s.vmpWaits o m = false)
    (hi : exec i s = .next (s.vmpSeq n o m f)) (hf : f (s.taken o m n) n m = (t, status, body)) : s.Answers i o m n t status body := by
  intro hl
  rw [hi, State.vmpSeq_later hq, if_neg (by rw [hw]; exact Bool.false_ne_true), hf]
  exact congrArg Host.Outcome.next (if_neg (by rw [hl]; exact Bool.false_ne_true))

/-- A request of an OPEN session that is accepted is answered as its execution says. -/
theorem State.vmpRun_answers (h : s.Accepts o m n 2) (hi : exec i s = .next (s.vmpRun o m f))
    (hf : f (s.taken o m n) n m = (t, status, body)) : s.Answers i o m n t status body :=
  State.vmpSeq_answers h.1.2.2.2.2 h.2 (hi.trans (congrArg Host.Outcome.next (State.vmpRun_takes h.1))) hf

/-- A type that carries RING = 0. -/
theorem onRing0_zero (hr : m.ring = 0) : onRing0 f s n m = f s n m := if_pos hr

/-- A message of type k, rewritten as its row does. -/
theorem VmpMsg.with_type {c : Octet} (hm : m.type = c) : { m with type := c } = m := by
  subst hm
  rfl

/-- The row of a type runs the request as it came. -/
theorem State.vmpRun_typed {c : Octet} (hm : m.type = c) (hi : exec i s = .next (s.vmpRun o { m with type := c } f)) :
    exec i s = .next (s.vmpRun o m f) := by
  rw [hi, VmpMsg.with_type hm]

/-- Settles O49. Each accepted request's row of R498, and the wait of one that asks for a domain that sleeps. -/
theorem vmpRequestsComplete : Obligations.VmpRequestsComplete := by
  unfold Obligations.VmpRequestsComplete
  constructor
  · intro s o m n ht hw t
    have wait {i : Instr} {f : VmpOp} {c : Octet} (hm : m.type = c) (hi : exec i s = .next (s.vmpRun o { m with type := c } f)) :
        exec i s = .next t := by
      rw [State.vmpRun_typed hm hi, State.vmpRun_waits ht hw]
    exact ⟨fun hm => wait hm rfl, fun hm => wait hm rfl, fun hm => wait hm rfl, fun hm => wait hm rfl, fun hm => wait hm rfl,
      fun hm => wait hm rfl, fun hm => wait hm rfl, fun hm => wait hm rfl⟩
  intro s o m n ha u b k a l len r ok
  have row {i : Instr} {f : VmpOp} {c : Octet} {t : State} {status : Nat} {body : List Octet} (hm : m.type = c)
      (hi : exec i s = .next (s.vmpRun o { m with type := c } f)) (hf : f u n m = (t, status, body)) :
      s.Answers i o m n t status body := State.vmpRun_answers ha (State.vmpRun_typed hm hi) hf
  refine ⟨fun hr hb hm => ?_, fun hr hb hm => ?_, fun hr hm h1 h2 h3 h4 => ?_, fun hr hm h1 h2 h3 h4 => ?_, fun hr hm h1 h2 h3 h4 h5 => ?_,
    fun hr hm h1 h2 h3 h4 => ?_, fun hr hm h1 h2 h3 h4 h5 h6 => ⟨fun h7 => ?_, fun h7 => ?_⟩, fun hm h1 h2 h3 h4 h5 h6 h7 h8 => ?_,
    fun hm h1 h2 h3 h4 h5 => ?_⟩
  · exact row hm rfl ((onRing0_zero hr).trans (if_pos hb))
  · exact row hm rfl ((onRing0_zero hr).trans (if_pos hb))
  · exact row hm rfl ((onRing0_zero hr).trans (if_neg (by show ¬ (k = 0 ∨ 64 < k ∨ b.length ≠ 4 + 4 * k ∨ beAt b 1 3 ≠ 0); omega)))
  · exact row hm rfl ((onRing0_zero hr).trans (if_neg (by show ¬ (k = 0 ∨ 64 < k ∨ b.length ≠ 4 + 8 * k ∨ beAt b 1 3 ≠ 0); omega)))
  · refine row hm rfl ((onRing0_zero hr).trans ((if_neg ?_).trans (if_neg ?_)))
    · rintro (h | h | h)
      · exact h1 h
      · exact absurd h2 (Nat.not_le.2 h)
      · exact h h3
    · show ¬ (a % 4 ≠ 0 ∨ siloSize < a + l.length)
      omega
  · refine row hm rfl ((onRing0_zero hr).trans ((if_neg ?_).trans (if_pos h4)))
    rintro (h | h | h)
    · exact h1 h
    · exact absurd h2 (Nat.not_le.2 h)
    · exact h h3
  · exact row hm rfl ((onRing0_zero hr).trans ((if_neg (by show ¬ (b.length ≠ 8 ∨ len < 4 ∨ 1432 < len ∨ len % 4 ≠ 0); omega)).trans
      ((if_neg (by show ¬ (a % 4 ≠ 0 ∨ siloSize < a + len); omega)).trans (if_neg (by rw [show u.silo.badIn a len = false from h7]; exact Bool.false_ne_true)))))
  · exact row hm rfl ((onRing0_zero hr).trans ((if_neg (by show ¬ (b.length ≠ 8 ∨ len < 4 ∨ 1432 < len ∨ len % 4 ≠ 0); omega)).trans
      ((if_neg (by show ¬ (a % 4 ≠ 0 ∨ siloSize < a + len); omega)).trans (if_pos h7))))
  · refine row hm rfl ((if_neg (by show ¬ (k = 0 ∨ 44 < k ∨ b.length ≠ 4 + 32 * k ∨ beAt b 1 3 ≠ 0); omega)).trans
      ((if_neg h5).trans ((if_neg (not_not.2 h6)).trans ((if_neg (not_not.2 h7)).trans (if_neg ?_)))))
    rw [h8]
    exact Bool.true_eq_false_eq_False
  · intro h step hv hs he
    refine row hm rfl ((if_neg (not_not.2 h1)).trans ((if_neg (not_not.2 h2)).trans ((if_neg ?_).trans ((if_neg ?_).trans (if_neg ?_)))))
    · exact fun h => h.elim h3 fun h => h h4
    · rw [h5]
      exact Bool.true_eq_false_eq_False
    · show ¬ (2 ^ (u.ringK r + 1) ≤ a ∨ step = 0 ∨ u.host.rings[h].ever < step)
      omega

end Sys2Proof.Machine
end

section
/-! SUPPORT. Sessions, long operations and what the device sends on a host ring (R492-R523). -/

namespace Sys2Proof.Machine

variable {s : State} {o : VmpFrom} {m : VmpMsg} {n : Sess} {who : Reader} {h : Fin 32} {i : Instr} {op : Nat}

/-! ### Requests without an OPEN session (R498, R502, R505) -/

/-- An OPEN that no session answers again (R502, R506). -/
theorem State.openReq_new (hm : s.Meets o m false) (ht : m.type = 2) (hr : m.ring = 0) (hl : m.body.length = 12)
    (hmode : beAt m.body 0 1 < 2) (hz : beAt m.body 1 3 = 0) (hsame : s.sameOpen o (BitVec.ofNat 64 (beAt m.body 4 8)) = none)
    (huser : beAt m.body 0 1 = 0 → s.flag F.HOST_VMP_CFG_USER_OPEN = true) :
    exec (.openReq o m) s = .next (match s.openSess o with
      | none => s.vmpAnswer o m vmNOSESSION []
      | some n => s.openNow n o m (decide (beAt m.body 0 1 = 1)) (BitVec.ofNat 64 (beAt m.body 4 8))) := by
  show execOpenReq o m s = _
  unfold execOpenReq
  rw [VmpMsg.with_type ht]
  dsimp only
  rw [State.vmpMeet_meets hm, if_neg (not_not.2 hr), if_neg (by omega), hsame]
  refine congrArg Host.Outcome.next ((if_neg ?_).trans ?_)
  · rintro ⟨h0, hu⟩
    rw [huser h0] at hu
    cases hu
  · cases s.openSess o <;> rfl

/-- What AUTH of a PENDING session does after its header (R502, R505). -/
def authOp : VmpOp := onRing0 fun s n m => if m.body = [] then (s.sessOpened n, vmOK, []) else vmpBody s

/-- AUTH of a PENDING session: executed with a correct tag (R502, R505). -/
theorem State.auth_pending (hm : s.Meets o m false) (hn : s.vmpSess o m = some n) (hp : s.sessState n = 1) (ht : m.type = 3) :
    exec (.auth o m) s = .next (if s.tagOk n m then s.vmpSeq n o m authOp else s.badTag n) := by
  show execAuth o m s = _
  unfold execAuth
  rw [VmpMsg.with_type ht]
  dsimp only
  rw [State.vmpMeet_meets hm, hn]
  exact congrArg Host.Outcome.next (if_pos hp)

/-! ### Long operations (R517-R520) -/

/-- The body of a request whose OP is op begins with op. -/
theorem VmpMsg.with_op (ht : m.type = 0x40) (hop : beAt m.body 0 1 = op) (hl : m.body ≠ []) :
    { m with type := 0x40, body := BitVec.ofNat 8 op :: m.body.drop 1 } = m := by
  obtain ⟨b, rest, hb⟩ := List.exists_cons_of_ne_nil hl
  have hbop : BitVec.ofNat 8 op = b := by
    rw [hb] at hop
    rw [← hop]
    simp [beAt, beNum]
  have hbody : BitVec.ofNat 8 op :: m.body.drop 1 = m.body := by
    rw [hbop, hb]
    rfl
  rw [hbody, ← ht]

/-- A long operation that a supervisor session may begin: what it answers (R517-R520). -/
theorem longOp_begins {u : State} (hr : m.ring = 0) (hs : u.sessSup n = true) (hl : m.body.length = longLen op) (hz : beAt m.body 1 3 = 0)
    (h5 : op = 5 → beAt (m.body.drop 4) 0 1 < 2 ∧ beAt (m.body.drop 4) 1 3 = 0) (hf : u.longFree n op (m.body.drop 4) = true) :
    longOp op u n m = (u.longBegin n op (m.body.drop 4), vmOK, beOctets (longBound op) 4) := by
  refine (onRing0_zero hr).trans ?_
  dsimp only
  rw [hs, hf, if_neg (by simp), if_neg (by simp [hl, hz]), if_neg ?_, if_neg (by simp)]
  rintro ⟨ho, h⟩
  obtain ⟨h1, h2⟩ := h5 ho
  omega

/-- A LONG_OP of an OPEN supervisor session begins: its response, then its first steps (R517-R520). -/
theorem State.longReq_begins (ha : s.Accepts o m n 2) (ht : m.type = 0x40) (hr : m.ring = 0) (hs : (s.taken o m n).sessSup n = true)
    (hz : beAt m.body 1 3 = 0) (hi : exec i s = .next (s.longReq o m op)) (hop : beAt m.body 0 1 = op) (hl : m.body.length = longLen op)
    (h5 : op = 5 → beAt (m.body.drop 4) 0 1 < 2 ∧ beAt (m.body.drop 4) 1 3 = 0) (hf : (s.taken o m n).longFree n op (m.body.drop 4) = true)
    (hshort : tooLong o ((s.taken o m n).tagged n (vmpReply m 0 (beOctets (longBound op) 4))) = false) :
    exec i s = .next (State.longFirst s (((s.taken o m n).longBegin n op (m.body.drop 4)).vmpDone (s.taken o m n) n o m 0
      (beOctets (longBound op) 4))) := by
  have hne : m.body ≠ [] := by
    intro h
    rw [h] at hl
    unfold longLen at hl
    split_ifs at hl
  rw [hi, State.longReq, VmpMsg.with_op ht hop hne]
  have hx := State.vmpRun_takes (f := longOp op) ha.1
  rw [hx, State.vmpSeq_later ha.1.2.2.2.2, if_neg (by rw [ha.2]; exact Bool.false_ne_true), longOp_begins hr hs hl hz h5 hf]
  exact congrArg (fun x => Host.Outcome.next (State.longFirst s x)) (if_neg (by rw [hshort]; exact Bool.false_ne_true))

/-! ### Host rings (R510) -/

/-- What a descriptor read as q sends to session n as its i-th unacknowledged message (R510, R516). -/
def State.ringSent (h : Fin 32) (n : Sess) (kind i place ever : Nat) (far : Bool) (q : List Nat × State) : State :=
  let ptr := q.1.getD 0 0
  let len := if kind = 1 then min (q.1.getD 1 0) (if far then 160 else 1024) else 0
  let lost := kind == 1 && (decide (siloSize < ptr + len) || (decide (0 < len) && q.2.silo.badIn ptr len))
  let c := if lost || decide (len = 0) then q.2 else q.2.siloFix ptr len
  (c.modHRing h fun y => { y with sentAt := y.sentAt ++ [c.now], ever := max y.ever (i + 1) }).vmpDevice n 0x31 h.val
    (beOctets place 4 ++ beOctets (b2n lost + 2 * b2n (decide (i < ever))) 4 ++ (q.1.flatMap fun v => octets v 4) ++
      if lost then [] else c.silo.bytes ptr len)

/-- The descriptor at a place of ring h is read and sent. -/
def State.ringSend (h : Fin 32) (n : Sess) (kind i place a ever : Nat) (s : State) : State :=
  State.ringSent h n kind i place ever (s.viaRelay n) (s.devReads a 4 8)

/-- The next descriptor of a ring goes out, where its bank is ON (R41, R510). -/
theorem State.ringDataSend_due (hd : s.ringDest h = some n) (hl : s.longRuns = false) (hk : s.get (F.HOST_HRING_CFG_KIND h.val) ≠ 0)
    (ho : s.ringOn h.val = true) (hs : s.host.rings[h].stalled = false) (h16 : s.host.rings[h].sentAt.length < 16)
    (hc : s.host.rings[h].sentAt.length < s.ringCount h.val) :
    let i := s.host.rings[h].sentAt.length
    let place := (s.vHead h.val + i) % 2 ^ (s.ringK h.val + 1)
    let a := s.slotAddr h.val (place % 2 ^ s.ringK h.val)
    exec (.ringDataSend h) s = .next (s.askSoon [domainOfSilo a]
      (State.ringSend h n (s.get (F.HOST_HRING_CFG_KIND h.val)) i place a s.host.rings[h].ever)) := by
  intro i place a
  have hdue : (s.longRuns || s.get (F.HOST_HRING_CFG_KIND h.val) == 0 || !s.ringOn h.val || s.host.rings[h].stalled ||
      decide (16 ≤ s.host.rings[h].sentAt.length) || decide (s.ringCount h.val ≤ s.host.rings[h].sentAt.length)) = false := by
    rw [hl, ho, hs, decide_eq_false (Nat.not_le.2 h16), decide_eq_false (Nat.not_le.2 hc), beq_eq_false_iff_ne.2 hk]
    rfl
  show execRingDataSend h s = _
  unfold execRingDataSend
  dsimp only
  rw [hd]
  dsimp only
  rw [hdue, if_neg Bool.false_ne_true]
  refine congrArg (fun k => Host.Outcome.next (s.askSoon [domainOfSilo a] k)) (funext fun r => ?_)
  unfold State.ringSend
  generalize r.devReads _ 4 8 = q
  rfl

/-- Settles O50. Sessions, long operations, and what the device sends on a host ring. -/
theorem sessionsComplete : Obligations.SessionsComplete := by
  unfold Obligations.SessionsComplete
  intro s o m n who h met p mask v b mode nHost u x net w
  refine ⟨fun hm ht hr hb => ?_, fun hm ht hr hl hmode hz hsame huser => ⟨fun hn => ?_, fun hn => ?_⟩, fun ha hk ht hr hb => ?_,
    fun hm hn hp htag ht => ?_, fun hp hd => ?_, fun h8 hs hl hd => ?_, fun hnet => ⟨fun hw _ => ?_, fun hw => ?_, ?_⟩,
    fun hnet => ⟨?_, ?_⟩, fun ha ht hr hs hz => ?_, fun l hl => ?_, fun t rest hx hl hs hp hd => ⟨fun h8 => ?_, fun h8 => ?_⟩, ?_⟩
  · show execDiscover o m s = _
    unfold execDiscover
    rw [VmpMsg.with_type ht]
    dsimp only
    rw [State.vmpMeet_meets hm, if_neg (not_not.2 hr)]
    exact congrArg Host.Outcome.next (if_neg (not_not.2 hb))
  · rw [State.openReq_new hm ht hr hl hmode hz hsame huser, hn]
  · rw [State.openReq_new hm ht hr hl hmode hz hsame huser, hn]
  · obtain ⟨⟨hm, hn, hp, htag, hq⟩, hw⟩ := ha
    rw [hk, if_pos rfl] at htag
    refine State.vmpSeq_answers hq hw ((State.auth_pending hm hn hp ht).trans (congrArg Host.Outcome.next (if_pos htag))) ?_
    exact (onRing0_zero hr).trans (if_pos hb)
  · rw [State.auth_pending hm hn hp ht, htag, if_neg Bool.false_ne_true]
  · exact congrArg Host.Outcome.next (if_pos ⟨hp, hd⟩)
  · exact congrArg Host.Outcome.next (if_pos ⟨h8, hs, by rw [hl]; rfl, hd⟩)
  · exact congrArg Host.Outcome.next ((State.ask_on hnet).trans (if_pos hw))
  · refine congrArg Host.Outcome.next ((State.ask_on hnet).trans (if_neg fun h => ?_))
    rw [show (s.touch 41).supView who = false from hw] at h
    cases h
  · exact congrArg Host.Outcome.next (State.ask_on hnet)
  · exact congrArg Host.Outcome.next (State.ask_off (eq_false_of_ne_true hnet))
  · exact congrArg Host.Outcome.next (State.ask_off (eq_false_of_ne_true hnet))
  · intro args row
    have begins {i : Instr} {op : Nat} (hi : exec i s = .next (s.longReq o m op)) (h5 : op = 5 → beAt args 0 1 < 2 ∧ beAt args 1 3 = 0) :
        row i op := fun hop hl hf hshort => State.longReq_begins ha ht hr hs hz hi hop hl h5 hf hshort
    exact ⟨begins rfl (by simp), begins rfl (by simp), begins rfl (by simp), begins rfl (by simp), fun h1 h2 => begins rfl fun _ => ⟨h1, h2⟩⟩
  · show execLongDone met s = _
    unfold execLongDone
    rw [hl]
  · show execRingResend h s = _
    unfold execRingResend
    rw [show s.host.rings[h].sentAt = t :: rest from hx]
    dsimp only
    rw [if_neg (by rw [hl, hp, show s.host.rings[h].stalled = false from hs, Option.isNone_eq_false_iff.2 hd]; simp)]
    exact congrArg Host.Outcome.next (if_neg (Nat.not_le.2 h8))
  · show execRingResend h s = _
    unfold execRingResend
    rw [show s.host.rings[h].sentAt = t :: rest from hx]
    dsimp only
    rw [if_neg (by rw [hl, hp, show s.host.rings[h].stalled = false from hs, Option.isNone_eq_false_iff.2 hd]; simp)]
    exact congrArg Host.Outcome.next (if_pos h8)
  · intro kind hd hl hk ho hs h16 hc i place a d q ptr len lost c
    have hx := State.ringDataSend_due hd hl hk ho hs h16 hc
    refine ⟨fun hon => ?_, fun hoff => ?_⟩
    · rw [hx, State.askSoon_one hon]
      show Host.Outcome.next (State.ringSent h n kind i place x.ever (s.viaRelay n) q) = _
      clear_value q i place
      rfl
    · rw [hx]
      exact congrArg Host.Outcome.next (if_neg (by rw [List.all_cons, hoff]; exact Bool.false_ne_true))

end Sys2Proof.Machine
end

section
/-! SUPPORT. The Granary (R545-R552, R561, R563). -/

namespace Sys2Proof.Machine

variable {s : State} {who : Reader} {g : GranSt} {w : GWrite} {x : BitVec 32 × GRec} {r : GRec} {rest : List GRec}

/-! ### The array (R540) -/

/-- Octets written into the array change nothing else of the Granary. -/
theorem GranSt.put_rest : ∀ (l : List Octet) (g : GranSt) (a : Nat), ∃ z, g.put a l = { g with array := z }
  | [], g, _ => ⟨g.array, rfl⟩
  | _ :: l, g, a => GranSt.put_rest l { g with array := tabSet (fun _ => 0xFF) g.array a _ } (a + 1)

/-- A slot whose content a failed read-back leaves open changes the array and the free values alone. -/
theorem State.spoilSlot_rest (slot : Nat) (s : State) : ∃ z f, s.spoilSlot slot = { s with gran := { s.gran with array := z }, free := f } := by
  unfold State.spoilSlot
  generalize List.range 8 = l
  induction l generalizing s with
  | nil => exact ⟨s.gran.array, s.free, rfl⟩
  | cons i l ih =>
    obtain ⟨z, hz⟩ := GranSt.put_rest (octets (s.freeVal 31 64).1 8) s.gran (64 * slot + 8 * i)
    obtain ⟨z', f, h⟩ := ih ((s.freeVal 31 64).2.modGran fun g => g.put (64 * slot + 8 * i) (octets (s.freeVal 31 64).1 8))
    refine ⟨z', f, h.trans ?_⟩
    show { s with gran := { s.gran.put (64 * slot + 8 * i) (octets (s.freeVal 31 64).1 8) with array := z' }, free := f } = _
    rw [hz]

/-! ### Writing (R545-R547) -/

/-- A write begins: SEQ_A in the array, and the write in progress. -/
theorem State.beginWrite_rest : ∃ z, s.beginWrite r = s.modGran fun g => { g with
    array := z, writing := some ⟨s.get F.GRANARY_NEXT_NEXT_SLOT, BitVec.ofNat 32 s.nextSeq, r⟩, lastStart := some s.now, again := none } := by
  obtain ⟨z, hz⟩ := GranSt.put_rest (octets s.nextSeq 4) s.gran (64 * s.get F.GRANARY_NEXT_NEXT_SLOT)
  refine ⟨z, ?_⟩
  unfold State.beginWrite State.modGran
  dsimp only
  rw [hz]

/-- The oldest staged record is written (R545). -/
theorem State.writeStart_fifo (hw : s.mayWrite = true) (ha : s.gran.again = none) (hf : s.gran.fifo = r :: rest) :
    exec .granaryWriteStart s = .next ((s.modGran fun g => { g with fifo := rest }.occupied s.now).beginWrite r) := by
  show execGranaryWriteStart s = _
  unfold execGranaryWriteStart
  rw [if_pos hw, ha, hf]

/-- A record that failed its read-back is written first (R546). -/
theorem State.writeStart_again (hw : s.mayWrite = true) (ha : s.gran.again = some x) :
    exec .granaryWriteStart s = .next (s.beginWrite x.2) := by
  show execGranaryWriteStart s = _
  unfold execGranaryWriteStart
  rw [if_pos hw, ha]

/-- A failed read-back (R546, R547): the slot's content is open, the record is to be written again. -/
theorem State.writeDone_failed (hw : s.gran.writing = some w) : ∃ z f,
    let u := State.setFlag { s with gran := { s.gran with array := z, writing := none }, free := f } F.GRANARY_STAT_VERIFY_ERR true
    let v := u.modGran fun g => { g with again := some (w.seq, w.r) }
    s.writeDone false = ((if 64 ≤ s.gran.bad.length then v.put F.GRANARY_STAT_STATE 3 else
      (v.modGran fun g => { g with bad := g.bad ++ [w.slot] }).put F.GRANARY_NEXT_NEXT_SLOT
        ((v.modGran fun g => { g with bad := g.bad ++ [w.slot] }).gran.next w.slot)).raise 122 (3 + 65536 * w.slot)) := by
  obtain ⟨z, f, h⟩ := State.spoilSlot_rest w.slot (s.modGran fun g => { g with writing := none })
  refine ⟨z, f, ?_⟩
  intro u v
  unfold State.writeDone
  rw [hw]
  dsimp only
  rw [if_neg Bool.false_ne_true, h]
  rfl

/-- The slots of a copy are put into the Silo, and nothing else changes (R563). -/
theorem State.copied_rest {c : GCopy} (l : List Nat) (s : State) : ∃ m, forEach l s (fun s i =>
    s.siloPut (c.base + 64 * i) (s.gran.read (64 * ((c.slot + i) % 65536)) 64)) = { s with silo := m } := by
  induction l generalizing s with
  | nil => exact ⟨s.silo, rfl⟩
  | cons i l ih =>
    obtain ⟨m, hm⟩ := ih (s.siloPut (c.base + 64 * i) (s.gran.read (64 * ((c.slot + i) % 65536)) 64))
    exact ⟨m, hm⟩

/-- Event 122 sets no bit of XK_INT. -/
theorem State.raise_granary {k : Nat} : s.raise 122 k = { s with fired := s.fired ++ [⟨122, BitVec.ofNat 32 k, s.now⟩] } :=
  State.raise_eq_fired rfl

/-- Settles O52. Writing and its read-back, losses, the dump, operating time and copies. -/
theorem granaryComplete : Obligations.GranaryComplete := by
  unfold Obligations.GranaryComplete
  intro s who met hs g slot base st ready w
  have hwf := hs.1
  refine ⟨fun hw ha r rest hf => ?_, fun hw x ha => ?_, fun w hw => ?_, fun w hw hb => ?_, fun w hw hb => ?_, fun t ht hp hc => ?_,
    ⟨fun hb hp => ?_, fun hb hp => ?_, fun hb => ?_⟩, fun t ht hp => ?_, fun hc hw hr => ?_, fun hc hw hr => ?_,
    ⟨fun hp => ?_, fun hp hcd => ?_, fun hp hc hd => ?_⟩, fun ho => ?_, fun hc => ?_, fun hr => ?_, fun hr => ⟨?_, ?_⟩,
    ⟨fun hr hx => ?_, fun hr hx => ?_⟩, fun c hc => ?_⟩
  · obtain ⟨z, hz⟩ := State.beginWrite_rest (s := s.modGran fun g => { g with fifo := rest }.occupied s.now) (r := r)
    exact ⟨_, State.writeStart_fifo hw ha hf, by rw [hz]; rfl, by rw [hz]; rfl, by rw [hz]; rfl, by rw [hz]; rfl⟩
  · obtain ⟨z, hz⟩ := State.beginWrite_rest (s := s) (r := x.2)
    exact ⟨_, State.writeStart_again hw ha, by rw [hz]; rfl, by rw [hz]; rfl, by rw [hz]; rfl, by rw [hz]; rfl⟩
  · show Host.Outcome.next (s.writeDone true) = _
    unfold State.writeDone
    rw [hw]
    rfl
  · obtain ⟨z, f, h⟩ := State.writeDone_failed hw
    dsimp only at h
    rw [if_neg (Nat.not_le.2 hb), State.raise_granary] at h
    refine ⟨_, rfl, by rw [h]; rfl, by rw [h]; rfl, by rw [h]; rfl, by rw [h]; rfl, ?_⟩
    rw [h]
    exact (State.flag_put_apart ⟨by decide, by decide⟩ ⟨by decide, by decide⟩ (.inl (by decide)) (State.put_wf hwf)).trans
      (State.flag_setFlag_same ⟨by decide, by decide⟩ rfl hwf)
  · obtain ⟨z, f, h⟩ := State.writeDone_failed hw
    dsimp only at h
    rw [if_pos hb, State.raise_granary] at h
    refine ⟨_, rfl, by rw [h]; rfl, ?_, by rw [h]; rfl⟩
    rw [h]
    exact State.get_put_same ⟨by decide, by decide⟩ (State.put_wf hwf)
  · show execLossRecordStage s = _
    unfold execLossRecordStage
    rw [show s.gran.lowSince = some t from ht]
    dsimp only
    exact congrArg Host.Outcome.next (if_pos (by rw [hp, hc]; rfl))
  · refine congrArg Host.Outcome.next ((if_pos hb).trans (if_neg ?_))
    rw [show (s.setPfail true).gran.pfail = none from hp]
    exact Bool.false_ne_true
  · exact congrArg Host.Outcome.next ((if_pos hb).trans (if_pos hp))
  · exact congrArg Host.Outcome.next (if_neg hb)
  · show execDumpStagingClose s = _
    unfold execDumpStagingClose
    rw [show s.gran.pfail = some t from ht]
    exact congrArg Host.Outcome.next (if_pos hp)
  · refine ⟨s.dumpNow, ?_, rfl, rfl, rfl, ?_⟩
    · refine congrArg Host.Outcome.next ((if_pos ?_).trans (if_neg (by rw [show s.dumpNow.gran.rose = false from hr]; exact Bool.false_ne_true)))
      rw [hc, hw]
      rfl
    · show some _ = some _
      cases g.dump <;> cases g.again <;> rfl
  · refine congrArg Host.Outcome.next ((if_pos ?_).trans (if_pos hr))
    rw [hc, hw]
    rfl
  · refine congrArg Host.Outcome.next (if_pos ?_)
    rw [show (s.setPfail false).gran.pfail = none from hp]
    rfl
  · refine congrArg Host.Outcome.next ((if_neg ?_).trans (if_neg ?_))
    · rw [show (s.setPfail false).gran.pfail.isNone = false from Option.isNone_eq_false_iff.2 hp]
      exact Bool.false_ne_true
    · show ¬ (g.closed && g.dump.isSome) = true
      rcases hcd with h | h <;> rw [h] <;> simp
  · refine congrArg Host.Outcome.next ((if_neg ?_).trans (if_pos ?_))
    · rw [show (s.setPfail false).gran.pfail.isNone = false from Option.isNone_eq_false_iff.2 hp]
      exact Bool.false_ne_true
    · show (g.closed && g.dump.isSome) = true
      rw [hc, hd]
      rfl
  · exact congrArg Host.Outcome.next (if_pos ho)
  · exact congrArg Host.Outcome.next (if_pos hc)
  · exact ⟨_, congrArg Host.Outcome.next (State.ask_on hr), rfl, Vector.getElem_set_self _⟩
  · exact congrArg Host.Outcome.next (State.ask_off (eq_false_of_ne_true hr))
  · exact congrArg Host.Outcome.next (State.ask_off (eq_false_of_ne_true hr))
  · exact congrArg Host.Outcome.next ((State.ask_on hr).trans (if_pos hx))
  · refine ⟨_, congrArg Host.Outcome.next ((State.ask_on hr).trans (if_neg hx)), rfl, ?_, rfl⟩
    exact State.flag_setFlag_same ⟨by decide, by decide⟩ rfl hwf
  · obtain ⟨m, hm⟩ := State.copied_rest (c := c) (List.range c.count) s
    have hx : exec .granaryCopyDone s = .next (((({ s with silo := m } : State).setFlag F.GRANARY_COPY_CTRL_BUSY false).setFlag
        F.GRANARY_COPY_CTRL_DONE true).modGran fun g => { g with copy := none }) := by
      rw [← hm]
      show execGranaryCopyDone s = _
      unfold execGranaryCopyDone
      rw [hc]
    refine ⟨_, hx, rfl, ?_, ?_, rfl, by rw [hm]; rfl⟩
    · exact (State.flag_put_apart ⟨by decide, by decide⟩ ⟨by decide, by decide⟩ (.inr (by decide)) (State.put_wf hwf)).trans
        (State.flag_setFlag_same ⟨by decide, by decide⟩ rfl hwf)
    · exact State.flag_setFlag_same ⟨by decide, by decide⟩ rfl (State.put_wf hwf)

end Sys2Proof.Machine
end

section
/-! SUPPORT. Resets and what they keep, boot, the supervisor pair, the rounds of housekeeping (R564-R581, R636-R651). -/

namespace Sys2Proof.Machine

variable {s t q : State} {who : Reader} {a c : Nat}

/-! ### One register through operations that write others -/

/-- The register at a reads in s as in q, and the table of s is in canonical form. -/
def State.SameReg (a : Nat) (q s : State) : Prop := tabWf regDefault s.regs = true ∧ s.reg a = q.reg a

theorem State.SameReg.refl (h : tabWf regDefault s.regs = true) : State.SameReg a s s := ⟨h, rfl⟩

theorem State.SameReg.setReg {b : Nat} {v : Word} (h : State.SameReg a q s) (hb : a ≠ b) : State.SameReg a q (s.setReg b v) :=
  ⟨tabWf_tabSet h.1, (State.reg_setReg_other h.1 hb).trans h.2⟩

theorem State.SameReg.put {f : Fld} {n : Nat} (h : State.SameReg a q s) (hf : a ≠ f.addr) : State.SameReg a q (s.put f n) :=
  h.setReg hf

theorem State.SameReg.upd (h : State.SameReg a q s) (ht : t.regs = s.regs) : State.SameReg a q t := by
  unfold State.SameReg State.reg
  rw [ht]
  exact h

theorem State.SameReg.ite {p : Prop} [Decidable p] (hs : State.SameReg a q s) (ht : State.SameReg a q t) :
    State.SameReg a q (if p then s else t) := by
  split
  · exact hs
  · exact ht

theorem State.SameReg.forEach {α : Type} {f : State → α → State} (hf : ∀ s x, State.SameReg a q s → State.SameReg a q (f s x)) (l : List α) :
    ∀ {s : State}, State.SameReg a q s → State.SameReg a q (forEach l s f) := by
  induction l with
  | nil => exact fun h => h
  | cons x l ih => exact fun h => ih (hf _ x h)

/-- A field of that register reads as before. -/
theorem State.SameReg.get {h l : Nat} (hs : State.SameReg a q s) : s.get ⟨a, h, l⟩ = q.get ⟨a, h, l⟩ := by
  unfold State.get
  rw [hs.2]

/-- An entry that a filter drops reads as the default. -/
theorem tabGet_filter_out {α : Type} {d : Nat → α} {p : Nat × α → Bool} {k : Nat} (hk : ∀ v, p (k, v) = false) :
    ∀ l : List (Nat × α), tabGet d (l.filter p) k = d k
  | [] => rfl
  | (j, v) :: l => by
    rw [List.filter_cons]
    split
    · next hp =>
      unfold tabGet
      have hne : k ≠ j := by
        rintro rfl
        rw [hk] at hp
        cases hp
      rw [if_neg hne, tabGet_filter_out hk l, ite_self]
    · exact tabGet_filter_out hk l

/-! ### What a reset shows again (R251, R252) -/

/-- The inputs of one beam show in its registers and its trajectory unit alone. -/
theorem State.inputAgain_rest {b : Sys2Proof.Beam} : ∃ r x, s.inputAgain b = { s with regs := r, beam := x } := by
  unfold State.inputAgain
  split
  · exact ⟨s.regs, _, rfl⟩
  · exact ⟨_, _, rfl⟩

/-- A loop whose step changes the registers and the beams alone does so. -/
theorem forEach_regs_beam {α : Type} {f : State → α → State} (hf : ∀ s y, ∃ r x, f s y = { s with regs := r, beam := x }) (l : List α)
    (s : State) : ∃ r x, forEach l s f = { s with regs := r, beam := x } := by
  induction l generalizing s with
  | nil => exact ⟨s.regs, s.beam, rfl⟩
  | cons y l ih =>
    obtain ⟨r, x, h⟩ := hf s y
    obtain ⟨r', x', h'⟩ := ih (f s y)
    refine ⟨r', x', h'.trans ?_⟩
    rw [h]

/-- The inputs of the beams show in their registers and trajectory units alone. -/
theorem State.inputsAgain_rest : ∃ r x, s.inputsAgain = { s with regs := r, beam := x } :=
  forEach_regs_beam (fun _ _ => State.inputAgain_rest) allBeams s

/-- The inputs of the beams leave every register but BEAM_LASER_CFG. -/
theorem State.SameReg.inputsAgain (h : State.SameReg a q s)
    (ha : ∀ b : Sys2Proof.Beam, a ≠ (F.BEAM_LASER_CFG_PERMIT b.val).addr ∧ a ≠ (F.BEAM_LASER_CFG_PERMIT_WAIT b.val).addr) :
    State.SameReg a q s.inputsAgain := by
  refine State.SameReg.forEach (fun s b h => ?_) _ h
  have hw := (h.put (n := b2n true) (ha b).1).put (n := b2n true) (ha b).2
  unfold State.inputAgain
  dsimp only
  split
  · exact h.upd rfl
  · exact hw.upd rfl

/-! ### A full reset (R550, R640) -/

/-- A POWER_FAIL record is staged: the FIFO, and the domain that it wakes. -/
theorem State.failRecord_rest : ∃ r p f l, s.failRecord c =
    { s with regs := r, power := p, gran := { s.gran with fifo := f, lowSince := l } } := by
  unfold State.failRecord State.stageRecord State.wakeDomain
  split_ifs
  · exact ⟨_, _, _, _, rfl⟩
  · exact ⟨_, _, _, _, rfl⟩
  · exact ⟨_, _, _, _, rfl⟩

/-- A POWER_FAIL record changes of the Granary the FIFO alone, and neither the queue, the Silo nor an engine. -/
theorem State.failRecord_keeps : (s.failRecord c).gran.array = s.gran.array ∧ (s.failRecord c).gran.writing = s.gran.writing ∧
    (s.failRecord c).gran.key = s.gran.key ∧ (s.failRecord c).pending = s.pending ∧ (s.failRecord c).silo = s.silo ∧
    (s.failRecord c).eng = s.eng := by
  obtain ⟨r, p, f, l, h⟩ := State.failRecord_rest (s := s) (c := c)
  rw [h]
  exact ⟨rfl, rfl, rfl, rfl, rfl, rfl⟩

/-- What octets written leave in the array depends on the array alone. -/
theorem GranSt.put_array {g : GranSt} : ∀ (l : List Octet) (h : GranSt) (a : Nat), g.array = h.array → (g.put a l).array = (h.put a l).array
  | [], _, _, e => e
  | v :: l, h, a, e => by
    refine GranSt.put_array (g := { g with array := tabSet (fun _ => 0xFF) g.array a v }) l _ (a + 1) ?_
    show tabSet _ g.array a v = tabSet _ h.array a v
    rw [e]

/-- The device held in reset: what it keeps (R640). -/
theorem State.inReset_keeps : (s.inReset c).boot.cause = c ∧ (s.inReset c).pending = s.pending ∧ (s.inReset c).silo = s.silo ∧
    (s.inReset c).gran = s.gran.kept ∧ ∀ e : Eng, (s.inReset c).eng[e] = { mem := s.eng[e].mem } := by
  unfold State.inReset
  obtain ⟨r, b, h⟩ := State.inputsAgain_rest (s := { State.reset with
    pending := s.pending, regs := s.regs.filter fun x => keptFull x.1
    silo := s.silo
    eng := Vector.ofFn fun e => { mem := s.eng[e].mem }
    cells := Vector.ofFn fun c => if isAlarm c then { level := s.cells[c].level } else {}
    enc := s.enc, gran := s.gran.kept, flash := s.flash
    pins := { permit := s.pins.permit.map fun (x : Option Nat) => x.map fun _ => (0 : Nat), pfail := s.pins.pfail, testPort := s.pins.testPort }
    holds := { shutdown := s.holds.shutdown }
    boot := { cause := c }
    out := s.out, free := s.free })
  rw [h]
  exact ⟨rfl, rfl, rfl, rfl, fun e => Vector.getElem_ofFn _⟩

/-- A record that stands in its slot, and the dump behind it, leave the array and what is no part of staging. -/
theorem State.wrote_keeps {slot n : Nat} : (s.wrote slot n).dumpNow.gran.array = s.gran.array ∧
    (s.wrote slot n).dumpNow.gran.key = s.gran.key ∧ (s.wrote slot n).dumpNow.pending = s.pending ∧
    (s.wrote slot n).dumpNow.silo = s.silo ∧ (s.wrote slot n).dumpNow.eng = s.eng := ⟨rfl, rfl, rfl, rfl, rfl⟩

/-- A write in progress that completes (R545). -/
theorem State.writeDone_agrees {w : GWrite} (hw : s.gran.writing = some w) : s.writeDone true =
    (s.modGran fun g => { g with writing := none }.put (64 * w.slot) (w.r.octets w.seq.toNat)).wrote w.slot w.seq.toNat := by
  unfold State.writeDone
  rw [hw]
  rfl

/-- The Granary before a full reset: its write in progress and its dump are complete (R550). -/
theorem State.writeDone_keeps : (s.writeDone true).dumpNow.gran.array = (match s.gran.writing with
    | some w => (s.gran.put (64 * w.slot) (w.r.octets w.seq.toNat)).array
    | none => s.gran.array) ∧
    (s.writeDone true).dumpNow.gran.key = s.gran.key ∧ (s.writeDone true).dumpNow.pending = s.pending ∧
    (s.writeDone true).dumpNow.silo = s.silo ∧ (s.writeDone true).dumpNow.eng = s.eng := by
  cases hw : s.gran.writing with
  | none =>
    have hx : s.writeDone true = s := by
      unfold State.writeDone
      rw [hw]
    rw [hx]
    exact ⟨rfl, rfl, rfl, rfl, rfl⟩
  | some w =>
    obtain ⟨z, hz⟩ := GranSt.put_rest (w.r.octets w.seq.toNat) { s.gran with writing := none } (64 * w.slot)
    have ha : z = (s.gran.put (64 * w.slot) (w.r.octets w.seq.toNat)).array :=
      (congrArg GranSt.array hz).symm.trans (GranSt.put_array (g := { s.gran with writing := none }) _ _ _ rfl)
    have hx : s.writeDone true = ({ s with gran := { s.gran with writing := none, array := z } } : State).wrote w.slot w.seq.toNat := by
      rw [State.writeDone_agrees hw]
      dsimp only [State.modGran]
      dsimp only at hz
      rw [hz]
    rw [hx, ha]
    exact State.wrote_keeps

/-- A full reset keeps the queue, the Silo, the local memories, and of the Granary its array and key (R640). -/
theorem State.fullReset_keeps : (s.fullReset c).boot.cause = c ∧ (s.fullReset c).pending = s.pending ∧ (s.fullReset c).silo = s.silo ∧
    (s.fullReset c).gran.fifo = [] ∧ (s.fullReset c).gran.key = s.gran.key ∧
    (s.gran.writing = none → (s.fullReset c).gran.array = s.gran.array) ∧
    (∀ w, s.gran.writing = some w → (s.fullReset c).gran.array = (s.gran.put (64 * w.slot) (w.r.octets w.seq.toNat)).array) ∧
    ∀ e : Eng, (s.fullReset c).eng[e] = { mem := s.eng[e].mem } := by
  obtain ⟨h1, h2, h3, h4, h5⟩ := State.inReset_keeps (s := ((s.failRecord 1).writeDone true).dumpNow) (c := c)
  obtain ⟨ha, hk, hp, hs, he⟩ := State.writeDone_keeps (s := s.failRecord 1)
  obtain ⟨fa, fw, fk, fp, fs, fe⟩ := State.failRecord_keeps (s := s) (c := 1)
  have hput (w : GWrite) : ((s.failRecord 1).gran.put (64 * w.slot) (w.r.octets w.seq.toNat)).array =
      (s.gran.put (64 * w.slot) (w.r.octets w.seq.toNat)).array := GranSt.put_array _ _ _ fa
  rw [fw] at ha
  rw [fk] at hk
  rw [fp] at hp
  rw [fs] at hs
  rw [fe] at he
  unfold State.fullReset
  rw [h4]
  refine ⟨h1, h2.trans hp, h3.trans hs, rfl, hk, fun hw => ?_, fun w hw => ?_, fun e => ?_⟩
  · rw [hw] at ha
    exact ha.trans fa
  · rw [hw] at ha
    exact ha.trans (hput w)
  · rw [h5, he]

/-! ### A CORE reset (R640, R642) -/

/-- After a CORE reset the layer is IDLE and CORE shows. -/
theorem State.coreReset_layer (hs : s.Canon) : s.coreReset.lyState = 0 ∧ s.coreReset.flag F.SYS_RESET_CAUSE_CORE = true := by
  unfold State.coreReset
  dsimp only
  generalize hr : forEach (List.finRange 8) _ _ = r
  have hk : State.Kept s.pending r := by
    rw [← hr]
    exact State.Kept.forEach (fun t a ht => State.modCell_kept (State.modCell_kept (State.axEndNow_kept ht)))
      (State.Kept.forEach (fun t b ht => State.modCell_kept (State.Kept.upd (State.stopBeam_kept ht))) ⟨rfl, hs⟩)
  clear hr
  generalize ht : State.mk .. = t
  have hl : State.SameReg R.HOST_LAYER_STATE State.reset t := by
    rw [← ht]
    exact ⟨tabWf_filter hk.2.1, tabGet_filter_out (fun _ => show keptCore R.HOST_LAYER_STATE = false by decide) _⟩
  have hx : State.SameReg R.HOST_LAYER_STATE State.reset ((t.setFlag F.AX_OUT_KEY_OK (r.flag F.AX_OUT_KEY_OK)).put F.XK_CFG_PERS r.pers).inputsAgain :=
    ((hl.put (by decide)).put (by decide)).inputsAgain fun b => ⟨by revert b; decide, by revert b; decide⟩
  refine ⟨(hx.put (by decide)).get.trans (by decide +kernel), ?_⟩
  exact State.flag_setFlag_same ⟨by decide, by decide⟩ rfl hx.1

/-! ### The end of a reset (R636-R639) -/

/-- From the straps on, up to KEY_OK: lanes that the personality leaves alone, the cause of the reset, a zeroise under its mark, PFAILn. -/
def State.resetTail (s : State) : State :=
  let t := s.lanesReset fun _ => true
  let t := t.setReg R.SYS_RESET_CAUSE (t.reg R.SYS_RESET_CAUSE ||| BitVec.ofNat 32 t.boot.cause)
  let t := ({ t with boot := { t.boot with cause := 0 } }.modTime fun t => { t with supDown := false }).zeroiseEnd
  if t.pins.pfail then t.pfailFall else t

theorem State.zeroiseEnd_rest : ∃ m g, s.zeroiseEnd = { s with silo := m, gran := g } := by
  unfold State.zeroiseEnd
  split
  · exact ⟨_, _, rfl⟩
  · exact ⟨s.silo, s.gran, rfl⟩

theorem State.pfailFall_rest : ∃ r p g, s.pfailFall = { s with regs := r, power := p, gran := g } := by
  unfold State.pfailFall
  split
  · exact ⟨s.regs, s.power, _, rfl⟩
  · obtain ⟨r, p, f, l, h⟩ := State.failRecord_rest (c := 0)
      (s := s.modGran fun g => { g with pfail := some s.now, closed := false, dumpLost := 0, rose := false })
    exact ⟨r, p, _, h⟩

/-- PFAILn low leaves every register but the one of the Granary's domain. -/
theorem State.SameReg.pfailFall (h : State.SameReg a q s) (ha : a ≠ (F.SYS_PWR_POLICY_STATE (42 : Fin 44).val).addr) :
    State.SameReg a q s.pfailFall := by
  unfold State.pfailFall State.failRecord State.stageRecord State.wakeDomain
  split_ifs
  · exact h.upd rfl
  · exact h.upd rfl
  · exact ((h.upd (t := s.modGran fun g => { g with pfail := some s.now, closed := false, dumpLost := 0, rose := false }) rfl).put
      (n := 3) ha).upd rfl
  · exact h.upd rfl

/-- The lanes that a personality leaves alone: their LN_CFG alone changes (R420). -/
theorem State.SameReg.lanesReset {p : Lane → Bool} (h : State.SameReg a q s) (ha : ∀ n : Lane, a ≠ (F.LN_CFG_ENABLE n.val).addr) :
    State.SameReg a q (s.lanesReset p) :=
  State.SameReg.forEach (fun _ n h => h.put (ha n)) _ h

theorem State.SameReg.resetTail (h : State.SameReg a q s) (hl : ∀ n : Lane, a ≠ (F.LN_CFG_ENABLE n.val).addr)
    (hc : a ≠ R.SYS_RESET_CAUSE) (hp : a ≠ (F.SYS_PWR_POLICY_STATE (42 : Fin 44).val).addr) : State.SameReg a q s.resetTail := by
  unfold State.resetTail
  have h1 (v : Word) : State.SameReg a q ((s.lanesReset fun _ => true).setReg R.SYS_RESET_CAUSE v) := (h.lanesReset hl).setReg hc
  obtain ⟨m, g, hz⟩ := State.zeroiseEnd_rest
  dsimp only
  rw [hz]
  refine State.SameReg.ite (State.SameReg.pfailFall ?_ hp) ?_
  · exact (h1 _).upd rfl
  · exact (h1 _).upd rfl

theorem State.resetTail_boot : s.resetTail.boot.cause = 0 ∧ s.resetTail.time.supDown = false := by
  unfold State.resetTail
  dsimp only
  obtain ⟨m, g, hz⟩ := State.zeroiseEnd_rest
  rw [hz]
  split
  · obtain ⟨r, p, f, hf⟩ := State.pfailFall_rest
    rw [hf]
    exact ⟨rfl, rfl⟩
  · exact ⟨rfl, rfl⟩

/-- RESET_END (R637, R639, R653). -/
theorem State.resetEnd_begins {mode : BitVec 3} {src : BitVec 2} (hs : tabWf regDefault s.regs = true) (hc : s.boot.cause ≠ 0)
    (hd : s.holds.shutdown = false) : ∃ t u, exec (.resetEnd mode src) s = .next t ∧ t = State.axKeyBack u ∧ u.boot.cause = 0 ∧
      u.get F.SYS_STRAPS_MODE = mode.toNat ∧ u.get F.SYS_STRAPS_BOOT_SRC = src.toNat ∧
      u.get F.XK_CFG_PERS = (if mode.toNat < 3 then mode.toNat else 0) ∧ u.flag F.SYS_BOOT_STRAP_ERR = decide (3 ≤ mode.toNat) ∧
      u.time.supDown = false := by
  let s1 := s.put F.SYS_STRAPS_MODE mode.toNat
  let s2 := s1.put F.SYS_STRAPS_BOOT_SRC src.toNat
  let s3 := s2.put F.XK_CFG_PERS (if mode.toNat < 3 then mode.toNat else 0)
  let s4 := s3.setFlag F.SYS_BOOT_STRAP_ERR (decide (3 ≤ mode.toNat))
  have w1 : tabWf regDefault s1.regs = true := State.put_wf hs
  have w2 : tabWf regDefault s2.regs = true := State.put_wf w1
  have w3 : tabWf regDefault s3.regs = true := State.put_wf w2
  have w4 : tabWf regDefault s4.regs = true := State.put_wf w3
  have straps : State.SameReg R.SYS_STRAPS s2 s4.resetTail :=
    (((State.SameReg.refl w2).put (by decide)).put (by decide)).resetTail (by decide) (by decide) (by decide)
  have pers : State.SameReg F.XK_CFG_PERS.addr s3 s4.resetTail :=
    ((State.SameReg.refl w3).put (by decide)).resetTail (by decide) (by decide) (by decide)
  have err : State.SameReg F.SYS_BOOT_STRAP_ERR.addr s4 s4.resetTail :=
    (State.SameReg.refl w4).resetTail (by decide) (by decide) (by decide)
  have hm : mode.toNat < 8 := mode.isLt
  have hr : src.toNat < 4 := src.isLt
  refine ⟨_, s4.resetTail, congrArg Host.Outcome.next (if_neg (by rw [hd]; simp [hc])), rfl, State.resetTail_boot.1, ?_, ?_, ?_, ?_,
    State.resetTail_boot.2⟩
  · rw [straps.get]
    exact (State.get_put_apart ⟨by decide, by decide⟩ ⟨by decide, by decide⟩ (.inr (.inr (by decide))) w1).trans
      ((State.get_put_same ⟨by decide, by decide⟩ hs).trans (Nat.mod_eq_of_lt hm))
  · rw [straps.get]
    exact (State.get_put_same ⟨by decide, by decide⟩ w1).trans (Nat.mod_eq_of_lt hr)
  · rw [pers.get]
    refine (State.get_put_same ⟨by decide, by decide⟩ w2).trans (Nat.mod_eq_of_lt ?_)
    show (if mode.toNat < 3 then mode.toNat else 0) < 4
    split_ifs <;> omega
  · unfold State.flag
    rw [err.get]
    exact State.flag_setFlag_same ⟨by decide, by decide⟩ rfl w3

/-! ### The supervisor pair (R651) -/

/-- No long operation left anything to complete (R648, R651). -/
theorem State.nothing_left (hj : s.gran.journal = none) (hz : s.gran.zeroMark = false) :
    (if s.zeroiseEnd.gran.journal.isSome then (s.zeroiseEnd.sealEnd [] true).1 else s.zeroiseEnd) = s := by
  have h : s.zeroiseEnd = s := by
    unfold State.zeroiseEnd
    rw [hz, if_neg Bool.false_ne_true]
  rw [h, hj]
  exact if_neg Bool.false_ne_true

/-- SUPERVISOR_RESTART_DONE with nothing that a long operation left. -/
theorem State.supervisorRestartDone_plain {ext : BitVec 32} (hr : s.holds.supRestarting = true) (hj : s.gran.journal = none)
    (hz : s.gran.zeroMark = false) : exec (.supervisorRestartDone ext) s = .next
      (State.extCheck (((({ (s.setFlag F.SYS_SUP_RESTARTING false).modEng 20 fun x => x.fresh with
        holds := { s.holds with supHalt := false, supRestarting := false } } : State)).modTime fun t =>
          { t with supDown := false, ext := ext, extWritten := true }).setFlag F.TIME_STATUS_PEND_WRAP false)) := by
  exact congrArg Host.Outcome.next ((if_pos hr).trans (State.nothing_left hj hz))

/-- Settles O53. Resets, boot, the supervisor pair, the rounds of housekeeping. -/
theorem startupComplete : Obligations.StartupComplete := by
  unfold Obligations.StartupComplete
  intro s who ns v ext mode src n r hs down fails q
  have hwf := hs.1
  refine ⟨rfl, fun h => ?_, fun h => ?_, fun hw => ⟨?_, ?_⟩, fun hw => ⟨?_, ?_, ?_⟩, fun c => State.fullReset_keeps, State.coreReset_layer hs,
    fun hc hd => State.resetEnd_begins hwf hc hd, fun h => ?_, fun hl hi => ?_, fun hw => ?_, fun x hx hc => ?_, fun hd hc => ?_,
    fun hr hj hz => ?_, fun hd hsd => ⟨fun i hi => ?_, fun hi => ?_⟩, ⟨fun hr => ?_, fun hr => ?_⟩, fun hw => ?_, fun hw => ?_⟩
  · exact congrArg Host.Outcome.next (if_neg (Nat.not_lt.2 h))
  · exact congrArg Host.Outcome.next (if_pos h)
  · exact congrArg Host.Outcome.next (if_pos hw)
  · exact congrArg Host.Outcome.next (if_pos hw)
  · exact congrArg Host.Outcome.next (if_neg (ne_true_of_eq_false hw))
  · exact congrArg Host.Outcome.next (if_neg (ne_true_of_eq_false hw))
  · exact congrArg Host.Outcome.next (if_neg (ne_true_of_eq_false hw))
  · exact congrArg Host.Outcome.next (if_pos h)
  · intro k a b host t slot
    have hb : (s.loading && s.boot.image.isNone) = true := by
      rw [hl, hi]
      rfl
    refine ⟨fun hh => ?_, fun hh ha hb' => ?_, fun hh hab => ?_⟩
    · exact congrArg Host.Outcome.next ((if_pos hb).trans (if_pos hh))
    · exact congrArg Host.Outcome.next ((if_pos hb).trans ((if_neg hh).trans (if_pos ⟨ha, hb'⟩)))
    · exact congrArg Host.Outcome.next ((if_pos hb).trans ((if_neg hh).trans (if_neg fun h => hab.elim h.1 h.2)))
  · exact congrArg Host.Outcome.next (if_pos hw)
  · show execBootEnd s = _
    unfold execBootEnd
    rw [hx]
    exact congrArg Host.Outcome.next (if_pos hc)
  · intro again a b c d
    have hrun : ¬ (s.time.supDown = true ∨ s.boot.cause ≠ 0) := by
      rw [hd, hc]
      simp
    refine ⟨fun ha => ?_, fun ha => ?_⟩
    · exact congrArg Host.Outcome.next ((if_neg hrun).trans (if_neg (ne_true_of_eq_false ha)))
    · intro e
      exact congrArg Host.Outcome.next ((if_neg hrun).trans (if_pos ha))
  · refine ⟨_, State.supervisorRestartDone_plain hr hj hz, ?_, rfl, rfl, rfl, rfl, rfl, Vector.getElem_set_self _⟩
    exact (State.flag_put_apart ⟨by decide, by decide⟩ ⟨by decide, by decide⟩ (.inl (by decide)) (State.put_wf (State.put_wf hwf))).trans
      ((State.flag_put_apart ⟨by decide, by decide⟩ ⟨by decide, by decide⟩ (.inl (by decide)) (State.put_wf hwf)).trans
        (State.flag_setFlag_same ⟨by decide, by decide⟩ rfl hwf))
  · have hdue : (s.roundDue && !s.holds.shutdown) = true := by
      rw [hd, hsd]
      rfl
    refine congrArg Host.Outcome.next ((if_pos hdue).trans ?_)
    show (match q.1.tooHot r with
      | some i => q.1.shutDown i
      | none => State.lighting (forEach (List.finRange 8) ((q.1.tempDecide q.2).supplies r) fun s a => s.ainNext r a) r) = _
    rw [hi]
  · have hdue : (s.roundDue && !s.holds.shutdown) = true := by
      rw [hd, hsd]
      rfl
    refine congrArg Host.Outcome.next ((if_pos hdue).trans ?_)
    show (match q.1.tooHot r with
      | some i => q.1.shutDown i
      | none => State.lighting (forEach (List.finRange 8) ((q.1.tempDecide q.2).supplies r) fun s a => s.ainNext r a) r) = _
    rw [hi]
  · exact congrArg Host.Outcome.next (if_pos hr)
  · exact congrArg Host.Outcome.next (if_neg (ne_true_of_eq_false hr))
  · exact congrArg Host.Outcome.next (if_pos hw)
  · exact congrArg Host.Outcome.next (if_neg (ne_true_of_eq_false hw))

end Sys2Proof.Machine
end

section
/-! SUPPORT. The list commands of an XK channel (R621-R630). -/

namespace Sys2Proof.Machine

variable {s : State} {h : Chan} {i : Instr} {words : Nat} {bad : Bool} {f : State → State}

/-- XK and mixed personality have XK channels (R611). -/
theorem State.xkOn_of_pers (hp : s.pers ≠ 0) : s.xkOn = true := bne_iff_ne.2 hp

/-- A command that runs as a list command of the channel is a row of the list. -/
theorem State.XkRow.of_cmd (hi : exec i s = .next (s.xkCmd h words bad f)) : s.XkRow h i words bad f := by
  intro hp hr u
  have hx : s.xkCmd h words bad f = if bad then u.chHalt h 1 else ((f u).prunePath (chanBeam h)).pump (chanBeam h) :=
    if_pos (by rw [State.xkOn_of_pers hp, hr]; rfl)
  rw [hi, hx]
  exact ⟨fun hb => by rw [if_pos hb], fun hb => by rw [if_neg (ne_true_of_eq_false hb)]⟩

/-- LIGHT_OFF: the fall of the gate, and the open sequence ends (R621). -/
theorem State.xkLightOff_eq {a : BitVec 24} : s.xkLightOff h a = s.xkCmd h 1 (unnamed a 0) fun u =>
    let q := u.gateTime (chanBeam h) u.xk.chan[h].outT
    (((q.2.placeEdge (chanBeam h) (cellGate (chanBeam h)) { et := q.1, what := .level false }).placeEdge (chanBeam h)
      (cellMod (chanBeam h)) { et := q.1, what := .off }).modTraj (chanBeam h)
        fun j => { j with lastGate := some q.1, seq := none }).modChan h fun c => { c with light := false } := by
  refine congrArg (State.xkCmd s h 1 (unnamed a 0)) (funext fun u => ?_)
  dsimp only

/-- DJNZ: the variable one lower, and the jump while it is not 0 (R621). -/
theorem State.xkDjnz_eq {a : BitVec 24} : s.xkDjnz h a = s.xkCmd h 1 (a.getLsbD 15) fun u =>
    let u := u.put (F.XK_V_V (a.toNat / 65536)) (u.get (F.XK_V_V (a.toNat / 65536)) + 65535)
    if u.get (F.XK_V_V (a.toNat / 65536)) ≠ 0 then u.xkGo h (a.toNat % 32768) else u :=
  congrArg (State.xkCmd s h 1 (a.getLsbD 15)) (funext fun _ => if_congr bne_iff_ne rfl rfl)

/-- Settles O56. Each list command, with the bits that it does not name. -/
theorem xkListComplete : Obligations.XkListComplete := by
  unfold Obligations.XkListComplete
  intro s h a w lit rel b pc n ax v row chan jump
  refine ⟨.of_cmd rfl, .of_cmd rfl, .of_cmd rfl, .of_cmd rfl, .of_cmd rfl, .of_cmd rfl, .of_cmd rfl, .of_cmd rfl, .of_cmd rfl, .of_cmd rfl,
    .of_cmd rfl, .of_cmd rfl, .of_cmd rfl, .of_cmd rfl, .of_cmd rfl, .of_cmd rfl, .of_cmd rfl, .of_cmd rfl, .of_cmd rfl,
    .of_cmd (congrArg Host.Outcome.next State.xkLightOff_eq), .of_cmd rfl, .of_cmd rfl, .of_cmd rfl, .of_cmd rfl, .of_cmd rfl, .of_cmd rfl, .of_cmd rfl,
    .of_cmd rfl, ⟨.of_cmd rfl, .of_cmd rfl, .of_cmd rfl, .of_cmd rfl⟩, .of_cmd rfl, .of_cmd rfl, .of_cmd rfl, .of_cmd rfl, .of_cmd rfl,
    .of_cmd rfl, .of_cmd rfl, .of_cmd rfl, .of_cmd rfl, .of_cmd rfl, .of_cmd (congrArg Host.Outcome.next State.xkDjnz_eq), .of_cmd rfl⟩

end Sys2Proof.Machine
end

section
/-! SUPPORT. The XK block: starts and stops, ticks, waits, frames and ports (R616-R631). -/

namespace Sys2Proof.Machine

variable {s t : State} {who : Reader} {h : Chan} {v : BitVec 16} {a : XAxis} {i : Nat}

/-! ### Starts and stops (R616, R619) -/

/-- A channel as START leaves its registers: in RUN at word i, no fault. -/
def State.chStarted (s : State) (h : Chan) (i : Nat) : State :=
  ((s.put (F.CH_STAT_STATE h.val) 1).put (F.CH_STAT_FAULT h.val) 0).xkGo h i

theorem State.chStarted_now (hs : tabWf regDefault s.regs = true) : (s.chStarted h i).now = s.now :=
  (State.put_now (State.put_wf (State.put_wf hs)) (by decide) (by omega)).trans
    ((State.put_now (State.put_wf hs) (by decide) (by omega)).trans (State.put_now hs (by decide) (by omega)))

/-- The registers that START leaves. -/
theorem State.chStarted_reads (hs : tabWf regDefault s.regs = true) (hi : i < 32768) : (s.chStarted h i).chState h = 1 ∧
    (s.chStarted h i).get (F.CH_STAT_FAULT h.val) = 0 ∧ (s.chStarted h i).chFetch h = i := by
  have h1 := State.put_wf (f := F.CH_STAT_STATE h.val) (n := 1) hs
  have h2 := State.put_wf (f := F.CH_STAT_FAULT h.val) (n := 0) h1
  refine ⟨?_, ?_, ?_⟩
  · exact (State.get_put_word h2 (by decide) (by decide) (by omega)).trans
      ((State.get_put_bits h1 (by decide) (by decide) (by decide)).trans (State.get_put_self hs (by decide)))
  · exact (State.get_put_word h2 (by decide) (by decide) (by omega)).trans (State.get_put_self h1 (by decide))
  · exact (State.get_put_self h2 (by decide)).trans (Nat.mod_eq_of_lt hi)

/-- START of a channel that neither runs nor waits (R616, R619). -/
theorem State.chStart_free (hp : s.pers ≠ 0) (hb : s.chBusy h = false) :
    let i := s.get (F.CH_START_BUF h.val) * 16384 + s.get (F.CH_START_ADDR h.val)
    exec (.chStart who h) s = .next ((s.chStarted h i).modChan h fun c =>
      { c with stack := [], loops := [], wait := none, outT := (s.chStarted h i).nowEt, pcs := [((s.chStarted h i).nowEt, i)] }) :=
  congrArg Host.Outcome.next (if_pos (by rw [State.xkOn_of_pers hp, hb]; rfl))

/-- STOP of some channels: they are owed their stop. -/
theorem State.xkStop_each (l : List Chan) (hp : s.pers ≠ 0) : ∃ x, forEach l s (fun s h => s.xkStop h) = { s with xk := { s.xk with chan := x } } ∧
    ∀ k : Chan, x[k] = if k ∈ l then { s.xk.chan[k] with stopOwed := true } else s.xk.chan[k] := by
  induction l generalizing s with
  | nil => exact ⟨s.xk.chan, rfl, fun k => by rw [if_neg List.not_mem_nil]⟩
  | cons j l ih =>
    have hj : s.xkStop j = s.modChan j fun c => { c with stopOwed := true } := if_pos (State.xkOn_of_pers hp)
    obtain ⟨x, hx, hk⟩ := ih (s := s.modChan j fun c => { c with stopOwed := true }) hp
    refine ⟨x, ?_, fun k => (hk k).trans ?_⟩
    · show forEach l (s.xkStop j) _ = _
      rw [hj]
      exact hx
    · show (if k ∈ l then { (vmod s.xk.chan j _)[k] with stopOwed := true } else (vmod s.xk.chan j _)[k]) = _
      by_cases hkj : k = j
      · subst hkj
        rw [vmod_same, if_pos List.mem_cons_self]
        exact ite_self _
      · rw [vmod_other _ _ hkj]
        simp [hkj]



/-- Settles O55. Starts and stops, ticks, waits, frames and ports of the XK block. -/
theorem xkComplete : Obligations.XkComplete := by
  unfold Obligations.XkComplete
  intro s who h v a hs n c on i port x grid
  have hwf := hs.1
  have taken {p : State} {q : State} (hon : on) : (if s.xkOn then p else q) = p := if_pos (State.xkOn_of_pers hon)
  have wait : exec (.xkWaitResume h) s = .next (s.xkCheck h) := rfl
  refine ⟨fun hon hb => ?_, fun hb => ?_, fun hon => ?_, fun hon => ?_, fun hon => ?_, fun t hon ht hl => ?_, fun hw => ?_, fun m hw => ?_,
    fun k hw hv => ?_, fun hw hst => ?_, fun k hw hx => ?_, fun hw ht => ?_, fun t ht hon he hl => ?_, fun hon => ?_, fun hon hp => ?_,
    fun hon ha => ?_, fun hon hx hg => ?_, fun hon => ?_, fun hon => ?_, fun hon => ?_, fun hon => ?_, fun hon => ?_⟩
  · have hi : i < 32768 := by
      have h1 : s.get (F.CH_START_BUF n) < 2 := bitsOf_lt
      have h2 : s.get (F.CH_START_ADDR n) < 16384 := bitsOf_lt
      omega
    obtain ⟨h1, h2, h3⟩ := State.chStarted_reads (h := h) hwf hi
    have hnow : (s.chStarted h i).nowEt = s.nowEt := congrArg (fun x : Nat => 8 * (x : Int)) (State.chStarted_now hwf)
    refine ⟨_, State.chStart_free hon hb, rfl, h1, h2, h3, (vmod_same ..).trans ?_⟩
    show { c with stack := [], loops := [], wait := none, outT := (s.chStarted h i).nowEt, pcs := [((s.chStarted h i).nowEt, i)] } = _
    rw [hnow]
  · exact congrArg Host.Outcome.next (if_neg (by rw [hb]; simp))
  · exact ⟨_, congrArg Host.Outcome.next (taken hon), rfl, vmod_same ..⟩
  · obtain ⟨y, hy, hk⟩ := State.xkStop_each (List.finRange 4) hon
    exact ⟨_, congrArg Host.Outcome.next hy, rfl, fun k => (hk k).trans (if_pos (List.mem_finRange k))⟩
  · exact congrArg Host.Outcome.next (taken hon)
  · have hdue : (s.xkOn && s.lastTickNs.isSome && decide (s.xk.lastTick ≠ s.lastTickNs)) = true := by
      rw [State.xkOn_of_pers hon, ht, decide_eq_true hl]
      rfl
    show execXkTick s = _
    unfold execXkTick
    rw [if_pos hdue, ht]
    rfl
  · rw [wait]
    unfold State.xkCheck
    rw [show s.xk.chan[h].wait = some .swap from hw]
  · rw [wait]
    unfold State.xkCheck
    rw [show s.xk.chan[h].wait = some (.sync m) from hw]
  · rw [wait]
    unfold State.xkCheck
    rw [show s.xk.chan[h].wait = some (.var k) from hw]
    exact congrArg Host.Outcome.next (if_pos hv)
  · rw [wait]
    unfold State.xkCheck
    rw [show s.xk.chan[h].wait = some .t4 from hw]
    exact congrArg Host.Outcome.next (if_pos hst)
  · rw [wait]
    unfold State.xkCheck
    rw [show s.xk.chan[h].wait = some (.ax k) from hw]
    exact congrArg Host.Outcome.next (if_pos hx)
  · rw [wait]
    unfold State.xkCheck
    rw [show s.xk.chan[h].wait = some .idle from hw]
    exact congrArg Host.Outcome.next (if_pos ht)
  · show execXy2Frame s = _
    unfold execXy2Frame
    rw [ht]
    exact congrArg Host.Outcome.next (if_pos (by rw [State.xkOn_of_pers hon, he, decide_eq_true hl]; rfl))
  · exact ⟨_, congrArg Host.Outcome.next (taken hon), rfl⟩
  · exact congrArg Host.Outcome.next ((taken hon).trans (congrArg State.listStep (if_pos hp)))
  · refine ⟨_, congrArg Host.Outcome.next (taken hon), rfl, ?_⟩
    refine (State.get_put_same ⟨by decide, by decide⟩ hwf).trans (Nat.mod_eq_of_lt ?_)
    show s.get F.LIST_ADDR_ADDR + 1 < 16384
    omega
  · exact congrArg Host.Outcome.next ((taken hon).trans (congrArg State.corrStep (if_pos ⟨hx, hg⟩)))
  · exact congrArg Host.Outcome.next (taken hon)
  · exact congrArg Host.Outcome.next (taken hon)
  · exact congrArg Host.Outcome.next (taken hon)
  · exact ⟨_, congrArg Host.Outcome.next (taken hon), rfl, vmod_same ..⟩
  · refine ⟨_, congrArg Host.Outcome.next (taken hon), rfl, ?_⟩
    exact (congrArg (fun y : Vector (BitVec 16) 2 => y[a]) (vmod_same ..)).trans (Vector.getElem_set_self _)

end Sys2Proof.Machine
end

section
/-! SUPPORT. Reset and idling (R10, R93): the statement on the clock's tick speaks of register tables in any order, and one that holds
TIME_STATUS twice shows the second entry once the first is its reset value. -/

namespace Sys2Proof.Machine

/-- A time base that runs, in the nanosecond behind a step, with a phase to correct and SLEW_PPM 500. Its register table holds
TIME_STATUS twice: EXT_VALID, which the tick clears, and behind it LOCKED, which no read finds. -/
def statusTwice : State :=
  { State.reset with
    regs := [(F.TIME_STATUS_LOCKED.addr, 2), (F.TIME_STATUS_LOCKED.addr, 1), (F.TIME_CTRL_SLEW_PPM.addr, 500)]
    time := { State.reset.time with running := true, stepping := true, phase := -(2 ^ 40) } }

/-- Refutes O60: nothing in its last clause asks for a register table in canonical form, and in `statusTwice` the tick steers although
LOCKED is 0 when it begins. -/
theorem not_resetAndIdle : ¬ Obligations.ResetAndIdle := by
  unfold Obligations.ResetAndIdle
  rintro ⟨-, -, -, -, -, -, -, -, -, h⟩
  exact absurd (h statusTwice rfl (by decide +kernel) (by decide +kernel)) (by decide +kernel)

end Sys2Proof.Machine
end

section
/-! SUPPORT. Comparisons of times (R103, R104) and the cells (R19-R22, R109-R114). -/

namespace Sys2Proof.Machine

variable {s : State} {c : Cell} {x : Cell × Edge}

/-! ### Times as signed differences (R103, R104) -/

/-- The two's complement reading of the low w bits of an integer. -/
theorem sgn_wrap {w : Nat} (hw : 0 < w) (i : Int) : sgn w (wrap w i) = (BitVec.ofInt w i).toInt := by
  have hx : wrap w i = (BitVec.ofInt w i).toNat := (BitVec.toNat_ofInt i).symm
  have hp : 2 ^ w = 2 * 2 ^ (w - 1) := by rw [← pow_succ', Nat.sub_add_cancel hw]
  rw [hx, BitVec.toInt_eq_toNat_cond]
  unfold sgn
  rw [Nat.mod_eq_of_lt (BitVec.isLt _)]
  exact if_congr (by omega) rfl rfl

/-- Settles O38. Times compare as signed differences of 64 bits, or of 32 while EXT_VALID is 0. -/
theorem timeComparisons : Obligations.TimeComparisons := by
  unfold Obligations.TimeComparisons
  intro s t u valid
  refine ⟨fun hv => ?_, fun hv => ?_, ?_⟩
  · unfold State.reached
    rw [if_pos hv, sgn_wrap (by decide), decide_eq_true_iff]
  · unfold State.reached
    rw [if_neg (ne_true_of_eq_false hv), sgn_wrap (by decide), decide_eq_true_iff]
  · unfold State.timeRefused
    rw [sgn_wrap (by decide), Bool.and_eq_true, decide_eq_true_iff, Bool.not_eq_true']

/-! ### The cells (R109-R114) -/

/-- An edge that is in time behind the queued ones enters the queue (R22, R110). -/
theorem State.enterCell_inTime {e : Edge} (hc : s.cellOut c = true) (he : e.exempt = false) (ha : 320 ≤ s.etAhead e.et)
    (hl : ∀ y, s.cells[c].q.getLast? = some y → y.et ≤ e.et) : s.enterCell c e = s.modCell c fun y => { y with q := y.q ++ [e] } := by
  unfold State.enterCell
  rw [if_neg (by rw [hc]; simp), if_neg (by rw [he]; simp)]
  cases hq : s.cells[c].q.getLast? with
  | none => exact if_neg (Int.not_lt.2 ha)
  | some y => exact (if_neg (Int.not_lt.2 (hl y hq))).trans (if_neg (Int.not_lt.2 ha))

/-- The first edge on its way to the cell enters its queue. -/
theorem State.nextEntry_inTime (hx : s.transit.find? (fun x => decide (x.1 = c)) = some x) (hc : s.cellOut c = true) (he : x.2.exempt = false)
    (ha : 320 ≤ s.etAhead x.2.et) (hl : ∀ y, s.cells[c].q.getLast? = some y → y.et ≤ x.2.et) :
    s.nextEntry c = { s with transit := s.transit.eraseP fun y => decide (y.1 = c) }.modCell c fun y => { y with q := y.q ++ [x.2] } := by
  unfold State.nextEntry
  rw [hx]
  exact State.enterCell_inTime hc he ha hl

/-- A general cell's number, and that it is no alarm's. -/
theorem generalCell_general (n : Fin 16) : isAlarm (generalCell n) = false ∧ generalOf (generalCell n) = some n := by
  revert n
  decide

/-- Settles O36. An edge's way into its queue and out of it, an input's capture, a producer that goes on. -/
theorem cellsComplete : Obligations.CellsComplete := by
  unfold Obligations.CellsComplete
  intro s c p n level frac
  refine ⟨fun x hr hc hx he ha hl => ?_, fun x rest hc hr hq ht => ?_, fun hc hw hl => ?_, rfl, rfl, fun b => rfl, fun e => rfl,
    fun e i hw hlive hh => ?_⟩
  · rw [State.nextEntry_inTime hx hc he ha hl]
    refine ⟨?_, congrArg CellSt.q (vmod_same ..), rfl⟩
    rw [← State.nextEntry_inTime hx hc he ha hl]
    exact congrArg Host.Outcome.next (if_pos hr)
  · refine congrArg (fun y => Host.Outcome.next (State.axNote s y c)) ?_
    unfold State.releaseHead
    rw [if_pos (by rw [hc, hr]; rfl), hq]
    exact if_pos ht
  · obtain ⟨hal, hg⟩ := generalCell_general n
    have hwant : ((level && (s.get (F.TIME_GCELL_CFG_EDGE n.val)).testBit 0) ||
        (!level && (s.get (F.TIME_GCELL_CFG_EDGE n.val)).testBit 1)) = true := by
      cases level
      · simpa using hw
      · simpa using hw
    have hq : (s.modCell (generalCell n) fun y => { y with level := level }).cells[generalCell n].q = s.cells[generalCell n].q :=
      (congrArg CellSt.q (vmod_same ..)).trans rfl
    have hroom : ¬ 16 ≤ (s.modCell (generalCell n) fun y => { y with level := level }).cells[generalCell n].q.length := by
      rw [hq]
      omega
    refine ⟨(s.modCell (generalCell n) fun y => { y with level := level }).modCell (generalCell n) fun y =>
      { y with q := y.q ++ [⟨s.nowEt + frac.val, .level level, none, false⟩] }, ?_, rfl, ?_, ?_⟩
    · show execInputEdgeCapture (generalCell n) level frac s = _
      unfold execInputEdgeCapture
      dsimp only
      rw [if_neg (ne_true_of_eq_false hc), if_neg (ne_true_of_eq_false hal), hg]
      dsimp only
      rw [if_neg (by rw [hwant]; simp)]
      exact congrArg Host.Outcome.next (if_neg hroom)
    · exact (congrArg CellSt.level (vmod_same ..)).trans (congrArg CellSt.level (vmod_same ..))
    · exact (congrArg CellSt.q (vmod_same ..)).trans (congrArg (· ++ [_]) hq)
  · unfold State.retryStall
    rw [hw]
    exact if_pos (by rw [hlive, hh]; rfl)

end Sys2Proof.Machine
end

section
/-! SUPPORT. The samples of the feedback loops: when one is due, overruns, changes of rate (R305-R309, R334, R335). -/

namespace Sys2Proof.Machine

variable {s : State} {b : Sys2Proof.Beam} {k p : Nat}

/-- A sample that is due stands at a multiple of its period, not after now, and a swath of the beam takes samples (R308). -/
theorem State.loopDue_some (h : s.loopDue b = some (k, p)) : p = periodOf (s.rateEff b) ∧ k = s.now / p * p ∧
    (s.beam[b].swaths.any fun w => w.sampled) = true := by
  unfold State.loopDue at h
  dsimp only at h
  obtain ⟨hc, hx⟩ := Option.ite_none_right_eq_some.1 h
  obtain ⟨rfl, rfl⟩ := Prod.mk.inj (Option.some.inj hx)
  rw [Bool.and_eq_true, Bool.and_eq_true] at hc
  exact ⟨rfl, rfl, hc.1.1⟩

/-- A swath that takes samples stands in one of four states (R308). -/
theorem Swath.state_of_sampled {w : Swath} (h : w.sampled = true) :
    w.state = .run ∨ w.state = .suppress ∨ w.state = .handler ∨ w.state = .stopping := by
  unfold Swath.sampled at h
  revert h
  cases w.state <;> simp

/-- LOOP_SAMPLE of a sample that is due asks for the loop engine's domain (R41, R308). -/
theorem State.loopSample_due (h : s.loopDue b = some (k, p)) :
    exec (.loopSample b) s = .next (s.askSoon [20] fun s => s.loopSample b k p) := by
  show execLoopSample b s = _
  unfold execLoopSample
  rw [h]

/-- Settles O40. Samples, overruns and changes of rate. -/
theorem loopSamplesComplete : Obligations.LoopSamplesComplete := by
  unfold Obligations.LoopSamplesComplete
  intro s b n
  refine ⟨fun k p h hon => ?_, fun k p h hoff => ?_, fun k p h => ?_, fun h => ?_, fun r hr hd hm => ?_, fun r t hr hd => ?_⟩
  · rw [State.loopSample_due h, State.askSoon_one hon]
  · rw [State.loopSample_due h]
    exact congrArg Host.Outcome.next (if_neg (by rw [List.all_cons, hoff]; exact Bool.false_ne_true))
  · obtain ⟨hp, hk, hw⟩ := State.loopDue_some h
    obtain ⟨w, hm, hs⟩ := List.any_eq_true.1 hw
    refine ⟨hp, ?_, ?_, w, hm, Swath.state_of_sampled hs⟩
    · rw [hk]
      exact Nat.mul_mod_left ..
    · rw [hk]
      exact Nat.div_mul_le_self ..
  · show execLoopOverrun b s = _
    unfold execLoopOverrun
    cases s.loops[b].next with
    | none => rfl
    | some r => exact congrArg Host.Outcome.next (if_neg (by rw [h, Bool.and_false]; exact Bool.false_ne_true))
  · intro v w u
    have hx : exec (.loopOverrun b) s = .next (if u.get (F.LOOP_BEAM_STAT_OVR_RUN n) = 4 then
        ((u.setFlag (F.LOOP_BEAM_STAT_CAPPED n) true).setFlag (F.LOOP_BEAM_STAT_PAUSED n) true).loopEvent b 2 else u) := by
      show execLoopOverrun b s = _
      unfold execLoopOverrun
      rw [hr]
      exact congrArg Host.Outcome.next (if_pos (by rw [hd, hm]; rfl))
    rw [hx]
    exact ⟨fun h => congrArg Host.Outcome.next (if_neg h), fun h => congrArg Host.Outcome.next (if_pos h)⟩
  · show execRateEffChange b s = _
    unfold execRateEffChange
    rw [hr]
    exact congrArg Host.Outcome.next (if_pos hd)

end Sys2Proof.Machine
end

section
/-! SUPPORT. Camera frames, settings, units and the enabling of a stream (R346-R378). -/

namespace Sys2Proof.Machine

variable {s : State} {n : Stream} {p : Fin 4} {who : Reader} {v : BitVec 32}

/-! ### Frames -/

/-- A LINE of a stream on which a frame lands in slot i (R353). -/
theorem State.line_landing {lo line ofs : BitVec 16} {data : List (BitVec 8)} {i : Fin 4} (h : s.landingSlot n = some i) :
    exec (.line n lo line ofs data) s = .next (
      let x := s.streams[n].slots[i]
      let lb := lineBytes x.frame
      if lo.toNat = x.frame.frameNo.toNat % 65536 ∧ line.toNat = x.line ∧ ofs.toNat = x.ofs ∧ 1 ≤ data.length ∧
          data.length ≤ 256 ∧ x.ofs + data.length ≤ lb ∧ x.line < x.frame.height.toNat then
        let u := (s.siloPut (s.camSlot n i + 64 + s.camStride n * x.line + x.ofs) data).modSlot n i fun y =>
          if x.ofs + data.length = lb then { y with line := y.line + 1, ofs := 0 } else { y with ofs := x.ofs + data.length }
        u.pipeKick (u.pipeOf n)
      else s.dropLanding n true) := by
  show execLine n lo line ofs data s = _
  unfold execLine
  rw [h]

/-- A FRAME_END with the number of the frame that lands in slot i (R352-R354). -/
theorem State.frameEnd_landing {no : BitVec 32} {lines : BitVec 16} {status : BitVec 8} {i : Fin 4} (h : s.landingSlot n = some i)
    (hno : no = s.streams[n].slots[i].frame.frameNo) :
    exec (.frameEnd n no lines status) s = .next (
      let x := s.streams[n].slots[i]
      if lines ≠ x.frame.height ∨ status ≠ 0 ∨ x.line ≠ x.frame.height.toNat then s.dropLanding n true
      else
        let a := s.siloPut (s.camSlot n i) (camHeader x.frame status x.tSof (wrap 64 ((x.tSof : Int) - x.frame.expAgo.toNat)) x.dropped
          x.gap s.now)
        let b := ((a.put (F.IMG_CAM_STAT_GEN_SEEN n.val) x.frame.gen.toNat).setFlag (F.IMG_CAM_STAT_LOST n.val) false).put
          (F.IMG_CAM_FRAME_FRAME_NO n.val) no.toNat
        let c := ((b.put (F.IMG_CAM_CNT_GAP n.val) (min 255 (b.get (F.IMG_CAM_CNT_GAP n.val) + x.gap))).modStream n fun y =>
          { y with landed := some (no, x.tSof), discards := 0, next := i + 1 }).lateSet n x.frame
        let d := if x.decim then c.freeSlot n i else c.modSlot n i fun y => { y with step := .ready }
        d.pipeKick (d.pipeOf n)) := by
  show execFrameEnd n no lines status s = _
  unfold execFrameEnd
  rw [h]
  exact congrArg Host.Outcome.next (if_neg fun hx => hx hno)

/-! ### Settings -/

/-- Sending a CAM_SET touches the lane that carries it and the instant of sending. -/
theorem State.sendCamSet_rest (s : State) (n : Stream) :
    ∃ x y, s.sendCamSet n = { s with streams := x, lanes := y } ∧ x[n].commits = s.streams[n].commits := by
  unfold State.sendCamSet
  split
  · split_ifs
    · exact ⟨_, _, rfl, (congrArg StreamSt.commits (vmod_same ..)).trans rfl⟩
    · exact ⟨s.streams, s.lanes, rfl, rfl⟩
  · exact ⟨s.streams, s.lanes, rfl, rfl⟩

/-! ### The register of a stream -/

/-- The row of IMG_CAM_CFG (R378). -/
def camCfgRow : RegD :=
  ⟨0xF0060100, 20, 0x80, 1, 0x1, 0x10000, [⟨0, 0, .ro, .rw, .none, false⟩, ⟨1, 1, .ro, .rw, .none, false⟩, ⟨2, 2, .ro, .rw, .none, false⟩,
    ⟨5, 4, .ro, .rw, .none, false⟩, ⟨7, 6, .ro, .rw, .none, false⟩, ⟨10, 8, .ro, .rw, .none, false⟩, ⟨20, 16, .ro, .rw, .above 16 16, false⟩]⟩

theorem regFind_camCfg : ∀ n : Stream, regFind (R.IMG_CAM_CFG n.val) = some camCfgRow := by decide +kernel

/-- Writes of the fields of a list leave bits that none of them covers. -/
theorem bitsOf_foldl_write_apart {sup : Bool} {w v : Word} {hi lo : Nat} (hl : lo ≤ hi) {l : List FieldD}
    (h : ∀ f ∈ l, f.lo ≤ f.hi ∧ f.hi < 32 ∧ (f.hi < lo ∨ hi < f.lo)) :
    bitsOf (l.foldl (fun w f => if (fun _ => true) (f.access sup) then f.write sup w v else w) w) hi lo = bitsOf w hi lo := by
  induction l generalizing w with
  | nil => rfl
  | cons f l ih =>
    obtain ⟨h1, h2, h3⟩ := h f (List.mem_cons_self ..)
    exact (ih fun g hg => h g (List.mem_cons_of_mem _ hg)).trans (FieldD.bits_write_apart h1 h2 hl h3)

theorem camCfgRow_write_enable {old v : Word} : bitsOf (camCfgRow.write true (fun _ => true) old v) 0 0 = bitsOf v 0 0 := by
  have hrow : camCfgRow.write true (fun _ => true) old v = camCfgRow.fields.tail.foldl
      (fun w f => if (fun _ => true) (f.access true) then f.write true w v else w)
      (FieldD.write ⟨0, 0, .ro, .rw, .none, false⟩ true old v) := rfl
  rw [hrow, bitsOf_foldl_write_apart (Nat.le_refl 0) (by decide)]
  exact FieldD.bits_write_plain (f := ⟨0, 0, .ro, .rw, .none, false⟩) (Nat.le_refl 0) (by decide) (.inl rfl) rfl

/-- ENABLE after a write of IMG_CAM_CFG from the supervisor view: bit 0 of the word written. -/
theorem State.enable_plainWrite (hs : tabWf regDefault s.regs = true) :
    (s.plainWrite (R.IMG_CAM_CFG n.val) true v).get (F.IMG_CAM_CFG_ENABLE n.val) = bitsOf v 0 0 := by
  have hw : s.written (R.IMG_CAM_CFG n.val) true (fun _ => true) v = camCfgRow.write true (fun _ => true) (s.reg (R.IMG_CAM_CFG n.val)) v := by
    unfold State.written
    rw [regFind_camCfg]
  unfold State.get State.plainWrite
  rw [State.reg_setReg_same hs, hw]
  exact camCfgRow_write_enable

theorem bit0_or_one : bitsOf (v ||| 1#32) 0 0 = 1 := by
  show (v ||| 1#32).toNat / 1 % 2 = 1
  rw [Nat.div_one, Nat.mod_two_eq_one_iff_testBit_zero]
  simp

theorem bit0_and_not_one : bitsOf (v &&& 0xFFFFFFFE#32) 0 0 = 0 := by
  show (v &&& 0xFFFFFFFE#32).toNat / 1 % 2 = 0
  rw [Nat.div_one, Nat.mod_two_eq_zero_iff_testBit_zero]
  simp

/-- The registers of a camera stream lie with the pipeline that its PIPE names. -/
theorem State.domainOfReg_cam {a : Nat} (hb : blockNo a = 6) (hp : indexIn a (R.IMG_PIPE_STAT 0) 4 4 = none)
    (ha : 0xF0060100 + 0x80 * n.val ≤ a ∧ a < 0xF0060100 + 0x80 * n.val + 0x80) :
    s.domainOfReg a = some (domPipe (s.pipeOf n)) := by
  have hi : (a - R.IMG_CAM_CFG 0) / 0x80 = n.val := by
    show (a - 0xF0060100) / 0x80 = n.val
    omega
  have hn := n.isLt
  unfold State.domainOfReg
  dsimp only
  rw [hb, hp]
  have hin : R.IMG_CAM_CFG 0 ≤ a ∧ a < R.IMG_CAM_CFG 20 := by
    show 0xF0060100 ≤ a ∧ a < 0xF0060100 + 0x80 * 20
    omega
  exact (if_pos hin).trans (by rw [hi]; rfl)

theorem camRegs_window : ∀ n : Stream, blockNo (R.IMG_CAM_CFG n.val) = 6 ∧ indexIn (R.IMG_CAM_CFG n.val) (R.IMG_PIPE_STAT 0) 4 4 = none ∧
    blockNo (R.IMG_CAM_CTX n.val) = 6 ∧ indexIn (R.IMG_CAM_CTX n.val) (R.IMG_PIPE_STAT 0) 4 4 = none := by decide +kernel

/-- A request to a register of a camera stream, while its pipeline is ON (R41). -/
theorem State.askReg_cam {a : Nat} {i : Asked} {k : State → State} (ha : s.domainOfReg a = some (domPipe (s.pipeOf n)))
    (hon : s.domainOn (domPipe (s.pipeOf n)) = true) : s.askReg a i k = k (s.touch (domPipe (s.pipeOf n))) := by
  unfold State.askReg State.regReady State.touchReg
  rw [ha]
  exact if_pos hon

/-! ### The statement's parts -/

theorem State.camSetCommit_sets {target : BitVec 32} (hs : s.Canon) :
    let g := (s.get (F.IMG_CAM_STAT_GEN n.val) + 1) % 256
    ∃ t, exec (.camSetCommit n target) s = .next t ∧ t = { s with regs := t.regs, streams := t.streams, lanes := t.lanes } ∧
      t.get (F.IMG_CAM_STAT_GEN n.val) = g ∧ t.flag (F.IMG_CAM_STAT_SET_PEND n.val) = true ∧
      t.streams[n].commits = s.streams[n].commits ++ [⟨target, BitVec.ofNat 8 g⟩] := by
  intro g
  let a := (s.put (F.IMG_CAM_STAT_GEN n.val) g).setFlag (F.IMG_CAM_STAT_SET_PEND n.val) true
  have hwf := hs.1
  have hput : tabWf regDefault (s.put (F.IMG_CAM_STAT_GEN n.val) g).regs = true := State.put_wf hwf
  have hg : a.get (F.IMG_CAM_STAT_GEN n.val) = g :=
    (State.get_put_bits hput (by decide) (by decide) (by decide)).trans
      ((State.get_put_self hwf (by decide)).trans (Nat.mod_eq_of_lt (Nat.mod_lt _ (by decide))))
  have hp : a.flag (F.IMG_CAM_STAT_SET_PEND n.val) = true := bne_iff_ne.2 (by
    unfold a State.setFlag
    rw [State.get_put_self hput (by decide)]
    decide)
  obtain ⟨x, y, hsend, hcom⟩ := State.sendCamSet_rest (a.modStream n fun x => { x with
    camSet := a.camSetPayload n target, commits := x.commits ++ [⟨target, BitVec.ofNat 8 (a.get (F.IMG_CAM_STAT_GEN n.val))⟩], camSent := none }) n
  refine ⟨_, congrArg Host.Outcome.next hsend, rfl, hg, hp, hcom.trans ((congrArg StreamSt.commits (vmod_same ..)).trans ?_)⟩
  dsimp only
  rw [hg]
  rfl

/-- A write of IMG_CAM_CFG by a request of the supervisor view, the stream's pipeline being ON (R41). -/
theorem State.streamWrite_on (hv : s.supView who = true) (hon : s.domainOn (domPipe (s.pipeOf n)) = true) :
    exec (.streamEnable who n v) s = .next ((s.touch (domPipe (s.pipeOf n))).camCfgWrite n true (v ||| 1#32)) ∧
    exec (.streamDisable who n v) s = .next ((s.touch (domPipe (s.pipeOf n))).camCfgWrite n true (v &&& 0xFFFFFFFE#32)) ∧
    exec (.imgCamCtxWrite who n v) s = .next ((s.touch (domPipe (s.pipeOf n))).camCtxWrite n true v) := by
  obtain ⟨hb, hp, hb', hp'⟩ := camRegs_window n
  have hcfg : s.domainOfReg (R.IMG_CAM_CFG n.val) = some (domPipe (s.pipeOf n)) := State.domainOfReg_cam hb hp (by
    show 0xF0060100 + 0x80 * n.val ≤ 0xF0060100 + 0x80 * n.val ∧ 0xF0060100 + 0x80 * n.val < _
    omega)
  have hctx : s.domainOfReg (R.IMG_CAM_CTX n.val) = some (domPipe (s.pipeOf n)) := State.domainOfReg_cam hb' hp' (by
    show 0xF0060100 + 0x80 * n.val ≤ 0xF0060110 + 0x80 * n.val ∧ 0xF0060110 + 0x80 * n.val < _
    omega)
  have hview : (s.touch (domPipe (s.pipeOf n))).supView who = true := by
    rw [← hv]
    cases who <;> rfl
  refine ⟨congrArg Host.Outcome.next ((State.askReg_cam hcfg hon).trans ?_), congrArg Host.Outcome.next ((State.askReg_cam hcfg hon).trans ?_),
    congrArg Host.Outcome.next ((State.askReg_cam hctx hon).trans ?_)⟩ <;> rw [hview]

theorem State.unitComplete_ends {r : UnitRun} (h : s.pipes[p].run = some r) :
    let u := s.modPipe p fun q => { q with run := none }
    let k := r.stream
    let x := u.streams[k].slots[r.slot]
    let data := r.at_ + 64
    let size := r.stride * x.frame.height.toNat
    let y := u.siloFix data size
    let img := y.img x.frame data r.stride y.streams[k].block
    let read := forEach img.tables y fun s t => s.siloFix t.1 t.2
    let w := State.writeStats (forEach (List.finRange 4) read fun s o => s.writeOutput k p x.frame.frameNo img o) k r.slot img
    exec (.unitComplete p) s = .next (State.pipeKick (
      if r.dead then u
      else if r.cut then u.freeSlot k r.slot
      else if u.silo.badIn data size then ((u.freeSlot k r.slot).count (F.IMG_CAM_CNT_DAMAGED k.val)).pipeEvent p 3 k
      else if r.last then (State.modStream { w with free := w.free + 1 } k fun x => { x with count := x.count + 1 }).freeSlot k r.slot
      else u.modSlot k r.slot fun x => { x with stripe := x.stripe + 1 }) p) := by
  intros
  show execUnitComplete p s = _
  unfold execUnitComplete
  rw [h]

/-- Settles O41. Frames by the slot in which one lands; settings, units and enabling by the conditions of each command. -/
theorem thresherComplete : Obligations.ThresherComplete := by
  unfold Obligations.ThresherComplete
  refine ⟨?_, ?_⟩
  · intro s n f stamp i lo line ofs lines data no status x lb inOrder
    refine ⟨fun hup => ⟨fun h => ?_, fun h => ?_⟩, fun hl hin => ?_, fun hl hin => ?_, fun hl hno h => ?_, fun hl hno h1 h2 h3 => ?_⟩
    · exact congrArg Host.Outcome.next ((if_pos hup).trans (if_pos h))
    · exact congrArg Host.Outcome.next ((if_pos hup).trans (if_neg (ne_true_of_eq_false h)))
    · exact (State.line_landing hl).trans (congrArg Host.Outcome.next (if_pos hin))
    · exact (State.line_landing hl).trans (congrArg Host.Outcome.next (if_neg hin))
    · exact (State.frameEnd_landing hl hno).trans (congrArg Host.Outcome.next (if_pos h))
    · exact (State.frameEnd_landing hl hno).trans (congrArg Host.Outcome.next (if_neg (by
        rintro (h | h | h)
        · exact h h1
        · exact h h2
        · exact h h3)))
  · intro s n p target who v hs m g cfg
    refine ⟨State.camSetCommit_sets hs, fun hp hsent => ?_, fun h => ⟨_, congrArg Host.Outcome.next (if_pos h), rfl, vmod_same ..⟩,
      fun r hr => ?_, fun hv hon => ?_⟩
    · refine congrArg Host.Outcome.next (if_pos ?_)
      rw [hp, Bool.true_and]
      split
      next t ht => exact hsent t ht
      next => rfl
    · intro u k x data size bad y img read w
      have hx := State.unitComplete_ends hr
      refine ⟨fun h => ?_, fun h h2 => ?_, fun h h2 h3 => ?_, fun h h2 h3 h4 => ?_, fun h h2 h3 h4 => ?_⟩
      · exact hx.trans (congrArg (fun z : State => Host.Outcome.next (z.pipeKick p)) (if_pos h))
      · exact hx.trans (congrArg (fun z : State => Host.Outcome.next (z.pipeKick p)) ((if_neg (ne_true_of_eq_false h)).trans (if_pos h2)))
      · exact hx.trans (congrArg (fun z : State => Host.Outcome.next (z.pipeKick p)) ((if_neg (ne_true_of_eq_false h)).trans
          ((if_neg (ne_true_of_eq_false h2)).trans (if_pos h3))))
      · exact hx.trans (congrArg (fun z : State => Host.Outcome.next (z.pipeKick p)) ((if_neg (ne_true_of_eq_false h)).trans
          ((if_neg (ne_true_of_eq_false h2)).trans ((if_neg h3).trans (if_pos h4)))))
      · exact hx.trans (congrArg (fun z : State => Host.Outcome.next (z.pipeKick p)) ((if_neg (ne_true_of_eq_false h)).trans
          ((if_neg (ne_true_of_eq_false h2)).trans ((if_neg h3).trans (if_neg (ne_true_of_eq_false h4))))))
    · intro s' t t'
      obtain ⟨hen, hdis, hctx⟩ := State.streamWrite_on (n := n) (v := v) hv hon
      have ht : t.flag (F.IMG_CAM_CFG_ENABLE m) = true := bne_iff_ne.2 fun h =>
        Nat.one_ne_zero (bit0_or_one.symm.trans ((State.enable_plainWrite hs.1).symm.trans h))
      have ht' : t'.flag (F.IMG_CAM_CFG_ENABLE m) = false := bne_eq_false_iff_eq.2 ((State.enable_plainWrite hs.1).trans bit0_and_not_one)
      refine ⟨ht, ht', fun h h0 => ?_, fun h h0 => ?_, fun h => ?_, fun h hr => ?_, hctx⟩
      · exact hen.trans (congrArg Host.Outcome.next ((if_neg (ne_true_of_eq_false h)).trans ((if_pos ht).trans (if_pos h0))))
      · exact hen.trans (congrArg Host.Outcome.next ((if_neg (ne_true_of_eq_false h)).trans ((if_pos ht).trans (if_neg h0))))
      · exact hdis.trans (congrArg Host.Outcome.next ((if_neg (ne_true_of_eq_false h)).trans (if_neg (ne_true_of_eq_false ht'))))
      · intro d u keep
        refine hdis.trans (congrArg Host.Outcome.next ((if_pos h).trans ((if_neg fun hx => hx.2 hr).trans
          ((if_neg (ne_true_of_eq_false ht')).trans ?_))))
        have hkeep : (fun (t : State) (i : Fin 4) => bif keep i then t else t.freeSlot n i) =
            fun t i => if keep i then t else t.freeSlot n i := by
          funext t i
          exact Bool.cond_eq_ite ..
        rw [hkeep]
        rfl

end Sys2Proof.Machine
end

section
/-! SUPPORT. The barn key: renewal, quorum, expiry, release, election (R473-R477). -/

namespace Sys2Proof.Machine

variable {s : State} {node : Node} {x : List (BitVec 8)}

/-- n octets spell a number below 2^(8 n). -/
theorem octAt_lt (x : List (BitVec 8)) (o n : Nat) : octAt x o n < 2 ^ (8 * n) := by
  unfold octAt
  have hlen : ((x.drop o).take n).length ≤ n := List.length_take_le ..
  generalize (x.drop o).take n = l at hlen
  refine lt_of_lt_of_le (b := 2 ^ (8 * l.length)) ?_ (Nat.pow_le_pow_right (by decide) (Nat.mul_le_mul_left 8 hlen))
  clear hlen
  induction l with
  | nil => exact Nat.one_pos
  | cons b l ih =>
    have hb := b.isLt
    rw [List.foldr_cons, List.length_cons, Nat.mul_add, Nat.pow_add]
    omega

/-- A word of as many bits holds the number that octets spell. -/
theorem octAt_toNat (x : List (BitVec 8)) (o n : Nat) : (BitVec.ofNat (8 * n) (octAt x o n)).toNat = octAt x o n :=
  Nat.mod_eq_of_lt (octAt_lt x o n)

/-- The RENEW read holds the octets' numbers (R471). -/
theorem Renew.read_fields : (Renew.read node x).node = node ∧ (Renew.read node x).gen.toNat = octAt x 4 4 ∧
    (Renew.read node x).tSend.toNat = octAt x 8 8 ∧ (Renew.read node x).layer.toNat = octAt x 16 1 ∧
    (Renew.read node x).tB.toNat = octAt x 24 8 :=
  ⟨rfl, octAt_toNat x 4 4, octAt_toNat x 8 8, octAt_toNat x 16 1, octAt_toNat x 24 8⟩

/-- A node excludes nothing of a release it has heard (R475). -/
theorem health_of_released {h : HealthRec} {l : List HealthRec} (hm : h ∈ l.map fun h => if h.node = node then { h with good := none } else h)
    (hn : h.node = node) : h.good = none := by
  obtain ⟨g, -, rfl⟩ := List.mem_map.1 hm
  by_cases hg : g.node = node
  · rw [if_pos hg]
  · rw [if_neg hg] at hn
    exact absurd hn hg

/-- Settles O47. Each command of the key by its condition. -/
theorem barnKeyComplete : Obligations.BarnKeyComplete := by
  unfold Obligations.BarnKeyComplete
  intro s node x f on m gen tSend hold low
  refine ⟨fun h1 h2 h3 => ?_, Renew.read_fields, fun hn h => ?_, fun hn h => ?_, fun h1 h2 h3 => ?_, fun t ht h1 h2 h3 => ?_,
    fun h1 h2 h3 => ?_, fun h1 h2 h3 h4 => ?_, fun t ht h1 h2 h3 h4 h5 => ?_, fun e c t he hv h => ?_, fun e t he hv ht h => ?_,
    fun h1 h2 h3 h4 h c hx => ?_, fun h1 h2 h3 h4 => ?_, fun h1 h2 h3 h4 => ?_, rfl, rfl⟩
  · exact congrArg Host.Outcome.next (if_pos (by rw [h1, h2, h3]; rfl))
  · exact congrArg Host.Outcome.next ((if_neg hn).trans (if_pos h))
  · exact congrArg Host.Outcome.next ((if_neg hn).trans (if_neg (ne_true_of_eq_false h)))
  · exact congrArg Host.Outcome.next (if_pos (by rw [h1, h2, h3]; rfl))
  · show execKeyExpiry s = _
    unfold execKeyExpiry
    rw [ht]
    exact congrArg Host.Outcome.next (if_pos (by rw [h1, h2, h3]; rfl))
  · exact congrArg Host.Outcome.next ((if_pos (by rw [h1, h2]; rfl)).trans (if_pos h3))
  · exact ⟨_, congrArg Host.Outcome.next (if_pos (by rw [h1, h2, h4, decide_eq_true h3]; rfl)), rfl, rfl,
      List.mem_append_right _ (List.mem_singleton_self _), fun h hm hn => health_of_released hm hn⟩
  · intro out
    refine congrArg Host.Outcome.next (if_pos ?_)
    rw [ht, h2, h3, h4, h5]
    exact h1
  · show execElectionRoundTimeout s = _
    unfold execElectionRoundTimeout
    rw [he]
    dsimp only
    rw [hv]
    exact congrArg Host.Outcome.next (if_pos h)
  · show execElectionRoundTimeout s = _
    unfold execElectionRoundTimeout
    rw [he]
    dsimp only
    rw [hv, ht]
    exact congrArg Host.Outcome.next (if_pos h)
  · subst hx
    have hnode : nodeAt (h ++ c) 16 = s.ownNode := Fin.ext h2
    exact congrArg Host.Outcome.next (if_pos (by rw [h1, h3, h4, hnode, decide_eq_true rfl]; rfl))
  · exact congrArg Host.Outcome.next ((if_pos (by rw [h1, h2, h3]; rfl)).trans (if_pos h4))
  · exact congrArg Host.Outcome.next ((if_pos (by rw [h1, h2, h3]; rfl)).trans (if_neg (ne_true_of_eq_false h4)))

end Sys2Proof.Machine
end

section
/-! SUPPORT. Layers across the fabric: the messages of the holder and of a participant (R478-R482). -/

namespace Sys2Proof.Machine

variable {s : State} {node : Node}

/-- LAYER_GO_SEND to a participant that is due a message (R479, R480). -/
theorem State.layerGoSend_due (h1 : s.fabOn = true) (h2 : s.holder = true) (h3 : s.layerParts.contains node = true)
    (h4 : s.tellDue node 1000000 = true) : exec (.layerGoSend node) s = .next (match s.layer.give with
      | some .go => if s.reported node = some lyRECOAT ∨ s.reported node = some lyIDLE then s else s.tell node 0x4A
      | some .idle => if s.reported node = some lyIDLE then s else s.tell node 0x4B
      | some .abort => if s.reported node = some lyIDLE then s else s.tell node 0x4C
      | none => s) :=
  congrArg Host.Outcome.next (if_pos (by rw [h1, h2, h3, h4]; rfl))

/-- Settles O48. Each message by its condition. -/
theorem fabricLayersComplete : Obligations.FabricLayersComplete := by
  unfold Obligations.FabricLayersComplete
  intro s node head body x gen tB code result on hold part a ok b q
  refine ⟨fun h1 h2 h3 h4 h5 h6 h7 => ?_, fun h1 h2 => ?_, fun h => ⟨?_, ?_, ?_, ?_⟩, fun h1 h2 h3 h4 => ?_,
    fun h1 h2 h3 h4 w rest hb => ?_, fun h1 h2 h3 => ?_, fun h1 h2 h3 h4 h5 => ?_,
    fun h1 h2 h3 h4 => ⟨fun hg hr hi => ?_, fun hg hi => ?_, fun hg hi => ?_⟩, fun h => ?_, fun h => ?_, fun h => ?_, ?_⟩
  · exact congrArg Host.Outcome.next (if_pos (by rw [h1, h2, h5, h6, h7, decide_eq_true ⟨h3, h4⟩]; rfl))
  · exact congrArg Host.Outcome.next ((if_pos h1).trans (if_pos h2))
  · exact congrArg Host.Outcome.next (if_neg (ne_true_of_eq_false h))
  · exact congrArg Host.Outcome.next (if_neg (ne_true_of_eq_false h))
  · exact congrArg Host.Outcome.next (if_neg (ne_true_of_eq_false h))
  · exact congrArg Host.Outcome.next (if_neg (ne_true_of_eq_false h))
  · exact congrArg Host.Outcome.next (if_pos (by rw [h1, h2, h3, (Bool.or_eq_true _ _).mpr h4]; rfl))
  · subst hb
    show execLayerStateReceive node head w rest s = _
    unfold execLayerStateReceive
    rw [List.append_assoc]
    exact congrArg Host.Outcome.next ((if_pos (by rw [h1, h2]; rfl)).trans ((if_pos h3).trans (if_pos h4)))
  · intro u ends w rest hb
    subst hb
    show execLayerStateReceive node head w rest s = _
    unfold execLayerStateReceive
    rw [List.append_assoc]
    exact congrArg Host.Outcome.next ((if_pos (by rw [h1, h2]; rfl)).trans (if_neg (ne_true_of_eq_false h3)))
  · obtain ⟨n, hn, hr⟩ := h5
    have hany : s.layerParts.any (fun n => (s.reported n).isNone) = true := List.any_eq_true.2 ⟨n, hn, by rw [hr]; rfl⟩
    exact congrArg Host.Outcome.next (if_pos (by rw [h1, h2, h3, h4, hany]; rfl))
  · rw [State.layerGoSend_due h1 h2 h3 h4, hg]
    exact congrArg Host.Outcome.next (if_neg (not_or.2 ⟨hr, hi⟩))
  · rw [State.layerGoSend_due h1 h2 h3 h4, hg]
    exact congrArg Host.Outcome.next (if_neg hi)
  · rw [State.layerGoSend_due h1 h2 h3 h4, hg]
    exact congrArg Host.Outcome.next (if_neg hi)
  · exact congrArg Host.Outcome.next (if_pos h)
  · exact congrArg Host.Outcome.next (if_pos h)
  · exact congrArg Host.Outcome.next (if_pos h)
  · intro last h1 h2 h3 h4 h5 h6
    exact congrArg Host.Outcome.next (if_pos (by rw [h1, h2, h3, decide_eq_true ⟨h4, h5⟩]; exact h6))

end Sys2Proof.Machine
end

section
/-! SUPPORT. Frames of an Ethernet port, the local bus, the event router (R490-R494, R525, R526, R529-R535). -/

namespace Sys2Proof.Machine

variable {s : State} {p : EPort} {frame : List (BitVec 8)}

/-- What a frame that is no PAUSE does once the host block is awake (R490, R497). -/
def State.ethFrameTaken (w : State) (p : EPort) (frame : List (BitVec 8)) : State := match w.frameDrop p frame with
  | some .frag => w.count (F.HOST_NET_DROP_FRAG p.val)
  | some .proto => w.count (F.HOST_NET_DROP_PROTO p.val)
  | some .err => w.count (F.HOST_NET_DROP_ERR p.val)
  | none => match w.frameVmp p frame with
    | some (o, m) => if vmpKnown m then w.send (.up p frame) else w.vmpUnknown o m
    | none => if w.framePtpBad p frame then w.ptpDrop else w.send (.up p frame)

/-- The port takes frames. -/
def State.portTakes (s : State) (p : EPort) : Prop := s.boot.cause = 0 ∧ s.ethUp p = true

theorem State.portTakes.not_down (h : s.portTakes p) : ¬(s.boot.cause ≠ 0 ∨ s.ethUp p = false) := by
  obtain ⟨h1, h2⟩ := h
  rintro (h | h)
  · exact h h1
  · exact ne_true_of_eq_false h h2

theorem State.ethFrame_pause {q : Nat} (h : s.portTakes p) (hq : s.pauseOf p frame = some q) :
    exec (.ethFrameReceive p frame) s = .next (s.pauseFor p q) := by
  show execEthFrameReceive p frame s = _
  unfold execEthFrameReceive
  rw [hq]
  exact congrArg Host.Outcome.next (if_neg h.not_down)

theorem State.ethFrame_asks (h : s.portTakes p) (hq : s.pauseOf p frame = none) :
    exec (.ethFrameReceive p frame) s = .next (s.ask 41 (.eth p frame) fun s => s.ethFrameTaken p frame) := by
  show execEthFrameReceive p frame s = _
  unfold execEthFrameReceive
  rw [hq]
  exact congrArg Host.Outcome.next (if_neg h.not_down)

/-- A frame that is no PAUSE, the host block being ON (R41). -/
theorem State.ethFrame_taken (h : s.portTakes p ∧ s.pauseOf p frame = none ∧ s.domainOn 41 = true) :
    exec (.ethFrameReceive p frame) s = .next ((s.touch 41).ethFrameTaken p frame) := by
  obtain ⟨h1, h2, h3⟩ := h
  rw [State.ethFrame_asks h1 h2, State.ask_on h3]

/-- Settles O51. Frames by what they are; each row of the local bus and of the router by its condition. -/
theorem networkAndEventsComplete : Obligations.NetworkAndEventsComplete := by
  unfold Obligations.NetworkAndEventsComplete
  intro s p frame data mac ip target ident seq len ctrl who v src pin up w recent lb taken
  refine ⟨fun q h hq => State.ethFrame_pause h hq, fun h hq hoff => ?_, fun h hd => ?_, fun h hd => ?_, fun h hd => ?_,
    fun h hd hm => ?_, fun o m h hd hm => ?_, fun h ht => ?_, fun n hn hu ha => ?_, fun h hl hr => ?_, fun h hl hr => ?_,
    fun h => ⟨?_, ?_, ?_, ?_, fun hx => ?_⟩, ⟨_, rfl, rfl, rfl, rfl⟩, fun f rest hf => ?_, rfl, fun u t h => ?_, fun t h hp => ?_⟩
  · rw [State.ethFrame_asks h hq, State.ask_off hoff]
  · rw [State.ethFrame_taken h]
    unfold State.ethFrameTaken
    rw [hd]
  · rw [State.ethFrame_taken h]
    unfold State.ethFrameTaken
    rw [hd]
  · rw [State.ethFrame_taken h]
    unfold State.ethFrameTaken
    rw [hd]
  · rw [State.ethFrame_taken h]
    unfold State.ethFrameTaken
    rw [hd, hm]
  · rw [State.ethFrame_taken h]
    unfold State.ethFrameTaken
    rw [hd, hm]
  · exact congrArg Host.Outcome.next (if_pos ⟨h.1, h.2, ht⟩)
  · show execGratuitousArp p s = _
    unfold execGratuitousArp
    rw [hn]
    exact congrArg Host.Outcome.next (if_pos (by rw [hu, decide_eq_true ha]; rfl))
  · exact congrArg Host.Outcome.next ((if_neg (State.portTakes.not_down h)).trans ((if_neg (Nat.not_lt.2 hl)).trans (if_neg (Nat.not_le.2 hr))))
  · exact congrArg Host.Outcome.next ((if_neg (State.portTakes.not_down h)).trans ((if_neg (Nat.not_lt.2 hl)).trans (if_pos hr)))
  · exact congrArg Host.Outcome.next (if_pos h)
  · exact congrArg Host.Outcome.next (if_pos h)
  · exact congrArg Host.Outcome.next (if_pos h)
  · exact ⟨_, congrArg Host.Outcome.next (if_pos h), rfl, rfl⟩
  · exact ⟨_, congrArg Host.Outcome.next (if_pos (by rw [h, Bool.true_and, Bool.not_eq_true', List.isEmpty_eq_false_iff]; exact hx)), rfl, rfl⟩
  · show execEventDelivery s = _
    unfold execEventDelivery
    rw [hf]
  · show execEvtLastDataRead who src s = _
    unfold execEvtLastDataRead
    rw [h]
  · refine ⟨{ s with pins := { s.pins with evtOut := s.pins.evtOut.set pin none } }, ?_, rfl, Vector.getElem_set_self ..⟩
    show execEvtOutPulseEnd pin s = _
    unfold execEvtOutPulseEnd
    rw [h]
    exact congrArg Host.Outcome.next (if_pos hp)

end Sys2Proof.Machine
end

section
/-! SUPPORT. Display commits and their latching, frames, pushes, the command queue, a change of timing (R592, R596-R603). -/

namespace Sys2Proof.Machine

variable {s : State} {who : Reader} {o : DOut} {v : BitVec 32}

/-- The output that a change names takes it. -/
theorem State.modDisp_same {f : DispOut → DispOut} : (s.modDisp o f).disp[o] = f s.disp[o] := vmod_same ..

/-! ### Requests of the display's domain -/

/-- A request to the display while its domain is not ON wakes it and waits (R41). -/
theorem State.display_asleep (h : ¬ s.domainOn 30 = true) : exec (.commit who o) s = .next ((s.wakeDomain 30).park (.commit who o)) ∧
    exec (.dispCmdqWrite who o v) s = .next ((s.wakeDomain 30).park (.cmdq who o v)) ∧
    exec (.tcommit who) s = .next ((s.wakeDomain 30).park (.tcommit who)) := by
  have hoff := eq_false_of_ne_true h
  exact ⟨congrArg Host.Outcome.next (State.ask_off hoff), congrArg Host.Outcome.next (State.ask_off hoff), congrArg Host.Outcome.next (State.ask_off hoff)⟩

/-- A request to the display while its domain is ON (R41). -/
theorem State.display_awake (h : s.domainOn 30 = true) : exec (.commit who o) s = .next ((s.touch 30).dispCommit o) ∧
    exec (.dispCmdqWrite who o v) s = .next ((s.touch 30).cmdqWrite o v) ∧
    exec (.tcommit who) s = .next (if s.supView who = true then (s.touch 30).timingCommit else s.touch 30) := by
  have hview : (s.touch 30).supView who = s.supView who := by cases who <;> rfl
  refine ⟨congrArg Host.Outcome.next (State.ask_on h), congrArg Host.Outcome.next (State.ask_on h), congrArg Host.Outcome.next ((State.ask_on h).trans ?_)⟩
  rw [hview]

/-! ### Commits -/

theorem State.dispCommit_ignored (h : s.dispSlave o = true ∨ (s.dispState o ≠ 3 ∧ s.flag (F.DISP_STAT_COMMIT_PEND o.val) = true)) :
    s.dispCommit o = s := by
  by_cases hs : s.dispSlave o = true
  · exact if_pos hs
  · obtain ⟨h3, hp⟩ := h.resolve_left hs
    exact (if_neg hs).trans ((if_neg h3).trans (if_pos hp))

theorem State.dispCommit_new (hs : s.dispSlave o = false) (h3 : s.dispState o ≠ 3) (hp : ¬ s.flag (F.DISP_STAT_COMMIT_PEND o.val) = true) :
    s.dispCommit o = if s.planeBad o 0 || s.planeBad o 1 || s.rectBad o then s.setFlag F.DISP_CTRL_ERR true
      else (s.setFlag (F.DISP_STAT_COMMIT_PEND o.val) true).modDisp o fun d =>
        { d with commitAt := s.now, late := s.dispVideo o && s.pastFx d.latchAt, waitTe := true, teFrom := s.now } :=
  (if_neg (ne_true_of_eq_false hs)).trans ((if_neg h3).trans (if_neg hp))

/-- A commit that is taken pends, with the instant it came at (R597, R598). -/
theorem State.dispCommit_taken (hr : tabWf regDefault s.regs = true) (hs : s.dispSlave o = false) (h3 : s.dispState o ≠ 3)
    (hp : ¬ s.flag (F.DISP_STAT_COMMIT_PEND o.val) = true) (hb : ¬ (s.planeBad o 0 = true ∨ s.planeBad o 1 = true ∨ s.rectBad o = true)) :
    ∃ t, s.dispCommit o = t ∧ t = { s with regs := t.regs, disp := t.disp } ∧ t.flag (F.DISP_STAT_COMMIT_PEND o.val) = true ∧
      t.disp[o] = { s.disp[o] with
        commitAt := s.now, late := s.dispVideo o && s.pastFx s.disp[o].latchAt, waitTe := true, teFrom := s.now } := by
  have hb' : ¬ (s.planeBad o 0 || s.planeBad o 1 || s.rectBad o) = true := by
    rw [Bool.or_eq_true, Bool.or_eq_true, or_assoc]
    exact hb
  refine ⟨_, (State.dispCommit_new hs h3 hp).trans (if_neg hb'), rfl, ?_, State.modDisp_same⟩
  exact State.flag_setFlag_same (f := F.DISP_STAT_COMMIT_PEND o.val) ⟨Nat.le_refl 16, (by decide : 16 < 32)⟩ rfl hr

/-! ### Pushes and the command queue -/

/-- TE_EDGE counts the edge, and starts a push where one waits for it (R601, R604). -/
theorem State.teEdge_cases :
    let u := s.modDisp o fun d => { d with teEdges := min 2 (d.teEdges + 1), teFrom := s.now }
    let w := u.modDisp o fun d => { d with waitTe := false }
    exec (.teEdge o) s = .next (if s.disp[o].teEn && s.flag (F.DISP_STAT_COMMIT_PEND o.val) &&
        (s.stage == 0 || decide (2 ≤ min 2 (s.disp[o].teEdges + 1))) && s.dispState o == 1 then
      if w.pushFree o then w.pushBegin o else w else u) := by
  intro u w
  have hu : u.disp[o] = { s.disp[o] with teEdges := min 2 (s.disp[o].teEdges + 1), teFrom := s.now } := State.modDisp_same
  show Host.Outcome.next (if u.disp[o].teEn && u.flag (F.DISP_STAT_COMMIT_PEND o.val) && (u.stage == 0 || decide (2 ≤ u.disp[o].teEdges)) &&
    u.dispState o == 1 then if w.pushFree o then w.pushBegin o else w else u) = _
  rw [hu]
  rfl

/-- The queue of an idle bus is sent under its own CSn low period (R602). -/
theorem State.cmdqSend_sends (h1 : s.busIdle o = true) (h2 : s.disp[o].cmdq ≠ []) (h3 : ¬ s.flag (F.DISP_STAT_COMMIT_PEND o.val) = true)
    (h4 : s.flag F.DISP_CTRL_TPEND = false) :
    ∃ t, exec (.cmdqSend o) s = .next t ∧ t = { s with disp := t.disp, out := t.out } ∧
      t.out = s.out ++ [.panel o (s.disp[o].cmdq.map fun e => (e.1, e.2.setWidth 16))] ∧
      t.disp[o] = { s.disp[o] with
        cmdq := [], queueEnd := s.now + s.disp[o].cmdq.length * s.disp[o].tb 6 9 0,
        bus := s.disp[o].cmdq.map fun e => (e.1, e.2.setWidth 16), busAt := s.now } := by
  refine ⟨_, congrArg Host.Outcome.next (if_pos ?_), rfl, rfl, State.modDisp_same.trans ?_⟩
  · rw [h1, h4, eq_false_of_ne_true h3, List.isEmpty_eq_false_iff.2 h2]
    rfl
  · rw [List.length_map]

/-! ### A change of timing -/

/-- TIMING_APPLIED once both outputs stand still (R603). -/
theorem State.timingApplied_still :
    let u := s.blankDue
    let still (o : DOut) := u.dispState o = 0 ∨ u.dispState o = 2
    u.flag F.DISP_CTRL_TPEND = true → still 0 → still 1 →
    let w := (((u.takeTiming 0).takeTiming 1).modDisp 0 fun d => { d with slow := false }).modDisp 1 fun d => { d with slow := false }
    let y := (w.setFlag F.DISP_CTRL_LOCK_ACT (w.flag F.DISP_CTRL_LOCK)).setFlag F.DISP_CTRL_TPEND false
    exec .timingApplied s = .next ((y.dispEvent 0 5).dispEvent 1 5) := by
  intro u still hp h0 h1 w y
  have hst (o : DOut) (h : still o) : (u.dispState o == 0 || u.dispState o == 2) = true :=
    (Bool.or_eq_true _ _).mpr (h.imp beq_iff_eq.2 beq_iff_eq.2)
  exact congrArg Host.Outcome.next (if_pos (by rw [hp, hst 0 h0, hst 1 h1]; rfl))

/-- Settles O54. Each command and happening of the display by its condition. -/
theorem displayComplete : Obligations.DisplayComplete := by
  unfold Obligations.DisplayComplete
  intro s who o v hs n d pend st tpend ready w
  refine ⟨State.display_asleep, fun hon h => ?_, fun hon h h3 hp => ?_, fun hon h h3 => ?_, fun x h1 h2 h3 h4 h5 h6 => ?_, fun h1 h2 => ?_,
    fun h => congrArg Host.Outcome.next (if_pos h), fun t h1 h2 h3 h4 => ?_, fun h1 h2 => ?_, ?_, fun h1 h2 h3 h4 h5 h6 => ?_, fun h1 h2 => ?_,
    fun hon h => ?_, fun hon h => ?_, State.cmdqSend_sends, fun hon h => ?_, fun hon h h2 => ?_, fun hon h h2 h3 => ?_, State.timingApplied_still⟩
  · obtain ⟨hc, -, -⟩ := State.display_awake (who := who) (o := o) (v := v) hon
    exact hc.trans (congrArg Host.Outcome.next (State.dispCommit_ignored (s := s.touch 30) h))
  · obtain ⟨hc, -, -⟩ := State.display_awake (who := who) (o := o) (v := v) hon
    intro bad
    refine ⟨fun hb => ?_, fun hb => ?_⟩
    · refine hc.trans (congrArg Host.Outcome.next ((State.dispCommit_new (s := s.touch 30) h h3 hp).trans (if_pos ?_)))
      rw [Bool.or_eq_true, Bool.or_eq_true, or_assoc]
      exact hb
    · obtain ⟨t, ht, hx⟩ := State.dispCommit_taken (s := s.touch 30) hs.1 h h3 hp hb
      exact ⟨t, hc.trans (congrArg Host.Outcome.next ht), hx⟩
  · obtain ⟨hc, -, -⟩ := State.display_awake (who := who) (o := o) (v := v) hon
    exact ⟨_, hc.trans (congrArg Host.Outcome.next ((if_neg (ne_true_of_eq_false h)).trans (if_pos h3))), rfl, State.modDisp_same⟩
  · intro u
    refine congrArg Host.Outcome.next (if_pos ?_)
    rw [h1, h2, h3, h4, h5]
    exact decide_eq_true h6
  · intro gen k u
    refine congrArg Host.Outcome.next ((if_pos ⟨h1, h2⟩).trans ?_)
    show (if (!d.reported) = true then u.dispEvent o 4 else u) = if d.reported = true then u else u.dispEvent o 4
    cases d.reported <;> rfl
  · show execDisplayFrameStart o s = _
    unfold execDisplayFrameStart
    rw [h2]
    exact congrArg Host.Outcome.next ((if_neg (ne_true_of_eq_false h1)).trans (if_pos (by rw [h3, h4]; rfl)))
  · refine congrArg Host.Outcome.next (if_pos ?_)
    rw [h1, Bool.true_and, Bool.not_eq_true', Bool.and_eq_false_iff]
    exact h2
  · intro u w takes
    have hcond (ht : takes) : (d.teEn && s.flag (F.DISP_STAT_COMMIT_PEND n) && (s.stage == 0 || decide (2 ≤ min 2 (d.teEdges + 1))) &&
        s.dispState o == 1) = true := by
      obtain ⟨h1, h2, h3, h4⟩ := ht
      simp only [Bool.and_eq_true, Bool.or_eq_true, beq_iff_eq, decide_eq_true_eq]
      exact ⟨⟨⟨h1, h2⟩, h4⟩, h3⟩
    refine ⟨fun ht hf => ?_, fun ht hf => ?_, fun ht => ?_⟩
    · exact State.teEdge_cases.trans (congrArg Host.Outcome.next ((if_pos (hcond ht)).trans (if_pos hf)))
    · exact State.teEdge_cases.trans (congrArg Host.Outcome.next ((if_pos (hcond ht)).trans (if_neg (ne_true_of_eq_false hf))))
    · refine State.teEdge_cases.trans (congrArg Host.Outcome.next (if_neg ?_))
      change d.teEn = false at ht
      show ¬ (d.teEn && _ && _ && _) = true
      rw [ht, Bool.false_and, Bool.false_and, Bool.false_and]
      exact Bool.false_ne_true
  · exact congrArg Host.Outcome.next (if_pos ⟨h1, h2, h3, h4, h5, h6⟩)
  · exact congrArg Host.Outcome.next (if_pos ⟨h1, h2⟩)
  · obtain ⟨-, hc, -⟩ := State.display_awake (who := who) (o := o) (v := v) hon
    exact ⟨_, hc.trans (congrArg Host.Outcome.next (if_neg (Nat.not_le.2 h))), rfl, State.modDisp_same⟩
  · obtain ⟨-, hc, -⟩ := State.display_awake (who := who) (o := o) (v := v) hon
    exact hc.trans (congrArg Host.Outcome.next (if_pos h))
  · obtain ⟨-, -, hc⟩ := State.display_awake (who := who) (o := o) (v := v) hon
    exact hc.trans (congrArg Host.Outcome.next (if_neg (ne_true_of_eq_false h)))
  · obtain ⟨-, -, hc⟩ := State.display_awake (who := who) (o := o) (v := v) hon
    exact hc.trans (congrArg Host.Outcome.next ((if_pos h).trans (if_pos ((Bool.or_eq_true _ _).mpr h2))))
  · obtain ⟨-, -, hc⟩ := State.display_awake (who := who) (o := o) (v := v) hon
    exact hc.trans (congrArg Host.Outcome.next ((if_pos h).trans (if_neg (by
      show ¬ (s.flag F.DISP_CTRL_TPEND || s.timingBad) = true
      rw [Bool.or_eq_true]
      rintro (hx | hx)
      · exact ne_true_of_eq_false h2 hx
      · exact ne_true_of_eq_false h3 hx))))

end Sys2Proof.Machine
end
